-- ==== Sys2Proof/Word.lean ====
section
/-! DEFINITION. The word types of the model. -/

namespace Sys2Proof

/-- One byte of a stack, a buffer or a page. -/
abbrev Byte := BitVec 8

/-- The 64-bit code word of a stack (R315). -/
abbrev Word64 := BitVec 64

/-- A 32 B burst, the smallest access of a stack port (Table 3.1). -/
abbrev Burst := BitVec 256

end Sys2Proof
end

