-- ==== Sys2Proof/Syntax.lean ====
section
/-! DEFINITION. The commands of the block: one constructor of `Instr` for each row of spec/opcode_table.json, with the
operands the row's step needs. What Dweten does not itself compute (a pin level, an analog reading, the outcome of an
eye measurement, what a stack or the flash device reports) is an operand of the command that brings it in. -/

namespace Sys2Proof

/-- One beat of a request data lane with its sideband (R11, R15). -/
structure Beat where
  data : BitVec 2048
  dvld : BitVec 8
  dmask : BitVec 256
  dstain : BitVec 8
  dpar : BitVec 32
deriving DecidableEq, Repr

/-- NT_TOD, NT_LOCK and NT_VALID as sampled in a REF_CLK cycle (Table 1.1). -/
structure NetTime where
  tod : Nat
  lock : Bool
  valid : Bool
deriving DecidableEq, Repr

/-- What discovery reports of a stack over IEEE 1500: the row of Table 2.2 (1-7, 0 an unsupported geometry), the rate
code of STKCFG_s (R79; 4 = below 6.4 Gb/s), its identifier, spare lanes of each pseudo-channel, WVREF step in 0.1 mV,
and spare rows of each bank. -/
structure Discovery where
  stype : Nat
  rate : Nat
  serial : Nat
  spares : Nat
  wstep : Nat
  spareRows : Nat
deriving DecidableEq, Repr

/-- One pass over one lane in one direction (R358, R359): the centre, the edges and the sizes, or NOT_FOUND. -/
structure PassRes where
  nf : Bool
  dly : Nat
  vref : Nat
  ew : Nat
  eh : Nat
  left : Nat
  right : Nat
  lo : Nat
  hi : Nat
deriving DecidableEq, Repr

/-- The two passes over a lane and the two of its second measurement (R360, R361). `verify` is given for a lane that
mismatched in power-up verification: its two edge passes, and whether it mismatched again (R366). -/
structure LaneMeas where
  lane : Nat
  tx : Bool
  first : PassRes
  second : PassRes
  retryFirst : PassRes
  retrySecond : PassRes
  verify : Option (PassRes × PassRes × Bool)
deriving DecidableEq, Repr

/-- The WVREF passes of one pseudo-channel (R358, R360). -/
structure WvrefMeas where
  first : Nat
  second : Nat
  retryFirst : Nat
  retrySecond : Nat
deriving DecidableEq, Repr

/-- What a channel's training or retraining measured. -/
structure ChanMeas where
  chan : Nat
  lanes : List LaneMeas
  wv0 : WvrefMeas
  wv1 : WvrefMeas
deriving DecidableEq, Repr

/-- A firmware slot as the boot ROM reads it (Table 16.8). `sized` says that MAGIC, TOTAL and LOADLEN agree with the
table, and `signed` that the key digest, its fuse and the signature pass (R503). -/
structure Slot where
  sized : Bool
  signed : Bool
  iver : Nat
  svn : Nat
  raise : Bool
  loadlen : Nat
  caps : Nat
  gens : Nat
  seq : Nat
  commit : Bool
  revoked : Bool
deriving DecidableEq, Repr

/-- One repair-map entry (Table 11.13). -/
structure MapEntry where
  kind : Nat
  stack : Nat
  channel : Nat
  pc : Nat
  sid3 : Nat
  alt : Bool
  bank : Nat
  lane : Nat
  row : Nat
  time : Nat
  cause : Nat
  spare : Nat
  /-- Bits that this manual reserves, kept as they are read (R511): bytes 14 and 15, then PCX[7:4]. -/
  extra : Nat := 0
deriving DecidableEq, Repr

/-- A record slot of the calibration area as it reads (Table 12.10): the bytes of its header, the payload bytes that LEN names, the
CRC word behind them and the commit word. -/
structure RecSlot where
  header : List Nat
  payload : List Nat
  crc : Nat
  commit : Nat
deriving DecidableEq, Repr

/-- What the quad-SPI device holds and reports (R46, R384, Tables 12.9 and 16.8): its SFDP answer, size and erase
sizes, the two firmware slots, and slots A and B of the factory trim, the repair map and the baseline training record. -/
structure FlashDev where
  answers : Bool
  sizeMiB : Nat
  eraseOk : Bool
  slotA : Slot
  slotB : Slot
  minSvn : Nat
  trimA : RecSlot
  trimB : RecSlot
  mapA : RecSlot
  mapB : RecSlot
  baseA : RecSlot
  baseB : RecSlot
deriving DecidableEq, Repr

/-- A housekeeping round's conversions (R393, Table 1.7): signed readings of the 64 channels, none where a diode pin
is open or shorted or the conversion did not complete; the sixteen IEEE 1500 readouts; and THR_ACK. -/
structure Round where
  adc : List (Option Int)
  readout : List (Option Int)
  thrAck : BitVec 3
  aonError : Int
deriving DecidableEq, Repr

/-- One command of the block. -/
inductive Instr
  -- fabric and Felt ports
  | rd (p : Fin 128) (h : BitVec 128)
  | wr (p : Fin 128) (h : BitVec 128) (d : List Beat)
  | wrm (p : Fin 128) (h : BitVec 128) (d : List Beat)
  | accu (p : Fin 128) (h : BitVec 128) (d : List Beat)
  | acco (p : Fin 128) (h : BitVec 128) (d : List Beat)
  | gath (p : Fin 128) (h : BitVec 128)
  | mark (p : Fin 128) (h : BitVec 128) (d : List Beat)
  | fence (p : Fin 128) (h : BitVec 128)
  | feltSpill (f : Fin 2) (h : BitVec 128) (d : List Beat)
  | feltFillAck (f : Fin 2) (tag : Fin 1024) (ok : Bool)
  | feltFillAckTimeout (f : Fin 2) (tag : Fin 1024)
  | responseCreditReturn (p : Fin 138) (hdrs beats : Nat)
  | responseBeatSend (p : Fin 138)
  | urgLevelChange (p : Fin 128) (lvl : Fin 4)
  -- feeder ports
  | fdGo (f : Fin 8) (slot : Fin 8)
  | feederPageReadIssue (f : Fin 8)
  | feederBeat (f : Fin 8) (rdy : BitVec 4)
  | feederStallTimeout (f : Fin 8)
  -- port edge
  | portWatchdogExpiry (p : Fin 138)
  | portEdgeResetRelease (p : Fin 138)
  -- stack ingress arbiter
  | partGrant (k : Fin 16)
  | grantComplete (k : Fin 16)
  | lakeHoldTimeout (k : Fin 16)
  | urgencyCrossing (k : Fin 16)
  | deadlineSweep (k : Fin 16)
  -- leaf scheduling
  | columnRun (l : Fin 1024)
  | rowCommand (c : Fin 512)
  | idleClose (l : Fin 1024)
  | directionTurn (l : Fin 1024)
  | budgetWindow (k : Fin 16)
  | readDataArrival (l : Fin 1024) (flips : List (BitVec 72))
  -- refresh and row protection
  | refreshTick (l : Fin 1024)
  | refpbIssue (c : Fin 512)
  | rowCounterAgeing (k : Fin 16)
  | mitigation (l : Fin 1024)
  | spillSweep (l : Fin 1024)
  | spillSweepForce (l : Fin 1024)
  -- maintenance, calibration, scrub and repair
  | maintenanceStart (l : Fin 1024) (act : Fin 8)
  | maintenanceEnd (l : Fin 1024) (act : Fin 8)
  | retrainStep (c : Fin 512)
  | retrainStepAbandon (c : Fin 512)
  | retrainDone (c : Fin 512) (m : ChanMeas)
  | calibrationApply (c : Fin 512)
  | marginEvaluation (c : Fin 512) (lane : Fin 80) (mismatch : Bool)
  | loadWindow (k : Fin 16)
  | calenderVisit (l : Fin 1024) (flips : List (BitVec 72))
  | calenderEscalate (l : Fin 1024)
  | heal (l : Fin 1024) (flips : List (BitVec 72))
  | rowRepair (l : Fin 1024) (flips : List (BitVec 72)) (spare : Fin 256)
  | laneRepair (c : Fin 512) (spare : Option (Fin 4))
  | repairMapStore
  | nvRecordStore (first second : Bool)
  -- Lake
  | mergeEntryTimeout (l : Fin 1024)
  | accuUpdate (k : Fin 16)
  | accoTileRetire (k : Fin 16)
  | accoTileTimeout (k : Fin 16)
  | watermarkClose (a : Fin 16)
  -- shaping
  | markerRefill (half : Fin 2) (t : Fin 512)
  | debtCharge
  | gateRelease (q : Fin 1024)
  | drrRelease (stage : Fin 1088)
  -- power and heat
  | powerLadderStep
  | housekeepingRound (r : Round)
  | thermalRestart (k : Fin 16)
  | droop (k : Fin 16)
  | droopLong (k : Fin 16)
  -- sleep and clocks
  | quirePark (q : Fin 1024)
  | selfRefreshEntry (c : Fin 512)
  | domainGateOff (k : Fin 16)
  | domainPowerGood (k : Fin 16)
  | pllLocked (k : Fin 16)
  | pllLockLoss (k : Fin 16) (relockFailed : Bool)
  | refClkLoss
  | refClkRestored
  | ntLockLoss
  | frequencySwitchEnd (k : Fin 16)
  | regulatorAck (k : Fin 16)
  | regulatorAckTimeout (k : Fin 16)
  | rollbackAckTimeout (k : Fin 16)
  -- sheets and quires
  | sheetBoundary (nt : NetTime)
  | quireDrainEnd (q : Fin 1024)
  | zeroFillEnd (q : Fin 1024)
  -- mailbox service and hosts
  | mbCmdTailWrite (page : Fin 521) (src : Fin 16) (v : BitVec 32)
  | mbCplHeadWrite (page : Fin 521) (src : Fin 16) (v : BitVec 32)
  | mbLeaseWrite (h : Fin 8) (src : Fin 16)
  | heartbeatTimeout (h : Fin 8)
  | hostLinkDown (h : Fin 8)
  | hostLinkUp (h : Fin 8)
  | leaseExpiry (h : Fin 8)
  -- reset and bring-up
  | handoverTimeout
  | mordantWatchdogExpiry
  | trialEnd
  | criticalStateError (aonSequencer : Bool)
  | powerOnReset
  | powerOnRelease (dev : FlashDev)
  | chipWarmReset
  | coreResetRelease
  | stackPowerEnable (k : Fin 16)
  | stackPowerGood (k : Fin 16) (disc : Discovery)
  | stackPgTimeout (k : Fin 16)
  | stackPgFall (k : Fin 16)
  | stackOvercurrent (pair : Fin 8)
  | pairFaultRecovery (pair : Fin 8)
  | stackTraining (k : Fin 16) (m : List ChanMeas) (hardFails : List Nat)
  | importWaitEnd
  | quickCheck (k : Fin 16) (laneFailed : Bool) (badSpares hardFails : List Nat)
  | initialFill (l : Fin 1024)
  | dwReadyRise
  | blockResetDrainEnd (b : Fin 22)
  | blockReturnToService (b : Fin 22)
  -- debug and records
  | debugStop
  | debugStopEnd
  | recordMove
  | gapRecordWrite (ring : Fin 3)
  | portWindowStart
  | sampleTaken (u : Fin 16)
  | sampleTimeout (u : Fin 16)
  | apertureReady
  | scanDone
  -- mailbox commands, each the command at the head of the named page's ring
  | open_ (page : Fin 521)
  | close (page : Fin 521)
  | commit (page : Fin 521)
  | discard (page : Fin 521)
  | stateRead (page : Fin 521)
  | qalloc (page : Fin 521)
  | qjoin (page : Fin 521)
  | wunmap (page : Fin 521)
  | qrelease (page : Fin 521)
  | regionSet (page : Fin 521)
  | tintSet (page : Fin 521)
  | portSet (page : Fin 521)
  | affinityReset (page : Fin 521)
  | policerSet (page : Fin 521)
  | gateSet (page : Fin 521)
  | profileLoad (page : Fin 521)
  | schedSet (page : Fin 521)
  | sheetSet (page : Fin 521)
  | skewSet (page : Fin 521)
  | lakeSet (page : Fin 521)
  | feederPortSet (page : Fin 521)
  | feederSlotSet (page : Fin 521)
  | doorbellSet (page : Fin 521)
  | wmArm (page : Fin 521)
  | dumpFree (page : Fin 521)
  | maintSet (page : Fin 521)
  | maintReqScrub (page : Fin 521)
  | maintReqHeal (page : Fin 521)
  | maintReqRepairRow (page : Fin 521)
  | maintReqRepairLane (page : Fin 521)
  | maintReqCapture (page : Fin 521)
  | repairPromote (page : Fin 521)
  | repairCompact (page : Fin 521)
  | repairClearStack (page : Fin 521)
  | repairReserial (page : Fin 521)
  | repairRead (page : Fin 521)
  | powerSet (page : Fin 521)
  | oppointSet (page : Fin 521)
  | thermalSet (page : Fin 521)
  | thermalRelease (page : Fin 521)
  | stackFence (page : Fin 521)
  | stackFenceClear (page : Fin 521)
  | calibSet (page : Fin 521)
  | calExport (page : Fin 521)
  | calImport (page : Fin 521)
  | calRetrain (page : Fin 521)
  | calBaseline (page : Fin 521)
  | hostSet (page : Fin 521)
  | tenantAssign (page : Fin 521)
  | ownerHandover (page : Fin 521)
  | ownerAccept (page : Fin 521)
  | adopt (page : Fin 521)
  | cntAllowUmap (page : Fin 521)
  | cntRevokeUmap (page : Fin 521)
  | cntArmSampling (page : Fin 521)
  | cntDisarmSampling (page : Fin 521)
  | energyRead (page : Fin 521)
  | subscribeAdd (page : Fin 521)
  | subscribeRemove (page : Fin 521)
  | fwStage (page : Fin 521) (signed : Bool)
  | fwActivate (page : Fin 521)
  | faultInjectFlipOne (page : Fin 521)
  | faultInjectFlipTwo (page : Fin 521)
  | faultInjectStain (page : Fin 521)
  | faultInjectTempOffset (page : Fin 521)
  | faultInjectWithholdAck (page : Fin 521)
  | faultInjectHeaderParity (page : Fin 521)
  | faultInjectHostLost (page : Fin 521)
  | dbgIssueCode (page : Fin 521)
  | dbgGrantRights (page : Fin 521)
  | dbgRevokeRights (page : Fin 521)
  | dbgUnlock (page : Fin 521)
  | dbgResume (page : Fin 521)
  -- registers
  | swrstStack (src : Fin 16) (v : BitVec 32)
  | swrstLake (src : Fin 16) (v : BitVec 32)
  | swrstXbar (src : Fin 16) (v : BitVec 32)
  | swrstMordant (src : Fin 16) (v : BitVec 32)
  | swrstTrace (src : Fin 16) (v : BitVec 32)
  | hostrstCore (src : Fin 16) (v : BitVec 32)
  | tbSnap (src : Fin 16) (v : BitVec 32)
  | ringRdWrite (ring : Fin 3) (src : Fin 16) (v : BitVec 32)
  | ringApSelWrite (src : Fin 16) (v : BitVec 32)
  | scanCtlStart (src : Fin 16) (v : BitVec 32)
  | registerWrite (src : Fin 16) (off : BitVec 25) (v : BitVec 32)
  | caParityError (c : Fin 512)
  | droopEnd (k : Fin 16) (cycles : Fin 65)
  | timebaseErrorLimit (nt : NetTime)
  | loWordRead (src : Fin 16) (off : BitVec 25)
deriving DecidableEq, Repr

end Sys2Proof
end

