-- ==== Sys2Proof/Decode.lean ====
section
/-! DEFINITION. Table words: the opcode table gives bits to no row, so no word spells a command. -/

namespace Sys2Proof

def decodeTableWord (_nbits _w : Nat) : Option Instr := none

end Sys2Proof
end

