-- ==== Sys2Proof/Config.lean ====
section
/-! DEFINITION. What the manual leaves to the device: free values, none of which has a body, so that no statement can
rest on a value of them. -/

namespace Sys2Proof.Config

/-- DW_REV [15:0], MAJOR and MINOR, "per silicon" (Table 18.4). -/
opaque siliconRev : BitVec 16

/-- A fresh 64-bit value: an unlock code (R486) or a word of a scan image (R549). Applied to the model's counter. -/
opaque freeWord : Nat → BitVec 64

/-- 32-bit words of a scan image (R549), by the scan's counter and the word's number: the bit order of an image is that of
a scan map outside the manual. -/
opaque scanWord : Nat → Nat → BitVec 32

/-- Energy coefficients in pJ and background powers in pJ per us, by stack type, operating point and row of Table 13.4:
each device uses those of its own factory trim record. -/
opaque energy : Nat → Nat → Nat → Nat

/-- Factory coefficients of the PHY's bias trim of a channel (R416), per 1/8 degree C: 1/1024 of a delay tap and of a Vref step. -/
opaque biasTrim : Nat → Int × Int

/-- A completion's result where the manual states no result for the operands: applied to the model's counter. -/
opaque freeNat : Nat → Nat

end Sys2Proof.Config
end

