-- ==== Sys2Proof/Machine/Address.lean ====
section
/-! DEFINITION. Leaf geometry (Table 2.2), quire membership and the fixed mapping from a quire-relative address to a
leaf, a bank, a row and a column (R50, R53, R54, R55). -/

namespace Sys2Proof.Machine

/-- One row of Table 2.2. -/
structure Geom where
  leaves : Nat
  sids : Nat
  rows : Nat
  width : Nat
  hbm4 : Bool
deriving DecidableEq, Repr

/-- Table 2.2 by stack type code: 0 no trainable stack; 1-4 the HBM4 rows, 5-7 the HBM3E-class rows. -/
def geomOf (ty : Nat) : Geom :=
  match ty with
  | 1 => ⟨64, 4, 16384, 30, true⟩
  | 2 => ⟨64, 4, 12288, 30, true⟩
  | 3 => ⟨64, 3, 16384, 30, true⟩
  | 4 => ⟨64, 3, 12288, 30, true⟩
  | 5 => ⟨32, 2, 24576, 30, false⟩
  | 6 => ⟨32, 3, 24576, 31, false⟩
  | 7 => ⟨32, 4, 24576, 31, false⟩
  | _ => ⟨0, 0, 0, 0, false⟩

/-- Banks of a leaf, the issued bank indexes of R55 (with the stack ID): 16 for each stack ID. -/
def Geom.banks (g : Geom) : Nat := 16 * g.sids

/-- Leaf capacity C in bytes: 1 KiB x 16 banks x S x rows (Table 2.2). -/
def Geom.capacity (g : Geom) : Nat := 1024 * 16 * g.sids * g.rows

/-- Channels a port of this type uses (Table 3.1). -/
def Geom.channels (g : Geom) : Nat := g.leaves / 2

/-- Member i of quire (base, k) on stacks with L leaves each. -/
def member (base k i L : Nat) : Nat :=
  let lb := if L = 64 then 6 else 5
  if k ≤ lb then base + i
  else (base / 64 + i / 2 ^ lb) * 64 + i % L

/-- All members of a quire. -/
def members (base k L : Nat) : List Nat := (List.range (2 ^ k)).map (fun i => member base k i L)

/-- A location in a leaf (R54, R55). `bank` is the issued bank index with the stack ID above it where S is 2 or 4,
and `sid3` the stack ID where S is 3. -/
structure Loc where
  bank : Nat
  sid3 : Nat
  row : Nat
  col : Nat
deriving DecidableEq, Repr

/-- Leaf-local address to location (R54, R55, Table 2.3). -/
def locOf (g : Geom) (la : Nat) : Loc :=
  let col := la / 32 % 32
  let bgb := la / 1024 % 16
  if g.sids = 3 then
    let t := la / 2 ^ 14
    let row := t % g.rows
    ⟨bgb ^^^ (row % 16), t / g.rows, row, col⟩
  else
    let sb := if g.sids = 4 then 2 else 1
    let sid := la / 2 ^ 14 % 2 ^ sb
    let row := la / 2 ^ (14 + sb)
    ⟨(sid * 16 + bgb) ^^^ (row % 2 ^ (4 + sb)), 0, row, col⟩

/-- Location to leaf-local address of its burst: the inverse of `locOf`. -/
def laOf (g : Geom) (b : Loc) : Nat :=
  if g.sids = 3 then
    (b.sid3 * g.rows + b.row) * 2 ^ 14 + (b.bank ^^^ (b.row % 16)) * 1024 + b.col * 32
  else
    let sb := if g.sids = 4 then 2 else 1
    let idx := b.bank ^^^ (b.row % 2 ^ (4 + sb))
    b.row * 2 ^ (14 + sb) + (idx / 16) * 2 ^ 14 + (idx % 16) * 1024 + b.col * 32

/-- One flat number per bank of a leaf, stack ID included, 0 .. 16 S - 1. -/
def Loc.flat (b : Loc) : Nat := b.sid3 * 16 + b.bank

/-- Bank group of an issued bank index: bits [1:0]. -/
def Loc.group (b : Loc) : Nat := b.bank % 4

/-- Member index of a quire-relative address (R53). -/
def memberIndex (a k : Nat) : Nat := ((a / 256) ^^^ (a / 2 ^ 20)) % 2 ^ k

/-- Leaf of a quire-relative address (R53). -/
def leafOf (a base k L : Nat) : Nat := member base k (memberIndex a k) L

/-- Leaf-local address of a quire-relative address (R53): the k interleave bits removed. -/
def leafLocal (a k : Nat) : Nat := a / 2 ^ (8 + k) * 256 + a % 256

/-- Quire-relative address of a leaf-local address of member i: the inverse of R53. The interleave bits of A are i
XOR A[20+k-1:20], and those higher bits come from LA. -/
def quireRel (la i k : Nat) : Nat :=
  let hi := la / 256
  -- A = hi << (8+k) | il << 8 | la[7:0], il = i XOR A[20+k-1:20]
  let go := (List.range 11).foldl (fun il _ =>
      let a := hi * 2 ^ (8 + k) + il * 256
      (i ^^^ (a / 2 ^ 20)) % 2 ^ k) 0
  hi * 2 ^ (8 + k) + go * 256 + la % 256

/-- Stack of a leaf. -/
def stackOf (leaf : Nat) : Nat := leaf / 64

/-- Channel of a leaf, numbered over the package: stack x 32 + channel. -/
def channelOf (leaf : Nat) : Nat := leaf / 2

/-- Half of a stack: stacks 0-7 on half A (0), 8-15 on half B (1). -/
def halfOf (stack : Nat) : Nat := stack / 8

end Sys2Proof.Machine
end

