-- ==== Sys2Proof/Machine/CheckCode.lean ====
section
/-! DEFINITION. The check code of a stored word and its decode classes (R315-R319, Table 11.2). -/

namespace Sys2Proof.Machine

/-- Number of bits set in an 8-bit value. -/
def weight8 (n : Nat) : Nat := (List.range 8).foldl (fun c i => c + n / 2 ^ i % 2) 0

/-- The 64 data columns: the 56 values of weight 3 in ascending order, then the first eight of weight 5 (R315). -/
def dataColumns : List Nat :=
  (List.range 256).filter (fun n => weight8 n == 3) ++ ((List.range 256).filter (fun n => weight8 n == 5)).take 8

/-- All 72 columns: the data bits, then check bit j with column 1 << j (R315). -/
def columns : List Nat := dataColumns ++ (List.range 8).map (fun j => 2 ^ j)

/-- H(d): the XOR of the columns of every data bit of d that is 1 (R315). -/
def hashWord (d : Word64) : Nat :=
  (dataColumns.zipIdx).foldl (fun h (c, i) => if d.getLsbD i then h ^^^ c else h) 0

/-- Stored check byte of a word: H(d) XOR 0xFF, or H(d) XOR 0x3F when stained (R315, R319). -/
def checkByte (d : Word64) (stain : Bool) : Byte :=
  BitVec.ofNat 8 (hashWord d ^^^ (if stain then 0x3F else 0xFF))

/-- Syndrome of a stored word (R317). -/
def syndrome (d : Word64) (c : Byte) : Nat := c.toNat ^^^ 0xFF ^^^ hashWord d

/-- Decode class of Table 11.2; a CE names the column index of its bit, 0-71. -/
inductive Decoded
  | clean
  | ce (bit : Nat)
  | stained
  | ue
deriving DecidableEq, Repr

/-- Class of a syndrome, in the order of Table 11.2. -/
def classify (s : Nat) : Decoded :=
  if s = 0 then .clean
  else match columns.findIdx? (fun c => c == s) with
    | some b => .ce b
    | none => if s = 0xC0 then .stained else .ue

/-- A word as a read delivers it: its class, the delivered data and its stain (R317). -/
structure ReadWord where
  cls : Decoded
  data : Word64
  stain : Bool
  synd : Nat
deriving DecidableEq, Repr

/-- Decode one stored word (R317, Table 11.2). -/
def decodeWord (d : Word64) (c : Byte) : ReadWord :=
  let s := syndrome d c
  let cls := classify s
  match cls with
  | .clean => ⟨cls, d, false, s⟩
  | .ce b => ⟨cls, if b < 64 then d ^^^ BitVec.ofNat 64 (2 ^ b) else d, false, s⟩
  | .stained => ⟨cls, d, true, s⟩
  | .ue => ⟨cls, d, true, s⟩

/-- Lane of a corrected bit, by R316 and R349: data bit i on DQ[i mod 32], check bit j on CB[j mod 4] (lanes 32-35). -/
def laneOfBit (b : Nat) : Nat := if b < 64 then b % 32 else 32 + (b - 64) % 4

end Sys2Proof.Machine
end

