-- ==== Sys2Proof/Machine/Format.lean ====
section
/-! DEFINITION. Element formats, rounding, the stochastic generator, the MX block encoder and the stored page layout
(R246-R264, Tables 2.11, 9.1-9.5). Every value is an exact dyadic number until it is encoded. -/

namespace Sys2Proof.Machine

/-- An exact value: man x 2^exp with a sign, an infinity or a NaN. -/
inductive Dyad
  | fin (neg : Bool) (man : Nat) (exp : Int)
  | inf (neg : Bool)
  | nan
deriving DecidableEq, Repr

/-- Positive zero. -/
def Dyad.zero : Dyad := .fin false 0 0

/-- Whether a value is a finite non-zero one. -/
def Dyad.nonzero : Dyad → Bool
  | .fin _ m _ => m != 0
  | _ => true

/-- Columns of Table 9.2: exponent and mantissa bits, bias, has Inf, has NaN, largest finite code, NaN code, emax. -/
structure Fmt where
  width : Nat
  mbits : Nat
  bias : Nat
  hasInf : Bool
  hasNan : Bool
  maxCode : Nat
  nanCode : Nat
  emax : Nat
  isInt : Bool
deriving DecidableEq, Repr

/-- Table 9.2 by format code (Table 2.11); RAW and the reserved codes give a width of 0. -/
def fmtOf (c : Nat) : Fmt :=
  match c with
  | 1 => ⟨32, 23, 127, true, true, 0x7F7FFFFF, 0x7FC00000, 127, false⟩
  | 2 => ⟨16, 7, 127, true, true, 0x7F7F, 0x7FC0, 127, false⟩
  | 3 => ⟨16, 10, 15, true, true, 0x7BFF, 0x7E00, 15, false⟩
  | 4 => ⟨8, 3, 7, false, true, 0x7E, 0x7F, 8, false⟩
  | 5 => ⟨8, 2, 15, true, true, 0x7B, 0x7E, 15, false⟩
  | 6 => ⟨6, 2, 3, false, false, 0x1F, 0, 4, false⟩
  | 7 => ⟨4, 1, 1, false, false, 0x7, 0, 2, false⟩
  | 8 => ⟨8, 0, 0, false, false, 127, 0, 0, true⟩
  | _ => ⟨0, 0, 0, false, false, 0, 0, 0, false⟩

/-- Whether a code is one of the MX formats 0x4-0x8. -/
def isMx (c : Nat) : Bool := decide (4 ≤ c) && decide (c ≤ 8)

/-- Decode one element (Table 9.2, R246, R248). -/
def decodeElem (c bits : Nat) : Dyad :=
  let f := fmtOf c
  if f.isInt then
    if bits < 128 then .fin false bits (-6) else .fin true (256 - bits) (-6)
  else
    let neg := bits / 2 ^ (f.width - 1) % 2 == 1
    let mag := bits % 2 ^ (f.width - 1)
    let e := mag / 2 ^ f.mbits
    let m := mag % 2 ^ f.mbits
    let top := 2 ^ (f.width - 1 - f.mbits) - 1
    if f.hasInf && e == top then (if m = 0 then .inf neg else .nan)
    else if f.hasNan && !f.hasInf && mag == f.nanCode then .nan
    else if e = 0 then .fin neg m (1 - (f.bias : Int) - f.mbits)
    else .fin neg (m + 2 ^ f.mbits) ((e : Int) - f.bias - f.mbits)

/-- The key of the counter-based generator (R264). -/
structure Key where
  seed : Nat
  ten : Nat
  reg : Nat
  step : Nat
  page : Nat
  eidx : Nat
deriving DecidableEq, Repr

/-- The mixing function of R264. -/
def fmix (z : Word64) : Word64 :=
  let z := (z ^^^ (z >>> 30)) * 0xBF58476D1CE4E5B9
  let z := (z ^^^ (z >>> 27)) * 0x94D049BB133111EB
  z ^^^ (z >>> 31)

/-- The 32-bit random word of an element (R264). -/
def srRand (k : Key) : Nat :=
  let a : Word64 := BitVec.ofNat 64 (k.seed * 2 ^ 15 + k.ten * 64 + k.reg)
  let b : Word64 := BitVec.ofNat 64 (k.page * 2 ^ 14 + k.eidx)
  let z := fmix (a ^^^ fmix (b ^^^ fmix (BitVec.ofNat 64 k.step + 0x9E3779B97F4A7C15)))
  z.toNat / 2 ^ 32

/-- Round man x 2^exp to a whole number of units 2^u (R263). -/
def roundMag (man : Nat) (exp u : Int) (stochastic : Bool) (k : Key) : Nat :=
  if u ≤ exp then man * 2 ^ (exp - u).toNat
  else
    let sh := (u - exp).toNat
    let lo := man / 2 ^ sh
    let fr := man % 2 ^ sh
    if stochastic then
      let d := fr * 2 ^ 32 / 2 ^ sh
      if d + srRand k ≥ 2 ^ 32 then lo + 1 else lo
    else if 2 * fr > 2 ^ sh || (2 * fr == 2 ^ sh && lo % 2 == 1) then lo + 1 else lo

/-- An encoded element and what Table 9.5 did to it: 0 nothing, 1 saturated, 2 replaced by NaN. -/
structure Enc where
  bits : Nat
  ovf : Nat
deriving DecidableEq, Repr

/-- How a region encodes: RND (true stochastic) and OVF (true NaN). -/
structure Rounding where
  stochastic : Bool
  ovfNan : Bool
deriving DecidableEq, Repr

/-- Encode an exact value into a format (R258, R263, Table 9.5). `ieeeInf` gives IEEE 754 overflow to Inf, used by
fl32 alone. -/
def encodeElem (c : Nat) (v : Dyad) (r : Rounding) (k : Key) (ieeeInf : Bool) : Enc :=
  let f := fmtOf c
  let sgn (neg : Bool) (code : Nat) : Nat :=
    if f.isInt then (if neg then (256 - code) % 256 else code)
    else if neg then code + 2 ^ (f.width - 1) else code
  let beyond (neg : Bool) : Enc :=
    if ieeeInf then ⟨sgn neg (f.maxCode + 1), 0⟩
    else if r.ovfNan && f.hasNan then ⟨f.nanCode, 2⟩ else ⟨sgn neg f.maxCode, 1⟩
  match v with
  | .nan => ⟨f.nanCode, 0⟩
  | .inf neg =>
    if f.hasInf then ⟨sgn neg (f.maxCode + 1), 0⟩
    else if r.ovfNan && f.hasNan then ⟨f.nanCode, 2⟩ else ⟨sgn neg f.maxCode, 1⟩
  | .fin neg man exp =>
    if man = 0 then ⟨if f.isInt then 0 else sgn neg 0, 0⟩
    else if f.isInt then
      let lo := roundMag man exp (-6) r.stochastic k
      if lo > 127 then beyond neg else ⟨sgn neg lo, 0⟩
    else
      let e0 : Int := (Nat.log2 man : Int) + exp
      let emin : Int := 1 - (f.bias : Int)
      let e := if e0 < emin then emin else e0
      let lo := roundMag man exp (e - f.mbits) r.stochastic k
      let code : Int := (e + f.bias - 1) * 2 ^ f.mbits + lo
      if code > f.maxCode then beyond neg else ⟨sgn neg code.toNat, 0⟩

/-- The key of a draw that is never taken (round to nearest). -/
def Key.none : Key := ⟨0, 0, 0, 0, 0, 0⟩

/-- Round to nearest even, overflow saturating: the default of a region record. -/
def Rounding.rne : Rounding := ⟨false, false⟩

/-- fl32: IEEE 754 binary32 addition, nearest even, subnormals kept (R282, R289). Operands and result are exact
values of binary32. -/
def fl32Add (a b : Dyad) : Dyad :=
  match a, b with
  | .nan, _ => .nan
  | _, .nan => .nan
  | .inf x, .inf y => if x = y then .inf x else .nan
  | .inf x, _ => .inf x
  | _, .inf y => .inf y
  | .fin na ma ea, .fin nb mb eb =>
    let e := if ea ≤ eb then ea else eb
    let ia : Int := (if na then -1 else 1) * (ma * 2 ^ (ea - e).toNat : Nat)
    let ib : Int := (if nb then -1 else 1) * (mb * 2 ^ (eb - e).toNat : Nat)
    let s := ia + ib
    if s = 0 then .fin (na && nb && decide (ma = 0)) 0 0
    else decodeElem 1 (encodeElem 1 (.fin (decide (s < 0)) s.natAbs e) .rne Key.none true).bits

/-- Multiply an exact value by 2^n. -/
def Dyad.scale (v : Dyad) (n : Int) : Dyad :=
  match v with
  | .fin neg m e => .fin neg m (e + n)
  | w => w

/-- Compare magnitudes, NaN largest, then Inf (R260). True when a has the strictly larger magnitude. -/
def magGt (a b : Dyad) : Bool :=
  match a, b with
  | .nan, .nan => false
  | .nan, _ => true
  | _, .nan => false
  | .inf _, .inf _ => false
  | .inf _, _ => true
  | _, .inf _ => false
  | .fin _ ma ea, .fin _ mb eb =>
    let e := if ea ≤ eb then ea else eb
    decide (ma * 2 ^ (ea - e).toNat > mb * 2 ^ (eb - e).toNat)

/-- Stored page layout of a converting region (Table 9.3). `block` is the data bytes of a block, 0 where elements are
stored one by one; `vals` the stored values of a block; `scale` and `pat` the offsets, 0 where there is none. -/
structure Layout where
  blocks : Nat
  data : Nat
  scale : Nat
  pat : Nat
  elems : Nat
  unit : Nat
  block : Nat
deriving DecidableEq, Repr

/-- Table 9.3 by SFMT and SPARSE. -/
def layoutOf (sfmt : Nat) (sparse : Bool) : Layout :=
  match sfmt, sparse with
  | 1, _ => ⟨0, 4096, 0, 0, 1024, 32, 0⟩
  | 2, false => ⟨0, 4096, 0, 0, 2048, 32, 0⟩
  | 3, false => ⟨0, 4096, 0, 0, 2048, 32, 0⟩
  | 2, true => ⟨58, 3712, 0, 3712, 3712, 64, 64⟩
  | 3, true => ⟨58, 3712, 0, 3712, 3712, 64, 64⟩
  | 6, false => ⟨160, 3840, 3840, 0, 5120, 96, 24⟩
  | 7, false => ⟨240, 3840, 3840, 0, 7680, 32, 16⟩
  | 6, true => ⟨132, 3168, 3168, 3300, 8448, 96, 24⟩
  | 7, true => ⟨178, 2848, 2848, 3026, 11392, 32, 16⟩
  | 0, _ => ⟨0, 4096, 0, 0, 0, 32, 0⟩
  | _, false => ⟨124, 3968, 3968, 0, 3968, 32, 32⟩
  | _, true => ⟨105, 3360, 3360, 3465, 6720, 32, 32⟩

/-- The kept positions of a pattern code (Table 9.4), none for the reserved codes 6 and 7. -/
def patKept (code : Nat) : Option (Nat × Nat) :=
  match code with
  | 0 => some (0, 1)
  | 1 => some (0, 2)
  | 2 => some (0, 3)
  | 3 => some (1, 2)
  | 4 => some (1, 3)
  | 5 => some (2, 3)
  | _ => none

/-- The pattern code of two kept positions (Table 9.4). -/
def patCode (a b : Nat) : Nat :=
  match a, b with
  | 0, 1 => 0
  | 0, 2 => 1
  | 0, 3 => 2
  | 1, 2 => 3
  | 1, 3 => 4
  | _, _ => 5

/-- The two positions of a group of four that Lake keeps: the two largest magnitudes, ties to the lower position;
zeros sort below and in position order, so the lowest-numbered zeros fill the pair (R260). -/
def keepTwo (g : List Dyad) : Nat × Nat :=
  let at_ (i : Nat) := g.getD i Dyad.zero
  let first := (List.range 4).foldl (fun b i => if magGt (at_ i) (at_ b) then i else b) 0
  let start := if first = 0 then 1 else 0
  let second := (List.range 4).foldl (fun b i => if i != first && magGt (at_ i) (at_ b) then i else b) start
  if first < second then (first, second) else (second, first)

/-- The value that governs a block's scale: the largest finite magnitude over the unstained values (R259). Gives
floor(log2 m), none where m is 0. -/
def blockLog2 (vs : List (Dyad × Bool)) : Option Int :=
  vs.foldl (fun acc (v, st) =>
    match v with
    | .fin _ m e =>
      if st || m = 0 then acc
      else
        let l : Int := (Nat.log2 m : Int) + e
        match acc with
        | none => some l
        | some a => some (if l > a then l else a)
    | _ => acc) none

/-- Encode one MX block of 32 stored values with their stains (R259): the scale byte and the elements. `key j` is the
key of stored value j. -/
def mxEncode (sfmt : Nat) (vs : List (Dyad × Bool)) (r : Rounding) (key : Nat → Key) : Nat × List Enc :=
  let f := fmtOf sfmt
  if vs.any (fun (v, _) => v == .nan) && !f.hasNan then (0xFF, vs.map (fun _ => ⟨0, 0⟩))
  else
    let x : Int := match blockLog2 vs with
      | none => 0
      | some l => l - f.emax
    let s : Int := if x + 127 < 0 then 0 else if x + 127 > 254 then 254 else x + 127
    (s.toNat, vs.zipIdx.map (fun (v, j) => encodeElem sfmt (v.1.scale (127 - s)) r (key j) false))

/-- Byte size of a delivery format (Table 2.11): 4, 2, and for the MX formats never asked. -/
def fmtBytes (c : Nat) : Nat := (fmtOf c).width / 8

/-- Table 9.1: the legal combinations of SFMT, SPARSE and DFMT (R245, R72). -/
def legalFormats (sfmt : Nat) (sparse : Bool) (dfmt : Nat) : Bool :=
  match sfmt with
  | 0 => !sparse && dfmt == 0
  | 1 => !sparse && (dfmt == 1 || dfmt == 2 || dfmt == 3)
  | 2 => dfmt == 1 || dfmt == 2 || dfmt == 3
  | 3 => dfmt == 1 || dfmt == 2 || dfmt == 3
  | n => isMx n && (dfmt == 1 || dfmt == 2 || dfmt == 3 || dfmt == n)

/-- A pass-through region has SFMT = DFMT, and SPARSE 0 or an MX storage format ("Which regions convert"). -/
def isPassThrough (sfmt : Nat) (sparse : Bool) (dfmt : Nat) : Bool := sfmt == dfmt && (!sparse || isMx sfmt)

end Sys2Proof.Machine
end

