-- ==== Sys2Proof/Machine/Tab.lean ====
section
/-! DEFINITION. Sparse tables: a list of (index, record) pairs with strictly rising indexes. A table whose entries
all have a default keeps no entry equal to that default, so that equal tables are equal data. -/

namespace Sys2Proof.Machine

/-- A sparse table: (index, record) pairs, indexes strictly rising. -/
abbrev Tab (α : Type) := List (Nat × α)

/-- The record at an index, none where the table lists none. -/
def Tab.find? {α : Type} : Tab α → Nat → Option α
  | [], _ => none
  | (i, a) :: t, k => if i = k then some a else Tab.find? t k

/-- The record at an index, the default where the table lists none. -/
def Tab.get {α : Type} (d : α) (t : Tab α) (k : Nat) : α := (Tab.find? t k).getD d

/-- Insert or replace, keeping the indexes rising. -/
def Tab.put {α : Type} : Tab α → Nat → α → Tab α
  | [], k, a => [(k, a)]
  | (i, b) :: t, k, a =>
    if k < i then (k, a) :: (i, b) :: t
    else if k = i then (k, a) :: t
    else (i, b) :: Tab.put t k a

/-- Remove an index. -/
def Tab.erase {α : Type} : Tab α → Nat → Tab α
  | [], _ => []
  | (i, b) :: t, k => if i = k then Tab.erase t k else (i, b) :: Tab.erase t k

/-- Write a record of a table with a default: the default itself is not listed. -/
def Tab.set {α : Type} [DecidableEq α] (d : α) (t : Tab α) (k : Nat) (a : α) : Tab α :=
  if a = d then Tab.erase t k else Tab.put t k a

/-- Change one listed record. -/
def Tab.upd {α : Type} (t : Tab α) (k : Nat) (f : α → α) : Tab α :=
  List.map (fun (i, a) => if i = k then (i, f a) else (i, a)) t

/-- Change every listed record. -/
def Tab.mapVals {α β : Type} (t : Tab α) (f : Nat → α → β) : Tab β := List.map (fun (i, a) => (i, f i a)) t

/-- Keep the records that satisfy a test. -/
def Tab.keep {α : Type} (t : Tab α) (f : Nat → α → Bool) : Tab α := List.filter (fun (i, a) => f i a) t

/-- The first listed record that satisfies a test, with its index. -/
def Tab.first {α : Type} (t : Tab α) (f : Nat → α → Bool) : Option (Nat × α) := List.find? (fun (i, a) => f i a) t

/-- Whether some listed record satisfies a test. -/
def Tab.some {α : Type} (t : Tab α) (f : Nat → α → Bool) : Bool := List.any t (fun (i, a) => f i a)

/-- The canonical form of a table: indexes strictly rising. -/
def Tab.rising {α : Type} : Tab α → Bool
  | [] => true
  | [_] => true
  | (i, _) :: (j, b) :: t => decide (i < j) && Tab.rising ((j, b) :: t)

/-- Insert into a list in order, before what is not smaller. -/
def insertBy {α : Type} (le : α → α → Bool) (a : α) : List α → List α
  | [] => [a]
  | b :: t => if le a b then a :: b :: t else b :: insertBy le a t

/-- Sort a list; equals keep their order. -/
def sortBy {α : Type} (le : α → α → Bool) (l : List α) : List α := l.foldr (insertBy le) []

/-- Counter table: a natural number per index, 0 unlisted. -/
def Tab.num (t : Tab Nat) (k : Nat) : Nat := Tab.get 0 t k

/-- Add to a counter of a counter table. -/
def Tab.add (t : Tab Nat) (k n : Nat) : Tab Nat := Tab.set 0 t k (Tab.num t k + n)

end Sys2Proof.Machine
end

