-- ==== Sys2Proof/Machine/Records.lean ====
section
/-! DEFINITION. The banked records of Table 8.2, each with its bit layout: windows, tenants, quires, policy regions,
tints, ports, policers, gate lists, skew profiles, feeder ports and slots, doorbells and watermark armings. -/

namespace Sys2Proof.Machine

/-- Bits [lo+n-1:lo] of a number. -/
def fld (b lo n : Nat) : Nat := b / 2 ^ lo % 2 ^ n

/-- Bit i of a number. -/
def bitAt (b i : Nat) : Bool := fld b i 1 == 1

/-- A field of a word being composed: value v, cut to n bits, at bit lo. -/
def put (v lo n : Nat) : Nat := v % 2 ^ n * 2 ^ lo

/-- TSTATE and QSTATE (Tables 2.7, 2.8). -/
inductive LifeState
  | free
  | zeroing
  | active
  | draining
  | failed
deriving DecidableEq, Repr

/-- Code of a life state (Tables 2.5, 2.6). -/
def LifeState.code : LifeState → Nat
  | .free => 0
  | .zeroing => 1
  | .active => 2
  | .draining => 3
  | .failed => 4

/-- Window descriptor (Table 2.4). -/
structure Window where
  valid : Bool
  write : Bool
  shared : Bool
  qbase : Nat
  qk : Nat
  wbase : Nat
  qgen : Nat
deriving DecidableEq, Repr

def Window.none : Window := ⟨false, false, false, 0, 0, 0, 0⟩

def Window.toBits (w : Window) : Nat :=
  w.valid.toNat + put w.write.toNat 1 1 + put w.shared.toNat 2 1 + put w.qbase 3 10 + put w.qk 13 4 +
    put w.wbase 17 19 + put w.qgen 36 16

/-- Quire map table entry without its windows (Table 2.5). -/
structure TenantRec where
  tstate : LifeState
  host : Nat
  tgen : Nat
deriving DecidableEq, Repr

def TenantRec.none : TenantRec := ⟨.free, 0, 0⟩

/-- Quire record, keyed by its base leaf (Table 2.6). -/
structure QuireRec where
  qk : Nat
  qstate : LifeState
  shared : Bool
  xhost : Bool
  creator : Nat
  qhost : Nat
  nshare : Nat
  qgen : Nat
deriving DecidableEq, Repr

def QuireRec.none : QuireRec := ⟨0, .free, false, false, 0, 0, 0, 0⟩

def QuireRec.toBits (q : QuireRec) (base : Nat) : Nat :=
  put base 0 10 + put q.qk 10 4 + put q.qstate.code 14 3 + put q.shared.toNat 17 1 + put q.xhost.toNat 18 1 +
    put q.creator 19 9 + put q.qhost 28 3 + put q.nshare 31 7 + put q.qgen 38 16

/-- Policy region record (Table 2.10). -/
structure Region where
  rbase : Nat
  rlen : Nat
  prio : Nat
  sfmt : Nat
  dfmt : Nat
  sparse : Bool
  skew : Nat
  wmark : Bool
  acc : Bool
  tovr : Bool
  otint : Nat
  rdonly : Bool
  valid : Bool
  rnd : Nat
  ovf : Bool
  seed : Nat
deriving DecidableEq, Repr

def Region.none : Region := ⟨0, 0, 0, 0, 0, false, 0, false, false, false, 0, false, false, 0, false, 0⟩

def Region.ofBits (b : Nat) : Region :=
  { rbase := fld b 0 19, rlen := fld b 19 19, prio := fld b 38 3, sfmt := fld b 41 4, dfmt := fld b 45 4,
    sparse := bitAt b 49, skew := fld b 50 3, wmark := bitAt b 53, acc := bitAt b 54, tovr := bitAt b 55,
    otint := fld b 56 4, rdonly := bitAt b 60, valid := bitAt b 61, rnd := fld b 62 2, ovf := bitAt b 64,
    seed := fld b 65 31 }

def Region.toBits (r : Region) : Nat :=
  put r.rbase 0 19 + put r.rlen 19 19 + put r.prio 38 3 + put r.sfmt 41 4 + put r.dfmt 45 4 + put r.sparse.toNat 49 1 +
    put r.skew 50 3 + put r.wmark.toNat 53 1 + put r.acc.toNat 54 1 + put r.tovr.toNat 55 1 + put r.otint 56 4 +
    put r.rdonly.toNat 60 1 + put r.valid.toNat 61 1 + put r.rnd 62 2 + put r.ovf.toNat 64 1 + put r.seed 65 31

/-- Classes of a tint (Table 6.1): 0 real-time, 1 throughput, 2 best-effort, 3 scavenger. -/
structure Tint where
  cls : Nat
  tgt : Nat
  pcol : Nat
  wgt : Nat
  mirq : Bool
  mlog : Bool
deriving DecidableEq, Repr

def Tint.ofBits (b : Nat) : Tint := ⟨fld b 0 2, fld b 2 16, fld b 18 2, fld b 20 8, bitAt b 28, bitAt b 29⟩

def Tint.toBits (t : Tint) : Nat :=
  put t.cls 0 2 + put t.tgt 2 16 + put t.pcol 18 2 + put t.wgt 20 8 + put t.mirq.toNat 28 1 + put t.mlog.toNat 29 1

/-- Table 6.2, the default tint table. -/
def defaultTint (t : Nat) : Tint :=
  match t with
  | 0 => ⟨0, 500, 0, 64, true, true⟩
  | 1 => ⟨0, 1000, 0, 64, true, true⟩
  | 2 => ⟨0, 4000, 0, 64, true, true⟩
  | 3 => ⟨1, 8000, 0, 32, true, true⟩
  | 4 => ⟨1, 16000, 0, 32, true, true⟩
  | 5 => ⟨1, 32000, 0, 32, false, true⟩
  | 6 => ⟨1, 65535, 0, 32, false, true⟩
  | 15 => ⟨3, 65535, 2, 1, false, false⟩
  | _ => ⟨2, 62500, 0, 16, false, false⟩

/-- Latency target of a tint in ns (R163). -/
def Tint.target (t : Tint) : Nat := if t.cls ≤ 1 then t.tgt else t.tgt * 16

/-- Port record: port target (R164), PWD_T in microseconds (Table 6.4) and the port enable. -/
structure PortRec where
  ptmask : Nat
  ptgt : Nat
  pwdT : Nat
  enable : Bool
deriving DecidableEq, Repr

def PortRec.default : PortRec := ⟨0, 0, 20, true⟩

/-- Policer record (Table 7.1). -/
structure Policer where
  pen : Bool
  alg : Bool
  caware : Bool
  ract : Nat
  sem : Bool
  breset : Bool
  split : Nat
  cir : Nat
  pir : Nat
  cbs : Nat
  pbs : Nat
  ovh : Nat
  miss : Nat
  tq : Nat
  dburst : Nat
  prof : Bool
  yact : Bool
deriving DecidableEq, Repr

/-- Defaults of Table 7.1. -/
def Policer.default : Policer :=
  ⟨false, false, false, 0, false, false, 8, 0, 0, 16, 32, 16, 16, 15, 15, true, false⟩

def Policer.ofBits (b : Nat) : Policer :=
  ⟨bitAt b 0, bitAt b 1, bitAt b 2, fld b 3 2, bitAt b 5, bitAt b 6, fld b 7 5, fld b 12 25, fld b 37 25, fld b 62 14,
    fld b 76 14, fld b 90 8, fld b 98 8, fld b 106 8, fld b 114 8, bitAt b 122, bitAt b 123⟩

def Policer.toBits (p : Policer) : Nat :=
  p.pen.toNat + put p.alg.toNat 1 1 + put p.caware.toNat 2 1 + put p.ract 3 2 + put p.sem.toNat 5 1 +
    put p.breset.toNat 6 1 + put p.split 7 5 + put p.cir 12 25 + put p.pir 37 25 + put p.cbs 62 14 + put p.pbs 76 14 +
    put p.ovh 90 8 + put p.miss 98 8 + put p.tq 106 8 + put p.dburst 114 8 + put p.prof.toNat 122 1 +
    put p.yact.toNat 123 1

/-- One gate entry: OPEN and DUR in units of 100 ns (Table 7.3). -/
structure GateEntry where
  open_ : Nat
  dur : Nat
deriving DecidableEq, Repr

/-- Gate list of a quire (Table 7.3). -/
structure GateList where
  guard : Nat
  follow : Bool
  entries : List GateEntry
deriving DecidableEq, Repr

/-- No list: every tint always open. -/
def GateList.none : GateList := ⟨250, false, []⟩

def GateList.header (g : GateList) : Nat := put g.entries.length 0 7 + put g.guard 7 14 + put g.follow.toNat 21 1

/-- Skew profile record (Table 9.6). -/
structure Skew where
  valid : Bool
  lanesl : Nat
  twl : Nat
  step : Nat
  right : Bool
deriving DecidableEq, Repr

def Skew.none : Skew := ⟨false, 0, 0, 0, false⟩

def Skew.ofBits (b : Nat) : Skew := ⟨bitAt b 0, fld b 1 4, fld b 5 4, fld b 9 9, bitAt b 18⟩

def Skew.toBits (k : Skew) : Nat :=
  k.valid.toNat + put k.lanesl 1 4 + put k.twl 5 4 + put k.step 9 9 + put k.right.toNat 18 1

/-- Feeder port record (Table 9.7). -/
structure FeederPort where
  fen : Bool
  fhost : Nat
deriving DecidableEq, Repr

def FeederPort.none : FeederPort := ⟨false, 0⟩

/-- Feeder slot record (Table 9.8). -/
structure FeederSlot where
  valid : Bool
  ten : Nat
  tint : Nat
  aen : Nat
  saddr : Nat
  slen : Nat
  grate : Nat
deriving DecidableEq, Repr

def FeederSlot.none : FeederSlot := ⟨false, 0, 0, 0, 0, 0, 0⟩

def FeederSlot.ofBits (b : Nat) : FeederSlot :=
  ⟨bitAt b 0, fld b 1 9, fld b 10 4, fld b 14 4, fld b 18 40, fld b 58 28, fld b 86 11⟩

def FeederSlot.toBits (f : FeederSlot) : Nat :=
  f.valid.toNat + put f.ten 1 9 + put f.tint 10 4 + put f.aen 14 4 + put f.saddr 18 40 + put f.slen 58 28 +
    put f.grate 86 11

/-- Doorbell record (Table 10.4). -/
structure Doorbell where
  valid : Bool
  ten : Nat
  dbaddr : Nat
  tbase : Nat
  rowsz : Nat
  trows : Nat
  ftbase : Nat
  ftsel : Nat
  ptint : Nat
  nsid : Nat
deriving DecidableEq, Repr

def Doorbell.none : Doorbell := ⟨false, 0, 0, 0, 0, 0, 0, 0, 0, 0⟩

def Doorbell.ofBits (b : Nat) : Doorbell :=
  ⟨bitAt b 0, fld b 1 9, fld b 10 40, fld b 50 40, fld b 90 11, fld b 101 32, fld b 133 36, fld b 169 1, fld b 170 4,
    fld b 174 12⟩

def Doorbell.toBits (d : Doorbell) : Nat :=
  d.valid.toNat + put d.ten 1 9 + put d.dbaddr 10 40 + put d.tbase 50 40 + put d.rowsz 90 11 + put d.trows 101 32 +
    put d.ftbase 133 36 + put d.ftsel 169 1 + put d.ptint 170 4 + put d.nsid 174 12

/-- Watermark arming record (Table 10.6). -/
structure Arming where
  valid : Bool
  ten : Nat
  region : Nat
  step : Nat
  tnan : Bool
  tinf : Bool
  tstn : Bool
  tlim : Bool
  tcnt : Bool
  dump : Bool
  dstop : Bool
  nsid : Nat
  limit : Nat
  ecount : Nat
  dumplen : Nat
  dumpoff : Nat
  dtint : Nat
deriving DecidableEq, Repr

def Arming.none : Arming :=
  ⟨false, 0, 0, 0, false, false, false, false, false, false, false, 0, 0, 0, 0, 0, 0⟩

def Arming.ofBits (b : Nat) : Arming :=
  ⟨bitAt b 0, fld b 1 9, fld b 10 6, fld b 16 32, bitAt b 48, bitAt b 49, bitAt b 50, bitAt b 51, bitAt b 52, bitAt b 53,
    bitAt b 54, fld b 55 12, fld b 67 32, fld b 99 40, fld b 139 14, fld b 153 28, fld b 181 4⟩

def Arming.toBits (a : Arming) : Nat :=
  a.valid.toNat + put a.ten 1 9 + put a.region 10 6 + put a.step 16 32 + put a.tnan.toNat 48 1 + put a.tinf.toNat 49 1 +
    put a.tstn.toNat 50 1 + put a.tlim.toNat 51 1 + put a.tcnt.toNat 52 1 + put a.dump.toNat 53 1 +
    put a.dstop.toNat 54 1 + put a.nsid 55 12 + put a.limit 67 32 + put a.ecount 99 40 + put a.dumplen 139 14 +
    put a.dumpoff 153 28 + put a.dtint 181 4

/-- A tenant's windows by index, its regions by index, and the skew profiles, as they stood when a request passed its checks
(R76, R274). -/
structure MapSnap where
  windows : List Window
  regions : Tab Region
  skews : Tab Skew
deriving DecidableEq, Repr

def MapSnap.none : MapSnap := ⟨[], [], []⟩

end Sys2Proof.Machine
end

