-- ==== Sys2Proof/Machine/Traffic.lean ====
section
/-! DEFINITION. State of the traffic path: requests, their parts and responses, ports, stream affinity, leaf queues,
row protection, the care of a leaf (maintenance, merge buffer, tracker, Calender), the arbiter, deficit round robin,
markers, Lake's engines and the feeder streams. -/

namespace Sys2Proof.Machine

/-- A word on its way to memory: data, the bytes written, and its stain (R15, R329). -/
structure SWord where
  data : Word64
  mask : BitVec 8
  stain : Bool
deriving DecidableEq, Repr

/-- A word read and decoded. -/
structure RWord where
  data : Word64
  stain : Bool
deriving DecidableEq, Repr

/-- A run of 1-8 bursts of one granule in one leaf. A write piece carries 4 words for each burst, with no byte of a burst
between its first and its last that it does not write; a read piece carries none. -/
structure Piece where
  leaf : Nat
  la : Nat
  nb : Nat
  words : List SWord
deriving DecidableEq, Repr

/-- Where a part stands between the checks and its service (R190, R172, R280, R174). -/
inductive Stage
  | redHeld
  | gated
  | quireDrr
  | bridgeDrr
  | xbarDrr
  | lakeDrr
  | feltDrr
  | feedDrr
  | ready
  | lakeHeld (since : Nat)
  | granted
  | admitted
deriving DecidableEq, Repr

/-- How a part holds the credits of a path pool: none yet, from its source's reserve, or unreserved (R106, R107). -/
inductive Credit
  | none
  | reserved
  | unreserved
  | returned
deriving DecidableEq, Repr

/-- One part of a request, at one stack. `left` counts the granule pieces its write lanes have still to move (R179). -/
structure Part where
  req : Nat
  stack : Nat
  stage : Stage
  since : Nat
  pieces : List Piece
  left : Nat
  toServe : Nat
  lvl : Nat
  late : Bool
  bridge : Credit
  xbar : Credit
  inQuire : Bool
  inLake : Bool
deriving DecidableEq, Repr

/-- Colours of a marker (R198). -/
inductive Colour
  | none
  | green
  | yellow
  | red
deriving DecidableEq, Repr

/-- Life of a request at its port edge: `discarded` once its response has left while a part is still unserved. -/
inductive ReqPhase
  | dataOpen
  | live
  | discarded
  | done
deriving DecidableEq, Repr

/-- A request outstanding at a port. `regIdx` is 64 where no region governs (R73); `a` is the quire-relative address
(R57); `stack` the
one stack that serves it (a 4 KiB page lies in one stack), `places` the stored bursts it reads, `ctx` the gather context
or feeder port of a read that Lake issues (op 32 a feeder page, 33 a gather read, 34 a gather's fill); `got` holds the
stored words read for it, by quire-relative word number; `formed` counts beats formed, or the delivered bursts of a gather
read that have gone into beats; `lvl` is the urgency level it has reached while it waits for data (R171);
`snap` is the map through which a GATH reads (R76). -/
structure Req where
  port : Nat
  tag : Nat
  sid : Nat
  ten : Nat
  tint : Nat
  op : Nat
  addr : Nat
  len : Nat
  cidx : Nat
  ccnt : Nat
  arrival : Nat
  target : Nat
  need : Nat
  beats : List Beat
  qbase : Nat
  qk : Nat
  a : Nat
  region : Region
  regIdx : Nat
  skew : Skew
  step : Nat
  charge : Nat
  colour : Colour
  got : Tab RWord
  formed : Nat
  stained : Bool
  phase : ReqPhase
  status : Nat
  traced : Bool
  grantAt : Nat
  servedAt : Nat
  stack : Nat
  places : Nat
  ctx : Nat
  lvl : Nat
  snap : MapSnap
deriving DecidableEq, Repr

/-- A response or notification header with its beat, formed and waiting for the response lane (R17, Table 1.4).
`req` names the request it answers, 0 for a notification; `free` beats leave without credit (R188). -/
structure RespBeat where
  req : Nat
  tag : Nat
  resp : Nat
  last : Bool
  ntf : Bool
  nkind : Nat
  sid : Nat
  ten : Nat
  hasData : Bool
  data : BitVec 2048
  dvld : BitVec 8
  dstain : BitVec 8
  free : Bool
deriving DecidableEq, Repr

/-- An outstanding fill (R300, R301): the gather that caused it, when it went, and what it carries to the bonded
tier. -/
structure Fill where
  key : Nat
  since : Nat
  baddr : Nat
  ten : Nat
  sid : Nat
  data : List (BitVec 256 × Bool)
deriving DecidableEq, Repr

/-- A fabric or Felt port edge (R10, R22-R28, R185). `hcred`, `dcred` are the request credits the requester holds;
`rh`, `rd` the response credits Dweten holds; `out` what the response lane last carried; `fills` the outstanding fills of a
Felt port, by tag. -/
structure Port where
  live : Bool
  hcred : Nat
  dcred : Nat
  rh : Nat
  rd : Nat
  urg : Nat
  isolated : Bool
  timer : Nat
  lane : List RespBeat
  out : List RespBeat
  protoNote : Nat
  injectParity : Bool
  fills : Tab Fill
  windows : List (List Nat)
deriving DecidableEq, Repr

/-- A stream-affinity entry (R29). -/
structure Aff where
  port : Nat
  alt : Nat
  flap : Bool
  run : Nat
deriving DecidableEq, Repr

/-- Who queued an entry of a leaf, and so where its data goes (Table 3.4 KIND; R84). -/
inductive Src
  | part (req stack : Nat)
  | merge
  | accu (job : Nat)
  | tile (id : Nat)
  | zero
deriving DecidableEq, Repr

/-- Transaction queue entry (Table 3.4) with its urgency slot (R167). `wr` and `lake` give KIND; `words` the write data;
`raw` the words a read has taken from the stack, data and check byte. -/
structure Entry where
  id : Nat
  wr : Bool
  lake : Bool
  bank : Nat
  row : Nat
  col : Nat
  la : Nat
  nb : Nat
  ten : Nat
  sid : Nat
  tint : Nat
  deadline : Nat
  u1t : Nat
  u2t : Nat
  port : Nat
  urg : Nat
  haz : Bool
  words : List SWord
  raw : List (Word64 × Byte)
  at_ : Nat
  src : Src
deriving DecidableEq, Repr

/-- A bank: its open row, page history (R90), the urgent entry that claims it (R95), refresh count OWED (R109) and the times of
its last commands. A forced refresh and a pending mitigation claim their bank as long as they last (R115, R125); `sweep` says
that a spill sweep does (R127). -/
structure Bank where
  openRow : Option Nat
  hist : Nat
  lastRow : Option Nat
  claim : Option Nat
  sweep : Bool
  owed : Int
  tAct : Nat
  tPre : Nat
  tRd : Nat
  tWr : Nat
  tRef : Nat
  tCol : Nat
deriving DecidableEq, Repr

/-- A leaf's transaction queue and column side. Times are in the model's 1/12 ns clock. `turned` says that the direction has
turned and no run has followed (R99). `acts` lists the recent ACTs, and
those maintenance has on their way, each with its time and bank group; `slots` and `slotsNext` are the column commands charged to the present 64-QCLK window
and the next (R103); `lastWr` is the end of the last write data of each bank group. -/
structure Leaf where
  queue : List Entry
  inflight : List Entry
  banks : Tab Bank
  writing : Bool
  busFree : Nat
  wbuf : Nat
  written : Nat
  slots : Nat
  slotsNext : Nat
  acts : List (Nat × Nat)
  lastWr : Tab Nat
  lastRd : Nat
  turned : Bool
  parked : Bool
  tickOrigin : Nat
  tickN : Nat
deriving DecidableEq, Repr

/-- A row counter entry (Table 4.3). -/
structure RowCount where
  bank : Nat
  row : Nat
  cnt : Nat
deriving DecidableEq, Repr

/-- Row protection of a leaf (R121-R127): counters by entry index, FLOOR, pending mitigations as banks and rows in trigger
order, and the banks a spill sweep still owes. -/
structure RowProt where
  counts : Tab RowCount
  floor : Nat
  mits : List (Nat × Nat)
  sweep : List Nat
  sweepAt : Nat
deriving DecidableEq, Repr

/-- Maintenance activities (Table 4.5). -/
inductive Act
  | scrub
  | retrain
  | heal
  | repair
  | zero
  | capture
  | scan
deriving DecidableEq, Repr

/-- A maintenance request: the row or lane it names, the mailbox ticket it completes (0 for none), and whether its own
work has been done. -/
structure MReq where
  act : Act
  bank : Nat
  row : Nat
  lane : Nat
  isLane : Bool
  cause : Nat
  ticket : Nat
  done : Bool
deriving DecidableEq, Repr

/-- A merge buffer entry (Table 11.7): the burst address, merged bytes, and per word the stain merged and the
in-place conversion asked for (`byConv` when that opened the entry) and a fault to inject. `closed` is set once the entry is closed and its flush is queued. -/
structure MergeEnt where
  la : Nat
  words : List SWord
  conv : Nat
  byConv : Bool
  inject : Nat
  flip : BitVec 72
  born : Nat
  closed : Bool
  ten : Nat
  sid : Nat
  tint : Nat
  port : Nat
  arrival : Nat
  deadline : Nat
deriving DecidableEq, Repr

/-- An error tracker entry (Table 11.11). -/
structure Track where
  bank : Nat
  row : Nat
  word : Nat
  bit : Nat
  queued : Bool
  healed : Bool
  htime : Nat
  weak : Bool
  born : Nat
deriving DecidableEq, Repr

/-- Care of a leaf: its maintenance token (R128-R133), merge buffer, error tracker, Calender and tallies. `calFree` is when its
share of the column slots lets Calender visit again (R337, R338). `raised` are
requests not checked yet, `paused` each activity with the one that paused it, `joined` requests that joined a running
activity of their kind. -/
structure Care where
  holder : Option MReq
  riders : List MReq
  paused : List (Act × MReq)
  queue : List MReq
  absorbed : List MReq
  raised : List MReq
  joined : List MReq
  merge : List MergeEnt
  track : Tab Track
  calRow : Nat
  calBank : Nat
  calFree : Nat
  lapStart : Nat
  lapLast : Nat
  laps : Nat
  esc : Bool
  lapLate : Bool
  lost : Bool
  filled : Bool
  zeroing : Bool
  zeroAt : Nat
  ovfSheet : Nat
deriving DecidableEq, Repr

/-- A stack ingress arbiter: its two pins with the resources each lacked when it was set (leaf: queue entries; 1024 +
leaf: write buffer; 2048 return buffer; 2049 bridge return; 4096 + leaf merge entries) and the stack-wide limits (R100-R104, R177, R178, R86).
`moved` lists the granted parts whose last piece has moved, in that order; `lateLogged` the tints that logged a late part with
the sheet they did so in (R184); `winAt` is where the present 64-QCLK window began. -/
structure Arb where
  rankPin : Option Nat
  rankLack : List Nat
  waitPin : Option Nat
  waitLack : List Nat
  count : Nat
  lanes : Nat
  moved : List Nat
  rbuf : Tab Nat
  bridgeRet : Nat
  acts : Nat
  debt : Nat
  cap : Nat
  winAt : Nat
  lateLogged : List (Nat × Nat)
deriving DecidableEq, Repr

/-- A subflow of a deficit round robin flow: one tint (R206). -/
structure SubFlow where
  tint : Nat
  deficit : Int
  visited : Bool
deriving DecidableEq, Repr

/-- A flow: one tenant. `inner` is the order of its active subflows (R207). -/
structure Flow where
  ten : Nat
  deficit : Int
  visited : Bool
  subs : List SubFlow
  inner : List Nat
  innerLeft : Nat
  leaving : Bool
deriving DecidableEq, Repr

/-- A deficit round robin stage (Table 7.4): window occupancy, flows, the round order, and visits left in the round. -/
structure Drr where
  occ : Nat
  flows : List Flow
  round : List Nat
  left : Nat
deriving DecidableEq, Repr

/-- One marker: a tenant's buckets in one half, in 1/16 B (R197). `oldRates` are the tick of the boundary whose refill still
follows old rates, and those rates (R211). -/
structure Marker where
  tc : Int
  tp : Int
  oldRates : Option (Nat × Nat × Nat)
deriving DecidableEq, Repr

/-- Debt of an ACT on its way to a marker and a shared-quire stage (R193, R194). -/
structure Debt where
  ten : Nat
  half : Nat
  tint : Nat
  quire : Option Nat
  bytes : Nat
  at_ : Nat
deriving DecidableEq, Repr

/-- An accumulate in progress (R282): one granule of a request, its contributions, and the old words awaited. `asked`
says that its Lake read is queued (R283). -/
structure AccuJob where
  stack : Nat
  leaf : Nat
  la : Nat
  nb : Nat
  req : Nat
  ten : Nat
  sid : Nat
  tint : Nat
  port : Nat
  arrival : Nat
  target : Nat
  region : Region
  regIdx : Nat
  step : Nat
  pageAddr : Nat
  first : Nat
  vals : List (Dyad × Bool)
  old : Option (List RWord)
  asked : Bool
  words : List (Nat × RWord)
deriving DecidableEq, Repr

/-- A parked contribution of a tile. -/
structure Parked where
  cidx : Nat
  vals : List (Dyad × Bool)
  slots : Nat
deriving DecidableEq, Repr

/-- An open ACCO tile (R285-R293). `timedOut` says that ACCO_TMO has ended it and its write is not queued yet (R292). -/
structure Tile where
  stack : Nat
  qbase : Nat
  qk : Nat
  a : Nat
  ten : Nat
  addr : Nat
  len : Nat
  ccnt : Nat
  region : Region
  regIdx : Nat
  tmo : Nat
  elapsed : Nat
  m : Nat
  slots : Nat
  sum : List (Dyad × Bool)
  next : Nat
  arrived : Nat
  parked : List Parked
  waiting : List (Dyad × Bool)
  oldReady : Bool
  got : Tab RWord
  sid : Nat
  step : Nat
  sid0 : Option Nat
  step0 : Option Nat
  tint : Nat
  port : Nat
  arrival : Nat
  target : Nat
  timedOut : Bool
deriving DecidableEq, Repr

/-- A gather descriptor (Table 10.3) and, for a prefetch, the record that started it. -/
structure GatherDesc where
  out : Bool
  ftsel : Nat
  rowBytes : Nat
  nidx : Nat
  idxAddr : Nat
  tbase : Nat
  trows : Nat
  ftBaddr : Nat
deriving DecidableEq, Repr

/-- Steps of a gather: reading its descriptor, its index list, then its rows. -/
inductive GPhase
  | desc
  | index
  | rows
  | fills
deriving DecidableEq, Repr

/-- A gather context (R295-R305). `req` is the GATH request, 0 for a prefetch; `chunks` the reads still to issue for the
descriptor, list or row in progress and `rowBuf` what they have delivered; `asked` says that a read or fill of it is under
way; `snap` is the map it reads through. -/
structure Gather where
  req : Nat
  prefetch : Bool
  db : Nat
  ten : Nat
  sid : Nat
  tint : Nat
  port : Nat
  arrival : Nat
  target : Nat
  addr : Nat
  snap : MapSnap
  step : Nat
  phase : GPhase
  desc : GatherDesc
  idx : List Nat
  row : Nat
  asked : Bool
  chunks : List (Nat × Nat)
  rowBuf : List (BitVec 256 × Bool)
  outBeats : List (BitVec 256 × Bool)
  oor : Nat
  errFills : Nat
  stRow : Bool
  fillsOut : Nat
  seq : Nat
  loggedOor : Bool
deriving DecidableEq, Repr

/-- A watermark digest (Table 10.7); SUM and SUMSQ exact, in units of 2^-149 and 2^-298 (R308). -/
structure Digest where
  count : Nat
  nans : Nat
  infs : Nat
  stains : Nat
  flags : Nat
  min : Option Dyad
  max : Option Dyad
  sum : Int
  sumsq : Int
  hash : Nat
deriving DecidableEq, Repr

/-- Lake's per-chip work state: ACCU granules, tiles, gathers by stack and context, running and pending doorbells,
digests by arming, and the dump fill pointer. -/
structure Lake where
  accus : Tab AccuJob
  tiles : Tab Tile
  gathers : Tab Gather
  dbPending : Tab (Nat × Nat)
  digests : Tab Digest
  dumpAt : Nat
deriving DecidableEq, Repr

/-- A running feeder stream (R274-R277), with the map in force at its FD_GO in `snap`: `page` the next page to deliver, `issued`
the pages issued, `buffer` delivered bursts with their stain and whether their page was unpaced. `marks` and `least` judge its
rate (R277): how far delivery lay behind GRATE, in bytes, after each of the latest beats, and the least of it at any beat 64 KiB
or more before the last. -/
structure Stream where
  slot : Nat
  rec_ : FeederSlot
  snap : MapSnap
  region : Region
  regIdx : Nat
  skew : Skew
  step : Nat
  tGo : Nat
  page : Nat
  issued : Nat
  buffer : List (BitVec 256 × Bool × Bool)
  beats : Nat
  marks : List Int
  least : Option Int
deriving DecidableEq, Repr

/-- What a feeder port drives in an FCLK in which a beat advances (chapter 1, Feeder ports): FD_DATA, FD_AEN, FD_SOS, FD_EOS and
FD_STAIN. -/
structure FeedBeat where
  data : BitVec 4096
  aen : Nat
  sos : Bool
  eos : Bool
  stain : BitVec 16
deriving DecidableEq, Repr

/-- A feeder port; `out` is what it drove in its latest FCLK, none where FD_VALID was low or the beat did not advance. -/
structure Feeder where
  stream : Option Stream
  reject : Nat
  lateCnt : Nat
  stall : Nat
  rdy : Nat
  out : Option FeedBeat
deriving DecidableEq, Repr

end Sys2Proof.Machine
end

