-- ==== Sys2Proof/Machine/Service.lean ====
section
/-! DEFINITION. State of the service side: clocks, sleep and operating points, calibration, heat and power, stack power,
sheets and change sets, mailboxes and hosts, tenants, event records, the flash device and the registers. -/

namespace Sys2Proof.Machine

/-- The timebase, the sheet counter and SHEET_STAT (R139, R217-R221, Table 8.4). `tb` and `inc` are in units of
2^-32 ns. `ticks` counts REF_CLK periods of the model since PORST_N. -/
structure Clock where
  ticks : Nat
  tb : Nat
  inc : Nat
  acc : Int
  aligned : Bool
  ntLock : Bool
  ntValid : Bool
  ntHigh : Nat
  ntTod : Nat
  refLost : Bool
  refLostAt : Nat
  sheetNum : Nat
  sheetStart : Nat
  trans : Bool
  stepped : Bool
  live : Bool
  defer : Bool
  lsb : Nat
  oldGrid : Option (Nat × Nat)
  comp : Tab Int
  incLast : Nat
  halfOff : List Nat
  halfQuiet : Tab Nat
deriving DecidableEq, Repr

/-- Boundary pins and levels (Table 1.1). -/
structure Pins where
  ready : Bool
  thrReq : Bool
  thrLevel : Nat
  thrAck : Nat
  stopIn : Bool
  stopped : Bool
  latches : Nat
  thermtrip : Bool
  porst : Bool
  chipRst : Bool
  qspiReleased : Bool
deriving DecidableEq, Repr

/-- States of a stack PLL (R141). -/
inductive Pll
  | off
  | standby
  | locking
  | locked
deriving DecidableEq, Repr

/-- Where an operating-point transition stands (R154-R157). -/
inductive OpPhase
  | none
  | rampUp
  | switching (rollback : Bool)
  | rampDown
  | rollUp
  | rollDown
deriving DecidableEq, Repr

/-- Clocks, power domains, sleep and operating point of a stack (R138, R141-R161, Table 5.6). `sr` lists the channels
in self-refresh; `lostRef` says that a REF_CLK loss took the PLL's lock, so that it relocks with REF_CLK (R140); `missed` counts
the ageing ticks since the gate-off (R145). -/
structure StackClk where
  stc : Nat
  pll : Pll
  fails : List Nat
  pllHold : Bool
  lostRef : Bool
  opcur : Nat
  optgt : Nat
  opOld : Nat
  phase : OpPhase
  phaseAt : Nat
  oprb : Bool
  opfail : Bool
  opTickets : List Nat
  withholdAck : Bool
  doms : Nat
  sr : List Nat
  asleep : Bool
  asleepAt : Nat
  waking : Bool
  ecoDone : Bool
  ref2x : Bool
  ref2xNext : Bool
  lastAge : Nat
  missed : Nat
deriving DecidableEq, Repr

/-- Throttle states (R402). -/
inductive Throttle
  | idle
  | grace
  | enforce
  | tripped
deriving DecidableEq, Repr

/-- Temperature, throttle and trips of a stack (R394-R410, Table 13.7). Temperatures are in 1/8 degree C. `critical` says
that the stack has reached 115 degrees and stays without supply until PORST_N (R410). -/
structure Heat where
  temp : Option Int
  temp1 : Option Int
  temp2 : Option Int
  demand : Nat
  st : Throttle
  tg : Nat
  tgTemp : Int
  tl : Nat
  lt : Nat
  cool : Option Nat
  trips : List Nat
  held : Bool
  disagree : Bool
  disagreeOk : Nat
  badSrc : List Nat
  srcOk : Tab Nat
  snsFault : Bool
  fallback : Bool
  riseHigh : Bool
  injTemp : Int
  injRounds : Nat
  released : Bool
  critical : Bool
deriving DecidableEq, Repr

/-- Power ladder, droop and energy estimate of a stack (R417-R426, Table 13.8). Counts are since the last 10 us tick
and since the last round; energies in pJ; `retired` and `loadAt` are the column slots counted and the tick at the last
load window, `vdd` the supply in mV at the last round, `bgRound` the background energy of the round so far. -/
structure Power where
  ladder : Nat
  actLim : Nat
  lp : Nat
  win : List Nat
  act : Nat
  rds : Nat
  wrs : Nat
  refs : Nat
  raw : Nat
  roundRaw : Nat
  gp : Nat
  stretch : Bool
  leafEnergy : Tab Nat
  tenEnergy : Tab Nat
  zeroEnergy : Nat
  retired : Nat
  loadAt : Nat
  vdd : Nat
  bgRound : Nat
  loadPct : Nat
  highRun : Nat
deriving DecidableEq, Repr

/-- Supply of a stack (R497-R499, STKCFG_s). `recoverAt` is set on a stack at fault while its regulator recovers,
`quickDone` once its bring-up calibration has ended, trained or not; `badSpares` lists spare lanes, 8 to a channel, that
failed in this bring-up (R361, R391). -/
structure Supply where
  enable : Bool
  good : Bool
  goodAt : Nat
  enableAt : Nat
  recoverAt : Option Nat
  fenced : Bool
  disc : Discovery
  stype : Nat
  rate : Nat
  trained : Bool
  training : Bool
  imported : Bool
  quickDone : Bool
  rstOutLow : Bool
  clearTicket : Nat
  spareRows : Tab Nat
  badSpares : List Nat
deriving DecidableEq, Repr

/-- Calibration of one lane in one direction: setting, threshold, eye and edges (Tables 12.6, 12.12). -/
structure LaneCal where
  valid : Bool
  dly : Nat
  vref : Nat
  ew : Nat
  eh : Nat
  left : Nat
  right : Nat
  lo : Nat
  hi : Nat
  spare : Bool
deriving DecidableEq, Repr

/-- A channel's calibration (Table 12.12): tags, lanes by Table 18.11 index, WVREF, and spares in use. -/
structure ChanCal where
  temp : Int
  load : Nat
  optag : Nat
  vdd : Nat
  rx : Tab LaneCal
  tx : Tab LaneCal
  wv0 : Nat
  wv1 : Nat
  spmap : Tab Nat
  untrained : Bool
deriving DecidableEq, Repr

/-- A lane's shadow-sampler margins (R369, Table 12.7): the probe's direction and offset, four margins in the order
ML, MR, MB, MT. -/
structure Margin where
  dir : Nat
  off : Nat
  marg : List Nat
  low : Bool
  lowRun : Nat
  evals : Nat
deriving DecidableEq, Repr

/-- Calibration state of a channel: `cal` at the nominal point and `eco` at the economy point. `retrain` are the read and write points left of a running RETRAIN, `step` those of
the step under way with the tick at which it ends, and `gapAt` when the last REFab of the gap ends (R134). `bias` is
the PHY's trim of its bias currents, in 1/1024 of a delay tap and of a Vref step (R416). -/
structure Chan where
  cal : ChanCal
  eco : Option ChanCal
  corr : Option ChanCal
  pendingCorr : Bool
  stale : Bool
  lastCause : Nat
  retrain : Option (Nat × Nat)
  step : Option (Nat × Nat × Nat)
  loadTag : Nat
  loadOnce : Bool
  retrainTickets : List Nat
  gap : Bool
  gapAt : Nat
  apply : Bool
  bias : Int × Int
  margins : Tab Margin
  parity : List Nat
  retrainEnd : Option Nat
  parityAlarm : Bool
  laneCe : Tab (List (Nat × Nat))
  ueWords : List (Nat × Nat)
  rowLast : Option Nat
deriving DecidableEq, Repr

/-- What a staged command writes (R224, R225): one record or one setting instance, or an action of go-live. -/
inductive Staged
  | setting (code inst v : Nat)
  | tenantOpen (t : Nat)
  | tenantClose (t : Nat)
  | tenantHost (t h : Nat)
  | adopt (t h : Nat)
  | window (t w : Nat) (r : Window)
  | quireNew (base : Nat) (q : QuireRec)
  | quireRelease (base : Nat)
  | region (t i : Nat) (r : Region)
  | tint (i : Nat) (r : Tint)
  | markTints (red yel : Nat)
  | port (i : Nat) (r : PortRec)
  | policer (t : Nat) (r : Policer)
  | gate (base : Nat) (r : GateList)
  | profile (code : Nat)
  | skew (i : Nat) (r : Skew)
  | feederPort (i : Nat) (r : FeederPort)
  | feederSlot (i : Nat) (r : FeederSlot)
  | doorbell (i : Nat) (r : Doorbell)
  | arming (i : Nat) (r : Arming)
  | opPoint (s pt : Nat)
  | cal (c : Nat) (r : ChanCal) (imported : Bool)
  | owner (h : Nat)
  | handover (slot : Nat)
deriving DecidableEq, Repr

/-- A staged item with the ticket of the command that staged it (0 for Mordant's own sets). -/
structure Item where
  what : Staged
  ticket : Nat
deriving DecidableEq, Repr

/-- A change set (R223-R233): the page that owns it (1000 for Mordant's own), its items, the commit ticket, the commit
time plus the COMMIT_LEAD in force at it, and NOTBEFORE. -/
structure ChangeSet where
  page : Nat
  items : List Item
  tickets : List Nat
  committed : Bool
  commitTicket : Nat
  time : Nat
  notBefore : Nat
  seq : Nat
deriving DecidableEq, Repr

/-- A taken command that still owes its final completion (R437). -/
structure Ticket where
  page : Nat
  ctag : Nat
  opcode : Nat
  mmp2 : Bool
  cirq : Bool
  result : Nat
  left : Nat
  fail : Nat
  mask : Nat
deriving DecidableEq, Repr

/-- A completion waiting for or in the ring: its 256 bits and whether it may raise the host's interrupt line. -/
structure Cpl where
  bits : Nat
  cirq : Bool
  event : Bool
  bulk : List Nat
  hasBulk : Bool
deriving DecidableEq, Repr

/-- A waiting event (R439). -/
structure Event where
  code : Nat
  count : Nat
  data : Nat
deriving DecidableEq, Repr

/-- Page states (Table 14.6). -/
inductive PState
  | closed
  | opened
  | frozen
deriving DecidableEq, Repr

/-- A mailbox page (Tables 14.3-14.6). `ring` holds the 32-bit words of the command ring by word number, `cplRing` the
completion ring by entry, `bulk` the bulk area by word. -/
structure Page where
  ring : Tab Nat
  cplRing : Tab Cpl
  bulk : Tab Nat
  cmdTail : Nat
  cmdHead : Nat
  cplTail : Nat
  cplHead : Nat
  tailErr : Bool
  evLost : Bool
  ctrl : Nat
  pstate : PState
  gen : Nat
  epoch : Nat
  caps : Nat
  tgenOpen : Nat
  owed : Nat
  waiting : List Cpl
  events : List Event
  lostCount : Nat
  queued : Bool
  withdrawn : List (Nat × Nat × Bool)
deriving DecidableEq, Repr

/-- A host (R450-R456). Times are AON-timer values in REF ticks. -/
structure HostSt where
  watched : Bool
  beat : Nat
  lost : Bool
  lostAt : Nat
  leaseOn : Bool
  accept : Option Nat
deriving DecidableEq, Repr

/-- Per-tenant state outside the banks (R265, R413, R424, R482, R523, R547, R543). -/
structure TenSt where
  step0 : Nat
  step1 : Nat
  stepHalf : Nat
  umap : Bool
  debugRights : Bool
  subs : List Nat
  throttle : Nat
  tsTime : Nat
  ePj : Nat
  bPj : Nat
  rangeSheet : Option Nat
  permSheet : Option Nat
deriving DecidableEq, Repr

/-- Bodies of event records (Table 17.15): a NOTE by cause with its packed ARGS, or the body of another kind, both as
bytes from byte 0 of the body. -/
structure Rec where
  time : Nat
  kind : Nat
  len : Nat
  cls : Nat
  num : Nat
  flags : Nat
  seq : Nat
  count : Nat
  ldelta : Nat
  body : List Nat
  ring : Nat
  at_ : Nat
deriving DecidableEq, Repr

/-- A run of dropped records of a ring (R538). -/
structure Gap where
  first : Nat
  last : Nat
  lost : Nat
  reason : Nat
  multi : Bool
  src : Nat
  msec : Option Nat
deriving DecidableEq, Repr

/-- A ring (Table 17.18): bytes moved and consumed, and `tail`, bytes written to the buffer or the ring so far. -/
structure Ring where
  wr : Nat
  rd : Nat
  tail : Nat
  badrd : Bool
  gap : Option Gap
  seq : Nat
deriving DecidableEq, Repr

/-- A sampling unit (R527-R529). `pendingAt` is set from a crossing on, `cand` holds the request it samples. -/
structure Sampler where
  sel : Nat
  ten : Nat
  period : Nat
  next : Nat
  pendingAt : Option Nat
  value : Nat
  missed : Nat
  skid : Nat
  cand : Option (List Nat)
deriving DecidableEq, Repr

/-- Event records and debug (R530-R549): the record buffer, the newest alarm with its ring position, pending and summary
alarms, the mirror, log rate counts by source, rings, filters, samplers, scan and unlock. `apPage` holds the aperture
buffer's 64-bit words; word i of the scan image is the free value of `scanBase` and i. Bit i of `cores` says that Mordant's core i
is awake (R429): it stands here because every alarm record wakes all four. -/
structure Trace where
  buffer : List Rec
  newest : Option (Rec × Nat)
  pendingAlarms : List Rec
  summaries : List Rec
  mirror : List Rec
  rate : Tab (Nat × Nat)
  rings : Tab Ring
  filters : Tab Nat
  filtCnt : Tab Nat
  samplers : Tab Sampler
  sampleStat : Nat
  apSel : Nat
  apBusy : Bool
  apReady : Bool
  apPage : List Nat
  scanCtl : Nat
  scanBusy : Bool
  scanDone : Bool
  scanErr : Bool
  scanCode : Nat
  scanWords : Nat
  scanBase : Nat
  unlocked : Bool
  code : Option (Nat × Nat)
  tries : Nat
  cores : Nat
deriving DecidableEq, Repr

/-- A holding register of an access source (R517): its words and tag. -/
structure Hold where
  tag : Nat
  w0 : Nat
  w1 : Nat
  w2 : Nat
deriving DecidableEq, Repr

/-- The records of the device as firmware has read them (R385): whether each type has a valid slot, the repair map with its
identifiers and sequence number, the trim's payload, and the baseline as identifiers by stack and 288-byte channel records by
channel. -/
structure FlashRecs where
  trimValid : Bool
  trim : List Nat
  mapValid : Bool
  mapSeq : Nat
  serials : List Nat
  altSerials : List Nat
  map : List MapEntry
  baseValid : Bool
  baseSeq : Nat
  baseSerials : List Nat
  base : List (Nat × List Nat)
deriving DecidableEq, Repr

/-- Firmware, reset and flash (R385-R388, R487-R509, R352), `fwAt` the tick of the last core reset and `mrstAt` of the last
Mordant reset: the device, its records as read, `wroteAt` the tick of the latest write to it, backup registers, the running image,
staging, hand-over and block resets in progress. -/
structure Boot where
  dev : FlashDev
  recs : FlashRecs
  wroteAt : Option Nat
  coreReset : Bool
  firmware : Bool
  fwAt : Nat
  loaded : Option Nat
  bkp : Tab Nat
  imported : Bool
  importWait : Option Nat
  seqAt : Option Nat
  trialAt : Nat
  pauseAt : Option Nat
  handTicket : Nat
  stagePage : Option Nat
  stageNext : Nat
  stageAt : Nat
  stagePage0 : Tab Nat
  claim : Option (Nat × Nat)
  drains : List (Nat × Nat × Bool)
  critOnce : Bool
  writeLeft : List (Nat × Nat × Nat)
  mordantRst : Bool
  mrstAt : Nat
deriving DecidableEq, Repr

/-- A non-volatile store in progress (R386): record type, ticket, and the map or the baseline to be stored. -/
structure NvStore where
  type_ : Nat
  ticket : Nat
  map : List MapEntry
  serials : List Nat
  altSerials : List Nat
  clearFull : Bool
  base : List Nat
deriving DecidableEq, Repr

/-- Registers of the identity and global control block that hold state of their own (Tables 18.3-18.8). `railPower` is the
power of channels 60-62 at the last round, in 0.1 W, `roundAt` the timebase at its end, `winNum` the port window begun last (R526), and
`roundNext` and `ladderNext` the AON ticks at which the next housekeeping round (R393) and the next 10 us mark (R421) fall. -/
structure Regs where
  accerr : Nat
  accerrAddr : Nat
  irqEn : Nat
  gmiss : Nat
  stainStat : Nat
  thermStat : Nat
  pkgPavg : Nat
  railPower : Nat
  maintStat : Nat
  isoEvt : Nat
  rstBusy : Nat
  roundAt : Nat
  tbCap : Nat
  tbCapStat : Nat
  winNum : Nat
  roundNext : Nat
  ladderNext : Nat
  holds : Tab Hold
deriving DecidableEq, Repr

/-- Counters and tallies (Tables 17.2, 17.6, 17.9, 17.10), by index; every counter unlisted is 0. Keys: tenant x 64 +
index; stack x 32 + index; channel x 8 + index; global index; stack x 1024 + tally offset / 4. -/
structure Counters where
  tenant : Tab Nat
  stack : Tab Nat
  channel : Tab Nat
  global : Tab Nat
  tally : Tab Nat
  remainUn : Nat
  remainChip : Nat
deriving DecidableEq, Repr

/-- The active bank (Table 8.2). Keys: settings code x 2^16 + instance; windows tenant x 8 + index; regions tenant x 64
+ index; feeder slots port x 8 + slot. -/
structure Banked where
  settings : Tab Nat
  tenants : Tab TenantRec
  windows : Tab Window
  quires : Tab QuireRec
  regions : Tab Region
  tints : Tab Tint
  redTint : Nat
  yelTint : Nat
  ports : Tab PortRec
  policers : Tab Policer
  gates : Tab GateList
  profile : Nat
  skews : Tab Skew
  feedPorts : Tab FeederPort
  feedSlots : Tab FeederSlot
  doorbells : Tab Doorbell
  armings : Tab Arming
  opPoints : Tab Nat
  owner : Option Nat
deriving DecidableEq, Repr

end Sys2Proof.Machine
end

