-- ==== Sys2Proof/Machine/Defaults.lean ====
section
/-! DEFINITION. The value of every table entry and every part of the state at power-on reset. -/

namespace Sys2Proof.Machine

def Port.reset : Port :=
  { live := false, hcred := 0, dcred := 0, rh := 0, rd := 0, urg := 0, isolated := false, timer := 0, lane := [], out := [],
    protoNote := 0, injectParity := false, fills := [], windows := [] }
def Bank.reset : Bank :=
  { openRow := none, hist := 0, lastRow := none, claim := none, sweep := false, owed := 0, tAct := 0, tPre := 0, tRd := 0, tWr := 0,
    tRef := 0, tCol := 0 }
def Leaf.reset : Leaf :=
  { queue := [], inflight := [], banks := [], writing := false, busFree := 0, wbuf := 0, written := 0, slots := 0,
    slotsNext := 0, acts := [], lastWr := [], lastRd := 0, turned := false, parked := false,
    tickOrigin := 0, tickN := 0 }
def RowProt.reset : RowProt :=
  { counts := [], floor := 0, mits := [], sweep := [], sweepAt := 0 }
def Care.reset : Care :=
  { holder := none, riders := [], paused := [], queue := [], absorbed := [], raised := [], joined := [], merge := [],
    track := [], calRow := 0, calBank := 0, calFree := 0, lapStart := 0, lapLast := 0, laps := 0, esc := false, lapLate := false,
    lost := false, filled := false, zeroing := false, zeroAt := 0, ovfSheet := 0 }
def Arb.reset : Arb :=
  { rankPin := none, rankLack := [], waitPin := none, waitLack := [], count := 0, lanes := 0, moved := [], rbuf := [],
    bridgeRet := 0, acts := 0, debt := 0, cap := 0, winAt := 0, lateLogged := [] }
def StackClk.reset : StackClk :=
  { stc := 0, pll := .off, fails := [], pllHold := false, lostRef := false, opcur := 0, optgt := 0, opOld := 0, phase := .none,
    phaseAt := 0, oprb := false, opfail := false, opTickets := [], withholdAck := false, doms := 0, sr := [],
    asleep := false, asleepAt := 0, waking := false, ecoDone := false, ref2x := false, ref2xNext := false,
    lastAge := 0, missed := 0 }
def Heat.reset : Heat :=
  { temp := none, temp1 := none, temp2 := none, demand := 0, st := .idle, tg := 0, tgTemp := 0, tl := 0, lt := 0,
    cool := none, trips := [], held := false, disagree := false, disagreeOk := 10, badSrc := [], srcOk := [],
    snsFault := false, fallback := false, riseHigh := false, injTemp := 0, injRounds := 0, released := false,
    critical := false }
def Power.reset : Power :=
  { ladder := 0, actLim := 0, lp := 0, win := [], act := 0, rds := 0, wrs := 0, refs := 0, raw := 0, roundRaw := 0,
    gp := 1000, stretch := false, leafEnergy := [], tenEnergy := [], zeroEnergy := 0, retired := 0, loadAt := 0,
    vdd := 0, bgRound := 0, loadPct := 0, highRun := 0 }
def Discovery.unknown : Discovery :=
  { stype := 0, rate := 0, serial := 0, spares := 0, wstep := 0, spareRows := 0 }
def Supply.reset : Supply :=
  { enable := false, good := false, goodAt := 0, enableAt := 0, recoverAt := none, fenced := false,
    disc := Discovery.unknown, stype := 0, rate := 0, trained := false, training := false, imported := false,
    quickDone := false, rstOutLow := true, clearTicket := 0, spareRows := [], badSpares := [] }
def LaneCal.reset : LaneCal :=
  { valid := false, dly := 0, vref := 0, ew := 0, eh := 0, left := 0, right := 0, lo := 0, hi := 0, spare := false }
def ChanCal.reset : ChanCal :=
  { temp := 0, load := 0, optag := 0, vdd := 0, rx := [], tx := [], wv0 := 0, wv1 := 0, spmap := [], untrained := false }
def Margin.reset : Margin :=
  { dir := 0, off := 1, marg := [0, 0, 0, 0], low := false, lowRun := 0, evals := 0 }
def Chan.reset : Chan :=
  { cal := ChanCal.reset, eco := none, corr := none, pendingCorr := false, stale := false, lastCause := 0,
    retrain := none, step := none, loadTag := 0, loadOnce := false, retrainTickets := [], gap := false, gapAt := 0, apply := false,
    bias := (0, 0), margins := [], parity := [], retrainEnd := none, parityAlarm := false, laneCe := [], ueWords := [],
    rowLast := none }
def Drr.reset : Drr :=
  { occ := 0, flows := [], round := [], left := 0 }
def Marker.reset : Marker :=
  { tc := 0, tp := 0, oldRates := none }
def Digest.reset : Digest :=
  { count := 0, nans := 0, infs := 0, stains := 0, flags := 0, min := none, max := none, sum := 0, sumsq := 0, hash := 0 }
def Lake.reset : Lake :=
  { accus := [], tiles := [], gathers := [], dbPending := [], digests := [], dumpAt := 0 }
def Feeder.reset : Feeder :=
  { stream := none, reject := 0, lateCnt := 0, stall := 0, rdy := 15, out := none }
def Page.reset : Page :=
  { ring := [], cplRing := [], bulk := [], cmdTail := 0, cmdHead := 0, cplTail := 0, cplHead := 0, tailErr := false,
    evLost := false, ctrl := 0, pstate := .closed, gen := 0, epoch := 0, caps := 0, tgenOpen := 0, owed := 0,
    waiting := [], events := [], lostCount := 0, queued := false, withdrawn := [] }
def HostSt.reset : HostSt :=
  { watched := false, beat := 0, lost := false, lostAt := 0, leaseOn := false, accept := none }
def TenSt.reset : TenSt :=
  { step0 := 0, step1 := 0, stepHalf := 0, umap := false, debugRights := false, subs := [], throttle := 0, tsTime := 0,
    ePj := 0, bPj := 0, rangeSheet := none, permSheet := none }
def Ring.reset : Ring :=
  { wr := 0, rd := 0, tail := 0, badrd := false, gap := none, seq := 0 }
def Hold.reset : Hold :=
  { tag := 0, w0 := 0, w1 := 0, w2 := 0 }

/-- AON time and sheet counter from the release of PORST_N: the timebase at 0 and unaligned, inc nominal (R139, R219,
R220). The first sheet starts at timebase 0. -/
def Clock.reset : Clock :=
  { ticks := 0, tb := 0, inc := 10 * 2 ^ 32, acc := 0, aligned := false, ntLock := false, ntValid := false, ntHigh := 0, ntTod := 0,
    refLost := false, refLostAt := 0, sheetNum := 0, sheetStart := 0, trans := false, stepped := false, live := false, defer := false,
    lsb := 0, oldGrid := none, comp := [], incLast := 10 * 2 ^ 32, halfOff := [], halfQuiet := [] }

def Pins.reset : Pins :=
  { ready := false, thrReq := false, thrLevel := 0, thrAck := 0, stopIn := false, stopped := false, latches := 0,
    thermtrip := false, porst := true, chipRst := false, qspiReleased := false }

def Slot.erased : Slot :=
  { sized := false, signed := false, iver := 0, svn := 0, raise := false, loadlen := 0, caps := 0, gens := 0,
    seq := 0xFFFFFFFF, commit := false, revoked := false }

/-- A record slot that reads as erased. -/
def RecSlot.erased : RecSlot := ⟨List.replicate 64 0xFF, [], 0xFFFFFFFF, 0xFFFFFFFF⟩

def FlashDev.none : FlashDev :=
  { answers := false, sizeMiB := 0, eraseOk := false, slotA := Slot.erased, slotB := Slot.erased, minSvn := 0,
    trimA := RecSlot.erased, trimB := RecSlot.erased, mapA := RecSlot.erased, mapB := RecSlot.erased,
    baseA := RecSlot.erased, baseB := RecSlot.erased }

def FlashRecs.none : FlashRecs :=
  { trimValid := false, trim := [], mapValid := false, mapSeq := 0, serials := [], altSerials := [], map := [],
    baseValid := false, baseSeq := 0, baseSerials := [], base := [] }

/-- Boot state under PORST_N: IMPWAIT of BKP0 resets to 20 (Table 16.4). -/
def Boot.reset : Boot :=
  { dev := FlashDev.none, recs := FlashRecs.none, wroteAt := none, coreReset := true, firmware := false, fwAt := 0, loaded := none, bkp := [(0, 20 * 2 ^ 18)],
    imported := false, importWait := none, seqAt := none, trialAt := 0, pauseAt := none, handTicket := 0,
    stagePage := none, stageNext := 0, stageAt := 0, stagePage0 := [], claim := none, drains := [], critOnce := false,
    writeLeft := [], mordantRst := false, mrstAt := 0 }

def Trace.reset : Trace :=
  { buffer := [], newest := none, pendingAlarms := [], summaries := [], mirror := [], rate := [], rings := [],
    filters := [], filtCnt := [], samplers := [], sampleStat := 0, apSel := 0, apBusy := false, apReady := false,
    apPage := [], scanCtl := 0, scanBusy := false, scanDone := false, scanErr := false, scanCode := 0, scanWords := 0,
    scanBase := 0, unlocked := false, code := none, tries := 0, cores := 0 }

def Regs.reset : Regs :=
  { accerr := 0, accerrAddr := 0, irqEn := 0, gmiss := 0, stainStat := 0, thermStat := 0, pkgPavg := 0, railPower := 0,
    maintStat := 0, isoEvt := 0, rstBusy := 0, roundAt := 0, tbCap := 0, tbCapStat := 0, winNum := 0, roundNext := 0,
    ladderNext := 0, holds := [] }

def Counters.reset : Counters :=
  { tenant := [], stack := [], channel := [], global := [], tally := [], remainUn := 0, remainChip := 0 }

/-- The active bank at its defaults (R222): the training profile, owner host 0, every table at its defaults. -/
def Banked.reset : Banked :=
  { settings := [], tenants := [], windows := [], quires := [], regions := [], tints := [], redTint := 15, yelTint := 7,
    ports := [], policers := [], gates := [], profile := 0, skews := [], feedPorts := [], feedSlots := [],
    doorbells := [], armings := [], opPoints := [], owner := some 0 }

end Sys2Proof.Machine
end

