-- ==== Sys2Proof/Machine/State.lean ====
section
/-! DEFINITION. The state of the block as plain data, its reset value, and the reasons a step could stop. -/

namespace Sys2Proof.Machine

/-- Reasons a step stops with a fault. The spec ends no command of this block with a stop of the machine, so no meaning
raises one. -/
inductive Fault
  /-- Kept so that the type has a name to give; no command raises it. Safe: it is never raised. -/
  | unreachable
deriving DecidableEq, Repr

/-- Reasons a step refuses a command. -/
inductive Refusal
  /-- A command whose meaning is not written yet; raised by exec's arm for it alone. Safe: the model says nothing. -/
  | notModelled (mnemonic : String)
deriving DecidableEq, Repr

/-- Everything the manual gives the block, with the queue of commands that wait, first in, first out. -/
structure State where
  clk : Clock
  pins : Pins
  boot : Boot
  bank : Banked
  sets : List ChangeSet
  ports : Tab Port
  aff : Tab Aff
  reqs : Tab Req
  parts : Tab Part
  nextId : Nat
  leaves : Tab Leaf
  prots : Tab RowProt
  cares : Tab Care
  arbs : Tab Arb
  sclk : Tab StackClk
  heat : Tab Heat
  power : Tab Power
  supply : Tab Supply
  chans : Tab Chan
  drrs : Tab Drr
  markers : Tab Marker
  debts : List Debt
  lake : Lake
  feeders : Tab Feeder
  pages : Tab Page
  serviceq : List Nat
  tickets : Tab Ticket
  hosts : Tab HostSt
  tenants : Tab TenSt
  cnt : Counters
  trace : Trace
  regs : Regs
  stores : List NvStore
  idle : Tab Nat
  xfer : List Host.Cell
  hostMem : List Host.Cell
  mem : List Host.Cell
  chk : List Host.Cell
  freeCount : Nat
  pending : List Instr
deriving DecidableEq, Repr

/-- The block under PORST_N (R496: power-on keeps nothing): every table at its defaults, memory with nothing listed, and
an empty queue. Values the manual does not give are a DESIGN CHOICE, unsafe: assumption 4. -/
def State.reset : State :=
  { clk := Clock.reset, pins := Pins.reset, boot := Boot.reset, bank := Banked.reset, sets := [], ports := [], aff := [],
    reqs := [], parts := [], nextId := 1, leaves := [], prots := [], cares := [], arbs := [], sclk := [], heat := [],
    power := [], supply := [], chans := [], drrs := [], markers := [], debts := [], lake := Lake.reset, feeders := [],
    pages := [], serviceq := [], tickets := [], hosts := [], tenants := [], cnt := Counters.reset, trace := Trace.reset,
    regs := Regs.reset, stores := [], idle := [], xfer := [], hostMem := [], mem := [], chk := [], freeCount := 0,
    pending := [] }

end Sys2Proof.Machine
end

