-- ==== Sys2Proof/Machine/Ops.lean ====
section
/-! DEFINITION. The named operations every meaning is built from: reads and writes of the tables, settings with their
defaults (Table 15.3), time, memory, counters, event records, notifications and events. -/

namespace Sys2Proof.Machine

/-! ## Tables -/

def State.port (s : State) (p : Nat) : Port := Tab.get Port.reset s.ports p
def State.setPort (s : State) (p : Nat) (x : Port) : State := { s with ports := Tab.set Port.reset s.ports p x }
def State.leaf (s : State) (l : Nat) : Leaf := Tab.get Leaf.reset s.leaves l
def State.setLeaf (s : State) (l : Nat) (x : Leaf) : State := { s with leaves := Tab.set Leaf.reset s.leaves l x }
def State.prot (s : State) (l : Nat) : RowProt := Tab.get RowProt.reset s.prots l
def State.setProt (s : State) (l : Nat) (x : RowProt) : State := { s with prots := Tab.set RowProt.reset s.prots l x }
def State.care (s : State) (l : Nat) : Care := Tab.get Care.reset s.cares l
def State.setCare (s : State) (l : Nat) (x : Care) : State := { s with cares := Tab.set Care.reset s.cares l x }
def State.arb (s : State) (k : Nat) : Arb := Tab.get Arb.reset s.arbs k
def State.setArb (s : State) (k : Nat) (x : Arb) : State := { s with arbs := Tab.set Arb.reset s.arbs k x }
def State.sck (s : State) (k : Nat) : StackClk := Tab.get StackClk.reset s.sclk k
def State.setSck (s : State) (k : Nat) (x : StackClk) : State := { s with sclk := Tab.set StackClk.reset s.sclk k x }
def State.heatOf (s : State) (k : Nat) : Heat := Tab.get Heat.reset s.heat k
def State.setHeat (s : State) (k : Nat) (x : Heat) : State := { s with heat := Tab.set Heat.reset s.heat k x }
def State.pow (s : State) (k : Nat) : Power := Tab.get Power.reset s.power k
def State.setPow (s : State) (k : Nat) (x : Power) : State := { s with power := Tab.set Power.reset s.power k x }
def State.sup (s : State) (k : Nat) : Supply := Tab.get Supply.reset s.supply k
def State.setSup (s : State) (k : Nat) (x : Supply) : State := { s with supply := Tab.set Supply.reset s.supply k x }
def State.chan (s : State) (c : Nat) : Chan := Tab.get Chan.reset s.chans c
def State.setChan (s : State) (c : Nat) (x : Chan) : State := { s with chans := Tab.set Chan.reset s.chans c x }
def State.drr (s : State) (k : Nat) : Drr := Tab.get Drr.reset s.drrs k
def State.setDrr (s : State) (k : Nat) (x : Drr) : State := { s with drrs := Tab.set Drr.reset s.drrs k x }
def State.feeder (s : State) (f : Nat) : Feeder := Tab.get Feeder.reset s.feeders f
def State.setFeeder (s : State) (f : Nat) (x : Feeder) : State := { s with feeders := Tab.set Feeder.reset s.feeders f x }
def State.page (s : State) (p : Nat) : Page := Tab.get Page.reset s.pages p
def State.setPage (s : State) (p : Nat) (x : Page) : State := { s with pages := Tab.set Page.reset s.pages p x }
def State.host (s : State) (h : Nat) : HostSt := Tab.get HostSt.reset s.hosts h
def State.setHost (s : State) (h : Nat) (x : HostSt) : State := { s with hosts := Tab.set HostSt.reset s.hosts h x }
def State.tenSt (s : State) (t : Nat) : TenSt := Tab.get TenSt.reset s.tenants t
def State.setTenSt (s : State) (t : Nat) (x : TenSt) : State := { s with tenants := Tab.set TenSt.reset s.tenants t x }
def State.ring (s : State) (r : Nat) : Ring := Tab.get Ring.reset s.trace.rings r
def State.setRing (s : State) (r : Nat) (x : Ring) : State :=
  { s with trace := { s.trace with rings := Tab.set Ring.reset s.trace.rings r x } }

def Banked.tenant (b : Banked) (t : Nat) : TenantRec := Tab.get TenantRec.none b.tenants t
def Banked.window (b : Banked) (t w : Nat) : Window := Tab.get Window.none b.windows (t * 8 + w)
def Banked.quire (b : Banked) (q : Nat) : QuireRec := Tab.get QuireRec.none b.quires q
def Banked.region (b : Banked) (t r : Nat) : Region := Tab.get Region.none b.regions (t * 64 + r)
def Banked.tint (b : Banked) (t : Nat) : Tint := Tab.get (defaultTint t) b.tints t
def Banked.port (b : Banked) (p : Nat) : PortRec := Tab.get PortRec.default b.ports p
def Banked.policer (b : Banked) (t : Nat) : Policer := Tab.get Policer.default b.policers t
def Banked.gate (b : Banked) (q : Nat) : GateList := Tab.get GateList.none b.gates q
def Banked.skew (b : Banked) (i : Nat) : Skew := Tab.get Skew.none b.skews i
def Banked.feedPort (b : Banked) (i : Nat) : FeederPort := Tab.get FeederPort.none b.feedPorts i
def Banked.feedSlot (b : Banked) (i : Nat) : FeederSlot := Tab.get FeederSlot.none b.feedSlots i
def Banked.doorbell (b : Banked) (i : Nat) : Doorbell := Tab.get Doorbell.none b.doorbells i
def Banked.arming (b : Banked) (i : Nat) : Arming := Tab.get Arming.none b.armings i
def Banked.setTenant (b : Banked) (t : Nat) (x : TenantRec) : Banked :=
  { b with tenants := Tab.set TenantRec.none b.tenants t x }
def Banked.setWindow (b : Banked) (t w : Nat) (x : Window) : Banked :=
  { b with windows := Tab.set Window.none b.windows (t * 8 + w) x }
def Banked.setQuire (b : Banked) (q : Nat) (x : QuireRec) : Banked :=
  { b with quires := Tab.set QuireRec.none b.quires q x }

def State.setBank (s : State) (b : Banked) : State := { s with bank := b }

/-! ## Settings -/

/-- A setting of Table 15.3: scope (0 chip, 1 stack, 2 host), least, greatest, step and default, in VALUE units. -/
structure SettingSpec where
  scope : Nat
  lo : Nat
  hi : Nat
  step : Nat
  dflt : Nat
deriving DecidableEq, Repr

/-- Table 15.3 with the ranges and defaults of the tables it names; none for a code it does not list. ACT_BUDGET is
given for HBM4; `settingSpec` narrows it for HBM3E-class stacks. -/
def settingRow (code : Nat) : Option SettingSpec :=
  match code with
  | 0x2601 => some ⟨1, 4, 32, 1, 24⟩
  | 0x2602 => some ⟨1, 0, 31, 1, 8⟩
  | 0x2603 => some ⟨1, 8, 256, 1, 16⟩
  | 0x2604 => some ⟨1, 128, 2048, 64, 1536⟩
  | 0x2605 => some ⟨1, 4, 256, 1, 16⟩
  | 0x2801 => some ⟨0, 10, 1000000, 1, 1000⟩
  | 0x2802 => some ⟨0, 0, 999999, 1, 0⟩
  | 0x2803 => some ⟨0, 10, 1000, 1, 20⟩
  | 0x3101 => some ⟨0, 1, 10000, 1, 100⟩
  | 0x3102 => some ⟨1, 1, 50, 1, 4⟩
  | 0x3103 => some ⟨1, 32, 256, 32, 128⟩
  | 0x3104 => some ⟨1, 8, 512, 8, 256⟩
  | 0x3105 => some ⟨1, 10, 60, 5, 40⟩
  | 0x4001 => some ⟨1, 75, 85, 1, 85⟩
  | 0x4002 => some ⟨1, 70, 84, 1, 82⟩
  | 0x4003 => some ⟨1, 1, 8, 1, 8⟩
  | 0x4004 => some ⟨1, 0, 8, 1, 2⟩
  | 0x4005 => some ⟨1, 128, 8192, 128, 2048⟩
  | 0x4006 => some ⟨1, 1, 64, 1, 4⟩
  | 0x4007 => some ⟨1, 64, 8128, 64, 1536⟩
  | 0x4008 => some ⟨1, 1, 2, 1, 2⟩
  | 0x4009 => some ⟨1, 2, 64, 2, 16⟩
  | 0x400A => some ⟨1, 5, 30, 1, 25⟩
  | 0x400B => some ⟨1, 1, 100, 1, 10⟩
  | 0x400C => some ⟨1, 0, 1, 1, 1⟩
  | 0x400D => some ⟨1, 1, 64, 1, 8⟩
  | 0x400E => some ⟨1, 1, 168, 1, 24⟩
  | 0x400F => some ⟨1, 1, 720, 1, 168⟩
  | 0x4010 => some ⟨1, 16, 4096, 1, 256⟩
  | 0x4011 => some ⟨1, 4, 256, 1, 16⟩
  | 0x4012 => some ⟨1, 0, 1, 1, 0⟩
  | 0x5001 => some ⟨0, 0, 10000, 1, 50⟩
  | 0x5002 => some ⟨1, 0, 2, 1, 2⟩
  | 0x5003 => some ⟨1, 0, 10000, 1, 50⟩
  | 0x5201 => some ⟨1, 80, 100, 1, 95⟩
  | 0x5202 => some ⟨1, 1, 8, 1, 2⟩
  | 0x5203 => some ⟨1, 1, 10, 1, 3⟩
  | 0x5204 => some ⟨1, 2, 20, 1, 6⟩
  | 0x5205 => some ⟨0, 1, 40, 1, 4⟩
  | 0x5206 => some ⟨0, 1, 100, 1, 10⟩
  | 0x5207 => some ⟨0, 0, 7, 1, 4⟩
  | 0x5208 => some ⟨0, 0, 40, 1, 25⟩
  | 0x5209 => some ⟨1, 20, 100, 10, 50⟩
  | 0x520A => some ⟨0, 200, 1000, 1, 900⟩
  | 0x520B => some ⟨1, 20, 60, 1, 56⟩
  | 0x520C => some ⟨0, 1, 100, 1, 10⟩
  | 0x5801 => some ⟨0, 8, 48, 1, 20⟩
  | 0x5802 => some ⟨0, 2, 32, 1, 8⟩
  | 0x5803 => some ⟨0, 1, 16, 1, 6⟩
  | 0x5804 => some ⟨0, 1, 16, 1, 3⟩
  | 0x5805 => some ⟨0, 5, 30, 1, 15⟩
  | 0x5806 => some ⟨0, 0, 95, 5, 60⟩
  | 0x5807 => some ⟨0, 2, 32, 1, 8⟩
  | 0x5808 => some ⟨0, 1, 16, 1, 4⟩
  | 0x5809 => some ⟨0, 0, 100, 1, 20⟩
  | 0x6001 => some ⟨0, 0, 8, 1, 8⟩
  | 0x6002 => some ⟨2, 1, 1000, 1, 100⟩
  | 0x6003 => some ⟨2, 1, 3600, 1, 60⟩
  | 0x6004 => some ⟨2, 0, 1, 1, 0⟩
  | _ => none

/-- Geometry of a stack as discovered and supported (R52); none while nothing is discovered. -/
def State.geom (s : State) (k : Nat) : Geom := geomOf (s.sup k).stype

/-- Whether a stack is HBM4 (an undiscovered port counts as HBM4). -/
def State.hbm4 (s : State) (k : Nat) : Bool := decide ((s.sup k).stype ≤ 4)

/-- A setting of an instance, with Table 3.6's ranges for the stack's type. -/
def State.settingSpec (s : State) (code inst : Nat) : Option SettingSpec :=
  if code = 0x2604 && !s.hbm4 inst then some ⟨1, 64, 1024, 64, 768⟩ else settingRow code

def Banked.settingAt (b : Banked) (code inst : Nat) (spec : Option SettingSpec) : Nat :=
  (Tab.find? b.settings (code * 2 ^ 16 + inst)).getD (match spec with | some r => r.dflt | none => 0)

/-- The active value of a setting instance. -/
def State.setting (s : State) (code inst : Nat) : Nat := s.bank.settingAt code inst (s.settingSpec code inst)

/-- Whether a VALUE lies in its range and on its steps (R466). -/
def SettingSpec.admits (r : SettingSpec) (v : Nat) : Bool :=
  decide (r.lo ≤ v) && decide (v ≤ r.hi) && (if r.step = 5 && r.lo == 0 then v == 0 || (decide (30 ≤ v) && v % 5 == 0)
    else (v - r.lo) % r.step == 0)

/-! ## Time -/

/-- The timebase in whole ns. -/
def State.now (s : State) : Nat := s.clk.tb / 2 ^ 32

/-- The model's 1/12 ns clock, in which command timing is kept: 120 for each REF_CLK period. -/
def State.now12 (s : State) : Nat := s.clk.ticks * 120

/-- REF_CLK periods in n microseconds. -/
def us (n : Nat) : Nat := n * 100

/-- REF_CLK periods in n milliseconds. -/
def ms (n : Nat) : Nat := n * 100000

/-- Nominal QCLK of a stack in cycles per 10 ns (R79, Table 3.1): 15 for HBM4; for an HBM3E-class stack 12, 10 or 8 by the
highest rate it reports. -/
def State.qPer10 (s : State) (k : Nat) : Nat :=
  if s.hbm4 k then 15 else match (s.sup k).rate with | 0 | 1 => 12 | 2 => 10 | _ => 8

/-- QCLK period at the present operating point, in 1/12 ns: 8, 10, 12 or 15, doubled at the economy point. -/
def State.qPeriod (s : State) (k : Nat) : Nat :=
  (120 / s.qPer10 k) * (if (s.sck k).opcur = 1 then 2 else 1) * (if (s.pow k).stretch then 5 else 4) / 4

/-- st(x): ns to stack time units, rounded up, modulo 2^32 (R167). -/
def State.stOf (s : State) (k x : Nat) : Nat := (x * s.qPer10 k + 9) / 10 % 2 ^ 32

/-- Signed 32-bit difference a - b (R169). -/
def diff32 (a b : Nat) : Int :=
  let d : Nat := (a + 2 ^ 32 - b % 2 ^ 32) % 2 ^ 32
  if d < 2 ^ 31 then (d : Int) else (d : Int) - 2 ^ 32

/-- Whether stack time has reached a held value. -/
def reached (stc v : Nat) : Bool := decide (0 ≤ diff32 stc v)

/-! ## Memory -/

/-- Key of a byte of a leaf in the data cells. -/
def cellKey (leaf la : Nat) : Nat := leaf * 2 ^ 31 + la

/-- A word of a leaf as stored: 64 data bits and the check byte. An unlisted word reads as the zero-fill of R334 leaves it
(DESIGN CHOICE before the first fill, unsafe: assumption 6). -/
def State.storedWord (s : State) (leaf la : Nat) : Word64 × Byte :=
  let k := cellKey leaf (la / 8 * 8)
  (BitVec.ofNat 64 ((List.range 8).foldl (fun a i => a + (Tab.get (0 : Byte) s.mem (k + i)).toNat * 256 ^ i) 0),
    Tab.get (0xFF : Byte) s.chk (k / 8))

/-- Store a word with its check byte. -/
def State.storeWord (s : State) (leaf la : Nat) (d : Word64) (c : Byte) : State :=
  let k := cellKey leaf (la / 8 * 8)
  { s with
    mem := (List.range 8).foldl (fun m i => Tab.set (0 : Byte) m (k + i) (BitVec.ofNat 8 (d.toNat / 256 ^ i))) s.mem,
    chk := Tab.set (0xFF : Byte) s.chk (k / 8) c }

/-- Store a run of whole words from a leaf-local address on, each with the check byte of its stain (R315, R319). -/
def State.storeWords (s : State) (leaf la : Nat) (ws : List SWord) : State :=
  (ws.zipIdx).foldl (fun s (w, i) => s.storeWord leaf (la + 8 * i) w.data (checkByte w.data w.stain)) s

/-- Zero-fill of a leaf: every word at data 0 with check byte 0xFF (R334). -/
def State.zeroLeaf (s : State) (leaf : Nat) : State :=
  { s with mem := Tab.keep s.mem (fun k _ => k / 2 ^ 31 != leaf), chk := Tab.keep s.chk (fun k _ => k / 2 ^ 28 != leaf) }

/-- A byte of a leaf as stored. -/
def State.byteAt (s : State) (leaf la : Nat) : Byte := Tab.get (0 : Byte) s.mem (cellKey leaf la)

/-- A cell list is canonical: addresses strictly rising and none holding what an unlisted address reads as. -/
def cellsWf (d : Byte) (m : List Host.Cell) : Bool := Tab.rising m && List.all m (fun (_, b) => b != d)

/-- Memory in canonical form: the stacks' data and check cells, the transfer area and host storage. -/
def Memory.wf (s : State) : Bool :=
  cellsWf 0 s.mem && cellsWf 0xFF s.chk && cellsWf 0 s.xfer && cellsWf 0 s.hostMem

/-! ## Counters -/

/-- Low halves of the chained pairs of Tables 17.2 and 17.9. -/
def chainedT : List Nat := [2, 4, 28, 30, 32, 40, 42, 44, 46]
def chainedG : List Nat := [0, 2, 4, 6, 18, 20, 22, 24, 26]

/-- Tenant counter: a chained pair is one 96-bit value held at its low index (R513, R514). -/
def State.cntT (s : State) (t i n : Nat) : State :=
  let w := if chainedT.contains i then 2 ^ 96 else 2 ^ 48
  let k := t * 64 + i
  { s with cnt := { s.cnt with tenant := Tab.set 0 s.cnt.tenant k ((Tab.num s.cnt.tenant k + n) % w) } }

def State.cntG (s : State) (i n : Nat) : State :=
  let w := if chainedG.contains i then 2 ^ 96 else 2 ^ 48
  { s with cnt := { s.cnt with global := Tab.set 0 s.cnt.global i ((Tab.num s.cnt.global i + n) % w) } }

def State.cntS (s : State) (k i n : Nat) : State :=
  let j := k * 32 + i
  { s with cnt := { s.cnt with stack := Tab.set 0 s.cnt.stack j ((Tab.num s.cnt.stack j + n) % 2 ^ 48) } }

/-- Channel counter (slot mode); `c` numbers channels over the package. -/
def State.cntC (s : State) (c i n : Nat) : State :=
  let j := c * 8 + i
  { s with cnt := { s.cnt with channel := Tab.set 0 s.cnt.channel j ((Tab.num s.cnt.channel j + n) % 2 ^ 48) } }

/-- Tally of a stack space at a byte offset of Table 18.10, saturating or wrapping (Table 17.6). -/
def State.tally (s : State) (k off n : Nat) (sat : Bool) : State :=
  let j := k * 0x20000 + off
  let v := Tab.num s.cnt.tally j + n
  let v' := if sat then min v 0xFFFFFFFF else v % 2 ^ 32
  { s with cnt := { s.cnt with tally := Tab.set 0 s.cnt.tally j v' } }

/-! ## Event records -/

/-- Ring sizes (Table 17.13). -/
def ringSize (r : Nat) : Nat := if r = 2 then 2 ^ 25 else 2 ^ 24

/-- Leaf-local base of a ring or the dump area (Table 17.13). -/
def areaBase (r : Nat) : Nat :=
  match r with | 0 => 0 | 1 => 0x1000000 | 2 => 0x2000000 | _ => 0x4000000

/-- The system leaf (R51): 1023 when stack 15 carries HBM4, 991 when it carries an HBM3E-class stack. -/
def State.sysLeaf (s : State) : Option Nat :=
  let t := (s.sup 15).stype
  if t = 0 then none else if t ≤ 4 then some 1023 else some 991

/-- A debug stop is in force (R544). -/
def State.stopping (s : State) : Bool := s.pins.stopIn || s.pins.latches != 0

/-- Little-endian bytes of a number. -/
def leBytes (n v : Nat) : List Nat := (List.range n).map (fun i => v / 256 ^ i % 256)

/-- Number of little-endian bytes. -/
def ofLe (bs : List Nat) : Nat := bs.foldr (fun b a => b + 256 * a) 0

/-- Free bytes of a ring, counting what waits in the buffer. -/
def State.ringFree (s : State) (r : Nat) : Nat := ringSize r - ((s.ring r).tail - (s.ring r).rd)

/-- Bytes gathered in the record buffer. -/
def State.bufferBytes (s : State) : Nat := (s.trace.buffer.map (fun r => r.len * 32)).sum

/-- Put a record into the buffer and its ring's count; a PAD fills the rest of a ring that it would cross (R532, R534). -/
def State.appendRec (s : State) (r : Nat) (x : Rec) : State :=
  let g := s.ring r
  let size := ringSize r
  let room := size - g.tail % size
  let pad := if x.len * 32 > room then room else 0
  let seq := g.seq + 1
  let y := { x with seq := seq, ring := r, at_ := s.clk.ticks }
  let padRec : Rec := ⟨s.now, 0, pad / 32, 0, 0, 0, 0, 1, 0, [], r, s.clk.ticks⟩
  let s1 := s.setRing r { g with tail := g.tail + pad + x.len * 32, seq := seq }
  let buf := if pad = 0 then s1.trace.buffer ++ [y] else s1.trace.buffer ++ [padRec, y]
  let t := { s1.trace with buffer := buf }
  let t' := if r = 0 then { t with newest := some (y, g.tail + pad) } else t
  { s1 with trace := t' }

/-- Same KIND, SRCID and body bytes 8-31 (R535). -/
def Rec.sameAs (a b : Rec) : Bool :=
  a.kind == b.kind && a.cls == b.cls && a.num == b.num && (a.body.drop 8).take 24 == (b.body.drop 8).take 24

/-- A repeat folded into a record: COUNT, COALESCED, LDELTA (R535). -/
def Rec.fold (a : Rec) (now : Nat) : Rec :=
  { a with count := a.count + 1, flags := if a.flags / 2 % 2 = 1 then a.flags else a.flags + 2,
           ldelta := min (now - a.time) 0xFFFFFFFF }

/-- Bytes of a record: the header of Table 17.14 and its body. -/
def Rec.bytes (r : Rec) : List Nat :=
  let head := leBytes 8 r.time ++ leBytes 2 r.kind ++ [min 8 r.len, 1] ++ leBytes 2 (r.cls * 4096 + r.num) ++
    leBytes 2 r.flags ++ leBytes 8 r.seq ++ leBytes 4 r.count ++ leBytes 4 r.ldelta
  (head ++ r.body ++ List.replicate (32 * r.len) 0).take (32 * r.len)

/-- Store bytes in the system leaf, a whole number of words. -/
def State.storeSystem (s : State) (la : Nat) (bytes : List Nat) : State :=
  match s.sysLeaf with
  | none => s
  | some l => s.storeWords l la ((List.range (bytes.length / 8)).map (fun i =>
      ⟨BitVec.ofNat 64 (ofLe ((bytes.drop (8 * i)).take 8)), 0xFF, false⟩))

/-- Fold a repeat into every copy of a record, by its sequence number: the buffer or the system leaf, the mirror, and the
newest (R534, R535). -/
def State.foldAlarm (s : State) (seq : Nat) : State :=
  let f (r : Rec) : Rec := if r.ring = 0 && r.seq == seq then r.fold s.now else r
  { s with trace := { s.trace with
      buffer := s.trace.buffer.map f, mirror := s.trace.mirror.map f,
      newest := s.trace.newest.map (fun (r, a) => (f r, a)) } }

/-- The newest alarm's record is written again in the system leaf where it has moved there (R535). -/
def State.storeNewest (s : State) : State :=
  match s.trace.newest with
  | some (r, a) => if a + 32 * r.len ≤ (s.ring 0).wr then s.storeSystem (areaBase 0 + a % ringSize 0) r.bytes else s
  | none => s

/-- The alarm mirror holds the newest 32 KiB (Table 16.5). -/
def fitMirror : List Rec → List Rec
  | [] => []
  | r :: t => if ((r :: t).map (fun x => x.len * 32)).sum ≤ 32768 then r :: t else fitMirror t

/-- A record is copied to the alarm mirror (R534). -/
def State.mirrored (s : State) (x : Rec) : State := { s with trace := { s.trace with mirror := fitMirror (s.trace.mirror ++ [x]) } }

/-- Change the mirror's copies of alarms that wait for the ring: they have no SEQ yet. -/
def State.mirrorMap (s : State) (p : Rec → Bool) (f : Rec → Rec) : State :=
  { s with trace := { s.trace with mirror := s.trace.mirror.map (fun r => if r.seq == 0 && p r then f r else r) } }

/-- KIND of an alarm and CAUSE of a NOTE, by which summaries are kept (R536). -/
def Rec.sumKey (r : Rec) : Nat × List Nat := (r.kind, if r.kind = 0x12 then (r.body.drop 8).take 2 else [])

/-- Key of a record's source (SRCID). -/
def Rec.srcKey (r : Rec) : Nat := r.cls * 4096 + r.num

/-- Note a dropped record of a ring (R538). -/
def State.dropRec (s : State) (x : Rec) (reason : Nat) : State :=
  let g := s.ring x.ring
  let gap := match g.gap with
    | none => { first := s.now, last := s.now, lost := 1, reason := reason, multi := false, src := x.srcKey,
                msec := if reason = 1 then some (s.now / 1000000) else none : Gap }
    | some q => { q with last := s.now, lost := q.lost + 1, multi := q.multi || q.src != x.srcKey,
                         msec := if reason = 1 then some (s.now / 1000000) else q.msec }
  let s := s.cntG (if x.ring = 1 then 13 else 14) 1
  s.setRing x.ring { g with gap := some gap }

/-- Every sleeping Mordant core wakes (R429). -/
def State.wakeCores (s : State) : State :=
  if s.boot.firmware then { s with trace := { s.trace with cores := 15 } } else s

/-- MCLK runs: not every Mordant core sleeps. Else the Mordant PLL is in standby (R429, Table 5.1). -/
def State.mclkRuns (s : State) : Bool := s.trace.cores != 0

/-- An alarm (R535, R536): a repeat is folded into the newest record; with less than 512 B free it waits in the pending
store of 1024 records, and past that is folded into the summary of its KIND and CAUSE. The mirror has its copy from then on (R534). -/
def State.alarmRec (s : State) (x : Rec) : State :=
  let s := s.wakeCores
  let rep := match s.trace.newest with
    | some (r, a) => r.sameAs x && decide ((s.ring 0).rd ≤ a) && decide (s.now - r.time < 0xFFFFFFFF)
    | none => false
  if rep then
    match s.trace.newest with
    | some (r, _) => (s.foldAlarm r.seq).storeNewest.cntG 12 1
    | none => s
  else if s.ringFree 0 < 512 || !s.trace.pendingAlarms.isEmpty then
    if s.trace.pendingAlarms.any (fun r => r.sameAs x) then
      let ps := s.trace.pendingAlarms.map (fun r => if r.sameAs x then r.fold s.now else r)
      (({ s with trace := { s.trace with pendingAlarms := ps } }).mirrorMap (fun r => r.sameAs x) (fun r => r.fold s.now)).cntG 12 1
    else if s.trace.pendingAlarms.length < 1024 then
      ({ s with trace := { s.trace with pendingAlarms := s.trace.pendingAlarms ++ [x] } }).mirrored x
    else
      let mine (r : Rec) : Bool := r.cls == 15 && r.sumKey == x.sumKey
      if s.trace.summaries.any mine then
        let ss := s.trace.summaries.map (fun r => if mine r then r.fold s.now else r)
        (({ s with trace := { s.trace with summaries := ss } }).mirrorMap mine (fun r => r.fold s.now)).cntG 12 1
      else
        let y : Rec := { x with cls := 15, num := 4095 }
        ({ s with trace := { s.trace with summaries := s.trace.summaries ++ [y] } }).mirrored y
  else
    let s := (s.appendRec 0 x).cntG 9 1
    s.mirrored ((s.trace.newest.map (fun (r, _) => r)).getD x)

/-- A log record (R537): at most 32 of one source in an aligned millisecond; dropped where the ring has less than
512 B free or the buffer is full. -/
def State.logRec (s : State) (x : Rec) : State :=
  let m := s.now / 1000000
  let (m0, n0) := Tab.get (0, 0) s.trace.rate x.srcKey
  let n := if m0 = m then n0 else 0
  if n ≥ 32 then s.dropRec x 1
  else
    let s := { s with trace := { s.trace with rate := Tab.put s.trace.rate x.srcKey (m, n + 1) } }
    if s.ringFree 1 < 512 || s.bufferBytes + x.len * 32 > 65536 then s.dropRec x 2
    else (s.appendRec 1 x).cntG 10 1

/-- A trace record (R537). -/
def State.traceRec (s : State) (x : Rec) : State :=
  if s.ringFree 2 < 512 || s.bufferBytes + x.len * 32 > 65536 then s.dropRec x 2
  else (s.appendRec 2 x).cntG 11 1

/-- Header FLAGS of a record written now (Table 17.14). -/
def State.recFlags (s : State) : Nat := s.clk.aligned.toNat + (if s.pins.stopped then 4 else 0)

/-- A record with a body, before it is written. -/
def State.mkRec (s : State) (kind ring cls num len : Nat) (body : List Nat) : Rec :=
  ⟨s.now, kind, len, cls, num, s.recFlags, 0, 1, 0, body, ring, s.clk.ticks⟩

/-- A NOTE record (R533): TIME, CAUSE, UNIT and the ARGS packed from byte 12. Causes below 0x40 are alarms. -/
def State.note (s : State) (cause cls num : Nat) (args : List (Nat × Nat)) : State :=
  let body := (leBytes 8 s.now ++ leBytes 2 cause ++ leBytes 2 num ++ (args.flatMap (fun (n, v) => leBytes n v)) ++
    List.replicate 20 0).take 32
  if cause < 0x40 then s.alarmRec (s.mkRec 0x12 0 cls num 2 body) else s.logRec (s.mkRec 0x12 1 cls num 2 body)

/-! ## Free values -/

/-- Advance the counter that makes free values fresh (DESIGN CHOICE, the model's own field, safe: assumption 5). -/
def State.fresh (s : State) : State := { s with freeCount := s.freeCount + 1 }

/-! ## Notifications -/

/-- Queue a response or notification on a port's response lane. -/
def State.pushLane (s : State) (p : Nat) (r : RespBeat) : State :=
  let q := s.port p
  s.setPort p { q with lane := q.lane ++ [r] }

/-- A notification header with one beat whose first 32 B carry the body (Table 1.6, R314). -/
def ntfBeat (kind sid ten : Nat) (body : List Nat) : RespBeat :=
  { req := 0, tag := 0, resp := 0, last := true, ntf := true, nkind := kind, sid := sid, ten := ten, hasData := true,
    data := BitVec.ofNat 2048 (ofLe body), dvld := 1, dstain := 0, free := false }

/-- Route a notification by the stream-affinity table (R30). -/
def State.notify (s : State) (kind sid ten : Nat) (body : List Nat) : State :=
  match Tab.find? s.aff sid with
  | none => (s.cntG 8 1).note 0x43 0 0 [(2, sid), (1, kind)]
  | some e =>
    let s1 := s.pushLane e.port (ntfBeat kind sid ten body)
    if e.flap then s1.pushLane e.alt (ntfBeat kind sid ten body) else s1

end Sys2Proof.Machine
end

