-- ==== Sys2Proof/Machine/Mail.lean ====
section
/-! DEFINITION. Completions and events of the mailbox pages: entry layouts, ring space, tickets of taken commands and
the service queue (R433-R439, R445, Tables 14.8-14.10). -/

namespace Sys2Proof.Machine

/-- Status codes (Table 14.9). -/
def stOk : Nat := 0
def stQueued : Nat := 1
def stBusy : Nat := 2
def stDenied : Nat := 3
def stBadArg : Nat := 4
def stNoResource : Nat := 5
def stStale : Nat := 6
def stAborted : Nat := 7
def stPending : Nat := 8
def stRetryFw : Nat := 9
def stHwFault : Nat := 10

/-- RESULT of a status that no argument explains: ARGPOS 0xFFFF and no step of R462 (R463). -/
def noArg : List Nat := [0xFF, 0xFF, 0]

/-- Entries used in a ring with modulo-64 pointers. -/
def ringUsed (tail head : Nat) : Nat := (tail + 64 - head) % 64

/-- STATUS as an MMP-2 page carries it (Table 14.9). -/
def statusMmp2 (st : Nat) : Nat := if st = 9 then 2 else st

/-- A completion entry (Table 14.8). `fin` is FINAL. -/
def cplBits (mmp2 : Bool) (ctag opcode st sheet : Nat) (fin event bulk : Bool) (result : List Nat) : Nat :=
  let fl := fin.toNat + 2 * event.toNat + 4 * bulk.toNat
  if mmp2 then
    ofLe (leBytes 4 ctag ++ [opcode % 256, statusMmp2 st, 0, 0] ++ (result ++ List.replicate 8 0).take 8)
  else
    ofLe (leBytes 4 ctag ++ leBytes 2 opcode ++ [st, fl] ++ leBytes 6 sheet ++ [0, 0] ++
      (result ++ List.replicate 16 0).take 16)

/-- The bulk area taking a result: words from offset 0. -/
def bulkOf (bytes : List Nat) : Tab Nat :=
  (List.range ((bytes.length + 3) / 4)).filterMap (fun i =>
    let v := ofLe ((bytes.drop (4 * i)).take 4)
    if v = 0 then none else some (i, v))

/-- Write one completion into the ring. -/
def Page.write (p : Page) (c : Cpl) : Page :=
  { p with cplRing := Tab.put p.cplRing (p.cplTail % 32) c, cplTail := (p.cplTail + 1) % 64,
           bulk := if c.hasBulk then bulkOf c.bulk else p.bulk }

/-- The completion of a waiting event (R439). -/
def Page.eventCpl (p : Page) (e : Event) : Cpl :=
  { bits := cplBits (p.gen == 2) 0 (if p.gen = 2 then 0xFF else 0xFFFF) 0 0 true true false
      (leBytes 2 e.code ++ leBytes 2 e.count ++ leBytes 12 e.data),
    cirq := false, event := true, bulk := [], hasBulk := false }

/-- Write what waits while the ring has room: completions first, then events (R438, R439). -/
def Page.pump : Nat → Page → Page
  | 0, p => p
  | n + 1, p =>
    if p.pstate = .frozen || ringUsed p.cplTail p.cplHead ≥ 32 then p
    else match p.waiting with
      | c :: rest => Page.pump n ({ p with waiting := rest }.write c)
      | [] => match p.events with
        | e :: rest => Page.pump n ({ p with events := rest }.write (p.eventCpl e))
        | [] =>
          if p.lostCount = 0 then p
          else Page.pump n ({ p with lostCount := 0 }.write (p.eventCpl ⟨7, 1, p.lostCount⟩))

def State.pumpPage (s : State) (p : Nat) : State := s.setPage p (Page.pump 64 (s.page p))

/-- Post an event to a page (R439): code 6 to open pages alone (Table 14.10), none to a frozen page, whose rings are emptied before it
opens again (DEDUCED, log 147). -/
def State.postEvent (s : State) (p code data : Nat) : State :=
  let q := s.page p
  if q.pstate == .frozen || (code == 6 && q.pstate != .opened) then s
  else if q.events.length < 16 then (s.setPage p { q with events := q.events ++ [⟨code, 1, data⟩] }).pumpPage p
  else if q.events.any (fun e => e.code == code) then
    let i := (q.events.findIdx? (fun e => e.code == code)).getD 0
    s.setPage p { q with events := q.events.zipIdx.map (fun (e, j) =>
      if j = i then { e with count := min 65535 (e.count + 1) } else e) }
  else s.setPage p { q with evLost := true, lostCount := q.lostCount + 1 }

/-- Admin page of a host. -/
def adminPage (h : Nat) : Nat := 512 + h

/-- Post an event to the owner's admin page. -/
def State.ownerEvent (s : State) (code data : Nat) : State :=
  match s.bank.owner with
  | none => s
  | some h => s.postEvent (adminPage h) code data

/-- A page may have a command taken (R438): OWED below 63, and two free ring entries beyond the completions owed. -/
def Page.takeable (p : Page) : Bool :=
  p.pstate != .frozen && p.cmdTail != p.cmdHead && decide (p.owed < 63) &&
    decide (ringUsed p.cplTail p.cplHead + p.waiting.length + p.owed + 2 ≤ 32)

/-- Put a page that has a command to take, and may, into the service queue (R445). -/
def State.queueService (s : State) (p : Nat) : State :=
  let q := s.page p
  if q.takeable && !s.serviceq.contains p then
    { s with serviceq := s.serviceq ++ [p] }
  else s

/-- Write a completion of a taken command: at once, or waiting for ring space (R438). -/
def State.complete (s : State) (t : Ticket) (st sheet : Nat) (fin : Bool) (result : List Nat) (bulk : Option (List Nat)) :
    State :=
  let q := s.page t.page
  let c : Cpl := { bits := cplBits t.mmp2 t.ctag t.opcode st sheet fin false bulk.isSome result, cirq := t.cirq,
                   event := false, bulk := bulk.getD [], hasBulk := bulk.isSome }
  if q.pstate = .frozen then s
  else (s.setPage t.page { q with waiting := q.waiting ++ [c] }).pumpPage t.page

/-- The claim of the transfer area ends 1 s after an import's final completion (R477). -/
def State.claimEnds (s : State) (t : Ticket) : State :=
  if t.opcode = 0x5A then { s with boot := { s.boot with claim := some (t.page, s.clk.ticks + ms 1000) } } else s

/-- The final completion of a ticket: OWED falls (R437). -/
def State.finish (s : State) (tk st : Nat) (result : List Nat) (bulk : Option (List Nat)) : State :=
  match Tab.find? s.tickets tk with
  | none => s
  | some t =>
    let s := ({ s with tickets := Tab.erase s.tickets tk }).claimEnds t
    let s := s.complete t st 0 true result bulk
    let q := s.page t.page
    (s.setPage t.page { q with owed := q.owed - 1 }).queueService t.page

/-- A final completion that carries the actual sheet number of its go-live (Table 14.8). -/
def State.finishAt (s : State) (tk st sheet : Nat) (result : List Nat) : State :=
  match Tab.find? s.tickets tk with
  | none => s
  | some t =>
    let s := ({ s with tickets := Tab.erase s.tickets tk }).claimEnds t
    -- the 12 B result of an OPEN does not fit an MMP-2 completion (R460)
    let bulk := if t.mmp2 && t.opcode == 1 && st == 0 then some (result.take 12) else none
    let s := s.complete t st sheet true result bulk
    let q := s.page t.page
    (s.setPage t.page { q with owed := q.owed - 1 }).queueService t.page

end Sys2Proof.Machine
end

