-- ==== Sys2Proof/Machine/Operands.lean ====
section
/-! DEFINITION. Operand forms of the fabric and Felt ports: the request header (Table 1.2) with its parity, and the
payload with its sideband (R11, R15). -/

namespace Sys2Proof.Machine

/-- The fields of a request header (Table 1.2). -/
structure Hdr where
  ten : Nat
  sid : Nat
  tint : Nat
  op : Nat
  addr : Nat
  len : Nat
  tag : Nat
  cidx : Nat
  ccnt : Nat
  rsv : Nat
deriving DecidableEq, Repr

def hdrOf (h : BitVec 128) : Hdr :=
  let n := h.toNat
  { ten := fld n 0 9, sid := fld n 9 12, tint := fld n 21 4, op := fld n 25 5, addr := fld n 30 40, len := fld n 70 7,
    tag := fld n 77 10, cidx := fld n 87 6, ccnt := fld n 93 6, rsv := fld n 99 21 }

/-- XOR of the bits of a number below 2^64. -/
def parity64 (n : Nat) : Bool :=
  let a := n ^^^ (n >>> 32)
  let b := a ^^^ (a >>> 16)
  let c := b ^^^ (b >>> 8)
  let d := c ^^^ (c >>> 4)
  let e := d ^^^ (d >>> 2)
  let f := e ^^^ (e >>> 1)
  f % 2 == 1

/-- HPAR of a request header (Table 1.2). -/
def hparOf (h : BitVec 128) : Nat :=
  (List.range 7).foldl (fun a i => a + (parity64 (fld h.toNat (16 * i) 16)).toNat * 2 ^ i) 0 +
    (parity64 (fld h.toNat 112 8)).toNat * 2 ^ 7

def hparOk (h : BitVec 128) : Bool := fld h.toNat 120 8 == hparOf h

/-- Bytes a header names (LEN is in 32 B units, minus 1). -/
def Hdr.bytes (h : Hdr) : Nat := (h.len + 1) * 32

/-- One delivered burst of a payload: 256 data bits, 32 byte enables, its stain mark and whether a word fails DPAR. -/
structure DBurst where
  data : Nat
  mask : Nat
  stain : Bool
  bad : Bool
deriving DecidableEq, Repr

/-- Burst j of a beat (R15). -/
def beatBurst (b : Beat) (j : Nat) : DBurst :=
  let d := fld b.data.toNat (256 * j) 256
  { data := d, mask := fld b.dmask.toNat (32 * j) 32, stain := bitAt b.dstain.toNat j,
    bad := (List.range 4).any (fun k => parity64 (fld d (64 * k) 64) != bitAt b.dpar.toNat (4 * j + k)) }

/-- The first n delivered bursts of a payload. -/
def burstsOf (beats : List Beat) (n : Nat) : List DBurst :=
  (beats.flatMap (fun b => (List.range 8).map (beatBurst b))).take n

/-- DVLD of a beat that carries n valid bursts, n from 1 to 8. -/
def dvldOf (n : Nat) : Nat := 2 ^ n - 1

/-- Whether the last counted beat of a payload of n bursts marks exactly the bursts that n implies (R255). -/
def lastDvldOk (beats : List Beat) (n : Nat) : Bool :=
  match (beats.take ((n + 7) / 8)).getLast? with
  | none => n == 0
  | some b => b.dvld.toNat == dvldOf (n - (n - 1) / 8 * 8)

/-- Beats of a payload of n bytes (R11). -/
def beatsFor (n : Nat) : Nat := (n + 255) / 256

/-- HPAR of a response header (Table 1.4), of its low 60 bits. -/
def respHpar (n : Nat) : Nat :=
  (List.range 3).foldl (fun a i => a + (parity64 (fld n (16 * i) 16)).toNat * 2 ^ i) 0 +
    (parity64 (fld n 48 12)).toNat * 8

/-- The 64 bits of a response or notification header (Table 1.4). -/
def RespBeat.header (r : RespBeat) : Nat :=
  let n := put r.tag 0 10 + put r.resp 10 3 + put r.last.toNat 13 1 + put r.ntf.toNat 14 1 + put r.nkind 15 4 +
    put r.sid 19 12 + put r.ten 31 9
  n + put (respHpar n) 60 4

end Sys2Proof.Machine
end

