-- ==== Sys2Proof/Machine/Convert.lean ====
section
/-! DEFINITION. Lake's forward and return passes: which regions convert, the elements of a stored page, what a write
stores and what a read delivers (R244-R271). Pure functions of a request, its region snapshot and the stored words. -/

namespace Sys2Proof.Machine

/-- A stored page by element (Table 9.3). Formats without blocks are taken word by word: a "block" is one 8 B word. -/
structure Shape where
  d : Nat
  per : Nat
  width : Nat
  mx : Bool
  sparse : Bool
  scaleAt : Nat
  patAt : Nat
  area : Nat
  elems : Nat
  unit : Nat
  blocks : Nat
deriving DecidableEq, Repr

def shapeOf (sfmt : Nat) (sparse : Bool) : Shape :=
  let l := layoutOf sfmt sparse
  let w := (fmtOf sfmt).width
  { d := if l.block = 0 then 8 else l.block, per := if sparse then 64 else if l.block = 0 then 64 / w else 32,
    width := w, mx := isMx sfmt, sparse := sparse, scaleAt := l.scale, patAt := l.pat, area := l.data,
    elems := l.elems, unit := l.unit, blocks := if l.block = 0 then l.data / 8 else l.blocks }

def Region.shape (r : Region) : Shape := shapeOf r.sfmt r.sparse

/-- A converting region ("Which regions convert"); the default of R73 is RAW. -/
def Region.converting (r : Region) : Bool := r.valid && !isPassThrough r.sfmt r.sparse r.dfmt

/-- Elements (parameters) that n stored data bytes hold. -/
def Shape.elemsIn (sh : Shape) (n : Nat) : Nat := n / sh.d * sh.per

/-- Delivered size of n stored bytes (R254): the bytes themselves where nothing converts. A whole page, as a feeder stream
reads it (R275), holds the elements of its data area. -/
def Region.delivered (r : Region) (n : Nat) : Nat :=
  if r.converting then min (r.shape.elemsIn n) r.shape.elems * fmtBytes r.dfmt else n

/-- The 4 KiB page index of a tenant address within its region. -/
def Region.pageOf (r : Region) (addr : Nat) : Nat := (addr - r.rbase * 2 ^ 21) / 4096

def Region.rounding (r : Region) : Rounding := ⟨r.rnd == 1, r.ovf⟩

/-- Bits [pos+n-1:pos] of a page of stored words, with the stain of the words that hold them. -/
def bitsAt (got : Nat → Option RWord) (pos n : Nat) : Option (Nat × Bool) :=
  match got (pos / 64) with
  | none => none
  | some a =>
    if pos % 64 + n ≤ 64 then some (fld a.data.toNat (pos % 64) n, a.stain)
    else match got (pos / 64 + 1) with
      | none => none
      | some b => some (fld (a.data.toNat + b.data.toNat * 2 ^ 64) (pos % 64) n, a.stain || b.stain)

/-- A stored element decoded exactly (R261), with its stain (R266); `reserved` marks a pattern code 6 or 7 (R262). -/
structure Elem where
  v : Dyad
  stain : Bool
  reserved : Bool
deriving DecidableEq, Repr

/-- Value of element bits under a block scale (R247, R248). -/
def scaledValue (sfmt bits sc : Nat) (mx : Bool) : Dyad :=
  if mx then (if sc = 255 then .nan else (decodeElem sfmt bits).scale ((sc : Int) - 127)) else decodeElem sfmt bits

/-- Element e of a page; none while a word it depends on has not arrived (R87). -/
def elemOf (sfmt : Nat) (sh : Shape) (got : Nat → Option RWord) (e : Nat) : Option Elem :=
  let b := e / sh.per
  let i := e % sh.per
  match (if sh.mx then bitsAt got ((sh.scaleAt + b) * 8) 8 else some (127, false)) with
  | none => none
  | some (sc, st1) =>
    if sh.sparse then
      match bitsAt got ((sh.patAt + 6 * b) * 8 + 3 * (i / 4)) 3 with
      | none => none
      | some (pc, st2) =>
        match patKept pc with
        | none => some ⟨Dyad.zero, true, true⟩
        | some (p0, p1) =>
          let pos := i % 4
          if pos = p0 || pos = p1 then
            let j := 2 * (i / 4) + (if pos = p0 then 0 else 1)
            match bitsAt got (b * sh.d * 8 + j * sh.width) sh.width with
            | none => none
            | some (x, st3) => some ⟨scaledValue sfmt x sc sh.mx, st1 || st2 || st3, false⟩
          else some ⟨Dyad.zero, st1 || st2, false⟩
    else
      match bitsAt got (b * sh.d * 8 + i * sh.width) sh.width with
      | none => none
      | some (x, st3) => some ⟨scaledValue sfmt x sc sh.mx, st1 || st3, false⟩

/-- An encoded block: data bytes, whether they are stored stained, scale byte, pattern bytes, the counts of R260 and
Table 9.5, and the values a later read would decode. -/
structure Blk where
  data : List Nat
  stain : Bool
  scale : List Nat
  pat : List Nat
  pruned : Nat
  ovf : Nat
  dec : List Dyad
deriving DecidableEq, Repr

/-- Pack elements from the least significant bits upward (R250). -/
def packBits (width : Nat) (es : List Nat) : List Nat :=
  leBytes (es.length * width / 8) (es.foldr (fun e a => e + a * 2 ^ width) 0)

/-- Elements of a block without a scale, each encoded by itself. -/
def encodePlain (sfmt : Nat) (r : Rounding) (vs : List (Dyad × Bool)) (key : Nat → Key) : List Enc :=
  vs.zipIdx.map (fun (v, j) => encodeElem sfmt v.1 r (key j) false)

/-- Encode one block (R250, R251, R259, R260, R267). `key i` is the key of parameter i of the block. -/
def encodeBlock (sfmt : Nat) (sh : Shape) (r : Rounding) (vs : List (Dyad × Bool)) (key : Nat → Key) : Blk :=
  let at_ (i : Nat) : Dyad × Bool := vs.getD i (Dyad.zero, false)
  let keeps := (List.range 16).map (fun g => keepTwo ((List.range 4).map (fun p => (at_ (4 * g + p)).1)))
  let params : List Nat :=
    if sh.sparse then keeps.zipIdx.flatMap (fun (k, g) => [4 * g + k.1, 4 * g + k.2]) else List.range sh.per
  let stored := params.map at_
  let key' (j : Nat) := key (params.getD j 0)
  let (sc, es) : Nat × List Enc :=
    if sh.mx then mxEncode sfmt stored r key' else (127, encodePlain sfmt r stored key')
  let pat := if sh.sparse then leBytes 6 ((keeps.zipIdx.map (fun (k, g) => patCode k.1 k.2 * 8 ^ g)).sum) else []
  let pruned := if sh.sparse then
      ((List.range 16).filter (fun g =>
        (List.range 4).any (fun p => !params.contains (4 * g + p) && (at_ (4 * g + p)).1.nonzero))).length
    else 0
  let dec := (List.range sh.per).map (fun i =>
    match params.findIdx? (fun q => q == i) with
    | none => Dyad.zero
    | some j => match es[j]? with
      | none => Dyad.zero
      | some e => scaledValue sfmt e.bits sc sh.mx)
  { data := packBits sh.width (es.map (fun e => e.bits)), stain := vs.any (fun (_, b) => b),
    scale := if sh.mx then [sc] else [], pat := pat, pruned := pruned,
    ovf := (es.filter (fun e => e.ovf != 0)).length, dec := dec }

/-- One burst of stored data at a quire-relative address: its four words with their byte enables and stains. -/
structure SBurst where
  a : Nat
  words : List SWord
deriving DecidableEq, Repr

/-- A burst with any byte not written (R327). -/
def SBurst.narrow (b : SBurst) : Bool := b.words.any (fun w => w.mask != 0xFF)

/-- An element taken in by a digest: its index in the region, its value, its stain, and whether it was written whole. -/
structure Taken where
  n : Nat
  v : Dyad
  stain : Bool
  whole : Bool
deriving DecidableEq, Repr

/-- What the forward pass of a write gives: the stored bursts, the counts of the tenant's page, the elements, and for
each delivered burst that fails DPAR the address and the words of its stain event (R15, R267). -/
structure Fwd where
  bursts : List SBurst
  pruned : Nat
  ovf : Nat
  elems : List Taken
  parity : List (Nat × Nat)
deriving DecidableEq, Repr

def DBurst.word (b : DBurst) (masked : Bool) (k : Nat) : SWord :=
  ⟨BitVec.ofNat 64 (fld b.data (64 * k) 64), if masked then BitVec.ofNat 8 (fld b.mask (8 * k) 8) else 0xFF,
    b.stain || b.bad⟩

/-- Delivered elements of a payload in a format: value and stain (R15, R267). -/
def deliveredElems (dfmt : Nat) (bs : List DBurst) : List (Dyad × Bool) :=
  let w := (fmtOf dfmt).width
  bs.flatMap (fun b => (List.range (256 / w)).map (fun i => (decodeElem dfmt (fld b.data (i * w) w), b.stain || b.bad)))

/-- Key of element e of a request's page (R264). -/
def keyOf (r : Region) (ten regIdx step addr e : Nat) : Key := ⟨r.seed, ten, regIdx, step, addr / 4096, e⟩

/-- Forward pass where nothing converts (R244): bytes as they come. -/
def forwardPlain (r : Region) (addr a : Nat) (masked : Bool) (bs : List DBurst) : Fwd :=
  let w := (fmtOf r.sfmt).width
  let per := if w = 0 then 0 else 256 / w
  let mkElem (b : DBurst) (i j : Nat) : Taken :=
    let m := fld b.mask (j * (w / 8)) (w / 8)
    { n := r.pageOf addr * (4096 * 8 / w) + (addr % 4096 * 8 / w + i * per + j),
      v := decodeElem r.sfmt (fld b.data (j * w) w), stain := b.stain || b.bad,
      whole := !masked || m == 2 ^ (w / 8) - 1 }
  let touched (b : DBurst) (j : Nat) : Bool := !masked || fld b.mask (j * (w / 8)) (w / 8) != 0
  { bursts := bs.zipIdx.map (fun (b, i) => ⟨a + 32 * i, (List.range 4).map (b.word masked)⟩), pruned := 0, ovf := 0,
    elems := if r.valid && !r.sparse && (r.sfmt == 1 || r.sfmt == 2 || r.sfmt == 3) then
        bs.zipIdx.flatMap (fun (b, i) => ((List.range per).filter (touched b)).map (mkElem b i))
      else [],
    parity := bs.zipIdx.filterMap (fun (b, i) => if b.bad then some (a + 32 * i, 4) else none) }

/-- Bytes of a page as bursts: `bs` lists (page offset, byte); a word is stained where `st` says so of its number. -/
def burstsOfBytes (a0 : Nat) (bs : List (Nat × Nat)) (st : Nat → Bool) : List SBurst :=
  let nums := sortBy (fun (x y : Nat) => decide (x ≤ y)) (bs.map (fun (o, _) => o / 32)).dedup
  nums.map (fun u =>
    { a := a0 + 32 * u,
      words := (List.range 4).map (fun k =>
        let mine := bs.filter (fun (o, _) => o / 8 == 4 * u + k)
        ⟨BitVec.ofNat 64 ((mine.map (fun (o, v) => v * 256 ^ (o % 8))).sum),
          BitVec.ofNat 8 ((mine.map (fun (o, _) => 2 ^ (o % 8))).sum), st (4 * u + k)⟩) })

/-- Store elements from element e0 of a page on, whole blocks at a time (R257). -/
def storeElems (r : Region) (ten regIdx step addr a e0 : Nat) (vs : List (Dyad × Bool)) : Fwd :=
  let sh := r.shape
  let a0 := a - addr % 4096
  let b0 := e0 / sh.per
  let nb := vs.length / sh.per
  let blks := (List.range nb).map (fun i =>
    (b0 + i, encodeBlock r.sfmt sh r.rounding ((vs.drop (i * sh.per)).take sh.per)
      (fun p => keyOf r ten regIdx step addr ((b0 + i) * sh.per + p))))
  let data := blks.flatMap (fun (b, k) => k.data.zipIdx.map (fun (v, j) => (b * sh.d + j, v)))
  let sc := blks.flatMap (fun (b, k) => k.scale.map (fun v => (sh.scaleAt + b, v)))
  let pt := blks.flatMap (fun (b, k) => k.pat.zipIdx.map (fun (v, j) => (sh.patAt + 6 * b + j, v)))
  let metaEnd := if sh.sparse then sh.patAt + 6 * sh.blocks else if sh.mx then sh.scaleAt + sh.blocks else sh.area
  let pad := if b0 + nb = sh.blocks then (List.range (4096 - metaEnd)).map (fun j => (metaEnd + j, 0)) else []
  let stained (w : Nat) : Bool := blks.any (fun (b, k) => k.stain && decide (b * sh.d ≤ w * 8) &&
    decide (w * 8 < b * sh.d + sh.d))
  { bursts := burstsOfBytes a0 data stained ++ burstsOfBytes a0 (sc ++ pt ++ pad) (fun _ => false),
    pruned := (blks.map (fun (_, k) => k.pruned)).sum, ovf := (blks.map (fun (_, k) => k.ovf)).sum,
    elems := blks.flatMap (fun (b, k) => k.dec.zipIdx.map (fun (v, i) =>
      { n := r.pageOf addr * sh.elems + b * sh.per + i, v := v,
        stain := (vs.getD ((b - b0) * sh.per + i) (Dyad.zero, false)).2, whole := true })),
    parity := [] }

/-- Forward pass of a write (WR, WRM, spill) whose n stored bytes start at quire-relative address a. The pad goes with the
page's last block (DEDUCED from R249, unsafe: assumption 35). -/
def forwardWrite (r : Region) (ten regIdx step addr a n : Nat) (masked : Bool) (beats : List Beat) : Fwd :=
  if r.converting then
    let sh := r.shape
    let bs := burstsOf beats (r.delivered n / 32)
    let e0 := addr % 4096 / sh.d * sh.per
    let f := storeElems r ten regIdx step addr a e0 (deliveredElems r.dfmt bs)
    let perBurst := 256 / (fmtOf r.dfmt).width
    { f with parity := bs.zipIdx.filterMap (fun (b, i) =>
        if b.bad then some (a - addr % 4096 + (e0 + i * perBurst) / sh.per * sh.d, min 4 (sh.d / 8)) else none) }
  else forwardPlain r addr a masked (burstsOf beats (n / 32))

/-- Bursts of a page, by number, that a read of n stored bytes at an address reads, metadata included. -/
def readBursts (r : Region) (addr n : Nat) : List Nat :=
  let o := addr % 4096
  let data := (List.range (n / 32)).map (fun i => o / 32 + i)
  if r.converting then
    let sh := r.shape
    let b0 := o / sh.d
    let b1 := (o + n - 1) / sh.d
    let span (lo hi : Nat) : List Nat := (List.range (hi / 32 + 1 - lo / 32)).map (fun i => lo / 32 + i)
    let sc := if sh.mx then span (sh.scaleAt + b0) (sh.scaleAt + b1) else []
    let pt := if sh.sparse then span (sh.patAt + 6 * b0) (sh.patAt + 6 * b1 + 5) else []
    sortBy (fun (x y : Nat) => decide (x ≤ y)) ((data ++ sc ++ pt).dedup)
  else data

/-- Stored element that a skewed read delivers at element e of a region whose page holds E elements (R269). -/
def skewed (k : Skew) (pageIdx E e : Nat) : Nat :=
  let tw := 2 ^ k.twl
  let n := pageIdx * E + e
  let rot := n / tw % 2 ^ k.lanesl * k.step % tw
  let j := e % tw
  e / tw * tw + (if k.right then (j + tw - rot) % tw else (j + rot) % tw)

/-- Whether a range of a skewed region consists of whole rows (R269). -/
def wholeRows (sh : Shape) (k : Skew) (addr n : Nat) : Bool :=
  let tw := 2 ^ k.twl
  let e0 := addr % 4096 / sh.d * sh.per
  e0 % tw == 0 && sh.elemsIn n % tw == 0

/-- What the return pass needs of a read. -/
structure View where
  region : Region
  regIdx : Nat
  skew : Skew
  ten : Nat
  step : Nat
  addr : Nat
  bytes : Nat
deriving DecidableEq, Repr

/-- A region read rotated: SKEW set. -/
def View.rotated (v : View) : Bool := v.region.valid && v.region.skew != 0

/-- Elements a page of the region holds. -/
def Region.pageElems (r : Region) : Nat := r.shape.elems

/-- One delivered element: bits in the delivery format, stain, whether Table 9.5 acted, reserved pattern. -/
structure Out where
  bits : Nat
  stain : Bool
  ovf : Bool
  reserved : Bool
deriving DecidableEq, Repr

/-- Stored element e in the delivery format (R258, R261). -/
def View.elem (v : View) (got : Nat → Option RWord) (e : Nat) : Option Out :=
  let r := v.region
  if r.converting then
    match elemOf r.sfmt r.shape got e with
    | none => none
    | some x =>
      let enc := encodeElem r.dfmt x.v r.rounding (keyOf r v.ten v.regIdx v.step v.addr e) false
      some ⟨enc.bits, x.stain, enc.ovf != 0, x.reserved⟩
  else
    let w := (fmtOf r.sfmt).width
    match bitsAt got (e * w) w with
    | none => none
    | some (b, st) => some ⟨b, st, false, false⟩

/-- Element at delivered position q of the read, with every stored element its row needs present (R87). -/
def View.outAt (v : View) (got : Nat → Option RWord) (q : Nat) : Option Out :=
  let sh := v.region.shape
  let e := v.addr % 4096 / sh.d * sh.per + q
  if v.rotated then
    let tw := 2 ^ v.skew.twl
    let here := (List.range tw).all (fun j => (v.elem got (e / tw * tw + j)).isSome)
    if here then v.elem got (skewed v.skew (v.region.pageOf v.addr) sh.elems e) else none
  else v.elem got e

/-- A delivered 32 B burst of a read: its 256 bits, stain and overflow count; none while it waits for stored data. -/
def View.burst (v : View) (got : Nat → Option RWord) (j : Nat) : Option (Nat × Bool × Nat) :=
  if v.region.converting || v.rotated then
    let w := if v.region.converting then (fmtOf v.region.dfmt).width else (fmtOf v.region.sfmt).width
    let per := 256 / w
    let outs := (List.range per).map (fun i => v.outAt got (j * per + i))
    if outs.all (fun o => o.isSome) then
      let os := outs.filterMap id
      some (os.foldr (fun o a => o.bits + a * 2 ^ w) 0, os.any (fun o => o.stain), (os.filter (fun o => o.ovf)).length)
    else none
  else
    let w0 := v.addr % 4096 / 8 + 4 * j
    match got w0, got (w0 + 1), got (w0 + 2), got (w0 + 3) with
    | some a, some b, some c, some d =>
      some (a.data.toNat + b.data.toNat * 2 ^ 64 + c.data.toNat * 2 ^ 128 + d.data.toNat * 2 ^ 192,
        a.stain || b.stain || c.stain || d.stain, 0)
    | _, _, _, _ => none

/-- Delivered bytes of the read. -/
def View.size (v : View) : Nat := v.region.delivered v.bytes

/-- Blocks of the read whose pattern field holds a reserved code, with the word of the field and its word count
(R262). -/
def View.badPatterns (v : View) (got : Nat → Option RWord) : List (Nat × Nat) :=
  let sh := v.region.shape
  if v.region.converting && sh.sparse then
    let b0 := v.addr % 4096 / sh.d
    ((List.range (min (v.bytes / sh.d) sh.blocks)).filterMap (fun i =>
      let b := b0 + i
      if (List.range 16).any (fun g => match bitsAt got ((sh.patAt + 6 * b) * 8 + 3 * g) 3 with
          | some (c, _) => decide (c ≥ 6)
          | none => false)
      then
        let w := (sh.patAt + 6 * b) / 8
        some (w, (sh.patAt + 6 * b + 5) / 8 - w + 1)
      else none))
  else []

end Sys2Proof.Machine
end

