-- ==== Sys2Proof/Machine/Path.lean ====
section
/-! DEFINITION. What every request shares on its way to a stack: its record and its parts, sampling, answers, stream
affinity, the marker, the time gate, deficit round robin, path credits, wake requests and Deckle's isolation. -/

namespace Sys2Proof.Machine

/-! ## Requests and parts -/

def State.req? (s : State) (id : Nat) : Option Req := Tab.find? s.reqs id
def State.setReq (s : State) (id : Nat) (r : Req) : State := { s with reqs := Tab.put s.reqs id r }
def State.dropReq (s : State) (id : Nat) : State := { s with reqs := Tab.erase s.reqs id }

/-- Key of the part of a request at a stack. -/
def partKey (req stack : Nat) : Nat := req * 16 + stack

def State.part? (s : State) (key : Nat) : Option Part := Tab.find? s.parts key
def State.setPart (s : State) (key : Nat) (p : Part) : State := { s with parts := Tab.put s.parts key p }
def State.dropPart (s : State) (key : Nat) : State := { s with parts := Tab.erase s.parts key }

/-- Half of a port: FP0-FP63, FD0-FD3 and FT0 on half A. -/
def portHalf (p : Nat) : Nat :=
  if p < 64 then 0 else if p < 128 then 1 else if p < 132 then 0 else if p < 136 then 1 else p - 136

/-- The fabric port whose record gives a port's PWD_T (Table 6.4). -/
def pwdPort (p : Nat) : Nat := if p < 128 then p else if portHalf p = 0 then 0 else 64

/-- PWD_T of a port in REF_CLK periods. -/
def State.pwdT (s : State) (p : Nat) : Nat := us (s.bank.port (pwdPort p)).pwdT

/-- Latency target of a request of tint t on a port (R163, R164). -/
def State.targetOf (s : State) (p t : Nat) : Nat :=
  let r := s.bank.port p
  if decide (p < 128) && bitAt r.ptmask t && decide (64 ≤ r.ptgt) then r.ptgt else (s.bank.tint t).target

/-- How far a time in ns lies ahead of the timebase, as a signed 32-bit difference (R169). -/
def State.ahead (s : State) (v : Nat) : Int := diff32 v s.now

/-- Stored bytes a request names. -/
def Req.bytes (r : Req) : Nat := (r.len + 1) * 32

/-- Two ranges of one tenant's space overlap. -/
def Req.overlaps (a b : Req) : Bool :=
  a.ten == b.ten && decide (a.addr < b.addr + b.bytes) && decide (b.addr < a.addr + a.bytes)

/-- View of a read for the return pass. -/
def Req.view (r : Req) : View := ⟨r.region, r.regIdx, r.skew, r.ten, r.step, r.addr, r.bytes⟩

/-- Stored words read for a request, by page word number. -/
def Req.word (r : Req) (n : Nat) : Option RWord := Tab.find? r.got n

/-! ## Port windows and sampling -/

/-- The port windows begun since the last one start with their values at 0 (R526). -/
def State.startWindows (s : State) : State :=
  let w := s.now / 100000
  let w0 := s.regs.winNum
  if w = w0 then s
  else
    let fresh (i : Nat) : Bool := if w0 < w && w - w0 < 8 then decide ((i + 8 - (w0 + 1) % 8) % 8 < w - w0) else w0 < w || i == w % 8
    { s with regs := { s.regs with winNum := w },
             ports := Tab.mapVals s.ports (fun _ q =>
               { q with windows := q.windows.zipIdx.map (fun (r, i) => if fresh i then [] else r) }) }

/-- Add to a quantity of the port window being filled (R526, Table 17.7). -/
def State.window (s : State) (p q n : Nat) : State :=
  let s := s.startWindows
  if p < 128 then
    let w := s.now / 100000 % 8
    let ws := (s.port p).windows
    let rows := (List.range 8).map (fun i =>
      (List.range 4).map (fun j => (ws.getD i []).getD j 0 + (if i = w && j = q then n else 0)))
    s.setPort p { s.port p with windows := rows }
  else s

/-- Value a counter selector names (Table 17.11); chained pairs whole. -/
def State.selected (s : State) (sel ten : Nat) : Nat :=
  match sel / 2 ^ 14 with
  | 0 => Tab.num s.cnt.tenant (ten * 64 + sel % 64)
  | 1 => Tab.num s.cnt.channel ((fld sel 8 4 * 32 + fld sel 3 5) * 8 + sel % 8)
  | 2 => Tab.num s.cnt.stack (fld sel 5 4 * 32 + sel % 32)
  | _ => Tab.num s.cnt.global (sel % 64)

/-- A crossing of a sampling unit (R528): the value has reached NEXT. NEXT advances by the whole periods passed; a unit
with a sample outstanding adds them to MISSED. -/
def State.crossing (s : State) (u : Sampler) : Sampler :=
  let v := s.selected u.sel u.ten
  if v < u.next then u
  else
    let n := (v - u.next) / u.period
    match u.pendingAt with
    | none => { u with pendingAt := some s.clk.ticks, value := v, missed := n, next := u.next + u.period * (1 + n),
                       cand := none, skid := 0 }
    | some _ => { u with missed := u.missed + 1 + n, next := u.next + u.period * (1 + n) }

/-- Look for crossings of every armed unit. -/
def State.crossings (s : State) : State :=
  if s.trace.samplers.isEmpty then s
  else { s with trace := { s.trace with samplers := Tab.mapVals s.trace.samplers (fun _ u => s.crossing u) } }

/-- A request of a scope reaches its sample point (R529): units of set `set` that match take it. `idx` is the stack of
a stack scope or the package channel of a channel scope. -/
def State.samplePoint (s : State) (set idx : Nat) (r : Req) : State :=
  if s.trace.samplers.isEmpty then s
  else
    let s := s.crossings
    let body := leBytes 2 r.ten ++ leBytes 2 r.sid ++ [r.tint, r.op, r.port] ++ leBytes 5 r.addr
    let hit (u : Sampler) : Bool := u.pendingAt.isSome && u.cand.isNone && u.sel / 2 ^ 14 == set &&
      (match set with
        | 0 => u.ten == r.ten
        | 1 => fld u.sel 3 9 == idx
        | 2 => fld u.sel 5 4 == idx
        | _ => true)
    { s with trace := { s.trace with
        samplers := Tab.mapVals s.trace.samplers (fun _ u => if hit u then { u with cand := some body } else u) } }

/-! ## Answers -/

/-- Counters of an answer: error kinds (R78), requests and bytes served (Table 17.2), and the port window. -/
def State.countAnswer (s : State) (r : Req) (resp : Nat) : State :=
  let t := r.ten
  if resp = 0 || resp = 1 then
    let s := if resp = 1 then s.cntT t 20 1 else s
    let n := r.region.delivered r.bytes
    match r.op with
    | 0 => ((s.cntT t 0 1).cntT t 2 n).cntG 4 n
    | 1 | 2 =>
      let s := ((s.cntT t 1 1).cntT t 4 n).cntG 6 n
      if r.port ≥ 136 then (s.cntT t 39 n).cntG 26 n else s
    | 5 => (s.cntT t 2 r.need).cntG 4 r.need
    | 6 => s.cntT t 15 1
    | _ => s
  else (s.cntT t (14 + resp) 1).window r.port 3 1

/-- Whether a request comes from a fabric or Felt port and so has an answer. -/
def Req.answered (r : Req) : Bool := decide (r.op < 32) && (decide (r.port < 128) || decide (136 ≤ r.port))

/-- Return the request credits a request holds at its port, unless the port is isolated or in reset (R188). -/
def State.returnCredits (s : State) (p hdrs beats : Nat) : State :=
  let q := s.port p
  if q.live && !q.isolated then
    s.setPort p { q with hcred := min 128 (q.hcred + hdrs), dcred := min 256 (q.dcred + beats) }
  else s

/-- Answer a request with one header, LAST set (R17). `free` headers need no response credit (R188). -/
def State.answer (s : State) (id resp : Nat) (free : Bool) : State :=
  match s.req? id with
  | none => s
  | some r =>
    if r.phase = .done || !r.answered then s
    else
      let s := s.setReq id { r with phase := .done, status := resp }
      let s := s.pushLane r.port
        { req := id, tag := r.tag, resp := resp, last := true, ntf := false, nkind := 0, sid := r.sid, ten := r.ten,
          hasData := false, data := 0, dvld := 0, dstain := 0, free := free }
      s.countAnswer r resp

/-- The answer of a FENCE once every earlier request of its port and SID has received its response (Table 1.5, R27):
those requests are gone from the table. -/
def State.fences (s : State) (p : Nat) : State :=
  s.reqs.foldl (fun s (id, r) =>
    if r.port == p && r.op == 7 && r.phase == .live &&
        !(s.reqs.any (fun (j, q) => decide (j < id) && q.port == p && q.sid == r.sid && q.op != 7 && q.answered &&
          q.phase != .discarded))
    then s.answer id 0 false else s) s

/-! ## Stream affinity -/

/-- The procedure of R29. -/
def learn (t : Tab Aff) (sid port : Nat) : Tab Aff :=
  match Tab.find? t sid with
  | none => Tab.put t sid ⟨port, 0, false, 0⟩
  | some e =>
    if !e.flap then
      if port != e.port then Tab.put t sid { e with flap := true, alt := port, run := 1 } else t
    else if port != e.alt then Tab.put t sid { e with alt := port, run := 1 }
    else if e.run = 63 then Tab.put t sid ⟨port, 0, false, 0⟩
    else Tab.put t sid { e with run := e.run + 1 }

/-- R31: entries that name the port as PORT are cleared; those that name it as ALT alone keep PORT and stop flapping. -/
def forget (t : Tab Aff) (port : Nat) : Tab Aff :=
  (Tab.keep t (fun _ e => e.port != port)).map (fun (i, e) =>
    if e.flap && e.alt == port then (i, { e with flap := false, alt := 0, run := 0 }) else (i, e))

/-! ## Deficit round robin -/

/-- Quantum and ceiling of a tenant's flow (R206). -/
def State.quantum (s : State) (ten : Nat) : Nat := ((s.bank.policer ten).tq + 1) * 256
def State.ceiling (s : State) (ten : Nat) : Nat := ((s.bank.policer ten).dburst + 1) * 4096

/-- Stage numbers: a shared quire by its base leaf; 1024 + stack the crossbar; 1040 + direction the bridge; 1056 + stack
Lake; 1072 + f Felt; 1080 + f feeder. Windows in bytes (Table 7.4, Table 3.7). The unreserved data credits of a pool are
counted with the reserves of the 64 fabric port edges of a half, and of the bridge receiver: a feeder or Felt port has no
reserve of its own there (DESIGN CHOICE, log 140). -/
def State.drrWindow (s : State) (k : Nat) : Nat :=
  if k < 1024 then 2 ^ (s.bank.quire k).qk * 4096
  else if k < 1040 then (1024 - 64 * 8 - 128) * 256
  else if k < 1056 then (4096 - 64 * 16) * 256
  else if k < 1072 then 65536
  else if k < 1080 then 262144
  else 65536

def Drr.flow? (d : Drr) (ten : Nat) : Option Flow := d.flows.find? (fun f => f.ten == ten)

def Drr.setFlow (d : Drr) (f : Flow) : Drr :=
  if d.flows.any (fun g => g.ten == f.ten) then
    { d with flows := d.flows.map (fun g => if g.ten == f.ten then f else g) }
  else { d with flows := d.flows ++ [f] }

def Flow.setSub (f : Flow) (u : SubFlow) : Flow :=
  if f.subs.any (fun g => g.tint == u.tint) then
    { f with subs := f.subs.map (fun g => if g.tint == u.tint then u else g) }
  else { f with subs := f.subs ++ [u] }

/-- A tenant's flow at a stage; created with its deficit at its ceiling (R572). -/
def State.flow (s : State) (d : Drr) (ten : Nat) : Flow :=
  (d.flow? ten).getD ⟨ten, s.ceiling ten, false, [], [], 0, false⟩

def Flow.sub (f : Flow) (tint ceil : Nat) : SubFlow :=
  (f.subs.find? (fun u => u.tint == tint)).getD ⟨tint, ceil, false⟩

/-- The stage a waiting part waits at; none where it waits at none. -/
def drrStageOf (r : Req) (p : Part) : Option Nat :=
  match p.stage with
  | .quireDrr => some r.qbase
  | .xbarDrr => some (1024 + p.stack)
  | .bridgeDrr => some (1040 + portHalf r.port)
  | .lakeDrr => some (1056 + (if r.op = 33 then r.ctx / 8 else p.stack))
  | .feltDrr => some (1072 + (r.port - 136))
  | .feedDrr => some (1080 + (r.port - 128))
  | _ => none

/-- Parts waiting at a stage, in arrival order (then port, then header order). -/
def State.waitingAt (s : State) (k : Nat) : List (Nat × Part × Req) :=
  sortBy (fun (_, p, r) (_, q, u) => decide (r.arrival < u.arrival) || (r.arrival == u.arrival &&
      (decide (r.port < u.port) || (r.port == u.port && decide (p.req ≤ q.req)))))
    (s.parts.filterMap (fun (key, p) =>
      match s.req? p.req with
      | none => none
      | some r => if drrStageOf r p = some k then some (key, p, r) else none))

/-- Unreserved headers of a path pool are left for a further part (Table 3.7): 352 of a crossbar's 512, 1536 of a bridge's
2048. The other stages hold no header credits. -/
def State.headerRoom (s : State) (k : Nat) : Bool :=
  if k < 1024 || 1056 ≤ k then true
  else if k < 1040 then
    decide ((Tab.keep s.parts (fun _ p => p.stack == k - 1024 && p.xbar == .unreserved)).length < 512 - 2 * 64 - 32)
  else
    decide ((Tab.keep s.parts (fun _ p => p.bridge == .unreserved && match s.req? p.req with
      | some r => portHalf r.port == k - 1040
      | none => false)).length < 2048 - 8 * 64)

/-- Take a charge at a stage when its window has room, both deficits cover it and nothing of the subflow waits (R206,
R208). -/
def State.drrTake (s : State) (k ten tint charge : Nat) (behind : Bool) : Option State :=
  let d := s.drr k
  let f := s.flow d ten
  let u := f.sub tint (s.ceiling ten)
  if decide (d.occ < s.drrWindow k) && s.headerRoom k && decide ((charge : Int) ≤ f.deficit) && decide ((charge : Int) ≤ u.deficit) &&
      !behind then
    let f' := { f with deficit := f.deficit - charge }.setSub { u with deficit := u.deficit - charge }
    some (s.setDrr k ({ d with occ := d.occ + charge }.setFlow f'))
  else none

/-- A waiting part's flow joins the round at its end, where it is not in it, and its subflow is created (R207, R572). A round
that is in progress does not grow by it (DEDUCED, log 140). -/
def State.drrJoin (s : State) (k ten tint : Nat) : State :=
  let d := s.drr k
  let f := s.flow d ten
  let d := d.setFlow (f.setSub (f.sub tint (s.ceiling ten)))
  s.setDrr k (if d.round.contains ten then d
    else { d with round := d.round ++ [ten], left := if d.round.isEmpty then 1 else d.left })

/-- Quantum of a subflow: WGT x 256 B (R206). -/
def State.subQuantum (s : State) (tint : Nat) : Nat := (s.bank.tint tint).wgt * 256

/-- Idle flows and subflows gain one quantum, up to their ceiling (R207); the flow of a sharer that has left gains nothing and
goes with its last part (R209). -/
def State.creditIdle (s : State) (d : Drr) (busy : List (Nat × Nat)) : Drr :=
  { d with flows := (d.flows.filter (fun f => !f.leaving || busy.any (fun b => b.1 == f.ten))).map (fun f =>
      let c : Int := s.ceiling f.ten
      let subs := f.subs.map (fun u =>
        if busy.contains (f.ten, u.tint) then u else { u with deficit := min c (u.deficit + s.subQuantum u.tint) })
      if f.leaving then f
      else if busy.any (fun b => b.1 == f.ten) then { f with subs := subs }
      else { f with deficit := min c (f.deficit + s.quantum f.ten), subs := subs }) }

/-- Tenant and tint of every part that waits at a stage. -/
def State.busyAt (s : State) (k : Nat) : List (Nat × Nat) := ((s.waitingAt k).map (fun (_, _, r) => (r.ten, r.tint))).dedup

/-- A part has left a stage by withdrawal (R209): a flow without parts leaves the round with its visit, a subflow without
parts its turn, and a round that this completes credits what is idle (R207). -/
def State.drrLeave (s : State) (k : Nat) : State :=
  let d := s.drr k
  let busy := s.busyAt k
  let here (t : Nat) : Bool := busy.any (fun b => b.1 == t)
  let left := ((d.round.take d.left).filter here).length
  let round := d.round.filter here
  let flows := d.flows.map (fun f =>
    let on (t : Nat) : Bool := busy.contains (f.ten, t)
    { f with visited := f.visited && here f.ten, inner := f.inner.filter on,
             innerLeft := ((f.inner.take f.innerLeft).filter on).length,
             subs := f.subs.map (fun u => { u with visited := u.visited && on u.tint }) })
  let d' := { d with flows := flows, round := round, left := if left = 0 then round.length else left }
  s.setDrr k (if left = 0 && decide (0 < d.left) then s.creditIdle d' busy else d')

/-- Occupancy falls (Table 7.4). -/
def State.drrFree (s : State) (k n : Nat) : State :=
  let d := s.drr k
  s.setDrr k { d with occ := d.occ - n }

/-- A charge returned to a flow and its subflow, up to the ceiling (R279). -/
def State.drrRefund (s : State) (k ten tint charge : Nat) : State :=
  let d := s.drr k
  let c : Int := s.ceiling ten
  let f := s.flow d ten
  let u := f.sub tint (s.ceiling ten)
  s.setDrr k (d.setFlow ({ f with deficit := min c (f.deficit + charge) }.setSub
    { u with deficit := min c (u.deficit + charge) }))

/-! ## Path credits -/

/-- Whether a part's stack lies in the other half than its port. -/
def crosses (r : Req) (p : Part) : Bool := portHalf r.port != halfOf p.stack

/-- Reserved headers and beats of a source at a pool (Table 3.7): the crossbar (for the bridge receiver where the part
crosses) or the bridge. -/
def reserveOf (bridge crossing : Bool) : Nat × Nat :=
  if bridge then (8, 16) else if crossing then (32, 128) else (2, 8)

/-- Data beats a part carries into its stack. -/
def Req.dataBeats (r : Req) : Nat := r.beats.length

/-- Whether the source of a part still has a free reserved credit at a pool (R107). -/
def State.reserveFree (s : State) (bridge : Bool) (r : Req) (p : Part) : Bool :=
  let (hn, bn) := reserveOf bridge (crosses r p)
  let mine := s.parts.filterMap (fun (_, q) =>
    match s.req? q.req with
    | none => none
    | some u =>
      let held := if bridge then q.bridge else q.xbar
      let same := if bridge then u.port == r.port
        else q.stack == p.stack && (if crosses r p then crosses u q else u.port == r.port)
      if held == .reserved && same then some (min bn u.dataBeats) else none)
  decide (mine.length < hn) && decide (mine.sum + min bn r.dataBeats ≤ bn)

/-- Charge of a part at the stages: the ingress charge of its request (R192). -/
def partCharge (r : Req) : Nat := r.charge

/-- Stage of Lake's engines (those of the gather's stack for a gather read), of a Felt port for a spill or a fill, of a
feeder port for a page read. -/
def engineStage (r : Req) (p : Part) : Nat :=
  if r.op = 32 then 1080 + (r.port - 128)
  else if r.op = 33 then 1056 + r.ctx / 8 else if r.port ≥ 136 then 1072 + (r.port - 136) else 1056 + p.stack

/-- A part's bridge credit returns: the receiving crossbar has taken it, or it is withdrawn. `returned` remembers that
the part passed the bridge's stage. -/
def State.freeBridge (s : State) (key : Nat) (r : Req) (p : Part) : State :=
  match p.bridge with
  | .unreserved => (s.drrFree (1040 + portHalf r.port) (partCharge r)).setPart key { p with bridge := .returned }
  | .reserved => s.setPart key { p with bridge := .none }
  | _ => s

/-- A part gives back its window occupancy and credits at its quire's and the path's stages (Table 7.4). -/
def State.freePath (s : State) (key : Nat) : State :=
  match s.part? key with
  | none => s
  | some p => match s.req? p.req with
    | none => s
    | some r =>
      let c := partCharge r
      let s := if p.inQuire then s.drrFree r.qbase c else s
      let s := if p.xbar == .unreserved then s.drrFree (1024 + p.stack) c else s
      let s := if p.bridge == .unreserved then s.drrFree (1040 + portHalf r.port) c else s
      s.setPart key { p with inQuire := false, xbar := .returned, bridge := .returned }

/-- A part gives back its window occupancy at every stage it has passed, Lake's, a Felt or a feeder port's among them
(R209). -/
def State.freeStages (s : State) (key : Nat) : State :=
  let s := s.freePath key
  match s.part? key with
  | none => s
  | some p => match s.req? p.req with
    | none => s
    | some r =>
      let s := if p.inLake then s.drrFree (engineStage r p) (partCharge r) else s
      s.setPart key { p with inLake := false }

/-- A part is withdrawn: its stages, pins and record go (R178, R209). -/
def State.withdraw (s : State) (key : Nat) : State :=
  match s.part? key with
  | none => s
  | some p =>
    let s := s.freeStages key
    let a := s.arb p.stack
    let a := if a.rankPin = some key then { a with rankPin := none, rankLack := [] } else a
    let a := if a.waitPin = some key then { a with waitPin := none, waitLack := [] } else a
    let stage := match s.req? p.req with | some r => drrStageOf r p | none => none
    let s := (s.setArb p.stack { a with moved := a.moved.filter (fun x => x != key) }).dropPart key
    match stage with
    | some k => s.drrLeave k
    | none => s

/-! ## The marker -/

/-- A marker's key, and its share of rates and bursts in 1/16 B (R196). -/
def markerKey (ten half : Nat) : Nat := ten * 2 + half

def share (v split half : Nat) : Nat := if half = 0 then v * split / 16 else v - v * split / 16

def burstShare (v split half : Nat) : Nat :=
  let n := if half = 0 then v * split / 16 * 4096 else v * 4096 - v * split / 16 * 4096
  let zero := if half = 0 then split = 0 else split = 16
  16 * (if zero then n else max 8192 n)

def State.marker (s : State) (ten half : Nat) : Marker := Tab.get Marker.reset s.markers (markerKey ten half)
def State.setMarker (s : State) (ten half : Nat) (m : Marker) : State :=
  { s with markers := Tab.set Marker.reset s.markers (markerKey ten half) m }

/-- The colouring procedure of R198: B in 1/16 B. -/
def colourOf (alg : Bool) (m : Marker) (b : Int) (pre : Nat) : Colour × Marker :=
  if !alg then
    if pre = 2 || decide (m.tp < b) then (.red, m)
    else if pre = 1 || decide (m.tc < b) then (.yellow, { m with tp := m.tp - b })
    else (.green, { m with tp := m.tp - b, tc := m.tc - b })
  else if pre = 0 && decide (b ≤ m.tc) then (.green, { m with tc := m.tc - b })
  else if pre != 2 && decide (b ≤ m.tp) then (.yellow, { m with tp := m.tp - b })
  else (.red, m)

/-- Refill of one marker (R197). One in the tick of a boundary that changed the rates under SEM 1 still uses the old ones
(R211, assumption 138). -/
def State.refillMarker (s : State) (ten half : Nat) : State :=
  let p := s.bank.policer ten
  let m := s.marker ten half
  let new := (share p.cir p.split half, share p.pir p.split half)
  let (cir, pir) := match m.oldRates with
    | some (t, old) => if t = s.clk.ticks then old else new
    | none => new
  let cb : Int := burstShare p.cbs p.split half
  let pb : Int := burstShare p.pbs p.split half
  s.setMarker ten half { tc := min cb (m.tc + cir), tp := min pb (m.tp + pir), oldRates := none }

/-- Every bucket of both markers full, to its burst (R571). -/
def State.fillMarkers (s : State) (ten : Nat) : State :=
  let p := s.bank.policer ten
  [0, 1].foldl (fun s h => s.setMarker ten h
    { tc := burstShare p.cbs p.split h, tp := burstShare p.pbs p.split h, oldRates := none }) s

/-- A charge returned to the buckets its request was coloured from, up to the burst (R279). -/
def State.refundMarker (s : State) (r : Req) : State :=
  let p := s.bank.policer r.ten
  let h := portHalf r.port
  let m := s.marker r.ten h
  let b : Int := r.charge * 16
  let cb : Int := burstShare p.cbs p.split h
  let pb : Int := burstShare p.pbs p.split h
  match r.colour, p.alg with
  | .green, false => s.setMarker r.ten h { m with tc := min cb (m.tc + b), tp := min pb (m.tp + b) }
  | .green, true => s.setMarker r.ten h { m with tc := min cb (m.tc + b) }
  | .yellow, _ => s.setMarker r.ten h { m with tp := min pb (m.tp + b) }
  | _, _ => s

/-- A quantity lowered by a debt, down to a floor that it may already lie below (R194). -/
def lowered (x floor d : Int) : Int := min x (max floor (x - d))

/-- Debt of n bytes at a marker (R194): down to the negative of each burst; answers the whole bytes discarded (DESIGN
CHOICE, log 135: the buckets count 1/16 B, DEBT_LOST bytes, and a fraction of a byte is not counted). -/
def State.debtMarker (s : State) (ten half n : Nat) : State × Nat :=
  let p := s.bank.policer ten
  if !p.pen then (s, 0)
  else
    let m := s.marker ten half
    let d : Int := n * 16
    let cf : Int := -(burstShare p.cbs p.split half : Nat)
    let pf : Int := -(burstShare p.pbs p.split half : Nat)
    let tc := lowered m.tc cf d
    let tp := lowered m.tp pf d
    let lost := max (d - (m.tc - tc)) (d - (m.tp - tp))
    (s.setMarker ten half { m with tc := tc, tp := tp }, lost.toNat / 16)

/-- Debt at a shared quire's stage (R194): flow and subflow, down to the negative of the ceiling. Where either is gone all
of it is discarded there. -/
def State.debtFlow (s : State) (q ten tint n : Nat) : State × Nat :=
  let d := s.drr q
  match d.flow? ten with
  | none => (s, n)
  | some f =>
    let c : Int := -(s.ceiling ten : Nat)
    let fd := lowered f.deficit c n
    let l1 := (n : Int) - (f.deficit - fd)
    match f.subs.find? (fun u => u.tint == tint) with
    | none => (s.setDrr q (d.setFlow { f with deficit := fd }), n)
    | some u =>
      let ud := lowered u.deficit c n
      let l2 := (n : Int) - (u.deficit - ud)
      (s.setDrr q (d.setFlow ({ f with deficit := fd }.setSub { u with deficit := ud })), (max l1 l2).toNat)

/-! ## The time gate -/

/-- Position in the current sheet, ns. -/
def State.sheetPos (s : State) : Nat := s.now - s.clk.sheetStart

/-- First grid point at or after a time. -/
def gridAt (x L P : Nat) : Nat := if L = 0 then x else x + (P % L + L - x % L) % L

/-- Sheet length and phase in force for the sheet in progress, ns. -/
def State.grid (s : State) : Nat × Nat :=
  s.clk.oldGrid.getD (s.setting 0x2801 0 * 1000, s.setting 0x2802 0 * 1000)

/-- The next boundary (R217). -/
def State.nextBoundary (s : State) : Nat := gridAt (s.clk.sheetStart + s.grid.1) s.grid.1 s.grid.2

/-- A boundary is due: its swap comes before a fault action of the same swap window (R239). -/
def State.swapDue (s : State) : Bool := !s.pins.porst && decide (s.nextBoundary ≤ s.now)

/-- Length of the sheet in progress, ns. -/
def State.sheetLen (s : State) : Nat := s.nextBoundary - s.clk.sheetStart

/-- A committed set that lands at or before the next boundary changes a quire's gate list or the sheet length (R204). A role
profile changes the lists that follow it (R214). -/
def State.gateChanges (s : State) (q : Nat) : Bool :=
  s.sets.any (fun c => c.committed && decide (c.time ≤ s.clk.sheetStart + s.sheetLen) &&
    decide (c.notBefore ≤ s.clk.sheetStart + s.sheetLen) &&
    c.items.any (fun i => match i.what with
      | .gate b _ => b == q
      | .setting code _ _ => code == 0x2801
      | .profile _ => (s.bank.gate q).follow
      | _ => false))

/-- How long, from now, a run of entries open to a tint lasts; none where it never ends (R203, R204). Entries that start
past the end of a shortened sheet are cut away (R202); the record keeps them for a longer sheet (DEDUCED, log 137). -/
def State.openRun (s : State) (q tint : Nat) : Option Nat :=
  let g := s.bank.gate q
  let pos := s.sheetPos
  let len := s.sheetLen
  -- entries with their start and end in the sheet; the last one runs to the sheet's end
  let ends := g.entries.foldl (fun (acc : List (Nat × Nat × Nat) × Nat) e =>
    (acc.1 ++ [(acc.2, acc.2 + e.dur * 100, e.open_)], acc.2 + e.dur * 100)) ([], 0)
  let kept := ends.1.filter (fun (a, _, _) => decide (a < len))
  let es := kept.zipIdx.map (fun ((a, b, o), i) => (a, if i + 1 = kept.length then len else b, bitAt o tint))
  let here := es.filter (fun (_, b, _) => decide (pos < b))
  let run := here.foldl (fun (acc : Nat × Bool) (_, b, o) => if acc.2 && o then (b, true) else (acc.1, false)) (pos, true)
  if !run.2 then some (run.1 - pos)
  else if s.gateChanges q then some (len - pos)
  else
    let run2 := es.foldl (fun (acc : Nat × Bool) (_, b, o) => if acc.2 && o then (b, true) else (acc.1, false)) (0, true)
    if run2.2 then none else some (len - pos + run2.1)

/-- Bandwidth of a leaf of a stack in tenths of a B/ns at the present point (Tables 2.2, 3.1, 5.5). -/
def State.leafRate (s : State) (k : Nat) : Nat := s.qPer10 k * 32 / (if (s.sck k).opcur = 1 then 2 else 1)

/-- The gate lets a part of a tint and charge through now (R203). -/
def State.gateOpen (s : State) (q k tint charge : Nat) : Bool :=
  let g := s.bank.gate q
  if g.entries.isEmpty then true
  else
    let bw := 2 ^ k * s.leafRate (stackOf q)
    let guard := g.guard + (charge * 10 + bw - 1) / bw
    match s.openRun q tint with
    | none => true
    | some c => decide (0 < c) && decide (guard ≤ c)

/-! ## Wake and admission -/

/-- Whether a channel of a stack, or the stack, is asleep or on its way out of sleep. -/
def State.channelAsleep (s : State) (c : Nat) : Bool :=
  let k := s.sck (c / 32)
  k.asleep || k.waking || k.sr.contains (c % 32)

/-- Count n commands of an energy row (Table 13.4: 0 ACT, 1 RD, 2 WR, 3 REF) and charge them to a tenant, or to the
leaf's background for 0xFFFF and to no tenant for 0xFFFE, a zero-fill (R419, Table 13.5). -/
def State.spend (s : State) (leaf kind n ten : Nat) : State :=
  let k := stackOf leaf
  let p := s.pow k
  let e := Config.energy (s.sup k).stype (s.sck k).opcur kind * n
  let p := match kind with
    | 0 => { p with act := p.act + n }
    | 1 => { p with rds := p.rds + n }
    | 2 => { p with wrs := p.wrs + n }
    | _ => { p with refs := p.refs + n }
  s.setPow k (if ten < 512 then { p with raw := p.raw + e, tenEnergy := Tab.add p.tenEnergy ten e }
    else if ten = 0xFFFE then { p with raw := p.raw + e, zeroEnergy := p.zeroEnergy + e }
    else { p with raw := p.raw + e, leafEnergy := Tab.add p.leafEnergy (leaf % 64) e })

/-! ## Timing (R80, R81) -/

/-- A Table 3.3 interval that keeps its QCLK count, in 1/12 ns: HBM4 and HBM3E-class counts. HBM3E-class values keep
their ns at 8.0 and 6.4 Gb/s, rounded up to cycles. -/
def State.cyc (s : State) (k h4 h3 : Nat) : Nat :=
  let base := 120 / s.qPer10 k
  if s.hbm4 k then h4 * s.qPeriod k else (h3 * 10 + base - 1) / base * s.qPeriod k

/-- A time that keeps its ns, rounded up to QCLK cycles (R81), in 1/12 ns. -/
def State.upQ (s : State) (k t : Nat) : Nat := (t + s.qPeriod k - 1) / s.qPeriod k * s.qPeriod k

/-- An interval that keeps its ns at the economy point (R81), rounded up to cycles. -/
def State.nsq (s : State) (k h4 h3 : Nat) : Nat := s.upQ k (if s.hbm4 k then h4 * 8 else h3 * 10)

/-- tRFCpb and tRFMpb, tRFCab, in 1/12 ns. -/
def State.tRFCpb (s : State) (k : Nat) : Nat := s.nsq k 270 240
def State.tRFCab (s : State) (k : Nat) : Nat := s.nsq k 525 420

/-- tREFI at the rate in force (R110), in 1/12 ns. -/
def State.tREFI (s : State) (k : Nat) : Nat := if (s.sck k).ref2x then 23400 else 46800

/-- Banks of a leaf. -/
def State.banksOf (s : State) (leaf : Nat) : Nat := (s.geom (stackOf leaf)).banks

/-- Settling of the receivers and tXS before the REFab of a self-refresh exit (Table 5.4 steps 6 and 7). -/
def State.exitWait (s : State) (k : Nat) : Nat := 200 * 12 + s.upQ k (360 * 12)

/-- Every bank of a leaf starts its refresh count at t (R109, R110): OWED 0, closed, without page history (R90), and no ACT
before `first`. -/
def State.freshBanks (s : State) (leaf t first : Nat) : State :=
  let l := s.leaf leaf
  let banks := (List.range (s.banksOf leaf)).map (fun i => (i, { Bank.reset with
    sweep := (Tab.get Bank.reset l.banks i).sweep, tRef := first }))
  s.setLeaf leaf { l with banks := banks, tickOrigin := t, tickN := 0 }

/-- The channels' next row slot goes as if pseudo-channel 1 had won the last (R93). -/
def State.freshRows (s : State) (k : Nat) (cs : List Nat) : State :=
  cs.foldl (fun s c => s.setChan (k * 32 + c) { s.chan (k * 32 + c) with rowLast := none }) s

/-- Self-refresh exit of channels of a stack (R120): one REFab to each pseudo-channel before any ACT, every OWED 0, and the
tick origin at the REFab. -/
def State.exitSR (s : State) (k : Nat) (cs : List Nat) : State :=
  let t := s.now12 + s.exitWait k
  let s := cs.foldl (fun s c => [0, 1].foldl (fun s i =>
    let leaf := k * 64 + 2 * c + i
    let s := s.freshBanks leaf t (t + s.tRFCab k)
    (s.setArb k { s.arb k with acts := (s.arb k).acts + 1 }).spend leaf 3 1 0xFFFF) s) s
  let s := s.freshRows k cs
  s.setSck k { s.sck k with sr := (s.sck k).sr.filter (fun c => !cs.contains c) }

/-- Channels of a stack are in service for the first time since their training (R90, R93, R109, R110): their counts start now. -/
def State.afterTraining (s : State) (k : Nat) (cs : List Nat) : State :=
  let s := cs.foldl (fun s c => [0, 1].foldl (fun s i => s.freshBanks (k * 64 + 2 * c + i) s.now12 s.now12) s) s
  let s := s.freshRows k cs
  s.setSck k { s.sck k with sr := (s.sck k).sr.filter (fun c => !cs.contains c) }

/-- A block reset stops admission to a stack: its own, or that of the LAKE or XBAR of its half (R493). -/
def State.blocked (s : State) (k : Nat) : Bool :=
  bitAt s.regs.rstBusy k || bitAt s.regs.rstBusy (16 + halfOf k) || bitAt s.regs.rstBusy (18 + halfOf k)

/-- A stack space is in window mode (R525). -/
def State.windowMode (s : State) (k : Nat) : Bool := !s.pins.ready || s.pins.stopped || s.blocked k

/-- A stack holds its parts for good: the answer is RETRY (R141, R157, R172, R493). -/
def State.stackRetries (s : State) (k : Nat) : Bool :=
  let c := s.sck k
  c.pllHold || c.opfail || (s.heatOf k).st == .tripped || s.blocked k

/-- A wake sent to the AON sequencer (R151, Table 5.4 step 2): the PLL goes to LOCKING and the domains start powering;
an awake stack's channels leave self-refresh at once (step 6). A tripped, held or failed stack refuses it, and the rail
ramp of a raise delays it (R157, R160, R405). -/
def State.wakeStack (s : State) (k : Nat) : State :=
  let c := s.sck k
  if c.waking || (!c.asleep && c.sr.isEmpty) then s
  else if s.stackRetries k || (c.phase = .rampUp && c.asleep) then s
  else if !c.asleep then (if c.pll == .locked then s.exitSR k c.sr else s)
  else s.setSck k { c with waking := true, pll := if c.pll == .locked then .locked else .locking }

/-- A stack is in the hold of a frequency switch (R155). -/
def StackClk.switching (c : StackClk) : Bool := match c.phase with | .switching _ => true | _ => false

/-- A stack is admitting (R172). -/
def State.admitting (s : State) (k : Nat) : Bool :=
  let c := s.sck k
  !s.stopping && !s.stackRetries k && !c.switching && c.pll == .locked && !c.asleep && !c.waking &&
    (s.sup k).trained

/-! ## Stages in order (R190) -/

/-- Give back what the stages took and answer RETRY, or the error of a Lake check (R19, R279). -/
def State.refuse (s : State) (key resp : Nat) : State :=
  match s.part? key with
  | none => s
  | some p => match s.req? p.req with
    | none => s
    | some r =>
      let c := partCharge r
      let s := if p.inQuire then s.drrRefund r.qbase r.ten r.tint c else s
      let s := if p.inLake then s.drrRefund (engineStage r p) r.ten r.tint c else s
      let s := if p.xbar == .unreserved then s.drrRefund (1024 + p.stack) r.ten r.tint c else s
      let s := if p.bridge == .unreserved || p.bridge == .returned then
          s.drrRefund (1040 + portHalf r.port) r.ten r.tint c else s
      let s := (s.refundMarker r).withdraw key
      (s.returnCredits r.port 1 r.dataBeats).answer p.req resp false

/-- A part becomes a candidate of its arbiter; a held stack answers RETRY. -/
def State.enterReady (s : State) (key : Nat) : State :=
  match s.part? key with
  | none => s
  | some p =>
    let s := s.setPart key { p with stage := .ready, since := s.clk.ticks }
    if s.stackRetries p.stack then
      match s.req? p.req with
      | some r => if r.answered then s.refuse key 5 else s
      | none => s
    else s

/-- Wait at a stage, or pass it. -/
def State.stageOr (s : State) (key : Nat) (st : Stage) (k : Nat) (pass : Part → Part) (next : State → State) : State :=
  match s.part? key with
  | none => s
  | some p => match s.req? p.req with
    | none => s
    | some r =>
      let behind := (s.waitingAt k).any (fun (_, _, u) => u.ten == r.ten && u.tint == r.tint)
      match s.drrTake k r.ten r.tint (partCharge r) behind with
      | some s1 => next (s1.setPart key (pass p))
      | none => ((s.setPart key { p with stage := st, since := s.clk.ticks }).drrJoin k r.ten r.tint).cntT r.ten 51 1

/-- Lake's stage for ACCU, ACCO and GATH. -/
def State.enterLake (s : State) (key : Nat) : State :=
  match s.part? key with
  | none => s
  | some p => match s.req? p.req with
    | none => s
    | some r =>
      if (r.op == 3 || r.op == 4 || r.op == 5) && decide (r.port < 128) then
        s.stageOr key .lakeDrr (1056 + p.stack) (fun p => { p with inLake := true }) (fun s => s.enterReady key)
      else s.enterReady key

/-- The crossbar credit (R107); the bridge credit returns once it is taken. -/
def State.enterXbar (s : State) (key : Nat) : State :=
  match s.part? key with
  | none => s
  | some p => match s.req? p.req with
    | none => s
    | some r =>
      if s.reserveFree false r p then
        ((s.setPart key { p with xbar := .reserved }).freeBridge key r { p with xbar := .reserved }).enterLake key
      else s.stageOr key .xbarDrr (1024 + p.stack) (fun p => { p with xbar := .unreserved })
        (fun s => (s.freeBridge key r { p with xbar := .unreserved }).enterLake key)

/-- The bridge credit of a part for the other half (R106). -/
def State.enterBridge (s : State) (key : Nat) : State :=
  match s.part? key with
  | none => s
  | some p => match s.req? p.req with
    | none => s
    | some r =>
      if !crosses r p then s.enterXbar key
      else if s.reserveFree true r p then (s.setPart key { p with bridge := .reserved }).enterXbar key
      else s.stageOr key .bridgeDrr (1040 + portHalf r.port) (fun p => { p with bridge := .unreserved })
        (fun s => s.enterXbar key)

/-- A spill's Felt stage, an unpaced page read's feeder stage (R276), else straight to the path. -/
def State.enterPort (s : State) (key : Nat) : State :=
  match s.part? key with
  | none => s
  | some p => match s.req? p.req with
    | none => s
    | some r =>
      if decide (136 ≤ r.port) && decide (r.op < 32) then
        s.stageOr key .feltDrr (1072 + (r.port - 136)) (fun p => { p with inLake := true }) (fun s => s.enterBridge key)
      else if r.op == 32 && r.ccnt == 1 && !p.inLake then
        s.stageOr key .feedDrr (1080 + (r.port - 128)) (fun p => { p with inLake := true }) (fun s => s.enterBridge key)
      else s.enterBridge key

/-- The stage of a shared quire; own quires have none. -/
def State.enterQuire (s : State) (key : Nat) : State :=
  match s.part? key with
  | none => s
  | some p => match s.req? p.req with
    | none => s
    | some r =>
      if r.op != 6 && decide (r.op < 33) && (s.bank.quire r.qbase).shared then
        s.stageOr key .quireDrr r.qbase (fun p => { p with inQuire := true }) (fun s => s.enterPort key)
      else s.enterPort key

/-- The time gate of the addressed quire (R203, R205). -/
def State.enterGate (s : State) (key : Nat) : State :=
  match s.part? key with
  | none => s
  | some p => match s.req? p.req with
    | none => s
    | some r =>
      if r.op == 6 || r.op == 33 || s.gateOpen r.qbase r.qk r.tint (partCharge r) then s.enterQuire key
      else (s.setPart key { p with stage := .gated, since := s.clk.ticks }).cntT r.ten 50 1

/-- A part released by a round robin stage goes on. -/
def State.drrPassed (s : State) (key : Nat) : State :=
  match s.part? key with
  | none => s
  | some p => match s.req? p.req with
    | none => s
    | some r =>
      match p.stage with
      | .quireDrr => (s.setPart key { p with inQuire := true }).enterPort key
      | .feltDrr => (s.setPart key { p with inLake := true }).enterBridge key
      | .feedDrr => (s.setPart key { p with inLake := true }).enterBridge key
      | .bridgeDrr => (s.setPart key { p with bridge := .unreserved }).enterXbar key
      | .xbarDrr =>
        let p' := { p with xbar := .unreserved }
        ((s.setPart key p').freeBridge key r p').enterLake key
      | .lakeDrr => (s.setPart key { p with inLake := true }).enterReady key
      | _ => s

/-- Colour a request at its marker and treat the colour (R198-R200). `again` marks a part that RACT 1 already held. With PEN
0 nothing is charged and no colour given (R571). A request whose tint stays keeps the target it was judged by (R76, R236). -/
def State.mark (s : State) (key : Nat) (again : Bool) : State :=
  match s.part? key with
  | none => s
  | some p => match s.req? p.req with
    | none => s
    | some r =>
      let q := s.bank.policer r.ten
      if !q.pen then (s.setReq p.req { r with colour := .none }).enterGate key
      else
        let h := portHalf r.port
        let pre := if q.caware then (s.bank.tint r.tint).pcol else 0
        let (c, m) := colourOf q.alg (s.marker r.ten h) (r.charge * 16 : Nat) pre
        let s := s.setMarker r.ten h m
        let held := c == .red && q.ract == 1
        if held then
          if again then s
          else ((s.setPart key { p with stage := .redHeld, since := s.clk.ticks }).cntT r.ten 27 1)
        else
          let (pi, bi) := match c with | .green => (24, 28) | .yellow => (25, 30) | _ => (26, 32)
          let s := (s.cntT r.ten pi 1).cntT r.ten bi r.charge
          let cls := (s.bank.tint r.tint).cls
          let tint := match c with
            | .yellow => if q.yact && decide (cls ≤ 1) then s.bank.yelTint else r.tint
            | .red => if q.ract == 0 then s.bank.redTint else r.tint
            | _ => r.tint
          let target := if tint = r.tint then r.target else s.targetOf r.port tint
          let s := s.setReq p.req { r with colour := c, tint := tint, target := target }
          if c == .red && q.ract == 2 then s.refuse key 5 else s.enterGate key

/-! ## Deckle -/

/-- Places of the return buffer that a read's sent beats have freed (R86): 8 for each beat of a read in natural order, whose
beats carry its own bursts; in proportion to its beats in a converting or skewed region (assumption 23). -/
def freedPlaces (r : Req) (sent : Nat) : Nat :=
  let total := beatsFor r.need
  if !r.region.converting && !r.view.rotated then min r.places (8 * sent)
  else if total = 0 then r.places else r.places * sent / total

/-- Free return-buffer places of a stack that a port holds, and the bridge return credits of those that cross (R86,
Table 3.7). -/
def State.freePlaces (s : State) (k port n : Nat) : State :=
  let a := s.arb k
  let n := min n (Tab.num a.rbuf port)
  let far := portHalf port != halfOf k
  s.setArb k { a with rbuf := Tab.set 0 a.rbuf port (Tab.num a.rbuf port - n),
                      bridgeRet := if far then a.bridgeRet - n else a.bridgeRet }

/-- Beats of a request that wait on the response lane. -/
def Port.waitingBeats (q : Port) (id : Nat) : Nat := (q.lane.filter (fun b => b.req == id && b.hasData)).length

/-- Drop a read that Lake issued (R187, R189): one not queued yet is withdrawn, and the data of one queued is discarded as it
arrives. -/
def State.dropRead (s : State) (id : Nat) (r : Req) : State :=
  let key := partKey id r.stack
  let s := s.freePlaces r.stack r.port (r.got.length / 4)
  match s.part? key with
  | none => s.dropReq id
  | some p =>
    if p.stage == .admitted && p.toServe != 0 then (s.freeStages key).setReq id { r with phase := .discarded, got := [] }
    else (s.withdraw key).dropReq id

end Sys2Proof.Machine
end

