-- ==== Sys2Proof/Machine/LeafOps.lean ====
section
/-! DEFINITION. What the commands share on a leaf: stain events, queue entries with their hazards, the merge buffer, the
error tracker, leaf loss and FAILED quires, and the repair map. -/

namespace Sys2Proof.Machine

/-! ## Quires and stain events -/

/-- Members of a quire as its stacks stand. -/
def State.membersOf (s : State) (base k : Nat) : List Nat := members base k (s.geom (stackOf base)).leaves

/-- The allocated quire that holds a leaf, in the active bank. -/
def State.quireAt (s : State) (leaf : Nat) : Option (Nat × QuireRec) :=
  Tab.first s.bank.quires (fun b q => q.qstate != .free && (s.membersOf b q.qk).contains leaf)

/-- A stain event (R323): one alarm record (Table 11.4), the bits of STAIN_STAT and the leaf's counter. `ten` 0xFFFF
and `sid` 0 for causes without a request. -/
def State.stainEvent (s : State) (leaf la cause synd ten sid words : Nat) : State :=
  let qb := match s.quireAt leaf with | some (b, _) => b | none => 0xFFFF
  let body := leBytes 8 s.now ++ leBytes 2 leaf ++ leBytes 4 (la / 8 * 8) ++ [cause, synd] ++ leBytes 2 qb ++
    leBytes 2 ten ++ leBytes 2 sid ++ [words] ++ List.replicate 9 0
  let s := s.alarmRec (s.mkRec 0x10 0 2 leaf 2 body)
  let st := s.regs.stainStat ||| 2 ^ (cause - 1) ||| 2 ^ (16 + stackOf leaf)
  let s := { s with regs := { s.regs with stainStat := st } }
  (s.tally (stackOf leaf) (0x1300 + 4 * (leaf % 64)) 1 true).cntG 17 1

/-! ## Entries -/

/-- The location of a leaf-local address of a leaf. -/
def State.loc (s : State) (leaf la : Nat) : Loc := locOf (s.geom (stackOf leaf)) la

/-- A queue entry (Table 3.4) with its stamps (R167): arrival and target in ns. -/
def State.mkEntry (s : State) (leaf la nb : Nat) (wr lake : Bool) (src : Src) (words : List SWord)
    (ten sid tint arrival target port : Nat) : Entry :=
  let k := stackOf leaf
  let l := s.loc leaf la
  { id := 0, wr := wr, lake := lake, bank := l.flat, row := l.row, col := l.col, la := la, nb := nb, ten := ten,
    sid := sid, tint := tint, deadline := s.stOf k (arrival + target), u1t := s.stOf k (arrival + target / 2),
    u2t := s.stOf k (arrival + target * 3 / 4), port := port, urg := 0, haz := false, words := words, raw := [],
    at_ := s.now, src := src }

/-- Timed urgency level of an entry (R170). -/
def timedLevel (stc : Nat) (e : Entry) : Nat :=
  if reached stc e.deadline then 3 else if reached stc e.u2t then 2 else if reached stc e.u1t then 1 else 0

/-- URG of an entry: the higher of its timed level and the level its port drives (R28, R170). -/
def State.urgOf (s : State) (stc : Nat) (e : Entry) : Nat :=
  let t := timedLevel stc e
  if e.port < 128 then max t (s.port e.port).urg else t

/-- Free queue entries of a leaf (64 in all, Table 3.4). -/
def State.freeEntries (s : State) (leaf : Nat) : Nat := 64 - (s.leaf leaf).queue.length

/-- Whether R88 lets an entry be a candidate: in a bank with a HAZ entry only its oldest entry is. -/
def Leaf.inOrder (l : Leaf) (e : Entry) : Bool :=
  let mine := l.queue.filter (fun q => q.bank == e.bank)
  !mine.any (fun q => q.haz) || (match mine with | q :: _ => q.id == e.id | [] => true)

/-- Earlier deadline of two entries (R169), then age. -/
def entryBefore (a b : Entry) : Bool :=
  let d := diff32 a.deadline b.deadline
  decide (d < 0) || (d == 0 && decide (a.id < b.id))

def Leaf.bank (l : Leaf) (b : Nat) : Bank := Tab.get Bank.reset l.banks b
def Leaf.setBank (l : Leaf) (b : Nat) (x : Bank) : Leaf := { l with banks := Tab.set Bank.reset l.banks b x }

/-- Refresh-class work claims a bank: a forced refresh (R115), a pending mitigation (R125) or a spill sweep (R127). -/
def State.held (s : State) (leaf bank : Nat) : Bool :=
  let b := (s.leaf leaf).bank bank
  b.sweep || decide ((s.setting 0x4003 (stackOf leaf) : Int) ≤ b.owed) || (s.prot leaf).mits.any (fun x => x.1 == bank)

/-- Claims of class-2 entries on banks open to another row (R95): each bank's entry of earliest deadline. -/
def State.claims (s : State) (leaf : Nat) : State :=
  let l := s.leaf leaf
  let urgent := l.queue.filter (fun e => decide (2 ≤ e.urg) && l.inOrder e)
  let first (e : Entry) : Bool := !urgent.any (fun q => q.bank == e.bank && q.id != e.id && entryBefore q e)
  let banks := (urgent.filter first).foldl (fun t e =>
    let b := Tab.get Bank.reset t e.bank
    if b.openRow.isSome && b.openRow != some e.row && b.claim.isNone && !s.held leaf e.bank then
      Tab.set Bank.reset t e.bank { b with claim := some e.id }
    else t) l.banks
  s.setLeaf leaf { l with banks := banks }

/-- Queue an entry as the youngest of its leaf, with HAZ by R88; a parked leaf leaves the parked
state, and a sleeping channel is woken (R147, R151). An entry queued at U2 claims its bank at once (R95). -/
def State.pushEntry (s : State) (leaf : Nat) (e : Entry) : State :=
  let l := s.leaf leaf
  let hits (q : Entry) : Bool := q.bank == e.bank && q.row == e.row && (q.wr || e.wr)
  let e := { e with id := s.nextId, haz := l.queue.any hits }
  let e := { e with urg := max e.urg (s.urgOf (s.sck (stackOf leaf)).stc e) }
  let q := l.queue.map (fun q => if hits q then { q with haz := true } else q)
  let s := s.setLeaf leaf { l with queue := q ++ [e], parked := false,
                                   wbuf := l.wbuf + (if e.wr then e.nb else 0) }
  let s := ({ s with nextId := s.nextId + 1 }).claims leaf
  if s.channelAsleep (channelOf leaf) then s.wakeStack (stackOf leaf) else s

/-! ## The merge buffer -/

/-- Whether every byte of a burst is merged. -/
def MergeEnt.full (m : MergeEnt) : Bool := m.words.all (fun w => w.mask == 0xFF)

/-- Bytes of a word written over another by their enables. -/
def overlay (old new : Word64) (mask : BitVec 8) : Word64 :=
  (List.range 8).foldl (fun (a : Word64) i =>
    if mask.getLsbD i then
      let m : Word64 := BitVec.ofNat 64 (0xFF * 256 ^ i)
      (a &&& ~~~m) ||| (new &&& m)
    else a) old

/-- Merge one burst's enabled bytes into an entry's (R329). -/
def mergeWord (a b : SWord) : SWord :=
  ⟨overlay a.data b.data b.mask, a.mask ||| b.mask, a.stain || (b.stain && b.mask != 0)⟩

/-- Close an entry and queue its flush (R330-R332): one write where BMASK is all ones, else a Lake read and a Lake write
behind it whose data the read supplies. -/
def State.flushEnt (s : State) (leaf : Nat) (m : MergeEnt) : State :=
  let c := s.care leaf
  let mk (wr lake : Bool) (ws : List SWord) : Entry :=
    s.mkEntry leaf m.la 1 wr lake .merge ws m.ten m.sid m.tint m.arrival m.deadline m.port
  if m.full then
    let s := s.setCare leaf { c with merge := c.merge.filter (fun x => !(x.la == m.la && !x.closed)) }
    s.pushEntry leaf (mk true false m.words)
  else
    let s := s.setCare leaf { c with merge := c.merge.map (fun x =>
      if x.la == m.la && !x.closed then { x with closed := true } else x) }
    (s.pushEntry leaf (mk false true [])).pushEntry leaf (mk true true [])

/-- The open entry of a burst. -/
def Care.openEnt (c : Care) (la : Nat) : Option MergeEnt := c.merge.find? (fun m => m.la == la && !m.closed)

/-- Bursts of an entry that it reads or writes, by number. -/
def Entry.bursts (e : Entry) : List Nat :=
  (List.range e.nb).filter (fun i => !e.wr || e.words.isEmpty || ((e.words.drop (4 * i)).take 4).any (fun w => w.mask != 0))

/-- Close cause 3 of R330: an access to bursts, by address, closes their open entries first. -/
def State.closeFor (s : State) (leaf : Nat) (las : List Nat) : State :=
  las.foldl (fun s la => match (s.care leaf).openEnt la with
    | none => s
    | some m => s.flushEnt leaf m) s

/-- An access reaches the leaf: matching merge entries close and flush ahead of it, then it is queued. -/
def State.enqueue (s : State) (leaf : Nat) (e : Entry) : State := 
  (s.closeFor leaf (e.bursts.map (fun i => e.la / 32 * 32 + 32 * i))).pushEntry leaf e

/-- The oldest open merge entry of a leaf. -/
def Care.oldestEnt (c : Care) : Option MergeEnt :=
  c.merge.foldl (fun acc m => if m.closed then acc else match acc with
    | none => some m
    | some a => if m.born < a.born then some m else some a) none

/-- Merge a narrow burst (R329), closing the oldest entry where none is free (R330 cause 4); in a debug stop nothing but cause 3
closes an entry (R333). A conversion that finds no free entry takes a place beside the 16, where it waits its turn (DESIGN CHOICE:
assumption 144). -/
def State.mergeBurst (s : State) (leaf la : Nat) (ws : List SWord) (conv : Nat) (byConv : Bool)
    (ten sid tint port arrival target : Nat) : State :=
  let c := s.care leaf
  match c.openEnt la with
  | some m =>
    let m' := { m with words := List.zipWith mergeWord m.words ws, conv := m.conv ||| conv }
    let s := s.setCare leaf { c with merge := c.merge.map (fun x => if x.la == la && !x.closed then m' else x) }
    if m'.full && !s.stopping then s.flushEnt leaf m' else s
  | none =>
    let s := if c.merge.length < 16 || s.stopping then s else match c.oldestEnt with
      | some m => s.flushEnt leaf m
      | none => s
    let m : MergeEnt := { la := la, words := ws, conv := conv, byConv := byConv, inject := 0, flip := 0,
                          born := s.clk.ticks, closed := false, ten := ten, sid := sid, tint := tint, port := port,
                          arrival := arrival, deadline := target }
    let c := s.care leaf
    let s := s.setCare leaf { c with merge := c.merge ++ [m] }
    if m.full && !s.stopping then s.flushEnt leaf m else s

/-- An in-place conversion of words of a burst (R321): a merge entry that asks for it, without bytes. `ten` is the tenant
of the read that found the UE, 0xFFFF for none. -/
def State.convert (s : State) (leaf la mask ten sid : Nat) : State :=
  let none4 : List SWord := List.replicate 4 ⟨0, 0, false⟩
  s.mergeBurst leaf (la / 32 * 32) none4 mask true ten sid 7 136 s.now (s.bank.tint 7).target

/-- Close every open entry of a leaf (R330 cause 5). -/
def State.closeAll (s : State) (leaf : Nat) : State :=
  (s.care leaf).merge.foldl (fun s m => if m.closed then s else s.flushEnt leaf m) s

/-- One word of a flush (R332): the merged word over the old one read. A CONV word that its read finds clean of UE is
left as it is, marked by an empty mask (R322). -/
def flushWord (m : SWord) (conv : Bool) (old : Word64 × Byte) : SWord :=
  let d := decodeWord old.1 old.2
  if m.mask = 0xFF then m
  else if conv && m.mask == 0 then
    (if d.cls == .ue then ⟨d.data, 0xFF, true⟩ else ⟨d.data, 0, d.stain⟩)
  else ⟨overlay d.data m.data m.mask, 0xFF, d.stain || m.stain⟩

/-- Bits that an injection inverts in the words of its burst (R485). -/
def MergeEnt.flips (m : MergeEnt) : List (Word64 × Byte) :=
  if m.inject = 0 then []
  else (List.range 4).map (fun i =>
    if i + 1 = m.inject then (BitVec.ofNat 64 m.flip.toNat, BitVec.ofNat 8 (m.flip.toNat / 2 ^ 64)) else (0, 0))

/-- The merge read of a burst has returned its words: the pair's write takes its data, and a UE of an old word raises a
stain event of cause 3 unless the entry was opened by its own conversion (R332). -/
def State.mergeRead (s : State) (leaf la : Nat) (raw : List (Word64 × Byte)) : State :=
  let c := s.care leaf
  match c.merge.find? (fun m => m.la == la && m.closed) with
  | none => s
  | some m =>
    let ws := (List.range 4).map (fun i =>
      flushWord (m.words.getD i ⟨0, 0, false⟩) (bitAt m.conv i) (raw.getD i (0, 0xFF)))
    let i := (c.merge.findIdx? (fun x => x.la == la && x.closed)).getD 0
    let s := s.setCare leaf { c with merge := c.merge.eraseIdx i }
    let l := s.leaf leaf
    let j := (l.queue.findIdx? (fun e => e.src == .merge && e.wr && e.la == la && e.words.isEmpty)).getD 64
    let s := s.setLeaf leaf { l with queue := l.queue.zipIdx.map (fun (e, n) =>
      if n = j then { e with words := ws, raw := m.flips } else e) }
    let ues := (List.range 4).filter (fun i =>
      let (d, ch) := raw.getD i (0, 0xFF)
      (m.words.getD i ⟨0, 0, false⟩).mask != 0xFF && (decodeWord d ch).cls == .ue)
    match ues with
    | [] => s
    | i :: _ =>
      if m.byConv then s
      else
        let (d, ch) := raw.getD i (0, 0xFF)
        s.stainEvent leaf (la + 8 * i) 3 (syndrome d ch) 0xFFFF 0 ues.length

/-! ## The repair map -/

/-- The repair map as firmware holds it: the newest map waiting to be stored, else the device's. -/
def State.curMap (s : State) : List MapEntry × List Nat × List Nat :=
  match s.stores.reverse.find? (fun x => x.type_ == 2) with
  | some x => (x.map, x.serials, x.altSerials)
  | none => (s.boot.recs.map, s.boot.recs.serials, s.boot.recs.altSerials)

/-- Queue a store of the repair map (R352). -/
def State.storeMap (s : State) (m : List MapEntry) (ser alt : List Nat) (ticket : Nat) (clear : Bool) : State :=
  { s with stores := s.stores ++ [{ type_ := 2, ticket := ticket, map := m, serials := ser, altSerials := alt,
                                    clearFull := clear, base := [] }] }

/-- Whether a stack's new entries are recorded against its alternate row (R354). -/
def State.altRow (s : State) (k : Nat) : Bool :=
  let (_, ser, _) := s.curMap
  ser.getD k 0 != (s.sup k).disc.serial

/-- Entries of the map in force that apply to a stack (R354). -/
def State.stackMap (s : State) (k : Nat) : List MapEntry :=
  (s.curMap).1.filter (fun e => e.stack == k && e.alt == s.altRow k)

/-- LANE entries of the map in force for a channel, as an SPMAP: a later entry for a lane replaces an earlier one. -/
def State.mapSpares (s : State) (ch : Nat) : Tab Nat :=
  ((s.stackMap (ch / 32)).filter (fun e => e.kind == 4 && e.channel == ch % 32)).foldl (fun t e =>
    let pc := e.pc % 2
    Tab.put (Tab.keep t (fun i l => !(i / 4 == pc && l == e.lane))) (pc * 4 + e.spare % 4) e.lane) []

/-- Set a bit of MAINT_STAT and the bit of the stack that raised it (Table 18.8). -/
def State.maint (s : State) (bit k : Nat) : State :=
  { s with regs := { s.regs with maintStat := (s.regs.maintStat ||| 2 ^ bit) ||| 2 ^ (16 + k) } }

/-- Record a new entry in the repair map, or raise MAPFULL where it holds 2048 (R352). -/
def State.addMap (s : State) (e : MapEntry) : State :=
  let (m, ser, alt) := s.curMap
  if m.length ≥ 2048 then
    let s := (s.maint 0 e.stack).maint 1 e.stack
    s.note 0x0E 1 e.stack [(1, 2), (2, e.row % 65536)]
  else
    let three := decide ((s.geom e.stack).sids = 3) && decide (e.row < 0xFFFF)
    let e := if three then { e with sid3 := e.bank / 16, bank := e.bank % 16 } else e
    let e := { e with alt := s.altRow e.stack, time := s.now / 1000000000 % 2 ^ 32 }
    s.storeMap (m ++ [e]) ser alt 0 false

/-- A map entry for a row of a leaf. -/
def rowEntry (kind leaf bank row cause spare : Nat) : MapEntry :=
  { kind := kind, stack := stackOf leaf, channel := leaf % 64 / 2, pc := leaf % 2, sid3 := 0, alt := false, bank := bank,
    lane := 0xFF, row := row, time := 0, cause := cause, spare := spare }

/-! ## Lost leaves and FAILED quires -/

/-- A request goes to a quire: not a MARK, a FENCE or a Felt fill, whose quire field says nothing. -/
def Req.namesQuire (r : Req) : Bool := r.op != 6 && r.op != 7 && r.op != 34


/-- A kind 0x2 notification of a tile closed or timed out (Table 10.8). -/
def State.tileNote (s : State) (kind : Nat) (t : Tile) (flags : Nat) : State :=
  let step := t.step0.getD t.step
  let body := leBytes 8 s.now ++ leBytes 5 t.addr ++ [t.len, t.ccnt, flags] ++ leBytes 8 t.arrived ++
    leBytes 4 (step % 2 ^ 32)
  s.notify kind (t.sid0.getD t.sid) t.ten body

/-- A quire is set FAILED at once (R70): its tenants enter FAILED with a WINDOW_FAILED event each, and its open tiles
close without a write (Table 10.2). -/
def State.failQuire (s : State) (base : Nat) : State :=
  let q := s.bank.quire base
  if q.qstate != .active && q.qstate != .draining && q.qstate != .zeroing then s
  else
    let s := s.setBank (s.bank.setQuire base { q with qstate := .failed })
    let s := s.note 0x12 2 base [(1, q.qk)]
    let wins := s.bank.windows.filter (fun (_, w) => w.valid && w.qbase == base)
    let s := wins.foldl (fun s (key, _) =>
      let t := key / 8
      let r := s.bank.tenant t
      let s := if r.tstate == .active then s.setBank (s.bank.setTenant t { r with tstate := .failed }) else s
      s.postEvent t 1 (key % 8 + base * 256)) s
    let gone := s.lake.tiles.filter (fun (_, t) => t.qbase == base)
    let s := gone.foldl (fun s (_, t) => (s.tileNote 2 t 4).cntT t.ten 10 1) s
    { s with lake := { s.lake with tiles := Tab.keep s.lake.tiles (fun _ t => t.qbase != base) } }

/-- A leaf is lost (R346): a LEAF_LOST entry is recorded and every quire that holds the leaf fails. -/
def State.leafLost (s : State) (leaf : Nat) : State :=
  let c := s.care leaf
  if c.lost then s
  else
    let s := s.setCare leaf { c with lost := true }
    let s := s.maint 4 (stackOf leaf)
    let s := (s.addMap { rowEntry 6 leaf 0xFF 0xFFFF 1 0 with bank := 0 }).note 0x0E 2 leaf [(1, 4), (2, 0)]
    match s.quireAt leaf with
    | some (b, _) => s.failQuire b
    | none => s

/-! ## Maintenance requests -/

/-- Leaves whose tokens a request takes: both of the channel for RETRAIN and a lane REPAIR (Table 4.5). -/
def MReq.leaves (m : MReq) (leaf : Nat) : List Nat :=
  if m.act == .retrain || m.isLane then [leaf / 2 * 2, leaf / 2 * 2 + 1] else [leaf]

/-- Raise a maintenance request on its leaves; MAINTENANCE_START checks it (R128). -/
def State.request (s : State) (leaf : Nat) (m : MReq) : State :=
  (m.leaves leaf).foldl (fun s l => s.setCare l { s.care l with raised := (s.care l).raised ++ [m] }) s

def healReq (bank row ticket : Nat) : MReq := ⟨.heal, bank, row, 0, false, 1, ticket, false⟩
def repairReq (bank row cause ticket : Nat) : MReq := ⟨.repair, bank, row, 0, false, cause, ticket, false⟩
def laneReq (lane cause ticket : Nat) : MReq := ⟨.repair, 0, 0, lane, true, cause, ticket, false⟩
def plainReq (act : Act) (cause ticket : Nat) : MReq := ⟨act, 0, 0, 0, false, cause, ticket, false⟩

/-- Requests of a kind that a leaf holds in any way. -/
def Care.every (c : Care) : List MReq :=
  c.holder.toList ++ c.riders ++ c.paused.map (fun x => x.2) ++ c.queue ++ c.raised ++ c.joined

/-- A trigger of Table 12.4 (R371): a RETRAIN request of the channel with its cause, unless one is queued or running or a
correction is pending; an absorbed trigger of the owner completes with the one that absorbed it. -/
def State.requestRetrain (s : State) (ch cause ticket : Nat) : State :=
  let c := s.chan ch
  let busy := (s.care (2 * ch)).every.any (fun m => m.act == .retrain) || c.retrain.isSome || c.pendingCorr ||
    c.corr.isSome
  let asleep := (s.sck (ch / 32)).asleep || (s.sck (ch / 32)).sr.contains (ch % 32)
  if asleep || c.cal.untrained then s
  else
    let s := s.setChan ch { c with lastCause := if busy then c.lastCause else cause,
                                   retrainTickets := if ticket = 0 then c.retrainTickets else c.retrainTickets ++ [ticket] }
    if busy then s else s.request (2 * ch) (plainReq .retrain cause 0)

/-! ## The error tracker -/

/-- Spare rows of a bank that are left. -/
def State.spareLeft (s : State) (leaf bank : Nat) : Nat :=
  let u := s.sup (stackOf leaf)
  u.disc.spareRows - Tab.num u.spareRows (leaf % 64 * 64 + bank)

/-- More than 16 WEAK rows lose the leaf (R346). -/
def State.weakCheck (s : State) (leaf : Nat) : State :=
  if ((s.care leaf).track.filter (fun (_, e) => e.weak)).length > 16 then s.leafLost leaf else s

/-- A hard fault of a tracked row (R345). -/
def State.hardFault (s : State) (leaf i : Nat) (e : Track) : State :=
  if s.spareLeft leaf e.bank > 0 then s.request leaf (repairReq e.bank e.row 1 0)
  else
    let c := s.care leaf
    let s := s.setCare leaf { c with track := Tab.put c.track i { e with weak := true } }
    let s := s.maint 3 (stackOf leaf)
    (s.addMap (rowEntry 5 leaf e.bank e.row 1 0)).weakCheck leaf

/-- The first tracker place that is free, else the oldest entry neither QUEUED, HEALED nor WEAK (R341). -/
def Care.trackPlace (c : Care) : Option Nat :=
  match (List.range 32).find? (fun i => (Tab.find? c.track i).isNone) with
  | some i => some i
  | none => (c.track.foldl (fun (acc : Option (Nat × Nat)) (i, e) =>
      if e.queued || e.healed || e.weak then acc
      else match acc with
        | none => some (i, e.born)
        | some (_, b) => if e.born < b then some (i, e.born) else acc) none).map (fun x => x.1)

/-- One CE sighting (R341): `tRead` is when the word's read command issued. -/
def State.sighting (s : State) (leaf bank row word bit tRead : Nat) : State :=
  let c := s.care leaf
  match Tab.first c.track (fun _ e => e.bank == bank && e.row == row) with
  | none =>
    match c.trackPlace with
    | none =>
      let s := s.tally (stackOf leaf) (0x1500 + 4 * (leaf % 64)) 1 true
      let s := s.maint 7 (stackOf leaf)
      s.setCare leaf { c with ovfSheet := c.ovfSheet + 1 }
    | some i =>
      let e : Track := { bank := bank, row := row, word := word, bit := bit, queued := false, healed := false,
                         htime := 0, weak := false, born := s.clk.ticks }
      s.setCare leaf { c with track := Tab.put c.track i e }
  | some (i, e) =>
    if e.weak then s
    else if !e.healed then
      if e.queued then s
      else (s.setCare leaf { c with track := Tab.put c.track i { e with queued := true } }).request leaf (healReq bank row 0)
    else if tRead < e.htime then s
    else if s.now - e.htime < s.setting 0x400F (stackOf leaf) * 3600 * 1000000000 then s.hardFault leaf i e
    else
      let e' := { e with healed := false, queued := false, word := word, bit := bit }
      s.setCare leaf { c with track := Tab.put c.track i e' }

/-- A CE sighting counts against its lane (R349): LANE_CE distinct words of a lane within an hour queue a lane REPAIR, and
the count begins again. -/
def State.laneSighting (s : State) (leaf key lane : Nat) : State :=
  let ch := leaf / 2
  let c := s.chan ch
  let idx := leaf % 2 * 36 + lane
  let recent := (Tab.get [] c.laneCe idx).filter (fun (k, t) => decide (s.now < t + 3600000000000) && k != key)
  let recent := recent ++ [(key, s.now)]
  if recent.length ≥ s.setting 0x4010 (stackOf leaf) then
    (s.setChan ch { c with laneCe := Tab.put c.laneCe idx [] }).request leaf (laneReq idx 3 0)
  else s.setChan ch { c with laneCe := Tab.put c.laneCe idx recent }

/-- A UE of a word counts against its channel (R350): UE_BURST distinct words within 1 ms queue a RETRAIN. -/
def State.ueSighting (s : State) (leaf key : Nat) : State :=
  let ch := leaf / 2
  let c := s.chan ch
  let recent := c.ueWords.filter (fun (k, t) => decide (s.now < t + 1000000) && k != key)
  let recent := recent ++ [(key, s.now)]
  let s := s.setChan ch { c with ueWords := recent }
  if recent.length ≥ s.setting 0x4011 (stackOf leaf) then
    (s.setChan ch { s.chan ch with ueWords := [] }).requestRetrain ch 7 0
  else s

/-- Decode the words of a read and act on their classes for the tracker (R318, R341, R349, R350) and on UEs by raising
one stain event per burst and converting in place (R321). `cause` is the stain cause, 0 for none; `count` the tally of CE words. -/
def State.readWords (s : State) (leaf la : Nat) (raw : List (Word64 × Byte)) (cause count ten sid tRead : Nat)
    (track convert : Bool) : State :=
  let dec := raw.map (fun (d, c) => decodeWord d c)
  let s := dec.zipIdx.foldl (fun s (w, i) =>
    match w.cls with
    | .ce bit =>
      let s := s.tally (stackOf leaf) (count + 4 * (leaf % 64)) 1 true
      if track then
        let a := la + 8 * i
        let l := s.loc leaf a
        (s.sighting leaf l.flat l.row (l.col * 4 + a / 8 % 4) bit tRead).laneSighting leaf (cellKey leaf a) (laneOfBit bit)
      else s
    | .ue =>
      let a := la + 8 * i
      let l := s.loc leaf a
      let s := s.ueSighting leaf (cellKey leaf a)
      if (s.care leaf).track.any (fun (_, e) => e.weak && e.bank == l.flat && e.row == l.row) then s.leafLost leaf else s
    | _ => s) s
  (List.range ((raw.length + 3) / 4)).foldl (fun s b =>
    let ues := (List.range 4).filter (fun i => match dec[4 * b + i]? with | some w => w.cls == .ue | none => false)
    match (if cause = 0 then [] else ues) with
    | [] => s
    | i :: _ =>
      let synd := match dec[4 * b + i]? with | some w => w.synd | none => 0
      let a := la + 32 * b
      let s := s.stainEvent leaf (a + 8 * i) cause synd ten sid ues.length
      if convert then s.convert leaf a ((ues.map (fun j => 2 ^ j)).sum) ten sid else s) s

end Sys2Proof.Machine
end

