-- ==== Sys2Proof/Machine/LakeOps.lean ====
section
/-! DEFINITION. Lake's work: windows and regions as its engines look them up, watermark digests and dumps, ACCO tiles,
accumulate jobs, gathers and prefetches (R279-R314). -/

namespace Sys2Proof.Machine

/-! ## Windows and regions -/

/-- Length of a window: the capacity of its quire (R56). -/
def State.windowLen (s : State) (w : Window) : Nat := 2 ^ w.qk * (s.geom (stackOf w.qbase)).capacity

/-- Among eight windows, the one that holds an address (R57). -/
def State.windowIn (s : State) (win : Nat → Window) (addr : Nat) : Option (Nat × Window) :=
  ((List.range 8).map (fun i => (i, win i))).find? (fun (_, w) =>
    w.valid && decide (w.wbase * 2 ^ 21 ≤ addr) && decide (addr < w.wbase * 2 ^ 21 + s.windowLen w))

/-- The window of a tenant that holds an address in the active bank. -/
def State.windowOf (s : State) (ten addr : Nat) : Option (Nat × Window) := s.windowIn (s.bank.window ten) addr

/-- Among 64 regions, the one that governs an address (R74): 64 for none. -/
def regionIn (reg : Nat → Region) (addr : Nat) : Nat :=
  (List.range 64).foldl (fun best i =>
    let g := reg i
    let lo := g.rbase * 2 ^ 21
    let hi := lo + (g.rlen + 1) * 2 ^ 21
    if g.valid && decide (lo ≤ addr) && decide (addr < hi) &&
        (best == 64 || decide (g.prio > (reg best).prio)) then i else best) 64

/-- The region of a tenant that governs an address. -/
def regionOf (b : Banked) (ten addr : Nat) : Nat := regionIn (b.region ten) addr

/-- The region record of an index, the default of R73 for 64. -/
def regionAt (b : Banked) (ten i : Nat) : Region := if i = 64 then Region.none else b.region ten i

/-- Skew profile of a region. -/
def State.skewOf (s : State) (r : Region) : Skew := if r.skew = 0 then Skew.none else s.bank.skew r.skew

/-! ## The map a request keeps (R76, R274) -/

/-- A tenant's map as the active bank holds it. -/
def State.snapOf (s : State) (ten : Nat) : MapSnap :=
  { windows := (List.range 8).map (s.bank.window ten),
    regions := (Tab.keep s.bank.regions (fun i _ => i / 64 == ten)).map (fun (i, r) => (i % 64, r)),
    skews := s.bank.skews }

def MapSnap.region (m : MapSnap) (i : Nat) : Region := if i = 64 then Region.none else Tab.get Region.none m.regions i

/-- Index of the region that governs an address. -/
def MapSnap.regionOf (m : MapSnap) (addr : Nat) : Nat := regionIn (Tab.get Region.none m.regions) addr

def MapSnap.regionAt (m : MapSnap) (addr : Nat) : Region := m.region (m.regionOf addr)

def MapSnap.skewOf (m : MapSnap) (r : Region) : Skew := if r.skew = 0 then Skew.none else Tab.get Skew.none m.skews r.skew

/-- Where an address lies by a kept map: its window and its quire-relative address. -/
def State.placeIn (s : State) (m : MapSnap) (addr : Nat) : Option (Window × Nat) :=
  (s.windowIn (fun i => m.windows.getD i Window.none) addr).map (fun (_, w) => (w, addr - w.wbase * 2 ^ 21))

/-- Runs of bursts of a quire, granule by granule: (leaf, leaf-local address, bursts), each from its first burst to its
last. `bs` are burst numbers of the page that starts at quire-relative address a0. -/
def State.readPieces (s : State) (base k a0 : Nat) (bs : List Nat) : List Piece :=
  let L := (s.geom (stackOf base)).leaves
  let gs := (bs.map (fun b => b / 8)).dedup
  gs.map (fun g =>
    let mine := bs.filter (fun b => b / 8 == g)
    let lo := mine.foldl min (8 * g + 7)
    let hi := mine.foldl max (8 * g)
    let a := a0 + 32 * lo
    { leaf := leafOf a base k L, la := leafLocal a k, nb := hi - lo + 1, words := [] })

/-- Stored bursts as pieces, granule by granule in address order: one run from the first full burst of the granule to its
last, so that a request has at most 16 in a leaf (R84), and each narrow burst on its own. The run writes no byte of a burst in
it that is not full (assumption 114). -/
def State.writePieces (s : State) (base k : Nat) (bs : List SBurst) : List Piece :=
  let L := (s.geom (stackOf base)).leaves
  let piece (a n : Nat) (ws : List SWord) : Piece :=
    { leaf := leafOf a base k L, la := leafLocal a k, nb := n, words := ws }
  let gs := (bs.map (fun b => b.a / 256)).dedup
  gs.flatMap (fun g =>
    let mine := bs.filter (fun b => b.a / 256 == g)
    let full := mine.filter (fun b => !b.narrow)
    let run : List Piece := match full.head?, full.getLast? with
      | some lo, some hi =>
        let n := (hi.a - lo.a) / 32 + 1
        [piece lo.a n ((List.range n).flatMap (fun i => match full.find? (fun b => b.a == lo.a + 32 * i) with
          | some b => b.words
          | none => List.replicate 4 ⟨0, 0, false⟩))]
      | _, _ => []
    run ++ (mine.filter SBurst.narrow).map (fun b => piece b.a 1 b.words))

/-- A piece that goes to the merge buffer. -/
def Piece.narrow (p : Piece) : Bool := p.nb == 1 && p.words.any (fun w => w.mask != 0xFF)

/-- Granules of a list of pieces: the write lanes move one at a time (R179). -/
def granulesOf (ps : List Piece) : List (Nat × Nat) := (ps.map (fun x => (x.leaf, x.la / 256))).dedup

/-- Leaves that hold a request's stored range. -/
def State.leavesOf (s : State) (r : Req) : List Nat :=
  let L := (s.geom (stackOf r.qbase)).leaves
  ((List.range (r.bytes / 32)).map (fun i => leafOf (r.a + 32 * i) r.qbase r.qk L)).dedup

/-- A request meets its quire (R151, Table 17.2): its leaves leave the parked state, and a sleeping stack or channel is
counted and woken. -/
def State.meetSleep (s : State) (stack ten : Nat) (leaves : List Nat) : State :=
  let s := leaves.foldl (fun s l => s.setLeaf l { s.leaf l with parked := false }) s
  if (s.sck stack).asleep || (s.sck stack).waking || leaves.any (fun l => s.channelAsleep (channelOf l)) then
    (s.cntT ten 49 1).wakeStack stack
  else s

/-! ## Watermarks -/

/-- FP64 bit pattern of a decoded value (R309); every such value is exact in FP64. -/
def fp64Bits (v : Dyad) : Nat :=
  match v with
  | .nan => 0x7FF8000000000000
  | .inf n => 0x7FF0000000000000 + n.toNat * 2 ^ 63
  | .fin n m e =>
    if m = 0 then n.toNat * 2 ^ 63
    else
      let l := Nat.log2 m
      let ex : Int := (l : Int) + e
      let fr := if l ≤ 52 then m * 2 ^ (52 - l) else m / 2 ^ (l - 52)
      n.toNat * 2 ^ 63 + (ex + 1023).toNat * 2 ^ 52 + (fr - 2 ^ 52)

/-- A whole number times 2^u rounded to FP64, nearest even. -/
def fp64Round (x : Int) (u : Int) : Nat :=
  let m := x.natAbs
  if m = 0 then 0
  else
    let l := Nat.log2 m
    let m' := if l ≤ 52 then m else roundMag m 0 ((l : Int) - 52) false Key.none
    let e' : Int := if l ≤ 52 then u else u + (l - 52 : Nat)
    fp64Bits (.fin (decide (x < 0)) m' e')

def wmTerm (n v : Nat) : Nat :=
  (fmix (fmix (BitVec.ofNat 64 n + 0x9E3779B97F4A7C15) ^^^ BitVec.ofNat 64 v)).toNat

/-- Value less than another; both finite. -/
def dyadLt (a b : Dyad) : Bool :=
  match a, b with
  | .fin na ma ea, .fin nb mb eb =>
    let e := if ea ≤ eb then ea else eb
    let x : Int := (if na then -1 else 1) * (ma * 2 ^ (ea - e).toNat : Nat)
    let y : Int := (if nb then -1 else 1) * (mb * 2 ^ (eb - e).toNat : Nat)
    decide (x < y)
  | _, _ => false

/-- A sum kept in two's complement of w bits (R308). -/
def wrapTo (w : Nat) (x : Int) : Int := (x + 2 ^ (w - 1)) % 2 ^ w - 2 ^ (w - 1)

/-- One element into a digest (R308, R309): the sums count modulo their 336 and 640 bits. -/
def Digest.take (d : Digest) (x : Taken) : Digest :=
  if !x.whole then { d with flags := d.flags ||| 2 ^ 7 }
  else
    let d := { d with count := d.count + 1, stains := d.stains + x.stain.toNat,
                      nans := d.nans + (x.v == .nan).toNat,
                      infs := d.infs + (match x.v with | .inf _ => 1 | _ => 0) }
    let d := if d.count ≥ 2 ^ 40 then { d with flags := d.flags ||| 2 ^ 8 } else d
    if x.stain then d
    else
      let d := { d with hash := (d.hash + wmTerm x.n (fp64Bits x.v)) % 2 ^ 64 }
      match x.v with
      | .fin n m e =>
        let i : Int := (if n then -1 else 1) * (m * 2 ^ (e + 149).toNat : Nat)
        { d with sum := wrapTo 336 (d.sum + i), sumsq := wrapTo 640 (d.sumsq + i * i),
                 min := (match d.min with | none => some x.v | some a => some (if dyadLt x.v a then x.v else a)),
                 max := (match d.max with | none => some x.v | some a => some (if dyadLt a x.v then x.v else a)) }
      | _ => d

/-- Trip causes of one element under an arming (R311): bits NAN, INF, STN, LIM. -/
def Arming.causes (a : Arming) (x : Taken) : Nat :=
  if !x.whole then 0
  else
    let lim := decodeElem 1 a.limit
    put (a.tnan && x.v == .nan).toNat 0 1 +
      put (a.tinf && (match x.v with | .inf _ => true | _ => false)).toNat 1 1 + put (a.tstn && x.stain).toNat 2 1 +
      put (a.tlim && (match x.v with | .fin _ _ _ => magGt x.v lim | _ => false)).toNat 3 1

/-- The 64 bytes of a digest (Table 10.7). SUM and SUMSQ of a digest that has taken in an Inf have no stated value. -/
def State.digestBytes (s : State) (d : Digest) : List Nat :=
  let open_ (n v : Nat) : Nat := if d.infs > 0 then (Config.freeWord (2 * s.freeCount + n)).toNat else v
  leBytes 8 d.count ++ leBytes 4 d.nans ++ leBytes 4 d.infs ++ leBytes 4 d.stains ++ leBytes 4 d.flags ++
    leBytes 8 (match d.min with | some v => fp64Bits v | none => 0x7FF0000000000000) ++
    leBytes 8 (match d.max with | some v => fp64Bits v | none => 0xFFF0000000000000) ++
    leBytes 8 (open_ 0 (fp64Round d.sum (-149))) ++ leBytes 8 (open_ 1 (fp64Round d.sumsq (-298))) ++
    leBytes 8 d.hash

/-- A stored word as a read queued now would find it: memory with the writes already queued for it and the open merge
entries laid over (R88, R331). -/
def State.visibleWord (s : State) (leaf la : Nat) : RWord :=
  let (d, c) := s.storedWord leaf la
  let w := decodeWord d c
  let q := (s.leaf leaf).queue.foldl (fun (a : RWord) e =>
    if e.wr && decide (e.la ≤ la) && decide (la < e.la + 32 * e.nb) then
      match e.words[(la - e.la) / 8]? with
      | some x => if x.mask = 0 then a else ⟨x.data, x.stain⟩
      | none => a
    else a) ⟨w.data, w.stain⟩
  (s.care leaf).merge.foldl (fun (a : RWord) m =>
    if m.la == la / 32 * 32 then
      let x := m.words.getD (la / 8 % 4) ⟨0, 0, false⟩
      if x.mask = 0 then a else ⟨overlay a.data x.data x.mask, x.stain || (a.stain && x.mask != 0xFF)⟩
    else a) q

/-- A dump (R312): the header, then the region's stored pages, copied with their stains. Pages no window maps copy as
zeros. -/
def State.dump (s : State) (a : Arming) (d : Digest) (at_ : Nat) : State :=
  let hdr := leBytes 24 a.toBits ++ s.digestBytes d
  let s := s.storeSystem (areaBase 3 + at_) (hdr ++ List.replicate (4096 - hdr.length) 0)
  let r := s.bank.region a.ten a.region
  match s.sysLeaf with
  | none => s
  | some l => (List.range (a.dumplen + 1)).foldl (fun s p =>
      let addr := r.rbase * 2 ^ 21 + (a.dumpoff + p) * 4096
      match s.windowOf a.ten addr with
      | none => s.storeSystem (areaBase 3 + at_ + 4096 * (p + 1)) (List.replicate 4096 0)
      | some (_, w) => (List.range 512).foldl (fun s i =>
          let q := addr - w.wbase * 2 ^ 21 + 8 * i
          let leaf := leafOf q w.qbase w.qk (s.geom (stackOf w.qbase)).leaves
          let x := s.visibleWord leaf (leafLocal q w.qk)
          s.storeWord l (areaBase 3 + at_ + 4096 * (p + 1) + 8 * i) x.data (checkByte x.data x.stain)) s) s

/-- Tenant address of element n of a region (R252). -/
def Region.addrOf (r : Region) (n : Nat) : Nat :=
  let sh := r.shape
  let e := n % sh.elems
  r.rbase * 2 ^ 21 + n / sh.elems * 4096 + e / sh.per * sh.d + (if sh.sparse then 0 else e % sh.per * sh.width / 8)

/-- The first trip of an arming (R311-R313): notification, alarm, dump and stop as asked. -/
def State.trip (s : State) (i : Nat) (a : Arming) (causes : Nat) (addr : Nat) : State :=
  let d := Tab.get Digest.reset s.lake.digests i
  if bitAt d.flags 1 then
    { s with lake := { s.lake with digests := Tab.put s.lake.digests i { d with flags := d.flags ||| causes * 4 } } }
  else
    let d := { d with flags := d.flags ||| 2 ||| causes * 4 }
    let s := { s with lake := { s.lake with digests := Tab.put s.lake.digests i d } }
    let need := (a.dumplen + 2) * 4096
    let fits := decide (s.lake.dumpAt + need ≤ 0x10000000)
    let at_ := s.lake.dumpAt
    let dumped := a.dump && fits
    let s := if dumped then
        let s := s.dump a d at_
        { s with lake := { s.lake with dumpAt := at_ + need } }
      else s
    let fl := dumped.toNat + 2 * (a.dump && !fits).toNat + 4 * a.dstop.toNat
    let body := leBytes 8 s.now ++ leBytes 5 addr ++ [i, a.region, fl] ++ leBytes 4 causes ++ leBytes 4 a.step ++
      leBytes 4 (if dumped then at_ else 0)
    let s := s.notify 4 a.nsid a.ten body
    let s := s.note 0x0B 6 a.ten [(1, i), (1, causes)]
    let s := s.fresh
    if a.dstop then
      { s with pins := { s.pins with latches := s.pins.latches ||| 2 ^ i, stopped := true } }
    else s

/-- One element passes an armed digest (R307, R311): it is taken in, and a cause it gives trips. -/
def State.takeIn (s : State) (i : Nat) (a : Arming) (r : Region) (x : Taken) : State :=
  let d := Tab.get Digest.reset s.lake.digests i
  let s := { s with lake := { s.lake with digests := Tab.put s.lake.digests i (d.take x) } }
  if a.causes x = 0 then s else s.trip i a (a.causes x) (r.addrOf x.n)

/-- Take the elements of a write, in order, into every armed digest they belong to (R307). -/
def State.digest (s : State) (ten regIdx step : Nat) (r : Region) (xs : List Taken) : State :=
  s.bank.armings.foldl (fun s (i, a) =>
    let d := Tab.get Digest.reset s.lake.digests i
    if a.valid && a.ten == ten && a.region == regIdx && a.step == step % 2 ^ 32 && !bitAt d.flags 0 then
      xs.foldl (fun s x => s.takeIn i a r x) s
    else s) s

/-! ## Open tiles (R285-R288) -/

/-- The open tile of a page of a quire (R285). -/
def State.tileOf (s : State) (qbase a : Nat) : Option (Nat × Tile) :=
  Tab.first s.lake.tiles (fun _ t => t.qbase == qbase && t.a / 4096 == a / 4096)

/-- Candidates of an arbiter. -/
abbrev Cand := Nat × Part × Req

/-- Parts of a stack in a stage. -/
def State.partsAt (s : State) (k : Nat) (f : Stage → Bool) : List Cand :=
  s.parts.filterMap (fun (key, p) =>
    if p.stack == k && f p.stage then (s.req? p.req).map (fun r => (key, p, r)) else none)

/-- ACCO parts that have been granted and have not completed, for the tile of a page: the oldest of them opens it. -/
def State.comingAccos (s : State) (qbase a : Nat) : List Cand :=
  sortBy (fun x y => decide (x.2.1.req ≤ y.2.1.req)) (s.parts.filterMap (fun (key, p) =>
    if p.stage == .granted then
      match s.req? p.req with
      | some r => if r.op == 4 && r.qbase == qbase && r.a / 4096 == a / 4096 then some (key, p, r) else none
      | none => none
    else none))

/-- A request is the ACCO that opens its tile: none is open, and no older one is on its way. -/
def State.opensTile (s : State) (id : Nat) (r : Req) : Bool :=
  (s.tileOf r.qbase r.a).isNone && !(s.comingAccos r.qbase r.a).any (fun c => decide (c.2.1.req < id))

/-! ## Resources of admission (R82, R86, R328) -/

/-- Resource codes: a leaf's queue entries, 1024 + leaf its write buffer, 2048 the return buffer, 2049 bridge return
credits, 4096 + leaf its merge buffer. -/
def addNeed (t : Tab Nat) (k n : Nat) : Tab Nat := if n = 0 then t else Tab.add t k n

/-- What a part needs at admission. A full burst or read that meets an open merge entry needs two entries more for its
flush (R328). The pieces of an accumulate are the Lake reads of its old values (R82, R84); only the ACCO part that opens its
tile reads them. -/
def State.needs (s : State) (p : Part) (r : Req) : Tab Nat :=
  let t := (if r.op = 4 && !s.opensTile p.req r then [] else p.pieces).foldl (fun t x =>
    let c := s.care x.leaf
    if x.narrow then
      match c.openEnt x.la with
      | some m => addNeed t x.leaf ((List.zipWith mergeWord m.words x.words).all (fun w => w.mask == 0xFF)).toNat
      | none => addNeed t (4096 + x.leaf) 1
    else
      let hits := ((List.range x.nb).filter (fun i => (c.openEnt (x.la + 32 * i)).isSome &&
        (x.words.isEmpty || ((x.words.drop (4 * i)).take 4).any (fun w => w.mask != 0)))).length
      addNeed (addNeed t x.leaf (1 + 2 * hits)) (1024 + x.leaf) (x.words.length / 4)) []
  let t := addNeed t 2048 r.places
  if crosses r p then addNeed t 2049 r.places else t

/-- Units of a resource that parts granted and not complete have reserved. -/
def State.reserved (s : State) (k code : Nat) : Nat :=
  ((s.partsAt k (fun g => g == .granted)).map (fun (_, p, r) =>
    if code < 4096 && code ≥ 2048 then 0 else Tab.num (s.needs p r) code)).sum

/-- Places of a stack's return buffer in use. -/
def Arb.placesUsed (a : Arb) : Nat := (a.rbuf.map (fun (_, n) => n)).sum

/-- Bridge return credits a stack can still take: its 512 reserved units, then the unreserved pool of its half. -/
def State.bridgeFree (s : State) (k : Nat) : Nat :=
  let used := ((List.range 8).map (fun i => (s.arb (halfOf k * 8 + i)).bridgeRet - 512)).sum
  (512 - (s.arb k).bridgeRet) + (28672 - used)

/-- Free units of a resource. -/
def State.freeOf (s : State) (k code : Nat) : Nat :=
  if code < 1024 then 64 - (s.leaf code).queue.length - s.reserved k code
  else if code < 2048 then 256 - (s.leaf (code - 1024)).wbuf - s.reserved k code
  else if code = 2048 then 8192 - (s.arb k).placesUsed
  else if code = 2049 then s.bridgeFree k
  else 16 - (s.care (code - 4096)).merge.length - s.reserved k code

/-! ## Slots, tiles and accumulates -/

/-- Slots of n bytes. -/
def slotsFor (n : Nat) : Nat := (n + 4095) / 4096

/-- Slots held on a stack: for sums, in all, and by one tenant (R290). -/
def State.sumSlots (s : State) (k : Nat) : Nat :=
  (s.lake.tiles.map (fun (_, t) => if t.stack == k then t.slots else 0)).sum

def Tile.held (t : Tile) : Nat := t.slots + (t.parked.map (fun p => p.slots)).sum

def State.usedSlots (s : State) (k : Nat) : Nat :=
  (s.lake.tiles.map (fun (_, t) => if t.stack == k then t.held else 0)).sum

def State.tenSlots (s : State) (k ten : Nat) : Nat :=
  (s.lake.tiles.map (fun (_, t) => if t.stack == k && t.ten == ten then t.held else 0)).sum

/-- Index a tile folds next; 0 before it opens. -/
def State.nextIndex (s : State) (r : Req) : Nat := match s.tileOf r.qbase r.a with | some (_, t) => t.next | none => 0

/-- Slots a contribution takes: for the sum where it opens the tile, and to be parked (R290). -/
def State.slotsOf (s : State) (id : Nat) (r : Req) : Nat × Nat :=
  (if s.opensTile id r then slotsFor (4 * r.region.shape.elemsIn r.bytes) else 0,
    if r.cidx = s.nextIndex r then 0 else slotsFor (r.region.delivered r.bytes))

/-- Slots that the granted contributions of a stack take when they complete, by tenant. -/
def State.owedSlots (s : State) (k : Nat) : List (Nat × Nat × Nat) :=
  ((s.partsAt k (fun g => g == .granted)).filter (fun c => c.2.2.op == 4)).map (fun (_, p, r) =>
    (r.ten, s.slotsOf p.req r))

/-- Whether slots on a stack are refused: m for a sum and n for parking (R290). -/
def State.noSlots (s : State) (k ten m n : Nat) : Bool :=
  let owed := s.owedSlots k
  decide (s.usedSlots k + (owed.map (fun x => x.2.1 + x.2.2)).sum + m + n > 512) ||
    decide (s.tenSlots k ten + (owed.map (fun x => if x.1 = ten then x.2.1 + x.2.2 else 0)).sum + m + n >
      s.setting 0x3104 k) ||
    (m != 0 && decide (s.sumSlots k + (owed.map (fun x => x.2.1)).sum + m > 512 - s.setting 0x3103 k))

def Tile.bytes (t : Tile) : Nat := (t.len + 1) * 32

/-- Region fields a tile's snapshot fixes (R286). -/
def sameSnapshot (a b : Region) : Bool :=
  a.sfmt == b.sfmt && a.dfmt == b.dfmt && a.rnd == b.rnd && a.ovf == b.ovf && a.seed == b.seed

/-- A request's stored range, which lies in one page, overlaps a tile that is open or that a granted part opens (R285,
R288). -/
def State.overlapsTile (s : State) (r : Req) : Bool :=
  (s.tileOf r.qbase r.a).isSome || !(s.comingAccos r.qbase r.a).isEmpty

/-- What a tile's opening fixes (R286), of an open tile or of the granted part that opens it: owner, range, CCNT, region and
its index, contributors so far, and whether its timeout has ended it. -/
def State.tileTerms (s : State) (r : Req) : Option (Nat × Nat × Nat × Nat × Region × Nat × Nat × Bool) :=
  let coming := s.comingAccos r.qbase r.a
  let more := coming.foldl (fun a (_, _, q) => a ||| 2 ^ q.cidx) 0
  match s.tileOf r.qbase r.a, coming with
  | some (_, t), _ => some (t.ten, t.addr, t.len, t.ccnt, t.region, t.regIdx, t.arrived ||| more, t.timedOut)
  | none, (_, _, q) :: _ => some (q.ten, q.addr, q.len, q.ccnt, q.region, q.regIdx, more, false)
  | none, [] => none

/-- What Lake says of a part at its would-be grant (R279). -/
inductive Verdict
  | pass
  | hold
  | fail (resp : Nat)
deriving DecidableEq, Repr

/-- The doorbell that a WR or a spill triggers (R303): its range includes bytes 4064-4095 of a valid record's page. -/
def State.doorbellOf (s : State) (r : Req) : Option (Nat × Doorbell) :=
  Tab.first s.bank.doorbells (fun _ d => d.valid && d.ten == r.ten && (r.op == 1 || (r.op == 2 && decide (136 ≤ r.port))) && r.addr / 4096 == d.dbaddr / 4096 &&
    decide (r.addr % 4096 ≤ 4064) && decide (4096 ≤ r.addr % 4096 + r.bytes))

/-- Granted writes that will trigger a doorbell when they complete. -/
def State.comingTriggers (s : State) (i : Nat) : Nat :=
  (s.parts.filter (fun (_, p) => p.stage == .granted && match s.req? p.req with
    | some r => (r.op == 1 || r.op == 2) && (match s.doorbellOf r with | some (j, _) => j == i | none => false)
    | none => false)).length

/-- A doorbell runs a gather, or one that waits for a context. -/
def State.doorbellRuns (s : State) (i : Nat) : Bool := Tab.some s.lake.gathers (fun _ g => g.prefetch && g.db == i)

/-- A doorbell's gather and its place for a pending trigger are both taken (R304). -/
def State.doorbellFull (s : State) (i : Nat) : Bool :=
  (Tab.find? s.lake.dbPending i).isSome || (Tab.find? s.lake.dbPending (i + 64)).isSome || decide (2 ≤ (s.doorbellRuns i).toNat + s.comingTriggers i)

/-- A free gather context of a stack, of 8 (keys stack x 8 + context). -/
def State.freeContext (s : State) (k : Nat) : Option Nat :=
  (List.range 8).map (fun i => k * 8 + i) |>.find? (fun c => (Tab.find? s.lake.gathers c).isNone)

/-- Granules of the accumulate writes outstanding on a stack (R283): those of its jobs and of the granted ACCU parts. -/
def State.accuGranules (s : State) (k : Nat) : List (Nat × Nat) :=
  s.lake.accus.filterMap (fun (_, j) => if j.stack == k then some (j.leaf, j.la / 256) else none) ++
    ((s.partsAt k (fun g => g == .granted)).filter (fun c => c.2.2.op == 3)).flatMap (fun (_, p, _) => granulesOf p.pieces)

/-- Lake's check of a part (R279, R283, R287, R288, R290, R304). -/
def State.lakeCheck (s : State) (k : Nat) (p : Part) (r : Req) : Verdict :=
  if r.op == 1 || r.op == 2 then
    if s.overlapsTile r then .hold
    else match s.doorbellOf r with
      | some (i, _) => if s.doorbellFull i then .hold else .pass
      | none => .pass
  else if r.op == 3 then
    if s.overlapsTile r then .hold
    else if 256 < (s.accuGranules k ++ granulesOf p.pieces).dedup.length then .hold
    else .pass
  else if r.op == 4 then
    let (m, n) := s.slotsOf p.req r
    match s.tileTerms r with
    | some (ten, addr, len, ccnt, region, regIdx, arrived, ended) =>
      if ten != r.ten || ended then .hold
      else if addr != r.addr || len != r.len || ccnt != r.ccnt || !sameSnapshot region r.region || regIdx != r.regIdx then
        .fail 3
      else if bitAt arrived r.cidx then .fail 3
      else if n != 0 && s.noSlots k r.ten 0 n then .hold
      else .pass
    | none => if s.noSlots k r.ten m n then .hold else .pass
  else if r.op == 5 then (if (s.freeContext k).isNone then .hold else .pass)
  else .pass

/-- Fold the next contribution (R289). -/
def Tile.fold (t : Tile) (c : List (Dyad × Bool)) : Tile :=
  { t with sum := List.zipWith (fun (x, a) (y, b) => (fl32Add x y, a || b)) t.sum c, next := t.next + 1 }

/-- Drain parked contributions in index order. -/
def Tile.drain : Nat → Tile → Tile
  | 0, t => t
  | n + 1, t =>
    if t.next > t.ccnt then t
    else match t.parked.find? (fun p => p.cidx == t.next) with
      | none => t
      | some p => Tile.drain n ({ t with parked := t.parked.filter (fun q => q.cidx != p.cidx) }.fold p.vals)

/-- Accept a contribution (R289): park it, hold it in the engine input until the old value arrives, or fold it. -/
def Tile.accept (t : Tile) (r : Req) (vals : List (Dyad × Bool)) (slots : Nat) : Tile :=
  let t := { t with arrived := t.arrived ||| 2 ^ r.cidx }
  let t := if r.cidx = 0 then { t with sid0 := some r.sid, step0 := some r.step } else t
  if r.cidx != t.next then { t with parked := t.parked ++ [⟨r.cidx, vals, slots⟩] }
  else if !t.oldReady then { t with waiting := vals }
  else Tile.drain 64 (t.fold vals)

/-- Queue the Lake reads of a tile's range, with its opening part's tint and deadline (R286). -/
def State.tileReads (s : State) (id : Nat) (t : Tile) : State :=
  (s.readPieces t.qbase t.qk (t.a - t.addr % 4096) (readBursts t.region t.addr t.bytes)).foldl (fun s p =>
    s.enqueue p.leaf (s.mkEntry p.leaf p.la p.nb false true (.tile id) [] t.ten t.sid t.tint t.arrival t.target t.port)) s

/-- The old words of a tile have all arrived: its sum starts from them (R289). -/
def Tile.start (t : Tile) : Tile :=
  let sh := t.region.shape
  let e0 := t.addr % 4096 / sh.d * sh.per
  let old := (List.range t.m).map (fun i =>
    match elemOf t.region.sfmt sh (fun n => Tab.find? t.got n) (e0 + i) with
    | some x => (x.v, x.stain)
    | none => (Dyad.zero, false))
  let t := { t with sum := old, oldReady := true, got := [] }
  if t.waiting.isEmpty then t else Tile.drain 64 ({ t with waiting := [] }.fold t.waiting)

/-- Accept an ACCO part: open its tile or join it (R286, R289, R290). -/
def State.acceptAcco (s : State) (k : Nat) (r : Req) : State :=
  let vals := deliveredElems r.region.dfmt (burstsOf r.beats (r.region.delivered r.bytes / 32))
  let n := slotsFor (r.region.delivered r.bytes)
  let s := s.cntT r.ten 8 1
  match s.tileOf r.qbase r.a with
  | some (i, t) =>
    { s with lake := { s.lake with tiles := Tab.put s.lake.tiles i (t.accept r vals n) } }
  | none =>
    let m := r.region.shape.elemsIn r.bytes
    let t : Tile :=
      { stack := k, qbase := r.qbase, qk := r.qk, a := r.a, ten := r.ten, addr := r.addr, len := r.len,
        ccnt := r.ccnt, region := r.region, regIdx := r.regIdx, tmo := s.setting 0x3101 0 * 10, elapsed := 0, m := m,
        slots := slotsFor (4 * m), sum := [], next := 0, arrived := 0, parked := [], waiting := [], oldReady := false,
        got := [], sid := r.sid, step := r.step, sid0 := none, step0 := none, tint := r.tint, port := r.port,
        arrival := r.arrival, target := r.target, timedOut := false }
    let id := s.nextId
    let tiles := Tab.put s.lake.tiles id (t.accept r vals n)
    ({ s with nextId := id + 1, lake := { s.lake with tiles := tiles } }).tileReads id t

/-- Queue the Lake read of each accumulate job once no earlier job of its granule is left (R283) and its leaf has entries free
for it and for the flushes ahead of it (R82). -/
def State.askAccu (s : State) : State :=
  s.lake.accus.foldl (fun s (id, j) =>
    let hits := ((List.range j.nb).filter (fun i => ((s.care j.leaf).openEnt (j.la + 32 * i)).isSome)).length
    if j.asked || decide (s.freeOf j.stack j.leaf < 1 + 2 * hits) ||
        Tab.some s.lake.accus (fun i q => decide (i < id) && q.leaf == j.leaf && q.la / 256 == j.la / 256)
    then s
    else
      let accus := Tab.put s.lake.accus id { j with asked := true }
      let s := { s with lake := { s.lake with accus := accus } }
      s.enqueue j.leaf (s.mkEntry j.leaf j.la j.nb false true (.accu id) [] j.ten j.sid j.tint j.arrival j.target
        j.port)) s

/-- Accept an ACCU part: one job for each granule piece (R282-R284). -/
def State.acceptAccu (s : State) (k : Nat) (r : Req) (id : Nat) : State :=
  let vals := deliveredElems r.region.dfmt (burstsOf r.beats (r.region.delivered r.bytes / 32))
  let s := (s.cntT r.ten 6 1).cntT r.ten 7 (r.ccnt + 1)
  let a0 := r.a - r.addr % 4096
  let sh := r.region.shape
  let o := r.addr % 4096
  let gs := ((List.range (r.bytes / 32)).map (fun i => (o / 32 + i) / 8)).dedup
  let s := gs.foldl (fun s g =>
    let lo := max o (g * 256)
    let hi := min (o + r.bytes) (g * 256 + 256)
    let a := a0 + lo
    -- the blocks whose first byte lies in the granule
    let b0 := (lo - o + sh.d - 1) / sh.d
    let b1 := (hi - o + sh.d - 1) / sh.d
    let first := b0 * sh.per
    let count := (b1 - b0) * sh.per
    let j : AccuJob :=
      { stack := k, leaf := leafOf a r.qbase r.qk (s.geom (stackOf r.qbase)).leaves,
        la := leafLocal a r.qk, nb := (hi - lo) / 32, req := id, ten := r.ten, sid := r.sid, tint := r.tint, port := r.port,
        arrival := r.arrival, target := r.target, region := r.region, regIdx := r.regIdx, step := r.step, pageAddr := r.addr / 4096 * 4096,
        first := (o / sh.d + b0) * sh.per, vals := (vals.drop first).take count, old := none, asked := false, words := [] }
    let n := s.nextId
    { s with nextId := n + 1, lake := { s.lake with accus := Tab.put s.lake.accus n j } }) s
  s.askAccu

/-! ## Gathers -/

/-- A gather descriptor's fields and whether its reserved fields are 0 (Table 10.3). -/
def descOf (b : Nat) (long : Bool) : GatherDesc × Bool :=
  ({ out := bitAt b 0, ftsel := fld b 1 1, rowBytes := (fld b 8 11 + 1) * 32, nidx := fld b 19 16 + 1,
     idxAddr := fld b 40 40, tbase := fld b 80 40, trows := fld b 120 32,
     ftBaddr := if long then fld b 256 36 else 0 },
   fld b 2 6 == 0 && fld b 35 5 == 0 && fld b 152 104 == 0 && (!long || fld b 292 220 == 0) && fld b 40 5 == 0 &&
     fld b 80 5 == 0 && (!long || fld b 256 5 == 0))

/-- Where a range of a tenant lies by the windows in force: window and quire-relative address. -/
def State.place (s : State) (ten addr : Nat) : Option (Window × Nat) :=
  (s.windowOf ten addr).map (fun (_, w) => (w, addr - w.wbase * 2 ^ 21))

/-- Issue one Lake read of at most a page of a gather's tenant as a request of its own (R168, R301): a candidate of its stack's
arbiter, behind the Lake-engine stage where it reads a row. Rows alone are rotated (R270). -/
def State.gatherRead (s : State) (key : Nat) (g : Gather) (addr n : Nat) : State :=
  match s.placeIn g.snap addr with
  | none => s
  | some (w, a) =>
    let i := g.snap.regionOf addr
    let r := g.snap.region i
    let r := if g.phase = .rows then r else { r with skew := 0 }
    let sk := stackOf (leafOf a w.qbase w.qk (s.geom (stackOf w.qbase)).leaves)
    let ps := s.readPieces w.qbase w.qk (a - addr % 4096) (readBursts r addr n)
    let id := s.nextId
    let pk := partKey id sk
    let q : Req :=
      { port := g.port, tag := 0, sid := g.sid, ten := g.ten, tint := g.tint, op := 33, addr := addr,
        len := n / 32 - 1, cidx := 0, ccnt := 0, arrival := g.arrival, target := g.target,
        need := r.delivered n, beats := [], qbase := w.qbase, qk := w.qk, a := a, region := r, regIdx := i,
        skew := g.snap.skewOf r, step := g.step, charge := n, colour := .none, got := [], formed := 0, stained := false,
        phase := .live, status := 0, traced := false, grantAt := 0, servedAt := 0, stack := sk,
        places := (ps.map (fun x => x.nb)).sum, ctx := key, lvl := 0, snap := MapSnap.none }
    let p : Part :=
      { req := id, stack := sk, stage := .ready, since := s.clk.ticks, pieces := ps, left := 0, toServe := ps.length,
        lvl := 0, late := false, bridge := .none, xbar := .none, inQuire := false, inLake := false }
    let s := (({ s with nextId := id + 1 }).setReq id q).setPart pk p
    let s := if ps.any (fun x => s.channelAsleep (channelOf x.leaf)) then s.wakeStack sk else s
    if g.phase = .rows then
      s.stageOr pk .lakeDrr (1056 + key / 8) (fun p => { p with inLake := true }) (fun s => s.enterReady pk)
    else s

/-- Index-list and row bytes are debt of the gather's marker in the FCLK in which their read is queued; a descriptor's are not
(R301). -/
def State.gatherDebt (s : State) (r : Req) : State :=
  match Tab.find? s.lake.gathers r.ctx with
  | none => s
  | some g =>
    if g.phase = .desc then s
    else
      let (s, lost) := s.debtMarker g.ten (portHalf g.port) r.charge
      s.cntT g.ten 34 lost

/-- Split a run of stored bytes of a tenant at page ends. -/
def pageChunks (addr n : Nat) : List (Nat × Nat) :=
  (List.range ((addr % 4096 + n + 4095) / 4096)).map (fun j =>
    let lo := max addr ((addr / 4096 + j) * 4096)
    let hi := min (addr + n) ((addr / 4096 + j) * 4096 + 4096)
    (lo, hi - lo))

/-- The stored bytes of m elements of a converting region from element n on, page by page (R252). -/
def elemChunks (r : Region) (n m : Nat) : List (Nat × Nat) :=
  let sh := r.shape
  (List.range ((n % sh.elems + m + sh.elems - 1) / sh.elems)).map (fun j =>
    let lo := max n ((n / sh.elems + j) * sh.elems)
    let hi := min (n + m) ((n / sh.elems + j + 1) * sh.elems)
    (r.rbase * 2 ^ 21 + lo / sh.elems * 4096 + lo % sh.elems / sh.per * sh.d, (hi - lo) / sh.per * sh.d))

/-- The chunks of stored bytes of a row (R297): none where it is out of range (R298). -/
def State.rowChunks (s : State) (g : Gather) (i : Nat) : Option (List (Nat × Nat)) :=
  if i ≥ g.desc.trows then none
  else
    let r := g.snap.regionAt g.desc.tbase
    let chunks : List (Nat × Nat) :=
      if r.converting then
        let sh := r.shape
        let re := g.desc.rowBytes / fmtBytes r.dfmt
        elemChunks r (r.pageOf g.desc.tbase * sh.elems + g.desc.tbase % 4096 / sh.d * sh.per + i * re) re
      else pageChunks (g.desc.tbase + i * g.desc.rowBytes) g.desc.rowBytes
    let ok := chunks.all (fun (a, n) => decide (a + n ≤ 2 ^ 40) && match s.placeIn g.snap a with
      | none => false
      | some (w, _) => (s.bank.quire w.qbase).qstate != .failed)
    if ok then some chunks else none

/-- Rows legal under R297: in a converting region RE divides the page's elements and fills whole request units; in a region
with SKEW set it is a multiple of TW. A pass-through region with SKEW set is held to the last of these too, from a TBASE at the
start of a row of TW (DEDUCED: assumption 115). -/
def rowsLegal (m : MapSnap) (tbase rowBytes : Nat) : Bool :=
  let r := m.regionAt tbase
  let sh := r.shape
  if r.converting then
    let re := rowBytes / fmtBytes r.dfmt
    rowBytes % fmtBytes r.dfmt == 0 && decide (0 < re) && sh.elems % re == 0 && re % sh.per == 0 &&
      re / sh.per * sh.d % sh.unit == 0 && (r.skew == 0 || re % 2 ^ (m.skewOf r).twl == 0)
  else if r.valid && r.skew != 0 then wholeRows sh (m.skewOf r) tbase rowBytes
  else true

def State.setGather (s : State) (key : Nat) (g : Gather) : State :=
  { s with lake := { s.lake with gathers := Tab.put s.lake.gathers key g } }

def State.dropGather (s : State) (key : Nat) : State :=
  { s with lake := { s.lake with gathers := Tab.erase s.lake.gathers key } }

/-- Stages a granted GATH part has passed, as bits kept in its request: 1 shared quire, 2 Lake, 4 crossbar, 8 bridge. -/
def stageBits (p : Part) : Nat :=
  p.inQuire.toNat + 2 * p.inLake.toNat + 4 * (p.xbar == .unreserved).toNat +
    8 * (p.bridge == .unreserved || p.bridge == .returned).toNat

/-- A gather ends with an error or STAIN and no data (R296); its charge returns to its marker and stages (R279). -/
def State.failGather (s : State) (key : Nat) (g : Gather) (resp : Nat) : State :=
  let s := s.dropGather key
  match s.req? g.req with
  | none => s
  | some r =>
    let s := if bitAt r.ctx 0 then s.drrRefund r.qbase r.ten r.tint r.charge else s
    let s := if bitAt r.ctx 1 then s.drrRefund (1056 + r.stack) r.ten r.tint r.charge else s
    let s := if bitAt r.ctx 2 then s.drrRefund (1024 + r.stack) r.ten r.tint r.charge else s
    let s := if bitAt r.ctx 3 then s.drrRefund (1040 + portHalf r.port) r.ten r.tint r.charge else s
    (s.refundMarker r).answer g.req resp false

/-- The bytes of delivered bursts as a number. -/
def burstsNat (bs : List (BitVec 256 × Bool)) : Nat := bs.foldr (fun (b, _) a => b.toNat + a * 2 ^ 256) 0

/-- Index words of delivered bursts. -/
def indicesOf (bs : List (BitVec 256 × Bool)) : List Nat :=
  bs.flatMap (fun (b, _) => (List.range 8).map (fun i => fld b.toNat (32 * i) 32))

/-- Form the beats of a gather to a stream that its finished rows allow (R87, R299). -/
def State.gatherBeats : Nat → State → Nat → State
  | 0, s, _ => s
  | n + 1, s, key =>
    match Tab.find? s.lake.gathers key with
    | none => s
    | some g => match s.req? g.req with
      | none => s.dropGather key
      | some r =>
        let last := decide (g.row ≥ g.desc.nidx)
        let take := if g.outBeats.length ≥ 8 then 8 else if last then g.outBeats.length else 0
        if take = 0 then
          if last then s.dropGather key else s
        else
          let bs := g.outBeats.take take
          let rest := g.outBeats.drop take
          let st := r.stained || bs.any (fun (_, x) => x)
          let fin := last && rest.isEmpty
          let beat : RespBeat :=
            { req := g.req, tag := r.tag, resp := st.toNat, last := fin, ntf := false, nkind := 0,
              sid := r.sid, ten := r.ten, hasData := true, data := BitVec.ofNat 2048 (burstsNat bs),
              dvld := BitVec.ofNat 8 (dvldOf take), dstain := BitVec.ofNat 8
                ((bs.zipIdx.map (fun ((_, x), i) => if x then 2 ^ i else 0)).sum), free := false }
          let s := s.setReq g.req { r with formed := r.formed + 1, stained := st,
                                           phase := if fin then .done else .live, status := st.toNat }
          let s := (s.pushLane r.port beat).setGather key { g with outBeats := rest }
          let s := if fin then s.countAnswer { r with need := g.desc.nidx * g.desc.rowBytes } st.toNat else s
          State.gatherBeats n s key

/-- The kind 0x3 notification (Table 10.8, R300, R305). -/
def State.gatherNote (s : State) (g : Gather) : State :=
  let fl := (decide (0 < g.errFills)).toNat + 2 * g.prefetch.toNat + 4 * g.stRow.toNat
  let body := leBytes 8 s.now ++ leBytes 5 g.addr ++ [fl, 0, 0] ++ leBytes 4 g.desc.nidx ++ leBytes 4 g.oor ++
    leBytes 4 g.errFills ++ leBytes 2 g.seq
  s.notify 3 g.sid g.ten body

/-- Log the first out-of-range row of a gather and count each (R298). -/
def State.outOfRow (s : State) (g : Gather) (pos idx : Nat) : State :=
  let s := s.cntT g.ten 13 1
  if g.loggedOor then s else s.note 0x48 6 g.ten [(2, g.sid), (2, pos), (4, idx)]

/-- Issue the next read of a gather. -/
def State.nextChunk (s : State) (key : Nat) : State :=
  match Tab.find? s.lake.gathers key with
  | none => s
  | some g =>
    match g.chunks with
    | [] => s
    | (a, n) :: rest =>
      if g.asked then s
      else
        let g' := { g with chunks := rest, asked := true }
        (s.setGather key g').gatherRead key g' a n

/-- A trigger waits at its doorbell; one that was granted beside another waits behind it. -/
def State.pendTrigger (s : State) (i arrival stack : Nat) : State :=
  let key := if (Tab.find? s.lake.dbPending i).isNone then i else i + 64
  { s with lake := { s.lake with dbPending := Tab.put s.lake.dbPending key (arrival, stack) } }

/-- Start the prefetch of a doorbell's trigger where a context is free (R303); it is pending where none is. It reads through
the tenant's map of that moment; a page that no window maps any more starts no gather (assumption 116). -/
def State.startPrefetch (s : State) (i arrival stack : Nat) : State :=
  let d := s.bank.doorbell i
  match s.freeContext stack with
  | none => s.pendTrigger i arrival stack
  | some key =>
    let snap := s.snapOf d.ten
    if (s.placeIn snap d.dbaddr).isNone then s.note 0x49 6 d.ten [(1, i), (2, 0)]
    else
    let desc : GatherDesc :=
      { out := true, ftsel := d.ftsel, rowBytes := (d.rowsz + 1) * 32, nidx := 0, idxAddr := d.dbaddr,
        tbase := d.tbase, trows := d.trows, ftBaddr := d.ftbase }
    let g : Gather :=
      { req := 0, prefetch := true, db := i, ten := d.ten, sid := d.nsid, tint := d.ptint,
        port := 136 + d.ftsel, arrival := arrival, target := s.targetOf (136 + d.ftsel) d.ptint, addr := d.dbaddr,
        snap := snap, step := 0, phase := .index,
        desc := desc, idx := [], row := 0, asked := false, chunks := [(d.dbaddr, 4096)], rowBuf := [], outBeats := [],
        oor := 0, errFills := 0, stRow := false, fillsOut := 0, seq := 0, loggedOor := false }
    (s.setGather key g).nextChunk key

/-- A trigger (R304): the doorbell's gather starts, or waits while one runs. -/
def State.trigger (s : State) (i arrival stack : Nat) : State :=
  if s.doorbellRuns i || (Tab.find? s.lake.dbPending i).isSome then s.pendTrigger i arrival stack
  else s.startPrefetch i arrival stack

/-- A context is free again: a pending trigger of its stack starts. -/
def State.nextPrefetch (s : State) (stack : Nat) : State :=
  match Tab.first s.lake.dbPending (fun i (_, k) => k == stack && !s.doorbellRuns (i % 64)) with
  | none => s
  | some (i, (arrival, k)) =>
    ({ s with lake := { s.lake with dbPending := Tab.erase s.lake.dbPending i } }).startPrefetch (i % 64) arrival k

/-- A finished row leaves on its Felt port as one fill (R300): it takes a tag, and the gather goes to its next row. -/
def State.sendFill (s : State) (pk : Nat) : State :=
  match s.part? pk with
  | none => s
  | some p => match s.req? p.req with
    | none => s
    | some r =>
      let s := (s.dropPart pk).dropReq p.req
      match Tab.find? s.lake.gathers r.ctx with
      | none => s.drrFree (engineStage r p) r.charge
      | some g =>
        let q := s.port r.port
        let tag := ((List.range 1024).find? (fun t => (Tab.find? q.fills t).isNone)).getD 0
        let at_ := (g.desc.ftBaddr + g.row * g.desc.rowBytes) % 2 ^ 36
        let fill : Fill := ⟨r.ctx, s.clk.ticks, at_, g.ten, g.sid, g.outBeats⟩
        let s := s.setPort r.port { q with fills := Tab.put q.fills tag fill }
        let s := (s.cntT g.ten 38 g.desc.rowBytes).cntG 24 g.desc.rowBytes
        s.setGather r.ctx { g with fillsOut := g.fillsOut + 1, row := g.row + 1, asked := false, outBeats := [] }

/-- Queue a finished row for its Felt port's stage (R301). -/
def State.queueFill (s : State) (key : Nat) (g : Gather) (data : List (BitVec 256 × Bool)) : State :=
  let id := s.nextId
  let sk := key / 8
  let q : Req :=
    { port := 136 + g.desc.ftsel, tag := 0, sid := g.sid, ten := g.ten, tint := g.tint, op := 34, addr := 0,
      len := 0, cidx := 0, ccnt := 0, arrival := g.arrival, target := 0, need := g.desc.rowBytes, beats := [],
      qbase := 0, qk := 0, a := 0, region := Region.none, regIdx := 64, skew := Skew.none, step := 0,
      charge := g.desc.rowBytes, colour := .none, got := [], formed := 0, stained := false, phase := .live,
      status := 0, traced := false, grantAt := 0, servedAt := 0, stack := sk, places := 0, ctx := key, lvl := 0,
      snap := MapSnap.none }
  let p : Part :=
    { req := id, stack := sk, stage := .granted, since := s.clk.ticks, pieces := [], left := 0, toServe := 0, lvl := 0, late := false, bridge := .none, xbar := .none, inQuire := false, inLake := true }
  let s := (({ s with nextId := id + 1 }).setReq id q).setPart (partKey id sk) p
  let s := s.setGather key { g with outBeats := data, asked := true, stRow := g.stRow || data.any (fun (_, x) => x) }
  s.stageOr (partKey id sk) .feltDrr (1072 + g.desc.ftsel) (fun p => p) (fun s => s.sendFill (partKey id sk))

/-- Move a gather on: the next row's reads, out-of-range rows, the end (R297-R301). -/
def State.gatherGo : Nat → State → Nat → State
  | 0, s, _ => s
  | n + 1, s, key =>
    match Tab.find? s.lake.gathers key with
    | none => s
    | some g =>
      if g.phase != .rows then s
      else if g.row ≥ g.desc.nidx then
        if !g.desc.out then (s.gatherBeats 4096 key).nextPrefetch (key / 8)
        else if g.fillsOut = 0 then ((s.dropGather key).gatherNote g).nextPrefetch (key / 8)
        else s
      else if g.asked then s
      else if g.desc.out && decide ((s.port (136 + g.desc.ftsel)).fills.length + s.lake.gathers.length ≥ 1024) then s
      else
        let i := g.idx.getD g.row 0
        match s.rowChunks g i with
        | some chunks => (s.setGather key { g with chunks := chunks, rowBuf := [] }).nextChunk key
        | none =>
          let s := s.outOfRow g g.row i
          let z : List (BitVec 256 × Bool) := List.replicate (g.desc.rowBytes / 32) (0, true)
          let g := { g with oor := g.oor + 1, stRow := true, loggedOor := true }
          let s := s.cntT g.ten 12 1
          if g.desc.out then State.gatherGo n (s.queueFill key g z) key
          else
            let g := { g with row := g.row + 1, outBeats := g.outBeats ++ z }
            State.gatherGo n ((s.setGather key g).gatherBeats 4096 key) key

/-- Whether every burst of an index list lies in the tenant's windows and in no converting region. -/
def State.listOk (s : State) (m : MapSnap) (addr n : Nat) : Bool :=
  decide (addr + n ≤ 2 ^ 40) && (pageChunks addr n).all (fun (a, _) =>
    (s.placeIn m a).isSome && !(m.regionAt a).converting)

/-- A stained descriptor or index burst: the event of cause 7 at the first stained burst (R296, Table 11.3). -/
def State.gatherStain (s : State) (r : Req) (bs : List (BitVec 256 × Bool)) : State :=
  let j := (bs.findIdx? (fun (_, x) => x)).getD 0
  let a := r.a + 32 * j
  let w0 := a % 4096 / 8
  let n := ((List.range 4).filter (fun i => match r.word (w0 + i) with | some w => w.stain | none => false)).length
  s.stainEvent (leafOf a r.qbase r.qk (s.geom (stackOf r.qbase)).leaves) (leafLocal a r.qk) 7 0 r.ten r.sid (max 1 n)

/-- The descriptor has been read: the checks of R296, then the index list. -/
def State.gotDesc (s : State) (key : Nat) (g : Gather) (r : Req) (bs : List (BitVec 256 × Bool)) : State :=
  let long := decide (1 < bs.length)
  let (d, clean) := descOf (burstsNat bs) long
  let n := (d.nidx * 4 + 31) / 32 * 32
  if bs.any (fun (_, x) => x) then ((s.gatherStain r bs).failGather key g 1).nextPrefetch (key / 8)
  else if !clean || d.out != long || d.trows = 0 || (d.out && decide (d.ftBaddr + d.nidx * d.rowBytes > 2 ^ 36)) ||
      !s.listOk g.snap d.idxAddr n || !rowsLegal g.snap d.tbase d.rowBytes then
    (s.failGather key g 3).nextPrefetch (key / 8)
  else
    let s := s.cntT g.ten 11 1
    (s.setGather key { g with desc := d, phase := .index, asked := false, chunks := pageChunks d.idxAddr n }).nextChunk key

/-- A doorbell page has been read (R303-R305, Table 10.5). -/
def State.gotPage (s : State) (key : Nat) (g : Gather) (r : Req) (bs : List (BitVec 256 × Bool)) : State :=
  let b := burstsNat bs
  let count := fld b (4064 * 8) 16
  let bad := r.region.converting || bs.any (fun (_, x) => x)
  if bad || count = 0 || count > 1016 then
    ((s.dropGather key).note 0x49 6 g.ten [(1, g.db), (2, count)]).nextPrefetch (key / 8)
  else
    let base := g.desc.ftBaddr + fld b (4068 * 8) 32 * 32
    let s := s.cntT g.ten 14 1
    let g := { g with desc := { g.desc with nidx := count, ftBaddr := base }, seq := fld b (4066 * 8) 16, phase := .rows,
                      idx := (indicesOf bs).take count, asked := false }
    State.gatherGo 65537 (s.setGather key g) key

/-- Bursts of a read of a gather from its first one not taken yet: those that have all the stored data they depend on, up to
the first that lacks some (R87). -/
def Req.ready (r : Req) : List (Nat × Bool × Nat) :=
  let v := r.view
  (((List.range (v.size / 32)).drop r.formed).map (v.burst r.word)).takeWhile Option.isSome |>.filterMap id

/-- Every burst of a gather's read has its data. -/
def Req.whole (r : Req) : Bool := r.formed + r.ready.length == r.view.size / 32

/-- Stain events of the sparse blocks of a read whose pattern field holds a reserved code (R262). -/
def State.patternEvents (s : State) (r : Req) : State :=
  (r.view.badPatterns r.word).foldl (fun s (w, m) =>
    let a := r.a - r.addr % 4096 + 8 * w
    s.stainEvent (leafOf a r.qbase r.qk (s.geom (stackOf r.qbase)).leaves) (leafLocal a r.qk) 5 0 r.ten r.sid m) s

/-- The ready bursts of a row read for a stream go into beats, each as soon as its own data is in (R87, R299). -/
def State.gatherPrefix (s : State) (id : Nat) (r : Req) : State :=
  match Tab.find? s.lake.gathers r.ctx with
  | none => s
  | some g =>
    let os := r.ready
    if g.phase != .rows || g.desc.out || os.isEmpty then s
    else
      let s := (s.cntT r.ten 36 ((os.map (fun (_, _, o) => o)).sum)).setReq id { r with formed := r.formed + os.length }
      (s.setGather r.ctx { g with outBeats := g.outBeats ++ os.map (fun (b, st, _) => (BitVec.ofNat 256 b, st)) }).gatherBeats
        4096 r.ctx

/-- The data of one read of a gather is complete: its delivered bursts move the gather on. -/
def State.gatherData (s : State) (id : Nat) (r : Req) : State :=
  let outs := r.ready
  let bs := outs.map (fun (b, st, _) => (BitVec.ofNat 256 b, st))
  let s := s.cntT r.ten 36 ((outs.map (fun (_, _, o) => o)).sum)
  let pk := partKey id r.stack
  let s := ((s.freeStages pk).dropPart pk).dropReq id
  match Tab.find? s.lake.gathers r.ctx with
  | none => s
  | some g =>
    let key := r.ctx
    match g.phase with
    | .desc => s.gotDesc key g r bs
    | .index =>
      if g.prefetch then s.gotPage key g r bs
      else if bs.any (fun (_, x) => x) then ((s.gatherStain r bs).failGather key g 1).nextPrefetch (key / 8)
      else
        let g := { g with idx := g.idx ++ indicesOf bs, asked := false }
        if g.chunks.isEmpty then
          let g := { g with idx := g.idx.take g.desc.nidx, phase := .rows }
          let s := s.setGather key g
          State.gatherGo 65537 (if g.desc.out then s.answer g.req 0 false else s) key
        else (s.setGather key g).nextChunk key
    | _ =>
      let s := s.patternEvents r
      if g.desc.out then
        let g := { g with rowBuf := g.rowBuf ++ bs, asked := false }
        if !g.chunks.isEmpty then (s.setGather key g).nextChunk key
        else State.gatherGo 65537 ((s.cntT g.ten 12 1).queueFill key { g with rowBuf := [] } g.rowBuf) key
      else
        let g := { g with outBeats := g.outBeats ++ bs, asked := false }
        if !g.chunks.isEmpty then ((s.setGather key g).gatherBeats 4096 key).nextChunk key
        else
          State.gatherGo 65537 (((s.cntT g.ten 12 1).setGather key { g with row := g.row + 1 }).gatherBeats 4096 key) key

/-- Words have come in for a gather's read: ready bursts of a row go on, and the whole read moves the gather on. -/
def State.gatherWords (s : State) (id : Nat) (r : Req) : State :=
  if r.whole then (s.freePlaces r.stack r.port r.places).gatherData id r else s.gatherPrefix id r

/-- A GATH is granted: it takes a context and reads its descriptor (R295). -/
def State.startGather (s : State) (id : Nat) (p : Part) (r : Req) : State :=
  let s := s.setReq id { r with ctx := stageBits p }
  match s.freeContext r.stack with
  | none => s
  | some key =>
    let desc : GatherDesc :=
      { out := false, ftsel := 0, rowBytes := 0, nidx := 0, idxAddr := 0, tbase := 0, trows := 0, ftBaddr := 0 }
    let g : Gather :=
      { req := id, prefetch := false, db := 0, ten := r.ten, sid := r.sid, tint := r.tint, port := r.port,
        arrival := r.arrival, target := r.target, addr := r.addr, snap := r.snap, step := r.step, phase := .desc,
        desc := desc, idx := [], row := 0, asked := false, chunks := [(r.addr, r.bytes)], rowBuf := [], outBeats := [],
        oor := 0, errFills := 0, stRow := false, fillsOut := 0, seq := 0, loggedOor := false }
    (s.setGather key g).nextChunk key

/-! ## Deckle -/

/-- A gather to a stream ends without its data (R187): its reads are dropped, and its context is free for a trigger that
waits. -/
def State.endGather (s : State) (id : Nat) : State :=
  match Tab.first s.lake.gathers (fun _ g => g.req == id) with
  | none => s
  | some (key, _) =>
    let s := (s.reqs.filter (fun (_, r) => r.op == 33 && r.ctx == key)).foldl (fun s (i, r) => s.dropRead i r) s
    (s.dropGather key).nextPrefetch (key / 8)

/-- End one outstanding request of an isolated or reset port (Table 6.6). Answers whether it ended one. -/
def State.endRequest (s : State) (id : Nat) (r : Req) : State × Bool :=
  let key := partKey id r.stack
  let admitted : Bool := match s.part? key with
    | none => true
    | some p => p.stage == .admitted
  match r.phase with
  | .done | .discarded => (s, false)
  | .dataOpen => (s.answer id 4 true, true)
  | .live =>
    if r.op == 0 || r.op == 5 then
      let s := if admitted then
          let sent := r.formed - (s.port r.port).waitingBeats id
          let here := r.got.length / 4
          if r.op == 0 then s.freePlaces r.stack r.port (here - freedPlaces r sent) else s
        else s.withdraw key
      let q := s.port r.port
      let s := s.setPort r.port { q with lane := q.lane.filter (fun b => b.req != id) }
      let s := s.setReq id { r with got := [], beats := [] }
      ((s.endGather id).answer id 4 true, true)
    else ((s.withdraw key).answer id 4 true, true)

/-- Deckle isolates a fabric or Felt port (R22, R186-R188, R31). `reason` is the NOTE's, 0 for a port record with
ENABLE 0 (R470, R558). -/
def State.isolate (s : State) (p reason : Nat) : State :=
  if (s.port p).isolated then s
  else
    let mine := s.reqs.filter (fun (_, r) => r.port == p && r.answered)
    let (s, n) := mine.foldl (fun (acc : State × Nat) (id, r) =>
      let (s, e) := acc.1.endRequest id r
      (s, acc.2 + e.toNat)) (s, 0)
    let q := s.port p
    let s := s.setPort p { q with isolated := true, hcred := 0, dcred := 0, timer := 0 }
    let s := { s with aff := forget s.aff p }
    let bit := if p < 128 then p else 128 + (p - 136)
    let s := if reason = 0 then s
      else { s with regs := { s.regs with isoEvt := s.regs.isoEvt ||| 2 ^ bit } }
    let s := s.cntG 16 1
    if reason = 0 then s
    else s.note 0x01 (if p < 128 then 3 else 5) (if p < 128 then p else p - 136) [(1, reason), (2, n)]

end Sys2Proof.Machine
end

