-- ==== Sys2Proof/Machine/Arbiter.lean ====
section
/-! DEFINITION. The stack ingress arbiter: eligibility, admissibility, rank, pins and grants (R172-R181), the admission of a part to its leaves (R82-R86, R328), and the late parts (R170-R171, R182-R184). -/

namespace Sys2Proof.Machine

/-! ## Rank -/

/-- Effective deadline of a part, in ns from now (R169, R175). -/
def State.effective (s : State) (r : Req) : Int :=
  let d := s.ahead (r.arrival + r.target)
  if r.port < 128 then
    match (s.port r.port).urg with
    | 0 => d
    | 1 => min d (r.target / 2 : Nat)
    | 2 => min d (r.target / 4 : Nat)
    | _ => min d 0
  else d

/-- Rank order of R175: effective deadline, arrival, port, header. -/
def State.outranks (s : State) (a b : Cand) : Bool :=
  let key (c : Cand) : List Int := [s.effective c.2.2, s.ahead c.2.2.arrival, c.2.2.port, c.2.1.req]
  decide (key a < key b)

/-- Waiting order: arrival, port, header. -/
def State.waitsLonger (s : State) (a b : Cand) : Bool :=
  let key (c : Cand) : List Int := [s.ahead c.2.2.arrival, c.2.2.port, c.2.1.req]
  decide (key a < key b)

/-- First of a list in an order. -/
def firstBy (before : Cand → Cand → Bool) : List Cand → Option Cand
  | [] => none
  | c :: t => some (t.foldl (fun a b => if before b a then b else a) c)

/-! ## Pins and admissibility (R173, R178) -/

/-- Units set aside for a pin (R178). -/
def State.aside (s : State) (pin : Option Nat) (lack : List Nat) (self code : Nat) : Nat :=
  match pin with
  | none => 0
  | some key =>
    if key = self || !lack.contains code then 0
    else match s.part? key with
      | none => 0
      | some p => match s.req? p.req with
        | none => 0
        | some r => Tab.num (s.needs p r) code

/-- Resources a part lacks (R173): `waiter` says that it is itself the waiter pin, for which nothing is set aside. -/
def State.lacks (s : State) (k key : Nat) (p : Part) (r : Req) (waiter : Bool) : List Nat :=
  let a := s.arb k
  (s.needs p r).filterMap (fun (code, n) =>
    let rank := if a.rankPin = a.waitPin && a.waitLack.contains code then 0 else s.aside a.rankPin a.rankLack key code
    let held := if waiter then 0 else s.aside a.waitPin a.waitLack key code + rank
    if n + held ≤ s.freeOf k code then none else some code)

def State.admissible (s : State) (k : Nat) (c : Cand) : Bool :=
  (s.lacks k c.1 c.2.1 c.2.2 ((s.arb k).waitPin == some c.1)).isEmpty

/-! ## Eligibility (R172, R26) -/

/-- Tenant range an accumulate job covers. -/
def AccuJob.range (j : AccuJob) : Nat × Nat :=
  let sh := j.region.shape
  (j.pageAddr + j.first / sh.per * sh.d, 32 * j.nb)

/-- An earlier overlapping request of the same port and SID has not entered its leaf's queue, or is a GATH whose descriptor has
not been read (R26). -/
def State.behindOwn (s : State) (id : Nat) (r : Req) : Bool :=
  Tab.some s.lake.gathers (fun _ g => g.phase == .desc && decide (g.req < id) && g.port == r.port && g.sid == r.sid &&
    (match s.req? g.req with | some q => q.overlaps r | none => false)) ||
  Tab.some s.reqs (fun j q => decide (j < id) && q.port == r.port && q.sid == r.sid && q.op != 6 && q.op != 7 &&
    (q.phase == .live || q.phase == .dataOpen) && q.overlaps r &&
    (match s.part? (partKey j q.stack) with
      | none => q.phase == .dataOpen
      | some p => p.stage != .admitted)) ||
  Tab.some s.lake.accus (fun _ j => j.req < id && j.port == r.port && j.sid == r.sid && j.ten == r.ten &&
    decide (j.range.1 < r.addr + r.bytes) && decide (r.addr < j.range.1 + j.range.2))

/-- A part of a stack is eligible now. -/
def State.eligible (s : State) (k : Nat) (c : Cand) : Bool :=
  let (_, p, r) := c
  s.admitting k && p.stage == .ready &&
    (decide (128 ≤ r.port) || decide (Tab.num (s.arb k).rbuf r.port + r.places ≤ 512)) &&
    !p.pieces.any (fun x => s.channelAsleep (channelOf x.leaf)) &&
    (decide (32 ≤ r.op) || r.op == 6 || !s.behindOwn p.req r)

/-! ## Admission -/

/-- Queue the pieces of an admitted part: reads and full bursts as entries, narrow bursts merged (R83, R329). Those of an
accumulate Lake reads itself. -/
def State.queuePieces (s : State) (p : Part) (r : Req) : State :=
  (if r.op = 3 || r.op = 4 then [] else p.pieces).foldl (fun s x =>
    if x.narrow then
      s.mergeBurst x.leaf x.la x.words 0 false r.ten r.sid r.tint r.port r.arrival r.target
    else
      let wr := !x.words.isEmpty
      s.enqueue x.leaf (s.mkEntry x.leaf x.la x.nb wr (decide (32 ≤ r.op)) (.part p.req p.stack) x.words r.ten r.sid
        r.tint r.arrival r.target r.port)) s

/-- A part is served (R166, R574): SERVED and LAT_SUM, and its SERVED time. -/
def State.servedPart (s : State) (id : Nat) (r : Req) : State :=
  let s := (s.cntT r.ten 48 1).cntT r.ten 46 (s.now - r.arrival)
  s.setReq id { r with servedAt := s.now }

/-- What a write does in Lake's forward pass (R259, R260, R307, R15): counts, digests, stain events of bad parity, its
doorbell. It comes about when the grant completes, so that a write withdrawn before has had no effect (R19). -/
def State.forwardEffects (s : State) (p : Part) (r : Req) : State :=
  let fw := forwardWrite r.region r.ten r.regIdx r.step r.addr r.a r.bytes (r.op == 2) r.beats
  let s := (s.cntT r.ten 35 fw.pruned).cntT r.ten 36 fw.ovf
  let s := if r.region.wmark then s.digest r.ten r.regIdx r.step r.region fw.elems else s
  let L := (s.geom (stackOf r.qbase)).leaves
  let s := fw.parity.foldl (fun s (a, n) =>
    s.stainEvent (leafOf a r.qbase r.qk L) (leafLocal a r.qk) 4 0 r.ten r.sid n) s
  match s.doorbellOf r with
  | some (i, _) => s.trigger i r.arrival p.stack
  | none => s

/-- Stain events of an accumulate's payload: one for each burst with a word that fails DPAR, at the first stored word of its
first element (R15; assumption 37). -/
def State.payloadParity (s : State) (r : Req) : State :=
  let L := (s.geom (stackOf r.qbase)).leaves
  let n := r.region.delivered r.bytes / 32
  let sh := r.region.shape
  let per := 256 / (fmtOf r.region.dfmt).width
  (burstsOf r.beats n).zipIdx.foldl (fun s (b, i) =>
    if b.bad then
      let a := r.a + i * per / sh.per * sh.d
      s.stainEvent (leafOf a r.qbase r.qk L) (leafLocal a r.qk) 4 0 r.ten r.sid (max 1 (min 4 (per / sh.per * sh.d / 8)))
    else s) s

/-- A part is admitted (R174): its pieces are in the leaves' queues, its stages and credits freed, and a write answered
OK (R85, Table 1.5). The data of a feeder page or a gather's row keeps its place at its port's or Lake's stage. An ACCU, ACCO,
GATH or MARK part, which queues no entry of its own, counts as served here (DESIGN CHOICE, unsafe: assumption 117). -/
def State.admitPart (s : State) (key : Nat) : State :=
  match s.part? key with
  | none => s
  | some p => match s.req? p.req with
    | none => s
    | some r =>
      let s := if r.op = 1 || r.op = 2 then s.forwardEffects p r else s
      let s := if r.op = 3 || r.op = 4 then s.payloadParity r else s
      let feeds := r.op = 32 || r.op = 33
      let s := if feeds then s.freePath key else s.freeStages key
      let s := if r.op = 33 then s.gatherDebt r else s
      let p' := { p with stage := .admitted, since := s.clk.ticks, inQuire := false, inLake := p.inLake && feeds }
      let s := s.setPart key { p' with xbar := .returned, bridge := .returned,
                                       toServe := (p.pieces.filter (fun x => !x.narrow)).length }
      let s := s.queuePieces p r
      let s := if r.answered then s.returnCredits r.port 1 r.dataBeats else s
      match r.op with
      | 1 | 2 =>
        let s := if (p.pieces.all Piece.narrow) then (s.servedPart p.req r).dropPart key else s
        s.answer p.req 0 false
      | 3 => (((s.servedPart p.req r).dropPart key).acceptAccu p.stack r p.req).answer p.req 0 false
      | 4 => (((s.servedPart p.req r).dropPart key).acceptAcco p.stack r).answer p.req 0 false
      | 5 => ((s.servedPart p.req r).dropPart key).startGather p.req p r
      | 6 =>
        let pay := (burstsOf r.beats 1).foldl (fun _ b => b.data) 0
        let body := leBytes 2 r.ten ++ leBytes 2 r.sid ++ [r.tint, r.addr % 16, r.port, 0] ++ leBytes 8 r.step ++
          List.replicate 16 0 ++ leBytes 32 pay
        let rec_ : Rec := { s.mkRec 2 2 6 r.ten 3 body with time := r.arrival }
        (((s.servedPart p.req r).dropPart key).traceRec rec_).answer p.req 0 false
      | _ => s

/-- Count the payload of a part that crosses the bridge (Table 17.9). -/
def State.bridgeBytes (s : State) (r : Req) (k n : Nat) (toStack : Bool) : State :=
  if portHalf r.port = halfOf k then s
  else
    let fromHalf := if toStack then portHalf r.port else halfOf k
    s.cntG (if fromHalf = 0 then 18 else 20) n

/-- Granule pieces that the write lanes carry for a part (R179): those of its stored bursts, or the data beats of an
accumulate's contributions. -/
def lanePieces (p : Part) (r : Req) : Nat :=
  if r.op = 3 || r.op = 4 then r.dataBeats else (granulesOf p.pieces).length

/-- Grant a part (R174, R167): resources are reserved, and a part without data is admitted at once. -/
def State.grant (s : State) (k : Nat) (c : Cand) : State :=
  let (key, p, r) := c
  let s := s.cntG (32 + r.tint) 1
  let s := s.samplePoint 2 k r
  let r := { r with grantAt := if r.grantAt = 0 then s.now else r.grantAt }
  let a := s.arb k
  let far := crosses r p
  let s := s.setArb k { a with rbuf := Tab.set 0 a.rbuf r.port (Tab.num a.rbuf r.port + r.places),
                               bridgeRet := if far then a.bridgeRet + r.places else a.bridgeRet }
  let s := s.setReq p.req r
  let s := s.bridgeBytes r k (256 * r.dataBeats) true
  let s := s.setPart key { p with stage := .granted, since := s.clk.ticks, left := lanePieces p r }
  if r.op == 0 || r.op == 5 || r.op == 6 || decide (32 ≤ r.op) || lanePieces p r == 0 then s.admitPart key else s

/-- Lake's word on a part at its would-be grant (R279, R280): granted, held, or refused. Answers whether it was
granted. -/
def State.tryGrant (s : State) (k : Nat) (c : Cand) : State × Bool :=
  let (key, p, r) := c
  let a := s.arb k
  let unpin (s : State) : State :=
    let a := s.arb k
    let a := if a.rankPin = some key then { a with rankPin := none, rankLack := [] } else a
    s.setArb k (if a.waitPin = some key then { a with waitPin := none, waitLack := [] } else a)
  match s.lakeCheck k p r with
  | .pass => (unpin (s.grant k c), true)
  | .hold =>
    let s := unpin (s.setArb k a)
    ((s.setPart key { p with stage := .lakeHeld s.clk.ticks }).cntT r.ten 52 1, false)
  | .fail resp => (unpin (s.refuse key resp), false)

/-- A scavenger part; late when its deadline has passed. -/
def State.scav (s : State) (r : Req) : Bool := (s.bank.tint r.tint).cls == 3
def State.isLate (s : State) (r : Req) : Bool := decide (s.ahead (r.arrival + r.target) ≤ 0)

/-- An inadmissible part that lacks merge entries makes its leaves close their oldest, where they have entries free for the
flush (R328, R330 cause 4). -/
def State.closeOldest (s : State) (k : Nat) (lack : List Nat) : State :=
  lack.foldl (fun s code =>
    if code < 4096 || s.freeOf k (code - 4096) < 2 then s
    else match (s.care (code - 4096)).oldestEnt with
      | none => s
      | some m => if (s.care (code - 4096)).merge.any (fun x => x.closed) then s else s.flushEnt (code - 4096) m) s

/-- The slots of one round of the arbiter up to its first grant (R177, R178). -/
def State.arbitrate : Nat → State → Nat → State
  | 0, s, _ => s
  | n + 1, s, k =>
    let el := (s.partsAt k (fun g => g == .ready)).filter (s.eligible k)
    let a := s.arb k
    let pin (o : Option Nat) : Option Cand := match o with
      | none => none
      | some key => el.find? (fun c => c.1 == key && s.admissible k c)
    let adm := el.filter (fun c => s.admissible k c && a.waitPin != some c.1 && a.rankPin != some c.1)
    let go (s : State) (c : Cand) : State :=
      let (t, ok) := s.tryGrant k c
      if ok then t else State.arbitrate n t k
    let setCount (v : Nat) : State := s.setArb k { a with count := v }
    match pin a.waitPin, pin a.rankPin with
    | some c, _ => go s c
    | none, some c => go s c
    | none, none =>
      if a.count + 1 = s.setting 0x2605 k then
        match firstBy s.waitsLonger (el.filter (fun c => !s.scav c.2.2 || s.isLate c.2.2)) with
        | some w =>
          if s.admissible k w then
            let (t, ok) := s.tryGrant k w
            if ok then t.setArb k { t.arb k with count := 0 } else State.arbitrate n t k
          else
            let lack := s.lacks k w.1 w.2.1 w.2.2 false
            let b := if a.waitPin.isNone then { a with waitPin := some w.1, waitLack := lack, count := 0 }
              else { a with count := 0 }
            State.arbitrate n ((s.setArb k b).closeOldest k lack) k
        | none =>
          match firstBy s.outranks adm with
          | none => s
          | some c =>
            let (t, ok) := s.tryGrant k c
            if ok then t.setArb k { t.arb k with count := 0 } else State.arbitrate n t k
      else
        let pick := match firstBy s.outranks (adm.filter (fun c => !s.scav c.2.2)) with
          | some c => some c
          | none => firstBy s.outranks (adm.filter (fun c => s.scav c.2.2))
        match pick with
        | none => s
        | some c =>
          let (t, ok) := (setCount (a.count + 1)).tryGrant k c
          if ok then t else State.arbitrate n (t.setArb k { t.arb k with count := a.count }) k

/-- Parts that Lake holds are tested again; those of a stack that retries are answered RETRY, held or not (R141, R172). -/
def State.retest (s : State) (k : Nat) : State :=
  let s := (s.partsAt k (fun g => match g with | .lakeHeld _ => true | _ => false)).foldl (fun s (key, p, r) =>
    if s.stackRetries k then s.setPart key { p with stage := .ready }
    else match s.lakeCheck k p r with
      | .hold => s
      | _ => s.setPart key { p with stage := .ready }) s
  if s.stackRetries k then
    (s.partsAt k (fun g => g == .ready)).foldl (fun s (key, _, r) =>
      if r.answered then s.refuse key 5 else s) s
  else s

/-- The rank pin (R178): the best eligible part not of the scavenger class, where it is not admissible. -/
def State.pinTop (s : State) (k : Nat) : State :=
  let el := (s.partsAt k (fun g => g == .ready)).filter (fun c => s.eligible k c && !s.scav c.2.2)
  match firstBy s.outranks el with
  | none => s
  | some c =>
    if (s.arb k).rankPin.isNone && !s.admissible k c then
      let lack := s.lacks k c.1 c.2.1 c.2.2 ((s.arb k).waitPin == some c.1)
      (s.setArb k { s.arb k with rankPin := some c.1, rankLack := lack }).closeOldest k lack
    else s

/-- PART_GRANT (R172-R178): the next grant of a stack's arbiter. -/
def execPartGrant (k : Fin 16) (s : State) : Host.Outcome State Fault Refusal :=
  .next (State.arbitrate 16 ((s.retest k.val).pinTop k.val) k.val)

/-- Granted parts of a stack that have pieces left to move. -/
def State.moving (s : State) (k : Nat) : List Cand :=
  (s.partsAt k (fun g => g == .granted)).filter (fun c => decide (c.2.2.op < 32) && decide (0 < c.2.1.left))

/-- One FCLK of the write lanes (R179): n lanes still to assign, among the parts in `cs`, at most one to each part. Every
ARB_N-th assignment goes to the part of earliest arrival. -/
def State.laneRound : Nat → State → Nat → List Cand → State
  | 0, s, _, _ => s
  | n + 1, s, k, cs =>
    let a := s.arb k
    let old := decide (s.setting 0x2605 k ≤ a.lanes + 1)
    match firstBy (if old then s.waitsLonger else s.outranks) cs with
    | none => s
    | some (key, p, _) =>
      let a := { a with lanes := if old then 0 else a.lanes + 1, moved := if p.left = 1 then a.moved ++ [key] else a.moved }
      State.laneRound n ((s.setArb k a).setPart key { p with left := p.left - 1 }) k (cs.filter (fun c => c.1 != key))

/-- The write lanes run, FCLK by FCLK, until some granted part has moved its last piece (R179, R180). -/
def State.runLanes : Nat → State → Nat → State
  | 0, s, _ => s
  | n + 1, s, k => if (s.arb k).moved.isEmpty then State.runLanes n (State.laneRound 8 s k (s.moving k)) k else s

/-- GRANT_COMPLETE (R174, R179): the lanes carry the granted parts' pieces until one of them has moved its last, and that part's
grant completes. -/
def execGrantComplete (k : Fin 16) (s : State) : Host.Outcome State Fault Refusal :=
  let s := State.runLanes ((s.moving k.val).map (fun c => c.2.1.left)).sum s k.val
  let a := s.arb k.val
  match a.moved with
  | [] => .next s
  | key :: rest => .next ((s.setArb k.val { a with moved := rest }).admitPart key)

/-- LAKE_HOLD_TIMEOUT (R280): holds that have reached LAKE_HOLD end with RETRY. -/
def execLakeHoldTimeout (k : Fin 16) (s : State) : Host.Outcome State Fault Refusal :=
  let lim := us (s.setting 0x3102 k.val)
  .next ((s.partsAt k.val (fun g => match g with
      | .lakeHeld t => decide (t + lim ≤ s.clk.ticks)
      | _ => false)).foldl (fun s (key, _, r) => (s.cntT r.ten 53 1).refuse key 5) s)

/-! ## Lateness -/

/-- Where a part stands at U3 (R184). -/
def Part.where_ (p : Part) (elig : Bool) : Nat :=
  match p.stage with
  | .granted => 2
  | .admitted => 3
  | .ready => elig.toNat
  | _ => 0

/-- What a part's lateness at a stack does (R182-R184): it is counted, unless the stop is complete, MIRQ sets its tint's bit, and
the first of its tint in the sheet is logged with the place where it stood. -/
def State.late (s : State) (k : Nat) (r : Req) (place : Nat) : State :=
  let s := if s.pins.stopped then s else (s.cntS k r.tint 1).cntT r.ten 21 1
  let t := s.bank.tint r.tint
  let s := if t.mirq then { s with regs := { s.regs with gmiss := s.regs.gmiss ||| 2 ^ r.tint } } else s
  let a := s.arb k
  let n := s.clk.sheetNum
  if t.mlog && !a.lateLogged.contains (r.tint, n) then
    (s.setArb k { a with lateLogged := (r.tint, n) :: a.lateLogged.filter (fun x => x.2 == n) }).note 0x42 1 k
      [(2, r.ten), (2, r.sid), (1, r.tint), (8, r.arrival), (3, r.target), (1, place)]
  else s

/-- Timed level of a request at a stack (Table 6.3): by stack time and the deadlines stamped at the grant, or by the timebase
before it (R169-R171). -/
def State.timeLevel (s : State) (k : Nat) (stamped : Bool) (r : Req) : Nat :=
  let past (x : Nat) : Bool := if stamped then reached (s.sck k).stc (s.stOf k x) else decide (s.ahead x ≤ 0)
  if past (r.arrival + r.target) then 3 else if past (r.arrival + r.target * 3 / 4) then 2
  else if past (r.arrival + r.target / 2) then 1 else 0

/-- A level counts once when it is crossed (Tables 17.2, 17.6): from level m to n. -/
def State.countLevels (s : State) (k m n : Nat) (r : Req) : State :=
  let s := if m < 1 && 1 ≤ n then s.tally k (0x1000 + 4 * r.tint) 1 false else s
  if m < 2 && 2 ≤ n then (s.cntS k (16 + r.tint) 1).cntT r.ten 22 1 else s

/-- Levels of one part: the third makes it late, once (R171). -/
def State.crossPart (s : State) (k key : Nat) (p : Part) (r : Req) : State :=
  let n := s.timeLevel k (p.stage == .granted || p.stage == .admitted) r
  if n ≤ p.lvl || (p.stage == .admitted && p.toServe == 0) then s
  else
    let place := p.where_ (s.eligible k (key, p, r))
    let s := (s.countLevels k p.lvl n r).setPart key { p with lvl := n, late := n == 3 }
    if n = 3 then s.late k r place else s

/-- Levels of a request that waits for its data in the ingress buffer: it is late there like any other. -/
def State.crossOpen (s : State) (k id : Nat) (r : Req) : State :=
  let n := s.timeLevel k false r
  if n ≤ r.lvl then s
  else
    let s := (s.countLevels k r.lvl n r).setReq id { r with lvl := n }
    if n = 3 then s.late k r 0 else s

/-- URGENCY_CROSSING (R95, R170, R182): the levels of a stack's entries and parts are brought up to its time. -/
def execUrgencyCrossing (k : Fin 16) (s : State) : Host.Outcome State Fault Refusal :=
  let stc := (s.sck k.val).stc
  let mine := s.leaves.filter (fun (i, l) => i / 64 == k.val && !l.queue.isEmpty)
  let s := mine.foldl (fun s (i, _) =>
    let l := s.leaf i
    let q := l.queue.map (fun e => { e with urg := s.urgOf stc e })
    (s.setLeaf i { l with queue := q }).claims i) s
  let s := (s.partsAt k.val (fun _ => true)).foldl (fun s (key, p, r) =>
    if r.op = 34 then s else s.crossPart k.val key p r) s
  .next ((s.reqs.filter (fun (_, r) => r.stack == k.val && r.phase == .dataOpen)).foldl (fun s (id, r) =>
    s.crossOpen k.val id r) s)

/-- A held value raised to exactly 2^30 behind its counter (R169). -/
def sweepValue (stc v : Nat) : Nat :=
  if diff32 stc v > 2 ^ 30 then (stc + 2 ^ 32 - 2 ^ 30) % 2 ^ 32 else v

/-- An arrival in ns, raised in the same way against the timebase. -/
def State.sweepTime (s : State) (v : Nat) : Nat := if s.ahead v < -(2 ^ 30) then s.now - 2 ^ 30 else v

/-- DEADLINE_SWEEP (R169): the values that a stack's queues hold against its time counter, and the arrivals that its parts and
Lake's work hold against the timebase. -/
def execDeadlineSweep (k : Fin 16) (s : State) : Host.Outcome State Fault Refusal :=
  let stc := (s.sck k.val).stc
  let fix (e : Entry) : Entry :=
    { e with deadline := sweepValue stc e.deadline, u1t := sweepValue stc e.u1t, u2t := sweepValue stc e.u2t }
  let lake := { s.lake with
    accus := Tab.mapVals s.lake.accus (fun _ j => if j.stack = k.val then { j with arrival := s.sweepTime j.arrival } else j),
    tiles := Tab.mapVals s.lake.tiles (fun _ t => if t.stack = k.val then { t with arrival := s.sweepTime t.arrival } else t),
    gathers := Tab.mapVals s.lake.gathers (fun i g => if i / 8 = k.val then { g with arrival := s.sweepTime g.arrival } else g) }
  .next { s with
    leaves := Tab.mapVals s.leaves (fun i l => if i / 64 = k.val then { l with queue := l.queue.map fix } else l),
    cares := Tab.mapVals s.cares (fun i c => if i / 64 = k.val then
      { c with merge := c.merge.map (fun m => { m with arrival := s.sweepTime m.arrival }) } else c),
    reqs := Tab.mapVals s.reqs (fun _ r => if r.stack = k.val then { r with arrival := s.sweepTime r.arrival } else r),
    lake := lake }

end Sys2Proof.Machine
end

