-- ==== Sys2Proof/Machine/Bank.lean ====
section
/-! DEFINITION. Change sets: what a staged item writes, its lock, the pending and projected banks, role profiles, the grid of boundaries and the landing of a set (R214-R232, R568). -/

namespace Sys2Proof.Machine

/-! ## Records and locks (R225, R226) -/

/-- The record an item writes: its kind (Table 15.7's numbers, then kinds of this model's own) and its index. -/
def Staged.key (w : Staged) : Nat × Nat :=
  match w with
  | .setting code inst _ => (8, code * 2 ^ 16 + inst)
  | .tenantOpen t | .tenantClose t | .tenantHost t _ | .adopt t _ => (1, t)
  | .window t _ _ => (1, t)
  | .quireNew b _ | .quireRelease b => (2, b)
  | .region t i _ => (3, t * 64 + i)
  | .tint i _ => (4, i)
  | .markTints _ _ => (4, 16)
  | .port i _ => (7, i)
  | .policer t _ => (5, t)
  | .gate b _ => (6, b)
  | .profile _ => (15, 0)
  | .skew i _ => (12, i)
  | .feederPort i _ => (13, i)
  | .feederSlot i _ => (9, i)
  | .doorbell i _ => (10, i)
  | .arming i _ => (11, i)
  | .opPoint k _ => (16, k)
  | .cal c _ _ => (17, c)
  | .owner _ => (18, 0)
  | .handover _ => (19, 0)

/-- What an item replaces of its record: a window of a quire map entry alone (R226), else the whole record. -/
def Staged.slot (w : Staged) : Nat × Nat :=
  match w with
  | .window t i _ => (14, t * 8 + i)
  | w => w.key

/-- A record is locked to a set other than a page's own open one. -/
def State.lockedTo (s : State) (page : Nat) (key : Nat × Nat) : Bool :=
  s.sets.any (fun c => (c.committed || c.page != page) && c.items.any (fun i => i.what.key == key))

/-- Records of a set, each once. -/
def ChangeSet.records (c : ChangeSet) : List (Nat × Nat) := (c.items.map (fun i => i.what.key)).dedup

/-! ## Role profiles (R214, Table 7.5) -/

/-- Targets of tints 0-6 and weights of tints 0-2 and 3-6 under a profile. -/
def profileTints (code : Nat) : List Nat × Nat × Nat :=
  match code with
  | 1 => ([1000, 2000, 8000, 8000, 16000, 32000, 65535], 32, 64)
  | 2 => ([300, 1000, 4000, 8000, 16000, 32000, 65535], 128, 16)
  | 3 => ([1000, 2000, 8000, 8000, 16000, 32000, 65535], 64, 32)
  | _ => ([500, 1000, 4000, 8000, 16000, 32000, 65535], 64, 32)

def profileTint (code t : Nat) : Tint :=
  let d := defaultTint t
  let (ts, w0, w1) := profileTints code
  if t < 3 then { d with tgt := ts.getD t 0, wgt := w0 }
  else if t < 7 then { d with tgt := ts.getD t 0, wgt := w1 }
  else d

/-- Marker mode of a profile for a policer with PROF 1. -/
def Policer.follow (p : Policer) (code : Nat) : Policer :=
  if !p.prof then p
  else
    { p with alg := code == 1 || code == 3, caware := code == 2 || code == 3, ract := if code = 3 then 1 else 0,
             yact := code == 2 }

/-- Gate template of a profile at a sheet length in ns. -/
def GateList.follow_ (g : GateList) (code len : Nat) : GateList :=
  if !g.follow then g
  else if code = 0 then
    let d := len / 8 / 100
    { g with entries := [⟨0x8007, d⟩, ⟨0xFFFF, len / 100 - d⟩] }
  else { g with entries := [] }

/-! ## What an item writes -/

/-- Remove a tenant's window: its quire loses a holder and drains when none is left (R65). -/
def Banked.unmap (b : Banked) (t w : Nat) : Banked :=
  let r := b.window t w
  if !r.valid then b
  else
    let b := b.setWindow t w Window.none
    let q := b.quire r.qbase
    if q.qstate == .free || q.qgen != r.qgen then b
    else
      let n := q.nshare - 1
      b.setQuire r.qbase { q with nshare := n, qstate := if n = 0 && q.qstate == .active then .draining else q.qstate }

/-- The quire record of a descriptor is ACTIVE or FAILED, of the descriptor's generation (R568). -/
def Banked.holds (b : Banked) (r : Window) : Bool :=
  let q := b.quire r.qbase
  (q.qstate == .active || q.qstate == .failed) && q.qgen == r.qgen

/-- Map a window (R473, R474): its quire gains a holder, of at most 64 (R59). A descriptor without its quire maps nothing
(R568). -/
def Banked.map (b : Banked) (t w : Nat) (r : Window) : Banked :=
  let b := b.unmap t w
  let q := b.quire r.qbase
  if !r.valid then b
  else if b.holds r && decide (q.nshare < 64) then
    let b := (b.setWindow t w r).setQuire r.qbase { q with nshare := q.nshare + 1 }
    let tr := b.tenant t
    if q.qstate == .failed && tr.tstate == .active then b.setTenant t { tr with tstate := .failed } else b
  else b

/-- A FAILED quire that its owner releases passes to ZEROING (R71). The windows onto it leave with it, since a request to a
ZEROING quire fails the window check (the text below R78; DEDUCED, log 130). -/
def Banked.release (b : Banked) (base : Nat) : Banked :=
  let q := b.quire base
  if q.qstate != .failed then b
  else
    { b with windows := Tab.keep b.windows (fun _ w => !w.valid || w.qbase != base || w.qgen != q.qgen) }.setQuire base
      { q with qstate := .zeroing, nshare := 0 }

/-- Sheet length of a bank in ns. -/
def Banked.sheetNs (b : Banked) : Nat := b.settingAt 0x2801 0 (settingRow 0x2801) * 1000

/-- The bank after an item goes live, with a profile's gate template at a sheet length in ns. Calibration, hand-over and the
run-time side of the others are SHEET_BOUNDARY's. -/
def Banked.apply (b : Banked) (len : Nat) (w : Staged) : Banked :=
  match w with
  | .setting code inst v => { b with settings := Tab.put b.settings (code * 2 ^ 16 + inst) v }
  | .tenantOpen t => b.setTenant t { b.tenant t with tstate := .active }
  | .tenantClose t =>
    let b := (List.range 8).foldl (fun b w => b.unmap t w) b
    let r := b.tenant t
    if r.tstate == .active || r.tstate == .failed then b.setTenant t { r with tstate := .draining } else b
  | .tenantHost t h => b.setTenant t { b.tenant t with host := h }
  | .adopt t h =>
    let b := b.setTenant t { b.tenant t with host := h }
    { b with quires := Tab.mapVals b.quires (fun _ q =>
        if q.creator == t && q.qstate != .free then { q with qhost := h } else q) }
  | .window t i r => b.map t i r
  | .quireNew base q => b.setQuire base { q with nshare := 0, qgen := (b.quire base).qgen }
  | .quireRelease base => b.release base
  | .region t i r => { b with regions := Tab.set Region.none b.regions (t * 64 + i) (if r.valid then r else Region.none) }
  | .tint i r => { b with tints := Tab.set (defaultTint i) b.tints i r }
  | .markTints red yel => { b with redTint := red, yelTint := yel }
  | .port i r => { b with ports := Tab.set PortRec.default b.ports i r }
  | .policer t r => { b with policers := Tab.set Policer.default b.policers t r }
  | .gate base r => { b with gates := Tab.set GateList.none b.gates base r }
  | .profile code =>
    let ps := (List.range 512).foldl (fun ps t =>
      Tab.set Policer.default ps t ((Tab.get Policer.default ps t).follow code)) b.policers
    { b with profile := code,
             tints := (List.range 16).foldl (fun ts t => Tab.set (defaultTint t) ts t (profileTint code t)) b.tints,
             policers := ps, gates := Tab.mapVals b.gates (fun _ g => g.follow_ code len) }
  | .skew i r => { b with skews := Tab.set Skew.none b.skews i (if r.valid then r else Skew.none) }
  | .feederPort i r => { b with feedPorts := Tab.set FeederPort.none b.feedPorts i r }
  | .feederSlot i r => { b with feedSlots := Tab.set FeederSlot.none b.feedSlots i (if r.valid then r else FeederSlot.none) }
  | .doorbell i r => { b with doorbells := Tab.set Doorbell.none b.doorbells i (if r.valid then r else Doorbell.none) }
  | .arming i r => { b with armings := Tab.set Arming.none b.armings i (if r.valid then r else Arming.none) }
  | .opPoint k p => { b with opPoints := Tab.set 0 b.opPoints k p }
  | .owner h => { b with owner := some h }
  | .cal _ _ _ | .handover _ => b

/-- Items of a set in the order they are applied: a profile and the sheet settings first (R214, R215), then as staged. -/
def ChangeSet.ordered (c : ChangeSet) : List Item :=
  let first (i : Item) : Nat := match i.what with | .setting _ _ _ => 0 | .profile _ => 1 | _ => 2
  (c.items.filter (fun i => first i == 0)) ++ (c.items.filter (fun i => first i == 1)) ++
    (c.items.filter (fun i => first i == 2))

/-- The later item of one record replaces the earlier one (R226); both complete. -/
def ChangeSet.effective (c : ChangeSet) : List Item :=
  let its := c.ordered
  its.zipIdx.filterMap (fun (i, n) =>
    if (its.drop (n + 1)).any (fun j => j.what.slot == i.what.slot) then none else some i)

/-- What an item writes: a policer record with PROF 1 and a gate list with GFOLLOW 1 follow the profile in force (Tables 7.1
and 7.3), at a sheet length in ns, unless their own set loads one (R215). -/
def ChangeSet.written (c : ChangeSet) (len : Nat) (b : Banked) (w : Staged) : Staged :=
  if c.items.any (fun i => match i.what with | .profile _ => true | _ => false) then w
  else match w with
    | .policer t r => .policer t (r.follow b.profile)
    | .gate base g => .gate base (g.follow_ b.profile len)
    | w => w

/-- A bank under a set, its gate templates scaled to a sheet length in ns (R214). -/
def Banked.applyAt (b : Banked) (len : Nat) (c : ChangeSet) : Banked :=
  c.effective.foldl (fun b i => b.apply len (c.written len b i.what)) b

/-- Sheet length in ns that a set leaves in force. -/
def ChangeSet.sheetNs (c : ChangeSet) (len : Nat) : Nat :=
  c.items.foldl (fun n i => match i.what with | .setting 0x2801 _ v => v * 1000 | _ => n) len

def Banked.applySet (b : Banked) (c : ChangeSet) : Banked := b.applyAt (c.sheetNs b.sheetNs) c

/-- Committed sets in commit order, then the open ones. -/
def State.inOrder (s : State) : List ChangeSet :=
  sortBy (fun (a b : ChangeSet) => decide (a.seq ≤ b.seq)) (s.sets.filter (fun c => c.committed)) ++
    s.sets.filter (fun c => !c.committed)

/-- The pending copy of every record: the active bank under the sets that have not gone live (R222). -/
def State.pendingBank (s : State) : Banked := s.inOrder.foldl Banked.applySet s.bank

/-- The open set of a page. -/
def State.openSet (s : State) (page : Nat) : Option ChangeSet :=
  s.sets.find? (fun c => !c.committed && c.page == page)

/-! ## The grid and landing (R217, R218, R229) -/

/-- Grid settings a set changes. -/
def ChangeSet.newGrid (c : ChangeSet) (g : Nat × Nat) : Nat × Nat :=
  c.items.foldl (fun g i => match i.what with
    | .setting 0x2801 _ v => (v * 1000, g.2)
    | .setting 0x2802 _ v => (g.1, v * 1000)
    | _ => g) g

def ChangeSet.movesGrid (c : ChangeSet) : Bool :=
  c.items.any (fun i => match i.what with
    | .setting code _ _ => code == 0x2801 || code == 0x2802
    | _ => false)

/-- When a set may land at the earliest. -/
def ChangeSet.due (c : ChangeSet) : Nat := max c.time c.notBefore

/-- First boundary at or after a target on a steady grid from boundary b on. -/
def landsFrom (b L target : Nat) : Nat :=
  if target ≤ b || L = 0 then b else b + (target - b + L - 1) / L * L

/-- The predicted landing boundary and sheet number for a target time, from boundary b that starts sheet n, under the
grid changes still to land. -/
def predict : Nat → List ChangeSet → Nat → Nat × Nat → Nat → Nat → Nat × Nat
  | 0, _, b, _, n, _ => (b, n)
  | k + 1, cs, b, g, n, target =>
    let mine := landsFrom b g.1 target
    let at_ := cs.foldl (fun m c => min m (landsFrom b g.1 c.due)) (mine + 1)
    if cs.isEmpty || mine ≤ at_ then (mine, n + (mine - b) / max 1 g.1)
    else
      let now := cs.filter (fun c => landsFrom b g.1 c.due == at_)
      let g' := now.foldl (fun g c => c.newGrid g) g
      predict k (cs.filter (fun c => landsFrom b g.1 c.due != at_)) (gridAt (at_ + g'.1) g'.1 g'.2) g'
        (n + (at_ - b) / max 1 g.1 + 1) target

/-- Where a set due at a target time lands: the boundary and its sheet number (R229, R231). -/
def State.landing (s : State) (target : Nat) : Nat × Nat :=
  let cs := s.inOrder.filter (fun c => c.committed && c.movesGrid)
  let b := s.nextBoundary
  let n := s.clk.sheetNum + 1
  if s.clk.oldGrid.isNone then predict (cs.length + 1) cs b s.grid n target
  else if target ≤ b then (b, n)
  else
    -- after a core reset the default grid goes live at the boundary due (R566)
    let g := (cs.filter (fun c => decide (c.due ≤ b))).foldl (fun g c => c.newGrid g)
      (s.setting 0x2801 0 * 1000, s.setting 0x2802 0 * 1000)
    predict (cs.length + 1) (cs.filter (fun c => decide (b < c.due))) (gridAt (b + g.1) g.1 g.2) g (n + 1) target

/-! ## Commits -/

/-- The next commit sequence number. -/
def State.nextSeq (s : State) : Nat := s.sets.foldl (fun n c => max n (c.seq + 1)) 1

/-- Records locked chip-wide (R227). -/
def State.lockedRecords (s : State) : Nat := (s.sets.map (fun c => c.records.length)).sum

/-- Mordant firmware has room for a set of its own of n records: its sets keep the limits of R227, and what finds no room
waits (DEDUCED, log 141). -/
def State.ownRoom (s : State) (n : Nat) : Bool :=
  decide ((s.sets.filter (fun c => c.committed)).length + (n + 255) / 256 ≤ 256) && decide (s.lockedRecords + n ≤ 8192)

/-- Mordant firmware commits a set of its own (R223, R378, R452), in sets of at most 256 records (R227). -/
def State.ownSet (s : State) (ws : List Staged) : State :=
  let lead := s.setting 0x2803 0 * 1000
  (List.range ((ws.length + 255) / 256)).foldl (fun s i =>
    let c : ChangeSet :=
      { page := 1000, items := ((ws.drop (256 * i)).take 256).map (fun w => ⟨w, 0⟩), tickets := [], committed := true,
        commitTicket := 0, time := s.now + lead, notBefore := 0, seq := s.nextSeq }
    { s with sets := s.sets ++ [c] }) s

/-- The state as a set projects it (R228): the active bank, the committed sets that land at or before its boundary, and
the set last. -/
def State.projected (s : State) (c : ChangeSet) (boundary : Nat) : Banked :=
  let before := s.inOrder.filter (fun d => d.committed && decide ((s.landing d.due).1 ≤ boundary))
  (before ++ [c]).foldl Banked.applySet s.bank

end Sys2Proof.Machine
end

