-- ==== Sys2Proof/Machine/CalCodec.lean ====
section
/-! DEFINITION. Calibration records: the agreement of paired passes (R360), the channel record and stack section (Tables 12.11, 12.12), their CRC-32C, and quality figures (R383). -/

namespace Sys2Proof.Machine

/-! ## Agreement (R360, R361) -/

def absDiff (a b : Nat) : Nat := (a - b) + (b - a)

/-- The agreement rule on two passes of a lane. -/
def agree (ewmin ehmin : Nat) (cmd tx : Bool) (a b : PassRes) : Option LaneCal :=
  if a.nf || b.nf || decide (2 < absDiff a.dly b.dly) || (!cmd && !tx && decide (1 < absDiff a.vref b.vref)) ||
      decide (min a.ew b.ew < ewmin) || (!cmd && decide (min a.eh b.eh < ehmin)) then none
  else some { valid := true, dly := (a.dly + b.dly) / 2, vref := (a.vref + b.vref) / 2, ew := min a.ew b.ew,
              eh := min a.eh b.eh, left := a.left, right := a.right, lo := a.lo, hi := a.hi, spare := false }

def agreeWv (a b : Nat) : Option Nat := if absDiff a b ≤ 1 then some ((a + b) / 2) else none

/-- WVREF of a pseudo-channel: its first two passes, else the two of the second measurement. -/
def wvResult (w : WvrefMeas) : Option Nat :=
  match agreeWv w.first w.second with
  | some v => some v
  | none => agreeWv w.retryFirst w.retrySecond

/-- Result of a lane: its first two passes, else the two of its second measurement; a write lane needs its
pseudo-channel's WVREF codes to agree. -/
def laneResult (ewmin ehmin : Nat) (wv : WvrefMeas) (l : LaneMeas) : Option LaneCal :=
  let cmd := decide (80 ≤ l.lane)
  let wvOk := !l.tx || cmd || (agreeWv wv.first wv.second).isSome
  let wvOk2 := wvOk || (agreeWv wv.retryFirst wv.retrySecond).isSome
  let one := agree ewmin ehmin cmd l.tx l.first l.second
  if one.isSome && wvOk then one
  else if wvOk2 then agree ewmin ehmin cmd l.tx l.retryFirst l.retrySecond else none

/-- Pseudo-channel of a data or spare lane index. -/
def lanePc (n : Nat) : Nat := if n < 72 then n / 36 else (n - 72) / 4

/-- WVREF measurement of a lane's pseudo-channel. -/
def measWv (m : ChanMeas) (lane : Nat) : WvrefMeas := if lanePc lane = 0 then m.wv0 else m.wv1

/-- Write agreed results into a calibration; a lane served by a spare keeps its mark. -/
def ChanCal.take (c : ChanCal) (ewmin ehmin : Nat) (m : ChanMeas) : ChanCal :=
  let c := m.lanes.foldl (fun c l =>
    match laneResult ewmin ehmin (measWv m l.lane) l with
    | none => c
    | some r =>
      if l.tx then { c with tx := Tab.put c.tx l.lane { r with spare := (Tab.get LaneCal.reset c.tx l.lane).spare } }
      else { c with rx := Tab.put c.rx l.lane { r with spare := (Tab.get LaneCal.reset c.rx l.lane).spare } }) c
  { c with wv0 := (wvResult m.wv0).getD c.wv0, wv1 := (wvResult m.wv1).getD c.wv1 }

/-- Lanes measured without an agreed result; a write lane whose WVREF failed is not counted against the lane. -/
def measFailed (ewmin ehmin : Nat) (m : ChanMeas) : List Nat :=
  (m.lanes.filterMap (fun l =>
    if (laneResult ewmin ehmin (measWv m l.lane) l).isNone && !(l.tx && decide (l.lane < 80) && (wvResult (measWv m l.lane)).isNone)
    then some l.lane else none)).dedup

/-! ## Records (Tables 12.11, 12.12) -/

/-- A signed number as a byte. -/
def byteOf (i : Int) : Nat := (i % 256).toNat

/-- A byte as a signed number. -/
def ofByte (n : Nat) : Int := if n < 128 then (n : Int) else (n : Int) - 256

/-- The 288 bytes of a channel record. -/
def ChanCal.bytes (c : ChanCal) : List Nat :=
  let rx (n : Nat) := Tab.get LaneCal.reset c.rx n
  let tx (n : Nat) := Tab.get LaneCal.reset c.tx n
  [byteOf c.temp, c.load] ++ leBytes 2 c.vdd ++
    (List.range 8).map (fun i => (Tab.find? c.spmap i).getD 0xFF) ++ [c.wv0, c.wv1, c.untrained.toNat, 0] ++
    (List.range 80).flatMap (fun n => [(rx n).dly, (tx n).dly, (rx n).vref]) ++
    (List.range 18).map (fun n => (tx (80 + n)).dly) ++ List.replicate 14 0

/-- A calibration read from a channel record. Its lanes carry no eye sizes; their present edges are R359's for an
import. -/
def calOfBytes (bs : List Nat) : ChanCal :=
  let b (i : Nat) := bs.getD i 0
  let lane (d v : Nat) : LaneCal :=
    { valid := false, dly := d, vref := v, ew := 0, eh := 0, left := d - 16, right := min 127 (d + 16), lo := v - 8,
      hi := min 127 (v + 8), spare := false }
  let tab (f : Nat → LaneCal) (n : Nat) : Tab LaneCal := (List.range n).map (fun i => (i, f i))
  { temp := ofByte (b 0), load := b 1, optag := 0, vdd := b 2 + 256 * b 3,
    rx := tab (fun n => lane (b (16 + 3 * n)) (b (18 + 3 * n))) 80,
    tx := tab (fun n => if n < 80 then lane (b (17 + 3 * n)) 0 else lane (b (256 + n - 80)) 0) 98,
    wv0 := b 12, wv1 := b 13,
    spmap := (List.range 8).filterMap (fun i => if b (4 + i) = 0xFF then none else some (i, b (4 + i))),
    untrained := bitAt (b 14) 0 }

/-- CRC-32C of bytes: polynomial 0x1EDC6F41, reflected. -/
def crc32c (bs : List Nat) : Nat :=
  let step (r : Nat) : Nat := if r % 2 = 1 then (r / 2) ^^^ 0x82F63B78 else r / 2
  let one (r b : Nat) : Nat := (List.range 8).foldl (fun r _ => step r) (r ^^^ b)
  (bs.foldl one 0xFFFFFFFF) ^^^ 0xFFFFFFFF

/-- Channels of a stack that are present. -/
def State.chansOf (s : State) (k : Nat) : List Nat := (List.range (s.geom k).channels).map (fun c => k * 32 + c)

/-- The section of a stack (Table 12.11). -/
def State.section_ (s : State) (k : Nat) : List Nat :=
  let u := s.sup k
  let on := u.trained
  let cs := if on then s.chansOf k else []
  let len := 32 + cs.length * 288 + 4
  let pend := cs.any (fun c => (s.chan c).pendingCorr)
  let head := leBytes 4 0x44574345 ++ [1, k, u.stype - 1, u.rate] ++ leBytes 8 u.disc.serial ++ leBytes 8 s.now ++
    leBytes 2 len ++ [cs.length, pend.toNat] ++ List.replicate 4 0
  let body := head ++ cs.flatMap (fun c => (s.chan c).cal.bytes)
  body ++ leBytes 4 (crc32c body)

/-! ## Record slots (R385, R386, Tables 12.9 and 12.10) -/

/-- n bytes of a slot's header from byte i on. -/
def recNum (x : RecSlot) (i n : Nat) : Nat := ofLe ((x.header.drop i).take n)

/-- A slot of a type is valid (R385). -/
def recValid (x : RecSlot) (type_ : Nat) : Bool :=
  recNum x 0 4 == 0x44574E52 && recNum x 4 1 == type_ && decide (recNum x 12 4 ≤ 262072) && x.payload.length == recNum x 12 4 &&
    x.crc == crc32c (x.header ++ x.payload) && x.commit == 0

/-- Slot A or B of a record type. -/
def devRec (d : FlashDev) (type_ i : Nat) : RecSlot :=
  match type_, i with
  | 1, 0 => d.trimA
  | 1, _ => d.trimB
  | 2, 0 => d.mapA
  | 2, _ => d.mapB
  | _, 0 => d.baseA
  | _, _ => d.baseB

/-- Write slot A or B of the repair map or the baseline; the trim is never stored (R387). -/
def devSetRec (d : FlashDev) (type_ i : Nat) (x : RecSlot) : FlashDev :=
  match type_, i with
  | 2, 0 => { d with mapA := x }
  | 2, _ => { d with mapB := x }
  | _, 0 => { d with baseA := x }
  | _, _ => { d with baseB := x }

/-- The valid slot of a type in use (R385): of two, the one of the higher SEQ by the signed 32-bit difference SEQ_B - SEQ_A, and A
on a tie. -/
def devNewest (d : FlashDev) (type_ : Nat) : Option Nat :=
  let a := devRec d type_ 0
  let b := devRec d type_ 1
  match recValid a type_, recValid b type_ with
  | true, true => if 0 < diff32 (recNum b 8 4) (recNum a 8 4) then some 1 else some 0
  | true, false => some 0
  | false, true => some 1
  | false, false => none

/-- A repair-map entry in 16 bytes (Table 11.13). -/
def entryBytes (e : MapEntry) : List Nat :=
  [e.kind, e.stack, e.channel, e.pc + 2 * e.sid3 + 8 * e.alt.toNat + 16 * (e.extra / 65536 % 16), e.bank, e.lane] ++
    leBytes 2 e.row ++ leBytes 4 e.time ++ [e.cause, e.spare] ++ leBytes 2 e.extra

def entryOf (bs : List Nat) : MapEntry :=
  let b (i : Nat) := bs.getD i 0
  { kind := b 0, stack := b 1, channel := b 2, pc := b 3 % 2, sid3 := b 3 / 2 % 4, alt := bitAt (b 3) 3, bank := b 4, lane := b 5,
    row := b 6 + 256 * b 7, time := ofLe ((bs.drop 8).take 4), cause := b 12, spare := b 13,
    extra := b 14 + 256 * b 15 + 65536 * (b 3 / 16) }

/-- The payload of a repair map (Table 11.12): identifiers and entry counts by row, then the entries. -/
def mapPayload (m : List MapEntry) (ser alt : List Nat) : List Nat :=
  let row (id n : Nat) : List Nat := leBytes 8 id ++ leBytes 2 n ++ List.replicate 6 0
  let rows (t : List Nat) (a : Bool) : List Nat := (List.range 16).flatMap (fun k =>
    row (t.getD k 0) (m.filter (fun e => e.stack == k && e.alt == a)).length)
  rows ser false ++ rows alt true ++ m.flatMap entryBytes

/-- A repair map read from its payload: entries, identifiers, alternate identifiers. -/
def mapOf (bs : List Nat) : List MapEntry × List Nat × List Nat :=
  let id (i : Nat) : Nat := ofLe ((bs.drop (16 * i)).take 8)
  let n := ((List.range 32).map (fun i => ofLe ((bs.drop (16 * i + 8)).take 2))).sum
  ((List.range n).map (fun i => entryOf ((bs.drop (512 + 16 * i)).take 16)), (List.range 16).map id,
    (List.range 16).map (fun k => id (16 + k)))

/-- The channel records and identifiers of a baseline's stack sections (R388, Table 12.11), from stack k on. -/
def sectionsOf : Nat → Nat → List Nat → List (Nat × List Nat) × List Nat
  | 0, _, _ => ([], [])
  | n + 1, k, bs =>
    let cs := bs.getD 26 0
    let recs := (List.range cs).map (fun c => (k * 32 + c, (bs.drop (32 + c * 288)).take 288))
    let (rest, ids) := sectionsOf n (k + 1) (bs.drop (32 + cs * 288 + 4))
    (recs ++ rest, ofLe ((bs.drop 8).take 8) :: ids)

/-- The records of a device as firmware reads them at a bring-up (R385, R387). -/
def devRead (d : FlashDev) : FlashRecs :=
  let slot (t : Nat) : Option RecSlot := (devNewest d t).map (devRec d t)
  let r := match slot 1 with
    | some x => { FlashRecs.none with trimValid := true, trim := x.payload }
    | none => FlashRecs.none
  let r := match slot 2 with
    | some x =>
      let (m, ser, alt) := mapOf x.payload
      { r with mapValid := true, mapSeq := recNum x 8 4, map := m, serials := ser, altSerials := alt }
    | none => r
  match slot 3 with
  | some x =>
    let (cs, ids) := sectionsOf 16 0 x.payload
    { r with baseValid := true, baseSeq := recNum x 8 4, base := cs, baseSerials := ids }
  | none => r

/-- The slot a store goes to (R386): the one that is not in use. -/
def devTarget (d : FlashDev) (type_ : Nat) : Nat := if devNewest d type_ = some 0 then 1 else 0

/-- SEQ of a store: one above the slot in use, 1 with none (R386). -/
def devNextSeq (d : FlashDev) (type_ : Nat) : Nat :=
  match devNewest d type_ with
  | some i => (recNum (devRec d type_ i) 8 4 + 1) % 2 ^ 32
  | none => 1

/-- A record slot as a store leaves it (R386, Table 12.10). The payloads are of VERSION 1 (DESIGN CHOICE: assumption 127). -/
def packed (type_ seq time : Nat) (payload : List Nat) : RecSlot :=
  let header := leBytes 4 0x44574E52 ++ [type_, 1, 0, 0] ++ leBytes 4 seq ++ leBytes 4 payload.length ++ leBytes 8 time ++
    List.replicate 40 0
  ⟨header, payload, crc32c (header ++ payload), 0⟩

/-! ## Quality (R383, Tables 12.6-12.8) -/

/-- Calibration of a channel at the operating point in force. -/
def Chan.active (c : Chan) (op : Nat) : ChanCal := if op = 1 then c.eco.getD c.cal else c.cal

/-- Rounded quotient. -/
def roundDiv (a b : Nat) : Nat := (a + b / 2) / b

/-- Eye height of a lane in mV; a transmit code is `wstep` tenths of a millivolt. -/
def LaneCal.mv (l : LaneCal) (tx : Bool) (wstep : Nat) : Nat := if tx then roundDiv (l.eh * wstep) 10 else l.eh * 4

/-- Lane quality word (Table 12.6). -/
def LaneCal.word (l : LaneCal) (tx : Bool) (wstep : Nat) (stale : Bool) : Nat :=
  if !l.valid && !l.spare then put stale.toNat 28 1
  else put l.ew 0 7 + put (roundDiv (l.ew * 1000) 64) 7 10 + put (l.mv tx wstep) 17 9 + put l.spare.toNat 26 1 +
    put l.valid.toNat 27 1 + put stale.toNat 28 1

/-- CQF of a channel (R383). -/
def ChanCal.cqf (c : ChanCal) (wstep : Nat) : Nat :=
  let lane (tx : Bool) (l : LaneCal) : Nat := min (100 * l.ew / 32) (100 * l.mv tx wstep / 96)
  let data := (c.rx.filter (fun (n, _) => decide (n < 72))).map (fun (_, l) => lane false l) ++
    (c.tx.filter (fun (n, _) => decide (n < 72))).map (fun (_, l) => lane true l)
  let cmd := (c.tx.filter (fun (n, _) => decide (80 ≤ n))).map (fun (_, l) => 100 * l.ew / 32)
  (data ++ cmd).foldl min 255

end Sys2Proof.Machine
end

