-- ==== Sys2Proof/Machine/Leaf.lean ====
section
/-! DEFINITION. Leaf scheduling: command timing (Table 3.3), the column and row pickers, the page policy, directions, the activate budget and data-slot cap, row counting, and read data on its way back (R79-R104, R121-R124, R317-R321). -/

namespace Sys2Proof.Machine

/-! ## Banks and their timing (R80) -/

/-- A bank may take a PRE: tRAS, tRTP and tWR have passed (R96). -/
def State.preOk (s : State) (k : Nat) (b : Bank) : Bool :=
  decide (b.tAct + s.cyc k 48 40 ≤ s.now12) && decide (b.tRd + s.cyc k 6 5 ≤ s.now12) &&
    decide (b.tWr + s.cyc k 24 20 ≤ s.now12) && decide (b.tRef ≤ s.now12)

/-- A closed bank may take an ACT as far as the bank itself goes: tRP, tRC and refresh. -/
def State.bankOk (s : State) (k : Nat) (b : Bank) : Bool :=
  decide (b.tPre + s.cyc k 24 20 ≤ s.now12) && decide (b.tAct + s.cyc k 72 60 ≤ s.now12) && decide (b.tRef ≤ s.now12)

/-- An ACT of a bank group may issue at a time beside the other ACTs of its pseudo-channel, past or on their way: tRRDS, tRRDL
and at most 4 in tFAW (Table 3.3). -/
def State.actFits (s : State) (k : Nat) (l : Leaf) (bank at_ : Nat) : Bool :=
  let near (t d : Nat) : Bool := decide (t < at_ + d) && decide (at_ < t + d)
  !l.acts.any (fun (t, g) => near t (if g = bank % 4 then s.cyc k 4 4 else s.cyc k 2 2)) &&
    decide ((l.acts.filter (fun (t, _) => near t (s.cyc k 10 12))).length < 4)

/-- Note ACTs of a pseudo-channel; those that no interval reaches back to are forgotten. -/
def State.noteActs (s : State) (k : Nat) (l : Leaf) (xs : List (Nat × Nat)) : Leaf :=
  { l with acts := xs ++ l.acts.filter (fun (t, _) => decide (s.now12 < t + s.cyc k 10 12)) }

/-! ## Budget and power -/

/-- Effective activate budget of a stack in the present window (R100-R102). -/
def State.actBudget (s : State) (k : Nat) : Nat :=
  let lim := (s.pow k).actLim
  let b := s.setting 0x2604 k
  (if lim = 0 then b else min b lim) - (s.arb k).debt

/-- A leaf's tenant entries are held by its maintenance holder (Table 4.5). -/
def Care.holds (c : Care) : Bool := match c.holder with
  | some m => m.act == .retrain || m.act == .repair || m.act == .scan
  | none => false

/-- Running activities of a leaf: the holder and the riders. -/
def Care.running (c : Care) : List MReq := c.holder.toList ++ c.riders

def Care.runs (c : Care) (a : Act) : Bool := c.running.any (fun m => m.act == a)

/-- The words of a zero-filled run of 8 bursts: data 0 with valid check bits (R334). -/
def zeroRun : List SWord := List.replicate 32 ⟨0, 0xFF, false⟩

/-- Every burst of a leaf in ZERO has been written. -/
def State.zeroDone (s : State) (leaf : Nat) : Bool := decide ((s.geom (stackOf leaf)).capacity ≤ (s.care leaf).zeroAt)

/-- A leaf whose ZERO activity runs queues its next 8 bursts as a full-burst Lake write, in ascending LA order (R334, R105). One such
entry waits at a time; no request causes it, so it carries tint 0 and a deadline a second away (DESIGN CHOICE: assumption 121). -/
def State.feedZero (s : State) (leaf : Nat) : State :=
  let c := s.care leaf
  if !c.zeroing || !c.runs .zero || s.zeroDone leaf || s.freeEntries leaf = 0 ||
      (s.leaf leaf).queue.any (fun e => e.src == .zero) then s
  else s.pushEntry leaf (s.mkEntry leaf c.zeroAt 8 true true .zero zeroRun 0xFFFE 0 0 s.now 1000000000 255)

/-- A leaf may issue commands: its channel is trained and awake, its PLL locked, and no frequency switch is on. -/
def State.leafUp (s : State) (leaf : Nat) : Bool :=
  let k := stackOf leaf
  let c := s.sck k
  (s.sup k).trained && !(s.chan (channelOf leaf)).cal.untrained && c.pll == .locked && !c.switching &&
    !s.channelAsleep (channelOf leaf)

/-- Entries of a leaf may issue: neither its maintenance nor an apply of its channel's calibration holds them. Refresh goes on
meanwhile (R136). -/
def State.leafRuns (s : State) (leaf : Nat) : Bool :=
  s.leafUp leaf && !(s.care leaf).holds && !(s.chan (channelOf leaf)).apply

/-! ## Row counting (R121-R124) -/

/-- Halve a leaf's counters n times; 14 or more make them 0. An entry that reaches 0 is invalid, unless it is the row of an ACT
counted in this QCLK (R122, R123, R145). -/
def RowProt.age (p : RowProt) (n : Nat) (keep : Option (Nat × Nat)) : RowProt :=
  let d := 2 ^ min n 14
  { p with counts := Tab.keep (Tab.mapVals p.counts (fun _ e => { e with cnt := e.cnt / d }))
             (fun _ e => e.cnt != 0 || keep == some (e.bank, e.row)),
           floor := p.floor / d }

/-- Age every leaf of a stack n times; `keep` is a leaf with the bank and row of an ACT counted now. -/
def State.ageStack (s : State) (k n : Nat) (keep : Option (Nat × Nat × Nat)) : State :=
  let kept (i : Nat) : Option (Nat × Nat) := match keep with
    | some (l, x) => if i = l then some x else none
    | none => none
  { s with prots := (Tab.mapVals s.prots (fun i p => if i / 64 = k then p.age n (kept i) else p)).filter (fun (_, p) =>
      p != RowProt.reset) }

/-- Multiples of RP_AGE that the timebase has passed since the stack last aged (R122). -/
def State.agesDue (s : State) (k : Nat) : Nat :=
  let age := s.setting 0x4006 k * 1000000
  s.now / age - (s.sck k).lastAge / age

/-- The ageing that is due takes place; a stack whose domains are off counts it (R122, R145). -/
def State.ageDue (s : State) (k : Nat) (keep : Option (Nat × Nat × Nat)) : State :=
  let c := s.sck k
  let age := s.setting 0x4006 k * 1000000
  let n := s.agesDue k
  if n = 0 then s
  else
    let s := s.setSck k { c with lastAge := s.now / age * age, missed := if c.doms = 0 then c.missed + n else c.missed }
    if c.doms = 0 then s else s.ageStack k n keep

/-- The entry of a row's ACT in a leaf's table, its count after it and FLOOR (R124). -/
def RowProt.entryOf (p : RowProt) (bank row : Nat) : Nat × Nat × Nat :=
  match Tab.first p.counts (fun _ e => e.bank == bank && e.row == row) with
  | some (i, e) => (i, min 16383 (e.cnt + 1), p.floor)
  | none =>
    match (List.range 256).find? (fun i => (Tab.find? p.counts i).isNone) with
    | some i => (i, min 16383 (p.floor + 1), p.floor)
    | none =>
      let low := p.counts.foldl (fun (acc : Nat × Nat) (i, e) => if e.cnt < acc.2 then (i, e.cnt) else acc) (0, 16384)
      let f := max p.floor low.2
      (low.1, min 16383 (f + 1), f)

/-- A leaf's table after an ACT of a row: a count at the threshold asks for a mitigation, a floor at the spill level for a sweep of
the banks. -/
def RowProt.counted (p : RowProt) (bank row thresh spill banks now : Nat) : RowProt :=
  let x := p.entryOf bank row
  let cnt := x.2.1
  let p := { p with counts := Tab.put p.counts x.1 ⟨bank, row, cnt⟩, floor := x.2.2 }
  let p := if decide (thresh ≤ cnt) && !p.mits.contains (bank, row) then { p with mits := p.mits ++ [(bank, row)] } else p
  if spill ≤ p.floor && p.sweep.isEmpty then { p with sweep := List.range banks, sweepAt := now } else p

/-- Count one ACT at the row protection table (R124), after the ageing of its QCLK (R123). -/
def State.rowCount (s : State) (leaf bank row : Nat) : State :=
  let k := stackOf leaf
  let s := s.ageDue k (some (leaf, bank, row))
  s.setProt leaf ((s.prot leaf).counted bank row (s.setting 0x4005 k) (s.setting 0x4007 k) (s.banksOf leaf) s.now12)

/-- An ACT for an entry issues (R80, R121): the bank opens, and the pseudo-channel's ACTs and the row counters note it. The 256
ns of R90 count from here for a row that no column command reaches (DESIGN CHOICE, unsafe: assumption 122). -/
def State.actRow (s : State) (leaf bank row : Nat) : State :=
  let l := s.leaf leaf
  let b := { l.bank bank with openRow := some row, tAct := s.now12, tCol := s.now12 }
  (s.setLeaf leaf (s.noteActs (stackOf leaf) (l.setBank bank b) [(s.now12, bank % 4)])).rowCount leaf bank row

/-- A PRE issues. -/
def State.preRow (s : State) (leaf bank : Nat) : State :=
  let l := s.leaf leaf
  s.setLeaf leaf (l.setBank bank { l.bank bank with openRow := none, tPre := s.now12 })

/-- Charge an ACT for an entry's own row: debt of MISS bytes, its counter and the activate budget (R193, R100). -/
def State.chargeAct (s : State) (leaf : Nat) (e : Entry) : State :=
  let k := stackOf leaf
  let s := s.setArb k { s.arb k with acts := (s.arb k).acts + 1 }
  let s := s.spend leaf 0 1 e.ten
  if e.ten ≥ 512 then s
  else
    let q : Option Nat := match s.quireAt leaf with
      | some (b, r) => if r.shared then some b else none
      | none => none
    let d : Debt := ⟨e.ten, portHalf e.port, e.tint, q, (s.bank.policer e.ten).miss * 4, s.clk.ticks⟩
    { s.cntT e.ten 23 1 with debts := s.debts ++ [d] }

/-! ## Column picker -/

/-- A column command may follow the ones of the other direction at a time: tRTW, or tWTRS and tWTRL behind the write data of
each bank group (Table 3.3). -/
def State.turnOk (s : State) (k : Nat) (l : Leaf) (wr : Bool) (group at_ : Nat) : Bool :=
  if wr then decide (l.lastRd + s.cyc k 6 6 ≤ at_)
  else l.lastWr.all (fun (g, t) => decide (t + (if g = group then s.cyc k 8 8 else s.cyc k 4 4) ≤ at_))

/-- Of n column commands in a row from now on, those that issue in the present 64-QCLK window (R103). A window past its end has
no successor until BUDGET_WINDOW begins it. -/
def State.thisWindow (s : State) (k n : Nat) : Nat :=
  let q := s.qPeriod k
  let stop := (s.arb k).winAt + 64 * q
  if stop ≤ s.now12 then n else min n ((stop - s.now12 + q - 1) / q)

/-- An entry may start its run now (R92). -/
def State.columnOk (s : State) (leaf : Nat) (l : Leaf) (e : Entry) : Bool :=
  let k := stackOf leaf
  let b := l.bank e.bank
  b.openRow == some e.row && e.wr == l.writing && !(e.wr && e.words.isEmpty) && l.inOrder e &&
    (match b.claim with
      | none => true
      | some id => id == e.id) &&
    !s.held leaf e.bank && decide (b.tAct + s.cyc k 24 20 ≤ s.now12) && decide (l.busFree ≤ s.now12) &&
    s.turnOk k l e.wr (e.bank % 4) s.now12 && decide (l.slots + s.thisWindow k e.nb ≤ (8 - (s.arb k).cap) * 8)

/-- Order of R92. -/
def columnBefore (a b : Entry) : Bool :=
  let ua := decide (2 ≤ a.urg)
  let ub := decide (2 ≤ b.urg)
  if ua != ub then ua else if ua then entryBefore a b else decide (a.id < b.id)

def firstEntry (before : Entry → Entry → Bool) : List Entry → Option Entry
  | [] => none
  | e :: t => some (t.foldl (fun a b => if before b a then b else a) e)

/-- Number of 1 bits in HIST. -/
def popcount4 (h : Nat) : Nat := h % 2 + h / 2 % 2 + h / 4 % 2 + h / 8 % 2

/-- The first column command of a part's entry serves it; the last one of the part serves the part (R166). A part of Lake's own
reads stays until its data is in. -/
def State.serveEntry (s : State) (leaf : Nat) (e : Entry) : State :=
  match e.src with
  | .part req stack =>
    let key := partKey req stack
    match s.part? key, s.req? req with
    | some p, some r =>
      let s := s.samplePoint 1 (channelOf leaf) r
      if p.toServe ≤ 1 then
        let s := (s.cntT r.ten 48 1).cntT r.ten 46 (s.now - r.arrival)
        let s := if r.phase == .discarded then s.dropReq req else s.setReq req { r with servedAt := s.now }
        if r.phase == .live && (r.op = 32 || r.op = 33) then s.setPart key { p with toServe := 0 } else s.dropPart key
      else s.setPart key { p with toServe := p.toServe - 1 }
    | some _, none => s.dropPart key
    | _, _ => s
  | _ => s

/-- Store the words of a write run; a word with no byte written is left as it is (R322). `flips` are the code-word bits
that a fault injection inverts in the stored copy (R485). -/
def State.storeRun (s : State) (leaf la : Nat) (ws : List SWord) (flips : List (Word64 × Byte)) : State :=
  (ws.zipIdx).foldl (fun s (w, i) =>
    let f := (flips[i]?).getD (0, 0)
    if w.mask = 0 then s
    else s.storeWord leaf (la + 8 * i) (w.data ^^^ f.1) (checkByte w.data w.stain ^^^ f.2)) s

/-- Words a read run takes from the stack. -/
def State.takeRun (s : State) (leaf la nb : Nat) : List (Word64 × Byte) :=
  (List.range (4 * nb)).map (fun i => s.storedWord leaf (la + 8 * i))

/-- Count n data slots of a leaf in category cat of its channel, in slot mode (R524, R525). -/
def State.slotCount (s : State) (leaf cat n : Nat) : State :=
  if s.windowMode (stackOf leaf) then s else s.cntC (channelOf leaf) cat n

/-- n column slots of a leaf taken by maintenance from now on (R524). -/
def State.maintSlots (s : State) (leaf n : Nat) : State :=
  let l := s.leaf leaf
  let t := max l.busFree s.now12 + n * s.qPeriod (stackOf leaf)
  (s.setLeaf leaf { l with busFree := t }).slotCount leaf 4 n

/-- One run (R91): the entry leaves the queue, its data moves, and the page policy takes its row (R90). Each burst is charged to
the window in which it issues (R103), Calender's share waits for as many slots (R337), a zero-fill queues its next run, and Lake
may queue a read for which no entry was free. -/
def State.run (s : State) (leaf : Nat) (e : Entry) : State :=
  let k := stackOf leaf
  let q := s.qPeriod k
  let t := s.now12
  let l := s.leaf leaf
  let b := l.bank e.bank
  let miss := if b.lastRow = some e.row then 0 else 1
  let hist := (b.hist * 2 + miss) % 16
  let rest := l.queue.filter (fun x => x.id != e.id)
  let hit := rest.any (fun x => x.bank == e.bank && x.row == e.row)
  let close := !hit && decide (3 ≤ popcount4 hist)
  let lastCmd := t + (e.nb - 1) * q
  let wEnd := t + s.cyc k 16 12 + e.nb * q
  let b := { b with hist := hist, lastRow := some e.row, tCol := lastCmd, tRd := if e.wr then b.tRd else lastCmd,
                    tWr := if e.wr then wEnd else b.tWr, claim := if b.claim = some e.id then none else b.claim }
  let b := if close then
      { b with openRow := none,
               tPre := max (b.tAct + s.cyc k 48 40) (if e.wr then wEnd + s.cyc k 24 20 else lastCmd + s.cyc k 6 5) }
    else b
  let raw := s.takeRun leaf e.la e.nb
  let here := s.thisWindow k e.nb
  let l := { l.setBank e.bank b with queue := rest, busFree := t + e.nb * q, slots := l.slots + here,
                                     slotsNext := l.slotsNext + (e.nb - here), turned := false }
  let l := if e.wr then { l with wbuf := l.wbuf - e.nb, written := l.written + e.nb,
                                 lastWr := Tab.put l.lastWr (e.bank % 4) wEnd }
    else { l with lastRd := lastCmd, inflight := l.inflight ++ [{ e with raw := raw, at_ := s.now }] }
  let s := s.setLeaf leaf l
  let s := (s.slotCount leaf 0 e.nb).spend leaf (if e.wr then 2 else 1) e.nb e.ten
  let s := if e.wr then s.storeRun leaf e.la e.words e.raw else s
  let c := s.care leaf
  let c := if s.now12 < c.calFree && !c.esc then { c with calFree := c.calFree + e.nb * q } else c
  let s := s.setCare leaf (if e.src = .zero then { c with zeroAt := e.la + 32 * e.nb } else c)
  (((s.serveEntry leaf e).claims leaf).feedZero leaf).askAccu

/-! ## Row picker -/

/-- A bank's next row command may issue: its PRE where it is open, else what follows its tRP. -/
def State.rowReady (s : State) (k : Nat) (b : Bank) : Bool := if b.openRow.isSome then s.preOk k b else s.bankOk k b

/-- A bank without queued entries and claims (R114); a run in it keeps its next row command back. -/
def State.bankIdle (s : State) (leaf i : Nat) : Bool :=
  let l := s.leaf leaf
  !l.queue.any (fun e => e.bank == i) && (l.bank i).claim.isNone && !s.held leaf i

/-- Steps of R116 whose command is ready on a leaf's row bus: 1 a forced refresh, 2 a mitigation, 3 a spill sweep, 4 a due
refresh. -/
def State.refreshSteps (s : State) (leaf : Nat) : List Nat :=
  let k := stackOf leaf
  let l := s.leaf leaf
  let p := s.prot leaf
  let pmax : Int := s.setting 0x4003 k
  let ready (i : Nat) : Bool := s.rowReady k (l.bank i)
  let some_ (n : Nat) (b : Bool) : List Nat := if b then [n] else []
  if !s.leafUp leaf || (s.chan (channelOf leaf)).gap then []
  else
    some_ 1 (l.banks.any (fun (i, b) => decide (pmax ≤ b.owed) && ready i)) ++
      some_ 2 (match p.mits with
        | (i, _) :: _ => ready i
        | [] => false) ++
      some_ 3 (p.sweep.any (fun i => ((l.bank i).sweep || s.bankIdle leaf i) && ready i)) ++
      some_ 4 (l.banks.any (fun (i, b) => decide (1 ≤ b.owed) && s.bankIdle leaf i && ready i))

/-! ## Maintenance accesses (R105) -/

/-- When a maintenance access that starts now opens its row: after the tRP of the PRE that closes the bank, where one is
open. -/
def State.touchAt (s : State) (leaf flat : Nat) : Nat :=
  if ((s.leaf leaf).bank flat).openRow.isSome then s.now12 + s.cyc (stackOf leaf) 24 20 else s.now12

/-- A maintenance access of a row of a bank can start now: no claim, no queued hit on the bank's open row (R94), and all of
Table 3.3 kept from its PRE to its first read. -/
def State.rowFree (s : State) (leaf flat : Nat) : Bool :=
  let k := stackOf leaf
  let l := s.leaf leaf
  let b := l.bank flat
  let act := s.touchAt leaf flat
  let col := act + s.cyc k 24 20
  b.claim.isNone && !s.held leaf flat && s.rowReady k b && decide (b.tAct + s.cyc k 72 60 ≤ act) && s.actFits k l flat act &&
    decide (l.busFree ≤ col) && s.turnOk k l false (flat % 4) col &&
    (match b.openRow with
      | some r => !l.queue.any (fun e => e.bank == flat && e.row == r)
      | none => true)

/-- A maintenance access of a whole row (R80, R105): PRE where the bank is open, ACT, 32 reads, with `wr` 32 writes behind them,
and PRE. Its ACT is counted at the row protection table (R121), and its column slots are maintenance's. -/
def State.touchRow (s : State) (leaf flat row : Nat) (wr : Bool) : State :=
  let k := stackOf leaf
  let q := s.qPeriod k
  let act := s.touchAt leaf flat
  let rd := act + s.cyc k 24 20 + 31 * q
  let last := if wr then rd + s.cyc k 6 6 + 31 * q else rd
  let wEnd := last + s.cyc k 16 12 + q
  let l := s.leaf leaf
  let b := l.bank flat
  let b := { b with openRow := none, tAct := act, tRd := rd, tWr := if wr then wEnd else b.tWr,
                    tPre := max (act + s.cyc k 48 40) (if wr then wEnd + s.cyc k 24 20 else rd + s.cyc k 6 5) }
  let l := { l.setBank flat b with busFree := last + q, lastRd := rd,
                                   lastWr := if wr then Tab.put l.lastWr (flat % 4) wEnd else l.lastWr }
  ((s.setLeaf leaf (s.noteActs k l [(act, flat % 4)])).rowCount leaf flat row).slotCount leaf 4 (if wr then 64 else 32)

/-- Addresses of the bursts of a row. -/
def rowBursts (la : Nat) : List Nat := (List.range 32).map (fun i => la + 32 * i)

/-- The queue has room for the flushes that an access of a row causes (R331). -/
def State.rowRoom (s : State) (leaf la : Nat) : Bool :=
  decide (2 * ((s.care leaf).merge.filter (fun m => !m.closed && (rowBursts la).contains m.la)).length ≤ s.freeEntries leaf)

/-- Calender may visit the bank at its position as far as the leaf and its own rate go (R336-R339); a debug stop pauses it (Table
17.22). -/
def State.visitReady (s : State) (leaf : Nat) : Bool :=
  let c := s.care leaf
  s.setting 0x400C (stackOf leaf) == 1 && !s.stopping && c.runs .scrub && s.leafUp leaf && !(s.chan (channelOf leaf)).gap &&
    !(s.leaf leaf).parked && decide (c.calFree ≤ s.now12) && s.rowFree leaf c.calBank

/-- A visit of an escalated leaf is ready: a row command of class 1 behind refresh and row protection, and a column slot ahead of
every tenant entry (R338). -/
def State.escReady (s : State) (leaf : Nat) : Bool := (s.care leaf).esc && s.visitReady leaf

/-- COLUMN_RUN (R91, R92). -/
def execColumnRun (l : Fin 1024) (s : State) : Host.Outcome State Fault Refusal :=
  let x := s.leaf l.val
  if !s.leafRuns l.val || s.escReady l.val then .next s
  else match firstEntry columnBefore (x.queue.filter (s.columnOk l.val x)) with
    | none => .next s
    | some e => .next (s.run l.val e)

/-- A command of class 1 is ready on a channel's row bus (R93): a step of R116 before its ahead refreshes, or an escalated
visit. -/
def State.classOne (s : State) (c : Nat) : Bool :=
  [2 * c, 2 * c + 1].any (fun leaf => !(s.refreshSteps leaf).isEmpty || s.escReady leaf)

/-- A candidate of the row picker: leaf, entry, class of R93. -/
abbrev RowCand := Nat × Entry × Nat

/-- Row candidates of a leaf (R93-R95). -/
def State.rowCands (s : State) (leaf : Nat) : List RowCand :=
  let k := stackOf leaf
  let l := s.leaf leaf
  l.queue.zipIdx.filterMap (fun (e, n) =>
    let b := l.bank e.bank
    let open_ := b.openRow.isSome
    let mine := match b.claim with
      | none => true
      | some id => id == e.id
    let timing := if open_ then s.preOk k b else s.bankOk k b && s.actFits k l e.bank s.now12
    let budget := open_ || decide ((s.arb k).acts < s.actBudget k)
    let cls := if 2 ≤ e.urg then 2 else if n = 0 then 3 else 4
    let hits := match b.openRow with
      | some r => l.queue.any (fun x => x.bank == e.bank && x.row == r)
      | none => false
    if b.openRow = some e.row || !mine || s.held leaf e.bank || !timing || !budget || !l.inOrder e || (open_ && hits && cls == 4) then none
    else some (leaf, e, cls))

/-- Order of R93 among a channel's candidates; `last` is the pseudo-channel that won the previous slot. -/
def rowBefore (last : Option Nat) (a b : RowCand) : Bool :=
  let turn (c : RowCand) : Nat := if last.getD 1 = c.1 % 2 then 1 else 0
  if a.2.2 != b.2.2 then decide (a.2.2 < b.2.2)
  else
    let d := if a.2.2 = 2 then diff32 a.2.1.deadline b.2.1.deadline else 0
    if d != 0 then decide (d < 0)
    else if turn a != turn b then decide (turn a < turn b)
    else decide (a.2.1.id < b.2.1.id)

/-- Row candidates of classes 2 to 4 of a channel: those of leaves whose entries may issue. -/
def State.chanCands (s : State) (c : Nat) : List RowCand :=
  [2 * c, 2 * c + 1].flatMap (fun leaf => if s.leafRuns leaf then s.rowCands leaf else [])

/-- ROW_COMMAND (R93): one ACT or PRE for the entries of a channel. -/
def execRowCommand (c : Fin 512) (s : State) : Host.Outcome State Fault Refusal :=
  let s := (s.claims (2 * c.val)).claims (2 * c.val + 1)
  if s.classOne c.val then .next s
  else
    let before := rowBefore (s.chan c.val).rowLast
    match s.chanCands c.val with
    | [] => .next s
    | x :: rest =>
      let (leaf, e, _) := rest.foldl (fun u v => if before v u then v else u) x
      let s := s.setChan c.val { s.chan c.val with rowLast := some (leaf % 2) }
      let l := s.leaf leaf
      if (l.bank e.bank).openRow.isSome then .next (s.preRow leaf e.bank)
      else
        let b := l.bank e.bank
        let b := if b.claim = some e.id then { b with claim := none } else b
        let s := s.setLeaf leaf (l.setBank e.bank b)
        .next (((s.actRow leaf e.bank e.row).chargeAct leaf e).claims leaf)

/-- A bank's row that the idle close takes (R90, R94): no column command for 256 ns, no queued hit, no claim. -/
def State.idleBank (s : State) (leaf : Nat) (i : Nat) (b : Bank) : Bool :=
  let k := stackOf leaf
  decide (b.tCol + s.upQ k (256 * 12) ≤ s.now12) && s.preOk k b && b.claim.isNone && !s.held leaf i &&
    (match b.openRow with
      | some r => !(s.leaf leaf).queue.any (fun e => e.bank == i && e.row == r)
      | none => false)

/-- The bank of a leaf that the idle close takes next. -/
def State.idleRow (s : State) (leaf : Nat) : Option (Nat × Bank) :=
  if s.leafRuns leaf then Tab.first (s.leaf leaf).banks (s.idleBank leaf) else none

/-- IDLE_CLOSE (R90, R93): an idle row of a leaf is closed, at the row picker's lowest class; where its channel's other leaf has
one too and did not win the last row slot, that one goes first. -/
def execIdleClose (l : Fin 1024) (s : State) : Host.Outcome State Fault Refusal :=
  let c := channelOf l.val
  let other := if l.val % 2 = 0 then l.val + 1 else l.val - 1
  let wait := (s.idleRow other).isSome && (s.chan c).rowLast.getD 1 == l.val % 2
  if s.classOne c || !(s.chanCands c).isEmpty || wait then .next s
  else match s.idleRow l.val with
    | none => .next s
    | some (i, _) => .next ((s.preRow l.val i).setChan c { s.chan c with rowLast := some (l.val % 2) })

/-! ## Directions (R97-R99) -/

/-- Whether the direction of a leaf turns now. -/
def State.turns (s : State) (leaf : Nat) : Bool :=
  let k := stackOf leaf
  let l := s.leaf leaf
  let ws := l.queue.filter (fun e => e.wr)
  let rs := l.queue.filter (fun e => !e.wr)
  if l.queue.isEmpty then false
  else if l.writing then
    (decide (l.wbuf ≤ 8 * s.setting 0x2602 k) && decide (s.setting 0x2603 k ≤ l.written)) ||
      (rs.any (fun e => decide (2 ≤ e.urg)) && decide (s.setting 0x2603 k ≤ l.written)) || ws.isEmpty
  else
    decide (8 * s.setting 0x2601 k ≤ l.wbuf) || ws.any (fun e => decide (2 ≤ e.urg)) ||
      (match l.queue with | e :: _ => e.wr | [] => false) || (!ws.isEmpty && rs.isEmpty)

/-- DIRECTION_TURN: at the end of a run, never twice without a run between. -/
def execDirectionTurn (l : Fin 1024) (s : State) : Host.Outcome State Fault Refusal :=
  let x := s.leaf l.val
  if s.turns l.val && decide (x.busFree ≤ s.now12) && !x.turned then
    .next (s.setLeaf l.val { x with writing := !x.writing, written := 0, turned := true })
  else .next s

/-! ## Stack windows -/

/-- BUDGET_WINDOW (R100-R104): the 64-QCLK window of a stack is over, and the next starts with its debt, its cap level and the
slots that runs across its start have used. A debt that the next window's whole budget does not cover is not carried further
(DESIGN CHOICE, unsafe: assumption 123). -/
def execBudgetWindow (k : Fin 16) (s : State) : Host.Outcome State Fault Refusal :=
  let a := s.arb k.val
  let len := 64 * s.qPeriod k.val
  let n := (s.now12 - a.winAt) / len
  if n = 0 then .next s
  else
    let excess := if n = 1 then a.acts - s.actBudget k.val else 0
    let cap := max (s.heatOf k.val).lt (s.pow k.val).lp
    let s := s.setArb k.val { a with acts := 0, debt := excess, cap := cap, winAt := a.winAt + n * len }
    .next { s with leaves := Tab.mapVals s.leaves (fun i l =>
      if i / 64 = k.val then { l with slots := if n = 1 then l.slotsNext else 0, slotsNext := 0 } else l) }

/-! ## Read data -/

/-- Quire-relative address of a leaf-local address of a quire. -/
def State.relAddr (s : State) (base k leaf la : Nat) : Nat :=
  let L := (s.geom (stackOf base)).leaves
  let i := ((List.range (2 ^ k)).find? (fun i => member base k i L == leaf)).getD 0
  quireRel la i k

/-- Form every beat of a read that its arrived words allow (R87, R18). -/
def State.formBeats : Nat → State → Nat → State
  | 0, s, _ => s
  | n + 1, s, id =>
    match s.req? id with
    | none => s
    | some r =>
      let total := r.need / 32
      let j0 := 8 * r.formed
      let count := min 8 (total - j0)
      if r.phase != .live || count = 0 then s
      else
        let v := r.view
        let outs := (List.range count).map (fun i => v.burst r.word (j0 + i))
        if outs.any (fun o => o.isNone) then s
        else
          let os := outs.filterMap (fun o => o)
          let stained := r.stained || os.any (fun (_, st, _) => st)
          let last := decide (total ≤ j0 + count)
          let bits := os.foldr (fun (b, _, _) a => b + a * 2 ^ 256) 0
          let marks := (os.zipIdx.map (fun ((_, st, _), i) => if st then 2 ^ i else 0)).sum
          let beat : RespBeat :=
            { req := id, tag := r.tag, resp := stained.toNat, last := last, ntf := false, nkind := 0, sid := r.sid,
              ten := r.ten, hasData := true, data := BitVec.ofNat 2048 bits, dvld := BitVec.ofNat 8 (dvldOf count),
              dstain := BitVec.ofNat 8 marks, free := false }
          let s := s.cntT r.ten 36 ((os.map (fun (_, _, o) => o)).sum)
          let s := if portHalf r.port = halfOf r.stack then s
            else s.cntG (if halfOf r.stack = 0 then 18 else 20) (32 * count)
          let s := s.setReq id { r with formed := r.formed + 1, stained := stained, status := stained.toNat,
                                        phase := if last then .done else .live, got := if last then [] else r.got }
          let s := s.pushLane r.port beat
          if last then (s.patternEvents r).countAnswer r stained.toNat
          else State.formBeats n s id

/-- Old words of an accumulate or a tile, or words of a request, from a decoded read. -/
def decodedWords (raw : List (Word64 × Byte)) : List RWord :=
  raw.map (fun (d, c) => let w := decodeWord d c; ⟨w.data, w.stain⟩)

/-- Put words into a page table from word number n on. -/
def putWords (t : Tab RWord) (n : Nat) (ws : List RWord) : Tab RWord :=
  (ws.zipIdx).foldl (fun t (w, i) => Tab.put t (n + i) w) t

/-- Read words reach the request that asked for them. -/
def State.toRequest (s : State) (leaf : Nat) (e : Entry) (req : Nat) (ws : List RWord) : State :=
  match s.req? req with
  | none => s.freePlaces (stackOf leaf) e.port e.nb
  | some r =>
    if r.phase != .live then
      let s := s.freePlaces (stackOf leaf) e.port e.nb
      if (r.op = 32 || r.op = 33) && r.phase == .discarded && (s.part? (partKey req r.stack)).isNone then s.dropReq req else s
    else
      let a := s.relAddr r.qbase r.qk leaf e.la
      let r := { r with got := putWords r.got (a % 4096 / 8) ws }
      let s := s.setReq req r
      if r.op = 0 then State.formBeats 256 s req
      else if r.op = 33 then s.gatherWords req r
      else s

/-- READ_DATA_ARRIVAL (R317-R321): the oldest read under way returns, each stored word with the bit flips the stack
adds, and is decoded, tracked and passed on. -/
def execReadDataArrival (l : Fin 1024) (flips : List (BitVec 72)) (s : State) : Host.Outcome State Fault Refusal :=
  let x := s.leaf l.val
  match x.inflight with
  | [] => .next s
  | e :: rest =>
    let s := s.setLeaf l.val { x with inflight := rest }
    let raw := e.raw.zipIdx.map (fun ((d, c), i) =>
      let f := (flips[i]?).getD 0
      (d ^^^ BitVec.ofNat 64 f.toNat, c ^^^ BitVec.ofNat 8 (f.toNat / 2 ^ 64)))
    let ce := 0x1100
    let ws := decodedWords raw
    match e.src with
    | .zero => .next s
    | .merge =>
      .next ((s.readWords l.val e.la raw 0 ce e.ten e.sid e.at_ true false).mergeRead l.val e.la raw)
    | .part req _ =>
      .next ((s.readWords l.val e.la raw 1 ce e.ten e.sid e.at_ true true).toRequest l.val e req ws)
    | .accu job =>
      let s := s.readWords l.val e.la raw 1 ce e.ten e.sid e.at_ true true
      match Tab.find? s.lake.accus job with
      | none => .next s
      | some j => .next { s with lake := { s.lake with accus := Tab.put s.lake.accus job { j with old := some ws } } }
    | .tile id =>
      let s := s.readWords l.val e.la raw 1 ce e.ten e.sid e.at_ true true
      match Tab.find? s.lake.tiles id with
      | none => .next s
      | some t =>
        let a := s.relAddr t.qbase t.qk l.val e.la
        let t := { t with got := putWords t.got (a % 4096 / 8) ws }
        let bs := readBursts t.region t.addr t.bytes
        let whole := !t.oldReady && bs.all (fun b => (List.range 4).all (fun i => (Tab.find? t.got (4 * b + i)).isSome))
        let t := if whole then t.start else t
        .next { s with lake := { s.lake with tiles := Tab.put s.lake.tiles id t } }

end Sys2Proof.Machine
end

