-- ==== Sys2Proof/Machine/Maintain.lean ====
section
/-! DEFINITION. Maintenance tokens (R128-R133): requests checked by Table 4.6, riders, pauses, queues, and the end of an activity. -/

namespace Sys2Proof.Machine

/-- Codes of Table 4.5. -/
def Act.code (a : Act) : Nat :=
  match a with
  | .scrub => 1
  | .retrain => 2
  | .heal => 3
  | .repair => 4
  | .zero => 5
  | .capture => 6
  | .scan => 7

def actOf (n : Nat) : Option Act :=
  [Act.scrub, .retrain, .heal, .repair, .zero, .capture, .scan][n - 1]? |>.filter (fun _ => decide (1 ≤ n))

/-- Outcomes of Table 4.7, with taking the free token, from the least strict to the strictest. -/
inductive Fit
  | take
  | ride
  | join
  | absorb
  | pause
  | queue
deriving DecidableEq, Repr

def Fit.rank (f : Fit) : Nat :=
  match f with
  | .take => 0
  | .ride => 1
  | .join => 2
  | .absorb => 3
  | .pause => 4
  | .queue => 5

/-- Table 4.6: a requested activity against one running. -/
def compat (running requested : Act) : Fit :=
  if running == requested then .join
  else match running, requested with
    | .scrub, .heal | .scrub, .capture => .ride
    | .scrub, _ => .pause
    | .heal, .scrub | .heal, .capture => .ride
    | .zero, .retrain | .zero, .scan => .pause
    | .zero, .heal => .absorb
    | .zero, .capture => .ride
    | .capture, .scrub | .capture, .heal | .capture, .zero => .ride
    | .capture, .scan => .pause
    | _, _ => .queue

/-- The strictest of two outcomes. -/
def Fit.max (a b : Fit) : Fit := if a.rank < b.rank then b else a

/-- The check of R128 on one leaf. -/
def Care.fit (c : Care) (a : Act) : Fit :=
  if c.holder.isNone then .take else c.running.foldl (fun f m => f.max (compat m.act a)) .take

/-- Stacks with a RETRAIN holder or in power-up training (R133, R364). -/
def State.trainStacks (s : State) : List Nat :=
  (List.range 16).filter (fun k => (s.sup k).training ||
    Tab.some s.cares (fun l c => l / 64 == k && (match c.holder with | some m => m.act == .retrain | none => false)))

/-- Leaves of a stack whose token is held for RETRAIN, REPAIR or SCAN (R133). -/
def State.heldLeaves (s : State) (k : Nat) : Nat :=
  (s.cares.filter (fun (l, c) => l / 64 == k && c.holds)).length

/-- A request goes beyond a limit of R133. -/
def State.overLimit (s : State) (leaf : Nat) (m : MReq) : Bool :=
  let k := stackOf leaf
  let n := (m.leaves leaf).length
  (m.act == .retrain && !s.trainStacks.contains k && decide (4 ≤ s.trainStacks.length)) ||
    ((m.act == .retrain || m.act == .repair || m.act == .scan) &&
      decide (s.setting 0x4009 k < s.heldLeaves k + n))

/-- The outcome of a request over its leaves and the limits (R128, R132, R133). -/
def State.fitOf (s : State) (leaf : Nat) (m : MReq) : Fit :=
  let f := (m.leaves leaf).foldl (fun f l => f.max ((s.care l).fit m.act)) .take
  if (f == .take || f == .pause) && s.overLimit leaf m then .queue else f

/-- Place a checked request on one leaf. -/
def Care.place (c : Care) (m : MReq) (f : Fit) : Care :=
  match f with
  | .take =>
    if c.holder.isNone then { c with holder := some m } else { c with riders := c.riders ++ [m] }
  | .ride => if c.holder.isNone then { c with holder := some m } else { c with riders := c.riders ++ [m] }
  | .join => if c.runs m.act then { c with joined := c.joined ++ [m] } else { c with holder := some m }
  | .absorb => { c with absorbed := c.absorbed ++ [m] }
  | .pause =>
    let stop := c.running.filter (fun x => compat x.act m.act == .pause)
    { c with holder := some m, riders := c.running.filter (fun x => compat x.act m.act != .pause),
             paused := c.paused ++ stop.map (fun x => (m.act, x)) }
  | .queue => { c with queue := c.queue ++ [m] }

/-- Tell the page of a mailbox request that it is under way (R130, R476). -/
def State.ticketQueued (s : State) (tk : Nat) : State :=
  match Tab.find? s.tickets tk with
  | none => s
  | some t => s.complete t stQueued 0 false [] none

/-- Place a checked request on its leaves and note what it starts; a zero-fill closes the leaf's merge entries (R330 cause
5) and queues its first run. -/
def State.placeReq (s : State) (leaf : Nat) (m : MReq) (f : Fit) : State :=
  let s := (m.leaves leaf).foldl (fun s l => s.setCare l ((s.care l).place m f)) s
  let ch := leaf / 2
  match m.act with
  | .retrain =>
    if f == .take || f == .pause then s.setChan ch { s.chan ch with retrain := some (104, 104), step := none } else s
  | .scrub =>
    let c := s.care leaf
    if f == .queue || f == .absorb then s
    else
      let c := if m.ticket = 0 then c else { c with esc := true }
      s.setCare leaf { c with lapStart := if c.calRow = 0 && c.calBank = 0 then s.now else c.lapStart }
  | .zero => if f == .queue then s else (s.closeAll leaf).feedZero leaf
  | _ => s

/-- A retrain of the owner is over for one channel: `ok` says that it applied a correction. -/
def State.retrainOver (s : State) (c : Nat) (ok : Bool) : State :=
  let x := s.chan c
  let s := s.setChan c { x with retrainTickets := [] }
  x.retrainTickets.foldl (fun s tk =>
    match Tab.find? s.tickets tk with
    | none => s
    | some t =>
      let t := { t with left := t.left - 1, mask := t.mask + (if ok then 2 ^ (c % 32) else 0) }
      let s := { s with tickets := Tab.put s.tickets tk t }
      if t.left = 0 then s.finish tk stOk (leBytes 4 t.mask) none else s) s

/-- A request that a full queue refuses (R130): BUSY, and a refused heal may be asked for again. -/
def State.refuseReq (s : State) (leaf : Nat) (m : MReq) : State :=
  let c := s.care leaf
  let track := if m.act == .heal then
      Tab.mapVals c.track (fun _ e => if e.bank == m.bank && e.row == m.row then { e with queued := false } else e)
    else c.track
  let s := ((s.setCare leaf { c with track := track }).maint 8 (stackOf leaf)).finish m.ticket stBusy noArg none
  if m.act == .retrain then s.retrainOver (leaf / 2) false else s

/-- Check a request that has just reached its leaves (R128, R130). -/
def State.checkMReq (s : State) (leaf : Nat) (m : MReq) : State :=
  let f := s.fitOf leaf m
  if f == .queue && (m.leaves leaf).any (fun l => decide (8 ≤ (s.care l).queue.length)) then s.refuseReq leaf m
  else (s.placeReq leaf m f).ticketQueued m.ticket

/-- Order in which requests that reach a leaf together are taken (R131). -/
def actOrder : List Act := [.repair, .retrain, .scan, .zero, .heal, .capture, .scrub]

/-- Calender wants a leaf's token (R336). -/
def State.wantsScrub (s : State) (leaf : Nat) : Bool :=
  s.setting 0x400C (stackOf leaf) == 1 && (s.sup (stackOf leaf)).trained && decide (0 < s.banksOf leaf) &&
    !(s.care leaf).every.any (fun m => m.act == .scrub)

/-- A debug stop keeps an activity from starting: all but SCAN and the dumps (Table 17.22, R376). -/
def State.keepsBack (s : State) (a : Act) : Bool := s.stopping && a != .scan && a != .capture

/-- The first activity in the order of R131 that waits to be checked on a leaf, but for those kept back. -/
def Care.firstRaised (c : Care) (wait : Act → Bool) : Option Act :=
  actOrder.find? (fun x => !wait x && c.raised.any (fun m => m.act == x))

/-- MAINTENANCE_START (R128-R133): the leaf's first request in the order of R131 is checked, where it is of the named
activity and none goes before it on another leaf it needs; Calender's own SCRUB is raised by the step that starts it. In a debug stop
only a SCAN or a dump starts, ahead of what the stop keeps back. -/
def execMaintenanceStart (l : Fin 1024) (act : Fin 8) (s : State) : Host.Outcome State Fault Refusal :=
  let c := s.care l.val
  match (actOf act.val).filter (fun a => !s.keepsBack a) with
  | none => .next s
  | some a =>
    match c.firstRaised s.keepsBack with
    | none => if a == .scrub && s.wantsScrub l.val then .next (s.checkMReq l.val (plainReq .scrub 0 0)) else .next s
    | some first =>
      if first != a then .next s
      else match c.raised.find? (fun m => m.act == a) with
        | none => .next s
        | some m =>
          if (m.leaves l.val).any (fun i => (s.care i).firstRaised s.keepsBack != some a) then .next s
          else
            let s := (m.leaves l.val).foldl (fun s i =>
              s.setCare i { s.care i with raised := (s.care i).raised.erase m }) s
            .next (s.checkMReq l.val m)

/-- The leaves over which an activity that runs on a leaf ends: both of its channel where a request for it has channel scope. -/
def State.actLeaves (s : State) (leaf : Nat) (a : Act) : List Nat :=
  let c := s.care leaf
  if (c.running ++ c.joined).any (fun m => m.act == a && (m.leaves leaf).length == 2) then
    [leaf / 2 * 2, leaf / 2 * 2 + 1]
  else [leaf]

/-- The requests that end with an activity of a leaf: one of channel scope stands on both leaves. -/
def State.actReqs (s : State) (leaf : Nat) (a : Act) : List MReq :=
  let on (l : Nat) : List MReq := ((s.care l).running ++ (s.care l).joined).filter (fun m => m.act == a)
  on leaf ++ ((s.actLeaves leaf a).filter (fun l => l != leaf)).flatMap (fun l =>
    (on l).filter (fun m => (m.leaves l).length == 1))

/-- The work of an activity is done. -/
def State.actDone (s : State) (leaf : Nat) (a : Act) : Bool :=
  match a with
  | .scrub => s.setting 0x400C (stackOf leaf) == 0 || !(s.sup (stackOf leaf)).trained
  | .retrain => (s.chan (leaf / 2)).retrain == some (0, 0) && !(s.chan (leaf / 2)).gap
  | .capture => true
  | .scan => !s.trace.scanBusy
  | _ => (s.actReqs leaf a).all (fun m => m.done)

/-- A mailbox request of an activity that has ended completes: OK, or HW_FAULT where its work failed (cause 0). -/
def State.endReq (s : State) (m : MReq) : State :=
  if m.cause = 0 && m.ticket != 0 then s.finish m.ticket stHwFault noArg none else s.finish m.ticket stOk [] none

/-- Take an activity off a leaf and resume what it paused (R129); the oldest rider holds the token of a leaf left without
a holder. -/
def Care.release (c : Care) (a : Act) : Care :=
  let keep (m : MReq) : Bool := m.act != a
  let c := { c with holder := c.holder.filter keep, riders := c.riders.filter keep, joined := c.joined.filter keep,
                    absorbed := if a == Act.zero then [] else c.absorbed }
  let back := (c.paused.filter (fun x => x.1 == a)).map (fun x => x.2)
  let c := { c with paused := c.paused.filter (fun x => x.1 != a) }
  let c := match c.holder, back with
    | none, m :: rest => { c with holder := some m, riders := c.riders ++ rest }
    | some _, ms => { c with riders := c.riders ++ ms }
    | none, [] => c
  match c.holder, c.riders with
  | none, m :: rest => { c with holder := some m, riders := rest }
  | _, _ => c

/-- Check the queue head of a leaf again, and the heads behind it while they are served (R130, R132). -/
def State.recheck : Nat → State → Nat → State
  | 0, s, _ => s
  | n + 1, s, leaf =>
    match (s.care leaf).queue with
    | [] => s
    | m :: _ =>
      let ls := m.leaves leaf
      let f := s.fitOf leaf m
      if f == .queue || s.keepsBack m.act || ls.any (fun l => (s.care l).queue.head? != some m) then s
      else
        let s := ls.foldl (fun s l => s.setCare l { s.care l with queue := (s.care l).queue.drop 1 }) s
        State.recheck n (s.placeReq leaf m f) leaf

/-- End a running activity of a leaf, or of its channel. -/
def State.endAct (s : State) (leaf : Nat) (a : Act) : State :=
  let ls := s.actLeaves leaf a
  let gone := s.actReqs leaf a ++ (if a == Act.zero then (s.care leaf).absorbed else [])
  let s := ls.foldl (fun s l => s.setCare l ((s.care l).release a)) s
  let s := gone.foldl (fun s m => s.endReq m) s
  let s := if a == .retrain then s.setChan (leaf / 2) { s.chan (leaf / 2) with retrainEnd := some s.now } else s
  let s := ls.foldl (fun s l => State.recheck 9 s l) s
  -- a limit of R133 may have kept the heads of other leaves waiting
  s.cares.foldl (fun s (l, _) => State.recheck 1 s l) s

/-- MAINTENANCE_END (R129, R130): an activity whose work is done releases the token. -/
def execMaintenanceEnd (l : Fin 1024) (act : Fin 8) (s : State) : Host.Outcome State Fault Refusal :=
  match actOf act.val with
  | none => .next s
  | some a => if (s.care l.val).runs a && s.actDone l.val a then .next (s.endAct l.val a) else .next s

/-! ## Gaps and row copies -/

/-- Refresh-class commands of a leaf: the budget's count and its background energy. -/
def State.chargeAb (s : State) (leaf n : Nat) : State :=
  let k := stackOf leaf
  let s := s.setArb k { s.arb k with acts := (s.arb k).acts + n }
  s.spend leaf 3 n 0xFFFF

/-- The first tick of a leaf that is not due at a time (R110). -/
def Leaf.tickBy (l : Leaf) (nb t at_ : Nat) : Nat := max l.tickN (((at_ - l.tickOrigin + 1) * nb - 1) / t + 1 - nb)

/-- Ticks of bank b from the leaf's next one up to, not including, tick n. -/
def Leaf.ticksOf (l : Leaf) (nb b n : Nat) : Nat := (n + nb - 1 - b) / nb - (l.tickN + nb - 1 - b) / nb

/-- n REFab, the last one at a time, bring every bank of a leaf to -8, the ticks up to then included (R111, R134). -/
def State.refsDo (s : State) (leaf n at_ : Nat) : Bool :=
  let nb := s.banksOf leaf
  let l := s.leaf leaf
  let m := l.tickBy nb (s.tREFI (stackOf leaf)) at_
  (List.range nb).all (fun b => decide ((l.bank b).owed + l.ticksOf nb b m + 8 ≤ n))

/-- Open a retrain gap (R134): every bank of the channel closes, and REFab follow until every OWED is -8 at the last of them,
where the gap begins. Its banks, and so the step, wait for the last REFab to end. -/
def State.openGap (s : State) (c : Nat) : State :=
  let k := c / 32
  let ls := [2 * c, 2 * c + 1]
  let first := ls.foldl (fun t leaf => max t (s.leaf leaf).busFree) s.now12 + s.cyc k 72 60
  let at_ (n : Nat) : Nat := first + (n - 1) * s.tRFCab k
  let n := ((List.range 64).find? (fun n => ls.all (fun leaf => s.refsDo leaf n (at_ n)))).getD 64
  let stop := if n = 0 then first else at_ n + s.tRFCab k
  let s := ls.foldl (fun s leaf =>
    let l := s.leaf leaf
    let nb := s.banksOf leaf
    let banks := (List.range nb).foldl (fun l b =>
      l.setBank b { l.bank b with openRow := none, hist := 0, lastRow := none, owed := -8, tRef := stop,
                                  tPre := if (l.bank b).openRow.isSome then s.now12 else (l.bank b).tPre }) l
    (s.setLeaf leaf { banks with busFree := stop, tickN := l.tickBy nb (s.tREFI k) (at_ n) }).chargeAb leaf n) s
  s.setChan c { s.chan c with gap := true, gapAt := stop }

/-- Leaf-local address of the first burst of a row. -/
def State.rowLa (s : State) (leaf flat row : Nat) : Nat :=
  let g := s.geom (stackOf leaf)
  if g.sids = 3 then laOf g ⟨flat % 16, flat / 16, row, 0⟩ else laOf g ⟨flat, 0, row, 0⟩

/-- A row as read, each word with the bit flips the stack adds. -/
def State.readRow (s : State) (leaf la : Nat) (flips : List (BitVec 72)) : List (Word64 × Byte) :=
  (s.takeRun leaf la 32).zipIdx.map (fun ((d, c), i) =>
    let f := (flips[i]?).getD 0
    (d ^^^ BitVec.ofNat 64 f.toNat, c ^^^ BitVec.ofNat 8 (f.toNat / 2 ^ 64)))

/-- Read a row and write it back as decoded, stains kept or created (R325, R342); UEs raise stain events of cause 3. -/
def State.copyRow (s : State) (leaf flat row : Nat) (flips : List (BitVec 72)) : State :=
  let la := s.rowLa leaf flat row
  let raw := s.readRow leaf la flips
  let s := s.closeFor leaf (rowBursts la)
  let s := s.readWords leaf la raw 3 0x1100 0xFFFF 0 s.now false false
  let ws := (decodedWords raw).map (fun w => (⟨w.data, 0xFF, w.stain⟩ : SWord))
  let s := s.storeWords leaf la ws
  ((s.spend leaf 0 1 0xFFFF).spend leaf 1 32 0xFFFF).spend leaf 2 32 0xFFFF

end Sys2Proof.Machine
end

