-- ==== Sys2Proof/Machine/Refresh.lean ====
section
/-! DEFINITION. Refresh and row protection: refresh ticks, REFpb, the doubled rate, ageing, mitigation and spill sweeps (R109-R127, R145). -/

namespace Sys2Proof.Machine

/-! ## Ticks (R109, R110, R118, R119) -/

/-- When a leaf's tick of count n falls, in 1/12 ns: bank n mod NB, from the tick origin. -/
def tickDue (origin t nb n : Nat) : Nat := origin + (nb + n) * t / nb

/-- Keep the bank order and the last tick's time where the spacing changes from t to t' (R119). -/
def Leaf.reanchor (l : Leaf) (nb t t' : Nat) : Leaf :=
  if l.tickN = 0 then { l with tickOrigin := l.tickOrigin + t - t' }
  else
    let last := tickDue l.tickOrigin t nb (l.tickN - 1)
    let m := (l.tickN - 1) % nb
    { l with tickOrigin := last - (nb + m) * t' / nb, tickN := m + 1 }

/-- The rate a round has asked for takes effect on every leaf of the stack (R118). -/
def State.applyRate (s : State) (k : Nat) : State :=
  let c := s.sck k
  if c.ref2x == c.ref2xNext then s
  else
    let nb := (s.geom k).banks
    let t := s.tREFI k
    let s := s.setSck k { c with ref2x := c.ref2xNext }
    let t' := s.tREFI k
    { s with leaves := Tab.mapVals s.leaves (fun i l => if i / 64 = k then l.reanchor nb t t' else l) }

/-- REFRESH_TICK (R110): the next bank of the leaf owes one refresh more, or its bound is broken (R109). A bank that reaches
REF_PMAX is claimed by that alone (R115). -/
def execRefreshTick (l : Fin 1024) (s : State) : Host.Outcome State Fault Refusal :=
  let k := stackOf l.val
  let nb := s.banksOf l.val
  let x := s.leaf l.val
  if !s.leafUp l.val || nb = 0 then .next s
  else if s.now12 < tickDue x.tickOrigin (s.tREFI k) nb x.tickN then .next s
  else
    let b := x.tickN % nb
    let c := x.bank b
    let s' := s.setLeaf l.val { x.setBank b { c with owed := if c.owed ≥ 8 then 8 else c.owed + 1 } with tickN := x.tickN + 1 }
    let s' := if c.owed ≥ 8 then s'.note 0x13 2 l.val [(1, b)] else s'
    .next (s'.applyRate k)

/-! ## REFpb (R111-R117) -/

/-- REFpb candidates of a leaf: step of R116, OWED, bank, leaf. -/
def State.refreshCands (s : State) (leaf : Nat) (rowIdle : Bool) : List (Nat × Int × Nat × Nat) :=
  let k := stackOf leaf
  let l := s.leaf leaf
  let pmax : Int := s.setting 0x4003 k
  let pin : Int := s.setting 0x4004 k
  (List.range (s.banksOf leaf)).filterMap (fun i =>
    let b := l.bank i
    if !s.rowReady k b then none
    else if pmax ≤ b.owed then some (1, b.owed, i, leaf)
    else if 1 ≤ b.owed && s.bankIdle leaf i then some (4, b.owed, i, leaf)
    else if -pin < b.owed && b.owed ≤ 0 && s.bankIdle leaf i && rowIdle then some (6, b.owed, i, leaf)
    else none)

/-- Order of R116: step, higher OWED, lower bank. -/
def refreshBefore (last : Option Nat) (a b : Nat × Int × Nat × Nat) : Bool :=
  if a.1 != b.1 then decide (a.1 < b.1)
  else if a.2.1 != b.2.1 then decide (b.2.1 < a.2.1)
  else if a.2.2.1 != b.2.2.1 then decide (a.2.2.1 < b.2.2.1)
  else decide (a.2.2.2 % 2 != last.getD 1) && a.2.2.2 != b.2.2.2

/-- A refresh-class PRE: the bank closes and its page history is cleared (R90). -/
def State.refreshPre (s : State) (leaf bank : Nat) : State :=
  let s := s.preRow leaf bank
  let l := s.leaf leaf
  s.setLeaf leaf (l.setBank bank { l.bank bank with hist := 0, lastRow := none })

/-- Charge n refresh-class commands to the budget and the leaf's background (R101, Table 13.5). -/
def State.chargeRefresh (s : State) (leaf acts refs : Nat) : State :=
  let k := stackOf leaf
  let s := s.setArb k { s.arb k with acts := (s.arb k).acts + acts + refs }
  (if acts = 0 then s else s.spend leaf 0 acts 0xFFFF).spend leaf 3 refs 0xFFFF

/-- Row picker candidates of classes 2 to 5 in a channel (R114). -/
def State.rowBusy (s : State) (c : Nat) : Bool :=
  !(s.chanCands c).isEmpty || [2 * c, 2 * c + 1].any (fun leaf => (s.idleRow leaf).isSome)

/-- A command of an earlier step of R116 than n is ready on a channel's row bus. -/
def State.stepBefore (s : State) (c n : Nat) : Bool :=
  [2 * c, 2 * c + 1].any (fun leaf => (s.refreshSteps leaf).any (fun m => decide (m < n)))

/-- The other leaf of a channel has a command of a step ready, and its turn is before this one's (R93, R116). -/
def State.otherFirst (s : State) (leaf n : Nat) : Bool :=
  let other := if leaf % 2 = 0 then leaf + 1 else leaf - 1
  (s.refreshSteps other).contains n && (s.chan (channelOf leaf)).rowLast.getD 1 == leaf % 2

/-- A leaf has won its channel's row slot (R93). -/
def State.rowWon (s : State) (leaf : Nat) : State :=
  s.setChan (channelOf leaf) { s.chan (channelOf leaf) with rowLast := some (leaf % 2) }

/-- REFPB_ISSUE (R111-R116): the channel's first refresh candidate; an open bank is closed first. -/
def execRefpbIssue (c : Fin 512) (s : State) : Host.Outcome State Fault Refusal :=
  let a := 2 * c.val
  let up := [a, a + 1].filter (fun l => s.leafUp l && decide (0 < s.banksOf l))
  let idle := !s.rowBusy c.val
  let cands := up.flatMap (fun l => s.refreshCands l idle)
  let before := refreshBefore (s.chan c.val).rowLast
  if (s.chan c.val).gap then .next s
  else match cands with
    | [] => .next s
    | x :: rest =>
      let (step, _, bank, leaf) := rest.foldl (fun u v => if before v u then v else u) x
      if s.stepBefore c.val step then .next s
      else
        let s := s.rowWon leaf
        let l := s.leaf leaf
        let b := l.bank bank
        if b.openRow.isSome then .next (s.refreshPre leaf bank)
        else
          let b := { b with owed := max (-8) (b.owed - 1), tRef := s.now12 + s.tRFCpb (stackOf leaf) }
          .next (((s.setLeaf leaf (l.setBank bank b)).chargeRefresh leaf 0 1).claims leaf)

/-! ## Ageing (R122, R123, R145) -/

/-- ROW_COUNTER_AGEING (R122): the multiples of RP_AGE that have passed since the last ageing; a stack whose domains are
off counts them (R145). -/
def execRowCounterAgeing (k : Fin 16) (s : State) : Host.Outcome State Fault Refusal := .next (s.ageDue k.val none)

/-! ## Mitigation and sweeps (R125-R127) -/

/-- Rows within RP_RADIUS of a row that exist, lowest first. -/
def neighbours (rows radius row : Nat) : List Nat :=
  (List.range (2 * radius + 1)).filterMap (fun i =>
    if row + i < radius then none
    else
      let r := row + i - radius
      if r = row || r ≥ rows then none else some r)

/-- MITIGATION (R125, R126): the oldest pending mitigation of the leaf closes its bank, then activates the neighbours, each a
tRC after the one before and beside the pseudo-channel's other ACTs (R80), and gives the bank one RFMpb. -/
def execMitigation (l : Fin 1024) (s : State) : Host.Outcome State Fault Refusal :=
  let k := stackOf l.val
  let p := s.prot l.val
  match p.mits with
  | [] => .next s
  | (bank, row) :: rest =>
    let x := s.leaf l.val
    let b := x.bank bank
    let ns := neighbours (s.geom k).rows (s.setting 0x4008 k) row
    let tRC := s.cyc k 72 60
    let times := (List.range ns.length).map (fun i => s.now12 + i * tRC)
    if !s.leafUp l.val || (s.chan (channelOf l.val)).gap || s.stepBefore (channelOf l.val) 2 || s.otherFirst l.val 2 ||
        !s.rowReady k b then .next s
    else if b.openRow.isSome then .next ((s.rowWon l.val).refreshPre l.val bank)
    else if !times.all (s.actFits k x bank) then .next s
    else
      let stop := s.now12 + ns.length * tRC
      let p := { p with mits := rest, counts := Tab.keep p.counts (fun _ e => !(e.bank == bank && e.row == row)) }
      let b := { b with tAct := if ns.isEmpty then b.tAct else stop - tRC, tRef := stop + s.tRFCpb k }
      let x := s.noteActs k (x.setBank bank b) (times.map (fun t => (t, bank % 4)))
      let s := ((s.rowWon l.val).setProt l.val p).setLeaf l.val x
      .next ((s.chargeRefresh l.val ns.length 1).claims l.val)

/-- SPILL_SWEEP (R116, R127): one RFMpb, or the PRE before it, to the next bank the sweep owes; the last one ends it. -/
def execSpillSweep (l : Fin 1024) (s : State) : Host.Outcome State Fault Refusal :=
  let k := stackOf l.val
  let p := s.prot l.val
  let x := s.leaf l.val
  let ready (i : Nat) : Bool := ((x.bank i).sweep || s.bankIdle l.val i) && s.rowReady k (x.bank i)
  if !s.leafUp l.val || (s.chan (channelOf l.val)).gap || s.stepBefore (channelOf l.val) 3 then .next s
  else match p.sweep.filter ready with
    | [] => .next s
    | i :: is =>
      let i := is.foldl (fun a j => if (x.bank a).owed < (x.bank j).owed then j else a) i
      let b := x.bank i
      let s := s.rowWon l.val
      if b.openRow.isSome then .next (s.refreshPre l.val i)
      else
        let left := p.sweep.filter (fun j => j != i)
        let s := s.setLeaf l.val (x.setBank i { b with tRef := s.now12 + s.tRFCpb k, sweep := false })
        let s := (s.chargeRefresh l.val 0 1).claims l.val
        if left.isEmpty then
          let s := s.setProt l.val { p with sweep := [], floor := 0 }
          .next ((s.tally k 0x1048 1 true).note 0x46 2 l.val [])
        else .next (s.setProt l.val { p with sweep := left })

/-- SPILL_SWEEP_FORCE (R127): banks the sweep has not found idle within one tREFI are claimed. -/
def execSpillSweepForce (l : Fin 1024) (s : State) : Host.Outcome State Fault Refusal :=
  let p := s.prot l.val
  let x := s.leaf l.val
  if p.sweep.isEmpty || s.now12 < p.sweepAt + s.tREFI (stackOf l.val) then .next s
  else .next (s.setLeaf l.val (p.sweep.foldl (fun x i => x.setBank i { x.bank i with sweep := true }) x))

end Sys2Proof.Machine
end

