-- ==== Sys2Proof/Machine/Scrub.lean ====
section
/-! DEFINITION. Calender, heals, row and lane repair, the stores of the non-volatile records, and command parity errors (R336-R354, R373, R386). -/

namespace Sys2Proof.Machine

/-! ## Calender (R336-R340) -/

/-- A leaf's column slot is idle, and the data-slot cap would allow a run in it (R337). -/
def State.idleMode (s : State) (leaf : Nat) : Bool :=
  let c := channelOf leaf
  let l := s.leaf leaf
  let a := s.arb (stackOf leaf)
  !s.rowBusy c && !(s.leafRuns leaf && l.queue.any (s.columnOk leaf l)) && decide (a.acts < s.actBudget (stackOf leaf)) &&
    decide (l.slots < (8 - a.cap) * 8)

/-- A refresh-class command of a channel goes before Calender's (R116, R337, R338). -/
def State.refreshWaits (s : State) (c : Nat) : Bool :=
  [2 * c, 2 * c + 1].any (fun leaf =>
    s.leafUp leaf && (!(s.refreshSteps leaf).isEmpty || !(s.refreshCands leaf (!s.rowBusy c)).isEmpty))

/-- Stained words of a row as read. -/
def stainedOf (raw : List (Word64 × Byte)) : Nat :=
  (raw.filter (fun (d, c) => (decodeWord d c).cls == .stained)).length

/-- The position after a visit; a completed lap is recorded and ends the escalation and the requests for it. -/
def State.calNext (s : State) (leaf : Nat) : State :=
  let c := s.care leaf
  let nb := s.banksOf leaf
  let rows := (s.geom (stackOf leaf)).rows
  if c.calBank + 1 < nb then s.setCare leaf { c with calBank := c.calBank + 1 }
  else if c.calRow + 1 < rows then s.setCare leaf { c with calBank := 0, calRow := c.calRow + 1 }
  else
    let last := min 1048575 ((s.now - c.lapStart) / 1000000000)
    let over_ := c.joined.filter (fun m => m.act == .scrub)
    let clear (m : MReq) : MReq := if m.act == .scrub then { m with ticket := 0 } else m
    let mine := (c.running.filter (fun m => m.act == .scrub)) ++ over_
    let s := s.setCare leaf { c with
      calBank := 0, calRow := 0, lapLast := last, lapStart := s.now, laps := (c.laps + 1) % 256, esc := false,
      joined := c.joined.filter (fun m => m.act != .scrub), holder := c.holder.map clear, riders := c.riders.map clear }
    mine.foldl (fun s m => s.endReq m) s

/-- CALENDER_VISIT (R336-R340): Calender reads the row and bank at its position, which closes the open merge entries of the row (R330
cause 3; DEDUCED: assumption 143), acts on each word's class, and moves on. Its next visit waits for its share of the leaf's column
slots. -/
def execCalenderVisit (l : Fin 1024) (flips : List (BitVec 72)) (s : State) : Host.Outcome State Fault Refusal :=
  let c := s.care l.val
  let k := stackOf l.val
  let la := s.rowLa l.val c.calBank c.calRow
  if !s.visitReady l.val || s.refreshWaits (channelOf l.val) || !(c.esc || s.idleMode l.val) || !s.rowRoom l.val la then .next s
  else
    let raw := s.readRow l.val la flips
    let s := s.closeFor l.val (rowBursts la)
    let share := if c.esc then 64 else s.setting 0x400D k
    let s := (s.rowWon l.val).touchRow l.val c.calBank c.calRow false
    let s := s.setCare l.val { s.care l.val with calFree := s.now12 + 32 * share * s.qPeriod k }
    let s := if c.esc then s else s.setArb k { s.arb k with acts := (s.arb k).acts + 1 }
    let s := (s.spend l.val 0 1 0xFFFF).spend l.val 1 32 0xFFFF
    let s := s.readWords l.val la raw 2 0x1200 0xFFFF 0 s.now true true
    let s := s.tally k (0x1400 + 4 * (l.val % 64)) (stainedOf raw) true
    .next (s.calNext l.val)

/-- CALENDER_ESCALATE (R338, R339): a lap that has run for SCRUB_LAP escalates, once its leaf is awake. -/
def execCalenderEscalate (l : Fin 1024) (s : State) : Host.Outcome State Fault Refusal :=
  let c := s.care l.val
  let k := stackOf l.val
  let due := decide (c.lapStart + s.setting 0x400E k * 3600000000000 ≤ s.now)
  if due && !c.esc && (c.every.any (fun m => m.act == .scrub)) && s.leafUp l.val && !(s.leaf l.val).parked then
    .next ((s.setCare l.val { c with esc := true, lapLate := true }).maint 5 k)
  else .next s

/-! ## Heals (R342) -/

/-- HEAL (R342): one row of the leaf's running heals is read, corrected and written back under the bank claim, and its
tracker entry is HEALED. -/
def execHeal (l : Fin 1024) (flips : List (BitVec 72)) (s : State) : Host.Outcome State Fault Refusal :=
  let c := s.care l.val
  if !c.runs .heal || !s.leafUp l.val || (s.chan (channelOf l.val)).gap then .next s
  else match (c.running ++ c.joined).find? (fun m => m.act == .heal && !m.done) with
    | none => .next s
    | some m =>
      if s.stopping || s.stepBefore (channelOf l.val) 5 || !s.rowFree l.val m.bank || !s.rowRoom l.val (s.rowLa l.val m.bank m.row) then
        .next s
      else
        let s := (s.rowWon l.val).touchRow l.val m.bank m.row true
        let s := s.copyRow l.val m.bank m.row flips
        let c := s.care l.val
        let mark (x : MReq) : MReq := if x == m then { x with done := true } else x
        let track := Tab.mapVals c.track (fun _ e =>
          if e.bank == m.bank && e.row == m.row then { e with healed := true, htime := ((s.leaf l.val).busFree - s.qPeriod (stackOf l.val)) / 12 } else e)
        .next (s.setCare l.val { c with track := track, holder := c.holder.map mark, riders := c.riders.map mark,
                                        joined := c.joined.map mark })

/-! ## Repair (R347, R351) -/

/-- Mark a request of a leaf done, with the cause its end reports. -/
def Care.markDone (c : Care) (m : MReq) (cause : Nat) : Care :=
  let mark (x : MReq) : MReq := if x == m then { x with done := true, cause := cause } else x
  { c with holder := c.holder.map mark, riders := c.riders.map mark, joined := c.joined.map mark }

/-- A repair request of a leaf that waits for its step. -/
def Care.nextRepair (c : Care) (lane : Bool) : Option MReq :=
  if c.runs .repair then (c.running ++ c.joined).find? (fun m => m.act == .repair && m.isLane == lane && !m.done)
  else none

/-- ROW_REPAIR (R347): within a gap the row is saved, the soft repair applied, the row written back and the repair
recorded. A bank without a spare row ends the request unrepaired. -/
def execRowRepair (l : Fin 1024) (flips : List (BitVec 72)) (spare : Fin 256) (s : State) :
    Host.Outcome State Fault Refusal :=
  match (s.care l.val).nextRepair false with
  | none => .next s
  | some m =>
    if !s.leafUp l.val || s.stopping || s.stepBefore (channelOf l.val) 5 then .next s
    else if s.spareLeft l.val m.bank = 0 then .next (s.setCare l.val ((s.care l.val).markDone m 0))
    else
      let k := stackOf l.val
      let ch := channelOf l.val
      let s := s.openGap ch
      let s := s.rowCount l.val m.bank m.row
      let s := (s.copyRow l.val m.bank m.row flips).maintSlots l.val 64
      let s := s.setChan ch { s.chan ch with gap := false }
      let u := s.sup k
      let s := s.setSup k { u with spareRows := Tab.add u.spareRows (l.val % 64 * 64 + m.bank) 1 }
      let kind := if s.setting 0x4012 k = 1 then 3 else 1
      let recorded := decide ((s.curMap).1.length < 2048)
      let s := s.addMap (rowEntry kind l.val m.bank m.row m.cause spare.val)
      let c := s.care l.val
      let c := if recorded then
          { c with track := Tab.keep c.track (fun _ e => !(e.bank == m.bank && e.row == m.row)) }
        else c
      .next (s.setCare l.val (c.markDone m m.cause))

/-- Spare lane i of a pseudo-channel is provided, unused and usable in this bring-up (R361, R391). -/
def State.spareOk (s : State) (ch pc i : Nat) : Bool :=
  let c := (s.chan ch).cal
  decide (i < (s.sup (ch / 32)).disc.spares) && (Tab.find? c.spmap (pc * 4 + i)).isNone &&
    !(s.sup (ch / 32)).badSpares.contains (ch % 32 * 8 + pc * 4 + i)

/-- Put a lane position on a spare: the spare map and the SPARE marks. -/
def ChanCal.remap (c : ChanCal) (lane spare : Nat) : ChanCal :=
  let pc := lane / 36
  let on (t : Tab LaneCal) : Tab LaneCal :=
    Tab.put t lane { Tab.get LaneCal.reset t (72 + pc * 4 + spare) with spare := true }
  { c with spmap := Tab.put c.spmap (pc * 4 + spare) (lane % 36), rx := on c.rx, tx := on c.tx }

/-- A LANE entry of the repair map (Table 11.13). -/
def laneEntry (ch lane cause spare : Nat) : MapEntry :=
  { kind := 4, stack := ch / 32, channel := ch % 32, pc := lane / 36, sid3 := 0, alt := false, bank := 0xFF,
    lane := lane % 36, row := 0xFFFF, time := 0, cause := cause, spare := spare }

/-- LANE_REPAIR (R351): the lane is remapped to the spare the stack reports and a RETRAIN queued behind; without a spare
both leaves of the channel are lost. -/
def execLaneRepair (c : Fin 512) (spare : Option (Fin 4)) (s : State) : Host.Outcome State Fault Refusal :=
  let a := 2 * c.val
  match (s.care a).nextRepair true with
  | none => .next s
  | some m =>
    if !s.leafUp a || s.stopping then .next s
    else
      let pc := m.lane / 36
      match spare with
      | none =>
        let s := [a, a + 1].foldl (fun s l => s.setCare l ((s.care l).markDone m 0)) s
        .next ((s.leafLost a).leafLost (a + 1))
      | some i =>
        if !s.spareOk c.val pc i.val then .next s
        else
          let x := s.chan c.val
          let s := s.setChan c.val { x with cal := x.cal.remap m.lane i.val,
                                            eco := x.eco.map (fun e => e.remap m.lane i.val) }
          let s := s.addMap (laneEntry c.val m.lane m.cause i.val)
          let s := [a, a + 1].foldl (fun s l => s.setCare l ((s.care l).markDone m m.cause)) s
          .next (s.requestRetrain c.val 6 0)

/-! ## Non-volatile records (R352, R386) -/

/-- A write to the device goes on in this REF_CLK period (R45; DESIGN CHOICE: assumption 128). -/
def State.wrote (s : State) : State := { s with boot := { s.boot with wroteAt := some s.clk.ticks } }

/-- The payload of a store. -/
def NvStore.payload (x : NvStore) : List Nat := if x.type_ = 2 then mapPayload x.map x.serials x.altSerials else x.base

/-- What a verified store leaves in the device (R386), and the completion of the command that asked for it. -/
def State.stored (s : State) (x : NvStore) : State :=
  let d := s.boot.dev
  let seq := devNextSeq d x.type_
  let dev := devSetRec d x.type_ (devTarget d x.type_) (packed x.type_ seq s.now x.payload)
  let r := s.boot.recs
  if x.type_ = 2 then
    let recs := { r with map := x.map, serials := x.serials, altSerials := x.altSerials, mapValid := true, mapSeq := seq }
    let st := if x.clearFull && decide (x.map.length < 2048) then s.regs.maintStat / 2 * 2 else s.regs.maintStat
    let fresh := x.map.filter (fun e => x.ticket == 0 && !r.map.contains e)
    let s := { s with boot := { s.wrote.boot with dev := dev, recs := recs } }
    let s := { s with regs := { s.regs with maintStat := st } }
    let s := fresh.foldl (fun s e => s.maint 2 e.stack) s
    s.finish x.ticket stOk (leBytes 2 x.map.length) none
  else
    let (cs, ids) := sectionsOf 16 0 x.base
    let recs := { r with base := cs, baseSerials := ids, baseValid := true, baseSeq := seq }
    ({ s with boot := { s.wrote.boot with dev := dev, recs := recs } }).finish x.ticket stOk (leBytes 4 seq) none

/-- What a store that failed leaves: its slot is not valid (R386). -/
def State.storeFailed (s : State) (x : NvStore) : State :=
  let d := s.boot.dev
  { s with boot := { s.wrote.boot with dev := devSetRec d x.type_ (devTarget d x.type_) RecSlot.erased } }

/-- REPAIR_MAP_STORE (R352): the oldest waiting map is stored. -/
def execRepairMapStore (s : State) : Host.Outcome State Fault Refusal :=
  match s.stores.find? (fun x => x.type_ == 2) with
  | none => .next s
  | some x => .next (({ s with stores := s.stores.erase x }).stored x)

/-- NV_RECORD_STORE (R386): the oldest waiting record is stored into the older slot; a store that fails is repeated once,
and a second failure leaves the slot in use and writes one alarm record. -/
def execNvRecordStore (first second : Bool) (s : State) : Host.Outcome State Fault Refusal :=
  match s.stores with
  | [] => .next s
  | x :: rest =>
    let s := { s with stores := rest }
    if first || second then .next (s.stored x)
    else .next (((s.storeFailed x).note 0x0D 0 0 [(1, x.type_), (1, 1)]).finish x.ticket stHwFault noArg none)

/-! ## Command parity (R373) -/

/-- CA_PARITY_ERROR (Table 3.2, R371, R373): an alarm record and trigger 4; a third one within 1 s of the end of a RETRAIN
writes one more, and the command lanes wait for the next bring-up. -/
def execCaParityError (c : Fin 512) (s : State) : Host.Outcome State Fault Refusal :=
  let x := s.chan c.val
  let s := s.note 0x07 2 (2 * c.val) [(1, c.val % 32), (1, 1)]
  let near := match x.retrainEnd with | some t => decide (s.now < t + 1000000000) | none => false
  let times := if near then s.now :: x.parity else []
  let s := s.setChan c.val { x with parity := times, parityAlarm := x.parityAlarm || decide (3 ≤ times.length) }
  let s := if times.length = 3 && !x.parityAlarm then s.note 0x07 2 (2 * c.val) [(1, c.val % 32), (1, 2)] else s
  .next (s.requestRetrain c.val 4 0)

end Sys2Proof.Machine
end

