-- ==== Sys2Proof/Machine/Calib.lean ====
section
/-! DEFINITION. Calibration in service: retrain steps, their results, the apply of a correction, shadow-sampler margins and load windows (R134-R136, R369-R383). -/

namespace Sys2Proof.Machine

/-! ## Retrain steps (R134-R136, R357, R374-R376) -/

/-- Limit of a step's length in 1/12 ns (R135). -/
def State.stepLimit (s : State) (k : Nat) : Nat :=
  min (s.setting 0x400A k * 12000) ((7 + s.setting 0x4003 k) * s.tREFI k)

/-- Read and write points of the next step (R374), in 1/12 ns: 1.6 us of set-up, 0.52 us for the training rows, 0.10 and
0.12 us for each point. -/
def stepPoints (limit r w : Nat) : Nat × Nat :=
  let n := min r ((limit - 19200) / 1200)
  if n < r then (n, 0)
  else (n, min w ((limit - 19200 - 6240 - n * 1200) / 1440))

/-- Length of a step of n read and m write points, in ticks of 10 ns. -/
def stepTicks (n m : Nat) : Nat := 160 + (if m = 0 then 0 else 52) + 10 * n + 12 * m

/-- Save and restore the training rows of a channel (R357, R325): the last row of bank 0 of each pseudo-channel, opened
once. -/
def State.trainRows (s : State) (c : Nat) : State :=
  [2 * c, 2 * c + 1].foldl (fun s leaf =>
    let row := (s.geom (stackOf leaf)).rows - 1
    ((s.rowCount leaf 0 row).copyRow leaf 0 row []).maintSlots leaf 64) s

/-- A RETRAIN holds a channel. -/
def State.retraining (s : State) (c : Nat) : Bool :=
  match (s.care (2 * c)).holder with
  | some m => m.act == .retrain
  | none => false

/-- RETRAIN_STEP (R116, R135, R374): a gap is opened, behind refresh and row protection, and the points of one step are measured
in it; the step's time runs from the end of the gap's last REFab. -/
def execRetrainStep (c : Fin 512) (s : State) : Host.Outcome State Fault Refusal :=
  let x := s.chan c.val
  let k := c.val / 32
  match x.retrain with
  | none => .next s
  | some (r, w) =>
    if !s.retraining c.val || x.gap || s.stopping || r + w = 0 || !s.leafUp (2 * c.val) || !s.leafUp (2 * c.val + 1) ||
        s.stepBefore c.val 5 then
      .next s
    else
      let (n, m) := stepPoints (s.stepLimit k) r w
      let s := s.openGap c.val
      let s := if m = 0 then s else s.trainRows c.val
      let x := s.chan c.val
      let stop := (x.gapAt + 119) / 120 + stepTicks n m
      let load := if x.stale then x.loadTag else (s.pow k).loadPct
      .next (s.setChan c.val { x with retrain := some (r - n, w - m), step := some (n, m, stop), stale := true, loadTag := load })

/-- End a step under way: its gap closes. -/
def State.endStep (s : State) (c : Nat) : State :=
  s.setChan c { s.chan c with step := none, gap := false }

/-- A bank of a channel is forced (R113). -/
def State.forced (s : State) (c : Nat) : Bool :=
  [2 * c, 2 * c + 1].any (fun leaf =>
    (s.leaf leaf).banks.any (fun (_, b) => decide ((s.setting 0x4003 (stackOf leaf) : Int) ≤ b.owed)))

/-- RETRAIN_STEP_ABANDON (R136, R376): a step whose gap has ended or whose stack has stopped gives its points back. -/
def execRetrainStepAbandon (c : Fin 512) (s : State) : Host.Outcome State Fault Refusal :=
  let x := s.chan c.val
  let k := s.sck (c.val / 32)
  let stopped := (s.heatOf (c.val / 32)).st == .tripped || k.switching || k.pll != .locked
  match x.step, x.retrain with
  | some (n, m, _), some (r, w) =>
    if !s.forced c.val && !stopped then .next s
    else .next (s.setChan c.val { x with retrain := some (r + n, w + m), step := none, gap := false })
  | _, _ => .next s

/-! ## Results (R360, R361, R363, R377, R378) -/

/-- Stack temperature in whole degrees, as a tag. -/
def State.tempTag (s : State) (k : Nat) : Int := ((s.heatOf k).temp.getD 0) / 8

/-- RETRAIN_DONE (R378): the agreed results of a finished RETRAIN become a correction in a set of its own; a lane without
one asks for a lane REPAIR, and a failed WVREF is reported (R363). -/
def execRetrainDone (c : Fin 512) (m : ChanMeas) (s : State) : Host.Outcome State Fault Refusal :=
  let x := s.chan c.val
  let k := c.val / 32
  if x.retrain != some (0, 0) || x.gap || s.retraining c.val || !s.ownRoom 1 then .next s
  else
    let ew := s.setting 0x5801 0
    let eh := s.setting 0x5802 0
    let op := (s.sck k).opcur
    let old := x.active op
    let bad := measFailed ew eh m
    let wvBad := (wvResult m.wv0).isNone || (wvResult m.wv1).isNone
    let some_ := m.lanes.any (fun l => (laneResult ew eh (measWv m l.lane) l).isSome)
    let new := { old.take ew eh m with temp := s.tempTag k, load := x.loadTag, optag := op, vdd := (s.pow k).vdd }
    let x := { x with retrain := none, step := none, pendingCorr := some_, stale := some_ }
    let s := s.setChan c.val x
    let s := if wvBad then s.note 0x0C 2 (2 * c.val) [(1, c.val % 32), (1, 2)] else s
    let s := (bad.filter (fun n => decide (n < 72))).foldl (fun s n => s.request (2 * c.val) (laneReq n 2 0)) s
    .next (if some_ then s.ownSet [.cal c.val new false] else s.retrainOver c.val false)

/-! ## The apply (R379-R382) -/

/-- Write a calibration where its point's is kept (R381). -/
def State.putCal (s : State) (c : Nat) (r : ChanCal) : State :=
  let x := s.chan c
  s.setChan c (if r.optag = 1 then { x with eco := some r } else { x with cal := r })

/-- CALIBRATION_APPLY (R379, R380): a live correction is written to every lane in a retrain gap of its own. -/
def execCalibrationApply (c : Fin 512) (s : State) : Host.Outcome State Fault Refusal :=
  let x := s.chan c.val
  let k := s.sck (c.val / 32)
  let busy := [2 * c.val, 2 * c.val + 1].any (fun l =>
    decide (s.now12 < (s.leaf l).busFree) || ((s.care l).runs .repair && !s.actDone l .repair))
  match x.corr with
  | none => .next s
  | some r =>
    if busy || x.step.isSome || (r.optag = k.opcur && s.stepBefore c.val 5) || k.pll != .locked || k.switching || s.channelAsleep c.val then .next s
    else
      let s := if r.optag = k.opcur then s.openGap c.val else s
      let s := s.putCal c.val r
      let s := s.setChan c.val { s.chan c.val with corr := none, pendingCorr := false, stale := false, gap := false,
                                                   apply := false, loadOnce := false }
      .next (s.retrainOver c.val true)

/-! ## Margins (R369-R371) -/

/-- A lane is low (R370). -/
def Margin.isLow (g : Margin) (mt mv : Nat) : Bool :=
  let at_ (i : Nat) := g.marg.getD i 0
  decide (min (at_ 0) (at_ 1) < mt) || decide (min (at_ 2) (at_ 3) < mv)

/-- One probe outcome: outward without a mismatch, else the direction's margin and the next direction (R369). -/
def Margin.probe (g : Margin) (mismatch : Bool) (mt mv : Nat) : Margin :=
  if !mismatch && decide (g.off < 31) then { g with off := g.off + 1 }
  else
    let m := if mismatch then g.off - 1 else 31
    let g := { g with marg := g.marg.set g.dir m, off := 1, dir := (g.dir + 1) % 4 }
    if g.dir != 0 then g
    else
      let low := g.isLow mt mv
      { g with low := low, lowRun := if low then min 3 (g.lowRun + 1) else 0, evals := (g.evals + 1) % 256 }

/-- MARGIN_EVALUATION (R369-R371): the probe of a lane in use has compared 2^20 bits or met a mismatch; at the end of an
evaluation trigger 2 is checked. -/
def execMarginEvaluation (c : Fin 512) (lane : Fin 80) (mismatch : Bool) (s : State) : Host.Outcome State Fault Refusal :=
  let x := s.chan c.val
  let spareUsed := (Tab.find? x.cal.spmap (lane.val - 72)).isSome
  if x.cal.untrained || s.channelAsleep c.val || x.stale || !(s.sup (c.val / 32)).trained ||
      (decide (72 ≤ lane.val) && !spareUsed) then .next s
  else
    let g := (Tab.get Margin.reset x.margins lane.val).probe mismatch (s.setting 0x5803 0) (s.setting 0x5804 0)
    let s := s.setChan c.val { x with margins := Tab.put x.margins lane.val g }
    .next (if g.dir = 0 && g.off = 1 && g.lowRun = 3 then s.requestRetrain c.val 2 0 else s)

/-! ## Load (Table 12.4, trigger 3) -/

/-- Column slots used by a stack since power-on. -/
def State.slotsUsed (s : State) (k : Nat) : Nat :=
  ((s.chansOf k).map (fun c => Tab.num s.cnt.channel (c * 8))).sum

/-- LOAD_WINDOW (R371): a 1 ms window ends with its retired-slot share; the hundredth high one in a row raises trigger 3
on channels whose LOAD tag is low, once per calibration. -/
def execLoadWindow (k : Fin 16) (s : State) : Host.Outcome State Fault Refusal :=
  let p := s.pow k.val
  let t := s.clk.ticks - p.loadAt
  if t < 100000 || !(s.sup k.val).trained then .next s
  else
    let used := s.slotsUsed k.val
    let all := t * 120 / s.qPeriod k.val * (s.geom k.val).leaves
    let pct := if all = 0 then 0 else min 100 (100 * (used - p.retired) / all)
    let hi := s.setting 0x5806 0
    let run := if hi != 0 && decide (hi ≤ pct) then min 100 (p.highRun + 1) else 0
    let s := s.setPow k.val { p with retired := used, loadAt := s.clk.ticks, loadPct := pct, highRun := run }
    if run < 100 then .next s
    else .next ((s.chansOf k.val).foldl (fun s c =>
      let x := s.chan c
      if (x.active (s.sck k.val).opcur).load < 20 && !x.loadOnce then
        (s.setChan c { x with loadOnce := true }).requestRetrain c 3 0
      else s) s)

end Sys2Proof.Machine
end

