-- ==== Sys2Proof/Machine/LakeEvents.lean ====
section
/-! DEFINITION. Events of Lake and the merge buffer: merge timeouts, accumulate updates, tiles retiring and timing out, and the close of a watermark digest (R282-R293, R310, R330). -/

namespace Sys2Proof.Machine

/-! ## Merge buffer (R330-R333) -/

/-- MERGE_ENTRY_TIMEOUT (R330): the oldest entry that has waited MERGE_WAIT closes and is flushed. -/
def execMergeEntryTimeout (l : Fin 1024) (s : State) : Host.Outcome State Fault Refusal :=
  match (s.care l.val).oldestEnt with
  | none => .next s
  | some m =>
    let due := decide (m.born + s.setting 0x400B (stackOf l.val) * 10 ≤ s.clk.ticks)
    if !due || s.stopping || decide (s.freeOf (stackOf l.val) l.val < 2) then .next s
    else .next (s.flushEnt l.val m)

/-! ## Writes of an accumulate -/

/-- Queue the stored bursts of Lake's own write (R257, R327): whole bursts as write entries, narrow ones merged; count
what the conversion did and take the elements into the armed digests (R259, R260, R307). -/
def State.lakeWrite (s : State) (base k ten sid tint port arrival target regIdx step : Nat) (r : Region) (fw : Fwd)
    (src : Src) : State :=
  let s := (s.writePieces base k fw.bursts).foldl (fun s x =>
    if x.narrow then s.mergeBurst x.leaf x.la x.words 0 false ten sid tint port arrival target
    else s.enqueue x.leaf (s.mkEntry x.leaf x.la x.nb true true src x.words ten sid tint arrival target port)) s
  let s := (s.cntT ten 35 fw.pruned).cntT ten 36 fw.ovf
  if r.wmark then s.digest ten regIdx step r fw.elems else s

/-- Every leaf that a write of Lake's touches has room beside what granted parts hold (R82): an entry for each run of whole bursts,
with the flushes it closes, and for each narrow burst a merge entry with its flush. -/
def State.writeRoom (s : State) (base k : Nat) (fw : Fwd) : Bool :=
  let ps := s.writePieces base k fw.bursts
  ps.all (fun p =>
    let mine := ps.filter (fun q => q.leaf == p.leaf)
    let stack := stackOf p.leaf
    let shut := (mine.map (fun q => 2 * ((List.range q.nb).filter (fun i =>
      ((s.care p.leaf).openEnt (q.la + 32 * i)).isSome)).length)).sum
    let narrow := (mine.filter (fun q => q.narrow)).length
    decide (mine.length + narrow + shut ≤ s.freeOf stack p.leaf) &&
      decide ((mine.map (fun q => q.nb)).sum ≤ s.freeOf stack (1024 + p.leaf)) &&
      decide (narrow ≤ s.freeOf stack (4096 + p.leaf)))

/-! ## ACCU (R282, R283) -/

/-- What an accumulate stores once its old words are there: quire, member count and the forward pass. -/
def State.accuResult (s : State) (j : AccuJob) (old : List RWord) : Option (Nat × Nat × Fwd) :=
  match s.quireAt j.leaf with
  | none => none
  | some (base, q) =>
    let a := s.relAddr base q.qk j.leaf j.la
    let a0 := a - a % 4096
    let w0 := a % 4096 / 8
    let L := (s.geom (stackOf base)).leaves
    let got (n : Nat) : Option RWord :=
      if w0 ≤ n && n < w0 + old.length then old[n - w0]?
      else some (s.visibleWord (leafOf (a0 + 8 * n) base q.qk L) (leafLocal (a0 + 8 * n) q.qk))
    let sh := j.region.shape
    let vals := j.vals.zipIdx.map (fun ((v, st), i) =>
      match elemOf j.region.sfmt sh got (j.first + i) with
      | some x => (fl32Add x.v v, x.stain || st)
      | none => (v, st))
    some (base, q.qk, storeElems j.region j.ten j.regIdx j.step (j.pageAddr + a % 4096) a j.first vals)

/-- ACCU_UPDATE (R282): the oldest accumulate of the stack whose old value has returned writes its rounded sums, and the
next one of its granule may read. -/
def execAccuUpdate (k : Fin 16) (s : State) : Host.Outcome State Fault Refusal :=
  match Tab.first s.lake.accus (fun _ j => j.stack == k.val && j.old.isSome) with
  | none => .next s
  | some (id, j) =>
    let gone := { s with lake := { s.lake with accus := Tab.erase s.lake.accus id } }
    match s.accuResult j (j.old.getD []) with
    | none => .next gone.askAccu
    | some (base, q, fw) =>
      if !s.writeRoom base q fw then .next s
      else .next (gone.lakeWrite base q j.ten j.sid j.tint j.port j.arrival j.target j.regIdx j.step j.region fw (.accu id)).askAccu

/-! ## ACCO tiles (R291, R292) -/

/-- Step number that keys the rounding of a tile (R289, R292). -/
def Tile.key (t : Tile) : Nat := t.step0.getD t.step

/-- The stored form of a tile's sum; `all` marks every element stained (R292). -/
def Tile.result (t : Tile) (all : Bool) : Fwd :=
  let sh := t.region.shape
  storeElems t.region t.ten t.regIdx t.key t.addr t.a (t.addr % 4096 / sh.d * sh.per)
    (t.sum.map (fun (v, st) => (v, st || all)))

/-- A tile leaves with its write queued; its slots are free and held contributions may go on. -/
def State.closeTile (s : State) (id : Nat) (t : Tile) (fw : Fwd) (kind flags : Nat) : State :=
  let s := { s with lake := { s.lake with tiles := Tab.erase s.lake.tiles id } }
  let s := s.lakeWrite t.qbase t.qk t.ten t.sid t.tint t.port t.arrival t.target t.regIdx t.key t.region fw (.tile id)
  s.tileNote kind t flags

/-- ACCO_TILE_RETIRE (R291): a tile of the stack whose next index has passed CCNT writes its sum and is announced. -/
def execAccoTileRetire (k : Fin 16) (s : State) : Host.Outcome State Fault Refusal :=
  match Tab.first s.lake.tiles (fun _ t => t.stack == k.val && t.oldReady && !t.timedOut && decide (t.ccnt < t.next)) with
  | none => .next s
  | some (id, t) =>
    let fw := t.result false
    if !s.writeRoom t.qbase t.qk fw then .next s
    else .next ((s.cntT t.ten 9 1).closeTile id t fw 1 (t.sum.any (fun (_, st) => st)).toNat)

/-- A tile that ACCO_TMO ends (R292): what is parked or waits for the old value is discarded. -/
def Tile.expire (t : Tile) : Tile := { t with timedOut := true, parked := [], waiting := [] }

/-- A tile of a stack has been open for ACCO_TMO of admitting time, without its last index folded. -/
def Tile.overdue (t : Tile) (k : Nat) : Bool :=
  t.stack == k && !t.timedOut && decide (t.next ≤ t.ccnt) && decide (us t.tmo ≤ t.elapsed)

/-- Every tile of a stack that is due expires, counted once each. -/
def State.expireTiles (s : State) (k : Nat) : State :=
  let due := s.lake.tiles.filter (fun (_, t) => t.overdue k)
  let s := due.foldl (fun s (_, t) => s.cntT t.ten 10 1) s
  { s with lake := { s.lake with tiles := Tab.mapVals s.lake.tiles (fun _ t => if t.overdue k then t.expire else t) } }

/-- ACCO_TILE_TIMEOUT (R292, R293): tiles open for ACCO_TMO of admitting time end, and the first whose old value has come and whose
write has room retires stained, with one stain event. -/
def execAccoTileTimeout (k : Fin 16) (s : State) : Host.Outcome State Fault Refusal :=
  let s := s.expireTiles k.val
  match Tab.first s.lake.tiles (fun _ t => t.stack == k.val && t.timedOut && t.oldReady &&
      s.writeRoom t.qbase t.qk (t.result true)) with
  | none => .next s
  | some (id, t) =>
    let s := s.closeTile id t (t.result true) 2 (2 + (t.sum.any (fun (_, st) => st)).toNat)
    let leaf := leafOf t.a t.qbase t.qk (s.geom (stackOf t.qbase)).leaves
    .next (s.stainEvent leaf (leafLocal t.a t.qk) 6 0 t.ten (t.sid0.getD t.sid) 4)

/-! ## Watermarks (R310) -/

/-- Some request, accumulate or tile stamped with an arming's step has not passed Lake's forward pass. -/
def State.stepOpen (s : State) (a : Arming) : Bool :=
  Tab.some s.reqs (fun id r => r.ten == a.ten && r.regIdx == a.region && r.step % 2 ^ 32 == a.step &&
    (r.op == 1 || r.op == 2 || r.op == 3 || r.op == 4) && (r.phase == .live || r.phase == .dataOpen) &&
    (match s.part? (partKey id r.stack) with
      | some p => p.stage != .admitted
      | none => r.phase == .dataOpen)) ||
  Tab.some s.lake.accus (fun _ j => j.ten == a.ten && j.regIdx == a.region && j.step % 2 ^ 32 == a.step) ||
  Tab.some s.lake.tiles (fun _ t => t.ten == a.ten && t.regIdx == a.region && t.key % 2 ^ 32 == a.step)

/-- WATERMARK_CLOSE (R310): the tenant's step number has moved on and nothing of the step is left, so the element count is
judged and the digest is COMPLETE. -/
def execWatermarkClose (a : Fin 16) (s : State) : Host.Outcome State Fault Refusal :=
  let r := s.bank.arming a.val
  let d := Tab.get Digest.reset s.lake.digests a.val
  let t := s.tenSt r.ten
  let moved := t.step0 % 2 ^ 32 != r.step && t.step1 % 2 ^ 32 != r.step
  if !r.valid || bitAt d.flags 0 || !moved || s.stepOpen r then .next s
  else
    let s := if r.tcnt && d.count != r.ecount then s.trip a.val r 16 0 else s
    let d := Tab.get Digest.reset s.lake.digests a.val
    .next { s with lake := { s.lake with digests := Tab.put s.lake.digests a.val { d with flags := d.flags ||| 1 } } }

end Sys2Proof.Machine
end

