-- ==== Sys2Proof/Machine/Sleep.lean ====
section
/-! DEFINITION. Sleep and stack clocks: idle quires park, channels enter self-refresh, domains gate, and stacks wake (R137-R152). -/

namespace Sys2Proof.Machine

/-! ## Idle quires (R146, R147) -/

/-- The system leaf, or a leaf in no quire, stands for itself. -/
def State.parkLeaves (s : State) (q : Nat) : List Nat :=
  if (s.bank.quire q).qstate != .free then s.membersOf q (s.bank.quire q).qk
  else if (s.quireAt q).isNone && decide (q % 64 < (s.geom (stackOf q)).leaves) then [q]
  else []

/-- A leaf holds something that keeps its quire awake: entries, merge buffer entries (R333), or maintenance other than
SCRUB. -/
def State.leafBusy (s : State) (leaf : Nat) : Bool :=
  let l := s.leaf leaf
  let c := s.care leaf
  !l.queue.isEmpty || !l.inflight.isEmpty || !c.merge.isEmpty || (c.every ++ c.absorbed).any (fun m => m.act != .scrub)

/-- A range of n bytes lies at least in part in a quire, by a kept map. -/
def State.mapMeets (s : State) (m : MapSnap) (q addr n : Nat) : Bool :=
  m.windows.any (fun w => w.valid && w.qbase == q && decide (addr < w.wbase * 2 ^ 21 + s.windowLen w) &&
    decide (w.wbase * 2 ^ 21 < addr + n))

/-- A gather reads from a quire (R146): its descriptor, its index list or its table. -/
def State.gatherOn (s : State) (q : Nat) (g : Gather) : Bool :=
  s.mapMeets g.snap q g.addr 64 ||
    (g.phase != .desc && (s.mapMeets g.snap q g.desc.idxAddr (4 * g.desc.nidx) ||
      s.mapMeets g.snap q g.desc.tbase (4096 * (g.desc.trows * g.desc.rowBytes))))

/-- A feeder's running stream reads from a quire (R146). -/
def State.streamOn (s : State) (q : Nat) (f : Feeder) : Bool :=
  match f.stream with
  | some x => s.mapMeets x.snap q x.rec_.saddr (4096 * (x.rec_.slen + 1))
  | none => false

/-- A quire is idle (R146): no part, tile, gather, feeder stream or maintenance uses it. -/
def State.quireIdle (s : State) (q : Nat) : Bool :=
  let ls := s.parkLeaves q
  let part := s.parts.any (fun (_, p) => match s.req? p.req with
    | some r => if r.op = 6 then s.sysLeaf == some q else r.namesQuire && r.qbase == q
    | none => false)
  let open_ := Tab.some s.reqs (fun _ r => r.phase == .dataOpen && r.namesQuire && r.qbase == q)
  let tile := Tab.some s.lake.tiles (fun _ t => t.qbase == q)
  let accu := Tab.some s.lake.accus (fun _ j => ls.contains j.leaf)
  let gather := Tab.some s.lake.gathers (fun _ g => s.gatherOn q g)
  let feed := Tab.some s.feeders (fun _ f => s.streamOn q f)
  !part && !open_ && !tile && !accu && !gather && !feed && !ls.any s.leafBusy

/-- Close every bank of a leaf, once its runs and timing allow (R96, R147). -/
def State.closeBanks (s : State) (leaf : Nat) : State :=
  let k := stackOf leaf
  let l := s.leaf leaf
  s.setLeaf leaf { l with banks := Tab.mapVals l.banks (fun _ b =>
    if b.openRow.isSome then
      { b with openRow := none, claim := none, tPre := [l.busFree, b.tAct + s.cyc k 48 40, b.tRd + s.cyc k 6 5,
                                                        b.tWr + s.cyc k 24 20].foldl max s.now12 }
    else b) }

/-- A leaf parks (R147). -/
def State.parkLeaf (s : State) (leaf : Nat) : State :=
  (s.closeBanks leaf).setLeaf leaf { (s.closeBanks leaf).leaf leaf with parked := true }

/-- QUIRE_PARK (R147): a quire idle for SLEEP_IDLE parks its leaves. -/
def execQuirePark (q : Fin 1024) (s : State) : Host.Outcome State Fault Refusal :=
  let n := s.setting 0x5001 0
  if n = 0 || s.stopping || !(s.sup (stackOf q.val)).trained || !s.quireIdle q.val ||
      !(match Tab.find? s.idle q.val with
        | some t => decide (t + n * 1000 ≤ s.now)
        | none => false) then .next s
  else .next ((s.parkLeaves q.val).foldl State.parkLeaf s)

/-! ## Self-refresh (R148, R149, R405) -/

/-- Trained channels of a stack, by number in the stack. -/
def State.upChans (s : State) (k : Nat) : List Nat :=
  (List.range (s.geom k).channels).filter (fun c => !(s.chan (k * 32 + c)).cal.untrained)

/-- A stack whose trained channels are all in self-refresh is asleep: QCLK stops and the PLL goes to STANDBY (R149). -/
def State.settleSleep (s : State) (k : Nat) : State :=
  let c := s.sck k
  if (s.upChans k).all (fun x => c.sr.contains x) && !c.asleep then
    s.setSck k { c with asleep := true, asleepAt := s.clk.ticks, waking := false,
                        pll := if c.switching then c.pll else .standby }
  else s

/-- Channels of a stack enter self-refresh, every bank closed (R120). -/
def State.enterSR (s : State) (k : Nat) (cs : List Nat) : State :=
  let s := cs.foldl (fun s c => (s.closeBanks (k * 64 + 2 * c)).closeBanks (k * 64 + 2 * c + 1)) s
  let c := s.sck k
  (s.setSck k { c with sr := c.sr ++ cs.filter (fun x => !c.sr.contains x) }).settleSleep k

/-- The whole stack enters self-refresh and stays there (R140, R141, R157, R479). -/
def State.sleepAll (s : State) (k : Nat) : State :=
  let s := s.enterSR k (s.upChans k)
  s.setSck k { s.sck k with waking := false, pll := if (s.sck k).pll == .off then .off else .standby }

/-- No refresh-class command of a leaf is pending: no mitigation, no spill sweep, no refresh owed (R116, R148). -/
def State.refreshQuiet (s : State) (leaf : Nat) : Bool :=
  let p := s.prot leaf
  p.mits.isEmpty && p.sweep.isEmpty && !(s.leaf leaf).banks.any (fun (_, b) => decide (1 ≤ b.owed))

/-- SELF_REFRESH_ENTRY (R148, R405): a channel whose leaves are both parked, or a drained channel of a tripped stack, enters
self-refresh; open merge entries are closed first (R330). -/
def execSelfRefreshEntry (c : Fin 512) (s : State) : Host.Outcome State Fault Refusal :=
  let k := c.val / 32
  let x := s.sck k
  let ls := [2 * c.val, 2 * c.val + 1]
  let up := (s.sup k).trained && (s.upChans k).contains (c.val % 32) && x.pll == .locked && !x.switching && !x.asleep &&
    !x.sr.contains (c.val % 32)
  let tripped := (s.heatOf k).st == .tripped
  let drained := ls.all (fun l => (s.leaf l).queue.isEmpty && (s.leaf l).inflight.isEmpty)
  let quiet := ls.all (fun l => (s.leaf l).parked && s.refreshQuiet l) && drained && !(s.chan c.val).gap &&
    !s.retraining c.val && decide (0 < s.setting 0x5002 k) && !s.stopping
  if !up || !(quiet || (tripped && drained)) then .next s
  else if ls.any (fun l => !(s.care l).merge.isEmpty) then .next (ls.foldl State.closeAll s)
  else .next (s.enterSR k [c.val % 32])

/-! ## Gating and waking (R142-R145, R149, Table 5.4) -/

/-- Domains of a stack when on: CCH_s is always off on an HBM3E-class port (Table 5.2). -/
def State.allDoms (s : State) (k : Nat) : Nat := if s.hbm4 k then 7 else 3

/-- The stack's domains go off: transaction queues, write buffers, page histories and OWED are not kept (R144). -/
def State.gateOff (s : State) (k : Nat) : State :=
  let off (l : Leaf) : Leaf := { Leaf.reset with parked := l.parked }
  let s := { s with leaves := Tab.mapVals s.leaves (fun i l => if i / 64 = k then off l else l) }
  s.setSck k { s.sck k with doms := 0, missed := 0, pll := if (s.sck k).pll == .locked then .standby else (s.sck k).pll }

/-- DOMAIN_GATE_OFF (R149): a stack asleep for GATE_DELAY saves its retention state and its domains go off. -/
def execDomainGateOff (k : Fin 16) (s : State) : Host.Outcome State Fault Refusal :=
  let c := s.sck k.val
  let drained := s.leaves.all (fun (i, l) => i / 64 != k.val || (l.queue.isEmpty && l.inflight.isEmpty))
  if c.asleep && !c.waking && c.doms != 0 && !s.stopping && s.setting 0x5002 k.val == 2 && drained &&
      decide (c.phase = .none) && decide (c.asleepAt + s.setting 0x5003 k.val * 1000 ≤ s.clk.ticks) then
    .next (s.gateOff k.val)
  else .next s

/-- DOMAIN_POWER_GOOD (R142, R145, Table 5.4 steps 3 and 4): the domains of a waking stack are on, and the retained
row-protection state is aged by the ticks missed. -/
def execDomainPowerGood (k : Fin 16) (s : State) : Host.Outcome State Fault Refusal :=
  if !(s.sck k.val).waking || (s.sck k.val).doms != 0 then .next s
  else
    let s := s.ageDue k.val none
    let c := s.sck k.val
    .next ((s.setSck k.val { c with doms := s.allDoms k.val, missed := 0 }).ageStack k.val c.missed none)

/-- Corrections that went live while a stack slept are taken at its wake (Table 5.4 step 6). -/
def State.takeCorr (s : State) (c : Nat) : State :=
  match (s.chan c).corr with
  | none => s
  | some r =>
    let s := s.putCal c r
    let s := s.setChan c { s.chan c with corr := none, pendingCorr := false, stale := false, apply := false,
                                         loadOnce := false }
    s.retrainOver c true

/-- QCLK starts: stack time is loaded from the timebase (R138) and the channels leave self-refresh. -/
def State.startClock (s : State) (k : Nat) : State :=
  let s := (s.chansOf k).foldl State.takeCorr s
  let s := s.setSck k { s.sck k with pll := .locked, asleep := false, waking := false, stc := s.stOf k s.now }
  s.exitSR k (s.sck k).sr

/-- PLL_LOCKED (R140, Table 5.4 steps 5 to 7): a PLL locks; QCLK starts on a waking stack, and a stack asleep waits for its next
request. -/
def execPllLocked (k : Fin 16) (s : State) : Host.Outcome State Fault Refusal :=
  let c := s.sck k.val
  if s.clk.refLost || c.doms = 0 || c.switching then .next s
  else if c.waking && (c.pll == .locking || c.pll == .locked) then .next (s.startClock k.val)
  else if c.asleep && c.pll == .locking then .next (s.setSck k.val { c with pll := .locked })
  else .next s

/-- A part waits for a stack. -/
def State.waitsFor (s : State) (k : Nat) : Bool :=
  s.parts.any (fun (_, p) => p.stack == k && p.stage != .admitted) ||
    s.leaves.any (fun (i, l) => i / 64 == k && !l.queue.isEmpty)

/-- A wake that a hold refused or delayed goes out once the hold ends (R160, R408). -/
def State.rewake (s : State) (k : Nat) : State := if s.waitsFor k then s.wakeStack k else s

/-- A relock of a held PLL starts, unless the stack is tripped; a stack that is not held wakes as its requests ask (R141, R478). -/
def State.attempt (s : State) (k : Nat) : State :=
  let c := s.sck k
  if c.pllHold && (s.heatOf k).st != .tripped then
    s.setSck k { c with pllHold := false, fails := [], waking := true, pll := .locking }
  else s.rewake k

/-! ## Losses of clocks (R42, R140, R141) -/

/-- PLL_LOCK_LOSS (R141): a locked PLL that loses lock puts its stack into self-refresh and relocks; a third relock that
fails within 1 s holds the stack. -/
def execPllLockLoss (k : Fin 16) (relockFailed : Bool) (s : State) : Host.Outcome State Fault Refusal :=
  let c := s.sck k.val
  let lost := c.pll == .locked && !c.asleep
  let s := if lost then
      let s := s.note 0x05 1 k.val [(1, c.fails.length)]
      let s := s.sleepAll k.val
      s.setSck k.val { s.sck k.val with waking := true, pll := .locking }
    else s
  let c := s.sck k.val
  if !relockFailed || c.pll != .locking then .next s
  else
    let fails := s.now :: c.fails.filter (fun t => decide (s.now < t + 1000000000))
    if fails.length < 3 then .next (s.setSck k.val { c with fails := fails })
    else .next ((s.setSck k.val { c with fails := fails, pllHold := true, waking := false, pll := .standby }).note
      0x05 1 k.val [(1, 3)])

/-- REF_CLK_LOSS (R140): one alarm record; every awake stack enters self-refresh. -/
def execRefClkLoss (s : State) : Host.Outcome State Fault Refusal :=
  if s.clk.refLost then .next s
  else
    let s := s.note 0x04 0 0 []
    let s := { s with clk := { s.clk with refLost := true, refLostAt := s.clk.ticks, incLast := s.clk.inc } }
    .next ((List.range 16).foldl (fun s k =>
      if (s.sck k).pll == .locked then
        let s := s.sleepAll k
        s.setSck k { s.sck k with lostRef := true }
      else s) s)

/-- REF_CLK_RESTORED (R140): REF_CLK has run again for 1 ms; the PLLs that lost their reference relock, and each stack wakes at
its next request. -/
def execRefClkRestored (s : State) : Host.Outcome State Fault Refusal :=
  if !s.clk.refLost || decide (s.clk.ticks < s.clk.refLostAt + us 1000) then .next s
  else
    let s := { s with clk := { s.clk with refLost := false } }
    let s := { s with sclk := Tab.mapVals s.sclk (fun _ c =>
      if c.lostRef then { c with lostRef := false, pll := if c.pll == .standby && c.doms != 0 then .locking else c.pll } else c) }
    .next ((List.range 16).foldl State.rewake s)

/-- NT_LOCK_LOSS (R42): ALIGNED is cleared and one alarm record written; the timebase goes on at its last rate. -/
def execNtLockLoss (s : State) : Host.Outcome State Fault Refusal :=
  if !s.clk.ntLock then .next s
  else .next (({ s with clk := { s.clk with ntLock := false, aligned := false } }).note 0x03 0 0 [])

end Sys2Proof.Machine
end

