-- ==== Sys2Proof/Machine/OpPoint.lean ====
section
/-! DEFINITION. Operating points: transitions, the frequency switch, rollback and failure (R153-R161, R478). -/

namespace Sys2Proof.Machine

/-- A transition or rollback of a stack has ended: the commands that asked for it complete once every stack they name has
(R159, R478). A ticket's `result` holds the sheet of its go-live, its `mask` the stacks that rolled back. -/
def State.opFinish (s : State) (k : Nat) (ok : Bool) : State :=
  let c := s.sck k
  let s := s.setSck k { c with opTickets := [], phase := .none, optgt := c.opcur }
  c.opTickets.foldl (fun s tk =>
    match Tab.find? s.tickets tk with
    | none => s
    | some t =>
      let t := { t with left := t.left - 1, fail := if ok then t.fail else 1, mask := if ok then t.mask else t.mask + 2 ^ k }
      let s := { s with tickets := Tab.put s.tickets tk t }
      if t.left = 0 then s.finishAt tk (if t.fail = 0 then stOk else stHwFault) t.result (leBytes 2 t.mask) else s) s

/-- A frequency switch starts (R155): open merge entries are closed, runs in progress complete, every bank closes, every channel
enters self-refresh, and the PLL relocks. `phaseAt` is when the last run has completed. -/
def State.startSwitch (s : State) (k : Nat) (rollback : Bool) : State :=
  let s := (List.range 64).foldl (fun s i => (s.closeAll (k * 64 + i)).closeBanks (k * 64 + i)) s
  let stop := (List.range 64).foldl (fun t i => max t (s.leaf (k * 64 + i)).busFree) s.now12
  s.setSck k { s.sck k with phase := .switching rollback, phaseAt := (stop + 119) / 120, pll := .locking, sr := s.upChans k }

/-- The economy calibration derived from the nominal one by holding each delay in ps (R155). -/
def LaneCal.half (l : LaneCal) : LaneCal :=
  { l with dly := (l.dly + 1) / 2, ew := (l.ew + 1) / 2, left := (l.left + 1) / 2, right := (l.right + 1) / 2 }

def ChanCal.economy (c : ChanCal) : ChanCal :=
  { c with optag := 1, rx := Tab.mapVals c.rx (fun _ l => l.half), tx := Tab.mapVals c.tx (fun _ l => l.half) }

/-- The calibration of the economy point at the first switch to it, with a retrain of each channel (R155, Table 12.4). -/
def State.firstEconomy (s : State) (k : Nat) : State :=
  if (s.sck k).ecoDone then s
  else
    let s := s.setSck k { s.sck k with ecoDone := true }
    (s.chansOf k).foldl (fun s c =>
      let x := s.chan c
      if x.cal.untrained then s
      else (s.setChan c { x with eco := some (x.eco.getD x.cal.economy) }).requestRetrain c 7 0) s

/-- OP_POINT of a stack goes live (R154, R160, R478). `old` is the value it replaces. For a held PLL or a failed rollback it starts
a new attempt (R141, R157): at once, or for a raise once the rail is there. -/
def State.startTransition (s : State) (k pt old tk : Nat) : State :=
  let c := s.sck k
  let failed := c.opfail
  let c := { c with opTickets := if tk = 0 then c.opTickets else c.opTickets ++ [tk], optgt := pt, opOld := old,
                    opfail := false, phaseAt := s.clk.ticks }
  if !(s.sup k).trained then (s.setSck k { c with optgt := c.opcur }).opFinish k true
  else if pt = c.opcur && !failed then
    let s := s.setSck k c
    let s := if c.pllHold then s.attempt k else s
    s.opFinish k true
  else if pt = 0 then s.setSck k { c with phase := .rampUp }
  else if c.asleep then
    let s := (s.setSck k { c with phase := .rampDown, opcur := 1 }).firstEconomy k
    if c.pllHold then s.attempt k else s
  else (s.setSck k c).startSwitch k false

/-- FREQUENCY_SWITCH_END (R154, R155): the PLL has relocked; the channels leave self-refresh and admission resumes, or a
tripped stack stays in self-refresh (R161). OPCUR, the point in force of Table 5.6, turns here, also in a lowering whose rail has
still to follow (DESIGN CHOICE, unsafe: assumption 125). -/
def execFrequencySwitchEnd (k : Fin 16) (s : State) : Host.Outcome State Fault Refusal :=
  let c := s.sck k.val
  match c.phase with
  | .switching rb =>
    if s.clk.refLost || decide (s.clk.ticks < c.phaseAt) then .next s
    else
      let pt := if rb then 0 else c.optgt
      let up := s.upChans k.val
      let s := s.setSck k.val { c with opcur := pt, optgt := pt, phase := .rampDown, phaseAt := s.clk.ticks, sr := up }
      let s := if pt = 1 then s.firstEconomy k.val else s
      let s := if (s.heatOf k.val).st == .tripped then
          s.setSck k.val { s.sck k.val with asleep := true, asleepAt := s.clk.ticks, pll := .standby }
        else s.startClock k.val
      .next (if rb then s.opFinish k.val false else if pt = 1 then s else s.opFinish k.val true)
  | _ => .next s

/-- REGULATOR_ACK (R154, R156, R160): SCR_s reports its target voltage; an injected fault withholds the report (R485). -/
def execRegulatorAck (k : Fin 16) (s : State) : Host.Outcome State Fault Refusal :=
  let c := s.sck k.val
  let withheld := s.setSck k.val { c with withholdAck := false }
  match c.phase with
  | .rampUp =>
    if c.withholdAck then .next withheld
    else if c.asleep then .next (((s.setSck k.val { c with opcur := 0 }).opFinish k.val true).attempt k.val)
    else if c.opcur = 0 then .next (s.opFinish k.val true)
    else .next (s.startSwitch k.val false)
  | .rampDown => if c.withholdAck then .next withheld else .next ((s.opFinish k.val true).attempt k.val)
  | .rollUp =>
    if c.opcur = 0 then .next ((s.opFinish k.val false).attempt k.val)
    else if c.asleep then .next (((s.setSck k.val { c with opcur := 0 }).opFinish k.val false).attempt k.val)
    else .next (s.startSwitch k.val true)
  | .rollDown => .next ((s.opFinish k.val false).attempt k.val)
  | _ => .next s

/-- REGULATOR_ACK_TIMEOUT (R156, R239): behind a swap that is due, after 200 us the transition rolls back, the active OP_POINT is restored, one alarm record
is written and OPRB is set. -/
def execRegulatorAckTimeout (k : Fin 16) (s : State) : Host.Outcome State Fault Refusal :=
  let c := s.sck k.val
  let ramp := decide (c.phase = .rampUp) || decide (c.phase = .rampDown)
  if !ramp || s.swapDue || decide (s.clk.ticks < c.phaseAt + us 200) then .next s
  else
    let s := s.note 0x06 1 k.val [(1, 1)]
    let s := s.setBank { s.bank with opPoints := Tab.set 0 s.bank.opPoints k.val c.opOld }
    let s := s.setSck k.val { c with oprb := true, optgt := c.opOld, phaseAt := s.clk.ticks, withholdAck := false,
                                     phase := if c.opOld = 0 then .rollUp else .rollDown }
    .next (s.rewake k.val)

/-- ROLLBACK_ACK_TIMEOUT (R157): the old voltage is not acknowledged within 200 us either; the stack enters self-refresh and
stays there with OPFAIL set. -/
def execRollbackAckTimeout (k : Fin 16) (s : State) : Host.Outcome State Fault Refusal :=
  let c := s.sck k.val
  let roll := decide (c.phase = .rollUp) || decide (c.phase = .rollDown)
  if !roll || decide (s.clk.ticks < c.phaseAt + us 200) then .next s
  else
    let s := s.note 0x06 1 k.val [(1, 2)]
    let s := s.sleepAll k.val
    .next ((s.setSck k.val { s.sck k.val with opfail := true }).opFinish k.val false)

end Sys2Proof.Machine
end

