-- ==== Sys2Proof/Machine/Fabric.lean ====
section
/-! DEFINITION. Requests at a fabric or Felt port edge: the checks of R21 in their order, what an accepted request becomes, response credits, response beats and urgency levels. -/

namespace Sys2Proof.Machine

/-- A request record of a header that has not passed its checks. -/
def State.bareReq (s : State) (p : Nat) (h : Hdr) : Req :=
  { port := p, tag := h.tag, sid := h.sid, ten := h.ten, tint := h.tint, op := h.op, addr := h.addr, len := h.len,
    cidx := h.cidx, ccnt := h.ccnt, arrival := s.now, target := 0, need := 0, beats := [], qbase := 0, qk := 0, a := 0,
    region := Region.none, regIdx := 64, skew := Skew.none, step := 0, charge := 0, colour := .none, got := [],
    formed := 0, stained := false, phase := .live, status := 0, traced := false, grantAt := 0, servedAt := 0,
    stack := 0, places := 0, ctx := 0, lvl := 0, snap := MapSnap.none }

/-- Operations whose header is followed by data. -/
def writeType (op : Nat) : Bool := op == 1 || op == 2 || op == 3 || op == 4 || op == 6

/-- Answer a request that failed a check; `free` on an isolated port (R188). -/
def State.answerEdge (s : State) (p : Nat) (h : Hdr) (resp : Nat) (free : Bool) : State :=
  let id := s.nextId
  (({ s with nextId := id + 1 }).setReq id (s.bareReq p h)).answer id resp free

/-- Malformed fields (R14, R21 step 5, R542, Table 1.3). -/
def Hdr.malformed (h : Hdr) : Bool :=
  if h.op = 6 then h.addr / 16 != 0 || h.len != 0 || decide (5 < h.addr % 16)
  else if h.op = 7 then h.addr != 0 || h.len != 0
  else h.addr % 32 != 0 || decide (4096 < h.addr % 4096 + h.bytes) || (h.op == 5 && decide (1 < h.len)) ||
    (h.op == 4 && decide (h.ccnt < h.cidx))

/-- The checks of a converting or skewed region after R77 (R253, R565, R281). -/
def State.checkRegion (s : State) (h : Hdr) (r : Region) : Option Nat :=
  let o := h.addr % 4096
  let sh := r.shape
  let whole := r.skew = 0 || wholeRows sh (s.skewOf r) h.addr h.bytes
  if h.op = 3 || h.op = 4 then
    if r.sparse || (r.dfmt != 1 && r.dfmt != 2) then some 2 else none
  else if r.converting then
    if h.op = 2 then some 2
    else if h.op = 0 || h.op = 1 then
      if sh.area < o + h.bytes then some 3
      else if o % sh.unit != 0 || (o + h.bytes) % sh.unit != 0 then some 3
      else if !whole then some 3
      else none
    else none
  else if r.valid && h.op = 0 && !whole then some 3
  else none

/-- The window and permission checks of R77, then those of the region. Answers the code of the first failure. -/
def State.checkMap (s : State) (h : Hdr) : Option Nat :=
  let t := (s.bank.tenant h.ten).tstate
  if t != .active && t != .failed then some 2
  else if h.op = 6 || h.op = 7 then none
  else match s.windowOf h.ten h.addr with
    | none => some 3
    | some (_, w) =>
      let i := regionOf s.bank h.ten h.addr
      let r := regionAt s.bank h.ten i
      if (s.bank.quire w.qbase).qstate == .failed then some 4
      else if (h.op == 1 || h.op == 2 || h.op == 3 || h.op == 4) && (!w.write || (r.valid && r.rdonly)) then some 2
      else if (h.op == 3 || h.op == 4) && (!r.valid || !r.acc || (r.sfmt != 1 && r.sfmt != 2)) then some 2
      else s.checkRegion h r

/-- Steps 2-6 of R21: the code of the first failure. -/
def State.checkReq (s : State) (p : Nat) (h : Hdr) (felt : Bool) : Option Nat :=
  if (s.port p).isolated then some 4
  else if !s.pins.ready then some 5
  else if 8 ≤ h.op || (felt && h.op != 1 && h.op != 2) then some 2
  else if h.malformed then some 3
  else s.checkMap h

/-- One log record for a tenant's first ERR_RANGE and first ERR_PERM of a sheet (R78). -/
def State.firstOfSheet (s : State) (h : Hdr) (resp : Nat) : State :=
  let t := s.tenSt h.ten
  let n := s.clk.sheetNum
  let rec_ (s : State) : State :=
    s.note 0x40 6 h.ten [(1, if resp = 3 then 1 else 2), (2, h.sid), (1, h.op), (5, h.addr)]
  if resp = 3 && t.rangeSheet != some n then rec_ (s.setTenSt h.ten { t with rangeSheet := some n })
  else if resp = 2 && t.permSheet != some n then rec_ (s.setTenSt h.ten { t with permSheet := some n })
  else s

/-- Latch a MARK STEP payload into both halves' step registers (R543): that of the port's half first, so the copy that changed
last is the other half's. -/
def State.setStep (s : State) (ten half v : Nat) : State :=
  s.setTenSt ten { s.tenSt ten with step0 := v, step1 := v, stepHalf := 1 - half }

/-- The step register a port's half holds for a tenant. -/
def State.stepOf (s : State) (ten p : Nat) : Nat :=
  if portHalf p = 0 then (s.tenSt ten).step0 else (s.tenSt ten).step1

/-- Count a request at the trace filters; answers whether one of them traces it (R541). -/
def State.filters (s : State) (ten sid : Nat) : State × Bool :=
  [0, 1, 2, 3].foldl (fun (acc : State × Bool) i =>
    let (s, hit) := acc
    let f := Tab.num s.trace.filters i
    if bitAt f 0 && fld f 1 9 == ten && (bitAt f 22 || fld f 10 12 == sid) then
      let c := Tab.num s.trace.filtCnt i
      ({ s with trace := { s.trace with filtCnt := Tab.add s.trace.filtCnt i 1 } }, hit || c % 2 ^ fld f 23 4 == 0)
    else (s, hit)) (s, false)

/-- Charged bytes of a request (R192). -/
def State.chargeOf (s : State) (h : Hdr) : Nat :=
  if h.op = 7 then 0
  else if h.op = 6 then 32 + (s.bank.policer h.ten).ovh
  else h.bytes + (s.bank.policer h.ten).ovh

/-- An accepted and complete request becomes a part on its way to its stack (R165, R190). -/
def State.launch (s : State) (id : Nat) (r : Req) : State :=
  let masked := r.op == 2
  let fw := forwardWrite r.region r.ten r.regIdx r.step r.addr r.a r.bytes masked r.beats
  let a0 := r.a - r.addr % 4096
  let stack := r.stack
  let pieces : List Piece := match r.op with
    | 0 => s.readPieces r.qbase r.qk a0 (readBursts r.region r.addr r.bytes)
    | 1 | 2 => s.writePieces r.qbase r.qk fw.bursts
    | 3 | 4 => s.readPieces r.qbase r.qk a0 (readBursts r.region r.addr r.bytes)
    | _ => []
  let places := if r.op = 0 then (pieces.map (fun x => x.nb)).sum else 0
  let r := { r with places := places, phase := .live }
  let part : Part :=
    { req := id, stack := stack, stage := .ready, since := s.clk.ticks, pieces := pieces, left := 0, toServe := pieces.length,
      lvl := r.lvl, late := r.lvl == 3, bridge := .none, xbar := .none, inQuire := false,
      inLake := false }
  let s := (s.setReq id r).setPart (partKey id stack) part
  let s := s.meetSleep stack r.ten (if r.op = 6 then s.sysLeaf.toList else s.leavesOf r)
  s.mark (partKey id stack) false

/-- The record of a request that has passed the checks (R75, R76, R265); a GATH keeps the map it will read through. -/
def State.passedReq (s : State) (p : Nat) (h : Hdr) : Req :=
  let base := s.bareReq p h
  let (w, a) : Window × Nat := match s.windowOf h.ten h.addr with
    | some (_, w) => (w, h.addr - w.wbase * 2 ^ 21)
    | none => (Window.none, 0)
  let mapped := h.op < 6
  let i := if mapped then regionOf s.bank h.ten h.addr else 64
  let r := regionAt s.bank h.ten i
  let tint := if r.tovr then r.otint else h.tint
  let need := if h.op = 6 then 32 else if h.op = 0 || writeType h.op then r.delivered h.bytes else 0
  let stack := if mapped then stackOf (leafOf a w.qbase w.qk (s.geom (stackOf w.qbase)).leaves)
    else if h.op = 6 then stackOf (s.sysLeaf.getD 1023) else 0
  { base with tint := tint, target := s.targetOf p tint, need := need, qbase := if mapped then w.qbase else 0,
              qk := if mapped then w.qk else 0, a := if mapped then a else 0, region := r, regIdx := i,
              skew := s.skewOf r, step := s.stepOf h.ten p, charge := s.chargeOf h, stack := stack,
              snap := if h.op = 5 then s.snapOf h.ten else MapSnap.none }

/-- Take the request credits of headers and beats (R23). A beat restarts the watchdog (R185). -/
def State.takeCredits (s : State) (p hdrs beats : Nat) : State :=
  let q := s.port p
  s.setPort p { q with hcred := q.hcred - hdrs, dcred := q.dcred - beats, timer := if beats = 0 then q.timer else 0 }

/-- The oldest request of a port that still waits for data: it holds the port's request data lane (R10, R185). -/
def State.openReq (s : State) (p : Nat) : Option (Nat × Req) :=
  Tab.first s.reqs (fun _ r => r.port == p && r.phase == .dataOpen)

/-- Beats a request's payload takes (R11, R255). -/
def Req.wantBeats (r : Req) : Nat := (r.need / 32 + 7) / 8

/-- Beats that the open requests of a port still lack. -/
def State.laneMissing (s : State) (p : Nat) : Nat :=
  ((Tab.keep s.reqs (fun _ r => r.port == p && r.phase == .dataOpen)).map (fun x =>
    x.2.wantBeats - x.2.beats.length)).sum

/-- A request with all its data goes on its way; a STEP mark is latched first (R172, R543). -/
def State.dataDone (s : State) (id : Nat) (r : Req) : State :=
  if r.op = 7 then ((s.setReq id r).returnCredits r.port 1 0).fences r.port
  else
    let s := if r.op = 6 && r.addr % 16 = 3 then
        s.setStep r.ten (portHalf r.port) ((burstsOf r.beats 1).foldl (fun _ b => b.data % 2 ^ 64) 0)
      else s
    s.launch id { r with step := if r.op = 6 then s.stepOf r.ten r.port else r.step }

/-- Beats travel in the order of their headers (R10): they fill the open requests of the port from the oldest on, and each
that is complete goes on its way. A last beat whose DVLD does not match its payload, or beats that no header asked for,
isolate the port (R255). -/
def State.feedLane : Nat → State → Nat → List Beat → State
  | 0, s, _, _ => s
  | n + 1, s, p, beats =>
    match s.openReq p with
    | none => if beats.isEmpty then s else s.isolate p 4
    | some (id, r) =>
      let m := r.wantBeats - r.beats.length
      let r := { r with beats := r.beats ++ beats.take m }
      if r.beats.length < r.wantBeats then s.setReq id r
      else if !lastDvldOk r.beats (r.need / 32) then (s.setReq id r).isolate p 4
      else State.feedLane n (s.dataDone id { r with phase := .live }) p (beats.drop m)

/-- A request past check 6: it counts, is traced and sampled, and its beats take the data lane behind those that older
requests of the port still lack (R10, R185, R255). -/
def State.accepted (s : State) (p : Nat) (h : Hdr) (beats : List Beat) : State :=
  let id := s.nextId
  let s := { s with nextId := id + 1 }
  let r := s.passedReq p h
  let (s, traced) := s.filters h.ten h.sid
  let r := { r with traced := traced }
  let s := (s.samplePoint 0 0 r).samplePoint 3 0 r
  let s := s.takeCredits p 1 beats.length
  let s := s.window p 1 (32 * (beats.map (fun b => ((List.range 8).filter (fun j => bitAt b.dvld.toNat j)).length)).sum)
  let s := if writeType h.op then s.setReq id { r with phase := .dataOpen } else s.dataDone id r
  s.feedLane (s.reqs.length + 1) p beats

/-- The beats that came with a refused request fill what older requests of its port still lack; the rest is taken and
dropped (R10, Table 1.8; assumption 15). -/
def State.feedOlder (s : State) (p : Nat) (beats : List Beat) : State :=
  let mine := beats.take (s.laneMissing p)
  if mine.isEmpty then s else (s.takeCredits p 0 mine.length).feedLane (s.reqs.length + 1) p mine

/-- A header with its data arrives at a fabric or Felt port (R21-R24). A requester without the credits cannot send
(R23); such a header changes nothing (DESIGN CHOICE, safe: assumption 12). -/
def State.accept (s : State) (p : Nat) (hb : BitVec 128) (beats : List Beat) (felt : Bool) : State :=
  let q := s.port p
  if !q.live || (!q.isolated && (q.hcred = 0 || q.dcred < beats.length)) then s
  else if !hparOk hb || q.injectParity then
    (s.setPort p { q with injectParity := false }).isolate p 1
  else
    let h := hdrOf hb
    let odd := h.rsv != 0 || (h.op != 3 && h.op != 4 && (h.cidx != 0 || h.ccnt != 0))
    let s := if odd then s.setPort p { q with protoNote := min 0xFFFFFFFF (q.protoNote + 1) } else s
    let s := s.window p 0 1
    let past5 := !q.isolated && s.pins.ready && decide (h.op < 8) && !h.malformed && !(felt && h.op != 1 && h.op != 2)
    let s := if past5 && p < 128 then { s with aff := learn s.aff h.sid p } else s
    match s.checkReq p h felt with
    | some resp =>
      let s := (s.answerEdge p h resp q.isolated).firstOfSheet h resp
      if q.isolated then s else s.feedOlder p beats
    | none => s.accepted p h beats

/-! ## The commands -/

def execRd (p : Fin 128) (h : BitVec 128) (s : State) : Host.Outcome State Fault Refusal :=
  .next (s.accept p.val h [] false)

def execWr (p : Fin 128) (h : BitVec 128) (d : List Beat) (s : State) : Host.Outcome State Fault Refusal :=
  .next (s.accept p.val h d false)

def execWrm (p : Fin 128) (h : BitVec 128) (d : List Beat) (s : State) : Host.Outcome State Fault Refusal :=
  .next (s.accept p.val h d false)

def execAccu (p : Fin 128) (h : BitVec 128) (d : List Beat) (s : State) : Host.Outcome State Fault Refusal :=
  .next (s.accept p.val h d false)

def execAcco (p : Fin 128) (h : BitVec 128) (d : List Beat) (s : State) : Host.Outcome State Fault Refusal :=
  .next (s.accept p.val h d false)

def execGath (p : Fin 128) (h : BitVec 128) (s : State) : Host.Outcome State Fault Refusal :=
  .next (s.accept p.val h [] false)

def execMark (p : Fin 128) (h : BitVec 128) (d : List Beat) (s : State) : Host.Outcome State Fault Refusal :=
  .next (s.accept p.val h d false)

def execFence (p : Fin 128) (h : BitVec 128) (s : State) : Host.Outcome State Fault Refusal :=
  .next (s.accept p.val h [] false)

/-- FELT_SPILL (R34): a spill with the checks of a fabric write, on port 136 + f. -/
def execFeltSpill (f : Fin 2) (h : BitVec 128) (d : List Beat) (s : State) : Host.Outcome State Fault Refusal :=
  .next (s.accept (136 + f.val) h d true)

/-- RESPONSE_CREDIT_RETURN (R25, R185): response credits come back and the watchdog restarts. -/
def execResponseCreditReturn (p : Fin 138) (hdrs beats : Nat) (s : State) : Host.Outcome State Fault Refusal :=
  let q := s.port p.val
  if !q.live then .next s
  else .next (s.setPort p.val { q with rh := q.rh + hdrs, rd := q.rd + beats, timer := 0 })

/-- URG_LEVEL_CHANGE (R28, R170): the port drives a level, and every entry of the port is raised to it at least; one
that it brings to U2 may claim its bank (R95). -/
def execUrgLevelChange (p : Fin 128) (lvl : Fin 4) (s : State) : Host.Outcome State Fault Refusal :=
  let s := s.setPort p.val { s.port p.val with urg := lvl.val }
  let raise (leaf : Nat) (l : Leaf) : Leaf :=
    { l with queue := l.queue.map (fun e =>
      if e.port = p.val then { e with urg := s.urgOf (s.sck (stackOf leaf)).stc e } else e) }
  let hit := s.leaves.filter (fun (_, l) => l.queue.any (fun e => e.port = p.val))
  .next (hit.foldl (fun s (i, _) => s.claims i) { s with leaves := Tab.mapVals s.leaves raise })

/-- REQTRACE record of a traced request (Table 17.20). -/
def State.reqtrace (s : State) (r : Req) : State :=
  let body := leBytes 8 r.arrival ++ leBytes 8 r.grantAt ++ leBytes 8 r.servedAt ++ leBytes 8 s.now ++
    leBytes 2 r.ten ++ leBytes 2 r.sid ++ [r.tint, r.op, r.port, r.len] ++ leBytes 5 r.addr ++ [r.status] ++
    leBytes 2 (2 ^ r.stack) ++ List.replicate 16 0
  s.traceRec (s.mkRec 4 2 6 r.ten 3 body)

/-- A beat or header leaves (R17, R86): credits are spent, return-buffer places freed, and the last one ends the request
(R541). -/
def State.sendBeat (s : State) (p : Nat) (b : RespBeat) (rest : List RespBeat) : State :=
  let q := s.port p
  let s := s.setPort p { q with
    lane := rest, out := [b], rh := if b.free then q.rh else q.rh - 1, rd := if b.hasData && !b.free then q.rd - 1 else q.rd }
  let s := s.window p 2 (if b.hasData then 32 * ((List.range 8).filter (fun j => bitAt b.dvld.toNat j)).length else 0)
  match s.req? b.req with
  | none => s
  | some r =>
    let sent := r.formed - (s.port p).waitingBeats b.req
    let s := if r.op = 0 && b.hasData && !b.free then
        s.freePlaces r.stack p (freedPlaces r sent - freedPlaces r (sent - 1))
      else s
    if b.last then
      let s := if r.traced then s.reqtrace r else s
      let s := if (s.part? (partKey b.req r.stack)).isSome then s.setReq b.req { r with phase := .discarded }
        else s.dropReq b.req
      s.fences p
    else s

/-- A beat must wait for another response of its port: an earlier request of its stream with overlapping bytes has not
been answered whole (R26), or a beat of its own response stands before it. -/
def State.outOfTurn (s : State) (p : Nat) (before : List RespBeat) (b : RespBeat) : Bool :=
  before.any (fun x => x.req == b.req && x.ntf == b.ntf) ||
  match s.req? b.req with
  | none => false
  | some r => !b.ntf && decide (r.op < 6) && Tab.some s.reqs (fun j q => decide (j < b.req) && q.port == p && q.sid == r.sid &&
      decide (q.op < 6) && q.answered && q.phase != .discarded && q.overlaps r)

/-- Whether a beat of a port's lane may leave now: Dweten holds its credits, or it is a closing header of Deckle's, which
leaves without (R188). -/
def State.maySend (s : State) (p : Nat) (before : List RespBeat) (b : RespBeat) : Bool :=
  let q := s.port p
  (b.free || (q.live && decide (1 ≤ q.rh) && (!b.hasData || decide (1 ≤ q.rd)))) && !s.outOfTurn p before b

/-- The first beat of a lane that may leave, and the lane without it; `before` are the beats passed over. -/
def State.nextBeat (s : State) (p : Nat) (before : List RespBeat) : List RespBeat → Option (RespBeat × List RespBeat)
  | [] => none
  | b :: rest =>
    if s.maySend p before b then some (b, before ++ rest) else State.nextBeat s p (before ++ [b]) rest

/-- RESPONSE_BEAT_SEND (R17, R20, R26, R188): the first beat of the response lane that may leave does. -/
def execResponseBeatSend (p : Fin 138) (s : State) : Host.Outcome State Fault Refusal :=
  match s.nextBeat p.val [] (s.port p.val).lane with
  | none => .next s
  | some (b, rest) => .next (s.sendBeat p.val b rest)

end Sys2Proof.Machine
end

