-- ==== Sys2Proof/Machine/Feeder.lean ====
section
/-! DEFINITION. Feeder streams (R32, R33, R272-R277, R189) and the fills of the Felt ports (R36, R189, R300). -/

namespace Sys2Proof.Machine

/-! ## Feeder streams -/

/-- Delivered bytes of one page of a stream. -/
def Stream.pageBytes (x : Stream) : Nat := x.region.delivered 4096

/-- Delivered bytes of the whole stream. -/
def Stream.total (x : Stream) : Nat := (x.rec_.slen + 1) * x.pageBytes

/-- FD_GO (R33, R274): the stream starts with the slot record, the region and the step number in force. -/
def execFdGo (f : Fin 8) (slot : Fin 8) (s : State) : Host.Outcome State Fault Refusal :=
  let x := s.feeder f.val
  let r := s.bank.feedSlot (f.val * 8 + slot.val)
  if !s.pins.ready then .next s
  else if x.stream.isSome || !r.valid then
    .next (s.setFeeder f.val { x with reject := min 0xFFFFFFFF (x.reject + 1) })
  else if !(s.bank.feedPort f.val).fen then .next s
  else
    let i := regionOf s.bank r.ten r.saddr
    let g := regionAt s.bank r.ten i
    let st := if portHalf (128 + f.val) = 0 then (s.tenSt r.ten).step0 else (s.tenSt r.ten).step1
    let stream : Stream :=
      { slot := slot.val, rec_ := r, snap := s.snapOf r.ten, region := g, regIdx := i, skew := s.skewOf g, step := st, tGo := s.now, page := 0,
        issued := 0, buffer := [], beats := 0, marks := [r.grate * (s.now + 1000 : Nat)], least := none }
    .next (s.setFeeder f.val { x with stream := some stream, stall := 0 })

/-- Page reads of a feeder port that have not reached its buffer yet. -/
def State.feedReads (s : State) (f : Nat) : List (Nat × Req) :=
  s.reqs.filter (fun (_, r) => r.op == 32 && r.ctx == f && r.phase == .live)

/-- Move complete pages, in order, from the return buffer into the feed buffer (R274); a reserved pattern field raises its stain
events (R262). -/
def State.feedPages : Nat → State → Nat → State
  | 0, s, _ => s
  | n + 1, s, f =>
    match (s.feeder f).stream with
    | none => s
    | some x =>
      let addr := x.rec_.saddr + 4096 * x.page
      match (s.feedReads f).find? (fun (_, r) => r.addr == addr) with
      | none => s
      | some (id, r) =>
        let v := r.view
        let outs := (List.range (v.size / 32)).map (v.burst r.word)
        if outs.any (fun o => o.isNone) then s
        else
          let os := outs.filterMap (fun o => o)
          let bs := os.map (fun (b, st, _) => (BitVec.ofNat 256 b, st, r.ccnt == 1))
          let s := s.cntT r.ten 36 ((os.map (fun (_, _, o) => o)).sum)
          let s := (s.patternEvents r).freePlaces r.stack r.port r.places
          let s := (s.dropPart (partKey id r.stack)).dropReq id
          let s := s.setFeeder f { s.feeder f with stream := some { x with page := x.page + 1, buffer := x.buffer ++ bs } }
          State.feedPages n s f

/-- FEEDER_PAGE_READ_ISSUE (R275, R276): the next page of the stream is read when the feed buffer has room for it. -/
def execFeederPageReadIssue (f : Fin 8) (s : State) : Host.Outcome State Fault Refusal :=
  let fd := s.feeder f.val
  match fd.stream with
  | none => .next s
  | some x =>
    let held := x.buffer.length * 32 + (x.issued - x.page) * x.pageBytes
    let addr := x.rec_.saddr + 4096 * x.issued
    if x.issued > x.rec_.slen || decide (held + x.pageBytes > 262144) then .next s
    else match s.placeIn x.snap addr with
      | none => .next s
      | some (w, a) =>
        let before := x.issued * x.pageBytes
        let paced := decide (before + x.pageBytes ≤ x.rec_.grate * (s.now - x.tGo) + 65536)
        let due := x.tGo + 1000 + before / x.rec_.grate
        let sk := stackOf (leafOf a w.qbase w.qk (s.geom (stackOf w.qbase)).leaves)
        let ps := s.readPieces w.qbase w.qk a (readBursts x.region addr 4096)
        let id := s.nextId
        let q : Req :=
          { port := 128 + f.val, tag := 0, sid := 0, ten := x.rec_.ten, tint := x.rec_.tint, op := 32, addr := addr,
            len := 127, cidx := 0, ccnt := (!paced).toNat, arrival := s.now, target := max 64 (due - 500 - s.now),
            need := x.pageBytes, beats := [], qbase := w.qbase, qk := w.qk, a := a, region := x.region,
            regIdx := x.regIdx, skew := x.skew, step := x.step, charge := x.pageBytes, colour := .green, got := [],
            formed := 0, stained := false, phase := .live, status := 0, traced := false, grantAt := 0, servedAt := 0,
            stack := sk, places := (ps.map (fun y => y.nb)).sum, ctx := f.val, lvl := 0, snap := MapSnap.none }
        let p : Part :=
          { req := id, stack := sk, stage := .ready, since := s.clk.ticks, pieces := ps, left := 0, toServe := ps.length,
            lvl := 0, late := false, bridge := .none, xbar := .none, inQuire := false,
            inLake := false }
        let s := (({ s with nextId := id + 1 }).setReq id q).setPart (partKey id sk) p
        let s := s.setFeeder f.val { fd with stream := some { x with issued := x.issued + 1 } }
        let s := (s.cntT q.ten 37 1).meetSleep sk q.ten (ps.map (fun y => y.leaf))
        .next (s.enterGate (partKey id sk))

/-- Judge a stream's rate at a beat (R277): `v` is how far delivery lies behind GRATE after it. It falls short where `v` exceeds the
value at some beat 64 KiB or more before; the measure then starts afresh, so a shortfall counts once (DESIGN CHOICE: assumption
124). -/
def Stream.judge (x : Stream) (v : Int) : Stream × Bool :=
  let (marks, least) := if x.marks.length < 128 then (x.marks, x.least)
    else match x.marks with
      | m :: rest => (rest, some (match x.least with | some l => min l m | none => m))
      | [] => ([], x.least)
  if (match least with | some l => decide (l < v) | none => false) then ({ x with marks := [v], least := none }, true)
  else ({ x with marks := marks ++ [v], least := least }, false)

/-- How far a stream's delivery lies behind GRATE now, in bytes, measured from FD_GO + 1 us (R277). -/
def State.lag (s : State) (x : Stream) (beats : Nat) : Int :=
  (x.rec_.grate * max s.now (x.tGo + 1000) : Nat) - (512 * beats : Nat)

/-- Measure a stream's rate from now on: one of R277's conditions has not held until now. -/
def State.unjudged (s : State) (x : Stream) : Stream := { x with marks := [s.lag x x.beats], least := none }

/-- What the port drives for the next beat of a stream (R274). -/
def Stream.drive (x : Stream) : FeedBeat :=
  let out := x.buffer.take 16
  { data := BitVec.ofNat 4096 (out.foldr (fun (b, _, _) a => b.toNat + a * 2 ^ 256) 0), aen := x.rec_.aen,
    sos := x.beats == 0, eos := decide (x.total ≤ (x.beats + 1) * 512),
    stain := BitVec.ofNat 16 ((out.zipIdx.map (fun ((_, st, _), i) => if st then 2 ^ i else 0)).sum) }

/-- Free the DRR window of the unpaced bursts that a feed buffer holds in its first n (Table 7.4). -/
def State.freeUnpaced (s : State) (f n : Nat) : State :=
  match (s.feeder f).stream with
  | none => s
  | some x => s.drrFree (1080 + f) (32 * ((x.buffer.take n).filter (fun (_, _, u) => u)).length)

/-- A beat is taken by every enabled array (R32): 512 B leave, and the rate is judged (R277). -/
def State.feedBeat (s : State) (f : Nat) (x : Stream) : State :=
  let s := (s.freeUnpaced f 16).cntG 22 512
  let fd := s.feeder f
  let y := { x with buffer := x.buffer.drop 16, beats := x.beats + 1 }
  let (y, short) := y.judge (s.lag x y.beats)
  let b := x.drive
  s.setFeeder f { fd with stall := 0, lateCnt := if short then min 0xFFFFFFFF (fd.lateCnt + 1) else fd.lateCnt,
                          out := some b, stream := if b.eos then none else some y }

/-- FEEDER_BEAT (R32, R274): FD_RDY is sampled, and a beat advances when every enabled array is ready. -/
def execFeederBeat (f : Fin 8) (rdy : BitVec 4) (s : State) : Host.Outcome State Fault Refusal :=
  let s := s.setFeeder f.val { s.feeder f.val with rdy := rdy.toNat, out := none }
  let s := State.feedPages 64 s f.val
  match (s.feeder f.val).stream with
  | none => .next s
  | some x =>
    if rdy.toNat &&& x.rec_.aen ≠ x.rec_.aen then
      .next (s.setFeeder f.val { s.feeder f.val with stream := some (s.unjudged x) })
    else if x.buffer.length < 16 then .next s
    else .next (s.feedBeat f.val x)

/-- Discard the page reads of a feeder port: parts not admitted are withdrawn, data of the others is dropped. -/
def State.dropFeed (s : State) (f : Nat) : State :=
  (s.reqs.filter (fun (_, r) => r.op == 32 && r.ctx == f)).foldl (fun s (id, r) => s.dropRead id r) s

/-- A stream ends before its last beat: its buffer is empty and its page reads are discarded. -/
def State.endStream (s : State) (f : Nat) : State :=
  let s := match (s.feeder f).stream with
    | some x => s.freeUnpaced f x.buffer.length
    | none => s
  (s.setFeeder f { s.feeder f with stream := none, stall := 0, out := none }).dropFeed f

/-- FEEDER_STALL_TIMEOUT (R189): the stream ends, its slot is freed, and an alarm record names the port. -/
def execFeederStallTimeout (f : Fin 8) (s : State) : Host.Outcome State Fault Refusal :=
  let fd := s.feeder f.val
  match fd.stream with
  | none => .next s
  | some x =>
    if fd.stall < s.pwdT (128 + f.val) then .next s
    else
      let slots := Tab.set FeederSlot.none s.bank.feedSlots (f.val * 8 + x.slot) FeederSlot.none
      let s := s.setBank { s.bank with feedSlots := slots }
      .next ((s.endStream f.val).note 0x02 4 f.val [(1, x.slot)])

/-! ## Fills -/

/-- A fill ends (R36, R189, R300): its window bytes return, an ERR is counted and logged, and a gather whose fills are
all acknowledged completes. -/
def State.endFill (s : State) (f tag : Nat) (x : Fill) (ok : Bool) : State :=
  let p := 136 + f
  let q := s.port p
  let s := s.setPort p { q with fills := Tab.erase q.fills tag }
  let s := s.drrFree (1072 + f) (32 * x.data.length)
  let s := if ok then s else s.note 0x44 5 f [(2, x.ten), (2, x.sid)]
  match Tab.find? s.lake.gathers x.key with
  | none => s
  | some g =>
    let g := { g with fillsOut := g.fillsOut - 1, errFills := g.errFills + (!ok).toNat }
    let s := s.setGather x.key g
    s.lake.gathers.foldl (fun s (k, _) => State.gatherGo 65537 s k) s

/-- FELT_FILL_ACK (R36). -/
def execFeltFillAck (f : Fin 2) (tag : Fin 1024) (ok : Bool) (s : State) : Host.Outcome State Fault Refusal :=
  match Tab.find? (s.port (136 + f.val)).fills tag.val with
  | none => .next s
  | some x => .next (s.endFill f.val tag.val x ok)

/-- FELT_FILL_ACK_TIMEOUT (R189): a fill unacknowledged for PWD_T ends as one answered ERR. -/
def execFeltFillAckTimeout (f : Fin 2) (tag : Fin 1024) (s : State) : Host.Outcome State Fault Refusal :=
  match Tab.find? (s.port (136 + f.val)).fills tag.val with
  | none => .next s
  | some x =>
    if s.clk.ticks < x.since + s.pwdT (136 + f.val) then .next s
    else .next (s.endFill f.val tag.val x false)

end Sys2Proof.Machine
end

