-- ==== Sys2Proof/Machine/Port.lean ====
section
/-! DEFINITION. Port edges: the port watchdog (R185, R186, R189), and release from reset and re-enabling (R24, R188, R470). -/

namespace Sys2Proof.Machine

/-- The request data lane of a port is open and its requester holds a data credit (R185). -/
def State.laneOpen (s : State) (p : Nat) : Bool :=
  (s.openReq p).isSome && decide (0 < (s.port p).dcred)

/-- Dweten holds a response header or beat of a fabric port for want of a credit (R185). -/
def State.laneHeld (s : State) (p : Nat) : Bool :=
  let q := s.port p
  decide (p < 128) && q.lane.any (fun b => !b.free && (q.rh == 0 || (b.hasData && q.rd == 0)))

/-- The watchdog timer of a port runs: it holds its value during a debug stop (R185). -/
def State.watchdogRuns (s : State) (p : Nat) : Bool :=
  (s.port p).live && !(s.port p).isolated && (s.laneOpen p || s.laneHeld p)

/-- PORT_WATCHDOG_EXPIRY (R186, R239): a watchdog that has reached PWD_T isolates its port, behind a swap that is due. The record names the data stall where
both lanes are stalled (DESIGN CHOICE, unsafe: assumption 112). -/
def execPortWatchdogExpiry (p : Fin 138) (s : State) : Host.Outcome State Fault Refusal :=
  if !s.swapDue && s.watchdogRuns p.val && decide (s.pwdT p.val ≤ (s.port p.val).timer) then
    .next (s.isolate p.val (if s.laneOpen p.val then 2 else 3))
  else .next s

/-- The initial request credits of a fabric or Felt port (R24). -/
def Port.released (q : Port) : Port :=
  { q with live := true, isolated := false, hcred := 128, dcred := 256, rh := 0, rd := 0, timer := 0 }

/-- PORT_EDGE_RESET_RELEASE (R24): a port edge leaves reset, and Dweten returns the initial request credits; a feeder port
has none. -/
def execPortEdgeResetRelease (p : Fin 138) (s : State) : Host.Outcome State Fault Refusal :=
  let q := s.port p.val
  if q.live || s.boot.coreReset then .next s
  else if decide (128 ≤ p.val) && decide (p.val < 136) then .next (s.setPort p.val { q with live := true })
  else .next (s.setPort p.val q.released)

/-- A port record goes live (R470): ENABLE 1 re-enables an isolated port, ENABLE 0 isolates without an alarm record. -/
def State.portLive (s : State) (p : Nat) (enable : Bool) : State :=
  let q := s.port p
  if enable then (if q.isolated then s.setPort p q.released else s) else s.isolate p 0

end Sys2Proof.Machine
end

