-- ==== Sys2Proof/Machine/Outage.lean ====
section
/-! DEFINITION. What ends with a stack or a block: outstanding work at a reset (Table 16.3), stained writes (R494), and a stack that loses power or is fenced (R70, R410, R498, R499). -/

namespace Sys2Proof.Machine

/-- Member quires of a stack: base leaves of the quires in use that hold one of its leaves. -/
def State.quiresOn (s : State) (k : Nat) : List Nat :=
  (s.bank.quires.filter (fun (b, q) => q.qstate != .free && (s.membersOf b q.qk).any (fun l => l / 64 == k))).map
    (fun x => x.1)

/-- A gather ends unfinished: a stream's GATH is answered, and a gather to Felt sends its notification with ERROR. -/
def State.breakGather (s : State) (key : Nat) : State :=
  match Tab.find? s.lake.gathers key with
  | none => s
  | some g =>
    if g.prefetch || (g.desc.out && g.phase != .desc && g.phase != .index) then (s.dropGather key).gatherNote { g with errFills := g.errFills + 1 }
    else s.failGather key g 4

/-- A feeder stream ends and its slot is kept (Table 16.3). -/
def State.breakFeed (s : State) (f : Nat) : State :=
  s.endStream f

/-- End one request at a stack whose block is reset or has lost its power: parts not admitted are refused with `resp`, reads
are answered ERR_ISOLATED after the beats already sent, and an admitted write stands as answered. -/
def State.breakReq (s : State) (id : Nat) (r : Req) (resp : Nat) : State :=
  let key := partKey id r.stack
  let waits : Bool := match s.part? key with | some p => p.stage != .admitted | none => false
  if r.op = 34 then s
  else if r.op = 33 then s.breakGather r.ctx
  else if r.op = 32 then s.breakFeed r.ctx
  else if waits then s.refuse key resp
  else
    let s := s.dropPart key
    match r.phase with
    | .discarded => s.dropReq id
    | .live =>
      if r.op = 0 then
        let q := s.port r.port
        let sent := r.formed - q.waitingBeats id
        let s := s.freePlaces r.stack r.port (r.places - freedPlaces r sent)
        let s := s.setPort r.port { s.port r.port with lane := q.lane.filter (fun b => b.req != id) }
        s.answer id 4 false
      else if r.op = 5 then s
      else s.answer id 4 false
    | _ => s

/-- Outstanding work at a stack ends (Table 16.3); its gather contexts and accumulates end with it. -/
def State.breakStack (s : State) (k resp : Nat) : State :=
  let s := s.reqs.foldl (fun s (id, r) => if r.stack == k && r.phase != .dataOpen then s.breakReq id r resp else s) s
  let s := s.lake.gathers.foldl (fun s (key, _) => if key / 8 = k then s.breakGather key else s) s
  { s with lake := { s.lake with accus := Tab.keep s.lake.accus (fun _ j => j.stack != k) } }

/-- Write bursts of a stack admitted and not yet written, with the granules of its accumulates: leaf, address, bursts
(R494). -/
def State.unwritten (s : State) (k : Nat) : List (Nat × Nat × Nat) :=
  let queued := s.leaves.flatMap (fun (i, l) =>
    if i / 64 = k then (l.queue.filter (fun e => e.wr)).map (fun e => (i, e.la, e.nb)) else [])
  let merged := s.cares.flatMap (fun (i, c) => if i / 64 = k then c.merge.map (fun m => (i, m.la, 1)) else [])
  let accus := s.lake.accus.filterMap (fun (_, j) => if j.stack = k then some (j.leaf, j.la, j.nb) else none)
  (queued ++ merged ++ accus).dedup

/-- A burst answered OK and not written is stored stained with its stored data bits kept (R494). -/
def State.stainRun (s : State) (leaf la nb : Nat) : State :=
  (List.range (4 * nb)).foldl (fun s i =>
    let d := (s.storedWord leaf (la + 8 * i)).1
    s.storeWord leaf (la + 8 * i) d (checkByte d true)) s

/-- The Lake reads of old values that a stack still owes to open tiles. -/
def State.tilesAsk (s : State) (k : Nat) : State :=
  s.lake.tiles.foldl (fun s (id, t) => if t.stack = k && !t.oldReady then s.tileReads id t else s) s

/-- The zero-fills of a stack's leaves go on where they stood. -/
def State.zeroAsk (s : State) (k : Nat) : State := (List.range 64).foldl (fun s i => s.feedZero (k * 64 + i)) s

/-- Queues, write buffers and merge buffers of a stack are discarded (R333). -/
def State.clearLeaves (s : State) (k : Nat) : State :=
  { s with
    leaves := Tab.mapVals s.leaves (fun i l => if i / 64 = k then { Leaf.reset with parked := l.parked } else l),
    cares := Tab.mapVals s.cares (fun i c => if i / 64 = k then { c with merge := [] } else c),
    arbs := Tab.mapVals s.arbs (fun i a => if i = k then { Arb.reset with lateLogged := a.lateLogged } else a) }

/-- Maintenance requests of a leaf end unfinished. -/
def State.breakCare (s : State) (leaf : Nat) : State :=
  let c := s.care leaf
  let s := s.setCare leaf { Care.reset with lost := c.lost }
  (c.every ++ c.absorbed).foldl (fun s m => s.finish m.ticket stHwFault noArg none) s

/-- A stack loses its power: its quires fail, its work ends with ERR_ISOLATED, and nothing of it is kept (R70, R410). -/
def State.stackDown (s : State) (k : Nat) : State :=
  let s := (s.quiresOn k).foldl State.failQuire s
  let s := s.breakStack k 4
  let s := (List.range 64).foldl (fun s i => s.breakCare (k * 64 + i)) s
  let s := s.clearLeaves k
  let s := (s.chansOf k).foldl (fun s c => (s.retrainOver c false).setChan c Chan.reset) s
  let s := s.opFinish k false
  let s := (s.tickets.filter (fun (_, t) => t.opcode == 0x5A && t.mask == k)).foldl (fun s (tk, t) =>
    s.finishAt tk stHwFault t.result noArg) s
  let s := s.setSck k { StackClk.reset with oprb := (s.sck k).oprb }
  let s := { s with prots := Tab.keep s.prots (fun i _ => i / 64 != k) }
  let u := s.sup k
  s.setSup k { u with enable := false, good := false, trained := false, training := false,
                      imported := false, quickDone := false, rstOutLow := true }

/-- A stack is fenced (R499): its bit of FENCE is set and one alarm record names the stack and the cause, 1 power fault,
2 the owner's fence. -/
def State.fence (s : State) (k cause : Nat) : State :=
  let s := s.note 0x0F 1 k [(1, cause)]
  let s := s.stackDown k
  let t := (s.sup k).clearTicket
  let s := s.setSup k { s.sup k with fenced := true, clearTicket := 0, recoverAt := none }
  if t = 0 then s else s.finish t stHwFault noArg none

end Sys2Proof.Machine
end

