-- ==== Sys2Proof/Machine/Heat.lean ====
section
/-! DEFINITION. The housekeeping round: temperatures, throttling, trips, energy accounting and throttle notifications (R393-R416, R419, R424-R427), and the restart of a tripped stack. -/

namespace Sys2Proof.Machine

/-! ## THERM_STAT, records and status -/

/-- Set a THERM_STAT bit and the bit of the stack that raised it (Table 13.9). -/
def State.therm (s : State) (bit k : Nat) : State :=
  { s with regs := { s.regs with thermStat := (s.regs.thermStat ||| 2 ^ bit) ||| 2 ^ (16 + k) } }

/-- Write a field of a backup register (Table 16.4). -/
def State.setBkp (s : State) (reg lo n v : Nat) : State :=
  let b := Tab.num s.boot.bkp reg
  { s with boot := { s.boot with bkp := Tab.set 0 s.boot.bkp reg (b - put (fld b lo n) lo n + put v lo n) } }

/-- A signed value in n bits. -/
def signed (n : Nat) (i : Int) : Nat := (i % (2 ^ n : Int)).toNat

/-- Rise of a stack in 1/8 degree per ms (R398). -/
def Heat.rise (h : Heat) : Int :=
  match h.temp, h.temp2 with
  | some a, some b => a - b
  | _, _ => 0

/-- A THROTTLE record (R412, Table 13.3); kinds 5 to 8 are alarms. `chip` marks a THR_LEVEL change. -/
def State.throttleRec (s : State) (kind k : Nat) (chip : Bool) : State :=
  let h := s.heatOf k
  let p := s.pow k
  let body := leBytes 8 s.now ++ [kind, if chip then 0xFF else k, s.pins.thrLevel, h.lt, p.lp, h.demand] ++
    leBytes 2 (signed 16 (h.temp.getD 0)) ++ leBytes 2 (signed 16 h.rise) ++
    [s.pins.thrAck, s.clk.aligned.toNat + 2 * h.fallback.toNat + 4 * h.disagree.toNat] ++ List.replicate 12 0
  if decide (5 ≤ kind) && decide (kind ≤ 8) then
    s.alarmRec (s.mkRec 0x11 0 (if chip then 0 else 1) (if chip then 0 else k) 2 body)
  else s.logRec (s.mkRec 0x11 1 (if chip then 0 else 1) (if chip then 0 else k) 2 body)

/-! ## Sources and temperature (R394-R398) -/

/-- A reading in 1/8 degree is valid between -40 and 150 degrees. -/
def validTemp (x : Option Int) : Option Int := x.filter (fun v => decide (-320 ≤ v) && decide (v ≤ 1200))

/-- Sources of a stack in a round: diode A, diode B and, while PHY_s is on, the IEEE 1500 readout. -/
def State.sources (s : State) (k : Nat) (r : Round) : List (Nat × Option Int) :=
  let off := (s.heatOf k).injTemp
  let on := bitAt (s.sck k).doms 0
  let src (x : Option Int) : Option Int := (validTemp x).map (fun v => v + (if 0 < (s.heatOf k).injRounds then off else 0))
  [(0, src ((r.adc[2 * k]?).getD none)), (1, src ((r.adc[2 * k + 1]?).getD none))] ++
    (if on then [(2, src ((r.readout[k]?).getD none))] else [])

/-- A source's standing: an alarm record when it first fails, and not again until 10 valid rounds in a row (R394). -/
def State.sourceCheck (s : State) (k : Nat) (src : Nat × Option Int) : State :=
  let h := s.heatOf k
  let bad := h.badSrc.contains src.1
  match src.2 with
  | none =>
    let s := s.setHeat k { h with badSrc := if bad then h.badSrc else h.badSrc ++ [src.1], srcOk := Tab.erase h.srcOk src.1 }
    if bad then s else s.note 0x08 1 k [(1, 1), (1, src.1)]
  | some _ =>
    if !bad then s
    else
      let n := Tab.num h.srcOk src.1 + 1
      if n < 10 then s.setHeat k { h with srcOk := Tab.set 0 h.srcOk src.1 n }
      else s.setHeat k { h with badSrc := h.badSrc.filter (fun x => x != src.1), srcOk := Tab.erase h.srcOk src.1 }

/-- DISAGREE (R395): one alarm record when it first arises, and not again until 10 rounds of agreement. -/
def State.disagreeCheck (s : State) (k : Nat) (vs : List Int) : State :=
  let h := s.heatOf k
  let hi := vs.foldl max (vs.headD 0)
  let lo := vs.foldl min (vs.headD 0)
  if 40 < hi - lo then
    let s := s.setHeat k { h with disagree := true, disagreeOk := 0 }
    let s := s.therm 4 k
    if h.disagreeOk < 10 then s else s.note 0x08 1 k [(1, 2), (1, 0)]
  else s.setHeat k { h with disagree := false, disagreeOk := min 10 (h.disagreeOk + 1) }

/-- Form T of a stack (R394-R398). -/
def State.formTemp (s : State) (k : Nat) (r : Round) (suspect : Bool) : State :=
  let src := s.sources k r
  let s := src.foldl (fun s x => s.sourceCheck k x) s
  let vs := src.filterMap (fun x => x.2)
  let s := s.disagreeCheck k vs
  let th : Option Int := ((r.adc[32 + k / 4]?).getD none).map (fun v => v + 8 * (s.setting 0x5208 0 : Int))
  let t : Option Int := if vs.isEmpty then th else some (vs.foldl max (vs.headD 0))
  let fault := suspect || src.any (fun x => x.2.isNone)
  let h := s.heatOf k
  let s := s.setHeat k { h with temp := t, temp1 := h.temp, temp2 := h.temp1, snsFault := fault, fallback := vs.isEmpty,
                                injRounds := h.injRounds - 1 }
  if fault then s.therm 5 k else s

/-- A stack without supply or with a fenced port has no temperature (R397). -/
def State.noTemp (s : State) (k : Nat) : State :=
  let h := s.heatOf k
  s.setHeat k { h with temp := none, temp1 := h.temp, temp2 := h.temp1, snsFault := false, fallback := false,
                       disagree := false, riseHigh := false, demand := 0, injRounds := h.injRounds - 1 }

/-! ## Throttling (R400-R402) -/

/-- Demanded level (R400), of T and the rise. -/
def State.demandOf (s : State) (k : Nat) (t rise : Int) : Nat :=
  let thr : Int := 8 * (s.setting 0x5201 k : Nat)
  let step : Int := 8 * (s.setting 0x5202 k : Nat)
  let hyst : Int := 8 * (s.setting 0x5203 k : Nat)
  let fast := decide (4 * (s.setting 0x5204 k : Int) < rise)
  if thr ≤ t || fast then
    let a := if thr ≤ t then ((t - thr) / step).toNat else 0
    min 7 (1 + a + fast.toNat)
  else if decide (0 < (s.heatOf k).demand) && decide (thr - hyst ≤ t) then 1
  else 0

/-- THR_LEVEL and THR_REQ follow the highest demand (R401, R41). -/
def State.thrLevel (s : State) (k : Nat) : State :=
  let lvl := (List.range 16).foldl (fun n i => max n (s.heatOf i).demand) 0
  if lvl = s.pins.thrLevel then s
  else
    let rose := s.pins.thrLevel = 0
    let s := { s with pins := { s.pins with thrReq := decide (0 < lvl), thrLevel := lvl } }
    let s := if rose then s.therm 0 k else s
    s.throttleRec 1 k true

/-- The throttle state machine (R402). -/
def State.throttleStep (s : State) (k : Nat) : State :=
  let h := s.heatOf k
  let t := h.temp.getD 0
  let now := s.clk.ticks
  match h.st with
  | .idle => if 0 < h.demand then s.setHeat k { h with st := .grace, tg := now, tgTemp := t } else s
  | .grace =>
    if h.demand = 0 then s.setHeat k { h with st := .idle }
    else if now - h.tg < s.setting 0x5205 0 * 50000 then s
    else if decide (s.pins.thrLevel ≤ s.pins.thrAck) && decide (t < h.tgTemp) then
      s.setHeat k { h with tg := now, tgTemp := t }
    else ((s.setHeat k { h with st := .enforce, lt := 1, tl := now }).therm 1 k).throttleRec 2 k false
  | .enforce =>
    let lt := if h.lt < h.demand then h.lt + 1
      else if decide (h.demand < h.lt) && decide (ms (s.setting 0x5206 0) ≤ now - h.tl) then h.lt - 1 else h.lt
    let tl := if lt = h.lt then h.tl else now
    let s := s.setHeat k { h with lt := lt, tl := tl }
    if lt = 0 && h.demand = 0 then (s.setHeat k { s.heatOf k with st := .idle }).throttleRec 4 k false
    else if lt = h.lt then s else s.throttleRec 3 k false
  | .tripped => s

/-! ## Trips (R405-R410) -/

/-- Trip a stack (R405-R409): its wakes are refused, a wake in progress stops, and the fourth trip within an hour holds
it. -/
def State.tripStack (s : State) (k : Nat) : State :=
  let h := s.heatOf k
  let trips := s.now :: h.trips.filter (fun t => decide (s.now < t + 3600000000000))
  let held := decide (4 ≤ trips.length)
  let s := s.setHeat k { h with st := .tripped, trips := trips, cool := none, held := held, released := false }
  let c := s.sck k
  let s := if c.waking then s.setSck k { c with waking := false, pll := .standby } else s
  let s := ((s.therm 2 k).cntG 29 1).throttleRec 5 k false
  if held then (s.therm 9 k).throttleRec 7 k false else s

/-- Restart a tripped stack (R408). -/
def State.restartStack (s : State) (k : Nat) : State :=
  let h := s.heatOf k
  let s := s.setHeat k { h with st := .enforce, lt := s.setting 0x5207 0, tl := s.clk.ticks, cool := none, held := false,
                                released := false }
  (s.throttleRec 6 k false).rewake k

/-- Trip conditions and the 90 degree watch of a tripped stack (R405, R408-R410). -/
def State.tripCheck (s : State) (k : Nat) : State :=
  let h := s.heatOf k
  match h.temp with
  | none => s
  | some t =>
    let s := if decide (840 ≤ t) && h.st != .tripped then s.tripStack k
      else if h.st == .tripped then
        let cool := if t < 720 then some (h.cool.getD s.clk.ticks) else none
        let s := s.setHeat k { h with cool := cool }
        if h.held && h.released && decide (t < 720) then s.restartStack k else s
      else s
    if t < 920 then s
    else
      let s := { s with pins := { s.pins with thermtrip := true } }
      let s := ((s.setBkp 0 13 1 1).setBkp 0 14 4 k).therm 3 k
      let s := s.setHeat k { s.heatOf k with critical := true }
      (s.throttleRec 8 k false).stackDown k

/-- THERMAL_RESTART (R408): a tripped stack that is not held and has stayed below 90 degrees for 100 ms restarts. -/
def execThermalRestart (k : Fin 16) (s : State) : Host.Outcome State Fault Refusal :=
  let h := s.heatOf k.val
  match h.cool with
  | none => .next s
  | some t => if h.st == .tripped && !h.held && decide (t + ms 100 ≤ s.clk.ticks) then .next (s.restartStack k.val) else .next s

/-- Retrain trigger 1 (R371, R372). -/
def State.tempTriggers (s : State) (k : Nat) (t : Int) : State :=
  (s.chansOf k).foldl (fun s c =>
    let tag := (s.chan c).active (s.sck k).opcur |>.temp
    let d := t - 8 * tag
    if s.channelAsleep c || !(s.sup k).trained then s
    else if 8 * (s.setting 0x5805 0 : Int) < (if d < 0 then -d else d) then s.requestRetrain c 1 0 else s) s

/-- The PHY of an awake stack trims the bias currents of each channel by the factory coefficients times T's distance from the
channel's TEMP tag, to the equivalent of at most 2 taps and 1 Vref step (R416). -/
def State.trimBias (s : State) (k : Nat) (t : Int) : State :=
  let c := s.sck k
  if !(s.sup k).trained || c.asleep || c.pll != .locked then s
  else (s.chansOf k).foldl (fun s ch =>
    let x := s.chan ch
    let d := t - 8 * (x.active c.opcur).temp
    let (a, v) := Config.biasTrim ch
    s.setChan ch { x with bias := (max (-2048) (min 2048 (a * d)), max (-1024) (min 1024 (v * d))) }) s

/-- One stack's part of a round: T, the refresh thresholds, the demand, the throttle and the trips (R399). -/
def State.stackRound (s : State) (k : Nat) (r : Round) (suspect : Bool) : State :=
  let u := s.sup k
  let s := s.setPow k { s.pow k with vdd := (((r.adc[36 + k]?).getD none).getD (s.pow k).vdd).toNat }
  if !u.enable || u.fenced then s.noTemp k
  else
    let s := s.formTemp k r suspect
    match (s.heatOf k).temp with
    | none => s
    | some t =>
      let c := s.sck k
      let twice := if 8 * (s.setting 0x4001 k : Int) ≤ t then true
        else if t < 8 * (s.setting 0x4002 k : Int) then false else c.ref2xNext
      let s := s.setSck k { c with ref2xNext := twice }
      let h := s.heatOf k
      let fast := decide (4 * (s.setting 0x5204 k : Int) < h.rise)
      let s := s.setHeat k { h with demand := s.demandOf k t h.rise, riseHigh := fast }
      let s := if fast then s.therm 6 k else s
      let s := ((s.thrLevel k).throttleStep k).tripCheck k
      (s.tempTriggers k t).trimBias k t

/-! ## Energy (R419, R424-R427) -/

/-- G_p of a regulator pair, in thousandths, from the measured pair energy over the round (R419). -/
def State.formGp (s : State) (p : Nat) (r : Round) : State :=
  let a := (r.adc[36 + 2 * p]?).getD none
  let b := (r.adc[37 + 2 * p]?).getD none
  let i := (r.adc[52 + p]?).getD none
  let raw := (s.pow (2 * p)).roundRaw + (s.pow (2 * p + 1)).roundRaw
  match a, b, i with
  | some a, some b, some i =>
    if raw = 0 then s
    else
      let g := (i * (a + b) * 2500).toNat * 1000 / raw
      let v := max 800 (min 1250 g)
      let s := [2 * p, 2 * p + 1].foldl (fun s k => s.setPow k { s.pow k with gp := v }) s
      if v = g then s
      else ([2 * p, 2 * p + 1].foldl (fun s k => s.therm 8 k) s).note 0x0A 8 p [(2, v)]
  | _, _, _ => s

/-- Charge pJ to a tenant's dynamic (index 40) or background (42) energy, with E_TOT; remainders are kept in pJ. -/
def State.chargeEnergy (s : State) (t idx pj : Nat) : State :=
  let x := s.tenSt t
  let old := if idx = 40 then x.ePj else x.bPj
  let n := old + pj
  let x := if idx = 40 then { x with ePj := n % 1000000 } else { x with bPj := n % 1000000 }
  ((s.setTenSt t x).cntT t idx (n / 1000000)).cntT t 44 (n / 1000000)

/-- Charge pJ to E_UNASSIGNED. -/
def State.chargeUnassigned (s : State) (pj : Nat) : State :=
  let n := s.cnt.remainUn + pj
  ({ s with cnt := { s.cnt with remainUn := n % 1000000 } }).cntG 0 (n / 1000000)

/-- Tenants that hold a quire. -/
def State.holders (s : State) (base : Nat) : List Nat :=
  ((s.bank.windows.filter (fun (_, w) => w.valid && w.qbase == base)).map (fun x => x.1 / 8)).dedup

/-- Give a leaf's background share to its quire's holders, else to E_UNASSIGNED (R426). -/
def State.chargeLeaf (s : State) (leaf pj : Nat) : State :=
  match s.quireAt leaf with
  | some (b, q) =>
    let hs := s.holders b
    if (q.qstate == .active || q.qstate == .draining) && !hs.isEmpty then
      let s := hs.foldl (fun s t => s.chargeEnergy t 42 (pj / hs.length)) s
      s.chargeUnassigned (pj % hs.length)
    else s.chargeUnassigned pj
  | none => s.chargeUnassigned pj

/-- Present leaves of the package. -/
def State.presentLeaves (s : State) : Nat := ((List.range 16).map (fun k => (s.geom k).leaves)).sum

/-- Energy accounting of a round (R424-R427): dynamic charges, background shares, and E_CHIP as their sum. -/
def State.accountEnergy (s : State) (rails : Nat) : State :=
  let before := s
  let railPj := rails * 50000000
  let present := max 1 s.presentLeaves
  let total := (List.range 16).foldl (fun (acc : State × Nat) k =>
    let s := acc.1
    let p := s.pow k
    let n := (s.geom k).leaves
    let g (x : Nat) : Nat := x * p.gp / 1000
    let s := p.tenEnergy.foldl (fun s (t, e) => s.chargeEnergy t 40 (g e)) s
    let dyn := (p.tenEnergy.map (fun (_, e) => g e)).sum
    let s := s.chargeUnassigned (g p.zeroEnergy)
    let rail := if s.hbm4 k then railPj / 1024 else railPj / present
    let share (i : Nat) : Nat := (if n = 0 then 0 else g p.bgRound / n) + g (Tab.num p.leafEnergy i) + rail
    let leaves := if s.hbm4 k then 64 else n
    let s := (List.range leaves).foldl (fun s i => s.chargeLeaf (k * 64 + i) (share i)) s
    let bg := ((List.range leaves).map share).sum
    let s := s.setPow k { s.pow k with tenEnergy := [], leafEnergy := [], zeroEnergy := 0, bgRound := 0, roundRaw := 0 }
    (s, acc.2 + dyn + g p.zeroEnergy + bg)) (before, 0)
  let s := total.1
  let n := s.cnt.remainChip + total.2
  ({ s with cnt := { s.cnt with remainChip := n % 1000000 } }).cntG 2 (n / 1000000)

/-! ## Throttle state words (R413, Table 13.6) -/

/-- Stacks that hold a leaf of a tenant's quires. -/
def State.stacksOf (s : State) (t : Nat) : List Nat :=
  ((List.range 8).flatMap (fun w =>
    let x := s.bank.window t w
    if x.valid then ((s.membersOf x.qbase x.qk).map stackOf).dedup else [])).dedup

/-- The throttle state word of a tenant. -/
def State.throttleWord (s : State) (t : Nat) : Nat :=
  let ks := s.stacksOf t
  let enf (k : Nat) : Bool := decide (0 < (s.heatOf k).lt)
  let cap (k : Nat) : Bool :=
    let p := s.pow k
    (decide (0 < p.ladder) && decide (p.actLim < s.setting 0x2604 k)) || decide (0 < p.lp)
  let trip (k : Nat) : Bool := (s.heatOf k).st == .tripped
  put s.pins.thrLevel 0 3 + put (ks.foldl (fun n k => max n (s.arb k).cap) 0) 3 3 + put (ks.any enf).toNat 6 1 +
    put (ks.any cap).toNat 7 1 + put (ks.any trip).toNat 8 1 + put (ks.any (fun k => (s.heatOf k).held)).toNat 9 1 +
    (ks.map (fun k => if enf k || cap k || trip k then 2 ^ (16 + k) else 0)).sum

/-- Update every tenant's word and notify its subscribed streams of a change. -/
def State.throttleWords (s : State) : State :=
  (List.range 512).foldl (fun s t =>
    let x := s.tenSt t
    let w := s.throttleWord t
    if w = x.throttle then s
    else
      let s := s.setTenSt t { x with throttle := w, tsTime := s.now }
      let body := leBytes 8 s.now ++ leBytes 4 w ++ leBytes 4 x.throttle ++ List.replicate 16 0
      x.subs.foldl (fun s sid => s.notify 5 sid t body) s) s

/-! ## Compensation (R415) -/

/-- Bin of the mean of the four thermistors. -/
def compBin (r : Round) : Option Nat :=
  let ts := (List.range 4).filterMap (fun i => (r.adc[32 + i]?).getD none)
  if ts.length < 4 then none else some (min 31 ((ts.sum / 32 + 20) / 5).toNat)

/-- The table's error for a bin, or for the nearest filled bin, in parts per 10^9. -/
def compError (t : Tab Int) (b : Nat) : Int :=
  let d (i : Nat) : Nat := (i - b) + (b - i)
  (t.foldl (fun (acc : Option (Nat × Int)) (i, e) =>
    match acc with
    | none => some (i, e)
    | some (j, _) => if d i < d j then some (i, e) else acc) none).elim 0 (fun x => x.2)

/-- The AON clock's error is measured while REF_CLK runs, and corrects the timebase while it is lost. -/
def State.compensate (s : State) (r : Round) : State :=
  match compBin r with
  | none => s
  | some b =>
    if !s.clk.refLost then { s with clk := { s.clk with comp := Tab.put s.clk.comp b r.aonError } }
    else
      let e := compError s.clk.comp b
      { s with clk := { s.clk with inc := (((s.clk.incLast : Int) * (1000000000 + e)) / 1000000000).toNat } }

/-! ## The round -/

/-- HOUSEKEEPING_ROUND (R393): one whole round: stack temperatures in order, G_p, energy and the tenants' words. Channel 63
reads the bandgap's difference in 0.1 %. A round is due every 500 us of the AON timer. -/
def execHousekeepingRound (r : Round) (s : State) : Host.Outcome State Fault Refusal :=
  if s.pins.porst || decide (s.clk.ticks < s.regs.roundNext) then .next s
  else
    let s := { s with pins := { s.pins with thrAck := r.thrAck.toNat } }
    let ref := ((r.adc[63]?).getD none).getD 0
    let suspect := decide (10 < ref) || decide (ref < -10)
    let s := if suspect then s.note 0x08 1 0 [(1, 3), (1, 0)] else s
    let s := (List.range 16).foldl (fun s k => s.stackRound k r suspect) s
    let rail (i : Nat) : Nat := (((r.adc[i]?).getD none).getD 0).toNat
    let rails := rail 60 + rail 61 + rail 62
    let s := { s with regs := { s.regs with railPower := rails, roundAt := s.now, roundNext := s.regs.roundNext + us 500 } }
    let s := (List.range 8).foldl (fun s p => s.formGp p r) s
    let s := (s.accountEnergy rails).throttleWords
    .next (s.compensate r)

end Sys2Proof.Machine
end

