-- ==== Sys2Proof/Machine/PowerCap.lean ====
section
/-! DEFINITION. The power estimate and the power ladder (R419-R423), and supply droops (R417, R418). -/

namespace Sys2Proof.Machine

/-- Background energy of a stack in 10 us, in pJ (R419): self-refresh power while it is asleep, else that of its awake
leaves; nothing without supply. -/
def State.backgroundOf (s : State) (k : Nat) : Nat :=
  let u := s.sup k
  let c := s.sck k
  if !u.enable || u.fenced then 0
  else
    let row (i : Nat) : Nat := Config.energy u.stype c.opcur i
    if c.asleep then row 5 * 10 else row 4 * 10 * ((s.geom k).leaves - 2 * c.sr.length)

/-- Energy in pJ of the 10 us windows that make up PCAP_WIN (R420). -/
def State.capWindows (s : State) : Nat := 10 * s.setting 0x520C 0

/-- Power of a window sum in tenths of a watt, with the number of 10 us windows. -/
def tenthWatts (sum n : Nat) : Nat := sum / (1000000 * n)

/-- One stack's raw estimate of the last 10 us and its window (R419, R420). -/
def State.estimate (s : State) (k : Nat) : State :=
  let p := s.pow k
  let bg := s.backgroundOf k
  let raw := p.raw + bg
  s.setPow k { p with roundRaw := p.roundRaw + raw, bgRound := p.bgRound + bg, raw := 0, act := 0, rds := 0, wrs := 0,
                      refs := 0, win := (raw * p.gp / 1000 :: p.win).take s.capWindows }

/-- Activate limit and power cap level of a ladder position (R421). -/
def ladderLimit (amax k : Nat) : Nat := if k ≤ 15 then amax * (16 - k) / 16 else amax / 16
def ladderLp (k : Nat) : Nat := k - 15

/-- Move a stack's ladder to a position; entering level 16 and falling back below it are recorded (R412). -/
def State.setLadder (s : State) (k n : Nat) : State :=
  let p := s.pow k
  let s := s.setPow k { p with ladder := n, actLim := ladderLimit (if s.hbm4 k then 2048 else 1024) n, lp := ladderLp n }
  if decide (p.ladder < 16) && decide (16 ≤ n) then s.throttleRec 9 k false
  else if decide (16 ≤ p.ladder) && decide (n < 16) then s.throttleRec 10 k false
  else s

/-- One stack's step of the ladder: `over` and `under` say how the package average lies to its cap (R421). -/
def State.ladderStep (s : State) (k : Nat) (over_ under : Bool) : State :=
  let u := s.sup k
  if !u.enable || u.fenced || !u.good || !u.trained then s
  else
    let p := s.pow k
    let n := s.capWindows
    let cap := s.setting 0x520B k * 10000000 * n
    if decide (cap < p.win.sum) || over_ then s.setLadder k (min (p.ladder + 1) 22)
    else if decide (100 * p.win.sum < 95 * cap) && under then s.setLadder k (p.ladder - 1)
    else s.setLadder k p.ladder

/-- POWER_LADDER_STEP (R419-R422): one 10 us mark: the estimates, the package average (kept under index 16), and every
powered and trained stack's ladder. -/
def execPowerLadderStep (s : State) : Host.Outcome State Fault Refusal :=
  if s.pins.porst || decide (s.clk.ticks < s.regs.ladderNext) then .next s
  else
    let n := s.capWindows
    let s := (List.range 16).foldl (fun s k => s.estimate k) s
    let est := ((List.range 16).map (fun k => (s.pow k).win.headD 0)).sum + s.regs.railPower * 1000000
    let g := s.pow 16
    let s := s.setPow 16 { g with win := (est :: g.win).take n }
    let total := (s.pow 16).win.sum
    let cap := s.setting 0x520A 0 * 10000000 * n
    let s := { s with regs := { s.regs with pkgPavg := min 16383 (tenthWatts total n), ladderNext := s.regs.ladderNext + us 10 } }
    .next ((List.range 16).foldl (fun s k => s.ladderStep k (decide (cap < total)) (decide (100 * total < 95 * cap))) s)

/-! ## Droop (R417, R418) -/

/-- DROOP: a stretch starts, unless one is under way. -/
def execDroop (k : Fin 16) (s : State) : Host.Outcome State Fault Refusal :=
  let p := s.pow k.val
  if p.stretch || !(s.sup k.val).good then .next s
  else .next ((s.setPow k.val { p with stretch := true }).tally k.val 0x1040 1 false)

/-- The stretch of a stack ends after n cycles: its time counter adds a quarter, rounded up (R418). -/
def State.endStretch (s : State) (k n : Nat) : State :=
  let c := s.sck k
  (s.setPow k { s.pow k with stretch := false }).setSck k { c with stc := (c.stc + (n + 3) / 4) % 2 ^ 32 }

/-- DROOP_LONG: the droop outlasts 64 stretched cycles. -/
def execDroopLong (k : Fin 16) (s : State) : Host.Outcome State Fault Refusal :=
  if !(s.pow k.val).stretch then .next s
  else
    let s := (((s.endStretch k.val 64).tally k.val 0x1044 1 true).therm 7 k.val).note 0x09 1 k.val [(1, 64)]
    .next (s.setLadder k.val (min ((s.pow k.val).ladder + 1) 22))

/-- DROOP_END: the supply recovers after n stretched cycles. -/
def execDroopEnd (k : Fin 16) (cycles : Fin 65) (s : State) : Host.Outcome State Fault Refusal :=
  if (s.pow k.val).stretch then .next (s.endStretch k.val cycles.val) else .next s

end Sys2Proof.Machine
end

