-- ==== Sys2Proof/Machine/Shaping.lean ====
section
/-! DEFINITION. Shaping events: marker refills, row-miss debt, time gates and deficit round robin (R194, R197, R200, R203-R209). -/

namespace Sys2Proof.Machine

/-- Keys of the parts in a stage that a test picks, in the order they came to it. -/
def State.heldKeys (s : State) (f : Part → Req → Bool) : List Nat :=
  (sortBy (fun (a b : Nat × Nat) => decide (a.2 < b.2) || (a.2 == b.2 && decide (a.1 ≤ b.1)))
    (s.parts.filterMap (fun (key, p) =>
      match s.req? p.req with
      | none => none
      | some r => if f p r then some (key, p.since) else none))).map (fun x => x.1)

/-- MARKER_REFILL (R197, R200): one marker refills its buckets and colours again the parts it holds. -/
def execMarkerRefill (half : Fin 2) (t : Fin 512) (s : State) : Host.Outcome State Fault Refusal :=
  let s := s.refillMarker t.val half.val
  let held := s.heldKeys (fun p r => p.stage == .redHeld && r.ten == t.val && portHalf r.port == half.val)
  .next (held.foldl (fun s key => s.mark key true) s)

/-- DEBT_CHARGE (R194): the oldest ACT's debt reaches the marker and the shared-quire stage; what both floors discard most
is counted lost. -/
def execDebtCharge (s : State) : Host.Outcome State Fault Refusal :=
  match s.debts with
  | [] => .next s
  | d :: rest =>
    let s := { s with debts := rest }
    let (s, l1) := s.debtMarker d.ten d.half d.bytes
    let (s, l2) := match d.quire with
      | some q => s.debtFlow q d.ten d.tint d.bytes
      | none => (s, 0)
    .next (s.cntT d.ten 34 (max l1 l2))

/-- GATE_RELEASE (R203-R205): each part held at the quire's gate whose tint is open and whose guard fits goes on. -/
def execGateRelease (q : Fin 1024) (s : State) : Host.Outcome State Fault Refusal :=
  let held := s.heldKeys (fun p r => p.stage == .gated && r.qbase == q.val)
  .next (held.foldl (fun s key =>
    match s.part? key with
    | none => s
    | some p => match s.req? p.req with
      | none => s
      | some r => if s.gateOpen r.qbase r.qk r.tint (partCharge r) then s.enterQuire key else s) s)

/-! ## Deficit round robin (R206, R207) -/

/-- A visit ends: the flow goes to the round's end, or leaves it; a completed round credits what is idle. -/
def State.endVisit (s : State) (d : Drr) (f : Flow) (stays : Bool) (busy : List (Nat × Nat)) : Drr :=
  let d := if f.leaving && !stays then { d with flows := d.flows.filter (fun g => g.ten != f.ten) }
    else d.setFlow { f with visited := false }
  let round := d.round.filter (fun t => t != f.ten) ++ (if stays then [f.ten] else [])
  let left := d.left - 1
  let d := { d with round := round, left := if left = 0 then round.length else left }
  if left = 0 then s.creditIdle d busy else d

/-- A subflow's turn ends: it keeps its deficit and the next tint of the tenant has its turn. -/
def Flow.endSub (f : Flow) (u : SubFlow) : Flow :=
  let f := f.setSub { u with visited := false }
  { f with inner := f.inner.filter (fun t => t != u.tint) ++ [u.tint], innerLeft := f.innerLeft - 1 }

/-- A released part goes on; a released fill leaves on its Felt port and its gather goes on. -/
def State.drrRelease (s : State) (key : Nat) (r : Req) : State :=
  if r.op = 34 then State.gatherGo 65537 (s.sendFill key) r.ctx else s.drrPassed key

/-- The procedure of R207, at most n releases. -/
def State.drrGo : Nat → Nat → State → Nat → State
  | 0, _, s, _ => s
  | fuel + 1, n, s, k =>
    let d := s.drr k
    let ws := s.waitingAt k
    if n = 0 || decide (s.drrWindow k ≤ d.occ) then s
    else
      let busy := s.busyAt k
      let d := { d with round := d.round.filter (fun t => busy.any (fun b => b.1 == t)) }
      match d.round with
      | [] => s
      | t :: _ =>
        let f := s.flow d t
        let c : Int := s.ceiling t
        let mine := (busy.filter (fun b => b.1 == t)).map (fun b => b.2)
        let f := if f.visited then f
          else { f with deficit := min c (f.deficit + s.quantum t), visited := true, innerLeft := mine.length }
        let inner := f.inner.filter (fun x => mine.contains x)
        let inner := inner ++ mine.filter (fun x => !inner.contains x)
        let f := { f with inner := inner }
        let tint := inner.headD 0
        let u := f.sub tint (s.ceiling t)
        let u := if u.visited then u
          else { u with deficit := min c (u.deficit + s.subQuantum tint), visited := true }
        match ws.find? (fun (_, _, r) => r.ten == t && r.tint == tint) with
        | none => s
        | some (key, _, r) =>
          let q : Int := partCharge r
          if q ≤ f.deficit && q ≤ u.deficit then
            let u := { u with deficit := u.deficit - q }
            let f := { f with deficit := f.deficit - q }.setSub u
            let rest := ws.filter (fun (j, _, _) => j != key)
            let subLeft := rest.any (fun (_, _, x) => x.ten == t && x.tint == tint)
            let flowLeft := rest.any (fun (_, _, x) => x.ten == t)
            let f := if subLeft then f else f.endSub u
            let busy := (rest.map (fun (_, _, x) => (x.ten, x.tint))).dedup
            let d := { d with occ := d.occ + partCharge r }
            let d := if flowLeft then d.setFlow f else s.endVisit d f false busy
            State.drrGo fuel (n - 1) ((s.setDrr k d).drrRelease key r) k
          else if u.deficit < q then
            let f : Flow := f.endSub u
            let d := if f.innerLeft = 0 then s.endVisit d f true busy else d.setFlow f
            State.drrGo fuel n (s.setDrr k d) k
          else State.drrGo fuel n (s.setDrr k (s.endVisit d (f.setSub u) true busy)) k

/-- DRR_RELEASE (R207): one pass of a stage, at most four releases. -/
def execDrrRelease (stage : Fin 1088) (s : State) : Host.Outcome State Fault Refusal :=
  .next (State.drrGo 4096 4 s stage.val)

end Sys2Proof.Machine
end

