-- ==== Sys2Proof/Machine/Sheets.lean ====
section
/-! DEFINITION. Sheet boundaries: the swap of the landing sets and what each record's go-live does, the drain and zero-fill of quires, and the timebase's error limit (R139, R202, R209-R221, R232-R243, R65-R71). -/

namespace Sys2Proof.Machine

/-! ## Tenants and quires on their way to FREE (R66-R68) -/

/-- An emptied page: CLOSED, its rings empty; MB_CTRL, the flags and the epoch stay. -/
def Page.emptied (p : Page) : Page := { Page.reset with ctrl := p.ctrl, tailErr := p.tailErr, evLost := p.evLost, epoch := p.epoch }

/-- Forget the commands of a page that are still owed a completion. -/
def State.dropTickets (s : State) (page : Nat) : State := { s with tickets := Tab.keep s.tickets (fun _ t => t.page != page) }

/-- A tenant's flows at the path stages are made anew, at its ceiling (R572). -/
def State.pathFlows (s : State) (t : Nat) : State :=
  (List.range 64).foldl (fun s i =>
    let k := 1024 + i
    let d := s.drr k
    s.setDrr k (d.setFlow (s.flow { d with flows := [] } t))) s

/-- A tenant enters ACTIVE from FREE (R441, R516, R543, R571, R572): counters and step registers 0, buckets full, flows at
their ceiling. -/
def State.openTenant (s : State) (t : Nat) : State :=
  let x := s.tenSt t
  let s := s.setTenSt t { x with step0 := 0, step1 := 0, stepHalf := 0 }
  let s := { s with cnt := { s.cnt with tenant := Tab.keep s.cnt.tenant (fun k _ => k / 64 != t) } }
  (s.fillMarkers t).pathFlows t

/-- The CLOSE commands of a FREE tenant complete, and its page closes (R442). -/
def State.closeTickets (s : State) (t : Nat) : State :=
  let mine := s.tickets.filter (fun (_, k) => k.page == t && k.opcode == 2)
  if mine.isEmpty then s
  else
    let s := mine.foldl (fun s (tk, k) => s.finishAt tk stOk k.result []) s
    let p := s.page t
    s.setPage t (if p.pstate == .opened then { p with pstate := .closed, gen := 0, caps := 0 } else p)

/-- A tenant enters FREE (R68, R482, R523, R527, R547): TGEN advances, subscriptions, rights and armed samples end, and its CLOSE commands
complete. -/
def State.freeTenant (s : State) (t : Nat) : State :=
  let r := s.bank.tenant t
  let s := s.setBank (s.bank.setTenant t { r with tstate := .free, tgen := (r.tgen + 1) % 65536 })
  let s := s.setTenSt t { s.tenSt t with umap := false, debugRights := false, subs := [] }
  let mine (u : Sampler) : Bool := decide (u.sel < 2 ^ 14) && u.ten == t
  let s := { s with trace := { s.trace with samplers := Tab.keep s.trace.samplers (fun _ u => !mine u) } }
  s.closeTickets t

/-- Nothing of a tenant is outstanding. -/
def State.tenantDrained (s : State) (t : Nat) : Bool :=
  !s.reqs.any (fun (_, r) => r.ten == t && r.phase != .done) && !s.parts.any (fun (_, p) =>
    match s.req? p.req with | some r => r.ten == t | none => false)

/-- An own quire of a tenant is still draining or filling. -/
def State.ownBusy (s : State) (t : Nat) : Bool :=
  Tab.some s.bank.quires (fun _ q => q.creator == t && !q.shared && (q.qstate == .draining || q.qstate == .zeroing))

/-- Tenants go on to ZEROING and FREE as their requests and their own quires end (R68). -/
def State.settleTenants (s : State) : State :=
  s.bank.tenants.foldl (fun s (t, r) =>
    let s := if r.tstate == .draining && s.tenantDrained t then
        s.setBank (s.bank.setTenant t { s.bank.tenant t with tstate := .zeroing }) else s
    if (s.bank.tenant t).tstate == .zeroing && !s.ownBusy t then s.freeTenant t else s) s

/-- A quire enters ZEROING: every member leaf asks for its ZERO activity (R67). -/
def State.startZero (s : State) (base : Nat) : State :=
  let q := s.bank.quire base
  let s := s.setBank (s.bank.setQuire base { q with qstate := .zeroing })
  (s.membersOf base q.qk).foldl (fun s l =>
    (s.setCare l { s.care l with zeroing := true, zeroAt := 0, filled := false }).request l (plainReq .zero 0 0)) s

/-- Nothing admitted under a quire's last window is outstanding, and no tile in it is open (R66). -/
def State.quireDrained (s : State) (base : Nat) : Bool :=
  let ls := s.membersOf base (s.bank.quire base).qk
  !s.reqs.any (fun (_, r) => r.namesQuire && r.qbase == base && r.phase != .done) && !s.parts.any (fun (_, p) =>
      match s.req? p.req with | some r => r.namesQuire && r.qbase == base | none => false) &&
    !Tab.some s.lake.tiles (fun _ t => t.qbase == base) && !Tab.some s.lake.accus (fun _ j => ls.contains j.leaf) &&
    !Tab.some s.lake.gathers (fun _ g => s.gatherOn base g) && !Tab.some s.feeders (fun _ f => s.streamOn base f) &&
    ls.all (fun l => (s.leaf l).queue.isEmpty && (s.leaf l).inflight.isEmpty && (s.care l).merge.isEmpty)

/-- QUIRE_DRAIN_END (R66, R68): a drained quire enters ZEROING. -/
def execQuireDrainEnd (q : Fin 1024) (s : State) : Host.Outcome State Fault Refusal :=
  if (s.bank.quire q.val).qstate == .draining && s.quireDrained q.val then .next (s.startZero q.val).settleTenants
  else .next s

/-- Energy of a fill of a leaf: a write for each burst and an ACT for each row of 32 (R335, Table 13.5). -/
def State.chargeFill (s : State) (leaf : Nat) : State :=
  let k := stackOf leaf
  let n := (s.geom k).capacity / 32
  let en (i : Nat) : Nat := Config.energy (s.sup k).stype (s.sck k).opcur i
  let e := n * en 2 + n / 32 * en 0
  let p := s.pow k
  s.setPow k { p with raw := p.raw + e, zeroEnergy := p.zeroEnergy + e, wrs := p.wrs + n, act := p.act + n / 32 }

/-- The fill of a leaf has ended: its tracker entries are healed (R343). -/
def State.leafFilled (s : State) (leaf : Nat) : State :=
  let c := s.care leaf
  let track := Tab.mapVals c.track (fun _ e => { e with queued := false, healed := true, htime := s.now })
  s.setCare leaf { c with track := track, zeroing := false, filled := true }

/-- The initial fill of a leaf with zeros and valid check bits, one step (R335; DESIGN CHOICE, unsafe: assumption 121). -/
def State.fillLeaf (s : State) (leaf : Nat) : State := ((s.leafFilled leaf).zeroLeaf leaf).chargeFill leaf

/-- ZERO_FILL_END (R67, R68, R147): every burst of every member leaf has been written (R334); the quire is FREE, QGEN advances,
and its leaves park. A gate list of the base stays for the next quire there (DESIGN CHOICE, log 133). -/
def execZeroFillEnd (q : Fin 1024) (s : State) : Host.Outcome State Fault Refusal :=
  let r := s.bank.quire q.val
  let ls := s.membersOf q.val r.qk
  if r.qstate != .zeroing || !ls.all (fun l => (s.care l).runs .zero && s.zeroDone l) then .next s
  else
    let s := ls.foldl (fun s l => ((s.leafFilled l).endAct l .zero).parkLeaf l) s
    .next (s.setBank (s.bank.setQuire q.val { QuireRec.none with qgen := (r.qgen + 1) % 65536 })).settleTenants

/-! ## Go-live of single records -/

/-- Buckets of a tenant whose policer record has changed (R210-R212). -/
def State.policerLive (s : State) (t : Nat) (old : Policer) : State :=
  let p := s.bank.policer t
  let s := [0, 1].foldl (fun s h =>
    let m := s.marker t h
    let cb : Int := burstShare p.cbs p.split h
    let pb : Int := burstShare p.pbs p.split h
    if p.sem then
      s.setMarker t h { tc := min cb m.tc, tp := min pb m.tp,
                        oldRates := some (s.clk.ticks, share old.cir old.split h, share old.pir old.split h) }
    else if p.breset then s.setMarker t h { tc := 0, tp := 0, oldRates := none }
    else s.setMarker t h { tc := cb, tp := pb, oldRates := none }) s
  let c : Int := s.ceiling t
  { s with drrs := Tab.mapVals s.drrs (fun _ d => { d with flows := d.flows.map (fun f =>
      if f.ten == t then
        { f with deficit := min c f.deficit, subs := f.subs.map (fun u => { u with deficit := min c u.deficit }) }
      else f) }) }

/-- The owner role has moved (R449, R456, R546): every open admin page is told, and an unlock ends. -/
def State.ownerMoved (s : State) (old : Option Nat) : State :=
  let s := { s with trace := { s.trace with unlocked := false } }
  let d := old.getD 8 + 256 * s.bank.owner.getD 8
  (List.range 8).foldl (fun s h => s.postEvent (adminPage h) 6 d) s

/-- A leaf that a bring-up fills: its stack and channel trained, and not lost. -/
def State.fillable (s : State) (l : Nat) : Bool :=
  (s.sup (stackOf l)).trained && decide (l % 64 < (s.geom (stackOf l)).leaves) && !(s.chan (channelOf l)).cal.untrained &&
    !(s.care l).lost

/-- A fill is due on a leaf: every trained leaf of a bring-up (R335), and in service every leaf but those of quires that
wait for their release or are being filled for it (R479). -/
def State.fillDue (s : State) (l : Nat) : Bool :=
  s.fillable l && !(s.care l).filled && (!s.pins.ready || (match s.quireAt l with
    | some (_, q) => q.qstate == .active
    | none => true))

/-- Leaves of a stack that a fill is still due on. -/
def State.unfilled (s : State) (k : Nat) : List Nat :=
  ((List.range 64).map (fun i => k * 64 + i)).filter s.fillDue

/-- A stack comes into service once its bring-up calibration has ended (R138, R368, R391): its domains are on, QCLK runs, and
its trained channels leave reset. A stack without a trained channel stays untrained, and its clearing fails (R479). -/
def State.stackUp (s : State) (k : Nat) : State :=
  let u := s.sup k
  let up := s.upChans k
  let s := s.setSup k { u with training := false, trained := !up.isEmpty, quickDone := true }
  if up.isEmpty then
    (s.setSup k { s.sup k with clearTicket := 0 }).finish u.clearTicket stHwFault noArg none
  else
    let s := s.setSck k { s.sck k with doms := s.allDoms k, pll := .locked, stc := s.stOf k s.now }
    let s := s.setPow k { s.pow k with loadAt := s.clk.ticks }
    let s := s.afterTraining k up
    if u.clearTicket != 0 && (s.unfilled k).isEmpty then
      (s.setSup k { s.sup k with clearTicket := 0 }).finish u.clearTicket stOk [] none
    else s

/-- Stacks whose training results a set carries. -/
def ChangeSet.trains (c : ChangeSet) : List Nat :=
  (c.items.filterMap (fun i => match i.what with | .cal ch _ false => some (ch / 32) | _ => none)).dedup

/-- A calibration correction goes live (R368, R378-R381, R390): training and import results at once; in service it waits
for its apply, a sleeping stack's for its wake, and one for the other operating point is only kept. -/
def State.calLive (s : State) (c : Nat) (r : ChanCal) (imported : Bool) : State :=
  let k := c / 32
  let u := s.sup k
  if !u.good then s
  else if imported then
    if u.training || u.quickDone then
      (s.tickets.filter (fun (_, t) => t.opcode == 0x5A && t.mask == k)).foldl (fun s (tk, t) =>
        s.finishAt tk stDenied t.result noArg) s
    else
      let s := (s.putCal c r).setSup k { u with imported := true }
      { s with boot := { s.boot with imported := true } }
  else if u.training then s.putCal c r
  else if !u.trained then s
  else if r.optag != (s.sck k).opcur then
    let s := s.putCal c r
    (s.setChan c { s.chan c with pendingCorr := false, stale := false, loadOnce := false }).retrainOver c true
  else if (s.sck k).asleep then s.setChan c { s.chan c with corr := some r }
  else s.setChan c { s.chan c with corr := some r, apply := true }

/-- A hand-over goes live (R508 steps 1 to 3): the trailer of the incoming slot is programmed, TRIAL and SLOT are set, and
FWPAUSE holds every page. -/
def State.handoverLive (s : State) (slot tk : Nat) : State :=
  let d := s.boot.dev
  let d := if slot = 0 then { d with slotA := { d.slotA with seq := (d.slotB.seq + 1) % 2 ^ 32, commit := true } }
    else { d with slotB := { d.slotB with seq := (d.slotA.seq + 1) % 2 ^ 32, commit := true } }
  let s := { s with boot := { s.boot with dev := d, wroteAt := some s.clk.ticks, pauseAt := some s.clk.ticks, handTicket := tk } }
  (s.setBkp 1 0 1 slot).setBkp 1 1 1 1

/-- A leaf that no quire may hold: its stack fenced or untrained, its channel untrained, or lost (R50). -/
def State.leafBad (s : State) (leaf : Nat) : Bool :=
  let u := s.sup (stackOf leaf)
  u.fenced || !u.trained || (s.chan (channelOf leaf)).cal.untrained || (s.care leaf).lost

/-- An adoption goes live (R453). -/
def State.adoptLive (s : State) (t h tk : Nat) : State :=
  let p := s.page t
  let n := ringUsed p.cmdTail p.cmdHead
  let s := (s.dropTickets t).setPage t p.emptied
  let s := { s with serviceq := s.serviceq.filter (fun x => x != t) }
  let s := match Tab.find? s.tickets tk with
    | some k => { s with tickets := Tab.put s.tickets tk { k with result := n } }
    | none => s
  s.postEvent (adminPage h) 4 (t + 65536 * n)

/-- What goes live with one record beside its new active value. `old` is the bank before it. -/
def State.itemLive (s : State) (i : Item) (old : Banked) : State :=
  match i.what with
  | .setting 0x5809 _ v => s.setBkp 0 18 7 v
  | .setting 0x4006 k _ => s.setSck k { s.sck k with lastAge := s.now }
  | .setting _ _ _ => s
  | .tenantOpen t => if (old.tenant t).tstate == .free then s.openTenant t else s
  | .tenantClose t => if (s.bank.tenant t).tstate == .free then s.closeTickets t else s
  | .tenantHost t _ =>
    let p := s.page t
    if p.pstate == .frozen then (s.dropTickets t).setPage t p.emptied else s
  | .adopt t h => s.adoptLive t h i.ticket
  | .window t w r =>
    -- a descriptor that R568 turned down has not become the window
    if !r.valid then s
    else if s.bank.window t w != r then
      match Tab.find? s.tickets i.ticket with
      | some k => { s with tickets := Tab.put s.tickets i.ticket { k with fail := stStale } }
      | none => s
    else if (s.bank.quire r.qbase).qstate == .failed then s.postEvent t 1 (w + r.qbase * 256)
    else s
  | .quireNew _ _ => s
  | .quireRelease b => if (s.bank.quire b).qstate == .zeroing && (old.quire b).qstate == .failed then s.startZero b else s
  | .region _ _ _ | .tint _ _ | .markTints _ _ | .gate _ _ | .profile _ | .skew _ _ | .feederPort _ _
  | .feederSlot _ _ | .doorbell _ _ => s
  | .port p r => s.portLive p r.enable
  | .policer t _ => s.policerLive t (old.policer t)
  | .arming a r => if r.valid then { s with lake := { s.lake with digests := Tab.erase s.lake.digests a } } else s
  | .opPoint k p => s.startTransition k p (Tab.num old.opPoints k) i.ticket
  | .cal c r imported => s.calLive c r imported
  | .owner _ => s.ownerMoved old.owner
  | .handover slot => s.handoverLive slot i.ticket

/-! ## Go-live of a set (R224-R232) -/

/-- A ticket whose final completion comes later than its go-live: CLOSE, a transition, an import, a hand-over. -/
def ChangeSet.later (c : ChangeSet) (tk : Nat) : Bool :=
  c.effective.any (fun i => i.ticket == tk && (match i.what with
    | .opPoint _ _ | .handover _ => true
    | .cal _ _ imported => imported
    | _ => false)) ||
  c.items.any (fun i => i.ticket == tk && (match i.what with | .tenantClose _ => true | _ => false))

/-- A ticket remembers the sheet of its go-live and how many transitions it waits for. -/
def State.liveTicket (s : State) (c : ChangeSet) (tk : Nat) : State :=
  match Tab.find? s.tickets tk with
  | none => s
  | some t =>
    if !c.later tk then s
    else
      let n := (c.effective.filter (fun i => i.ticket == tk)).length
      { s with tickets := Tab.put s.tickets tk { t with result := s.clk.sheetNum, left := n, fail := 0, mask := if t.opcode = 0x5A then t.mask else 0 } }

/-- Complete a ticket of a set that has gone live. -/
def State.ticketLive (s : State) (c : ChangeSet) (tk : Nat) : State :=
  match Tab.find? s.tickets tk with
  | none => s
  | some t =>
    if c.later tk then s
    else if t.fail = stStale then s.finishAt tk stStale s.clk.sheetNum noArg
    else s.finishAt tk stOk s.clk.sheetNum (leBytes 16 t.result)

/-- A staged release finds a member leaf of its quire lost, untrained or fenced again: the quire stays FAILED (R71). -/
def State.unready (s : State) (w : Staged) : Bool :=
  match w with
  | .quireRelease b => (s.membersOf b (s.bank.quire b).qk).any s.leafBad
  | _ => false

/-- The active bank as the sets that land at one boundary leave it. -/
def State.finished (s : State) (len : Nat) (cs : List ChangeSet) : Banked :=
  cs.foldl (fun b c => c.effective.foldl (fun b i =>
    if s.unready i.what then b else b.apply len (c.written len b i.what)) b) s.bank

/-- What of an item goes live, by the finished bank: nothing of a release whose leaves are not restored (R71), and a window
descriptor without its quire as VALID 0 (R568). -/
def State.judged (s : State) (fin : Banked) (w : Staged) : Option Staged :=
  if s.unready w then none
  else match w with
    | .window t i r => if r.valid && !fin.holds r then some (.window t i Window.none) else some w
    | _ => some w

/-- A set goes live whole (R232): every record in order, judged by the bank `fin` that the boundary finishes with (R568) and
its sheet length (R214), then its completions (R224, R231). -/
def State.setLive (len : Nat) (fin : Banked) (s : State) (c : ChangeSet) : State :=
  let s := c.tickets.foldl (fun s tk => s.liveTicket c tk) s
  let s := c.effective.foldl (fun s i =>
    let old := s.bank
    match s.judged fin i.what with
    | none => s
    | some w => (s.setBank (s.bank.apply len (c.written len s.bank w))).itemLive i old) s
  let s := c.items.foldl (fun s i => match i.what with
    | .quireNew b q => if (s.membersOf b q.qk).any s.leafBad then s.failQuire b else s
    | _ => s) s
  let s := c.trains.foldl (fun s k => if (s.sup k).training then s.stackUp k else s) s
  let s := c.tickets.foldl (fun s tk => s.ticketLive c tk) s
  let s := s.finishAt c.commitTicket stOk s.clk.sheetNum (leBytes 8 s.clk.sheetStart)
  ({ s with clk := { s.clk with live := true } }).cntG 15 1

/-- Stacks whose RP_AGE a set changes. -/
def ChangeSet.ages (c : ChangeSet) : List Nat :=
  (c.items.filterMap (fun i => match i.what with | .setting 0x4006 k _ => some k | _ => none)).dedup

/-- A set waits for the transition of a stack it names (R158). -/
def State.setHeld (s : State) (c : ChangeSet) : Bool :=
  c.items.any (fun i => match i.what with | .opPoint k _ => decide ((s.sck k).phase ≠ .none) | _ => false)

/-! ## What a swap changes beside the records -/

/-- Flows of sharers that have left a shared quire go, or stay until their last part is released (R209). -/
def State.flowsLeave (s : State) (old : Banked) : State :=
  let pairs (b : Banked) : List (Nat × Nat) :=
    (b.windows.filterMap (fun (i, w) => if w.valid && w.shared then some (w.qbase, i / 8) else none)).dedup
  let now := pairs s.bank
  let gone := (pairs old).filter (fun x => !now.contains x)
  let s := gone.foldl (fun s (q, t) =>
    let d := s.drr q
    if (s.waitingAt q).any (fun (_, _, r) => r.ten == t) then
      s.setDrr q { d with flows := d.flows.map (fun f => if f.ten == t then { f with leaving := true } else f) }
    else s.setDrr q { d with flows := d.flows.filter (fun f => f.ten != t), round := d.round.filter (fun x => x != t) }) s
  now.foldl (fun s (q, t) =>
    let d := s.drr q
    s.setDrr q (d.setFlow { s.flow d t with leaving := false })) s

/-- Policer records that a role profile has changed, whichever profile was in force (R210, R214). -/
def State.profileMarkers (s : State) (old : Banked) (named : List Nat) : State :=
  ((s.bank.policers ++ old.policers).map (fun x => x.1)).dedup.foldl (fun s t =>
    if named.contains t || s.bank.policer t == old.policer t then s else s.policerLive t (old.policer t)) s

/-- Entries of a list that start before a sheet of a length in ns ends, and the list's sum in ns. -/
def GateList.kept (g : GateList) (len : Nat) : Nat × Nat :=
  g.entries.foldl (fun (acc : Nat × Nat) e => (if acc.2 < len then acc.1 + 1 else acc.1, acc.2 + e.dur * 100)) (0, 0)

/-- Lists that a shorter sheet cuts are logged (R202). -/
def State.gateCuts (s : State) (oldLen : Nat) : State :=
  let len := s.grid.1
  if oldLen ≤ len then s
  else s.bank.gates.foldl (fun s (b, g) =>
    let (n, sum) := g.kept len
    if len < sum then s.note 0x45 2 b [(1, n)] else s) s

/-- The owner role of a lost owner passes on (R456). -/
def State.ownerPass (s : State) : State :=
  match s.bank.owner with
  | none => s
  | some h =>
    if !(s.host h).lost then s
    else
      let sb := s.setting 0x6001 0
      let next := if sb < 8 && !(s.host sb).lost then some sb
        else (List.range 8).find? (fun i => (s.page (adminPage i)).pstate == .opened)
      (s.setBank { s.bank with owner := next }).ownerMoved (some h)

/-- Mirrors of the owner settings in BKP2 (Table 16.4). -/
def State.mirrorOwner (s : State) : State :=
  let s := match s.bank.owner with | some h => s.setBkp 2 16 3 h | none => s
  s.setBkp 2 19 4 (s.setting 0x6001 0)

/-- Tracker overflows of the sheet that ends are logged (R341). -/
def State.trackerLogs (s : State) : State :=
  s.cares.foldl (fun s (l, c) =>
    if c.ovfSheet = 0 then s
    else (s.setCare l { s.care l with ovfSheet := 0 }).note 0x4A 2 l [(4, c.ovfSheet)]) s

/-! ## The boundary (R217-R221, R229, R238) -/

/-- NT_LOCK and NT_TOD as sampled; a lock found fallen acts as R42 lays down. -/
def State.sampleTime (s : State) (nt : NetTime) : State :=
  let fell := s.clk.ntLock && !nt.lock
  let rose := !s.clk.ntLock && nt.lock
  let c := s.clk
  let s := { s with clk := { c with ntLock := nt.lock, ntValid := nt.valid, ntTod := if nt.valid then nt.tod else c.ntTod,
                                    ntHigh := if rose || fell then 0 else c.ntHigh,
                                    aligned := c.aligned && !fell } }
  if fell then s.note 0x03 0 0 [] else s

/-- The timebase takes NT_TOD at a boundary once NT_LOCK has been high for 1 s and it is not aligned (R220, R221). -/
def State.stepsAt (s : State) (nt : NetTime) : Bool :=
  !s.clk.aligned && nt.lock && nt.valid && decide (100000000 ≤ s.clk.ntHigh)

def State.stepTime (s : State) (tod : Nat) : State :=
  let before := s.now
  let s := { s with clk := { s.clk with tb := tod * 2 ^ 32, aligned := true, stepped := true } }
  s.note 0x47 0 0 [(8, before), (8, tod)]

/-- The sets that land at a boundary B that starts a sheet at S, in commit order (R229, R230, R238). -/
def State.landing_ (s : State) (b start : Nat) : List ChangeSet :=
  if s.pins.stopped then []
  else (s.inOrder.filter (fun c => c.committed && decide (c.time ≤ b) && decide (c.notBefore ≤ start))).filter
    (fun c => !s.setHeld c)

/-- SHEET_BOUNDARY (R122, R217-R221, R232): at a grid point the sheet counter advances, DW_SHEET_TICK carries its low eight bits,
the timebase may step, and the landing sets go live. -/
def execSheetBoundary (nt : NetTime) (s : State) : Host.Outcome State Fault Refusal :=
  let b := s.nextBoundary
  if s.pins.porst || decide (s.now < b) then .next s
  else
    let old := s.bank
    let g := s.grid
    let s := s.sampleTime nt
    let step := s.stepsAt nt
    let start := if step then nt.tod else b
    let s := if step then s.stepTime nt.tod else s
    let n := (s.clk.sheetNum + 1) % 2 ^ 48
    let s := { s with clk := { s.clk with sheetNum := n, lsb := n % 256, sheetStart := start, oldGrid := none,
                                          defer := s.pins.stopped } }
    let cs := s.landing_ b start
    let s := { s with sets := s.sets.filter (fun c => !cs.contains c) }
    let len := cs.foldl (fun n c => c.sheetNs n) s.bank.sheetNs
    -- ticks under an old RP_AGE fall before the new one is live (R122)
    let s := (cs.flatMap ChangeSet.ages).foldl (fun s k => s.ageDue k none) s
    let s := cs.foldl (State.setLive len (s.finished len cs)) s
    let s := { s with clk := { s.clk with trans := step || s.grid != g } }
    let named := cs.flatMap (fun c => c.items.filterMap (fun i => match i.what with | .policer t _ => some t | _ => none))
    let s := ((s.flowsLeave old).profileMarkers old named).gateCuts g.1
    .next s.ownerPass.mirrorOwner.trackerLogs.settleTenants

/-- TIMEBASE_ERROR_LIMIT (R139): an aligned timebase that is more than 10 us off NT_TOD is no longer aligned. -/
def execTimebaseErrorLimit (nt : NetTime) (s : State) : Host.Outcome State Fault Refusal :=
  let err := (nt.tod : Int) * 2 ^ 32 - (s.clk.tb : Int)
  let lim : Int := 10000 * 2 ^ 32
  if s.clk.aligned && nt.lock && nt.valid && (decide (lim < err) || decide (err < -lim)) then
    .next { s with clk := { s.clk with aligned := false, ntTod := nt.tod, ntValid := true } }
  else .next s

end Sys2Proof.Machine
end

