-- ==== Sys2Proof/Machine/MailCheck.lean ====
section
/-! DEFINITION. Service of a mailbox command: its layout (Table 14.7), the checks of R462, staging with locks and limits (R224-R227), and its completions (R437, R443, R460, R463). -/

namespace Sys2Proof.Machine

/-! ## The command entry (Table 14.7) -/

/-- A command as taken: ARGS from byte 0 (48 B, or 56 B in MMP-2) and the bulk area where BULK is set. -/
structure Cmd where
  page : Nat
  mmp2 : Bool
  opcode : Nat
  flags : Nat
  ctag : Nat
  target : Nat
  tgen : Nat
  args : List Nat
  bulk : List Nat
  head : List Nat
deriving DecidableEq, Repr

/-- Byte of ARGS, and little-endian fields of it. -/
def Cmd.b (c : Cmd) (i : Nat) : Nat := c.args.getD i 0
def Cmd.le (c : Cmd) (i n : Nat) : Nat := ofLe ((c.args.drop i).take n)
def Cmd.hasBulk (c : Cmd) : Bool := bitAt c.flags 1

/-- Every byte of ARGS outside the ranges (first byte, length) is 0 (R461). -/
def Cmd.zeroBut (c : Cmd) (used : List (Nat × Nat)) : Bool :=
  c.args.zipIdx.all (fun (v, i) => v == 0 || used.any (fun (a, n) => decide (a ≤ i) && decide (i < a + n)))

/-- The first byte of ARGS outside the ranges that is not 0. -/
def Cmd.strayAt (c : Cmd) (used : List (Nat × Nat)) : Nat :=
  ((c.args.zipIdx.find? (fun (v, i) => v != 0 && !used.any (fun (a, n) => decide (a ≤ i) && decide (i < a + n)))).map
    (fun x => x.2)).getD 0xFFFF

/-- Bytes of a run of 32-bit words. -/
def wordBytes (t : Tab Nat) (first n : Nat) : List Nat :=
  (List.range n).flatMap (fun i => leBytes 4 (Tab.num t (first + i)))

/-- The command at the head of a page's ring; OPEN has a fixed layout (R471). -/
def Page.headCmd (p : Page) (page : Nat) : Cmd :=
  let e := wordBytes p.ring (p.cmdHead % 32 * 16) 16
  let f (i n : Nat) : Nat := ofLe ((e.drop i).take n)
  let open_ := f 0 2 == 1
  if p.gen = 2 && !open_ then
    { page := page, mmp2 := true, opcode := f 0 1, flags := f 1 1, ctag := f 4 4, target := fld (f 2 2) 0 9, tgen := 0,
      args := e.drop 8, bulk := if bitAt (f 1 1) 1 then wordBytes p.bulk 0 192 else [], head := e.take 8 }
  else
    { page := page, mmp2 := false, opcode := f 0 2, flags := f 2 1, ctag := f 4 4, target := fld (f 8 2) 0 9,
      tgen := f 10 2, args := e.drop 16, bulk := if bitAt (f 2 1) 1 then wordBytes p.bulk 0 192 else [],
      head := e.take 16 }

/-- The tenant a command names (R435). -/
def Cmd.tenant (c : Cmd) : Nat := if c.page < 512 then c.page else c.target

/-! ## Table 15.1 -/

/-- Authorities of R431. -/
inductive Auth
  | tenant
  | host
  | owner
  | debug
deriving DecidableEq, Repr

/-- Capability bit and authorities of an opcode; none for a reserved one. OPEN and DBG_UNLOCK need no capability. -/
def commandRow (op : Nat) : Option (Option Nat × List Auth) :=
  match op with
  | 0x01 => some (none, [.tenant, .host, .debug])
  | 0x02 => some (some 0, [.tenant, .host])
  | 0x03 | 0x04 | 0x05 => some (some 0, [.tenant, .host, .owner])
  | 0x10 | 0x11 | 0x12 | 0x14 => some (some 0, [.tenant, .host])
  | 0x13 => some (some 0, [.owner])
  | 0x20 | 0x21 | 0x22 | 0x26 => some (some 6, [.owner])
  | 0x23 => some (some 6, [.host, .owner])
  | 0x24 => some (some 7, [.host])
  | 0x25 => some (some 7, [.owner])
  | 0x28 => some (some 8, [.owner])
  | 0x30 => some (some 1, [.owner])
  | 0x31 => some (some 2, [.owner])
  | 0x32 => some (some 4, [.owner])
  | 0x33 => some (some 4, [.host])
  | 0x34 => some (some 3, [.host])
  | 0x35 => some (some 5, [.tenant, .host])
  | 0x36 => some (some 5, [.owner])
  | 0x40 | 0x41 | 0x42 => some (some 11, [.owner])
  | 0x50 | 0x51 | 0x52 | 0x53 | 0x54 => some (some 12, [.owner])
  | 0x58 | 0x5A | 0x5B | 0x5C => some (some 10, [.owner])
  | 0x59 => some (some 10, [.host, .owner])
  | 0x60 | 0x61 | 0x62 => some (some 0, [.owner])
  | 0x63 => some (some 0, [.host])
  | 0x64 => some (some 0, [.owner, .host])
  | 0x70 => some (some 0, [.owner, .host])
  | 0x71 => some (some 9, [.tenant, .host, .owner])
  | 0x72 => some (some 9, [.tenant, .host])
  | 0x80 | 0x81 => some (some 13, [.owner])
  | 0x90 => some (some 15, [.owner, .debug])
  | 0x91 => some (some 0, [.owner])
  | 0x92 => some (none, [.debug])
  | 0x93 => some (some 0, [.owner, .debug])
  | _ => none

/-- Operations of an opcode that has several rows, by its first bytes; true where the opcode has one row. -/
def Cmd.knownOp (c : Cmd) : Bool :=
  match c.opcode with
  | 0x41 => c.b 0 == 1 || c.b 0 == 3 || (c.b 0 == 4 && decide (c.b 1 ≤ 1)) || c.b 0 == 6
  | 0x42 => decide (1 ≤ c.b 0) && decide (c.b 0 ≤ 5)
  | 0x54 => c.b 0 == 1 || c.b 0 == 2
  | 0x70 => decide (1 ≤ c.b 0) && decide (c.b 0 ≤ 4)
  | 0x72 => decide (c.b 0 ≤ 1)
  | 0x90 => decide (1 ≤ c.b 0) && decide (c.b 0 ≤ 7)
  | 0x91 => decide (1 ≤ c.b 0) && decide (c.b 0 ≤ 3)
  | _ => true

/-- A command that names a tenant by TARGET on an admin page. -/
def Cmd.namesTenant (c : Cmd) : Bool :=
  match c.opcode with
  | 0x05 => c.b 0 == 3
  | 0x10 | 0x11 | 0x12 | 0x14 | 0x23 | 0x61 | 0x64 | 0x72 => true
  | 0x70 => true
  | 0x71 => c.b 0 == 0
  | 0x91 => c.b 0 == 2 || c.b 0 == 3
  | _ => false

/-- Capabilities that a value in the arguments needs (Table 15.1, R444). -/
def Cmd.argCaps (c : Cmd) : List Nat :=
  match c.opcode with
  | 0x03 => if c.le 0 8 = 0 then [] else [8]
  | 0x10 => if bitAt (c.b 4) 1 then [14] else []
  | 0x14 =>
    let r := Region.ofBits (c.le 8 16)
    (if r.sfmt != 0 || r.dfmt != 0 || r.sparse || r.skew != 0 then [1] else []) ++ (if r.acc then [2] else []) ++
      (if r.wmark then [5] else [])
  | _ => []

/-! ## Checks 1 to 5 of R462 -/

def State.isOwner (s : State) (page : Nat) : Bool := match s.bank.owner with | some h => page == adminPage h | none => false

/-- A page has an authority over a command's tenant (R431). -/
def State.hasAuth (s : State) (c : Cmd) (a : Auth) : Bool :=
  match a with
  | .tenant => decide (c.page < 512)
  | .host => decide (512 ≤ c.page) && decide (c.page < 520) &&
      (if c.opcode = 0x64 then c.page == adminPage (c.b 0) && s.setting 0x6004 (c.b 0) == 1 else !c.namesTenant || adminPage (s.bank.tenant c.target).host == c.page)
  | .owner => s.isOwner c.page
  | .debug => c.page == 520 && (s.trace.unlocked || c.opcode == 1 || c.opcode == 0x92)

/-- The authorities an operation accepts: CNT_CTRL 1 and 2 are the owner's alone, and an XHOST quire needs the owner's. -/
def Cmd.auths (c : Cmd) (all : List Auth) : List Auth :=
  match c.opcode with
  | 0x70 => if c.b 0 ≤ 2 then [.owner] else all
  | _ => all

/-- The generation check of R435; the owner names any tenant by its generation. -/
def State.genStale (s : State) (c : Cmd) : Bool :=
  if c.mmp2 || c.opcode == 1 then false
  else if c.page < 512 then (s.bank.tenant c.page).tgen != (s.page c.page).tgenOpen
  else c.namesTenant && c.tgen != (s.bank.tenant c.target).tgen

/-- Checks 1 to 5: the status, ARGPOS and step of the first failure. -/
def State.checkFirst (s : State) (c : Cmd) : Option (Nat × Nat × Nat) :=
  let p := s.page c.page
  match commandRow c.opcode with
  | none => some (stBadArg, 0xFFFF, 1)
  | some (cap, auths) =>
    if p.pstate != .opened && c.opcode != 1 && c.opcode != 0x92 then some (stDenied, 0xFFFF, 2)
    else if c.opcode != 1 && (cap.toList ++ c.argCaps).any (fun i => !bitAt p.caps i) then some (stDenied, 0xFFFF, 3)
    else if !(c.auths auths).any (s.hasAuth c) || (c.opcode == 0x10 && bitAt (c.b 4) 1 && !s.isOwner c.page) then
      some (stDenied, 0xFFFF, 4)
    else if s.genStale c then some (stStale, 0xFFFF, 5)
    else none

/-- TARGET and TGEN of an admin-page command that names no tenant are 0 (R461). -/
def Cmd.strayTarget (c : Cmd) : Bool :=
  decide (512 ≤ c.page) && !c.namesTenant && c.opcode != 1 && (c.target != 0 || c.tgen != 0)

/-! ## Answers of a body -/

/-- What checks 6 to 9 and the effect of a command give. `staged` items carry the ARGPOS that a lock on them reports. -/
inductive Ans
  | fail (st pos step : Nat) (bulk : Option (List Nat))
  | ok (result : List Nat) (s : State)
  | staged (items : List (Staged × Nat)) (result : List Nat) (s : State)
  | wait (s : State)

/-- ARGPOS and step of a failed check (R463). -/
def failResult (pos step : Nat) : List Nat := leBytes 2 pos ++ [step]

/-- A result in the layout of R460: RESULT, and the bulk area where it is longer. -/
def resultOf (mmp2 : Bool) (r : List Nat) : List Nat × Option (List Nat) :=
  let n := if mmp2 then 8 else 16
  if r.length ≤ n then (r, none) else (if mmp2 then r.take 8 else [], some r)

/-- Join items to the page's open set (R224-R227): the ARGPOS of the first locked one, or what is missing. -/
def State.join (s : State) (page tk : Nat) (items : List (Staged × Nat)) : State ⊕ (Nat × Nat × Nat) :=
  match items.find? (fun (w, _) => s.lockedTo page w.key) with
  | some (_, pos) => .inr (stBusy, pos, 8)
  | none =>
    let new : List Item := items.map (fun (w, _) => ⟨w, tk⟩)
    let c : ChangeSet := (s.openSet page).getD
      { page := page, items := [], tickets := [], committed := false, commitTicket := 0, time := 0, notBefore := 0,
        seq := s.nextSeq }
    let c' : ChangeSet := { c with items := c.items ++ new, tickets := c.tickets ++ [tk] }
    let others := s.sets.filter (fun x => x.committed || x.page != page)
    let total := (others.map (fun x => x.records.length)).sum + c'.records.length
    if 256 < c'.records.length || 8192 < total then .inr (stNoResource, 0xFFFF, 9)
    else .inl { s with sets := others ++ [c'] }

/-- Complete a taken command as its body answered (R224, R437, R443, R460, R463). -/
def State.settle (s : State) (tk : Nat) (a : Ans) : State :=
  let bad (st pos step : Nat) (bulk : Option (List Nat)) : State := s.finish tk st (failResult pos step) bulk
  match a with
  | .fail st pos step bulk => bad st pos step bulk
  | .wait s => s
  | .ok r s =>
    match Tab.find? s.tickets tk with
    | none => s
    | some t =>
      let (r, bulk) := resultOf t.mmp2 r
      s.finish tk stOk r bulk
  | .staged items r s1 =>
    match Tab.find? s1.tickets tk with
    | none => s1
    | some t =>
      match s1.join t.page tk items with
      | .inr (st, pos, step) => bad st pos step none
      | .inl s =>
        let t := { t with result := ofLe r }
        let s := { s with tickets := Tab.put s.tickets tk t }
        if t.mmp2 then s else s.complete t stPending 0 false r none

/-! ## Taking a command (R438, R445) -/

/-- Mordant firmware serves mailboxes. -/
def State.serving (s : State) : Bool :=
  s.boot.firmware && !s.boot.coreReset && !s.boot.mordantRst && s.boot.pauseAt.isNone

/-- Take the head command of a page: the ring's HEAD advances, the command is counted, and a ticket opens. -/
def State.take (s : State) (page : Nat) (c : Cmd) : State × Nat :=
  let p := s.page page
  let tk := s.nextId
  -- an OPEN completes in the layout of the generation it declares (R471)
  let t : Ticket := { page := page, ctag := c.ctag, opcode := c.opcode % 65536,
                      mmp2 := if c.opcode = 1 then c.b 32 == 2 else c.mmp2, cirq := bitAt c.flags 0,
                      result := 0, left := 0, fail := 0, mask := 0 }
  let s := s.setPage page { p with cmdHead := (p.cmdHead + 1) % 64, owed := p.owed + 1 }
  let s := { s with nextId := tk + 1, tickets := Tab.put s.tickets tk t, serviceq := s.serviceq.filter (fun x => x != page) }
  (s.cntG 28 1, tk)

/-- Serve one command of a page with a body; the page goes to the queue's end while it has more. -/
def State.serveWith (s : State) (page : Nat) (body : Cmd → Nat → State → Ans) : State :=
  let c := (s.page page).headCmd page
  let (s, tk) := s.take page c
  let a := match s.checkFirst c with
    | some (st, pos, step) => Ans.fail st pos step none
    | none => if c.strayTarget then Ans.fail stBadArg 0xFFFF 6 none else body c tk s
  (s.settle tk a).queueService page

/-- The command at the head of the service queue. -/
def State.headCommand (s : State) : Option (Nat × Cmd) :=
  match s.serviceq.find? (fun p => (s.page p).takeable) with
  | some p => some (p, (s.page p).headCmd p)
  | none => none

/-- Commands that no row describes, a reserved opcode or operation, complete BAD_ARG as they come to the queue's head. -/
def State.skipUnknown : Nat → State → State
  | 0, s => s
  | n + 1, s =>
    if !s.serving then s
    else match s.headCommand with
      | none => s
      | some (p, c) =>
        if (commandRow c.opcode).isSome && c.knownOp then s
        else
          let pos := if c.opcode = 0x41 && c.b 0 = 4 then 1 else 0
          State.skipUnknown n (s.serveWith p (fun _ _ _ => Ans.fail stBadArg pos 6 none))

/-- A mailbox command row: the command at the head of a page that is next in the service queue is served, where it is of
the row's opcode and operation. -/
def State.serve (s : State) (page : Nat) (op : Nat) (sub : Cmd → Bool) (body : Cmd → Nat → State → Ans) :
    Host.Outcome State Fault Refusal :=
  match s.headCommand with
  | some (p, c) =>
    if s.serving && p == page && c.opcode == op && sub c then .next ((s.serveWith page body).skipUnknown 1024) else .next s
  | none => .next s

/-- Rows of an opcode with one operation. -/
def anySub (_ : Cmd) : Bool := true

/-- Rows of an operation given by byte 0. -/
def subIs (n : Nat) (c : Cmd) : Bool := c.b 0 == n

/-- A body that first refuses stray bytes of ARGS (R461). -/
def Cmd.within (c : Cmd) (used : List (Nat × Nat)) (a : Ans) : Ans :=
  if c.zeroBut used then a else .fail stBadArg (c.strayAt used) 6 none

end Sys2Proof.Machine
end

