-- ==== Sys2Proof/Machine/MailStage.lean ====
section
/-! DEFINITION. The staging commands of the mailboxes: sessions, commit and discard, quires and windows, regions, record commands and settings lists (R62-R64, R72, R162-R164, R195, R201, R224-R233, R271-R273, R302, R306, R441-R449, R453, R466-R475, R478, R567-R570). -/

namespace Sys2Proof.Machine

/-! ## Checks of a body -/

/-- The first check that fails: its status, ARGPOS and step of R462; else the answer behind them. -/
def chain (checks : List (Bool × Nat × Nat × Nat)) (next : Ans) : Ans :=
  match checks.find? (fun x => x.1) with
  | some (_, st, pos, step) => .fail st pos step none
  | none => next

/-- An argument check (step 6). -/
def argIs (bad : Bool) (pos : Nat) : Bool × Nat × Nat × Nat := (bad, stBadArg, pos, 6)

/-- A state condition (step 7). -/
def stateIs (bad : Bool) (st pos : Nat) : Bool × Nat × Nat × Nat := (bad, st, pos, 7)

/-- An authority that arguments name (step 4). -/
def deniedIf (bad : Bool) : Bool × Nat × Nat × Nat := (bad, stDenied, 0xFFFF, 4)

/-- Reserved bytes of ARGS (R461). -/
def Cmd.stray (c : Cmd) (used : List (Nat × Nat)) : Bool × Nat × Nat × Nat := (!c.zeroBut used, stBadArg, c.strayAt used, 6)

/-- INDEX of a record command, its record of n bytes, and the ARGS byte that holds a bit of the record (R469). -/
def Cmd.index (c : Cmd) : Nat := c.le 0 2
def Cmd.record (c : Cmd) (n : Nat) : Nat := c.le 8 n
def atBit (b : Nat) : Nat := 8 + b / 8

/-- Reserved bytes of a record command with a record of n bytes. -/
def Cmd.recStray (c : Cmd) (n : Nat) : Bool × Nat × Nat × Nat := c.stray [(0, 2), (8, n)]

/-- The host whose admin page a command came by; 8 for none. -/
def Cmd.hostNum (c : Cmd) : Nat := if 512 ≤ c.page && c.page < 520 then c.page - 512 else 8

/-! ## Sessions (R440-R442, R471) -/

/-- The running image. -/
def State.image (s : State) : Slot :=
  match s.boot.loaded with
  | some 1 => s.boot.dev.slotB
  | _ => s.boot.dev.slotA

/-- MB_FWVER: the version of the running image. -/
def State.fwver (s : State) : Nat := if s.boot.loaded.isSome then s.image.iver else 0

/-- Capabilities Table 14.11 allows an MMP-2 page. -/
def mmp2Caps : Nat := 0x3A47

/-- The session an OPEN begins. -/
def State.openPage (s : State) (page gen caps : Nat) : State :=
  let p := s.page page
  let tgen := if page < 512 then (s.bank.tenant page).tgen else 0
  let s := s.setPage page { p with pstate := .opened, gen := gen, epoch := (p.epoch + 1) % 65536, caps := caps, tgenOpen := tgen }
  if 512 ≤ page && page < 520 then
    let h := page - 512
    let s := s.setHost h { s.host h with watched := true, beat := s.clk.ticks }
    if s.bank.owner.isNone then (s.setBank { s.bank with owner := some h }).ownerMoved none else s
  else s

/-- What an OPEN of a tenant's page stages (R213, R222, R441): the tenant's policer record with the SEM of the generation,
where the pending copy has the other, and a FREE tenant's entry to ACTIVE. -/
def State.openItems (s : State) (t : Nat) (sem : Bool) : List (Staged × Nat) :=
  let r := s.pendingBank.policer t
  (if r.sem != sem then [(.policer t { r with sem := sem }, 0xFFFF)] else []) ++
    (if (s.bank.tenant t).tstate == .free then [(.tenantOpen t, 0xFFFF)] else [])

/-- OPEN (R213, R440, R441): the page's generation and granted capabilities; what changes of its tenant's records is staged
(DEDUCED, log 139). -/
def openBody (c : Cmd) (_tk : Nat) (s : State) : Ans :=
  let gen := c.b 32
  let caps := c.le 40 8 &&& s.image.caps &&& (if gen = 2 then mmp2Caps else 0xFFFF)
  chain [argIs ((c.head.drop 2).take 2 != [0, 0] || (c.head.drop 8).any (fun v => v != 0)) 0xFFFF, c.stray [(32, 1), (40, 8)],
      argIs (gen != 2 && gen != 3) 32, argIs (!bitAt s.image.gens gen) 32,
      stateIs ((s.page c.page).pstate == .opened) stBusy 0xFFFF] <|
    let result := leBytes 8 caps ++ leBytes 4 s.fwver
    let items := if c.page < 512 then s.openItems c.page (gen == 2) else []
    if items.isEmpty then .ok result (s.openPage c.page gen caps)
    else .staged items result (s.openPage c.page gen caps)

def execOpen (page : Fin 521) (s : State) : Host.Outcome State Fault Refusal := s.serve page.val 0x01 anySub openBody

/-- CLOSE (R442). -/
def closeBody (c : Cmd) (_tk : Nat) (s : State) : Ans :=
  let shut (s : State) : State := s.setPage c.page { s.page c.page with pstate := .closed, gen := 0, caps := 0 }
  chain [c.stray []] <|
    if 512 ≤ c.page then .ok [] (shut s)
    else
      let t := c.page
      let st := (s.bank.tenant t).tstate
      let under := st == .draining || st == .zeroing ||
        s.sets.any (fun x => x.committed && x.items.any (fun i => i.what == .tenantClose t))
      if under then .wait s
      else if (s.pendingBank.tenant t).tstate == .free && (s.openSet c.page).isNone then .ok [] (shut s)
      else .staged [(.tenantClose t, 0xFFFF)] [] s

def execClose (page : Fin 521) (s : State) : Host.Outcome State Fault Refusal := s.serve page.val 0x02 anySub closeBody

/-! ## Legality of quires and windows (R50, R56, R569) -/

/-- A stack can hold members of quires. -/
def State.stackUsable (s : State) (k : Nat) : Bool := (s.sup k).trained && !(s.sup k).fenced && decide (0 < (s.geom k).leaves)

/-- The members of (base, k) are aligned, exist on usable stacks of one geometry, are trained and not lost, hold zeros once
Dweten is in service (R4, R335), and none is the system leaf. -/
def State.legalQuire (s : State) (base k : Nat) : Bool :=
  let L := (s.geom (stackOf base)).leaves
  let lb := if L = 64 then 6 else 5
  let aligned := if k ≤ lb then base % 64 % 2 ^ k == 0 && decide (base % 64 < L)
    else base % 64 == 0 && base / 64 % 2 ^ (k - lb) == 0
  aligned && s.stackUsable (stackOf base) && (s.membersOf base k).all (fun l =>
    decide (l < 1024) && (s.sup (stackOf l)).stype == (s.sup (stackOf base)).stype && s.stackUsable (stackOf l) &&
      some l != s.sysLeaf && !s.leafBad l && !(s.pins.ready && s.fillDue l))

/-- Leaves that quires of a bank hold, by a test of the quires' bases. -/
def State.leavesHeld (s : State) (b : Banked) (f : Nat → Bool) : List Nat :=
  b.quires.flatMap (fun (base, q) => if q.qstate != .free && f base then s.membersOf base q.qk else [])

/-- A quire is DRAINING or ZEROING now (R64). -/
def State.quireGoing (s : State) (base : Nat) : Bool :=
  (s.bank.quire base).qstate == .draining || (s.bank.quire base).qstate == .zeroing

/-- Bases of the quires of 2^k leaves that a PLACE names: 0 any, 1 a half, 2 a stack, 3 an exact base. -/
def State.placeBases (s : State) (place pval k : Nat) : List Nat :=
  let bases := if place = 3 then [pval] else (List.range 1024).filter (fun b => b % 2 ^ min k 6 == 0)
  bases.filter (fun b => s.legalQuire b k && (place == 0 || place == 3 ||
    (s.membersOf b k).all (fun l => if place = 1 then l / 512 == pval else l / 64 == pval)))

/-- A half or stack cannot hold a quire of 2^k leaves at all. -/
def State.placeTooSmall (s : State) (place pval k : Nat) : Bool :=
  let lb (j : Nat) : Nat := if (s.geom j).leaves = 32 then 5 else 6
  if place = 2 then decide (lb pval < k)
  else if place = 1 then (List.range 8).all (fun j => decide (lb (pval * 8 + j) + 3 < k))
  else false

/-- A window of 2^k leaves from a base at WBASE keeps R56 in a bank: inside 2^40, clear of the tenant's other windows, and
its quire mapped once. -/
def State.windowFits (s : State) (b : Banked) (t wbase base k : Nat) : Bool :=
  let lo := wbase * 2 ^ 21
  let hi := lo + 2 ^ k * (s.geom (stackOf base)).capacity
  decide (hi ≤ 2 ^ 40) && (List.range 8).all (fun i =>
    let w := b.window t i
    let wlo := w.wbase * 2 ^ 21
    !w.valid || (w.qbase != base && (decide (hi ≤ wlo) || decide (wlo + s.windowLen w ≤ lo))))

/-- A tenant's windows may be staged (R567). -/
def Banked.mappable (b : Banked) (t : Nat) : Bool := (b.tenant t).tstate == .active || (b.tenant t).tstate == .failed

/-! ## Quires (R62-R64, R71, R473-R475) -/

/-- Free leaves of the stacks a quire touches (R569): every leaf that no quire holds, lost leaves and those of untrained
channels among them (DESIGN CHOICE, log 132). -/
def State.freeAround (s : State) (held : List Nat) (base k : Nat) : Nat :=
  let ks := ((s.membersOf base k).map stackOf).dedup
  ((ks.map (fun j => (((List.range (s.geom j).leaves).filter (fun i =>
    !held.contains (j * 64 + i) && some (j * 64 + i) != s.sysLeaf)).length)))).sum

/-- The candidate R569 takes: most free leaves around it, then the lowest base. -/
def State.bestBase (s : State) (held cands : List Nat) (k : Nat) : Option Nat :=
  (cands.foldl (fun (acc : Option (Nat × Nat)) b =>
    let n := s.freeAround held b k
    match acc with
    | none => some (b, n)
    | some (_, m) => if m < n then some (b, n) else acc) none).map (fun x => x.1)

/-- QALLOC (R62-R64, R473, R567, R569, R570): a quire is reserved and mapped into a window of the target. -/
def qallocBody (c : Cmd) (_tk : Nat) (s : State) : Ans :=
  let t := c.tenant
  let b := s.pendingBank
  let k := c.b 0
  let place := c.b 1
  let pval := c.le 2 2
  let shared := bitAt (c.b 4) 0
  let xhost := bitAt (c.b 4) 1
  let write := bitAt (c.b 4) 2
  let win := c.b 5
  let wbase := c.le 8 4
  let most := match place with | 0 => 0 | 1 => 1 | 2 => 15 | _ => 1023
  chain [c.stray [(0, 6), (8, 4)], argIs (decide (10 < k)) 0, argIs (decide (3 < place)) 1, argIs (decide (most < pval)) 2,
      argIs (decide (7 < c.b 4)) 4, argIs (decide (7 < win)) 5, argIs (decide (2 ^ 19 ≤ wbase)) 8,
      argIs (!shared && !write) 4, argIs (s.placeTooSmall place pval k) 1, argIs (b.window t win).valid 5,
      stateIs (!b.mappable t) stDenied 0xFFFF, (s.lockedTo c.page (1, t), stBusy, 0xFFFF, 8)] <|
    let held := s.leavesHeld b (fun _ => true)
    let staying := s.leavesHeld b (fun base => !s.quireGoing base)
    let clear (ls : List Nat) (base : Nat) : Bool := !(s.membersOf base k).any (fun l => ls.contains l)
    let legal := s.placeBases place pval k
    let open_ := legal.filter (fun base => clear held base && !s.lockedTo c.page (2, base))
    let fit := open_.filter (fun base => s.windowFits b t wbase base k)
    match s.bestBase held fit k with
    | none =>
      if open_.isEmpty then
        .fail (if place != 3 && legal.any (clear staying) then stBusy else stNoResource) 0xFFFF 9 none
      else .fail stBadArg 8 9 none
    | some base =>
      let gen := (b.quire base).qgen
      let q : QuireRec := { qk := k, qstate := .active, shared := shared, xhost := xhost, creator := t,
                            qhost := (b.tenant t).host, nshare := 0, qgen := gen }
      let w : Window := { valid := true, write := write, shared := shared, qbase := base, qk := k, wbase := wbase, qgen := gen }
      .staged [(.quireNew base q, 0xFFFF), (.window t win w, 0xFFFF)] (leBytes 2 base ++ leBytes 2 gen) s

def execQalloc (page : Fin 521) (s : State) : Host.Outcome State Fault Refusal := s.serve page.val 0x10 anySub qallocBody

/-- Sharers of a quire at most, whichever of the staged sets land before a page's own (R59): the windows onto it that are
live and not replaced by that page's open set, and those staged. -/
def State.sharersMost (s : State) (page base : Nat) : Nat :=
  let named (its : List Item) : List (Nat × Window) := its.filterMap (fun i => match i.what with
    | .window t w r => some (t * 8 + w, r)
    | _ => none)
  let own := match s.openSet page with | some c => named c.effective | none => []
  let others := (s.sets.filter (fun c => c.committed || c.page != page)).flatMap (fun c => named c.items)
  let live := s.bank.windows.filter (fun (i, _) => !own.any (fun x => x.1 == i))
  let on := (live ++ own ++ others).filter (fun (_, w) => w.valid && w.qbase == base)
  (on.map (fun x => x.1)).dedup.length

/-- QJOIN (R58, R59, R69, R474). -/
def qjoinBody (c : Cmd) (_tk : Nat) (s : State) : Ans :=
  let t := c.tenant
  let b := s.pendingBank
  let base := c.le 0 2
  let win := c.b 5
  let wbase := c.le 8 4
  let q := b.quire base
  let live := q.qstate == .active || q.qstate == .failed
  chain [c.stray [(0, 6), (8, 4)], argIs (decide (1023 < base)) 0, argIs (c.b 4 != 0 && c.b 4 != 4) 4, argIs (decide (7 < win)) 5,
      argIs (decide (2 ^ 19 ≤ wbase)) 8, argIs (b.window t win).valid 5,
      argIs (live && !s.windowFits b t wbase base q.qk) 8, stateIs (!b.mappable t) stDenied 0xFFFF,
      stateIs (q.qgen != c.le 2 2) stStale 2,
      stateIs (!live || !q.shared || (!q.xhost && q.qhost != (b.tenant t).host)) stDenied 0,
      (s.lockedTo c.page (1, t), stBusy, 0xFFFF, 8), (decide (64 ≤ s.sharersMost c.page base), stNoResource, 0xFFFF, 9)] <|
    let w : Window := { valid := true, write := c.b 4 == 4, shared := true, qbase := base, qk := q.qk, wbase := wbase, qgen := q.qgen }
    .staged [(.window t win w, 0xFFFF)] [] s

def execQjoin (page : Fin 521) (s : State) : Host.Outcome State Fault Refusal := s.serve page.val 0x11 anySub qjoinBody

/-- WUNMAP: a window is removed. A reservation of the page's own open set that this leaves without a window is withdrawn
(R63). -/
def wunmapBody (c : Cmd) (_tk : Nat) (s : State) : Ans :=
  let t := c.tenant
  let b := s.pendingBank
  let win := c.b 5
  let w := b.window t win
  chain [c.stray [(5, 1)], argIs (decide (7 < win)) 5, argIs (!w.valid) 5, stateIs (!b.mappable t) stDenied 0xFFFF] <|
    let dropNew (x : ChangeSet) : ChangeSet :=
      if x.committed || x.page != c.page || decide (1 < (b.quire w.qbase).nshare) then x
      else { x with items := x.items.filter (fun i => match i.what with | .quireNew base _ => base != w.qbase | _ => true) }
    .staged [(.window t win Window.none, 0xFFFF)] [] { s with sets := s.sets.map dropNew }

def execWunmap (page : Fin 521) (s : State) : Host.Outcome State Fault Refusal := s.serve page.val 0x12 anySub wunmapBody

/-- QRELEASE (R69, R71). -/
def qreleaseBody (c : Cmd) (_tk : Nat) (s : State) : Ans :=
  let base := c.le 0 2
  let q := s.bank.quire base
  chain [c.stray [(0, 4)], argIs (decide (1023 < base)) 0, stateIs (q.qgen != c.le 2 2) stStale 2,
      stateIs (q.qstate != .failed || (s.membersOf base q.qk).any s.leafBad) stDenied 0] <|
    .staged [(.quireRelease base, 0)] [] s

def execQrelease (page : Fin 521) (s : State) : Host.Outcome State Fault Refusal := s.serve page.val 0x13 anySub qreleaseBody

/-! ## Regions and skew (R72, R162-R164, R195, R271) -/

/-- R271 on a region with SKEW other than 0. -/
def skewAllowed (r : Region) (k : Skew) : Bool :=
  let sh := r.shape
  let tw := 2 ^ k.twl
  let unit := sh.elemsIn (layoutOf r.sfmt r.sparse).unit
  (!isPassThrough r.sfmt r.sparse r.dfmt || ((r.sfmt == 1 || r.sfmt == 2 || r.sfmt == 3) && !r.sparse)) && k.valid &&
    sh.elems % tw == 0 && decide (0 < unit) && tw % unit == 0

/-- A region's skew stands in a bank. -/
def Banked.skewOk (b : Banked) (r : Region) : Bool := r.skew == 0 || skewAllowed r (b.skew r.skew)

def regionSetBody (c : Cmd) (_tk : Nat) (s : State) : Ans :=
  let i := c.index
  let r := Region.ofBits (c.record 16)
  chain [c.recStray 16, argIs (decide (63 < i)) 0, argIs (c.le 20 4 != 0) 20, argIs (decide (524288 < r.rbase + r.rlen + 1)) 8,
      argIs (!legalFormats r.sfmt r.sparse r.dfmt) (atBit 41), argIs (decide (1 < r.rnd)) (atBit 62),
      argIs (!s.pendingBank.skewOk r) (atBit 50)] <|
    .staged [(.region c.tenant i r, 0)] [] s

/-- REGION_SET (R72, R271). -/
def execRegionSet (page : Fin 521) (s : State) : Host.Outcome State Fault Refusal := s.serve page.val 0x14 anySub regionSetBody

def tintSetBody (c : Cmd) (_tk : Nat) (s : State) : Ans :=
  let i := c.index
  let b := s.pendingBank
  if i = 16 then
    let red := c.b 8
    let yel := c.b 9
    chain [c.recStray 2, argIs (decide (15 < red) || (b.tint red).cls != 3) 8, argIs (decide (15 < yel) || (b.tint yel).cls != 2) 9] <|
      .staged [(.markTints red yel, 0)] [] s
  else
    let r := Tint.ofBits (c.record 8)
    chain [c.recStray 8, argIs (decide (16 < i)) 0, argIs (decide (2 ^ 30 ≤ c.record 8)) (atBit 30), argIs (decide (r.tgt < 64)) 8,
        argIs (r.pcol == 3) (atBit 18), argIs (r.wgt == 0) (atBit 20),
        argIs ((b.redTint == i && r.cls != 3) || (b.yelTint == i && r.cls != 2)) 8] <|
      .staged [(.tint i r, 0)] [] s

/-- TINT_SET (R162, R200, Tables 6.1 and 7.2). -/
def execTintSet (page : Fin 521) (s : State) : Host.Outcome State Fault Refusal := s.serve page.val 0x20 anySub tintSetBody

def portSetBody (c : Cmd) (_tk : Nat) (s : State) : Ans :=
  let r : PortRec := { ptmask := c.le 8 2, ptgt := c.le 10 2, pwdT := c.le 14 2, enable := bitAt (c.b 12) 0 }
  chain [c.recStray 8, argIs (decide (127 < c.index)) 0, argIs (decide (0 < r.ptgt) && decide (r.ptgt < 64)) 8,
      argIs (decide (1 < c.b 12)) 12, argIs (c.b 13 != 0) 13, argIs (r.pwdT == 0 || decide (1000 < r.pwdT)) 14] <|
    .staged [(.port c.index r, 0)] [] s

/-- PORT_SET (R164, R470, Table 15.5). -/
def execPortSet (page : Fin 521) (s : State) : Host.Outcome State Fault Refusal := s.serve page.val 0x21 anySub portSetBody

def policerSetBody (c : Cmd) (_tk : Nat) (s : State) : Ans :=
  let r := Policer.ofBits (c.record 16)
  chain [c.recStray 16, argIs (c.index != 0) 0, argIs (decide (2 ^ 124 ≤ c.record 16)) (atBit 124), argIs (r.ract == 3) (atBit 3),
      argIs (!r.alg && decide (r.pir < r.cir)) (atBit 37), argIs (decide (16 < r.split)) (atBit 7), argIs (decide (r.cbs < 2)) (atBit 62),
      argIs (decide (r.pbs < 2)) (atBit 76), argIs (r.dburst == 0) (atBit 114)] <|
    .staged [(.policer c.tenant r, 0xFFFF)] [] s

/-- POLICER_SET (R195). -/
def execPolicerSet (page : Fin 521) (s : State) : Host.Outcome State Fault Refusal := s.serve page.val 0x23 anySub policerSetBody

/-- Sum of a gate list's durations in ns. -/
def GateList.sum (g : GateList) : Nat := (g.entries.map (fun e => e.dur * 100)).sum

def gateSetBody (c : Cmd) (_tk : Nat) (s : State) : Ans :=
  let b := s.pendingBank
  let base := c.index
  let q := b.quire base
  let hd := c.record 4
  let n := fld hd 0 7
  let entry (i : Nat) : Nat := ofLe ((c.bulk.drop (8 * i)).take 8)
  let es := (List.range n).map entry
  let g : GateList := { guard := fld hd 7 14, follow := bitAt hd 21, entries := es.map (fun e => ⟨fld e 0 16, fld e 16 24⟩) }
  chain [deniedIf (decide (base < 1024) && (q.qstate == .free || q.qhost != c.hostNum)), c.recStray 4,
      argIs (decide (1023 < base)) 0, argIs (decide (64 < n)) 8, argIs (decide (10000 < g.guard)) (atBit 7),
      argIs (decide (2 ^ 22 ≤ hd)) (atBit 22), argIs (decide (0 < n) && !c.hasBulk) 8,
      argIs (es.any (fun e => decide (2 ^ 40 ≤ e) || fld e 16 24 == 0)) 0xFFFF, argIs (decide (b.sheetNs < g.sum)) 0xFFFF] <|
    .staged [(.gate base g, 0)] [] s

/-- GATE_SET (R201, Table 7.3). The sheet length in force at the go-live is not known yet: the list is held against that of
the pending copy, other pages' open sets included (DESIGN CHOICE, log 136), and again at COMMIT (R228). -/
def execGateSet (page : Fin 521) (s : State) : Host.Outcome State Fault Refusal := s.serve page.val 0x24 anySub gateSetBody

def profileLoadBody (c : Cmd) (_tk : Nat) (s : State) : Ans :=
  chain [c.stray [(0, 1)], argIs (decide (3 < c.b 0)) 0] <| .staged [(.profile (c.b 0), 0)] [] s

/-- PROFILE_LOAD (R214). -/
def execProfileLoad (page : Fin 521) (s : State) : Host.Outcome State Fault Refusal := s.serve page.val 0x25 anySub profileLoadBody

def skewSetBody (c : Cmd) (_tk : Nat) (s : State) : Ans :=
  let r := Skew.ofBits (c.record 4)
  chain [c.recStray 4, argIs (c.index == 0 || decide (7 < c.index)) 0, argIs (decide (2 ^ 19 ≤ c.record 4)) (atBit 19),
      argIs (r.valid && (r.lanesl == 0 || decide (8 < r.lanesl))) 8, argIs (r.valid && (decide (r.twl < 3) || decide (9 < r.twl))) 8,
      argIs (r.valid && decide (2 ^ r.twl ≤ r.step)) (atBit 9)] <|
    .staged [(.skew c.index r, 0)] [] s

/-- SKEW_SET (Table 9.6). -/
def execSkewSet (page : Fin 521) (s : State) : Host.Outcome State Fault Refusal := s.serve page.val 0x30 anySub skewSetBody

/-! ## Feeder records (R272, R273) -/

def feederPortSetBody (c : Cmd) (_tk : Nat) (s : State) : Ans :=
  let v := c.record 4
  chain [c.recStray 4, argIs (decide (7 < c.index)) 0, argIs (decide (16 ≤ v)) (atBit 4)] <|
    .staged [(.feederPort c.index ⟨bitAt v 0, fld v 1 3⟩, 0)] [] s

/-- FEEDER_PORT_SET (R272). -/
def execFeederPortSet (page : Fin 521) (s : State) : Host.Outcome State Fault Refusal := s.serve page.val 0x32 anySub feederPortSetBody

/-- The window of a tenant in a bank that holds an address. -/
def State.bankWindow (s : State) (b : Banked) (t addr : Nat) : Option Window :=
  ((List.range 8).map (b.window t)).find? (fun w =>
    w.valid && decide (w.wbase * 2 ^ 21 ≤ addr) && decide (addr < w.wbase * 2 ^ 21 + s.windowLen w))

/-- One region governs every byte of a range: the one that governs its first byte covers it, and no other takes a byte of
it over (R74). -/
def oneRegion (b : Banked) (t lo hi : Nat) : Bool :=
  let i := regionOf b t lo
  let r := regionAt b t i
  let ends (g : Region) : Nat := (g.rbase + g.rlen + 1) * 2 ^ 21
  decide (i < 64) && decide (hi ≤ ends r) && (List.range 64).all (fun j =>
    let g := b.region t j
    let over_ := decide (r.prio < g.prio) || (g.prio == r.prio && decide (j < i))
    j == i || !g.valid || !over_ || decide (hi ≤ g.rbase * 2 ^ 21) || decide (ends g ≤ lo))

/-- Stored read rate that a slot demands of a stack, in GB/s (R273). -/
def State.slotDemand (s : State) (b : Banked) (f : FeederSlot) (k : Nat) : Rat :=
  let r := regionAt b f.ten (regionOf b f.ten f.saddr)
  match s.bankWindow b f.ten f.saddr with
  | none => 0
  | some w =>
    let ls := s.membersOf w.qbase w.qk
    let here := (ls.filter (fun l => l / 64 == k)).length
    if !f.valid then 0 else (f.grate * 4096 * here : Nat) / (r.delivered 4096 * ls.length : Nat)

/-- Demand of a stack: the largest slot of each port, summed. -/
def State.feedDemand (s : State) (b : Banked) (k : Nat) : Rat :=
  ((List.range 8).map (fun p =>
    (b.feedSlots.filter (fun (i, _) => i / 8 == p)).foldl (fun (m : Rat) (_, f) => max m (s.slotDemand b f k)) 0)).sum

/-- FEED_MAX of a stack's stored bandwidth at the nominal point, in GB/s. -/
def State.feedLimit (s : State) (b : Banked) (k : Nat) : Rat :=
  ((s.geom k).leaves * s.qPer10 k * 32 * b.settingAt 0x3105 k (settingRow 0x3105) : Nat) / 1000

/-- Stacks that a bank asks for more than FEED_MAX. -/
def State.feedOver (s : State) (b : Banked) : List Nat :=
  if b.feedSlots.isEmpty then [] else (List.range 16).filter (fun k => decide (s.feedLimit b k < s.feedDemand b k))

def feederSlotSetBody (c : Cmd) (_tk : Nat) (s : State) : Ans :=
  let b := s.pendingBank
  let i := c.index
  let f := FeederSlot.ofBits (c.record 16)
  let hi := f.saddr + (f.slen + 1) * 4096
  let r := regionAt b f.ten (regionOf b f.ten f.saddr)
  let inWindow := match s.bankWindow b f.ten f.saddr with
    | some w => decide (hi ≤ w.wbase * 2 ^ 21 + s.windowLen w)
    | none => false
  let on (bad : Bool) (bit : Nat) := argIs (f.valid && bad) (atBit bit)
  let after := b.apply b.sheetNs (.feederSlot i f)
  chain [deniedIf (decide (i < 64) && ((b.feedPort (i / 8)).fhost != c.hostNum || (b.tenant f.ten).host != c.hostNum)), c.recStray 16,
      argIs (decide (63 < i)) 0, argIs (decide (2 ^ 97 ≤ c.record 16)) (atBit 97), on (f.saddr % 4096 != 0) 18,
      on (!inWindow || !oneRegion b f.ten f.saddr hi || r.skew == 0) 18, on ((f.slen + 1) * r.delivered 4096 % 512 != 0) 58,
      on (f.aen == 0) 14, on (f.grate == 0 || decide (1200 < f.grate)) 86, on ((b.tint f.tint).cls == 3) 10,
      (s.lockedTo c.page (9, i), stBusy, 0, 8),
      ((s.feedOver after).any (fun k => !(s.feedOver b).contains k || decide (s.feedDemand b k < s.feedDemand after k)), stNoResource,
        0xFFFF, 9)] <|
    .staged [(.feederSlot i f, 0)] [] s

/-- FEEDER_SLOT_SET (R272, R273). -/
def execFeederSlotSet (page : Fin 521) (s : State) : Host.Outcome State Fault Refusal := s.serve page.val 0x33 anySub feederSlotSetBody

/-! ## Doorbells and watermarks (R302, R306) -/

def doorbellSetBody (c : Cmd) (_tk : Nat) (s : State) : Ans :=
  let b := s.pendingBank
  let i := c.index
  let d := Doorbell.ofBits (c.record 24)
  let on (bad : Bool) (bit : Nat) := argIs (d.valid && bad) (atBit bit)
  chain [deniedIf ((b.tenant d.ten).host != c.hostNum), c.recStray 24, argIs (decide (63 < i)) 0,
      argIs (decide (2 ^ 186 ≤ c.record 24)) (atBit 186), on (d.dbaddr % 4096 != 0) 10,
      on (Tab.some b.doorbells (fun j e => j != i && e.valid && e.dbaddr == d.dbaddr)) 10, on (d.trows == 0) 101,
      on ((b.tint d.ptint).cls == 3) 170] <|
    .staged [(.doorbell i d, 0)] [] s

/-- DOORBELL_SET (R302). -/
def execDoorbellSet (page : Fin 521) (s : State) : Host.Outcome State Fault Refusal := s.serve page.val 0x34 anySub doorbellSetBody

/-- A positive finite FP32 value. -/
def positiveFp32 (v : Nat) : Bool := decide (0 < v) && decide (v < 0x7F800000)

/-- An arming is free: not valid, or used, its step's end past (R306; DEDUCED, log 142). -/
def State.armFree (s : State) (b : Banked) (i : Nat) : Bool :=
  !(b.arming i).valid || (b.arming i == s.bank.arming i && bitAt (Tab.get Digest.reset s.lake.digests i).flags 0)

def wmArmBody (c : Cmd) (_tk : Nat) (s : State) : Ans :=
  let b := s.pendingBank
  let a := Arming.ofBits (c.record 24)
  let free := (List.range 16).find? (fun i => s.armFree b i && !s.lockedTo c.page (11, i))
  let r := b.region a.ten a.region
  let mine := if c.page < 512 then a.ten == c.page else (b.tenant a.ten).host == c.hostNum
  let on (bad : Bool) (bit : Nat) := argIs (a.valid && bad) (atBit bit)
  chain [deniedIf (!mine), c.recStray 24, argIs (decide (15 < c.index) && c.index != 0xFFFF) 0,
      argIs (decide (2 ^ 185 ≤ c.record 24)) (atBit 185),
      on (!r.valid || !r.wmark || r.sfmt == 0 || (r.sfmt == r.dfmt && isMx r.sfmt)) 10, on (!positiveFp32 a.limit) 67,
      stateIs (a.valid && a.dstop && !s.isOwner c.page && !(decide (c.page < 512) && (s.tenSt c.page).debugRights)) stDenied 0xFFFF,
      (decide (c.index = 0xFFFF) && free.isNone, stNoResource, 0xFFFF, 9)] <|
    let i := if c.index = 0xFFFF then free.getD 0 else c.index
    .staged [(.arming i a, 0)] [i] s

/-- WM_ARM (R306). -/
def execWmArm (page : Fin 521) (s : State) : Host.Outcome State Fault Refusal := s.serve page.val 0x35 anySub wmArmBody

/-! ## Settings lists (R466-R468) -/

/-- Entries of a settings list: CODE, INST, VALUE. -/
def Cmd.settings (c : Cmd) : List (Nat × Nat × Nat) :=
  (List.range (c.b 0)).map (fun i =>
    let src := if c.hasBulk then (c.bulk.drop (8 * i)).take 8 else ((c.args.drop (8 + 8 * i)).take 8)
    (ofLe (src.take 2), ofLe ((src.drop 2).take 2), ofLe (src.drop 4)))

/-- Instances an entry names. -/
def instancesOf (r : SettingSpec) (inst : Nat) : List Nat :=
  let n := match r.scope with | 0 => 1 | 1 => 16 | _ => 8
  if inst = 0xFFFF then List.range n else if inst < n then [inst] else []

/-- Pairs of settings whose ranges depend on each other, as broken for a stack in a bank (R468). -/
def Banked.pairsBroken (b : Banked) (k : Nat) : List Nat :=
  let v (code : Nat) : Nat := b.settingAt code k (settingRow code)
  (if v 0x2601 ≤ v 0x2602 then [0x2601, 0x2602] else []) ++ (if v 0x4001 ≤ v 0x4002 then [0x4001, 0x4002] else []) ++
    (if v 0x4005 < v 0x4007 + 64 then [0x4005, 0x4007] else [])

/-- An entry of a list is valid by itself. -/
def State.entryOk (s : State) (op : Nat) (e : Nat × Nat × Nat) : Bool :=
  match settingRow e.1 with
  | none => false
  | some r => e.1 / 256 == op && !(instancesOf r e.2.1).isEmpty && (instancesOf r e.2.1).all (fun i =>
      match s.settingSpec e.1 i with | some q => q.admits e.2.2 | none => false)

/-- Settings an entry stages. -/
def entryItems (e : Nat × Nat × Nat) : List Staged :=
  match settingRow e.1 with
  | none => []
  | some r => (instancesOf r e.2.1).map (fun i => .setting e.1 i e.2.2)

def settingsBody (c : Cmd) (_tk : Nat) (s : State) : Ans :=
  let n := c.b 0
  let es := c.settings
  let items := es.zipIdx.flatMap (fun (e, i) => (entryItems e).map (fun w => (w, 0x8000 + i)))
  let after := items.foldl (fun b x => b.apply b.sheetNs x.1) s.pendingBank
  let bad (e : Nat × Nat × Nat) (i : Nat) : Bool :=
    !s.entryOk c.opcode e ||
    (items.filter (fun x => x.2 == 0x8000 + i)).any (fun x => items.any (fun y => decide (y.2 < x.2) && y.1.key == x.1.key)) ||
    (match settingRow e.1 with
      | some r => decide (r.scope = 1) && (instancesOf r e.2.1).any (fun k => (after.pairsBroken k).contains e.1)
      | none => false)
  let first := es.zipIdx.find? (fun (e, i) => bad e i)
  chain [argIs (n == 0 || decide ((if c.hasBulk then 96 else 5) < n)) 0,
      c.stray (if c.hasBulk then [(0, 1)] else [(0, 1), (8, 8 * n)]),
      argIs first.isSome (0x8000 + (first.map (fun x => x.2)).getD 0)] <|
    .staged items [] s

/-- SCHED_SET (R466-R468). -/
def execSchedSet (page : Fin 521) (s : State) : Host.Outcome State Fault Refusal := s.serve page.val 0x26 anySub settingsBody
/-- SHEET_SET (R466-R468). -/
def execSheetSet (page : Fin 521) (s : State) : Host.Outcome State Fault Refusal := s.serve page.val 0x28 anySub settingsBody
/-- LAKE_SET (R466-R468). -/
def execLakeSet (page : Fin 521) (s : State) : Host.Outcome State Fault Refusal := s.serve page.val 0x31 anySub settingsBody
/-- MAINT_SET (R466-R468). -/
def execMaintSet (page : Fin 521) (s : State) : Host.Outcome State Fault Refusal := s.serve page.val 0x40 anySub settingsBody
/-- POWER_SET (R466-R468). -/
def execPowerSet (page : Fin 521) (s : State) : Host.Outcome State Fault Refusal := s.serve page.val 0x50 anySub settingsBody
/-- THERMAL_SET (R466-R468). -/
def execThermalSet (page : Fin 521) (s : State) : Host.Outcome State Fault Refusal := s.serve page.val 0x52 anySub settingsBody
/-- CALIB_SET (R466-R468). -/
def execCalibSet (page : Fin 521) (s : State) : Host.Outcome State Fault Refusal := s.serve page.val 0x58 anySub settingsBody
/-- HOST_SET (R466-R468). -/
def execHostSet (page : Fin 521) (s : State) : Host.Outcome State Fault Refusal := s.serve page.val 0x60 anySub settingsBody

/-! ## Operating points and tenants (R448, R449, R453, R478) -/

def oppointSetBody (c : Cmd) (_tk : Nat) (s : State) : Ans :=
  chain [c.stray [(0, 3)], argIs (decide (1 < c.b 2)) 2] <|
    .staged (((List.range 16).filter (bitAt (c.le 0 2))).map (fun k => (.opPoint k (c.b 2), 0))) [] s

/-- OPPOINT_SET (R478). -/
def execOppointSet (page : Fin 521) (s : State) : Host.Outcome State Fault Refusal := s.serve page.val 0x51 anySub oppointSetBody

def tenantAssignBody (c : Cmd) (_tk : Nat) (s : State) : Ans :=
  chain [c.stray [(0, 1)], argIs (decide (7 < c.b 0)) 0, stateIs ((s.bank.tenant c.target).tstate != .free) stDenied 0xFFFF] <|
    .staged [(.tenantHost c.target (c.b 0), 0xFFFF)] [] s

/-- TENANT_ASSIGN (R448). -/
def execTenantAssign (page : Fin 521) (s : State) : Host.Outcome State Fault Refusal := s.serve page.val 0x61 anySub tenantAssignBody

def ownerHandoverBody (c : Cmd) (_tk : Nat) (s : State) : Ans :=
  let fresh : Bool := match (s.host (c.b 0)).accept with | some t => decide (s.clk.ticks ≤ t + ms 10000) | none => false
  chain [c.stray [(0, 1)], argIs (decide (7 < c.b 0)) 0, stateIs (!fresh) stDenied 0xFFFF] <| .staged [(.owner (c.b 0), 0xFFFF)] [] s

/-- OWNER_HANDOVER (R449). -/
def execOwnerHandover (page : Fin 521) (s : State) : Host.Outcome State Fault Refusal := s.serve page.val 0x62 anySub ownerHandoverBody

def adoptBody (c : Cmd) (_tk : Nat) (s : State) : Ans :=
  let r := s.bank.tenant c.target
  chain [c.stray [(0, 1)], argIs (decide (7 < c.b 0)) 0,
      stateIs ((r.tstate != .active && r.tstate != .failed) || !(s.host r.host).lost) stDenied 0xFFFF] <|
    .staged [(.adopt c.target (c.b 0), 0xFFFF)] [] s

/-- ADOPT (R453, R454). -/
def execAdopt (page : Fin 521) (s : State) : Host.Outcome State Fault Refusal := s.serve page.val 0x64 anySub adoptBody

/-! ## Commit and discard (R228-R233) -/

/-- Two regions share a byte. -/
def Region.overlaps (a b : Region) : Bool :=
  decide (a.rbase < b.rbase + b.rlen + 1) && decide (b.rbase < a.rbase + a.rlen + 1)

/-- Overlap records of a COMMIT (R74): pairs at equal PRIO of which one is staged in the set. -/
def State.overlapLogs (s : State) (c : ChangeSet) (b : Banked) : State :=
  let staged := (c.items.filterMap (fun i => match i.what with | .region t n _ => some (t, n) | _ => none)).dedup
  let ts := (staged.map (fun x => x.1)).dedup
  ts.foldl (fun s t => (List.range 64).foldl (fun s i => (List.range 64).foldl (fun s j =>
    let x := b.region t i
    let y := b.region t j
    if i < j && x.valid && y.valid && x.prio == y.prio && x.overlaps y && (staged.contains (t, i) || staged.contains (t, j)) then
      s.note 0x41 6 t [(1, i), (1, j)]
    else s) s) s) s

/-- Records of a set that fail a cross-record check in a projected bank, with their kinds of Table 15.7 (R228). -/
def State.crossBad (s : State) (c : ChangeSet) (b : Banked) : List (Nat × Nat) :=
  let items := c.effective.map (fun i => i.what)
  let gates := items.filterMap (fun w => match w with
    | .gate base _ => if b.sheetNs < (b.gate base).sum then some (6, base) else none
    | _ => none)
  let marks := if (b.tint b.redTint).cls != 3 || (b.tint b.yelTint).cls != 2 then [(4, 16)] else []
  let skews := b.regions.filterMap (fun (i, r) => if r.valid && !b.skewOk r then some (3, i % 64) else none)
  let pairs := ((List.range 16).flatMap b.pairsBroken).dedup.map (fun code => (8, code))
  let wins := items.filterMap (fun w => match w with
    | .window t _ r => if r.valid && !b.mappable t then some (1, t) else none
    | _ => none)
  let news := items.filterMap (fun w => match w with
    | .quireNew base q => if s.legalQuire base q.qk then none else some (2, base)
    | _ => none)
  (gates ++ marks ++ skews ++ pairs ++ wins ++ news).dedup

def commitBody (c : Cmd) (tk : Nat) (s : State) : Ans :=
  let nb := c.le 0 8
  let own : ChangeSet := (s.openSet c.page).getD
    { page := c.page, items := [], tickets := [], committed := false, commitTicket := 0, time := 0, notBefore := 0, seq := 0 }
  let lead := s.setting 0x2803 0 * 1000
  let set : ChangeSet := { own with committed := true, commitTicket := tk, time := s.now + lead, notBefore := nb, seq := s.nextSeq }
  let at_ := s.landing set.due
  let b := s.projected set at_.1
  let bad := s.crossBad set b
  -- the set raises a demand past FEED_MAX, or lowers FEED_MAX below a demand
  let more := (s.feedOver b).any (fun k => decide (s.feedDemand s.bank k < s.feedDemand b k) ||
    decide (s.feedLimit b k < s.feedLimit s.bank k))
  chain [c.stray [(0, 8)], argIs (decide (s.now + 10000000000 < nb)) 0] <|
    if !bad.isEmpty then .fail stBadArg 0xFFFF 6 (some (bad.flatMap (fun (k, i) => leBytes 2 k ++ leBytes 2 i)))
    else if more then .fail stNoResource 0xFFFF 9 none
    else if 256 ≤ (s.sets.filter (fun x => x.committed)).length then .fail stBusy 0xFFFF 9 none
    else
      let s := { s with sets := s.sets.filter (fun (x : ChangeSet) => x.committed || x.page != c.page) ++ [set] }
      let s := s.overlapLogs set b
      match Tab.find? s.tickets tk with
      | none => .wait s
      | some t => .wait (if t.mmp2 then s else s.complete t stPending at_.2 false (leBytes 8 at_.1) none)

/-- COMMIT (R228-R231): the open set is checked against its projected state and committed. -/
def execCommit (page : Fin 521) (s : State) : Host.Outcome State Fault Refusal := s.serve page.val 0x03 anySub commitBody

def discardBody (c : Cmd) (_tk : Nat) (s : State) : Ans :=
  chain [c.stray []] <|
    match s.openSet c.page with
    | some x =>
      let s := { s with sets := s.sets.filter (fun y => y.committed || y.page != c.page) }
      .ok (leBytes 2 x.records.length) (x.tickets.foldl (fun s tk => s.finish tk stDenied noArg none) s)
    | none =>
      if s.sets.any (fun x => x.committed && x.page == c.page) then .fail stDenied 0xFFFF 7 none else .ok [0, 0] s

/-- DISCARD (R233). -/
def execDiscard (page : Fin 521) (s : State) : Host.Outcome State Fault Refusal := s.serve page.val 0x04 anySub discardBody

end Sys2Proof.Machine
end

