-- ==== Sys2Proof/Machine/Hosts.lean ====
section
/-! DEFINITION. Hosts and their pages: rights to a page (Table 14.2), access errors (R555), pointer writes and heartbeats, the freeze of a lost host, its lease and its return (R430, R434, R450-R455). -/

namespace Sys2Proof.Machine

/-! ## Access errors (R38, R554, R555) -/

/-- Record an access error: ADDRERR for a reserved offset, RIGHTERR for missing rights. -/
def State.accErr (s : State) (src off : Nat) (write addr : Bool) : State :=
  let r := s.regs
  let bit := if addr then 0 else 1
  if r.accerr % 4 = 0 then
    { s with regs := { r with accerr := 2 ^ bit + put src 2 4 + put write.toNat 6 1 + put 1 8 8, accerrAddr := off } }
  else
    let n := min 255 (fld r.accerr 8 8 + 1)
    { s with regs := { r with accerr := (r.accerr % 2 ^ 8 ||| 2 ^ bit) + put n 8 8 } }

/-- Window offset of a mailbox page (Table 18.1). -/
def pageOffset (page : Nat) : Nat := if page < 512 then 0x100000 + page * 0x1000 else 0x300000 + (page - 512) * 0x1000

/-- Full access of a source to a page (Table 14.2). -/
def State.pageFull (s : State) (page src : Nat) : Bool :=
  let live := (s.page page).pstate != .frozen
  if page < 512 then decide (src < 8) && (s.bank.tenant page).host == src && live
  else if page < 520 then src == page - 512 && live
  else src == 8 || (decide (src < 8) && s.bank.owner == some src)

/-- The pages' domain is off or in reset (R554). -/
def State.pagesOff (s : State) : Bool := s.boot.coreReset || s.boot.mordantRst

/-- A pointer or heartbeat write that its source may not make is discarded (R38, R554). -/
def State.pageWrite (s : State) (page src off : Nat) (right : Bool) (f : State → State) : Host.Outcome State Fault Refusal :=
  if s.pins.porst then .next s
  else if !right || s.pagesOff then .next (s.accErr src (pageOffset page + off) true false)
  else .next (f s)

/-! ## Pointer writes (R434, R438) -/

/-- A write of MB_CMD_TAIL that does not move back and leaves at most 32 commands. -/
def State.writeTail (s : State) (page v : Nat) : State :=
  let p := s.page page
  let old := ringUsed p.cmdTail p.cmdHead
  let new := ringUsed v p.cmdHead
  if old ≤ new && new ≤ 32 then
    ((s.setPage page { p with cmdTail := v }).queueService page).skipUnknown 1024
  else s.setPage page { p with tailErr := true }

/-- A write of MB_CPL_HEAD frees ring entries; what waits is written. -/
def State.writeHead (s : State) (page v : Nat) : State :=
  let p := s.page page
  if ringUsed p.cplTail v ≤ ringUsed p.cplTail p.cplHead then
    (((s.setPage page { p with cplHead := v }).pumpPage page).queueService page).skipUnknown 1024
  else s.setPage page { p with tailErr := true }

/-- MB_CMD_TAIL_WRITE, the doorbell (R429, R434, R445). -/
def execMbCmdTailWrite (page : Fin 521) (src : Fin 16) (v : BitVec 32) (s : State) : Host.Outcome State Fault Refusal :=
  s.pageWrite page.val src.val 0xC00 (s.pageFull page.val src.val) (fun s => s.wakeCores.writeTail page.val (v.toNat % 64))

/-- MB_CPL_HEAD_WRITE (R434, R438). -/
def execMbCplHeadWrite (page : Fin 521) (src : Fin 16) (v : BitVec 32) (s : State) : Host.Outcome State Fault Refusal :=
  s.pageWrite page.val src.val 0xC0C (s.pageFull page.val src.val) (fun s => s.writeHead page.val (v.toNat % 64))

/-! ## Loss (R242, R450, R451) -/

/-- Pages that host h holds: its admin page and its tenants' pages. -/
def State.heldPages (s : State) (h : Nat) : List Nat :=
  (List.range 512).filter (fun t => (s.bank.tenant t).host == h) ++ [adminPage h]

/-- Freeze a page: its open set is discarded, and the commands of that set wait for the host's return. -/
def State.freezePage (s : State) (page : Nat) : State :=
  let p := s.page page
  let tks := match s.openSet page with | some c => c.tickets | none => []
  let gone := tks.filterMap (fun tk => (Tab.find? s.tickets tk).map (fun t => (t.ctag, t.opcode, t.cirq)))
  let s := { s with sets := s.sets.filter (fun (c : ChangeSet) => c.committed || c.page != page),
                    tickets := Tab.keep s.tickets (fun tk _ => !tks.contains tk),
                    serviceq := s.serviceq.filter (fun x => x != page) }
  s.setPage page { p with pstate := .frozen, epoch := (p.epoch + 1) % 65536, withdrawn := p.withdrawn ++ gone }

/-- Host h is lost (R451): its pages freeze, its lease starts, the owner is told and one alarm record is written. -/
def State.hostLost (s : State) (h : Nat) : State :=
  let s := s.setHost h { s.host h with lost := true, lostAt := s.clk.ticks, leaseOn := true }
  let s := (s.heldPages h).foldl State.freezePage s
  (s.ownerEvent 2 (h + 256 * s.now)).note 0x10 7 h []

/-- HEARTBEAT_TIMEOUT (R450): no heartbeat for HB_TMO. -/
def execHeartbeatTimeout (h : Fin 8) (s : State) : Host.Outcome State Fault Refusal :=
  let x := s.host h.val
  if s.serving && x.watched && !x.lost && decide (x.beat + ms (10 * s.setting 0x6002 h.val) ≤ s.clk.ticks) then
    .next (s.wakeCores.hostLost h.val)
  else .next s

/-- HOST_LINK_DOWN (R450): the chip's host interface reports the link down. -/
def execHostLinkDown (h : Fin 8) (s : State) : Host.Outcome State Fault Refusal :=
  if s.serving && !(s.host h.val).lost then .next (s.hostLost h.val) else .next s

/-! ## Return (R455) -/

/-- Open a frozen page again: CLOSED with its rings empty, then one ABORTED_HOST_LOST completion for each command whose set
was discarded. -/
def State.thawPage (s : State) (page : Nat) : State :=
  let p := s.page page
  if p.pstate != .frozen then s
  else
    let lost : List Cpl := p.withdrawn.map (fun (ctag, op, cirq) =>
      { bits := cplBits (p.gen == 2) ctag op stAborted 0 true false false noArg, cirq := cirq, event := false, bulk := [],
        hasBulk := false })
    let owed := (s.tickets.filter (fun (_, t) => t.page == page)).length
    (s.setPage page { p.emptied with waiting := lost, owed := owed }).pumpPage page

/-- Host h is heard from again (R455). -/
def State.hostResumed (s : State) (h : Nat) : State :=
  let x := s.host h
  let s := s.setHost h { x with lost := false, leaseOn := false, beat := s.clk.ticks }
  if !x.lost then s
  else ((s.heldPages h).foldl State.thawPage s).ownerEvent 3 h

/-- MB_LEASE_WRITE: a heartbeat of host h (R450, R455). -/
def execMbLeaseWrite (h : Fin 8) (src : Fin 16) (s : State) : Host.Outcome State Fault Refusal :=
  s.pageWrite (adminPage h.val) src.val 0xC24 (src.val == h.val) (fun s => s.hostResumed h.val)

/-- HOST_LINK_UP (R455). -/
def execHostLinkUp (h : Fin 8) (s : State) : Host.Outcome State Fault Refusal :=
  if s.serving && (s.host h.val).lost then .next (s.hostResumed h.val) else .next s

/-! ## Leases (R452, R454) -/

/-- Tenants whose lease ends with their host's: still held by it, in use, and not in a committed adoption. -/
def State.leaseTenants (s : State) (h : Nat) : List Nat :=
  (s.bank.tenants.filter (fun (t, r) => r.host == h && (r.tstate == .active || r.tstate == .failed) &&
    !s.sets.any (fun (c : ChangeSet) => c.committed && c.items.any (fun i => match i.what with | .adopt u _ => u == t | _ => false)))).map
    (fun x => x.1)

/-- LEASE_EXPIRY (R452): the close of every tenant the lost host still holds is committed, and the owner is told. -/
def execLeaseExpiry (h : Fin 8) (s : State) : Host.Outcome State Fault Refusal :=
  let x := s.host h.val
  if !s.serving || !x.lost || !x.leaseOn || decide (s.clk.ticks < x.lostAt + ms (1000 * s.setting 0x6003 h.val)) then .next s
  else
    let ts := s.leaseTenants h.val
    if !s.ownRoom ts.length then .next s
    else
      let s := (s.wakeCores.setHost h.val { x with leaseOn := false }).ownSet (ts.map Staged.tenantClose)
      let sheet := (s.landing (s.now + s.setting 0x2803 0 * 1000)).2
      .next (ts.foldl (fun s t => s.ownerEvent 5 (t + 65536 * sheet)) s)

end Sys2Proof.Machine
end

