-- ==== Sys2Proof/Machine/MailOps.lean ====
section
/-! DEFINITION. The mailbox commands that act at once or over time: reading back, maintenance, repair map, power and calibration, counters, firmware, fault injection and debug (R130, R348-R354, R388-R391, R472-R486, R507, R523, R527, R544-R547). -/

namespace Sys2Proof.Machine

/-! ## STATE_READ (R472, Table 15.7) -/

/-- Quire map table entry (Table 2.5). -/
def Banked.mapEntry (b : Banked) (t : Nat) : Nat :=
  let r := b.tenant t
  let ws := (List.range 8).map (b.window t)
  let valid := (ws.zipIdx.map (fun (w, i) => w.valid.toNat * 2 ^ i)).sum
  put r.tstate.code 0 3 + put r.host 3 3 + put r.tgen 6 16 + put valid 22 8 +
    (ws.zipIdx.map (fun (w, i) => w.toBits * 2 ^ (64 + 64 * i))).sum

/-- Gate list as staged: the header and its entries. -/
def GateList.bytes (g : GateList) : List Nat :=
  leBytes 4 g.header ++ g.entries.flatMap (fun e => leBytes 2 e.open_ ++ leBytes 3 e.dur ++ [0, 0, 0])

/-- A record of a bank as STATE_READ returns it. -/
def State.recordBytes (s : State) (b : Banked) (kind t i code inst : Nat) : List Nat :=
  match kind with
  | 1 => leBytes 72 (b.mapEntry i)
  | 2 => leBytes 8 ((b.quire i).toBits i)
  | 3 => leBytes 16 (b.region t i).toBits
  | 4 => if i = 16 then [b.redTint, b.yelTint] else leBytes 8 (b.tint i).toBits
  | 5 => leBytes 16 (b.policer i).toBits
  | 6 => (b.gate i).bytes
  | 7 => leBytes 2 (b.port i).ptmask ++ leBytes 2 (b.port i).ptgt ++ [(b.port i).enable.toNat, 0] ++ leBytes 2 (b.port i).pwdT
  | 8 => leBytes 4 (b.settingAt code inst (s.settingSpec code inst))
  | 9 => leBytes 16 (b.feedSlot i).toBits
  | 10 => leBytes 24 (b.doorbell i).toBits
  | 11 => leBytes 24 (b.arming i).toBits ++ s.digestBytes (Tab.get Digest.reset s.lake.digests i)
  | 12 => leBytes 4 (b.skew i).toBits
  | _ => leBytes 4 ((b.feedPort i).fen.toNat + put (b.feedPort i).fhost 1 3)

/-- Largest INDEX of a kind. -/
def kindLimit (kind : Nat) : Nat :=
  match kind with
  | 1 | 5 => 511
  | 2 | 6 => 1023
  | 3 | 9 | 10 => 63
  | 4 => 16
  | 7 => 127
  | 8 => 0
  | 11 => 15
  | _ => 7

/-- A tenant maps a quire in a bank. -/
def Banked.mapsQuire (b : Banked) (t base : Nat) : Bool :=
  (List.range 8).any (fun w => (b.window t w).valid && (b.window t w).qbase == base)

/-- Rights of R472: records the page's authority may stage, its own tenants' records, and the quires they map. -/
def State.mayRead (s : State) (c : Cmd) (b : Banked) (kind i : Nat) : Bool :=
  let h := c.hostNum
  let mine (t : Nat) : Bool := if c.page < 512 then t == c.page else (b.tenant t).host == h
  let maps : Bool := if c.page < 512 then b.mapsQuire c.page i
    else b.windows.any (fun (n, w) => w.valid && w.qbase == i && mine (n / 8))
  match kind with
  | 1 | 5 => mine i || s.isOwner c.page
  | 2 => maps || s.isOwner c.page || (b.quire i).qhost == h
  | 3 => mine c.tenant
  | 6 => maps || (b.quire i).qhost == h
  | 9 => (b.feedPort (i / 8)).fhost == h || mine (b.feedSlot i).ten
  | 10 => (!(b.doorbell i).valid && decide (h < 8)) || mine (b.doorbell i).ten
  | 11 => !(b.arming i).valid || mine (b.arming i).ten
  | _ => s.isOwner c.page

def stateReadBody (c : Cmd) (_tk : Nat) (s : State) : Ans :=
  let kind := c.b 0
  let i := c.le 2 2
  let code := c.le 4 2
  let inst := c.le 6 2
  let b := if c.b 1 = 0 then s.bank else s.pendingBank
  let known := match settingRow code with
    | some r => inst != 0xFFFF && (instancesOf r inst).contains inst
    | none => false
  chain [deniedIf (decide (1 ≤ kind) && decide (kind ≤ 13) && decide (i ≤ kindLimit kind) && !s.mayRead c b kind i),
      c.stray (if kind = 8 then [(0, 8)] else [(0, 4)]), argIs (kind == 0 || decide (13 < kind)) 0, argIs (decide (1 < c.b 1)) 1,
      argIs (decide (kindLimit kind < i) || (kind == 12 && i == 0)) 2, argIs (kind == 8 && (settingRow code).isNone) 4,
      argIs (kind == 8 && !known) 6] <|
    .ok (s.recordBytes b kind c.tenant i code inst) (if kind = 11 then s.fresh else s)

/-- STATE_READ (R472). -/
def execStateRead (page : Fin 521) (s : State) : Host.Outcome State Fault Refusal := s.serve page.val 0x05 anySub stateReadBody

/-! ## Affinity and dumps -/

def affinityResetBody (c : Cmd) (_tk : Nat) (s : State) : Ans :=
  let sid := c.le 0 2
  chain [c.stray [(0, 2)], argIs (decide (4095 < sid) && sid != 0xFFFF) 0] <|
    .ok [] { s with aff := if sid = 0xFFFF then [] else Tab.erase s.aff sid }

/-- AFFINITY_RESET (R30). -/
def execAffinityReset (page : Fin 521) (s : State) : Host.Outcome State Fault Refusal := s.serve page.val 0x22 anySub affinityResetBody

def dumpFreeBody (c : Cmd) (_tk : Nat) (s : State) : Ans :=
  chain [c.stray []] <| .ok (leBytes 8 s.lake.dumpAt) { s with lake := { s.lake with dumpAt := 0 } }

/-- DUMP_FREE (R312). -/
def execDumpFree (page : Fin 521) (s : State) : Host.Outcome State Fault Refusal := s.serve page.val 0x36 anySub dumpFreeBody

/-! ## Maintenance requests (R130, R476, Table 15.9) -/

/-- The leaf of a MAINT_REQ exists. -/
def Cmd.leafBad (c : Cmd) (s : State) : Bool := decide (1023 < c.le 2 2) || decide ((s.geom (c.le 2 2 / 64)).leaves ≤ c.le 2 2 % 64)

/-- ROW, BANK and SID3 of a MAINT_REQ name a row of its leaf. -/
def Cmd.rowChecks (c : Cmd) (s : State) : List (Bool × Nat × Nat × Nat) :=
  let g := s.geom (c.le 2 2 / 64)
  [argIs (decide (g.rows ≤ c.le 4 2)) 4, argIs (decide ((if g.sids = 3 then 16 else 16 * g.sids) ≤ c.b 6)) 6,
    argIs (if g.sids = 3 then decide (3 ≤ c.b 7) else c.b 7 != 0) 7]

/-- Bank of a MAINT_REQ, stack ID included. -/
def Cmd.flatBank (c : Cmd) (s : State) : Nat :=
  if (s.geom (c.le 2 2 / 64)).sids = 3 then c.b 7 * 16 + c.b 6 else c.b 6

def maintBody (more : Cmd → State → List (Bool × Nat × Nat × Nat)) (req : Cmd → State → Nat → MReq) (c : Cmd) (tk : Nat)
    (s : State) : Ans :=
  chain ([c.stray [(0, 8)], argIs (c.leafBad s) 2] ++ more c s) <| .wait (s.request (c.le 2 2) (req c s tk))

/-- MAINT_REQ_SCRUB: the leaf's lap is escalated until it ends (R338, R476). -/
def execMaintReqScrub (page : Fin 521) (s : State) : Host.Outcome State Fault Refusal :=
  s.serve page.val 0x41 (subIs 1) (maintBody (fun _ _ => []) (fun _ _ tk => plainReq .scrub 4 tk))

/-- MAINT_REQ_HEAL (R342, R476). -/
def execMaintReqHeal (page : Fin 521) (s : State) : Host.Outcome State Fault Refusal :=
  s.serve page.val 0x41 (subIs 3) (maintBody Cmd.rowChecks (fun c s tk => healReq (c.flatBank s) (c.le 4 2) tk))

/-- MAINT_REQ_REPAIR_ROW (R347, R476). -/
def execMaintReqRepairRow (page : Fin 521) (s : State) : Host.Outcome State Fault Refusal :=
  s.serve page.val 0x41 (fun c => subIs 4 c && c.b 1 == 0)
    (maintBody Cmd.rowChecks (fun c s tk => repairReq (c.flatBank s) (c.le 4 2) 4 tk))

/-- MAINT_REQ_REPAIR_LANE (R351, R476). -/
def execMaintReqRepairLane (page : Fin 521) (s : State) : Host.Outcome State Fault Refusal :=
  s.serve page.val 0x41 (fun c => subIs 4 c && c.b 1 == 1)
    (maintBody (fun c _ => [argIs (decide (35 < c.b 7)) 7]) (fun c _ tk => laneReq (c.le 2 2 % 2 * 36 + c.b 7) 4 tk))

/-- MAINT_REQ_CAPTURE (Table 4.5, R476). -/
def execMaintReqCapture (page : Fin 521) (s : State) : Host.Outcome State Fault Refusal :=
  s.serve page.val 0x41 (subIs 6) (maintBody (fun _ _ => []) (fun _ _ tk => plainReq .capture 4 tk))

/-! ## The transfer area (R389, R477) -/

/-- The transfer area is claimed by another page. -/
def State.claimed (s : State) (page : Nat) : Bool :=
  match s.boot.claim with
  | some (p, t) => p != page && decide (s.clk.ticks < t)
  | none => false

/-- A page's claim until 1 s after a command that completes in the step that serves it. -/
def State.claimFor (s : State) (page : Nat) : State :=
  { s with boot := { s.boot with claim := some (page, s.clk.ticks + ms 1000) } }

/-- Write bytes into the transfer area. -/
def State.putXfer (s : State) (bytes : List Nat) : State :=
  { s with xfer := bytes.zipIdx.foldl (fun x (v, i) => Tab.set (0 : Byte) x i (BitVec.ofNat 8 v)) s.xfer }

/-- Bytes of the transfer area. -/
def State.getXfer (s : State) (n : Nat) : List Nat := (List.range n).map (fun i => (Tab.get (0 : Byte) s.xfer i).toNat)

/-! ## The repair map (R348, R352-R354, Table 15.10) -/

/-- A list of 16 serials with one replaced. -/
def withSerial (l : List Nat) (k v : Nat) : List Nat := (List.range 16).map (fun i => if i = k then v else l.getD i 0)

/-- The 16 bytes of a map entry (Table 11.13). -/
def MapEntry.bytes (e : MapEntry) : List Nat :=
  entryBytes e

/-- Leaf of a map entry. -/
def MapEntry.leaf (e : MapEntry) : Nat := e.stack * 64 + e.channel * 2 + e.pc

/-- COMPACT: entries recorded against another identifier than the stack's present one, and the row entries of lost leaves,
go. -/
def State.compacted (s : State) : List MapEntry :=
  let (m, ser, alt) := s.curMap
  let lost := (m.filter (fun e => e.kind == 6)).map MapEntry.leaf
  m.filter (fun e =>
    let u := s.sup e.stack
    let other := u.good && (if e.alt then alt else ser).getD e.stack 0 != u.disc.serial
    !other && !((e.kind == 1 || e.kind == 2 || e.kind == 3 || e.kind == 5) && lost.contains (MapEntry.leaf e)))

/-- Queue the store of a changed map; the command completes with it. -/
def repairAns (s : State) (tk : Nat) (m : List MapEntry) (ser alt : List Nat) (clear : Bool) : Ans :=
  .wait ((s.storeMap m ser alt tk clear).ticketQueued tk)

def promoteBody (c : Cmd) (tk : Nat) (s : State) : Ans :=
  let (m, ser, alt) := s.curMap
  chain [c.stray [(0, 1), (2, 2)]] <|
    repairAns s tk (m.map (fun e => if e.kind = 1 && bitAt (c.le 2 2) e.stack then { e with kind := 3 } else e)) ser alt false

/-- REPAIR_PROMOTE (R348). -/
def execRepairPromote (page : Fin 521) (s : State) : Host.Outcome State Fault Refusal := s.serve page.val 0x42 (subIs 1) promoteBody

def compactBody (c : Cmd) (tk : Nat) (s : State) : Ans :=
  let (_, ser, alt) := s.curMap
  chain [c.stray [(0, 1)]] <| repairAns s tk s.compacted ser alt true

/-- REPAIR_COMPACT (Table 15.10). -/
def execRepairCompact (page : Fin 521) (s : State) : Host.Outcome State Fault Refusal := s.serve page.val 0x42 (subIs 2) compactBody

def clearStackBody (c : Cmd) (tk : Nat) (s : State) : Ans :=
  let (m, ser, alt) := s.curMap
  let k := c.b 2
  chain [c.stray [(0, 1), (2, 1)], argIs (decide (15 < k)) 2] <|
    repairAns s tk (m.filter (fun e => e.stack != k)) (withSerial ser k 0) (withSerial alt k 0) false

/-- REPAIR_CLEAR_STACK (Table 15.10). -/
def execRepairClearStack (page : Fin 521) (s : State) : Host.Outcome State Fault Refusal := s.serve page.val 0x42 (subIs 3) clearStackBody

def reserialBody (c : Cmd) (tk : Nat) (s : State) : Ans :=
  let (m, ser, alt) := s.curMap
  let k := c.b 2
  chain [c.stray [(0, 1), (2, 1)], argIs (decide (15 < k)) 2] <|
    repairAns s tk (m.map (fun e => if e.stack = k then { e with alt := false } else e))
      (withSerial ser k (s.sup k).disc.serial) (withSerial alt k 0) false

/-- REPAIR_RESERIAL (R354, Table 15.10). -/
def execRepairReserial (page : Fin 521) (s : State) : Host.Outcome State Fault Refusal := s.serve page.val 0x42 (subIs 4) reserialBody

/-- The stack table of the repair map (Table 11.12). -/
def State.stackTable (s : State) : List Nat :=
  let (m, ser, alt) := s.curMap
  let row (serials : List Nat) (old : Bool) (k : Nat) : List Nat :=
    leBytes 8 (serials.getD k 0) ++ leBytes 2 (m.filter (fun e => e.stack == k && e.alt == old)).length ++ List.replicate 6 0
  (List.range 16).flatMap (row ser false) ++ (List.range 16).flatMap (row alt true)

def repairReadBody (c : Cmd) (_tk : Nat) (s : State) : Ans :=
  let es := ((s.curMap).1.drop (c.le 4 2)).take 992
  chain [c.stray [(0, 1), (4, 2)], stateIs (s.claimed c.page) stBusy 0xFFFF] <|
    .ok (leBytes 2 es.length) ((s.claimFor c.page).putXfer (s.stackTable ++ es.flatMap MapEntry.bytes))

/-- REPAIR_READ (R477, Table 15.10). -/
def execRepairRead (page : Fin 521) (s : State) : Host.Outcome State Fault Refusal := s.serve page.val 0x42 (subIs 5) repairReadBody

/-! ## Heat and fences (R409, R479) -/

def thermalReleaseBody (c : Cmd) (_tk : Nat) (s : State) : Ans :=
  let ks := (List.range 16).filter (fun k => bitAt (c.le 0 2) k && (s.heatOf k).held)
  chain [c.stray [(0, 2)]] <|
    .ok (leBytes 2 (ks.map (fun k => 2 ^ k)).sum) (ks.foldl (fun s k =>
      let h := s.heatOf k
      let cold := match h.temp with | some t => decide (t < 720) | none => false
      if cold then s.restartStack k else s.setHeat k { h with released := true }) s)

/-- THERMAL_RELEASE (R409). -/
def execThermalRelease (page : Fin 521) (s : State) : Host.Outcome State Fault Refusal := s.serve page.val 0x53 anySub thermalReleaseBody

def stackFenceBody (c : Cmd) (_tk : Nat) (s : State) : Ans :=
  let k := c.b 1
  let busy := (s.quiresOn k).any (fun b => (s.bank.quire b).qstate == .active)
  chain [c.stray [(0, 3)], argIs (decide (15 < k)) 1, argIs (decide (1 < c.b 2)) 2, stateIs (c.b 2 == 0 && busy) stDenied 0xFFFF] <|
    .ok [] (if (s.sup k).fenced then s else s.fence k 2)

/-- STACK_FENCE (R479): the fence takes effect at once. -/
def execStackFence (page : Fin 521) (s : State) : Host.Outcome State Fault Refusal := s.serve page.val 0x54 (subIs 1) stackFenceBody

def stackFenceClearBody (c : Cmd) (tk : Nat) (s : State) : Ans :=
  let k := c.b 1
  let u := s.sup k
  chain [c.stray [(0, 2)], argIs (decide (15 < k)) 1] <|
    if !u.fenced then .ok [] s
    else .wait ((s.setSup k { u with fenced := false, clearTicket := tk }).ticketQueued tk)

/-- STACK_FENCE_CLEAR (R479): the stack is powered and trained again, and its free leaves are filled. -/
def execStackFenceClear (page : Fin 521) (s : State) : Host.Outcome State Fault Refusal := s.serve page.val 0x54 (subIs 2) stackFenceClearBody

/-! ## Calibration (R388-R391, R480) -/

def calExportBody (c : Cmd) (_tk : Nat) (s : State) : Ans :=
  let k := c.b 0
  let sec := s.section_ k
  chain [c.stray [(0, 1)], argIs (decide (15 < k)) 0, stateIs (!s.pins.ready || s.claimed c.page) (if s.pins.ready then stBusy else stDenied) 0xFFFF] <|
    .ok (leBytes 2 sec.length) ((s.claimFor c.page).putXfer sec)

/-- CAL_EXPORT (R389). -/
def execCalExport (page : Fin 521) (s : State) : Host.Outcome State Fault Refusal := s.serve page.val 0x59 anySub calExportBody

/-- The channel records of the section in the transfer area. -/
def State.importCals (s : State) (k : Nat) : List (Nat × ChanCal) :=
  let n := (s.geom k).channels
  let sec := s.getXfer (32 + n * 288)
  (List.range n).map (fun c => (k * 32 + c, calOfBytes ((sec.drop (32 + c * 288)).take 288)))

/-- The section in the transfer area does not match a stack as R390 asks. -/
def State.sectionBad (s : State) (k : Nat) : Bool :=
  let u := s.sup k
  let n := (s.geom k).channels
  let len := 32 + n * 288 + 4
  let sec := s.getXfer len
  let f (i m : Nat) : Nat := ofLe ((sec.drop i).take m)
  f 0 4 != 0x44574345 || f 4 1 == 0 || f 5 1 != k || f 6 1 + 1 != u.stype || f 7 1 != u.rate || f 8 8 != u.disc.serial ||
    f 24 2 != len || f 26 1 != n || f (len - 4) 4 != crc32c (sec.take (len - 4)) ||
    (s.importCals k).any (fun (ch, r) => r.untrained || r.spmap != s.mapSpares ch)

/-- The stack is more than 10 degrees from a channel's TEMP tag. -/
def State.importHot (s : State) (k : Nat) : Bool :=
  match (s.heatOf k).temp with
  | none => false
  | some t => (s.importCals k).any (fun (_, r) =>
      let d := t - 8 * r.temp
      decide (80 < d) || decide (d < -80))

def calImportBody (c : Cmd) (tk : Nat) (s : State) : Ans :=
  let k := c.b 0
  let u := s.sup k
  chain [c.stray [(0, 1)], argIs (decide (15 < k)) 0, argIs (s.sectionBad k) 0xFFFF,
      stateIs (s.pins.ready || u.trained || u.training || !u.good || s.importHot k) stDenied 0xFFFF,
      stateIs (s.claimed c.page) stBusy 0xFFFF] <|
    match Tab.find? s.tickets tk with
    | none => .ok [] s
    | some t =>
      let s := { s with tickets := Tab.put s.tickets tk { t with mask := k } }
      let s := { s with boot := { s.boot with claim := some (c.page, 2 ^ 64) } }
      .staged ((s.importCals k).map (fun (ch, r) => (.cal ch r true, 0))) [] s

/-- CAL_IMPORT (R390, R480). -/
def execCalImport (page : Fin 521) (s : State) : Host.Outcome State Fault Refusal := s.serve page.val 0x5A anySub calImportBody

def calRetrainBody (c : Cmd) (tk : Nat) (s : State) : Ans :=
  let k := c.b 0
  let asleep (ch : Nat) : Bool := (s.sck k).asleep || (s.sck k).sr.contains (ch % 32) || (s.chan ch).cal.untrained
  let chs := ((List.range 32).filter (bitAt (c.le 4 4))).map (fun i => k * 32 + i)
  let go := chs.filter (fun ch => (s.sup k).trained && !asleep ch)
  chain [c.stray [(0, 1), (4, 4)], argIs (decide (15 < k)) 0, argIs (chs.any (fun ch => !(s.chansOf k).contains ch)) 4] <|
    match Tab.find? s.tickets tk with
    | none => .ok [] s
    | some t =>
      if go.isEmpty then .ok (leBytes 4 0) s
      else
        let s := { s with tickets := Tab.put s.tickets tk { t with left := go.length } }
        .wait ((go.foldl (fun s ch => s.requestRetrain ch 8 tk) s).ticketQueued tk)

/-- CAL_RETRAIN (trigger 8 of Table 12.4). -/
def execCalRetrain (page : Fin 521) (s : State) : Host.Outcome State Fault Refusal := s.serve page.val 0x5B anySub calRetrainBody

def calBaselineBody (c : Cmd) (tk : Nat) (s : State) : Ans :=
  let x : NvStore := { type_ := 3, ticket := tk, map := [], serials := [], altSerials := [], clearFull := false,
                       base := (List.range 16).flatMap s.section_ }
  let s1 : State := { s with stores := s.stores ++ [x] }
  chain [c.stray []] <| .wait (s1.ticketQueued tk)

/-- CAL_BASELINE (R388). -/
def execCalBaseline (page : Fin 521) (s : State) : Host.Outcome State Fault Refusal := s.serve page.val 0x5C anySub calBaselineBody

/-! ## Hosts and counters (R449, R481, R482, R523, R527, R528) -/

def ownerAcceptBody (c : Cmd) (_tk : Nat) (s : State) : Ans :=
  chain [c.stray []] <| .ok [] (s.setHost c.hostNum { s.host c.hostNum with accept := some s.clk.ticks })

/-- OWNER_ACCEPT (R449). -/
def execOwnerAccept (page : Fin 521) (s : State) : Host.Outcome State Fault Refusal := s.serve page.val 0x63 anySub ownerAcceptBody

def umapBody (on : Bool) (c : Cmd) (_tk : Nat) (s : State) : Ans :=
  chain [c.stray [(0, 1)]] <| .ok [] (s.setTenSt c.tenant { s.tenSt c.tenant with umap := on })

/-- CNT_ALLOW_UMAP (R523). -/
def execCntAllowUmap (page : Fin 521) (s : State) : Host.Outcome State Fault Refusal := s.serve page.val 0x70 (subIs 1) (umapBody true)
/-- CNT_REVOKE_UMAP (R523). -/
def execCntRevokeUmap (page : Fin 521) (s : State) : Host.Outcome State Fault Refusal := s.serve page.val 0x70 (subIs 2) (umapBody false)

/-- A counter selector is reserved, or names a reserved counter or the high half of a chained pair (Table 17.11, R527). -/
def selectorBad (sel : Nat) : Bool :=
  let n := sel % 64
  match sel / 2 ^ 14 with
  | 0 => fld sel 6 8 != 0 || decide (53 < n) || chainedT.contains (n - 1) && n != 0
  | 1 => fld sel 12 2 != 0
  | 2 => fld sel 9 5 != 0
  | _ => fld sel 6 8 != 0 || n == 30 || n == 31 || decide (47 < n) || chainedG.contains (n - 1) && n != 0

/-- The tenant a sampling unit is armed for: TARGET in set 0. -/
def Cmd.sampleTen (c : Cmd) : Nat := if c.le 2 2 < 2 ^ 14 then c.tenant else 0

/-- The unit armed for a counter. -/
def State.unitOf (s : State) (sel ten : Nat) : Option (Nat × Sampler) :=
  Tab.first s.trace.samplers (fun _ u => u.sel == sel && u.ten == ten)

def armBody (c : Cmd) (_tk : Nat) (s : State) : Ans :=
  let sel := c.le 2 2
  let period := c.le 8 6
  let ten := c.sampleTen
  let free := (List.range 16).find? (fun i => (Tab.find? s.trace.samplers i).isNone)
  let put (i : Nat) (u : Sampler) : State := { s with trace := { s.trace with samplers := Tab.put s.trace.samplers i u } }
  chain [deniedIf (decide (2 ^ 14 ≤ sel) && !s.isOwner c.page), c.stray [(0, 1), (2, 2), (8, 6)], argIs (selectorBad sel) 2,
      argIs (decide (period < 256) || decide (2 ^ 47 < period)) 8,
      ((s.unitOf sel ten).isNone && free.isNone, stNoResource, 0xFFFF, 9)] <|
    match s.unitOf sel ten with
    | some (i, u) => .ok [] (put i { u with period := period })
    | none => .ok [] (put (free.getD 0) { sel := sel, ten := ten, period := period, next := s.selected sel ten + period,
                                          pendingAt := none, value := 0, missed := 0, skid := 0, cand := none })

/-- CNT_ARM_SAMPLING (R527, R528). -/
def execCntArmSampling (page : Fin 521) (s : State) : Host.Outcome State Fault Refusal := s.serve page.val 0x70 (subIs 3) armBody

def disarmBody (c : Cmd) (_tk : Nat) (s : State) : Ans :=
  let sel := c.le 2 2
  chain [deniedIf (decide (2 ^ 14 ≤ sel) && !s.isOwner c.page), c.stray [(0, 1), (2, 2)], argIs (selectorBad sel) 2] <|
    .ok [] { s with trace := { s.trace with
      samplers := Tab.keep s.trace.samplers (fun _ u => !(u.sel == sel && u.ten == c.sampleTen)) } }

/-- CNT_DISARM_SAMPLING (R527). -/
def execCntDisarmSampling (page : Fin 521) (s : State) : Host.Outcome State Fault Refusal := s.serve page.val 0x70 (subIs 4) disarmBody

def energyReadBody (c : Cmd) (_tk : Nat) (s : State) : Ans :=
  let ten (i : Nat) : Nat := Tab.num s.cnt.tenant (c.tenant * 64 + i)
  let chip (i : Nat) : Nat := Tab.num s.cnt.global i
  chain [deniedIf (c.b 0 == 1 && !s.isOwner c.page), c.stray [(0, 1)], argIs (decide (1 < c.b 0)) 0] <|
    .ok (leBytes 8 s.regs.roundAt ++ (if c.b 0 = 0 then [ten 40, ten 42, ten 44] else [chip 0, chip 2, 0]).flatMap (leBytes 8)) s

/-- ENERGY_READ (R481). -/
def execEnergyRead (page : Fin 521) (s : State) : Host.Outcome State Fault Refusal := s.serve page.val 0x71 anySub energyReadBody

def subscribeBody (add : Bool) (c : Cmd) (_tk : Nat) (s : State) : Ans :=
  let sid := c.le 2 2
  let x := s.tenSt c.tenant
  let on := bitAt (c.b 1) 0
  let subs := if !on then x.subs else if !add then x.subs.filter (fun i => i != sid)
    else if x.subs.contains sid then x.subs else x.subs ++ [sid]
  chain [c.stray [(0, 4)], argIs (decide (1 < c.b 1)) 1, argIs (decide (4095 < sid)) 2,
      (decide (8 < subs.length), stNoResource, 0xFFFF, 9)] <|
    .ok [subs.length] (s.setTenSt c.tenant { x with subs := subs })

/-- SUBSCRIBE_ADD (R482). -/
def execSubscribeAdd (page : Fin 521) (s : State) : Host.Outcome State Fault Refusal := s.serve page.val 0x72 (subIs 1) (subscribeBody true)
/-- SUBSCRIBE_REMOVE (R482). -/
def execSubscribeRemove (page : Fin 521) (s : State) : Host.Outcome State Fault Refusal := s.serve page.val 0x72 (subIs 0) (subscribeBody false)

/-! ## Firmware (R483, R484, R503, R507) -/

/-- A slot of the device. -/
def State.slot (s : State) (i : Nat) : Slot := if i = 0 then s.boot.dev.slotA else s.boot.dev.slotB

def State.setSlot (s : State) (i : Nat) (x : Slot) : State :=
  { s with boot := { s.boot with dev := if i = 0 then { s.boot.dev with slotA := x } else { s.boot.dev with slotB := x },
                                 wroteAt := some s.clk.ticks } }

/-- An image is verified (R503). -/
def State.verified (s : State) (x : Slot) : Bool := x.sized && x.signed && bitAt x.gens 3 && decide (s.boot.dev.minSvn ≤ x.svn)

/-- The slot a staged header describes (Table 16.8). -/
def slotOfHeader (h : Tab Nat) (total : Nat) (signed : Bool) : Slot :=
  let f (i n : Nat) : Nat := ofLe ((List.range n).map (fun j => Tab.num h (i + j)))
  let len := f 0xC 4
  { sized := f 0 4 == 0x44574657 && total == 384 + len && len % 64 == 0 && decide (len ≤ 655360), signed := signed,
    iver := f 4 4, svn := f 8 2, raise := bitAt (f 0xA 2) 0, loadlen := len, caps := f 0x18 8, gens := f 0x20 1,
    seq := 0xFFFFFFFF, commit := false, revoked := false }

/-- The sequence of another page still holds the staging (R483). -/
def State.stageHeld (s : State) (page : Nat) : Bool :=
  match s.boot.stagePage with
  | some p => p != page && decide (s.clk.ticks < s.boot.stageAt + ms 10000)
  | none => false

/-- The page's own sequence is open. -/
def State.stageOpen (s : State) (page : Nat) : Bool :=
  s.boot.stagePage == some page && decide (s.clk.ticks < s.boot.stageAt + ms 10000)

def fwStageBody (signed : Bool) (c : Cmd) (tk : Nat) (s : State) : Ans :=
  let off := c.le 0 4
  let len := c.le 4 2
  let first := bitAt (c.b 6) 0
  let last := bitAt (c.b 6) 1
  let total := c.le 8 4
  let i := 1 - s.boot.loaded.getD 0
  chain [c.stray [(0, 7), (8, 4)], argIs (off % 64 != 0) 0, argIs (len % 64 != 0 || len == 0 || decide (16384 < len)) 4,
      argIs (decide (3 < c.b 6)) 6, argIs (!last && total != 0) 8,
      stateIs (s.stageHeld c.page || s.claimed c.page) stBusy 0xFFFF,
      argIs (if first then off != 0 else !s.stageOpen c.page || off != s.boot.stageNext) 0,
      (decide (0xFFFC0 < off + len), stNoResource, 0xFFFF, 9)] <|
    let s := (s.claimFor c.page).ticketQueued tk
    let s := if first then s.setSlot i Slot.erased else s
    let old := if first then [] else s.boot.stagePage0
    let head := if off = 0 then (s.getXfer 64).zipIdx.foldl (fun t (v, j) => Tab.set 0 t j v) old else old
    let s := { s with boot := { s.boot with stagePage := some c.page, stageNext := off + len, stageAt := s.clk.ticks,
                                            wroteAt := some s.clk.ticks,
                                            stagePage0 := head } }
    if !last then .ok [] s
    else
      let x := slotOfHeader head total signed
      let x := { x with sized := x.sized && off + len == total }
      let s := { s with boot := { s.boot with stagePage := none, stageNext := 0, stagePage0 := [] } }
      if s.verified x then .ok (leBytes 4 x.iver) (s.setSlot i x)
      else .wait ((s.setSlot i Slot.erased).finish tk stBadArg (failResult 0xFFFF 6) none)

/-- FW_STAGE (R483, R484). -/
def execFwStage (page : Fin 521) (signed : Bool) (s : State) : Host.Outcome State Fault Refusal :=
  s.serve page.val 0x80 anySub (fwStageBody signed)

def fwActivateBody (c : Cmd) (_tk : Nat) (s : State) : Ans :=
  let i := c.b 0
  let staged := s.sets.any (fun (x : ChangeSet) => x.items.any (fun w => match w.what with | .handover _ => true | _ => false))
  chain [c.stray [(0, 1)], argIs (decide (1 < i) || s.boot.loaded == some i) 0, stateIs (!s.verified (s.slot i)) stDenied 0,
      (staged, stBusy, 0xFFFF, 8)] <|
    .staged [(.handover i, 0)] [] s

/-- FW_ACTIVATE (R484, R507). -/
def execFwActivate (page : Fin 521) (s : State) : Host.Outcome State Fault Refusal := s.serve page.val 0x81 anySub fwActivateBody

/-! ## Fault injection (R485) -/

/-- The log record of an injection. -/
def State.injected (s : State) (c : Cmd) : State := s.note 0x4C 0 0 [(1, c.b 0), (2, c.le 2 2), (2, c.page)]

/-- The injection's read-modify-write of a word's burst: an open entry closes first, then the pair follows in age order. -/
def State.injectWord (s : State) (leaf la flip : Nat) (stain : Bool) : State :=
  let base := la / 32 * 32
  let w := la / 8 % 4
  let s := s.closeFor leaf [base]
  let c := s.care leaf
  let m : MergeEnt :=
    { la := base, words := (List.range 4).map (fun i => ⟨0, 0, stain && i == w⟩), conv := 0, byConv := false,
      inject := if stain then 0 else w + 1, flip := BitVec.ofNat 72 flip, born := s.clk.ticks, closed := false, ten := 0xFFFF,
      sid := 0, tint := 7, port := 136, arrival := s.now, deadline := (s.bank.tint 7).target }
  (s.setCare leaf { c with merge := c.merge ++ [m] }).flushEnt leaf m

def injectBody (stain : Bool) (nbits : Nat) (c : Cmd) (_tk : Nat) (s : State) : Ans :=
  let leaf := c.le 2 2
  let la := c.le 4 4
  let active := match s.quireAt leaf with | some (_, q) => q.qstate == .active | none => false
  let bits := (List.range nbits).map (fun i => c.b (8 + i))
  chain [c.stray [(0, 8), (8, nbits)], argIs (decide (1 < c.b 1)) 1, argIs (c.leafBad s) 2,
      argIs (la % 8 != 0 || decide ((s.geom (leaf / 64)).capacity ≤ la)) 4, argIs (decide (0 < nbits) && decide (71 < c.b 8)) 8,
      argIs (decide (1 < nbits) && (decide (71 < c.b 9) || c.b 9 == c.b 8)) 9, stateIs (c.b 1 == 0 && active) stDenied 0xFFFF] <|
    .ok [] ((s.injectWord leaf la (bits.map (fun i => 2 ^ i)).sum stain).injected c)

/-- FAULT_INJECT_FLIP_ONE (R485). -/
def execFaultInjectFlipOne (page : Fin 521) (s : State) : Host.Outcome State Fault Refusal :=
  s.serve page.val 0x90 (subIs 1) (injectBody false 1)
/-- FAULT_INJECT_FLIP_TWO (R485). -/
def execFaultInjectFlipTwo (page : Fin 521) (s : State) : Host.Outcome State Fault Refusal :=
  s.serve page.val 0x90 (subIs 2) (injectBody false 2)
/-- FAULT_INJECT_STAIN (R485). -/
def execFaultInjectStain (page : Fin 521) (s : State) : Host.Outcome State Fault Refusal :=
  s.serve page.val 0x90 (subIs 3) (injectBody true 0)

/-- A fault injection whose UNIT is below a bound. -/
def unitBody (n : Nat) (used : List (Nat × Nat)) (more : Cmd → List (Bool × Nat × Nat × Nat)) (act : Cmd → State → State) (c : Cmd)
    (_tk : Nat) (s : State) : Ans :=
  chain ([c.stray ([(0, 4)] ++ used), argIs (decide (1 < c.b 1)) 1, argIs (decide (n ≤ c.le 2 2)) 2] ++ more c) <|
    .ok [] (act c (s.injected c))

/-- FAULT_INJECT_TEMP_OFFSET (R485). -/
def execFaultInjectTempOffset (page : Fin 521) (s : State) : Host.Outcome State Fault Refusal :=
  s.serve page.val 0x90 (subIs 4) (unitBody 16 [(10, 4)] (fun c => [argIs (c.le 10 2 == 0) 10]) (fun c s =>
    let v := c.le 12 2
    let t : Int := if v < 2 ^ 15 then v else (v : Int) - 2 ^ 16
    s.setHeat (c.le 2 2) { s.heatOf (c.le 2 2) with injTemp := t, injRounds := c.le 10 2 }))

/-- FAULT_INJECT_WITHHOLD_ACK (R485). -/
def execFaultInjectWithholdAck (page : Fin 521) (s : State) : Host.Outcome State Fault Refusal :=
  s.serve page.val 0x90 (subIs 5) (unitBody 16 [] (fun _ => []) (fun c s =>
    s.setSck (c.le 2 2) { s.sck (c.le 2 2) with withholdAck := true }))

/-- FAULT_INJECT_HEADER_PARITY (R485). -/
def execFaultInjectHeaderParity (page : Fin 521) (s : State) : Host.Outcome State Fault Refusal :=
  s.serve page.val 0x90 (subIs 6) (unitBody 128 [] (fun _ => []) (fun c s =>
    s.setPort (c.le 2 2) { s.port (c.le 2 2) with injectParity := true }))

/-- FAULT_INJECT_HOST_LOST (R485): R451 acts as if HB_TMO had passed. -/
def execFaultInjectHostLost (page : Fin 521) (s : State) : Host.Outcome State Fault Refusal :=
  s.serve page.val 0x90 (subIs 7) (unitBody 8 [] (fun _ => []) (fun c s =>
    if (s.host (c.le 2 2)).lost then s else s.hostLost (c.le 2 2)))

/-! ## Debug (R486, R544-R547) -/

def issueCodeBody (c : Cmd) (_tk : Nat) (s : State) : Ans :=
  let code := (Config.freeWord s.freeCount).toNat
  chain [c.stray [(0, 1)]] <|
    .ok (leBytes 8 code) ({ s with trace := { s.trace with code := some (code, s.clk.ticks), tries := 0 } }).fresh

/-- DBG_ISSUE_CODE (R486): the code is a free value. -/
def execDbgIssueCode (page : Fin 521) (s : State) : Host.Outcome State Fault Refusal := s.serve page.val 0x91 (subIs 1) issueCodeBody

def rightsBody (on : Bool) (c : Cmd) (_tk : Nat) (s : State) : Ans :=
  chain [c.stray [(0, 1)]] <| .ok [] (s.setTenSt c.tenant { s.tenSt c.tenant with debugRights := on })

/-- DBG_GRANT_RIGHTS (R547). -/
def execDbgGrantRights (page : Fin 521) (s : State) : Host.Outcome State Fault Refusal := s.serve page.val 0x91 (subIs 2) (rightsBody true)
/-- DBG_REVOKE_RIGHTS (R547). -/
def execDbgRevokeRights (page : Fin 521) (s : State) : Host.Outcome State Fault Refusal := s.serve page.val 0x91 (subIs 3) (rightsBody false)

def dbgUnlockBody (c : Cmd) (tk : Nat) (s : State) : Ans :=
  let live := s.trace.code.filter (fun x => decide (s.clk.ticks ≤ x.2 + ms 10000))
  chain [c.stray [(0, 8)]] <|
    match live with
    | some (code, _) =>
      if c.le 0 8 = code then .ok [] { s with trace := { s.trace with unlocked := true, code := none, tries := 0 } }
      else
        let n := s.trace.tries + 1
        let t := { s.trace with tries := if n = 3 then 0 else n, code := if n = 3 then none else s.trace.code }
        .wait (({ s with trace := t }).finish tk stDenied (failResult 0xFFFF 7) none)
    | none => .fail stDenied 0xFFFF 7 none

/-- DBG_UNLOCK (R486, R546). -/
def execDbgUnlock (page : Fin 521) (s : State) : Host.Outcome State Fault Refusal := s.serve page.val 0x92 anySub dbgUnlockBody

/-- A scan ends unfinished (R549). -/
def State.scanAbort (s : State) (code : Nat) : State :=
  if s.trace.scanBusy then { s with trace := { s.trace with scanBusy := false, scanErr := true, scanCode := code } } else s

/-- With the pin released and every latch clear, a debug stop ends (R545, R549), and what it kept from starting is checked again. -/
def State.stopEnds (s : State) : State :=
  if s.stopping then s
  else
    let s := ({ s with pins := { s.pins with stopped := false } }).scanAbort 4
    s.cares.foldl (fun s (l, _) => State.recheck 9 s l) s

def dbgResumeBody (c : Cmd) (_tk : Nat) (s : State) : Ans :=
  chain [c.stray []] <| .ok [] ({ s with pins := { s.pins with latches := 0 } }).stopEnds

/-- DBG_RESUME (R544): every stop latch clears. -/
def execDbgResume (page : Fin 521) (s : State) : Host.Outcome State Fault Refusal := s.serve page.val 0x93 anySub dbgResumeBody

end Sys2Proof.Machine
end

