-- ==== Sys2Proof/Machine/Boot.lean ====
section
/-! DEFINITION. Resets of the core and of Mordant, the boot ROM, trials and hand-overs (R47-R49, R241, R457, R458, R487-R492, R496, R501-R509, R512, Tables 16.1-16.7). -/

namespace Sys2Proof.Machine

/-! ## What a reset records and keeps -/

/-- LASTRST and RSTCOUNT (Table 16.4). -/
def State.countReset (s : State) (code : Nat) : State :=
  let n := fld (Tab.num s.boot.bkp 0) 32 32
  (s.setBkp 0 8 4 code).setBkp 0 32 32 (min (n + 1) 0xFFFFFFFF)

/-- BOOTFAIL of BKP0 (Table 16.6). -/
def State.bootFail (s : State) : Nat := fld (Tab.num s.boot.bkp 0) 0 8

/-- Records of a ring that a reset discards from the buffer leave a gap of reason 3 (R538, Table 16.3). -/
def State.loseRecs (s : State) (r : Nat) : State :=
  let lost := s.trace.buffer.filter (fun (x : Rec) => x.ring == r && x.kind != 0)
  let g := s.ring r
  let s := { s with trace := { s.trace with buffer := s.trace.buffer.filter (fun (x : Rec) => x.ring != r) } }
  match lost with
  | [] => s.setRing r { g with tail := g.wr }
  | x :: rest =>
    let mixed := rest.any (fun (y : Rec) => y.srcKey != x.srcKey)
    let last := (rest.getLast?.getD x).time
    let gap : Gap := match g.gap with
      | some q => { q with last := last, lost := q.lost + lost.length, multi := q.multi || mixed || q.src != x.srcKey }
      | none => { first := x.time, last := last, lost := lost.length, reason := 3, multi := mixed, src := x.srcKey, msec := none }
    (s.setRing r { g with tail := g.wr, gap := some gap }).cntG (if r = 1 then 13 else 14) lost.length

/-- What a lane carries before its port edge enters reset (R49, R188): one closing header for each request on it. A response
that still waits for credits ends with ERR_ISOLATED, and a notification is gone. -/
def closeLane (lane : List RespBeat) : List RespBeat :=
  let closing (b : RespBeat) : RespBeat :=
    if b.free then b
    else { b with resp := 4, last := true, hasData := false, data := 0, dvld := 0, dstain := 0, free := true }
  (lane.filter (fun b => !b.ntf)).foldl (fun out b => if out.any (fun x => x.req == b.req) then out else out ++ [closing b]) []

/-- Every outstanding request of every port is answered ERR_ISOLATED (R49). -/
def State.endAll (s : State) : State :=
  s.reqs.foldl (fun s (id, r) => if r.answered then (s.endRequest id r).1 else s) s

/-- The bank after a core reset: defaults, with the owner role and OWNER_STANDBY from BKP2 (R496). -/
def State.resetBank (s : State) : Banked :=
  let b := Tab.num s.boot.bkp 2
  { Banked.reset with owner := some (fld b 16 3), settings := Tab.put [] (0x6001 * 2 ^ 16) (fld b 19 4) }

/-- What a core reset keeps of the AON sequencer's record of a stack's power (R487): the ladder, G_p and the supply. -/
def Power.kept (p : Power) (now : Nat) : Power :=
  { Power.reset with ladder := p.ladder, actLim := p.actLim, lp := p.lp, win := p.win, gp := p.gp, vdd := p.vdd, loadAt := now }

/-- What a core reset keeps of a stack's supply: its rail, its discovery and its fence; DW_RST_OUT_N goes low. -/
def Supply.kept (u : Supply) : Supply :=
  { Supply.reset with enable := u.enable, good := u.good, goodAt := u.goodAt, enableAt := u.enableAt,
                      recoverAt := u.recoverAt, fenced := u.fenced, disc := u.disc, stype := u.stype, rate := u.rate }

/-- A core reset is asserted (R47, R49, R487, R491, R496): outstanding requests end, DW_READY falls, and all but the AON
state goes to its defaults. -/
def State.coreReset (s : State) (code : Nat) : State :=
  let ready := s.pins.ready
  let s := if ready then s.endAll else s
  let grid := s.grid
  let s := s.countReset code
  let gaps := (s.loseRecs 1).loseRecs 2
  let ring (r : Nat) : Ring := { Ring.reset with seq := (s.ring r).seq, gap := ((gaps.ring r).gap).filter (fun (g : Gap) => g.reason == 3) }
  let now := s.clk.ticks
  { State.reset with
    clk := { s.clk with live := false, defer := false, stepped := false, oldGrid := some grid },
    pins := { s.pins with ready := false, stopped := false, latches := 0, qspiReleased := false },
    boot := { Boot.reset with dev := s.boot.dev, fwAt := now, bkp := s.boot.bkp, critOnce := s.boot.critOnce },
    bank := s.resetBank,
    ports := Tab.mapVals s.ports (fun _ q => { Port.reset with out := if ready then closeLane q.lane else [] }),
    nextId := s.nextId, heat := s.heat, power := Tab.mapVals s.power (fun _ p => p.kept now),
    supply := Tab.mapVals s.supply (fun _ u => u.kept),
    hosts := Tab.mapVals s.hosts (fun _ h => { HostSt.reset with watched := h.watched, beat := h.beat }),
    trace := { Trace.reset with mirror := s.trace.mirror, rings := [(0, ring 0), (1, ring 1), (2, ring 2)] },
    regs := { Regs.reset with thermStat := if s.pins.thermtrip then 8 else 0, tbCapStat := put (fld s.regs.tbCapStat 8 8) 8 8,
                              winNum := s.regs.winNum, railPower := s.regs.railPower, roundNext := s.regs.roundNext,
                              ladderNext := s.regs.ladderNext },
    xfer := s.xfer, hostMem := s.hostMem, mem := s.mem, chk := s.chk, freeCount := s.freeCount, pending := s.pending }

/-! ## Boot -/

/-- A slot the boot ROM may boot (R505). -/
def State.bootable (s : State) (i : Nat) : Bool := (s.slot i).commit && !(s.slot i).revoked && s.verified (s.slot i)

/-- The slot the boot ROM chooses (R505): of two, that of the higher SEQ as a signed 32-bit difference. -/
def State.chooseSlot (s : State) : Option Nat :=
  match s.bootable 0, s.bootable 1 with
  | true, true => if 0 < diff32 (s.slot 1).seq (s.slot 0).seq then some 1 else some 0
  | true, false => some 0
  | false, true => some 1
  | false, false => none

/-- A fallback from a trial (R505): after source 5 or 7 the trial slot is revoked. -/
def State.fallBack (s : State) (code : Nat) : State :=
  let b := Tab.num s.boot.bkp 1
  if (code = 5 || code = 7) && bitAt b 1 then
    let i := fld b 0 1
    let s := s.setSlot i { s.slot i with revoked := true }
    ((s.setBkp 1 1 1 0).setBkp 1 2 1 1).note 0x0D 0 0 [(1, 0), (1, 4)]
  else s.setBkp 1 2 1 0

/-- A boot that stops (R46, R501): the quad-SPI pins are released. -/
def State.bootStop (s : State) (code : Nat) : State :=
  let s := s.setBkp 0 0 8 code
  { s with boot := { s.boot with firmware := false, loaded := none }, pins := { s.pins with qspiReleased := true } }

/-- A stack's identifier is compared with the map (R354): one that neither of its rows carries goes to the alternate row,
whose entries go. -/
def State.checkSerial (s : State) (k : Nat) : State :=
  let (m, ser, alt) := s.curMap
  let id := (s.sup k).disc.serial
  if ser.getD k 0 = id then s
  else
    let s := s.note 0x0E 1 k [(1, 3), (2, 0)]
    if alt.getD k 0 = id then s
    else s.storeMap (m.filter (fun e => !(e.stack == k && e.alt))) ser
      ((List.range 16).map (fun i => if i = k then id else alt.getD i 0)) 0 false

/-- Firmware start of a bring-up (R387, R392, R496, R497, Tables 11.14 and 16.7): the mirror is copied into the alarm ring,
the records of the device are read, the import wait begins where CALIMP is set, and the power sequence starts. -/
def State.startUp (s : State) : State :=
  let s := s.trace.mirror.foldl (fun s x =>
    let s := s.appendRec 0 x
    let y : Rec := (s.trace.newest.map (fun (r, _) => r)).getD x
    { s with trace := { s.trace with mirror := s.trace.mirror.drop 1 ++ [y] } }) s
  let s := { s with boot := { s.boot with recs := devRead s.boot.dev } }
  let s := if s.boot.recs.trimValid then s else s.note 0x0D 0 0 [(1, 1), (1, 2)]
  let s := if s.boot.recs.mapValid then s else s.note 0x0D 0 0 [(1, 2), (1, 3)]
  let b := Tab.num s.boot.bkp 0
  let wait := if bitAt b 12 then some (s.clk.ticks + ms (fld b 18 7)) else none
  let s := s.setBkp 0 12 1 0
  let s := { s with boot := { s.boot with importWait := wait, seqAt := some s.clk.ticks } }
  (List.range 16).foldl (fun s k => if (s.sup k).good && !(s.sup k).fenced then s.checkSerial k else s) s

/-- The boot ROM (R46, R384, R501, R503-R506, Table 16.7 steps 4 to 6), after a reset of the given source, 0 for power-on.
A Mordant reset only reloads the image. -/
def State.bootRom (s : State) (code : Nat) : State :=
  let d := s.boot.dev
  if !d.answers || decide (d.sizeMiB < 16) || decide (256 < d.sizeMiB) then s.bootStop 1
  else if !d.eraseOk then s.bootStop 2
  else
    let s := s.fallBack code
    match s.chooseSlot with
    | none => s.bootStop 3
    | some i =>
      let b := Tab.num s.boot.bkp 1
      let trial := bitAt b 1 && fld b 0 1 == i
      let s := ((s.setBkp 1 0 1 i).setBkp 1 1 1 trial.toNat).setBkp 1 16 16 d.minSvn
      let s := (s.setBkp 1 32 32 (s.slot i).iver).setBkp 0 0 8 0
      let s := { s with boot := { s.boot with firmware := true, loaded := some i, trialAt := s.now },
                        trace := { s.trace with cores := 15 },
                        pins := { s.pins with qspiReleased := false } }
      if 5 ≤ code then s else s.startUp

/-! ## Power-on and core resets -/

/-- POWER_ON_RESET (R496): PORST_N is asserted; nothing is kept. -/
def execPowerOnReset (s : State) : Host.Outcome State Fault Refusal :=
  .next { State.reset with pending := s.pending, freeCount := s.freeCount }

/-- POWER_ON_RELEASE (R220, R497, Table 16.7): PORST_N is released, and the boot ROM reads the device. -/
def execPowerOnRelease (dev : FlashDev) (s : State) : Host.Outcome State Fault Refusal :=
  if !s.pins.porst then .next s
  else
    let s := { s with pins := { s.pins with porst := false }, boot := { s.boot with dev := dev, coreReset := false } }
    .next (s.bootRom 0)

/-- CHIP_WARM_RESET (R487): CHIP_WRST_N is asserted. -/
def execChipWarmReset (s : State) : Host.Outcome State Fault Refusal :=
  if s.pins.porst then .next s
  else
    let s := s.coreReset 2
    .next { s with pins := { s.pins with chipRst := true } }

/-- CRITICAL_STATE_ERROR (R487, R488, Table 16.6): a core reset of source 4; the second one before DW_READY stops the
bring-up at BOOTFAIL 6. A restart of the AON sequencer begins a new housekeeping round at once. -/
def execCriticalStateError (aonSequencer : Bool) (s : State) : Host.Outcome State Fault Refusal :=
  if s.pins.porst then .next s
  else
    let early := !s.pins.ready
    let stop := early && s.boot.critOnce
    let s := s.coreReset 4
    let s := { s with boot := { s.boot with critOnce := early },
                      regs := { s.regs with roundNext := if aonSequencer then s.clk.ticks else s.regs.roundNext } }
    .next (if stop then s.setBkp 0 0 8 6 else s)

/-- CORE_RESET_RELEASE (R490, R496): after at least 32 AON_CLK cycles the core reset ends and a bring-up starts, unless it
stopped at BOOTFAIL 6. -/
def execCoreResetRelease (s : State) : Host.Outcome State Fault Refusal :=
  if s.pins.porst || !s.boot.coreReset || decide (s.clk.ticks < s.boot.fwAt + 128) then .next s
  else
    let code := fld (Tab.num s.boot.bkp 0) 8 4
    let s := { s with pins := { s.pins with chipRst := false }, boot := { s.boot with coreReset := false } }
    .next (if code = 4 && s.bootFail = 6 then s else s.bootRom code)

/-! ## Mordant resets -/

/-- A change set that a reset of Mordant discards (R241): corrections that had not gone live are forgotten, and a stack
whose training results it held waits to be trained again. -/
def State.dropSet (s : State) (c : ChangeSet) : State :=
  c.items.foldl (fun s i =>
    match i.what with
    | .cal ch _ imported =>
      let s := if imported then s else s.setSup (ch / 32) { s.sup (ch / 32) with training := false }
      let x := s.chan ch
      s.setChan ch { x with pendingCorr := x.corr.isSome, stale := x.stale && (x.corr.isSome || x.retrain.isSome) }
    | _ => s) s

/-- A Mordant reset of source 5, 6 or 7 (R241, R489, R492). -/
def State.mordantReset (s : State) (code : Nat) : State :=
  let s := s.countReset code
  let s := s.sets.foldl State.dropSet s
  { s with
    sets := [], stores := [], serviceq := [],
    boot := { s.boot with firmware := false, loaded := none, mordantRst := true, mrstAt := s.clk.ticks, pauseAt := none,
                          stagePage := none, stageNext := 0, stagePage0 := [], claim := none },
    trace := { s.trace with code := none, cores := 0 },
    regs := { s.regs with rstBusy := s.regs.rstBusy ||| 2 ^ 20 } }

/-- Mordant firmware runs again (R458): every taken command without its final completion completes RETRY_FW, the hand-over
that timed out HW_FAULT (R509), and the pages that ring are served. -/
def State.mordantBack (s : State) (code : Nat) : State :=
  let s := s.bootRom code
  if !s.boot.firmware then s
  else
    let s := { s with boot := { s.boot with mordantRst := false },
                      regs := { s.regs with rstBusy := s.regs.rstBusy &&& (0xFFFFFFFF - 2 ^ 20) } }
    let hand := s.boot.handTicket
    let s := s.tickets.foldl (fun s (tk, _) =>
      s.finish tk (if code = 7 && tk = hand then stHwFault else stRetryFw) noArg none) s
    let s := { s with boot := { s.boot with handTicket := 0 } }
    (List.range 521).foldl State.queueService s

/-- Firmware runs and no reset reaches it. -/
def State.mordantUp (s : State) : Bool := s.boot.firmware && !s.boot.coreReset && !s.boot.mordantRst

/-- MORDANT_WATCHDOG_EXPIRY (R489): firmware that has not refreshed its watchdog for 100 ms. -/
def execMordantWatchdogExpiry (s : State) : Host.Outcome State Fault Refusal :=
  .next (if s.mordantUp then s.mordantReset 5 else s)

/-- HANDOVER_TIMEOUT (R509): FWPAUSE is still set 20 ms after the boundary. -/
def execHandoverTimeout (s : State) : Host.Outcome State Fault Refusal :=
  match s.boot.pauseAt with
  | none => .next s
  | some t => .next (if s.mordantUp && decide (t + ms 20 ≤ s.clk.ticks) then s.mordantReset 7 else s)

/-- TRIAL_END (R504): a slot on trial has run 60 s; MIN_SVN rises to its SVN where it asks so. -/
def execTrialEnd (s : State) : Host.Outcome State Fault Refusal :=
  if !s.mordantUp || !bitAt (Tab.num s.boot.bkp 1) 1 || decide (s.now < s.boot.trialAt + 60000000000) then .next s
  else
    let x := s.slot (fld (Tab.num s.boot.bkp 1) 0 1)
    let s := s.setBkp 1 1 1 0
    if x.raise && decide (s.boot.dev.minSvn < x.svn) then
      .next (({ s with boot := { s.boot with dev := { s.boot.dev with minSvn := x.svn } } }).setBkp 1 16 16 x.svn)
    else .next s

/-! ## Hand-overs (R457, R508, R512) -/

/-- A capability that an image lacks is used by a command of a set. -/
def State.unsupported (s : State) (caps : Nat) (c : ChangeSet) : Bool :=
  c.tickets.any (fun tk => match Tab.find? s.tickets tk with
    | some t => (match commandRow t.opcode with
      | some (some cap, _) => !bitAt caps cap
      | _ => false)
    | none => false)

/-- The incoming image takes over (R457, R508 steps 4 and 5, R512). -/
def State.takeOver (s : State) : State :=
  let i := fld (Tab.num s.boot.bkp 1) 0 1
  let x := s.slot i
  let gone := s.sets.filter (fun (c : ChangeSet) => s.unsupported x.caps c)
  let s := { s with sets := s.sets.filter (fun (c : ChangeSet) => !s.unsupported x.caps c),
                    boot := { s.boot with loaded := some i, pauseAt := none, trialAt := s.now } }
  let s := s.setBkp 1 32 32 x.iver
  let s := gone.foldl (fun s (c : ChangeSet) =>
    (c.tickets ++ [c.commitTicket]).foldl (fun s tk => s.finish tk stRetryFw noArg none) s) s
  let tk := s.boot.handTicket
  let sheet := match Tab.find? s.tickets tk with | some t => t.result | none => 0
  let s := (s.finishAt tk stOk sheet []).skipUnknown 1024
  { s with boot := { s.boot with handTicket := 0 } }

end Sys2Proof.Machine
end

