-- ==== Sys2Proof/Machine/BringUp.lean ====
section
/-! DEFINITION. Bring-up: stack power and its faults, power-up training, imported calibration, the initial fill, and the rise of DW_READY (R335, R348, R353, R354, R358-R368, R390-R392, R479, R497-R500). -/

namespace Sys2Proof.Machine

/-! ## Stack power (R497-R499) -/

/-- The settle point of a stack has passed (R497). -/
def State.settled (s : State) (k : Nat) : Bool := (s.sup k).good && decide ((s.sup k).goodAt + us 500 ≤ s.clk.ticks)

/-- A stack is in its inrush (R497). -/
def State.inrush (s : State) (k : Nat) : Bool := (s.sup k).enable && !s.settled k

/-- The tick at which DW_RST_OUT_N of a stack may rise (R490). -/
def State.resetDue (s : State) (k : Nat) : Nat := max s.boot.fwAt ((s.sup k).goodAt + us 500) + us 200

/-- Partner of a stack on its regulator. -/
def partner (k : Nat) : Nat := if k % 2 = 0 then k + 1 else k - 1

/-- A stack that the power sequence is to power: not fenced, and not cut off by the 115 degree trip (R410, R497). -/
def State.toPower (s : State) (k : Nat) : Bool := !(s.sup k).fenced && !(s.heatOf k).critical

/-- Raise STK_PWR_EN of a stack. -/
def State.enableStack (s : State) (k : Nat) : State :=
  s.setSup k { s.sup k with enable := true, good := false, enableAt := s.clk.ticks, rstOutLow := true }

/-- STACK_POWER_ENABLE (R497): stack k is enabled k ms after the start of the sequence. -/
def execStackPowerEnable (k : Fin 16) (s : State) : Host.Outcome State Fault Refusal :=
  let u := s.sup k.val
  let waiting := u.recoverAt.isSome || (s.sup (partner k.val)).recoverAt.isSome
  match s.boot.seqAt with
  | none => .next s
  | some p =>
    if s.mordantUp && s.toPower k.val && !u.enable && !waiting && decide (p + ms k.val ≤ s.clk.ticks) then
      .next (s.enableStack k.val)
    else .next s

/-- STACK_POWER_GOOD (R354, R497): STK_PG rises within 2 ms of the enable, and discovery reports the stack. -/
def execStackPowerGood (k : Fin 16) (disc : Discovery) (s : State) : Host.Outcome State Fault Refusal :=
  let u := s.sup k.val
  if !u.enable || u.good || decide (u.enableAt + ms 2 < s.clk.ticks) then .next s
  else
    let known := if disc.stype ≤ 7 then disc.stype else 0
    let s := s.setSup k.val { u with good := true, goodAt := s.clk.ticks, disc := disc, stype := known, rate := disc.rate }
    .next (s.checkSerial k.val)

/-- The pair fault procedure (R498) with stack a at fault. -/
def State.pairFault (s : State) (a : Nat) : State :=
  let b := partner a
  if s.inrush b then
    let s := (s.stackDown a).stackDown b
    s.setSup a { s.sup a with recoverAt := some (s.clk.ticks + ms 10) }
  else s.fence a 1

/-- STACK_PG_TIMEOUT (R498): no STK_PG within 2 ms of the enable. -/
def execStackPgTimeout (k : Fin 16) (s : State) : Host.Outcome State Fault Refusal :=
  let u := s.sup k.val
  .next (if u.enable && !u.good && decide (u.enableAt + ms 2 ≤ s.clk.ticks) then s.pairFault k.val else s)

/-- STACK_PG_FALL (R498). -/
def execStackPgFall (k : Fin 16) (s : State) : Host.Outcome State Fault Refusal :=
  .next (if (s.sup k.val).enable && (s.sup k.val).good then s.pairFault k.val else s)

/-- STACK_OVERCURRENT (R498): STK_OC of a pair rises while STK_PG behaves as expected. With every enabled stack of the pair
settled it is an alarm record only, else the stack enabled later is at fault. -/
def execStackOvercurrent (pair : Fin 8) (s : State) : Host.Outcome State Fault Refusal :=
  let on := [2 * pair.val, 2 * pair.val + 1].filter (fun k => (s.sup k).enable)
  match on with
  | [] => .next s
  | k :: rest =>
    if on.all s.settled then .next (on.foldl (fun s i => s.note 0x0F 1 i [(1, 3)]) s)
    else .next (s.pairFault (rest.foldl (fun a i => if (s.sup a).enableAt < (s.sup i).enableAt then i else a) k))

/-- PAIR_FAULT_RECOVERY (R498): 10 ms later the stack at fault is fenced and its partner tried once alone. -/
def execPairFaultRecovery (pair : Fin 8) (s : State) : Host.Outcome State Fault Refusal :=
  let due (k : Nat) : Bool := match (s.sup k).recoverAt with | some t => decide (t ≤ s.clk.ticks) | none => false
  match [2 * pair.val, 2 * pair.val + 1].find? due with
  | none => .next s
  | some a =>
    let s := s.fence a 1
    .next (if s.toPower (partner a) then s.enableStack (partner a) else s)

/-! ## What training measured (R358-R361, R366) -/

/-- Result of a lane at power-up: the agreed passes, replaced by two edge passes where verification found a mismatch. -/
def trainLane (ew eh : Nat) (m : ChanMeas) (l : LaneMeas) : Option LaneCal :=
  match laneResult ew eh (measWv m l.lane) l with
  | none => none
  | some r =>
    match l.verify with
    | none => some r
    | some (a, b, again) => if again then none else agree ew eh (decide (80 ≤ l.lane)) l.tx a b

/-- Agreed results of a direction, by lane. -/
def trainTab (ew eh : Nat) (m : ChanMeas) (tx : Bool) : Tab LaneCal :=
  m.lanes.foldl (fun (t : Tab LaneCal) (l : LaneMeas) =>
    if l.tx == tx then (match trainLane ew eh m l with | some r => Tab.put t l.lane r | none => t) else t) []

/-- The lowest-numbered spare of a pseudo-channel that is usable and not in use (R361). -/
def freeSpare (usable : Nat → Bool) (map : Tab Nat) (pc : Nat) : Option Nat :=
  (List.range 4).find? (fun i => usable (pc * 4 + i) && (Tab.find? map (pc * 4 + i)).isNone)

/-- Spares of a channel after training: the LANE entries in force, and a spare for each failed lane position in turn; with
them the lanes newly remapped, and whether one found no spare. -/
def assignSpares (okLane usable : Nat → Bool) (lanes : List Nat) (map : Tab Nat) : Tab Nat × List (Nat × Nat) × Bool :=
  lanes.foldl (fun (acc : Tab Nat × List (Nat × Nat) × Bool) n =>
    let (map, new, bad) := acc
    let pc := n / 36
    let served := Tab.first map (fun i l => i / 4 == pc && l == n % 36)
    let ok := match served with | some (i, _) => okLane (72 + i) | none => okLane n
    if ok then acc
    else
      let map := match served with | some (i, _) => Tab.erase map i | none => map
      match freeSpare usable map pc with
      | some i => (Tab.put map i (n % 36), new ++ [(n, i % 4)], bad)
      | none => (map, new, true)) (map, [], false)

/-- What a channel's training gives: its calibration, the lanes newly remapped, and the spares that failed. -/
def State.trainChan (s : State) (k c : Nat) (m : ChanMeas) : ChanCal × List (Nat × Nat) × List Nat :=
  let ch := k * 32 + c
  let ew := s.setting 0x5801 0
  let eh := s.setting 0x5802 0
  let rx := trainTab ew eh m false
  let tx := trainTab ew eh m true
  let pcs := [0, 1].filter (fun p => !(s.care (2 * ch + p)).lost)
  let okLane (n : Nat) : Bool := (Tab.find? rx n).isSome && (Tab.find? tx n).isSome
  let usable (i : Nat) : Bool := decide (i % 4 < (s.sup k).disc.spares) && okLane (72 + i)
  let lanes := pcs.flatMap (fun p => (List.range 36).map (fun i => p * 36 + i))
  let (map, new, lack) := assignSpares okLane usable lanes (s.mapSpares ch)
  let cmd := (List.range 18).all (fun i => (Tab.find? tx (80 + i)).isSome)
  let wv := pcs.all (fun p => (wvResult (if p = 0 then m.wv0 else m.wv1)).isSome)
  let bad := lack || !cmd || !wv || pcs.isEmpty
  let cal : ChanCal := { ChanCal.reset with
    temp := s.tempTag k, vdd := (s.pow k).vdd, rx := rx, tx := tx, wv0 := (wvResult m.wv0).getD 0,
    wv1 := (wvResult m.wv1).getD 0, untrained := bad }
  let cal := map.foldl (fun (x : ChanCal) (i, l) => x.remap (i / 4 * 36 + l) (i % 4)) cal
  (cal, if bad then [] else new, (List.range 8).filter (fun i => decide (i % 4 < (s.sup k).disc.spares) && !usable i))

/-! ## Baseline (R367) -/

/-- Largest differences of a channel from its baseline record: lane, delay taps, threshold codes. -/
def baseWorst (a b : ChanCal) : Nat × Nat × Nat :=
  let d (t u : Tab LaneCal) (n : Nat) : Nat :=
    match Tab.find? t n with | some x => absDiff x.dly (Tab.get LaneCal.reset u n).dly | none => 0
  let v (n : Nat) : Nat :=
    let rx := match Tab.find? a.rx n with | some x => absDiff x.vref (Tab.get LaneCal.reset b.rx n).vref | none => 0
    if 80 ≤ n then 0 else max rx (if lanePc n = 0 then absDiff a.wv0 b.wv0 else absDiff a.wv1 b.wv1)
  (List.range 98).foldl (fun (w : Nat × Nat × Nat) n =>
    let x := max (d a.rx b.rx n) (d a.tx b.tx n)
    if max w.2.1 w.2.2 < max x (v n) then (n, x, v n) else w) (0, 0, 0)

/-- A channel that deviates from the baseline writes one log record (R367). -/
def State.baseCheck (s : State) (k c : Nat) (cal : ChanCal) : State :=
  let d := s.boot.recs
  if !d.baseValid || d.baseSerials.getD k 0 != (s.sup k).disc.serial || cal.untrained then s
  else match Tab.find? d.base (k * 32 + c) with
    | none => s
    | some bytes =>
      let (n, t, v) := baseWorst cal (calOfBytes bytes)
      if s.setting 0x5807 0 < t || s.setting 0x5808 0 < v then s.note 0x4B 2 (2 * (k * 32 + c)) [(1, c), (1, n), (1, t), (1, v)]
      else s

/-! ## The repair map at bring-up (R348, R353, Table 11.14) -/

/-- Bank of a map entry, stack ID included. -/
def State.entryBank (s : State) (e : MapEntry) : Nat :=
  if (s.geom e.stack).sids = 3 then e.sid3 * 16 + e.bank else e.bank

/-- Leaves of LEAF_LOST entries are lost (step 5 of Table 11.14). -/
def State.loadLost (s : State) (k : Nat) : State :=
  ((s.stackMap k).filter (fun e => e.kind == 6)).foldl (fun s e =>
    let l := MapEntry.leaf e
    s.setCare l { s.care l with lost := true }) s

/-- Steps 4 and 5 of Table 11.14: hard repairs of the pending entries, those of `fails` failing, then soft repairs; WEAK
entries go to the error trackers. -/
def State.applyMap (s : State) (k : Nat) (fails : List Nat) : State :=
  let es := s.stackMap k
  let pend := es.filter (fun e => e.kind == 3)
  let bad := pend.zipIdx.filterMap (fun (e, i) => if fails.contains i then some e else none)
  let (m, ser, alt) := s.curMap
  let new := m.map (fun e => if pend.contains e then { e with kind := if bad.contains e then 1 else 2 } else e)
  let s := if pend.isEmpty then s else s.storeMap new ser alt 0 false
  let s := bad.foldl (fun s e => s.note 0x0E 2 (MapEntry.leaf e) [(1, 1), (2, e.row)]) s
  let rows := (es.filter (fun e => e.kind == 1)) ++ pend
  let s := rows.foldl (fun s e =>
    s.setSup k { s.sup k with spareRows := Tab.add (s.sup k).spareRows (MapEntry.leaf e % 64 * 64 + s.entryBank e) 1 }) s
  (es.filter (fun e => e.kind == 5)).foldl (fun s e =>
    let l := MapEntry.leaf e
    let c := s.care l
    let w : Track := { bank := s.entryBank e, row := e.row, word := 0, bit := 0, queued := false, healed := false, htime := 0,
                       weak := true, born := s.clk.ticks }
    match c.trackPlace with
    | some i => s.setCare l { c with track := Tab.put c.track i w }
    | none => s) s

/-! ## Training (R364, R368) -/

/-- An import of a stack is committed and not yet live (R390). -/
def State.importing (s : State) (k : Nat) : Bool :=
  s.sets.any (fun (c : ChangeSet) => c.committed && c.items.any (fun i => match i.what with
    | .cal ch _ true => ch / 32 == k
    | _ => false))

/-- A stack waits for training: settled, out of reset, and without a section (R364, R392). -/
def State.trainWaits (s : State) (k : Nat) : Bool :=
  let u := s.sup k
  s.settled k && !u.fenced && !u.rstOutLow && !u.trained && !u.training && !u.imported && !u.quickDone && !s.importing k

/-- STACK_TRAINING (R361-R368): the training of a stack has ended with these measurements, and its results are committed.
A stack of an unsupported type or rate is left untrained (R79). -/
def execStackTraining (k : Fin 16) (m : List ChanMeas) (hardFails : List Nat) (s : State) :
    Host.Outcome State Fault Refusal :=
  let before := ((List.range k.val).filter s.trainWaits).length + s.trainStacks.length
  if !s.mordantUp || s.boot.importWait.isSome || !s.trainWaits k.val || decide (4 ≤ before) || !s.ownRoom 32 then .next s
  else if (s.sup k.val).rate = 4 || (s.sup k.val).stype = 0 then
    let s := (s.chansOf k.val).foldl (fun s c =>
      s.setChan c { s.chan c with cal := { (s.chan c).cal with untrained := true } }) s
    .next (s.stackUp k.val)
  else
    let s := s.loadLost k.val
    let cs := List.range (s.geom k.val).channels
    let find (c : Nat) : ChanMeas :=
      (m.find? (fun (x : ChanMeas) => x.chan == c)).getD ⟨c, [], ⟨0, 2, 0, 2⟩, ⟨0, 2, 0, 2⟩⟩
    let res := cs.map (fun c => (c, s.trainChan k.val c (find c)))
    let s := res.foldl (fun s (c, cal, new, _) =>
      let ch := k.val * 32 + c
      let lost := (s.care (2 * ch)).lost && (s.care (2 * ch + 1)).lost
      let s := if cal.untrained && !lost then (s.note 0x0C 2 (2 * ch) [(1, c), (1, 1)]).maint 6 k.val else s
      let s := new.foldl (fun s (n, i) => s.addMap (laneEntry ch n 2 i)) s
      s.baseCheck k.val c cal) s
    let bad := res.flatMap (fun (c, _, _, b) => b.map (fun i => c * 8 + i))
    let s := s.applyMap k.val hardFails
    let s := s.setSup k.val { s.sup k.val with training := true, badSpares := bad }
    .next (s.ownSet (res.map (fun (c, cal, _, _) => Staged.cal (k.val * 32 + c) cal false)))

/-! ## Imports (R391, R392) -/

/-- IMPORT_WAIT_END (R392): the wait is over, or every stack that is to be powered has an accepted section. -/
def execImportWaitEnd (s : State) : Host.Outcome State Fault Refusal :=
  match s.boot.importWait with
  | none => .next s
  | some t =>
    let all_ := ((List.range 16).filter s.toPower).all (fun k => (s.sup k).good && ((s.sup k).imported || s.importing k))
    if s.mordantUp && (decide (t ≤ s.clk.ticks) || all_) then
      .next { s with boot := { s.boot with importWait := none } }
    else .next s

/-- Complete the import commands of a stack. -/
def State.importEnds (s : State) (k st : Nat) : State :=
  (s.tickets.filter (fun (_, t) => t.opcode == 0x5A && t.mask == k)).foldl (fun s (tk, t) =>
    s.finishAt tk st t.result (if st = stOk then [] else noArg)) s

/-- QUICK_CHECK (R79, R391): a mismatch on a lane in use rejects the stack, which is then trained; one on a spare makes it
unusable until the next bring-up. A stack of an unsupported type or rate goes to its training, which leaves it untrained. -/
def execQuickCheck (k : Fin 16) (laneFailed : Bool) (badSpares hardFails : List Nat) (s : State) :
    Host.Outcome State Fault Refusal :=
  let u := s.sup k.val
  if !s.mordantUp || !u.imported || u.quickDone || !s.settled k.val || u.rstOutLow then .next s
  else if laneFailed || u.rate == 4 || u.stype == 0 then
    .next ((s.setSup k.val { u with imported := false }).importEnds k.val stHwFault)
  else
    let s := (s.loadLost k.val).applyMap k.val hardFails
    let s := s.setSup k.val { s.sup k.val with badSpares := badSpares }
    .next ((s.stackUp k.val).importEnds k.val stOk)

/-! ## The fill and DW_READY (R335, R479, R500) -/

/-- INITIAL_FILL (R147, R335, R479): a trained leaf of a bring-up, or a free leaf of a cleared stack, is filled, and parks
where no quire holds it; the clearing ends with the stack's last one. -/
def execInitialFill (l : Fin 1024) (s : State) : Host.Outcome State Fault Refusal :=
  let k := stackOf l.val
  let tk := (s.sup k).clearTicket
  if !s.fillDue l.val then .next s
  else
    let s := s.fillLeaf l.val
    let s := if (s.quireAt l.val).isNone && s.sysLeaf != some l.val then s.parkLeaf l.val else s
    if tk != 0 && (s.unfilled k).isEmpty then
      .next ((s.setSup k { s.sup k with clearTicket := 0 }).finish tk stOk [] none)
    else .next s

/-- Every stack to be powered has finished its bring-up calibration, and every trained leaf its fill (R500). -/
def State.broughtUp (s : State) : Bool :=
  (List.range 16).all (fun k => !s.toPower k || ((s.sup k).quickDone && (s.unfilled k).isEmpty))

/-- DW_READY_RISE (R47, R500, R538): the bring-up is complete; without a trained and filled system leaf it stops at
BOOTFAIL 5. -/
def execDwReadyRise (s : State) : Host.Outcome State Fault Refusal :=
  let gap (r : Nat) : Bool := match (s.ring r).gap with | some g => g.reason == 3 | none => false
  if !s.mordantUp || s.pins.ready || !s.broughtUp then .next s
  else
    let sys := match s.sysLeaf with | some l => s.fillable l && (s.care l).filled | none => false
    if !sys then .next (s.setBkp 0 0 8 5)
    else if gap 1 || gap 2 then .next s
    else
      let s := { s with pins := { s.pins with ready := true, stopped := s.stopping }, boot := { s.boot with critOnce := false } }
      .next (s.setBkp 0 0 8 0)

end Sys2Proof.Machine
end

