-- ==== Sys2Proof/Machine/BlockReset.lean ====
section
/-! DEFINITION. Block resets: their start by SWRST, the drain, what ends with a block, and its return to service (R490-R495, Tables 16.2 and 16.3). -/

namespace Sys2Proof.Machine

/-- Stacks served through a block of SWRST (R493). -/
def blockStacks (b : Nat) : List Nat :=
  if b < 16 then [b] else if b < 20 then (List.range 8).map (fun i => (b % 2) * 8 + i) else []

/-- Start the block reset of one SWRST bit; one for a block in reset is ignored (R491). -/
def State.startReset (s : State) (b : Nat) : State :=
  if bitAt s.regs.rstBusy b then s
  else if b = 20 then s.mordantReset 6
  else { s with regs := { s.regs with rstBusy := s.regs.rstBusy ||| 2 ^ b },
                boot := { s.boot with drains := s.boot.drains ++ [(b, s.clk.ticks, false)] } }

/-- Blocks that a SWRST value names: XBAR_h names LAKE_h with it (Table 16.2). -/
def swrstBlocks (v : Nat) : List Nat :=
  (List.range 22).filter (fun b => bitAt v b || ((b == 16 || b == 17) && bitAt v (b + 2)))

/-- Nothing that a block holds is left to drain. -/
def State.blockDrained (s : State) (b : Nat) : Bool :=
  let ks := blockStacks b
  let asleep := b < 16 && (s.sck b).asleep
  asleep || ks.all (fun k =>
    !s.parts.any (fun (_, p) => p.stack == k) && !Tab.some s.lake.accus (fun _ j => j.stack == k) &&
      (decide (16 ≤ b) || (List.range 64).all (fun i =>
        (s.leaf (k * 64 + i)).queue.isEmpty && (s.leaf (k * 64 + i)).inflight.isEmpty && (s.care (k * 64 + i)).merge.isEmpty)))

/-- A stack block is reset (R494, R495): its writes are listed for staining, its work ends, and an awake stack is put into
self-refresh, gated, and sent to wake. -/
def State.resetStack (s : State) (k : Nat) : State :=
  let left := s.unwritten k
  let c := s.sck k
  let s := (s.breakStack k 5).clearLeaves k
  let s := { s with boot := { s.boot with writeLeft := s.boot.writeLeft ++ left } }
  if c.asleep || c.doms = 0 || !(s.sup k).trained then s
  else
    let s := (s.sleepAll k).gateOff k
    if (s.heatOf k).st == .tripped then s
    else s.setSck k { s.sck k with waking := true, pll := .locking }

/-- LAKE of a half is reset, with what its XBAR holds answered `resp` (Table 16.3): reads and gathers end, tiles are
discarded unwritten, accumulates leave their granules to be stained, and feeder streams end. -/
def State.resetLake (s : State) (h resp : Nat) (bridge : Bool) : State :=
  let mine (r : Req) : Bool := halfOf r.stack == h || (bridge && portHalf r.port == h && halfOf r.stack != h)
  let left := s.lake.accus.filterMap (fun (_, j) => if halfOf j.stack = h then some (j.leaf, j.la, j.nb) else none)
  let s := s.reqs.foldl (fun s (id, r) => if mine r && r.phase != .dataOpen then s.breakReq id r resp else s) s
  let s := s.lake.gathers.foldl (fun s (key, _) => if halfOf (key / 8) = h then s.breakGather key else s) s
  let s := { s with lake := { s.lake with accus := Tab.keep s.lake.accus (fun _ j => halfOf j.stack != h),
                                          tiles := Tab.keep s.lake.tiles (fun _ t => halfOf t.stack != h) } }
  let s := (List.range 8).foldl (fun s f => if portHalf (128 + f) = h && (s.feeder f).stream.isSome then s.breakFeed f else s) s
  { s with boot := { s.boot with writeLeft := s.boot.writeLeft ++ left.dedup } }

/-- The domain that a scan reads lies in a block (Tables 5.2 and 16.2). -/
def State.scanIn (s : State) (b : Nat) : Bool :=
  let d := fld s.trace.scanCtl 0 6
  if b < 16 then d / 3 == b && decide (d < 48) else if b < 18 then d == 32 + b else if b < 20 then d == 32 + b else b == 21

/-- BLOCK_RESET_DRAIN_END (R493): the block has drained, or 20 us have passed; what is left ends by Table 16.3. -/
def execBlockResetDrainEnd (b : Fin 22) (s : State) : Host.Outcome State Fault Refusal :=
  match s.boot.drains.find? (fun (x, _, e) => x == b.val && !e) with
  | none => .next s
  | some (_, t, _) =>
    let moving := b.val < 16 && decide ((s.sck b.val).phase ≠ .none)
    if moving || !(s.blockDrained b.val || decide (t + us 20 ≤ s.clk.ticks)) then .next s
    else
      let s := { s with boot := { s.boot with drains := s.boot.drains.map (fun (x, t, e) => (x, t, e || x == b.val)) } }
      let s := if s.scanIn b.val then s.scanAbort 5 else s
      .next (if b.val < 16 then s.resetStack b.val
        else if b.val < 18 then s.resetLake (b.val % 2) 5 false
        else if b.val < 20 then s.resetLake (b.val % 2) 4 true
        else s.loseRecs 2)

/-- Stain the listed bursts of some stacks in place, with one alarm record for each leaf (R494). -/
def State.stainLeft (s : State) (ks : List Nat) : State :=
  let mine := s.boot.writeLeft.filter (fun (l, _, _) => ks.contains (stackOf l))
  let s := mine.foldl (fun s (l, la, nb) => s.stainRun l la nb) s
  let s := ((mine.map (fun x => x.1)).dedup).foldl (fun s l =>
    s.note 0x11 2 l [(2, ((mine.filter (fun x => x.1 == l)).map (fun x => x.2.2)).sum)]) s
  { s with boot := { s.boot with writeLeft := s.boot.writeLeft.filter (fun (l, _, _) => !ks.contains (stackOf l)) } }

/-- A stack whose block is back runs again, or stays asleep or tripped. -/
def State.stackBack (s : State) (k : Nat) : Bool := !(s.sck k).waking && (s.sck k).pll != .locking

/-- BLOCK_RETURN_TO_SERVICE (R490, R494): after at least 1.28 us the listed writes are stained, and admission resumes. -/
def execBlockReturnToService (b : Fin 22) (s : State) : Host.Outcome State Fault Refusal :=
  if b.val = 20 then
    if bitAt s.regs.rstBusy 20 && decide (s.boot.mrstAt + 128 ≤ s.clk.ticks) then
      .next (s.mordantBack (fld (Tab.num s.boot.bkp 0) 8 4))
    else .next s
  else match s.boot.drains.find? (fun (x, _, e) => x == b.val && e) with
    | none => .next s
    | some (_, t, _) =>
      if decide (s.clk.ticks < t + 128) || (b.val < 16 && !s.stackBack b.val) then .next s
      else
        let ks := blockStacks b.val
        let s := s.stainLeft ks
        let s := { s with boot := { s.boot with drains := s.boot.drains.filter (fun (x, _, _) => x != b.val) },
                          regs := { s.regs with rstBusy := s.regs.rstBusy &&& (0xFFFFFFFF - 2 ^ b.val) } }
        .next ((if b.val < 16 then (s.tilesAsk b.val).zeroAsk b.val else s.askAccu) |> ks.foldl State.rewake)

end Sys2Proof.Machine
end

