-- ==== Sys2Proof/Machine/Flags.lean ====
section
/-! DEFINITION. Status words and registers as the management port reads them, interrupt lines, and the rights of a source (R183, R324, R428, R433, R517-R526, R530, R540, R550-R564, Tables 18.1-18.12 and the status words of the chapters they name). -/

namespace Sys2Proof.Machine

/-! ## Rights (R38, R522, R551, R561, Tables 14.2 and 18.2) -/

/-- The owner host. -/
def State.ownerSrc (s : State) (src : Nat) : Bool := decide (src < 8) && s.bank.owner == some src

/-- The debug port, while the debug page is unlocked. -/
def State.debugSrc (s : State) (src : Nat) : Bool := src == 8 && s.trace.unlocked

/-- The page that holds the claim on the transfer area (R477, R561). -/
def State.claimPage (s : State) : Option Nat :=
  match s.boot.claim with
  | some (p, t) => if s.clk.ticks < t then some p else none
  | none => none

/-- A source may use the transfer area (R561). -/
def State.xferRight (s : State) (src : Nat) (write : Bool) : Bool :=
  match s.claimPage with
  | some p => s.pageFull p src || (!write && src == 8)
  | none => s.ownerSrc src || src == 8

/-- The page and the offset in it of a mailbox offset (Table 18.1). -/
def pageAt (off : Nat) : Option (Nat × Nat) :=
  if 0x100000 ≤ off && off < 0x300000 then some ((off - 0x100000) / 0x1000, off % 0x1000)
  else if 0x300000 ≤ off && off < 0x309000 then some (512 + (off - 0x300000) / 0x1000, off % 0x1000)
  else none

/-- Read rights to an assigned offset (Table 18.2). -/
def State.readRight (s : State) (src off : Nat) : Bool :=
  if off < 0x10000 then decide (src ≤ 8) && (decide (off < 0x1000) || s.ownerSrc src || src == 8)
  else if off < 0x20000 then decide (src ≤ 8)
  else if off < 0x28000 then s.ownerSrc src || src == 8
  else if off < 0x2C000 then decide (src ≤ 8)
  else if off < 0x30000 then s.xferRight src false
  else if 0x400000 ≤ off && off < 0x600000 then
    (decide (src < 8) && (s.bank.tenant ((off - 0x400000) / 0x1000)).host == src) || s.ownerSrc src || src == 8
  else if 0x600000 ≤ off then s.ownerSrc src || src == 8
  else match pageAt off with
    | some (p, o) => s.pageFull p src || (p < 520 && s.ownerSrc src && (o == 0xC10 || o == 0xC18))
    | none => false

/-! ## Identity and global control (Tables 18.3-18.9) -/

/-- PHASE of DW_STATUS (Table 18.5): where the bring-up stands. -/
def State.phase (s : State) : Nat :=
  if s.pins.porst || s.boot.coreReset then 0
  else if s.pins.ready then 6
  else if s.bootFail != 0 then 7
  else if !s.boot.firmware then 1
  else if s.boot.seqAt.isNone then 2
  else if (List.range 16).any (fun k => s.toPower k && !s.settled k) then 3
  else if (List.range 16).any (fun k => s.toPower k && !(s.sup k).quickDone) then 4
  else 5

/-- DW_STATUS (Table 18.5); an absent owner reads as host 0. -/
def State.statusWord (s : State) : Nat :=
  s.pins.ready.toNat + put s.phase 1 3 + put (s.bank.owner.getD 0) 4 3 + put s.boot.imported.toNat 7 1

/-- STKCFG_s (Table 18.5). -/
def State.stkcfg (s : State) (k : Nat) : Nat :=
  let u := s.sup k
  let untr := ((List.range (s.geom k).channels).filter (fun c => (s.chan (k * 32 + c)).cal.untrained)).length
  (if u.stype = 0 then 7 else u.stype - 1) + put u.rate 3 2 + put (u.enable && u.good).toNat 5 1 +
    put u.fenced.toNat 6 1 + put u.trained.toNat 7 1 + put untr 8 6

/-- SHEET_STAT (Table 8.4). -/
def State.sheetStat (s : State) : Nat :=
  let c := s.clk
  c.aligned.toNat + put c.ntLock.toNat 1 1 + put c.defer.toNat 2 1 + put c.live.toNat 3 1 + put c.stepped.toNat 4 1 +
    put c.trans.toNat 5 1 + put (s.sets.filter (fun (x : ChangeSet) => x.committed)).length 6 9

/-- ISO_STATEn (Table 18.8): isolated ports, 32 to a word; n = 4 holds the Felt ports. -/
def State.isoState (s : State) (n : Nat) : Nat :=
  if n < 4 then ((List.range 32).map (fun b => (s.port (32 * n + b)).isolated.toNat * 2 ^ b)).sum
  else (s.port 136).isolated.toNat + 2 * (s.port 137).isolated.toNat

/-- A completion in a page's ring that its host has not consumed and may be told of (R433). -/
def Page.rings (p : Page) : Bool :=
  (List.range (ringUsed p.cplTail p.cplHead)).any (fun i =>
    match Tab.find? p.cplRing ((p.cplHead + i) % 32) with
    | none => false
    | some c => if c.event then bitAt p.ctrl 1 else c.cirq && bitAt p.ctrl 0)

/-- Host that holds a page: h of admin page h, HOST of the tenant. -/
def State.holder (s : State) (page : Nat) : Nat := if page < 512 then (s.bank.tenant page).host else page - 512

/-- The level of DW_IRQ[n] (R433, Table 18.9): lines 0 to 7 by page, line 9 without a mask, the others with IRQ_EN. -/
def State.irqLine (s : State) (n : Nat) : Bool :=
  let src : Bool :=
    match n with
    | 8 => (s.ring 0).wr != (s.ring 0).rd
    | 9 => s.regs.gmiss != 0
    | 10 => s.regs.thermStat != 0
    | 11 => s.trace.sampleStat % 2 ^ 16 != 0
    | 12 => s.regs.stainStat != 0
    | 13 => s.regs.maintStat / 2 != 0
    | 14 => s.clk.live
    | 15 => s.regs.isoEvt != 0
    | _ => false
  if n < 8 then s.pages.any (fun (i, p) => decide (i < 520) && s.holder i == n && p.rings)
  else src && (n == 9 || bitAt s.regs.irqEn n)

/-- Level of QSPI_WP_N: low but while a record is being written (R45). -/
def State.wpHigh (s : State) : Bool := s.boot.wroteAt == some s.clk.ticks && !s.pins.qspiReleased

/-- IRQ_STAT. -/
def State.irqStat (s : State) : Nat := ((List.range 16).map (fun n => (s.irqLine n).toNat * 2 ^ n)).sum

/-! ## Counters and latched pairs (R513, R517-R520, R525, R526) -/

/-- A value of the port windows presented as channel counter i of channel c of stack k (R526). -/
def State.windowValue (s : State) (k c i : Nat) : Nat :=
  let s := s.startWindows
  let ws := (s.port (8 * k + c / 4)).windows
  (ws.getD (2 * (c % 4) + i / 4) []).getD (i % 4) 0

/-- Words of a counter of a table of 48-bit counters with chained pairs: LO and HI, and those of the partner above where it
is the low half. -/
def counterWords (t : Tab Nat) (base i : Nat) (low : List Nat) : List Nat :=
  if i != 0 && low.contains (i - 1) then
    let v := Tab.num t (base + i - 1) / 2 ^ 48
    [v % 2 ^ 32, v / 2 ^ 32 % 2 ^ 16]
  else
    let v := Tab.num t (base + i)
    [v % 2 ^ 32, v / 2 ^ 32 % 2 ^ 16] ++ (if low.contains i then [v / 2 ^ 48 % 2 ^ 32, v / 2 ^ 80 % 2 ^ 16] else [])

/-- Words of a 64-bit value. -/
def twoWords (v : Nat) : List Nat := [v % 2 ^ 32, v / 2 ^ 32 % 2 ^ 32]

/-- A backup register (Table 16.4): FENCE of BKP2 shows the fences. -/
def State.bkpWord (s : State) (n : Nat) : Nat :=
  let v := Tab.num s.boot.bkp n
  if n = 2 then v / 2 ^ 16 * 2 ^ 16 + ((List.range 16).map (fun k => (s.sup k).fenced.toNat * 2 ^ k)).sum else v

/-- The words latched by a read of the LO word at an offset, that word first (R518, R520); none elsewhere. -/
def State.pairWords (s : State) (off : Nat) : Option (List Nat) :=
  if off = 0x24 then some (twoWords s.clk.sheetNum)
  else if 0x1000 ≤ off && off < 0x1200 && off % 8 == 0 then
    some (counterWords s.cnt.global 0 ((off - 0x1000) / 8) chainedG)
  else if 0x10000 ≤ off && off < 0x10080 && off % 8 == 0 then some (twoWords (s.bkpWord ((off - 0x10000) / 8)))
  else if 0x400000 ≤ off && off < 0x600000 then
    let t := (off - 0x400000) / 0x1000
    let o := off % 0x1000
    if o < 0x200 && o % 8 == 0 then some (counterWords s.cnt.tenant (t * 64) (o / 8) chainedT)
    else if o = 0x204 then some (twoWords (s.tenSt t).tsTime)
    else if o = 0x210 then
      some (twoWords (if (s.tenSt t).stepHalf = 0 then (s.tenSt t).step0 else (s.tenSt t).step1))
    else none
  else if 0x600000 ≤ off && off < 0x800000 then
    let k := (off - 0x600000) / 0x20000
    let o := off % 0x20000
    let have_ := (s.sup k).stype != 0
    if o < 0x100 && o % 8 == 0 then some (if have_ then counterWords s.cnt.stack (k * 32) (o / 8) [] else [0, 0])
    else if 0x800 ≤ o && o < 0x1000 && o % 8 == 0 then
      let c := (o - 0x800) / 0x40
      let i := o % 0x40 / 8
      if s.windowMode k then some (twoWords (s.windowValue k c i))
      else if have_ && c < (s.geom k).channels then some (counterWords s.cnt.channel ((k * 32 + c) * 8) i [])
      else some [0, 0]
    else none
  else none

/-! ## Status words of a stack space (Tables 4.9, 5.6, 11.9, 11.10, 12.6-12.8, 13.7, 13.8, 17.8) -/

/-- Maintenance status word of a leaf (Table 4.9). -/
def State.maintWord (s : State) (l : Nat) : Nat :=
  let c := s.care l
  let bits (as : List Act) : Nat := ([1, 2, 3, 4, 5, 6, 7].filter (fun n => as.any (fun a => a.code == n))).foldl (fun v n => v + 2 ^ (n - 1)) 0
  (match c.holder with | some m => m.act.code | none => 0) + put (bits (c.riders.map (fun m => m.act))) 3 7 +
    put (bits (c.paused.map (fun x => x.2.act))) 10 7 + put c.queue.length 17 4 + put (s.chan (channelOf l)).gap.toNat 21 1 +
    put (!(s.prot l).sweep.isEmpty).toNat 22 1 + put (min 4 (s.prot l).mits.length) 23 3

/-- CAL_STAT of a leaf (Table 11.9); a visit is one step, so none is in progress. -/
def State.calStat (s : State) (l : Nat) : Nat :=
  let c := s.care l
  let paused := (s.leaf l).parked || c.paused.any (fun x => x.2.act == .scrub)
  c.lapLast + put c.esc.toNat 20 1 + put c.lapLate.toNat 21 1 + put paused.toNat 23 1 + put c.laps 24 8

/-- CAL_POS of a leaf (Table 11.10). -/
def State.calPos (s : State) (l : Nat) : Nat :=
  let c := s.care l
  if (s.geom (stackOf l)).sids = 3 then c.calRow + put (c.calBank % 16) 15 6 + put (c.calBank / 16) 21 2
  else c.calRow + put c.calBank 15 6

/-- Clock and sleep status word (Table 5.6). -/
def State.sleepWord (s : State) (k : Nat) : Nat :=
  let c := s.sck k
  let parked := ((List.range (s.geom k).leaves).filter (fun i => (s.leaf (k * 64 + i)).parked)).length
  (match c.pll with | .off => 0 | .standby => 1 | .locking => 2 | .locked => 3) + put c.opcur 2 1 +
    put (if c.phase = .none then c.opcur else c.optgt) 3 1 + put (decide (c.phase ≠ .none)).toNat 4 1 + put c.oprb.toNat 5 1 +
    put c.opfail.toNat 6 1 + put c.doms 7 3 + put c.sr.length 10 6 + put parked 16 7 + put c.asleep.toNat 23 1 +
    put c.waking.toNat 24 1

/-- Stack thermal status word (Table 13.7). -/
def State.thermWord (s : State) (k : Nat) : Nat :=
  let h := s.heatOf k
  signed 12 (h.temp.getD 0) + put h.demand 12 3 + put h.lt 15 3 + put (s.pow k).lp 18 3 +
    put (match h.st with | .idle => 0 | .grace => 1 | .enforce => 2 | .tripped => 3) 21 2 + put (s.sck k).ref2x.toNat 23 1 +
    put h.disagree.toNat 24 1 + put h.snsFault.toNat 25 1 + put h.fallback.toNat 26 1 + put h.riseHigh.toNat 27 1 +
    put h.held.toNat 28 1

/-- Stack power status word (Table 13.8). -/
def State.powerWord (s : State) (k : Nat) : Nat :=
  let p := s.pow k
  min 1023 (tenthWatts p.win.sum s.capWindows) + put p.ladder 10 5 + put p.actLim 15 12

/-- WINSTAT (Table 17.8). -/
def State.winstat (s : State) (k : Nat) : Nat :=
  let w := s.now / 100000
  (s.windowMode k).toNat + put w 1 3 + put (!s.pins.ready).toNat 4 1 + put s.pins.stopped.toNat 5 1 +
    put (s.blocked k).toNat 6 1 + put w 8 24

/-- Channel quality word (Table 12.8). -/
def State.qualityWord (s : State) (c : Nat) : Nat :=
  let x := s.chan c
  let a := x.active (s.sck (c / 32)).opcur
  put (a.cqf (s.sup (c / 32)).disc.wstep) 0 8 + put (byteOf a.temp) 8 8 + put a.load 16 7 + put x.pendingCorr.toNat 23 1 +
    put x.stale.toNat 24 1 + put x.cal.untrained.toNat 25 1 + put x.lastCause 26 4 + put a.optag 30 1

/-- Lane margin word (Table 12.7). -/
def Margin.word (g : Margin) (stale : Bool) : Nat :=
  let m (i : Nat) : Nat := g.marg.getD i 0
  put (m 0) 0 5 + put (m 1) 5 5 + put (m 2) 10 5 + put (m 3) 15 5 + put g.low.toNat 20 1 + put g.lowRun 21 2 +
    put stale.toNat 23 1 + put g.evals 24 8

/-- A word of a stack space, counters apart (Table 18.10, R562, R563). -/
def State.stackWord (s : State) (k o : Nat) : Nat :=
  let g := s.geom k
  if (s.sup k).stype = 0 then (if o = 0x300C then s.winstat k else 0)
  else if 0x1000 ≤ o && o < 0x1600 then
    if 0x1100 ≤ o && g.leaves ≤ o % 0x100 / 4 then 0 else Tab.num s.cnt.tally (k * 0x20000 + o)
  else if 0x2000 ≤ o && o < 0x2300 then
    let i := o % 0x100 / 4
    let l := k * 64 + i
    if g.leaves ≤ i then 0
    else if o < 0x2100 then s.maintWord l else if o < 0x2200 then s.calStat l else s.calPos l
  else if o = 0x3000 then s.sleepWord k
  else if o = 0x3004 then s.thermWord k
  else if o = 0x3008 then s.powerWord k
  else if o = 0x300C then s.winstat k
  else if 0x3100 ≤ o && o < 0x3180 then
    let c := (o - 0x3100) / 4
    if g.channels ≤ c then 0 else s.qualityWord (k * 32 + c)
  else if 0x10000 ≤ o && (s.sck k).doms != 0 then
    let c := (o - 0x10000) / 0x800
    let x := s.chan (k * 32 + c)
    let n := o % 0x200 / 4
    let a := x.active (s.sck k).opcur
    if g.channels ≤ c then 0
    else match o % 0x800 / 0x200 with
      | 0 => if n < 80 then (Tab.get LaneCal.reset a.rx n).word false (s.sup k).disc.wstep x.stale else 0
      | 1 => if n < 98 then (Tab.get LaneCal.reset a.tx n).word true (s.sup k).disc.wstep x.stale else 0
      | 2 => if n < 80 then (Tab.get Margin.reset x.margins n).word x.stale else 0
      | _ => 0
  else 0

/-! ## Pages, control and the whole window -/

/-- MB_STAT (Table 14.5); the bulk area is copied as a command is taken. -/
def State.mbStat (s : State) (p : Nat) : Nat :=
  let q := s.page p
  (q.cplTail != q.cplHead).toNat + put q.tailErr.toNat 1 1 + put (q.pstate == .frozen).toNat 2 1 +
    put s.boot.pauseAt.isSome.toNat 3 1 + put q.evLost.toNat 4 1 + put q.owed 6 6

/-- MB_SESSION (Table 14.6). -/
def State.mbSession (s : State) (p : Nat) : Nat :=
  let q := s.page p
  (match q.pstate with | .closed => 0 | .opened => 1 | .frozen => 2) + put q.gen 2 2 + put q.epoch 4 16 +
    put (if p < 520 then s.holder p else 0) 20 3

/-- MB_LEASE (R450): ms left of a lost host's lease. -/
def State.leaseWord (s : State) (h : Nat) : Nat :=
  let x := s.host h
  let t := x.lostAt + ms (1000 * s.setting 0x6003 h)
  if x.lost && x.leaseOn then min (2 ^ 22 - 1) ((t - s.clk.ticks) / ms 1) else 0

/-- A word of a mailbox page (Table 14.3). -/
def State.pageWord (s : State) (p o : Nat) : Nat :=
  let q := s.page p
  if o < 0x800 then Tab.num q.ring (o / 4)
  else if o < 0xC00 then
    match Tab.find? q.cplRing ((o - 0x800) / 32) with
    | some c => fld c.bits (8 * (o % 32)) 32
    | none => 0
  else if 0xD00 ≤ o then Tab.num q.bulk ((o - 0xD00) / 4)
  else match o with
    | 0xC00 => q.cmdTail
    | 0xC04 => q.cmdHead
    | 0xC08 => q.cplTail
    | 0xC0C => q.cplHead
    | 0xC10 => s.mbStat p
    | 0xC14 => q.ctrl
    | 0xC18 => s.mbSession p
    | 0xC1C => q.caps % 2 ^ 32
    | 0xC20 => q.caps / 2 ^ 32
    | 0xC24 => if 512 ≤ p && p < 520 then s.leaseWord (p - 512) else 0
    | 0xC28 => s.fwver
    | _ => 0

/-- Transaction queues and write buffers are empty and no grant moves data (Table 17.23). -/
def State.drained (s : State) : Bool :=
  s.leaves.all (fun (_, l) => l.queue.isEmpty && l.inflight.isEmpty) && !s.parts.any (fun (_, p) => p.stage == .granted)

/-- STOP_STAT (Table 17.23). -/
def State.stopStat (s : State) : Nat :=
  s.pins.stopIn.toNat + put s.pins.stopped.toNat 1 1 + put s.drained.toNat 2 1 + put s.trace.unlocked.toNat 3 1 +
    put s.pins.latches 4 16

/-- SAMPLE_STAT (Table 17.12). -/
def State.sampleStatWord (s : State) : Nat :=
  s.trace.sampleStat % 2 ^ 16 + ((s.trace.samplers.map (fun (u, _) => 2 ^ (16 + u))).sum)

/-- RING_STAT_r (Table 17.18). -/
def State.ringStat (s : State) (r : Nat) : Nat :=
  let g := s.ring r
  g.badrd.toNat + put g.gap.isSome.toNat 1 1 + put (decide (s.ringFree r < 512)).toNat 2 1

/-- SCAN_STAT (Table 17.24). -/
def State.scanStat (s : State) : Nat :=
  let t := s.trace
  t.scanBusy.toNat + put t.scanDone.toNat 1 1 + put t.scanErr.toNat 2 1 + put t.scanCode 3 3 + put t.scanWords 6 14

/-- The scan image as words (R549): free values, their number the scan's. -/
def State.scanImage (s : State) : List Nat := (List.range s.trace.scanWords).map (fun i => (Config.scanWord s.trace.scanBase i).toNat)

/-- A word of the scan buffer: the header of R549, then the image. -/
def State.scanBufWord (s : State) (i : Nat) : Nat :=
  let t := s.trace
  if !t.scanDone then 0
  else match i with
    | 0 => 0x44575343
    | 1 => put t.scanCtl 0 6 + put (fld t.scanCtl 6 10) 16 16
    | 2 => Config.siliconRev.toNat + put t.scanWords 16 16
    | 3 => crc32c (s.scanImage.flatMap (fun w => leBytes 4 w))
    | _ => (s.scanImage).getD (i - 4) 0

/-- A word of the debug, scan and trace control block (Table 18.12). -/
def State.debugWord (s : State) (o : Nat) : Nat :=
  if 0x10000 ≤ o then s.scanBufWord ((o - 0x10000) / 4)
  else if 0x1000 ≤ o && o < 0x2000 then
    if s.trace.apReady then fld (s.trace.apPage.getD ((o - 0x1000) / 8) 0) (8 * (o % 8)) 32 else 0
  else if 0x100 ≤ o && o < 0x130 then
    let r := (o - 0x100) / 16
    match o % 16 with
    | 0 => (s.ring r).wr % 2 ^ 32
    | 4 => (s.ring r).rd % 2 ^ 32
    | 8 => s.ringStat r
    | _ => 0
  else if 0x20 ≤ o && o < 0x30 then Tab.num s.trace.filters ((o - 0x20) / 4)
  else match o with
    | 0x0 => s.stopStat
    | 0x10 => s.sampleStatWord
    | 0x140 => s.trace.apSel
    | 0x144 => s.trace.apReady.toNat
    | 0x200 => s.trace.scanCtl
    | 0x204 => s.scanStat
    | _ => 0

/-- A word of the identity and global control block, latched pairs apart (Table 18.3). -/
def State.globalWord (s : State) (o : Nat) : Nat :=
  if 0x70 ≤ o && o < 0x84 then s.isoState ((o - 0x70) / 4)
  else if 0x90 ≤ o && o < 0xA4 then fld s.regs.isoEvt (32 * ((o - 0x90) / 4)) 32
  else if 0x200 ≤ o && o < 0x240 then s.stkcfg ((o - 0x200) / 4)
  else if 0x1200 ≤ o && o < 0x1400 then (s.port ((o - 0x1200) / 4)).protoNote
  else if 0x1400 ≤ o && o < 0x1420 then (s.feeder ((o - 0x1400) / 4)).reject
  else if 0x1420 ≤ o && o < 0x1440 then (s.feeder ((o - 0x1420) / 4)).lateCnt
  else match o with
    | 0x00 => 0x4457544E
    | 0x04 => Config.siliconRev.toNat + put 1 16 8
    | 0x08 => 1 + put 1 4 4 + put 511 8 9 + put 7 17 3
    | 0x0C => s.statusWord
    | 0x10 => s.regs.accerr
    | 0x14 => s.regs.accerrAddr
    | 0x20 => s.sheetStat
    | 0x30 => s.regs.tbCap % 2 ^ 32
    | 0x34 => s.regs.tbCap / 2 ^ 32
    | 0x38 => s.regs.tbCapStat
    | 0x40 => s.irqStat
    | 0x44 => s.regs.irqEn
    | 0x50 => s.regs.gmiss
    | 0x54 => s.regs.stainStat
    | 0x58 => s.regs.thermStat
    | 0x5C => s.regs.pkgPavg
    | 0x60 => s.regs.maintStat
    | 0x108 => s.regs.rstBusy
    | _ => 0

/-- Four bytes of a byte table as a word. -/
def wordOfCells (m : List Host.Cell) (o : Nat) : Nat :=
  ((List.range 4).map (fun i => (Tab.get (0 : Byte) m (o + i)).toNat * 256 ^ i)).sum

/-- The alarm mirror as bytes, its records one after another (Table 16.5). -/
def State.mirrorWord (s : State) (o : Nat) : Nat := ofLe (((s.trace.mirror.flatMap Rec.bytes).drop o).take 4)

/-- The live register value at an assigned offset of the window (Table 18.1, R554): what a source with read rights reads
where its holding register does not serve the read. -/
def State.readWord (s : State) (off : Nat) : Nat :=
  match s.pairWords off, s.pairWords (off - 4) with
  | some ws, _ => ws.getD 0 0
  | none, some ws => ws.getD 1 0
  | none, none =>
    if off < 0x10000 then s.globalWord off
    else if off < 0x20000 then 0
    else if off < 0x28000 then s.mirrorWord (off - 0x20000)
    else if off < 0x2C000 then wordOfCells s.hostMem (off - 0x28000)
    else if off < 0x30000 then wordOfCells s.xfer (off - 0x2C000)
    else if 0x400000 ≤ off && off < 0x600000 then
      let x := s.tenSt ((off - 0x400000) / 0x1000)
      match off % 0x1000 with
      | 0x200 => x.throttle
      | 0x20C => x.umap.toNat + put x.stepHalf 1 1
      | _ => 0
    else if 0x600000 ≤ off && off < 0x800000 then s.stackWord ((off - 0x600000) / 0x20000) (off % 0x20000)
    else if 0x800000 ≤ off && off < 0x820000 then s.debugWord (off - 0x800000)
    else match pageAt off with
      | some (p, o) => if s.pagesOff then 0 else s.pageWord p o
      | none => 0

end Sys2Proof.Machine
end

