-- ==== Sys2Proof/Machine/Debug.lean ====
section
/-! DEFINITION. Debug stop, event rings, port windows, samples, the ring aperture and scan-out (R43, R526, R529, R530, R534, R536, R538, R539, R544, R545, R548, R549). -/

namespace Sys2Proof.Machine

/-! ## Debug stop (R43, R544, R545) -/

/-- DEBUG_STOP: DBG_STOP_IN is asserted, and every stack halts admission. -/
def execDebugStop (s : State) : Host.Outcome State Fault Refusal :=
  if s.pins.porst then .next s
  else .next { s with pins := { s.pins with stopIn := true, stopped := s.pins.stopped || s.pins.ready } }

/-- DEBUG_STOP_END: DBG_STOP_IN is released; with every latch clear, admission resumes and DW_DBG_STOPPED falls. -/
def execDebugStopEnd (s : State) : Host.Outcome State Fault Refusal :=
  .next ({ s with pins := { s.pins with stopIn := false } }).stopEnds

/-! ## Event rings (R534-R538) -/

/-- The system leaf can take ring writes: filled, its stack awake. -/
def State.systemAwake (s : State) : Bool :=
  match s.sysLeaf with
  | none => false
  | some l =>
    let c := s.sck (stackOf l)
    s.fillable l && (s.care l).filled && c.pll == .locked && !c.asleep && !c.sr.contains (channelOf l % 32)

/-- Move the records of the buffer into their rings, in order (R534). -/
def State.moveRecs (s : State) : State :=
  let s := s.trace.buffer.foldl (fun s (x : Rec) =>
    let g := s.ring x.ring
    let s := s.storeSystem (areaBase x.ring + g.wr % ringSize x.ring) x.bytes
    s.setRing x.ring { g with wr := g.wr + 32 * x.len }) s
  { s with trace := { s.trace with buffer := [] } }

/-- RECORD_MOVE (R534): 4 KiB has gathered, the oldest record has waited 1 ms, or an alarm waits. A sleeping system leaf is
woken first. -/
def execRecordMove (s : State) : Host.Outcome State Fault Refusal :=
  let b := s.trace.buffer
  let old := match b with | (x : Rec) :: _ => decide (x.at_ + ms 1 ≤ s.clk.ticks) | [] => false
  if !(old || decide (4096 ≤ s.bufferBytes) || b.any (fun (x : Rec) => x.ring == 0 && x.kind != 0)) then .next s
  else if s.systemAwake then .next s.moveRecs
  else match s.sysLeaf with
    | some l => .next (if s.fillable l && (s.care l).filled then s.wakeStack (stackOf l) else s)
    | none => .next s

/-- Body of a GAP record (Table 17.17). -/
def Gap.body (g : Gap) : List Nat :=
  leBytes 8 g.first ++ leBytes 8 g.last ++ leBytes 4 (min g.lost 0xFFFFFFFF) ++ [g.reason, g.multi.toNat] ++ leBytes 2 g.src ++
    List.replicate 8 0

/-- A run of dropped records has ended, and its GAP record can be written (R538). -/
def State.gapEnds (s : State) (r : Nat) (g : Gap) : Bool :=
  let room := decide (512 ≤ s.ringFree r) && decide (s.bufferBytes + 64 ≤ 65536)
  let rate := match g.msec with | some m => decide (m < s.now / 1000000) | none => true
  room && rate

/-- GAP_RECORD_WRITE (R538). -/
def execGapRecordWrite (ring : Fin 3) (s : State) : Host.Outcome State Fault Refusal :=
  let x := s.ring ring.val
  match x.gap with
  | none => .next s
  | some g =>
    if !s.gapEnds ring.val g then .next s
    else
      let s := s.setRing ring.val { x with gap := none }
      let s := s.appendRec ring.val (s.mkRec 1 ring.val 0 0 2 g.body)
      .next (s.cntG (if ring.val = 1 then 10 else 11) 1)

/-- Pending alarms, then summaries, are written as the reader frees space (R536). -/
def State.writePending : Nat → State → State
  | 0, s => s
  | n + 1, s =>
    if s.ringFree 0 < 512 then s
    else
      let put_ (s : State) (x : Rec) : State :=
        let s := (s.appendRec 0 x).cntG 9 1
        let y : Rec := (s.trace.newest.map (fun (r, _) => r)).getD x
        s.mirrorMap (fun r => r.sameAs x) (fun _ => y)
      match s.trace.pendingAlarms, s.trace.summaries with
      | x :: rest, _ => State.writePending n (put_ { s with trace := { s.trace with pendingAlarms := rest } } x)
      | [], x :: rest => State.writePending n (put_ { s with trace := { s.trace with summaries := rest } } x)
      | [], [] => s

/-- A write of RING_RD_r (R539): RD moves forward, and not beyond WR, or BADRD is set. -/
def State.writeRingRd (s : State) (r v : Nat) : State :=
  let g := s.ring r
  let d := (v + 2 ^ 32 - g.rd % 2 ^ 32) % 2 ^ 32
  if g.wr - g.rd < d then s.setRing r { g with badrd := true }
  else
    let s := s.setRing r { g with rd := g.rd + d }
    if r = 0 then s.writePending 1280 else s

/-! ## Port windows and samples (R526-R530) -/

/-- PORT_WINDOW_START (R526): the timebase has reached a new multiple of 100 us, and the new window's slot is cleared. -/
def execPortWindowStart (s : State) : Host.Outcome State Fault Refusal := .next s.startWindows

/-- SRCID of a SAMPLE record: the scope of its counter. -/
def Sampler.source (u : Sampler) : Nat × Nat :=
  match u.sel / 2 ^ 14 with
  | 0 => (6, u.ten)
  | 1 => (2, fld u.sel 8 4 * 64 + 2 * fld u.sel 3 5)
  | 2 => (1, fld u.sel 5 4)
  | _ => (0, 0)

/-- Write a unit's SAMPLE record (R530, Table 17.15) and set its SAMPLE_STAT bit. -/
def State.sampleRec (s : State) (i : Nat) (u : Sampler) (skid : Nat) (req : List Nat) : State :=
  let body := leBytes 6 u.value ++ leBytes 2 u.sel ++ [i] ++ leBytes 2 (min u.missed 65535) ++ leBytes 2 skid ++ req ++
    List.replicate 19 0
  let (c, n) := u.source
  let s := s.traceRec (s.mkRec 3 2 c n 2 (body.take 32))
  let u : Sampler := { u with pendingAt := none, missed := 0, cand := none, skid := 0 }
  { s with trace := { s.trace with samplers := Tab.put s.trace.samplers i u, sampleStat := s.trace.sampleStat ||| 2 ^ i } }

/-- SAMPLE_TAKEN (R529): a unit with a crossing has met a request of its scope. -/
def execSampleTaken (u : Fin 16) (s : State) : Host.Outcome State Fault Refusal :=
  match Tab.find? s.trace.samplers u.val with
  | none => .next s
  | some x => match x.cand with
    | none => .next s
    | some req => .next (s.sampleRec u.val x x.skid req)

/-- SAMPLE_TIMEOUT (R529): 1 ms after a crossing no request of the scope has come. -/
def execSampleTimeout (u : Fin 16) (s : State) : Host.Outcome State Fault Refusal :=
  match Tab.find? s.trace.samplers u.val with
  | none => .next s
  | some x => match x.pendingAt, x.cand with
    | some t, none => .next (if t + ms 1 ≤ s.clk.ticks then s.sampleRec u.val x 0xFFFF [] else s)
    | _, _ => .next s

/-! ## The ring aperture (R539, R564) -/

/-- Size of an area of the system leaf in 4 KiB pages. -/
def areaPages (a : Nat) : Nat := if a = 3 then 65536 else ringSize a / 4096

/-- A write of RING_AP_SEL. -/
def State.selectPage (s : State) (v : Nat) : State :=
  { s with trace := { s.trace with apSel := v % 2 ^ 19, apReady := false, apBusy := true } }

/-- APERTURE_READY (R539): the selected page has been copied; a page beyond its area reads zeros. -/
def execApertureReady (s : State) : Host.Outcome State Fault Refusal :=
  let a := s.trace.apSel % 4
  let p := s.trace.apSel / 4
  if !s.trace.apBusy then .next s
  else
    let words : List Nat := match s.sysLeaf with
      | none => []
      | some l =>
        if areaPages a ≤ p then []
        else (List.range 512).map (fun i =>
          let (d, c) := s.storedWord l (areaBase a + 4096 * p + 8 * i)
          (decodeWord d c).data.toNat)
    .next { s with trace := { s.trace with apBusy := false, apReady := true, apPage := words } }

/-! ## Scan-out (R548, R549) -/

/-- A domain of Table 5.2 other than MORDANT is switched on. LAKE and XBAR come on with the power sequence (Table 16.7); no rule
switches TRACE off. -/
def State.domainOn (s : State) (d : Nat) : Bool :=
  if d < 48 then bitAt (s.sck (d / 3)).doms (d % 3)
  else if d < 52 then s.boot.seqAt.isSome && !s.clk.halfOff.contains (d % 2)
  else d == 52 || d == 53 || d == 55

/-- A write of SCAN_CTL (R548): with START a scan begins or ERR is set; a START while BUSY is ignored. -/
def State.writeScan (s : State) (v : Nat) : State :=
  let t := s.trace
  let err (code : Nat) : State := { s with trace := { t with scanCtl := v % 2 ^ 16, scanErr := true, scanCode := code } }
  if !bitAt v 16 then (if t.scanBusy then s else { s with trace := { t with scanCtl := v % 2 ^ 16 } })
  else if t.scanBusy then s
  else
    let d := v % 64
    let l := fld v 6 10
    if !t.unlocked then err 2
    else if !s.pins.stopped then err 1
    else if !s.domainOn d || (decide (d < 48) && (l / 64 != d / 3 || decide ((s.geom (d / 3)).leaves ≤ l % 64))) then err 3
    else
      let s := { s with trace := { t with scanCtl := v % 2 ^ 16, scanBusy := true, scanDone := false, scanCode := 0 } }
      if d < 48 then s.request l (plainReq .scan 0 0) else s

/-- SCAN_DONE (R549): the domain's state has been copied. The image's length and words are free values. -/
def execScanDone (s : State) : Host.Outcome State Fault Refusal :=
  let d := fld s.trace.scanCtl 0 6
  let ready := decide (48 ≤ d) || (s.care (fld s.trace.scanCtl 6 10)).runs .scan
  if !s.trace.scanBusy || !ready then .next s
  else
    let n := Config.freeNat s.freeCount % 16381
    let t := { s.trace with scanBusy := false, scanDone := true, scanWords := n, scanBase := s.freeCount }
    .next ({ s with trace := t }).fresh

end Sys2Proof.Machine
end

