-- ==== Sys2Proof/Machine/Registers.lean ====
section
/-! DEFINITION. Management-port writes and latching reads (R8, R38, R492, R517-R522, R539, R548, R550-R561, Table 18.2). -/

namespace Sys2Proof.Machine

/-! ## Access rules -/

/-- The registers that answer in AON from the release of PORST_N: the backup registers and the retained SRAM (R554). -/
def aonOffset (off : Nat) : Bool := decide (0x10000 ≤ off) && decide (off < 0x30000)

/-- A register whose domain is in a core reset reads 0: every one but those of the AON domain (the identity words and DW_STATUS, the
sheet number, the reset controller, the thermal trip's THERM_STAT) (R554, Table 1.8; DEDUCED, log 146). -/
def State.dark (s : State) (off : Nat) : Bool :=
  s.boot.coreReset && !aonOffset off && !([0x0, 0x4, 0x8, 0xC, 0x24, 0x28, 0x58, 0x100, 0x104, 0x108].contains off)

/-- The words of a latched pair as a read finds them: 0 while their domain is in reset. -/
def State.pairRead (s : State) (off : Nat) : Option (List Nat) :=
  (s.pairWords off).map (fun ws => if s.dark off then ws.map (fun _ => 0) else ws)

/-- A register write of a source with or without the right (R38, R554): without it, or with the block in reset, the write
is discarded and RIGHTERR set. -/
def State.regWrite (s : State) (src off : Nat) (right : Bool) (f : State → State) : Host.Outcome State Fault Refusal :=
  if s.pins.porst then .next s
  else if !right || (s.boot.coreReset && !aonOffset off) then .next (s.accErr src off true false)
  else .next (f s)

/-! ## Resets (R487, R492, Table 16.2) -/

/-- A write of SWRST by a source that may, with its KEY. -/
def State.swrst (s : State) (src v : Nat) : Host.Outcome State Fault Refusal :=
  s.regWrite src 0x100 ((s.ownerSrc src || s.debugSrc src) && fld v 24 8 == 0xA5)
    (fun s => (swrstBlocks v).foldl State.startReset s)

/-- SWRST_STACK: a write of SWRST that names stacks. -/
def execSwrstStack (src : Fin 16) (v : BitVec 32) (s : State) : Host.Outcome State Fault Refusal := s.swrst src.val v.toNat
/-- SWRST_LAKE. -/
def execSwrstLake (src : Fin 16) (v : BitVec 32) (s : State) : Host.Outcome State Fault Refusal := s.swrst src.val v.toNat
/-- SWRST_XBAR: XBAR_h names LAKE_h with it. -/
def execSwrstXbar (src : Fin 16) (v : BitVec 32) (s : State) : Host.Outcome State Fault Refusal := s.swrst src.val v.toNat
/-- SWRST_MORDANT: a Mordant reset of source 6. -/
def execSwrstMordant (src : Fin 16) (v : BitVec 32) (s : State) : Host.Outcome State Fault Refusal := s.swrst src.val v.toNat
/-- SWRST_TRACE. -/
def execSwrstTrace (src : Fin 16) (v : BitVec 32) (s : State) : Host.Outcome State Fault Refusal := s.swrst src.val v.toNat

/-- A write of HOSTRST by a source that may, with its KEY: CORE causes a core reset of source 3. -/
def State.hostrst (s : State) (src v : Nat) : Host.Outcome State Fault Refusal :=
  s.regWrite src 0x104 ((s.ownerSrc src || s.debugSrc src) && fld v 24 8 == 0x5A)
    (fun s => if bitAt v 0 then s.coreReset 3 else s)

/-- HOSTRST_CORE (R487, R492). -/
def execHostrstCore (src : Fin 16) (v : BitVec 32) (s : State) : Host.Outcome State Fault Refusal := s.hostrst src.val v.toNat

/-! ## Registers with a row of their own -/

/-- A capture of the timebase (R556). -/
def State.snap (s : State) (src v : Nat) : State :=
  if !bitAt v 0 then s
  else
    let n := (fld s.regs.tbCapStat 8 8 + 1) % 256
    { s with regs := { s.regs with tbCap := s.now % 2 ^ 64,
                                   tbCapStat := src + put s.clk.aligned.toNat 4 1 + put n 8 8 } }

/-- TB_SNAP (R556): every host and the debug port may write it. -/
def execTbSnap (src : Fin 16) (v : BitVec 32) (s : State) : Host.Outcome State Fault Refusal :=
  s.regWrite src.val 0x2C (decide (src.val ≤ 8)) (fun s => s.snap src.val v.toNat)

/-- Rights to write the debug, scan and trace control block (R551). -/
def State.debugRight (s : State) (src : Nat) : Bool := s.ownerSrc src || s.debugSrc src

/-- RING_RD_WRITE (R539). -/
def execRingRdWrite (ring : Fin 3) (src : Fin 16) (v : BitVec 32) (s : State) : Host.Outcome State Fault Refusal :=
  s.regWrite src.val (0x800104 + 16 * ring.val) (s.debugRight src.val) (fun s => s.writeRingRd ring.val v.toNat)

/-- RING_AP_SEL_WRITE (R539). -/
def execRingApSelWrite (src : Fin 16) (v : BitVec 32) (s : State) : Host.Outcome State Fault Refusal :=
  s.regWrite src.val 0x800140 (s.debugRight src.val) (fun s => s.selectPage v.toNat)

/-- SCAN_CTL_START (R548). -/
def execScanCtlStart (src : Fin 16) (v : BitVec 32) (s : State) : Host.Outcome State Fault Refusal :=
  s.regWrite src.val 0x800200 (s.debugRight src.val) (fun s => s.writeScan v.toNat)

/-! ## Every other register (R550, R553, R557, R559-R561) -/

/-- Bits of a value that a write of 1 leaves set: those outside the W1C mask, and those not written. -/
def w1c (old v mask : Nat) : Nat := old - (old &&& v &&& mask)

/-- A write of ACCERR (R555): once both flags are clear, the capture is cleared. -/
def State.writeAccerr (s : State) (v : Nat) : State :=
  let r := w1c s.regs.accerr v 3
  { s with regs := if r % 4 = 0 then { s.regs with accerr := 0, accerrAddr := 0 } else { s.regs with accerr := r } }

/-- A write to the identity and global control block (Table 18.3). -/
def State.writeGlobal (s : State) (src o v : Nat) : State :=
  let r := s.regs
  if 0x90 ≤ o && o < 0xA4 then
    let n := 32 * ((o - 0x90) / 4)
    { s with regs := { r with isoEvt := w1c r.isoEvt (v * 2 ^ n) ((2 ^ 32 - 1) * 2 ^ n) } }
  else match o with
    | 0x10 => s.writeAccerr v
    | 0x20 => { s with clk := { s.clk with live := s.clk.live && !bitAt v 3, stepped := s.clk.stepped && !bitAt v 4 } }
    | 0x2C => s.snap src v
    | 0x44 => { s with regs := { r with irqEn := v &&& 0xFD00 } }
    | 0x50 => { s with regs := { r with gmiss := w1c r.gmiss v 0xFFFF } }
    | 0x54 => { s with regs := { r with stainStat := w1c r.stainStat v 0xFFFF007F } }
    | 0x58 => { s with regs := { r with thermStat := w1c r.thermStat v 0xFFFF03F7 } }
    | 0x60 => { s with regs := { r with maintStat := w1c r.maintStat v 0xFFFF01FE } }
    | _ => s

/-- Replace four bytes of a byte table. -/
def putWordCells (m : List Host.Cell) (o v : Nat) : List Host.Cell :=
  (List.range 4).foldl (fun m i => Tab.set (0 : Byte) m (o + i) (BitVec.ofNat 8 (v / 256 ^ i))) m

/-- A write to a backup register half (R559): of BKP0 to BKP2 only CALIMP. -/
def State.writeBkp (s : State) (o v : Nat) : State :=
  let n := o / 8
  if n < 3 then (if o = 0 then s.setBkp 0 12 1 (fld v 12 1) else s) else s.setBkp n (8 * (o % 8)) 32 v

/-- A write to a mailbox page other than its doorbell, its completion head and its lease (Tables 14.3-14.6). -/
def State.writePage (s : State) (p o v : Nat) : State :=
  let q := s.page p
  if o < 0x800 then s.setPage p { q with ring := Tab.set 0 q.ring (o / 4) v }
  else if 0xD00 ≤ o then s.setPage p { q with bulk := Tab.set 0 q.bulk ((o - 0xD00) / 4) v }
  else match o with
    | 0xC00 => s.wakeCores.writeTail p (v % 64)
    | 0xC0C => s.writeHead p (v % 64)
    | 0xC10 => s.setPage p { q with tailErr := q.tailErr && !bitAt v 1, evLost := q.evLost && !bitAt v 4 }
    | 0xC14 => s.setPage p { q with ctrl := v % 4 }
    | 0xC24 => s.hostResumed (p - 512)
    | _ => s

/-- A write to the debug, scan and trace control block (Table 18.12). -/
def State.writeDebug (s : State) (o v : Nat) : State :=
  if 0x20 ≤ o && o < 0x30 then { s with trace := { s.trace with filters := Tab.set 0 s.trace.filters ((o - 0x20) / 4) (v % 2 ^ 27) } }
  else if 0x100 ≤ o && o < 0x130 then
    let r := (o - 0x100) / 16
    match o % 16 with
    | 4 => s.writeRingRd r v
    | 8 => s.setRing r { s.ring r with badrd := (s.ring r).badrd && !bitAt v 0 }
    | _ => s
  else match o with
    | 0x10 => { s with trace := { s.trace with sampleStat := w1c s.trace.sampleStat v 0xFFFF } }
    | 0x140 => s.selectPage v
    | 0x200 => s.writeScan v
    | 0x204 => { s with trace := { s.trace with scanDone := s.trace.scanDone && !bitAt v 1, scanErr := s.trace.scanErr && !bitAt v 2 } }
    | _ => s

/-- Offsets that Table 18.1 and the tables it names assign (R550). -/
def assigned (off : Nat) : Bool :=
  if off % 4 != 0 then false
  else if off < 0x10000 then
    [0x0, 0x4, 0x8, 0xC, 0x10, 0x14, 0x20, 0x24, 0x28, 0x2C, 0x30, 0x34, 0x38, 0x40, 0x44, 0x50, 0x54, 0x58, 0x5C, 0x60, 0x70, 0x74,
      0x78, 0x7C, 0x80, 0x90, 0x94, 0x98, 0x9C, 0xA0, 0x100, 0x104, 0x108].contains off ||
      (decide (0x200 ≤ off) && decide (off < 0x240)) || (decide (0x1000 ≤ off) && decide (off < 0x1440))
  else if off < 0x20000 then decide (off < 0x10080)
  else if off < 0x30000 then true
  else if 0x400000 ≤ off && off < 0x600000 then decide (off % 0x1000 < 0x218)
  else if 0x600000 ≤ off && off < 0x800000 then
    let o := off % 0x20000
    let n := o % 0x200 / 4
    decide (o < 0x100) || (decide (0x800 ≤ o) && decide (o < 0x104C)) ||
      (decide (0x1100 ≤ o) && decide (o < 0x1600)) || (decide (0x2000 ≤ o) && decide (o < 0x2300)) ||
      (decide (0x3000 ≤ o) && decide (o < 0x3010)) || (decide (0x3100 ≤ o) && decide (o < 0x3180)) ||
      (decide (0x10000 ≤ o) && o % 0x800 / 0x200 != 3 && decide (n < 98))
  else if 0x800000 ≤ off && off < 0x820000 then
    let o := off - 0x800000
    [0x0, 0x10, 0x20, 0x24, 0x28, 0x2C, 0x140, 0x144, 0x200, 0x204].contains o ||
      (decide (0x100 ≤ o) && decide (o < 0x130) && o % 16 != 12) || (decide (0x1000 ≤ o) && decide (o < 0x2000)) ||
      decide (0x10000 ≤ o)
  else match pageAt off with
    | some (p, o) => decide (o < 0xC2C) && (o != 0xC24 || (decide (512 ≤ p) && decide (p < 520))) || decide (0xD00 ≤ o)
    | none => false

/-- Write rights to an assigned offset (Table 18.2): a write without them is an access error, a write with them to an RO
register is discarded (R553). -/
def State.writeRight (s : State) (src off : Nat) : Bool :=
  if off = 0x2C then decide (src ≤ 8)
  else if off = 0x100 || off = 0x104 then s.ownerSrc src || s.debugSrc src
  else if off < 0x1000 then s.ownerSrc src || src == 8
  else if off < 0x10000 then false
  else if off < 0x10018 then s.ownerSrc src
  else if off < 0x20000 then s.ownerSrc src || src == 8
  else if off < 0x28000 then false
  else if off < 0x2C000 then s.ownerSrc src || src == 8
  else if off < 0x30000 then s.xferRight src true
  else if 0x400000 ≤ off && off < 0x800000 then false
  else if 0x800000 ≤ off then s.debugRight src
  else match pageAt off with
    | some (p, o) => (s.pageFull p src || (o == 0xC24 && src == p - 512)) && !s.pagesOff
    | none => false

/-- The effect of a write that its source may make. -/
def State.writeReg (s : State) (src off v : Nat) : State :=
  if off < 0x10000 then s.writeGlobal src off v
  else if off < 0x20000 then s.writeBkp (off - 0x10000) v
  else if off < 0x28000 then s
  else if off < 0x2C000 then { s with hostMem := putWordCells s.hostMem (off - 0x28000) v }
  else if off < 0x30000 then { s with xfer := putWordCells s.xfer (off - 0x2C000) v }
  else if 0x800000 ≤ off then s.writeDebug (off - 0x800000) v
  else match pageAt off with
    | some (p, o) => s.writePage p o v
    | none => s

/-- REGISTER_WRITE (R8, R38, R550, R553): a write of one word. SWRST and HOSTRST act as their own rows do. -/
def execRegisterWrite (src : Fin 16) (off : BitVec 25) (v : BitVec 32) (s : State) : Host.Outcome State Fault Refusal :=
  let o := off.toNat
  if s.pins.porst then .next s
  else if !assigned o then .next (s.accErr src.val o true true)
  else if o = 0x100 then s.swrst src.val v.toNat
  else if o = 0x104 then s.hostrst src.val v.toNat
  else s.regWrite src.val o (s.writeRight src.val o) (fun s => s.writeReg src.val o v.toNat)

/-! ## Latching reads (R517-R520) -/

/-- The holding register of a source already serves a LO read: its tag is the low half of the chained pair below. -/
def State.heldBelow (s : State) (src off : Nat) : Bool :=
  let t := (Tab.get Hold.reset s.regs.holds src).tag
  t + 8 == off && (match s.pairWords t with | some ws => ws.length == 4 | none => false)

/-- The value a read of one word returns to a source (R38, R518, R519, R550): 0 at an unassigned offset and to a source
without the right, else the held word where its tag serves it, else the live one. -/
def State.readFor (s : State) (src off : Nat) : Nat :=
  let h := Tab.get Hold.reset s.regs.holds src
  let chained := match s.pairWords h.tag with | some ws => ws.length == 4 | none => false
  let latched := (s.pairWords h.tag).isSome
  if !assigned off || !s.readRight src off then 0
  else if latched && off == h.tag + 4 then h.w0
  else if chained && off == h.tag + 8 then h.w1
  else if chained && off == h.tag + 12 then h.w2
  else if s.dark off then 0
  else s.readWord off

/-- LO_WORD_READ (R518-R520): a read of the LO word of a latched pair fills the source's holding register and sets its tag,
unless the register already holds that word. -/
def execLoWordRead (src : Fin 16) (off : BitVec 25) (s : State) : Host.Outcome State Fault Refusal :=
  let o := off.toNat
  if s.pins.porst then .next s
  else if !assigned o then .next (s.accErr src.val o false true)
  else if !s.readRight src.val o then .next (s.accErr src.val o false false)
  else match s.pairRead o with
    | none => .next s
    | some ws =>
      if s.heldBelow src.val o then .next s
      else
        let h : Hold := { tag := o, w0 := ws.getD 1 0, w1 := ws.getD 2 0, w2 := ws.getD 3 0 }
        .next { s with regs := { s.regs with holds := Tab.set Hold.reset s.regs.holds src.val h } }

end Sys2Proof.Machine
end

