-- ==== Sys2Proof/Machine/Dispatch.lean ====
section
/-! DEFINITION. One arm for each command: its meaning. -/

namespace Sys2Proof.Machine

def exec (i : Instr) (s : State) : Host.Outcome State Fault Refusal :=
  match i with
  | .rd p h => Sys2Proof.Machine.execRd p h s
  | .wr p h d => Sys2Proof.Machine.execWr p h d s
  | .wrm p h d => Sys2Proof.Machine.execWrm p h d s
  | .accu p h d => Sys2Proof.Machine.execAccu p h d s
  | .acco p h d => Sys2Proof.Machine.execAcco p h d s
  | .gath p h => Sys2Proof.Machine.execGath p h s
  | .mark p h d => Sys2Proof.Machine.execMark p h d s
  | .fence p h => Sys2Proof.Machine.execFence p h s
  | .feltSpill f h d => Sys2Proof.Machine.execFeltSpill f h d s
  | .feltFillAck f tag ok => Sys2Proof.Machine.execFeltFillAck f tag ok s
  | .feltFillAckTimeout f tag => Sys2Proof.Machine.execFeltFillAckTimeout f tag s
  | .responseCreditReturn p hdrs beats => Sys2Proof.Machine.execResponseCreditReturn p hdrs beats s
  | .responseBeatSend p => Sys2Proof.Machine.execResponseBeatSend p s
  | .urgLevelChange p lvl => Sys2Proof.Machine.execUrgLevelChange p lvl s
  | .fdGo f slot => Sys2Proof.Machine.execFdGo f slot s
  | .feederPageReadIssue f => Sys2Proof.Machine.execFeederPageReadIssue f s
  | .feederBeat f rdy => Sys2Proof.Machine.execFeederBeat f rdy s
  | .feederStallTimeout f => Sys2Proof.Machine.execFeederStallTimeout f s
  | .portWatchdogExpiry p => Sys2Proof.Machine.execPortWatchdogExpiry p s
  | .portEdgeResetRelease p => Sys2Proof.Machine.execPortEdgeResetRelease p s
  | .partGrant k => Sys2Proof.Machine.execPartGrant k s
  | .grantComplete k => Sys2Proof.Machine.execGrantComplete k s
  | .lakeHoldTimeout k => Sys2Proof.Machine.execLakeHoldTimeout k s
  | .urgencyCrossing k => Sys2Proof.Machine.execUrgencyCrossing k s
  | .deadlineSweep k => Sys2Proof.Machine.execDeadlineSweep k s
  | .columnRun l => Sys2Proof.Machine.execColumnRun l s
  | .rowCommand c => Sys2Proof.Machine.execRowCommand c s
  | .idleClose l => Sys2Proof.Machine.execIdleClose l s
  | .directionTurn l => Sys2Proof.Machine.execDirectionTurn l s
  | .budgetWindow k => Sys2Proof.Machine.execBudgetWindow k s
  | .readDataArrival l flips => Sys2Proof.Machine.execReadDataArrival l flips s
  | .refreshTick l => Sys2Proof.Machine.execRefreshTick l s
  | .refpbIssue c => Sys2Proof.Machine.execRefpbIssue c s
  | .rowCounterAgeing k => Sys2Proof.Machine.execRowCounterAgeing k s
  | .mitigation l => Sys2Proof.Machine.execMitigation l s
  | .spillSweep l => Sys2Proof.Machine.execSpillSweep l s
  | .spillSweepForce l => Sys2Proof.Machine.execSpillSweepForce l s
  | .maintenanceStart l act => Sys2Proof.Machine.execMaintenanceStart l act s
  | .maintenanceEnd l act => Sys2Proof.Machine.execMaintenanceEnd l act s
  | .retrainStep c => Sys2Proof.Machine.execRetrainStep c s
  | .retrainStepAbandon c => Sys2Proof.Machine.execRetrainStepAbandon c s
  | .retrainDone c m => Sys2Proof.Machine.execRetrainDone c m s
  | .calibrationApply c => Sys2Proof.Machine.execCalibrationApply c s
  | .marginEvaluation c lane mismatch => Sys2Proof.Machine.execMarginEvaluation c lane mismatch s
  | .loadWindow k => Sys2Proof.Machine.execLoadWindow k s
  | .calenderVisit l flips => Sys2Proof.Machine.execCalenderVisit l flips s
  | .calenderEscalate l => Sys2Proof.Machine.execCalenderEscalate l s
  | .heal l flips => Sys2Proof.Machine.execHeal l flips s
  | .rowRepair l flips spare => Sys2Proof.Machine.execRowRepair l flips spare s
  | .laneRepair c spare => Sys2Proof.Machine.execLaneRepair c spare s
  | .repairMapStore => Sys2Proof.Machine.execRepairMapStore s
  | .nvRecordStore first second => Sys2Proof.Machine.execNvRecordStore first second s
  | .mergeEntryTimeout l => Sys2Proof.Machine.execMergeEntryTimeout l s
  | .accuUpdate k => Sys2Proof.Machine.execAccuUpdate k s
  | .accoTileRetire k => Sys2Proof.Machine.execAccoTileRetire k s
  | .accoTileTimeout k => Sys2Proof.Machine.execAccoTileTimeout k s
  | .watermarkClose a => Sys2Proof.Machine.execWatermarkClose a s
  | .markerRefill half t => Sys2Proof.Machine.execMarkerRefill half t s
  | .debtCharge => Sys2Proof.Machine.execDebtCharge s
  | .gateRelease q => Sys2Proof.Machine.execGateRelease q s
  | .drrRelease stage => Sys2Proof.Machine.execDrrRelease stage s
  | .powerLadderStep => Sys2Proof.Machine.execPowerLadderStep s
  | .housekeepingRound r => Sys2Proof.Machine.execHousekeepingRound r s
  | .thermalRestart k => Sys2Proof.Machine.execThermalRestart k s
  | .droop k => Sys2Proof.Machine.execDroop k s
  | .droopLong k => Sys2Proof.Machine.execDroopLong k s
  | .quirePark q => Sys2Proof.Machine.execQuirePark q s
  | .selfRefreshEntry c => Sys2Proof.Machine.execSelfRefreshEntry c s
  | .domainGateOff k => Sys2Proof.Machine.execDomainGateOff k s
  | .domainPowerGood k => Sys2Proof.Machine.execDomainPowerGood k s
  | .pllLocked k => Sys2Proof.Machine.execPllLocked k s
  | .pllLockLoss k relockFailed => Sys2Proof.Machine.execPllLockLoss k relockFailed s
  | .refClkLoss => Sys2Proof.Machine.execRefClkLoss s
  | .refClkRestored => Sys2Proof.Machine.execRefClkRestored s
  | .ntLockLoss => Sys2Proof.Machine.execNtLockLoss s
  | .frequencySwitchEnd k => Sys2Proof.Machine.execFrequencySwitchEnd k s
  | .regulatorAck k => Sys2Proof.Machine.execRegulatorAck k s
  | .regulatorAckTimeout k => Sys2Proof.Machine.execRegulatorAckTimeout k s
  | .rollbackAckTimeout k => Sys2Proof.Machine.execRollbackAckTimeout k s
  | .sheetBoundary nt => Sys2Proof.Machine.execSheetBoundary nt s
  | .quireDrainEnd q => Sys2Proof.Machine.execQuireDrainEnd q s
  | .zeroFillEnd q => Sys2Proof.Machine.execZeroFillEnd q s
  | .mbCmdTailWrite page src v => Sys2Proof.Machine.execMbCmdTailWrite page src v s
  | .mbCplHeadWrite page src v => Sys2Proof.Machine.execMbCplHeadWrite page src v s
  | .mbLeaseWrite h src => Sys2Proof.Machine.execMbLeaseWrite h src s
  | .heartbeatTimeout h => Sys2Proof.Machine.execHeartbeatTimeout h s
  | .hostLinkDown h => Sys2Proof.Machine.execHostLinkDown h s
  | .hostLinkUp h => Sys2Proof.Machine.execHostLinkUp h s
  | .leaseExpiry h => Sys2Proof.Machine.execLeaseExpiry h s
  | .handoverTimeout => Sys2Proof.Machine.execHandoverTimeout s
  | .mordantWatchdogExpiry => Sys2Proof.Machine.execMordantWatchdogExpiry s
  | .trialEnd => Sys2Proof.Machine.execTrialEnd s
  | .criticalStateError aonSequencer => Sys2Proof.Machine.execCriticalStateError aonSequencer s
  | .powerOnReset => Sys2Proof.Machine.execPowerOnReset s
  | .powerOnRelease dev => Sys2Proof.Machine.execPowerOnRelease dev s
  | .chipWarmReset => Sys2Proof.Machine.execChipWarmReset s
  | .coreResetRelease => Sys2Proof.Machine.execCoreResetRelease s
  | .stackPowerEnable k => Sys2Proof.Machine.execStackPowerEnable k s
  | .stackPowerGood k disc => Sys2Proof.Machine.execStackPowerGood k disc s
  | .stackPgTimeout k => Sys2Proof.Machine.execStackPgTimeout k s
  | .stackPgFall k => Sys2Proof.Machine.execStackPgFall k s
  | .stackOvercurrent pair => Sys2Proof.Machine.execStackOvercurrent pair s
  | .pairFaultRecovery pair => Sys2Proof.Machine.execPairFaultRecovery pair s
  | .stackTraining k m hardFails => Sys2Proof.Machine.execStackTraining k m hardFails s
  | .importWaitEnd => Sys2Proof.Machine.execImportWaitEnd s
  | .quickCheck k laneFailed badSpares hardFails => Sys2Proof.Machine.execQuickCheck k laneFailed badSpares hardFails s
  | .initialFill l => Sys2Proof.Machine.execInitialFill l s
  | .dwReadyRise => Sys2Proof.Machine.execDwReadyRise s
  | .blockResetDrainEnd b => Sys2Proof.Machine.execBlockResetDrainEnd b s
  | .blockReturnToService b => Sys2Proof.Machine.execBlockReturnToService b s
  | .debugStop => Sys2Proof.Machine.execDebugStop s
  | .debugStopEnd => Sys2Proof.Machine.execDebugStopEnd s
  | .recordMove => Sys2Proof.Machine.execRecordMove s
  | .gapRecordWrite ring => Sys2Proof.Machine.execGapRecordWrite ring s
  | .portWindowStart => Sys2Proof.Machine.execPortWindowStart s
  | .sampleTaken u => Sys2Proof.Machine.execSampleTaken u s
  | .sampleTimeout u => Sys2Proof.Machine.execSampleTimeout u s
  | .apertureReady => Sys2Proof.Machine.execApertureReady s
  | .scanDone => Sys2Proof.Machine.execScanDone s
  | .open_ page => Sys2Proof.Machine.execOpen page s
  | .close page => Sys2Proof.Machine.execClose page s
  | .commit page => Sys2Proof.Machine.execCommit page s
  | .discard page => Sys2Proof.Machine.execDiscard page s
  | .stateRead page => Sys2Proof.Machine.execStateRead page s
  | .qalloc page => Sys2Proof.Machine.execQalloc page s
  | .qjoin page => Sys2Proof.Machine.execQjoin page s
  | .wunmap page => Sys2Proof.Machine.execWunmap page s
  | .qrelease page => Sys2Proof.Machine.execQrelease page s
  | .regionSet page => Sys2Proof.Machine.execRegionSet page s
  | .tintSet page => Sys2Proof.Machine.execTintSet page s
  | .portSet page => Sys2Proof.Machine.execPortSet page s
  | .affinityReset page => Sys2Proof.Machine.execAffinityReset page s
  | .policerSet page => Sys2Proof.Machine.execPolicerSet page s
  | .gateSet page => Sys2Proof.Machine.execGateSet page s
  | .profileLoad page => Sys2Proof.Machine.execProfileLoad page s
  | .schedSet page => Sys2Proof.Machine.execSchedSet page s
  | .sheetSet page => Sys2Proof.Machine.execSheetSet page s
  | .skewSet page => Sys2Proof.Machine.execSkewSet page s
  | .lakeSet page => Sys2Proof.Machine.execLakeSet page s
  | .feederPortSet page => Sys2Proof.Machine.execFeederPortSet page s
  | .feederSlotSet page => Sys2Proof.Machine.execFeederSlotSet page s
  | .doorbellSet page => Sys2Proof.Machine.execDoorbellSet page s
  | .wmArm page => Sys2Proof.Machine.execWmArm page s
  | .dumpFree page => Sys2Proof.Machine.execDumpFree page s
  | .maintSet page => Sys2Proof.Machine.execMaintSet page s
  | .maintReqScrub page => Sys2Proof.Machine.execMaintReqScrub page s
  | .maintReqHeal page => Sys2Proof.Machine.execMaintReqHeal page s
  | .maintReqRepairRow page => Sys2Proof.Machine.execMaintReqRepairRow page s
  | .maintReqRepairLane page => Sys2Proof.Machine.execMaintReqRepairLane page s
  | .maintReqCapture page => Sys2Proof.Machine.execMaintReqCapture page s
  | .repairPromote page => Sys2Proof.Machine.execRepairPromote page s
  | .repairCompact page => Sys2Proof.Machine.execRepairCompact page s
  | .repairClearStack page => Sys2Proof.Machine.execRepairClearStack page s
  | .repairReserial page => Sys2Proof.Machine.execRepairReserial page s
  | .repairRead page => Sys2Proof.Machine.execRepairRead page s
  | .powerSet page => Sys2Proof.Machine.execPowerSet page s
  | .oppointSet page => Sys2Proof.Machine.execOppointSet page s
  | .thermalSet page => Sys2Proof.Machine.execThermalSet page s
  | .thermalRelease page => Sys2Proof.Machine.execThermalRelease page s
  | .stackFence page => Sys2Proof.Machine.execStackFence page s
  | .stackFenceClear page => Sys2Proof.Machine.execStackFenceClear page s
  | .calibSet page => Sys2Proof.Machine.execCalibSet page s
  | .calExport page => Sys2Proof.Machine.execCalExport page s
  | .calImport page => Sys2Proof.Machine.execCalImport page s
  | .calRetrain page => Sys2Proof.Machine.execCalRetrain page s
  | .calBaseline page => Sys2Proof.Machine.execCalBaseline page s
  | .hostSet page => Sys2Proof.Machine.execHostSet page s
  | .tenantAssign page => Sys2Proof.Machine.execTenantAssign page s
  | .ownerHandover page => Sys2Proof.Machine.execOwnerHandover page s
  | .ownerAccept page => Sys2Proof.Machine.execOwnerAccept page s
  | .adopt page => Sys2Proof.Machine.execAdopt page s
  | .cntAllowUmap page => Sys2Proof.Machine.execCntAllowUmap page s
  | .cntRevokeUmap page => Sys2Proof.Machine.execCntRevokeUmap page s
  | .cntArmSampling page => Sys2Proof.Machine.execCntArmSampling page s
  | .cntDisarmSampling page => Sys2Proof.Machine.execCntDisarmSampling page s
  | .energyRead page => Sys2Proof.Machine.execEnergyRead page s
  | .subscribeAdd page => Sys2Proof.Machine.execSubscribeAdd page s
  | .subscribeRemove page => Sys2Proof.Machine.execSubscribeRemove page s
  | .fwStage page signed => Sys2Proof.Machine.execFwStage page signed s
  | .fwActivate page => Sys2Proof.Machine.execFwActivate page s
  | .faultInjectFlipOne page => Sys2Proof.Machine.execFaultInjectFlipOne page s
  | .faultInjectFlipTwo page => Sys2Proof.Machine.execFaultInjectFlipTwo page s
  | .faultInjectStain page => Sys2Proof.Machine.execFaultInjectStain page s
  | .faultInjectTempOffset page => Sys2Proof.Machine.execFaultInjectTempOffset page s
  | .faultInjectWithholdAck page => Sys2Proof.Machine.execFaultInjectWithholdAck page s
  | .faultInjectHeaderParity page => Sys2Proof.Machine.execFaultInjectHeaderParity page s
  | .faultInjectHostLost page => Sys2Proof.Machine.execFaultInjectHostLost page s
  | .dbgIssueCode page => Sys2Proof.Machine.execDbgIssueCode page s
  | .dbgGrantRights page => Sys2Proof.Machine.execDbgGrantRights page s
  | .dbgRevokeRights page => Sys2Proof.Machine.execDbgRevokeRights page s
  | .dbgUnlock page => Sys2Proof.Machine.execDbgUnlock page s
  | .dbgResume page => Sys2Proof.Machine.execDbgResume page s
  | .swrstStack src v => Sys2Proof.Machine.execSwrstStack src v s
  | .swrstLake src v => Sys2Proof.Machine.execSwrstLake src v s
  | .swrstXbar src v => Sys2Proof.Machine.execSwrstXbar src v s
  | .swrstMordant src v => Sys2Proof.Machine.execSwrstMordant src v s
  | .swrstTrace src v => Sys2Proof.Machine.execSwrstTrace src v s
  | .hostrstCore src v => Sys2Proof.Machine.execHostrstCore src v s
  | .tbSnap src v => Sys2Proof.Machine.execTbSnap src v s
  | .ringRdWrite ring src v => Sys2Proof.Machine.execRingRdWrite ring src v s
  | .ringApSelWrite src v => Sys2Proof.Machine.execRingApSelWrite src v s
  | .scanCtlStart src v => Sys2Proof.Machine.execScanCtlStart src v s
  | .registerWrite src off v => Sys2Proof.Machine.execRegisterWrite src off v s
  | .caParityError c => Sys2Proof.Machine.execCaParityError c s
  | .droopEnd k cycles => Sys2Proof.Machine.execDroopEnd k cycles s
  | .timebaseErrorLimit nt => Sys2Proof.Machine.execTimebaseErrorLimit nt s
  | .loWordRead src off => Sys2Proof.Machine.execLoWordRead src off s

end Sys2Proof.Machine
end

