-- ==== Sys2Proof/Machine/Tick.lean ====
section
/-! DEFINITION. One REF_CLK period, the step on an empty queue: the timebase and stack time, timers, and slot accounting. -/

namespace Sys2Proof.Machine

/-! ## The timebase and stack time (R138-R140) -/

/-- Limit a signed number to -lim..lim. -/
def clampInt (lim x : Int) : Int := max (-lim) (min lim x)

/-- The timebase procedure of R139 for one cycle: tb advances by inc, and an aligned timebase follows NT_TOD. With REF_CLK
lost, AON_CLK advances it at the same rate per 10 ns (R140). -/
def Clock.advance (c : Clock) : Clock :=
  let nom : Int := 10 * 2 ^ 32
  let lim : Int := nom / 10000
  let c := { c with ticks := c.ticks + 1, tb := c.tb + c.inc, ntTod := c.ntTod + 10,
                    ntHigh := if c.ntLock then c.ntHigh + 1 else 0 }
  if c.refLost || !c.aligned || !c.ntLock || !c.ntValid then c
  else
    let err : Int := (c.ntTod : Int) * 2 ^ 32 - (c.tb : Int)
    if 10000 * 2 ^ 32 < err || err < -(10000 * 2 ^ 32) then { c with aligned := false }
    else
      let acc := clampInt lim (c.acc + err / 2 ^ 20)
      { c with acc := acc, inc := (nom + clampInt lim (err / 2 ^ 12 + acc)).toNat }

/-- Stack time runs with QCLK (R138): in nominal periods, whatever the operating point, and in a stretch one for each stretched
cycle (R418). -/
def State.stackTime (s : State) : State :=
  { s with sclk := Tab.mapVals s.sclk (fun k c =>
      if c.pll == .locked && !c.asleep then
        { c with stc := (c.stc + s.qPer10 k * (if (s.pow k).stretch then 4 else 5) / 5) % 2 ^ 32 }
      else c) }

/-! ## Timers -/

/-- Port watchdogs (R185) and feeder stalls (R189); both hold in a debug stop. -/
def State.portTimers (s : State) : State :=
  if s.stopping then s
  else
    { s with
      ports := Tab.mapVals s.ports (fun p q => if s.watchdogRuns p then { q with timer := q.timer + 1 } else q),
      feeders := Tab.mapVals s.feeders (fun _ f => match f.stream with
        | none => f
        | some x => { f with stall := if f.rdy &&& x.rec_.aen = x.rec_.aen then 0 else f.stall + 1 }) }

/-- Ages that a stop or a stack that is not admitting hold: MERGE_WAIT (R330, Table 17.22) and ACCO_TMO (R293). -/
def State.lakeTimers (s : State) : State :=
  let cares := if s.stopping then Tab.mapVals s.cares (fun _ (c : Care) =>
      { c with merge := c.merge.map (fun m => { m with born := m.born + 1 }) }) else s.cares
  { s with cares := cares,
           lake := { s.lake with tiles := Tab.mapVals s.lake.tiles (fun _ t =>
             if s.admitting t.stack then { t with elapsed := t.elapsed + 1 } else t) } }

/-- The conditions of R277 on the quire of a stream: no stack of it throttled, tripped, switching or stopped, its gate open
to the stream's tint, and every enabled array ready. -/
def State.feedClear (s : State) (f : Feeder) (x : Stream) : Bool :=
  !s.stopping && f.rdy &&& x.rec_.aen == x.rec_.aen &&
    (match s.placeIn x.snap x.rec_.saddr with
      | none => true
      | some (w, _) =>
        s.gateOpen w.qbase w.qk x.rec_.tint 0 &&
          ((s.membersOf w.qbase w.qk).map stackOf).all (fun k =>
            (s.arb k).cap == 0 && (s.heatOf k).st != .tripped && !(s.sck k).switching))

/-- A stream for which one of R277's conditions does not hold is not judged over this time. -/
def State.feedJudge (s : State) : State :=
  { s with feeders := Tab.mapVals s.feeders (fun _ f => match f.stream with
      | none => f
      | some x => if s.feedClear f x then f else { f with stream := some (s.unjudged x) }) }

/-- Quires, unowned leaves and the system leaf of trained stacks, each by the leaf that stands for it. -/
def State.sleepers (s : State) : List Nat :=
  (List.range 16).flatMap (fun k =>
    if (s.sup k).trained then ((List.range 64).map (fun i => k * 64 + i)).filter (fun q => !(s.parkLeaves q).isEmpty)
    else [])

/-- Idle times of R146: when each idle quire's began on the timebase, which has just advanced by d ns; a debug stop holds them
(R150). -/
def State.idleTimers (s : State) (d : Nat) : State :=
  if s.stopping then { s with idle := Tab.mapVals s.idle (fun _ t => t + d) }
  else { s with idle := s.sleepers.filterMap (fun q =>
    if s.quireIdle q && !(s.parkLeaves q).all (fun l => (s.leaf l).parked) then some (q, (Tab.find? s.idle q).getD s.now)
    else none) }

/-- What lets LAKE and XBAR of a half go off (Table 5.2): its stacks gated, no tile, gather or feeder stream open in it, and no
traffic to its stacks or, over the bridge, to its ports. -/
def State.halfQuiet (s : State) (h : Nat) : Bool :=
  (List.range 8).all (fun i => (s.sck (8 * h + i)).doms == 0) && !Tab.some s.lake.tiles (fun _ t => halfOf t.stack == h) &&
    !Tab.some s.lake.gathers (fun i _ => halfOf (i / 8) == h) &&
    !Tab.some s.feeders (fun f x => portHalf (128 + f) == h && x.stream.isSome) &&
    !s.parts.any (fun (_, p) => halfOf p.stack == h) &&
    !Tab.some s.reqs (fun _ r => portHalf r.port == h && halfOf r.stack != h && (r.phase == .live || r.phase == .dataOpen))

/-- LAKE and XBAR of a half go off once that has held for GATE_DELAY of the half's lowest stack, and are on again as soon as it does
not hold (R142, R149); a debug stop starts no switch (R150). -/
def State.settleHalves (s : State) : State :=
  if !s.pins.ready then { s with clk := { s.clk with halfOff := [], halfQuiet := [] } }
  else
    let quiet := [0, 1].filter s.halfQuiet
    let since (h : Nat) : Nat := (Tab.find? s.clk.halfQuiet h).getD s.clk.ticks
    let due (h : Nat) : Bool := !s.stopping && decide (since h + s.setting 0x5003 (8 * h) * 1000 ≤ s.clk.ticks)
    { s with clk := { s.clk with halfQuiet := quiet.map (fun h => (h, since h)),
                                 halfOff := quiet.filter (fun h => s.clk.halfOff.contains h || due h) } }

/-- Retrain steps end at their time (R374). -/
def State.stepEnds (s : State) : State :=
  s.chans.foldl (fun s (c, x) => match x.step with
    | some (_, _, e) => if e ≤ s.clk.ticks then s.endStep c else s
    | none => s) s

/-- DW_RST_OUT_N of a powered stack rises 200 us after its settle point and after Mordant starts (R490). -/
def State.resetsRise (s : State) : State :=
  if s.boot.coreReset then s
  else { s with supply := Tab.mapVals s.supply (fun k u =>
    if u.rstOutLow && u.good && !u.fenced && decide (s.resetDue k ≤ s.clk.ticks) then { u with rstOutLow := false } else u) }

/-- A hand-over's take-over takes place once the incoming image is verified; the time it takes is free (R508;
DESIGN CHOICE, safe: assumption 68). -/
def State.handOver (s : State) : State :=
  match s.boot.pauseAt with
  | none => s
  | some t => if s.mordantUp && decide (t + Config.freeNat s.boot.handTicket ≤ s.clk.ticks) then s.takeOver else s

/-- A Mordant core without a task sleeps (R429): tasks are the pages that wait for service, the records that wait to be stored and a
hand-over. Cores 1 to 3 take them first (DESIGN CHOICE: assumption 129). -/
def State.coresRest (s : State) : State :=
  let n := s.serviceq.length + s.stores.length + s.boot.pauseAt.isSome.toNat
  let busy := match n with
    | 0 => 0
    | 1 => 2
    | 2 => 6
    | 3 => 14
    | _ => 15
  { s with trace := { s.trace with cores := s.trace.cores &&& busy } }

/-! ## Slot accounting (R524) -/

/-- QCLKs of a leaf in the period from a to b, in 1/12 ns. -/
def slotsIn (q a b : Nat) : Nat := b / q - a / q

/-- Category of R524 of a leaf in service that issues no column command: 1 REFRESH, 2 ROWOVH, 3 TURN, 4 MAINT, 5 THROTTLE,
6 FRONT, 7 BACK. The order of the tests is DEDUCED, unsafe: assumption 34. -/
def State.slotKind (s : State) (leaf : Nat) : Nat :=
  let k := stackOf leaf
  let c := channelOf leaf
  let l := s.leaf leaf
  let turning := l.turned && (if l.writing then decide (s.now12 < l.lastRd + s.cyc k 6 6)
    else l.lastWr.any (fun (_, t) => decide (s.now12 < t + s.cyc k 8 8)))
  let refreshing (i : Nat) : Bool := decide (s.now12 < (l.bank i).tRef) || s.held leaf i
  let opening (b : Bank) : Bool := (b.openRow.isSome && b.tCol == b.tAct) ||
    (b.openRow.isNone && decide (s.now12 < b.tPre + s.cyc k 24 20))
  if (s.care leaf).holds || (s.chan c).gap || (s.chan c).apply || (s.sck k).switching then 4
  else if turning then 3
  else if l.queue.isEmpty then 6
  else if l.queue.any (fun e => s.columnOk leaf { l with slots := 0 } e && !s.columnOk leaf l e) then 5
  else if l.queue.all (fun e => refreshing e.bank) then 1
  else if l.queue.any (fun e => opening (l.bank e.bank)) then 2
  else 7

/-- A leaf is in service: its stack is awake and its channel trained and not in self-refresh. -/
def State.inService (s : State) (leaf : Nat) : Bool :=
  let k := stackOf leaf
  let c := s.sck k
  (s.sup k).trained && !(s.chan (channelOf leaf)).cal.untrained && !c.asleep && !c.waking &&
    (c.switching || (c.pll == .locked && !c.sr.contains (channelOf leaf % 32)))

/-- Slots of the period that ends now, after those a run under way has counted. -/
def State.countSlots (s : State) : State :=
  (List.range 16).foldl (fun s k =>
    if !(s.sup k).trained then s
    else (List.range (s.geom k).leaves).foldl (fun s i =>
      let leaf := k * 64 + i
      if !s.inService leaf then s
      else
        let a := max (s.now12 - 120) (s.leaf leaf).busFree
        if s.now12 ≤ a then s else s.slotCount leaf (s.slotKind leaf) (slotsIn (s.qPeriod k) a s.now12)) s) s

/-! ## The tick -/

/-- One REF_CLK period, the step on an empty queue (DESIGN CHOICE, unsafe for durations: assumption 2). Under PORST_N nothing advances; in a core reset only what Table 16.3 keeps does. -/
def tick (s : State) : State :=
  if s.pins.porst then s
  else
    let before := s.now
    let s := { s with clk := s.clk.advance }
    let s := s.resetsRise
    if s.boot.coreReset then s
    else let s := s.stackTime.portTimers.lakeTimers.feedJudge
      (s.idleTimers (s.now - before)).settleHalves.stepEnds.countSlots.crossings.settleTenants.coresRest.handOver

end Sys2Proof.Machine
end

