-- ==== Sys2Proof/Safety.lean ====
section
/-! DEFINITION. The terms the statements use: rules that every state keeps, and what a command leaves as it was. -/

namespace Sys2Proof.Machine

/-! ## Rules that hold in every state a step can reach from one that meets them -/

/-- R41: with DW_THR_REQ low, DW_THR_LEVEL is 0. -/
def State.thrRule (s : State) : Prop := s.pins.thrReq = false → s.pins.thrLevel = 0

/-- The records of the active bank that only a sheet boundary changes (R222). -/
structure SameRecords (a b : Banked) : Prop where
  settings : b.settings = a.settings
  windows : b.windows = a.windows
  regions : b.regions = a.regions
  tints : b.tints = a.tints
  marks : b.redTint = a.redTint ∧ b.yelTint = a.yelTint
  gates : b.gates = a.gates
  skews : b.skews = a.skews
  doorbells : b.doorbells = a.doorbells
  armings : b.armings = a.armings
  profile : b.profile = a.profile
  ports : b.ports = a.ports
  policers : b.policers = a.policers
  feedPorts : b.feedPorts = a.feedPorts

/-! ## Frames: the parts of the state -/

/-- The parts of the state, by the name of the field of State that holds each. -/
inductive Field
  | clk
  | pins
  | boot
  | bank
  | sets
  | ports
  | aff
  | reqs
  | parts
  | nextId
  | leaves
  | prots
  | cares
  | arbs
  | sclk
  | heat
  | power
  | supply
  | chans
  | drrs
  | markers
  | debts
  | lake
  | feeders
  | pages
  | serviceq
  | tickets
  | hosts
  | tenants
  | cnt
  | trace
  | regs
  | stores
  | idle
  | xfer
  | hostMem
  | mem
  | chk
  | freeCount
  | pending
deriving DecidableEq, Repr

/-- Two states agree in a part. -/
def Field.same (f : Field) (s t : State) : Prop :=
  match f with
  | .clk => t.clk = s.clk
  | .pins => t.pins = s.pins
  | .boot => t.boot = s.boot
  | .bank => t.bank = s.bank
  | .sets => t.sets = s.sets
  | .ports => t.ports = s.ports
  | .aff => t.aff = s.aff
  | .reqs => t.reqs = s.reqs
  | .parts => t.parts = s.parts
  | .nextId => t.nextId = s.nextId
  | .leaves => t.leaves = s.leaves
  | .prots => t.prots = s.prots
  | .cares => t.cares = s.cares
  | .arbs => t.arbs = s.arbs
  | .sclk => t.sclk = s.sclk
  | .heat => t.heat = s.heat
  | .power => t.power = s.power
  | .supply => t.supply = s.supply
  | .chans => t.chans = s.chans
  | .drrs => t.drrs = s.drrs
  | .markers => t.markers = s.markers
  | .debts => t.debts = s.debts
  | .lake => t.lake = s.lake
  | .feeders => t.feeders = s.feeders
  | .pages => t.pages = s.pages
  | .serviceq => t.serviceq = s.serviceq
  | .tickets => t.tickets = s.tickets
  | .hosts => t.hosts = s.hosts
  | .tenants => t.tenants = s.tenants
  | .cnt => t.cnt = s.cnt
  | .trace => t.trace = s.trace
  | .regs => t.regs = s.regs
  | .stores => t.stores = s.stores
  | .idle => t.idle = s.idle
  | .xfer => t.xfer = s.xfer
  | .hostMem => t.hostMem = s.hostMem
  | .mem => t.mem = s.mem
  | .chk => t.chk = s.chk
  | .freeCount => t.freeCount = s.freeCount
  | .pending => t.pending = s.pending

end Sys2Proof.Machine

/-! ## What a command may change -/

namespace Sys2Proof
open Machine

/-- The parts of the state that a command may change; every other part is the same in its next state. -/
def Instr.touches (i : Instr) : List Field :=
  match i with
  | .rd _ _ | .wr _ _ _ | .wrm _ _ _ | .accu _ _ _ | .acco _ _ _ | .gath _ _ | .mark _ _ _ | .fence _ _ |
    .feltSpill _ _ _ =>
    [.ports, .aff, .reqs, .parts, .nextId, .leaves, .arbs, .sclk, .power, .chans, .drrs, .markers, .lake,
     .tenants, .cnt, .trace, .regs, .mem, .chk]
  | .feltFillAck _ _ _ | .feltFillAckTimeout _ _ | .drrRelease _ =>
    [.ports, .reqs, .parts, .nextId, .leaves, .arbs, .sclk, .power, .chans, .drrs, .markers, .lake, .cnt, .trace,
     .regs, .mem, .chk]
  | .responseCreditReturn _ _ _ | .portEdgeResetRelease _ =>
    [.ports]
  | .responseBeatSend _ =>
    [.ports, .reqs, .arbs, .cnt, .trace, .regs]
  | .urgLevelChange _ _ =>
    [.ports, .leaves]
  | .fdGo _ _ =>
    [.feeders]
  | .feederPageReadIssue _ =>
    [.ports, .reqs, .parts, .nextId, .leaves, .arbs, .sclk, .power, .chans, .drrs, .markers, .feeders, .cnt,
     .regs]
  | .feederBeat _ _ =>
    [.reqs, .parts, .arbs, .drrs, .feeders, .cnt, .trace, .regs, .mem, .chk]
  | .feederStallTimeout _ =>
    [.bank, .reqs, .parts, .arbs, .drrs, .feeders, .cnt, .trace, .mem, .chk]
  | .portWatchdogExpiry _ =>
    [.ports, .aff, .reqs, .parts, .nextId, .leaves, .arbs, .sclk, .power, .chans, .drrs, .markers, .lake, .cnt,
     .trace, .regs, .mem, .chk]
  | .partGrant _ =>
    [.pins, .ports, .reqs, .parts, .nextId, .leaves, .cares, .arbs, .sclk, .power, .chans, .drrs, .markers, .lake,
     .cnt, .trace, .regs, .mem, .chk, .freeCount]
  | .grantComplete _ =>
    [.pins, .ports, .reqs, .parts, .nextId, .leaves, .cares, .arbs, .sclk, .power, .chans, .drrs, .markers, .lake,
     .cnt, .trace, .regs, .mem, .chk, .freeCount]
  | .lakeHoldTimeout _ | .markerRefill _ _ | .gateRelease _ =>
    [.ports, .reqs, .parts, .arbs, .drrs, .markers, .cnt, .regs]
  | .urgencyCrossing _ =>
    [.reqs, .parts, .leaves, .arbs, .cnt, .trace, .regs, .mem, .chk]
  | .deadlineSweep _ =>
    [.reqs, .leaves, .cares, .lake]
  | .idleClose _ =>
    [.leaves, .chans]
  | .directionTurn _ | .spillSweepForce _ | .quirePark _ =>
    [.leaves]
  | .columnRun _ =>
    [.reqs, .parts, .nextId, .leaves, .cares, .arbs, .sclk, .power, .chans, .lake, .cnt, .trace, .mem, .chk]
  | .rowCommand _ =>
    [.leaves, .prots, .arbs, .sclk, .power, .chans, .debts, .cnt]
  | .budgetWindow _ =>
    [.leaves, .arbs]
  | .readDataArrival _ _ =>
    [.bank, .ports, .reqs, .parts, .nextId, .leaves, .cares, .arbs, .sclk, .power, .chans, .drrs, .markers, .lake,
     .pages, .cnt, .trace, .regs, .stores, .mem, .chk]
  | .refreshTick _ | .pllLockLoss _ _ =>
    [.leaves, .sclk, .cnt, .trace, .mem, .chk]
  | .refpbIssue _ =>
    [.leaves, .arbs, .power, .chans]
  | .rowCounterAgeing _ | .domainPowerGood _ =>
    [.prots, .sclk]
  | .mitigation _ =>
    [.leaves, .prots, .arbs, .power, .chans]
  | .spillSweep _ =>
    [.leaves, .prots, .arbs, .power, .chans, .cnt, .trace, .mem, .chk]
  | .maintenanceStart _ _ =>
    [.boot, .nextId, .leaves, .cares, .arbs, .sclk, .power, .chans, .pages, .serviceq, .tickets, .regs]
  | .maintenanceEnd _ _ =>
    [.boot, .nextId, .leaves, .cares, .arbs, .sclk, .power, .chans, .pages, .serviceq, .tickets]
  | .retrainStep _ | .heal _ _ =>
    [.bank, .ports, .nextId, .leaves, .prots, .cares, .arbs, .sclk, .power, .chans, .lake, .pages, .cnt, .trace,
     .regs, .stores, .mem, .chk]
  | .retrainStepAbandon _ =>
    [.chans]
  | .retrainDone _ _ =>
    [.boot, .sets, .cares, .chans, .pages, .serviceq, .tickets, .cnt, .trace, .mem, .chk]
  | .calibrationApply _ =>
    [.boot, .leaves, .arbs, .power, .chans, .pages, .serviceq, .tickets]
  | .marginEvaluation _ _ _ =>
    [.cares, .chans]
  | .loadWindow _ =>
    [.cares, .power, .chans]
  | .calenderVisit _ _ =>
    [.boot, .bank, .ports, .nextId, .leaves, .prots, .cares, .arbs, .sclk, .power, .chans, .lake, .pages, .serviceq,
     .tickets, .cnt, .trace, .regs, .stores, .mem, .chk]
  | .calenderEscalate _ =>
    [.cares, .regs]
  | .rowRepair _ _ _ =>
    [.bank, .ports, .nextId, .leaves, .prots, .cares, .arbs, .sclk, .power, .supply, .chans, .lake, .pages, .cnt,
     .trace, .regs, .stores, .mem, .chk]
  | .laneRepair _ _ =>
    [.bank, .ports, .cares, .chans, .lake, .pages, .cnt, .trace, .regs, .stores, .mem, .chk]
  | .repairMapStore =>
    [.boot, .pages, .serviceq, .tickets, .regs, .stores]
  | .nvRecordStore _ _ =>
    [.boot, .pages, .serviceq, .tickets, .cnt, .trace, .regs, .stores, .mem, .chk]
  | .mergeEntryTimeout _ | .selfRefreshEntry _ =>
    [.nextId, .leaves, .cares, .arbs, .sclk, .power, .chans]
  | .accuUpdate _ | .accoTileRetire _ =>
    [.pins, .ports, .nextId, .leaves, .cares, .arbs, .sclk, .power, .chans, .lake, .cnt, .trace, .mem, .chk,
     .freeCount]
  | .accoTileTimeout _ =>
    [.pins, .ports, .nextId, .leaves, .cares, .arbs, .sclk, .power, .chans, .lake, .cnt, .trace, .regs, .mem,
     .chk, .freeCount]
  | .watermarkClose _ =>
    [.pins, .ports, .lake, .cnt, .trace, .mem, .chk, .freeCount]
  | .debtCharge =>
    [.drrs, .markers, .debts, .cnt]
  | .powerLadderStep =>
    [.power, .cnt, .trace, .regs, .mem, .chk]
  | .housekeepingRound _ =>
    [.clk, .pins, .boot, .bank, .ports, .reqs, .parts, .leaves, .prots, .cares, .arbs, .sclk, .heat, .power, .supply,
     .chans, .drrs, .markers, .lake, .feeders, .pages, .serviceq, .tickets, .tenants, .cnt, .trace, .regs, .mem, .chk]
  | .thermalRestart _ =>
    [.leaves, .arbs, .sclk, .heat, .power, .chans, .cnt, .trace, .mem, .chk]
  | .droop _ =>
    [.power, .cnt]
  | .droopLong _ =>
    [.sclk, .power, .cnt, .trace, .regs, .mem, .chk]
  | .domainGateOff _ =>
    [.leaves, .sclk]
  | .pllLocked _ =>
    [.boot, .leaves, .arbs, .sclk, .power, .chans, .pages, .serviceq, .tickets]
  | .refClkLoss =>
    [.clk, .leaves, .sclk, .cnt, .trace, .mem, .chk]
  | .refClkRestored =>
    [.clk, .leaves, .arbs, .sclk, .power, .chans]
  | .ntLockLoss =>
    [.clk, .cnt, .trace, .mem, .chk]
  | .frequencySwitchEnd _ =>
    [.boot, .leaves, .cares, .arbs, .sclk, .power, .chans, .pages, .serviceq, .tickets]
  | .regulatorAck _ =>
    [.boot, .nextId, .leaves, .cares, .arbs, .sclk, .power, .chans, .pages, .serviceq, .tickets]
  | .regulatorAckTimeout _ =>
    [.bank, .leaves, .arbs, .sclk, .power, .chans, .cnt, .trace, .mem, .chk]
  | .rollbackAckTimeout _ =>
    [.boot, .leaves, .sclk, .pages, .serviceq, .tickets, .cnt, .trace, .mem, .chk]
  | .sheetBoundary _ =>
    [.clk, .boot, .bank, .sets, .ports, .aff, .reqs, .parts, .nextId, .leaves, .prots, .cares, .arbs, .sclk,
     .power, .supply, .chans, .drrs, .markers, .lake, .pages, .serviceq, .tickets, .tenants, .cnt, .trace, .regs,
     .mem, .chk]
  | .quireDrainEnd _ =>
    [.boot, .bank, .cares, .pages, .serviceq, .tickets, .tenants, .trace]
  | .zeroFillEnd _ =>
    [.boot, .bank, .nextId, .leaves, .cares, .arbs, .sclk, .power, .chans, .pages, .serviceq, .tickets, .tenants,
     .trace]
  | .mbCmdTailWrite _ _ _ =>
    [.boot, .nextId, .pages, .serviceq, .tickets, .cnt, .trace, .regs]
  | .mbCplHeadWrite _ _ _ =>
    [.boot, .nextId, .pages, .serviceq, .tickets, .cnt, .regs]
  | .mbLeaseWrite _ _ =>
    [.pages, .hosts, .regs]
  | .heartbeatTimeout _ | .hostLinkDown _ =>
    [.sets, .pages, .serviceq, .tickets, .hosts, .cnt, .trace, .mem, .chk]
  | .hostLinkUp _ =>
    [.pages, .hosts]
  | .leaseExpiry _ =>
    [.sets, .pages, .hosts, .trace]
  | .handoverTimeout | .mordantWatchdogExpiry | .swrstStack _ _ | .swrstLake _ _ | .swrstXbar _ _ |
    .swrstMordant _ _ | .swrstTrace _ _ =>
    [.boot, .sets, .supply, .chans, .serviceq, .trace, .regs, .stores]
  | .trialEnd | .importWaitEnd =>
    [.boot]
  | .criticalStateError _ | .chipWarmReset | .hostrstCore _ _ =>
    [.clk, .pins, .boot, .bank, .sets, .ports, .aff, .reqs, .parts, .nextId, .leaves, .prots, .cares, .arbs,
     .sclk, .heat, .power, .supply, .chans, .drrs, .markers, .debts, .lake, .feeders, .pages, .serviceq, .tickets,
     .hosts, .tenants, .cnt, .trace, .regs, .stores, .idle, .mem, .chk]
  | .powerOnReset =>
    [.clk, .pins, .boot, .bank, .sets, .ports, .aff, .reqs, .parts, .nextId, .leaves, .prots, .cares, .arbs, .sclk,
     .heat, .power, .supply, .chans, .drrs, .markers, .debts, .lake, .feeders, .pages, .serviceq, .tickets, .hosts,
     .tenants, .cnt, .trace, .regs, .stores, .idle, .xfer, .hostMem, .mem, .chk]
  | .powerOnRelease _ | .coreResetRelease =>
    [.pins, .boot, .cnt, .trace, .stores, .mem, .chk]
  | .stackPowerEnable _ =>
    [.supply]
  | .stackPowerGood _ _ =>
    [.supply, .cnt, .trace, .stores, .mem, .chk]
  | .stackPgTimeout _ | .stackPgFall _ | .stackOvercurrent _ | .pairFaultRecovery _ =>
    [.boot, .bank, .ports, .reqs, .parts, .leaves, .prots, .cares, .arbs, .sclk, .supply, .chans, .drrs, .markers,
     .lake, .feeders, .pages, .serviceq, .tickets, .cnt, .trace, .regs, .mem, .chk]
  | .stackTraining _ _ _ =>
    [.boot, .sets, .leaves, .cares, .sclk, .power, .supply, .chans, .pages, .serviceq, .tickets, .cnt, .trace,
     .regs, .stores, .mem, .chk]
  | .quickCheck _ _ _ _ =>
    [.boot, .leaves, .cares, .sclk, .power, .supply, .chans, .pages, .serviceq, .tickets, .cnt, .trace, .stores,
     .mem, .chk]
  | .initialFill _ =>
    [.boot, .leaves, .cares, .power, .supply, .pages, .serviceq, .tickets, .mem, .chk]
  | .dwReadyRise =>
    [.pins, .boot]
  | .blockResetDrainEnd _ =>
    [.boot, .ports, .reqs, .parts, .leaves, .cares, .arbs, .sclk, .drrs, .markers, .lake, .feeders, .cnt, .trace,
     .regs, .mem, .chk]
  | .blockReturnToService _ =>
    [.pins, .boot, .nextId, .leaves, .cares, .arbs, .sclk, .power, .chans, .lake, .pages, .serviceq, .tickets,
     .cnt, .trace, .regs, .stores, .mem, .chk]
  | .debugStop =>
    [.pins]
  | .debugStopEnd =>
    [.pins, .nextId, .leaves, .cares, .arbs, .sclk, .power, .chans, .trace]
  | .recordMove =>
    [.leaves, .arbs, .sclk, .power, .chans, .trace, .mem, .chk]
  | .gapRecordWrite _ | .sampleTaken _ | .sampleTimeout _ =>
    [.cnt, .trace]
  | .portWindowStart =>
    [.ports, .regs]
  | .apertureReady =>
    [.trace]
  | .scanDone =>
    [.trace, .freeCount]
  | .open_ _ =>
    [.boot, .bank, .sets, .nextId, .pages, .serviceq, .tickets, .hosts, .cnt, .trace]
  | .close _ | .discard _ | .qalloc _ | .qjoin _ | .wunmap _ | .qrelease _ | .regionSet _ | .tintSet _ | .portSet _ |
    .policerSet _ | .gateSet _ | .profileLoad _ | .schedSet _ | .sheetSet _ | .skewSet _ | .lakeSet _ |
    .feederPortSet _ | .feederSlotSet _ | .doorbellSet _ | .wmArm _ | .maintSet _ | .powerSet _ | .oppointSet _ |
    .thermalSet _ | .calibSet _ | .calImport _ | .hostSet _ | .tenantAssign _ | .ownerHandover _ | .adopt _ |
    .fwActivate _ =>
    [.boot, .sets, .nextId, .pages, .serviceq, .tickets, .cnt]
  | .commit _ =>
    [.boot, .sets, .nextId, .pages, .serviceq, .tickets, .cnt, .trace, .mem, .chk]
  | .stateRead _ =>
    [.boot, .nextId, .pages, .serviceq, .tickets, .cnt, .freeCount]
  | .affinityReset _ =>
    [.boot, .aff, .nextId, .pages, .serviceq, .tickets, .cnt]
  | .dumpFree _ =>
    [.boot, .nextId, .lake, .pages, .serviceq, .tickets, .cnt]
  | .maintReqScrub _ | .maintReqHeal _ | .maintReqRepairRow _ | .maintReqRepairLane _ | .maintReqCapture _ =>
    [.boot, .nextId, .cares, .pages, .serviceq, .tickets, .cnt]
  | .repairPromote _ | .repairCompact _ | .repairClearStack _ | .repairReserial _ | .calBaseline _ =>
    [.boot, .nextId, .pages, .serviceq, .tickets, .cnt, .stores]
  | .repairRead _ | .calExport _ =>
    [.boot, .nextId, .pages, .serviceq, .tickets, .cnt, .xfer]
  | .thermalRelease _ =>
    [.boot, .nextId, .leaves, .arbs, .sclk, .heat, .power, .chans, .pages, .serviceq, .tickets, .cnt, .trace,
     .mem, .chk]
  | .stackFence _ =>
    [.boot, .bank, .ports, .reqs, .parts, .nextId, .leaves, .prots, .cares, .arbs, .sclk, .supply, .chans, .drrs,
     .markers, .lake, .feeders, .pages, .serviceq, .tickets, .cnt, .trace, .regs, .mem, .chk]
  | .stackFenceClear _ =>
    [.boot, .nextId, .supply, .pages, .serviceq, .tickets, .cnt]
  | .calRetrain _ =>
    [.boot, .nextId, .cares, .chans, .pages, .serviceq, .tickets, .cnt]
  | .ownerAccept _ =>
    [.boot, .nextId, .pages, .serviceq, .tickets, .hosts, .cnt]
  | .cntAllowUmap _ | .cntRevokeUmap _ | .subscribeAdd _ | .subscribeRemove _ | .dbgGrantRights _ | .dbgRevokeRights _ =>
    [.boot, .nextId, .pages, .serviceq, .tickets, .tenants, .cnt]
  | .cntArmSampling _ | .cntDisarmSampling _ | .dbgUnlock _ =>
    [.boot, .nextId, .pages, .serviceq, .tickets, .cnt, .trace]
  | .energyRead _ | .fwStage _ _ =>
    [.boot, .nextId, .pages, .serviceq, .tickets, .cnt]
  | .faultInjectFlipOne _ | .faultInjectFlipTwo _ | .faultInjectStain _ =>
    [.boot, .nextId, .leaves, .cares, .arbs, .sclk, .power, .chans, .pages, .serviceq, .tickets, .cnt, .trace,
     .mem, .chk]
  | .faultInjectTempOffset _ =>
    [.boot, .nextId, .heat, .pages, .serviceq, .tickets, .cnt, .trace, .mem, .chk]
  | .faultInjectWithholdAck _ =>
    [.boot, .nextId, .sclk, .pages, .serviceq, .tickets, .cnt, .trace, .mem, .chk]
  | .faultInjectHeaderParity _ =>
    [.boot, .ports, .nextId, .pages, .serviceq, .tickets, .cnt, .trace, .mem, .chk]
  | .faultInjectHostLost _ =>
    [.boot, .sets, .nextId, .pages, .serviceq, .tickets, .hosts, .cnt, .trace, .mem, .chk]
  | .dbgIssueCode _ =>
    [.boot, .nextId, .pages, .serviceq, .tickets, .cnt, .trace, .freeCount]
  | .dbgResume _ =>
    [.pins, .boot, .nextId, .leaves, .cares, .arbs, .sclk, .power, .chans, .pages, .serviceq, .tickets, .cnt,
     .trace]
  | .tbSnap _ _ | .loWordRead _ _ =>
    [.regs]
  | .ringRdWrite _ _ _ =>
    [.cnt, .trace, .regs]
  | .ringApSelWrite _ _ =>
    [.trace, .regs]
  | .scanCtlStart _ _ =>
    [.cares, .trace, .regs]
  | .registerWrite _ _ _ =>
    [.clk, .pins, .boot, .bank, .sets, .ports, .aff, .reqs, .parts, .nextId, .leaves, .prots, .cares, .arbs,
     .sclk, .heat, .power, .supply, .chans, .drrs, .markers, .debts, .lake, .feeders, .pages, .serviceq, .tickets,
     .hosts, .tenants, .cnt, .trace, .regs, .stores, .idle, .xfer, .hostMem, .mem, .chk]
  | .caParityError _ =>
    [.cares, .chans, .cnt, .trace, .mem, .chk]
  | .droopEnd _ _ =>
    [.sclk, .power]
  | .timebaseErrorLimit _ =>
    [.clk]

/-! ## Mailbox rows -/

/-- A mailbox row: its page, opcode, the operation test, and what its body answers. -/
structure MailRow where
  page : Nat
  op : Nat
  sub : Cmd → Bool
  body : Cmd → Nat → State → Ans

/-- The mailbox row of a command; none for the rows that name no mailbox command. -/
def Instr.mail (i : Instr) : Option MailRow :=
  match i with
  | .open_ page => some ⟨page.val, 0x01, anySub, openBody⟩
  | .close page => some ⟨page.val, 0x02, anySub, closeBody⟩
  | .commit page => some ⟨page.val, 0x03, anySub, commitBody⟩
  | .discard page => some ⟨page.val, 0x04, anySub, discardBody⟩
  | .stateRead page => some ⟨page.val, 0x05, anySub, stateReadBody⟩
  | .qalloc page => some ⟨page.val, 0x10, anySub, qallocBody⟩
  | .qjoin page => some ⟨page.val, 0x11, anySub, qjoinBody⟩
  | .wunmap page => some ⟨page.val, 0x12, anySub, wunmapBody⟩
  | .qrelease page => some ⟨page.val, 0x13, anySub, qreleaseBody⟩
  | .regionSet page => some ⟨page.val, 0x14, anySub, regionSetBody⟩
  | .tintSet page => some ⟨page.val, 0x20, anySub, tintSetBody⟩
  | .portSet page => some ⟨page.val, 0x21, anySub, portSetBody⟩
  | .affinityReset page => some ⟨page.val, 0x22, anySub, affinityResetBody⟩
  | .policerSet page => some ⟨page.val, 0x23, anySub, policerSetBody⟩
  | .gateSet page => some ⟨page.val, 0x24, anySub, gateSetBody⟩
  | .profileLoad page => some ⟨page.val, 0x25, anySub, profileLoadBody⟩
  | .schedSet page => some ⟨page.val, 0x26, anySub, settingsBody⟩
  | .sheetSet page => some ⟨page.val, 0x28, anySub, settingsBody⟩
  | .skewSet page => some ⟨page.val, 0x30, anySub, skewSetBody⟩
  | .lakeSet page => some ⟨page.val, 0x31, anySub, settingsBody⟩
  | .feederPortSet page => some ⟨page.val, 0x32, anySub, feederPortSetBody⟩
  | .feederSlotSet page => some ⟨page.val, 0x33, anySub, feederSlotSetBody⟩
  | .doorbellSet page => some ⟨page.val, 0x34, anySub, doorbellSetBody⟩
  | .wmArm page => some ⟨page.val, 0x35, anySub, wmArmBody⟩
  | .dumpFree page => some ⟨page.val, 0x36, anySub, dumpFreeBody⟩
  | .maintSet page => some ⟨page.val, 0x40, anySub, settingsBody⟩
  | .maintReqScrub page => some ⟨page.val, 0x41, (subIs 1),
      (maintBody (fun _ _ => []) (fun _ _ tk => plainReq .scrub 4 tk))⟩
  | .maintReqHeal page => some ⟨page.val, 0x41, (subIs 3),
      (maintBody Cmd.rowChecks (fun c s tk => healReq (c.flatBank s) (c.le 4 2) tk))⟩
  | .maintReqRepairRow page => some ⟨page.val, 0x41, (fun c => subIs 4 c && c.b 1 == 0),
      (maintBody Cmd.rowChecks (fun c s tk => repairReq (c.flatBank s) (c.le 4 2) 4 tk))⟩
  | .maintReqRepairLane page => some ⟨page.val, 0x41, (fun c => subIs 4 c && c.b 1 == 1),
      (maintBody (fun c _ => [argIs (decide (35 < c.b 7)) 7]) (fun c _ tk => laneReq (c.le 2 2 % 2 * 36 + c.b 7) 4 tk))⟩
  | .maintReqCapture page => some ⟨page.val, 0x41, (subIs 6),
      (maintBody (fun _ _ => []) (fun _ _ tk => plainReq .capture 4 tk))⟩
  | .repairPromote page => some ⟨page.val, 0x42, (subIs 1), promoteBody⟩
  | .repairCompact page => some ⟨page.val, 0x42, (subIs 2), compactBody⟩
  | .repairClearStack page => some ⟨page.val, 0x42, (subIs 3), clearStackBody⟩
  | .repairReserial page => some ⟨page.val, 0x42, (subIs 4), reserialBody⟩
  | .repairRead page => some ⟨page.val, 0x42, (subIs 5), repairReadBody⟩
  | .powerSet page => some ⟨page.val, 0x50, anySub, settingsBody⟩
  | .oppointSet page => some ⟨page.val, 0x51, anySub, oppointSetBody⟩
  | .thermalSet page => some ⟨page.val, 0x52, anySub, settingsBody⟩
  | .thermalRelease page => some ⟨page.val, 0x53, anySub, thermalReleaseBody⟩
  | .stackFence page => some ⟨page.val, 0x54, (subIs 1), stackFenceBody⟩
  | .stackFenceClear page => some ⟨page.val, 0x54, (subIs 2), stackFenceClearBody⟩
  | .calibSet page => some ⟨page.val, 0x58, anySub, settingsBody⟩
  | .calExport page => some ⟨page.val, 0x59, anySub, calExportBody⟩
  | .calImport page => some ⟨page.val, 0x5A, anySub, calImportBody⟩
  | .calRetrain page => some ⟨page.val, 0x5B, anySub, calRetrainBody⟩
  | .calBaseline page => some ⟨page.val, 0x5C, anySub, calBaselineBody⟩
  | .hostSet page => some ⟨page.val, 0x60, anySub, settingsBody⟩
  | .tenantAssign page => some ⟨page.val, 0x61, anySub, tenantAssignBody⟩
  | .ownerHandover page => some ⟨page.val, 0x62, anySub, ownerHandoverBody⟩
  | .ownerAccept page => some ⟨page.val, 0x63, anySub, ownerAcceptBody⟩
  | .adopt page => some ⟨page.val, 0x64, anySub, adoptBody⟩
  | .cntAllowUmap page => some ⟨page.val, 0x70, (subIs 1), (umapBody true)⟩
  | .cntRevokeUmap page => some ⟨page.val, 0x70, (subIs 2), (umapBody false)⟩
  | .cntArmSampling page => some ⟨page.val, 0x70, (subIs 3), armBody⟩
  | .cntDisarmSampling page => some ⟨page.val, 0x70, (subIs 4), disarmBody⟩
  | .energyRead page => some ⟨page.val, 0x71, anySub, energyReadBody⟩
  | .subscribeAdd page => some ⟨page.val, 0x72, (subIs 1), (subscribeBody true)⟩
  | .subscribeRemove page => some ⟨page.val, 0x72, (subIs 0), (subscribeBody false)⟩
  | .fwStage page signed => some ⟨page.val, 0x80, anySub, (fwStageBody signed)⟩
  | .fwActivate page => some ⟨page.val, 0x81, anySub, fwActivateBody⟩
  | .faultInjectFlipOne page => some ⟨page.val, 0x90, (subIs 1), (injectBody false 1)⟩
  | .faultInjectFlipTwo page => some ⟨page.val, 0x90, (subIs 2), (injectBody false 2)⟩
  | .faultInjectStain page => some ⟨page.val, 0x90, (subIs 3), (injectBody true 0)⟩
  | .faultInjectTempOffset page => some ⟨page.val, 0x90, (subIs 4),
      (unitBody 16 [(10, 4)] (fun c => [argIs (c.le 10 2 == 0) 10]) (fun c s => let v := c.le 12 2; let t : Int := if v < 2 ^ 15 then v else (v : Int) - 2 ^ 16; s.setHeat (c.le 2 2) { s.heatOf (c.le 2 2) with injTemp := t, injRounds := c.le 10 2 }))⟩
  | .faultInjectWithholdAck page => some ⟨page.val, 0x90, (subIs 5),
      (unitBody 16 [] (fun _ => []) (fun c s => s.setSck (c.le 2 2) { s.sck (c.le 2 2) with withholdAck := true }))⟩
  | .faultInjectHeaderParity page => some ⟨page.val, 0x90, (subIs 6),
      (unitBody 128 [] (fun _ => []) (fun c s => s.setPort (c.le 2 2) { s.port (c.le 2 2) with injectParity := true }))⟩
  | .faultInjectHostLost page => some ⟨page.val, 0x90, (subIs 7),
      (unitBody 8 [] (fun _ => []) (fun c s => if (s.host (c.le 2 2)).lost then s else s.hostLost (c.le 2 2)))⟩
  | .dbgIssueCode page => some ⟨page.val, 0x91, (subIs 1), issueCodeBody⟩
  | .dbgGrantRights page => some ⟨page.val, 0x91, (subIs 2), (rightsBody true)⟩
  | .dbgRevokeRights page => some ⟨page.val, 0x91, (subIs 3), (rightsBody false)⟩
  | .dbgUnlock page => some ⟨page.val, 0x92, anySub, dbgUnlockBody⟩
  | .dbgResume page => some ⟨page.val, 0x93, anySub, dbgResumeBody⟩
  | .rd _ _ | .wr _ _ _ | .wrm _ _ _ | .accu _ _ _ | .acco _ _ _ | .gath _ _ | .mark _ _ _ | .fence _ _ |
    .feltSpill _ _ _ | .feltFillAck _ _ _ | .feltFillAckTimeout _ _ | .responseCreditReturn _ _ _ |
    .responseBeatSend _ | .urgLevelChange _ _ | .fdGo _ _ | .feederPageReadIssue _ | .feederBeat _ _ |
    .feederStallTimeout _ | .portWatchdogExpiry _ | .portEdgeResetRelease _ | .partGrant _ | .grantComplete _ |
    .lakeHoldTimeout _ | .urgencyCrossing _ | .deadlineSweep _ | .columnRun _ | .rowCommand _ | .idleClose _ |
    .directionTurn _ | .budgetWindow _ | .readDataArrival _ _ | .refreshTick _ | .refpbIssue _ |
    .rowCounterAgeing _ | .mitigation _ | .spillSweep _ | .spillSweepForce _ | .maintenanceStart _ _ |
    .maintenanceEnd _ _ | .retrainStep _ | .retrainStepAbandon _ | .retrainDone _ _ | .calibrationApply _ |
    .marginEvaluation _ _ _ | .loadWindow _ | .calenderVisit _ _ | .calenderEscalate _ | .heal _ _ |
    .rowRepair _ _ _ | .laneRepair _ _ | .repairMapStore | .nvRecordStore _ _ | .mergeEntryTimeout _ |
    .accuUpdate _ | .accoTileRetire _ | .accoTileTimeout _ | .watermarkClose _ | .markerRefill _ _ | .debtCharge |
    .gateRelease _ | .drrRelease _ | .powerLadderStep | .housekeepingRound _ | .thermalRestart _ | .droop _ |
    .droopLong _ | .quirePark _ | .selfRefreshEntry _ | .domainGateOff _ | .domainPowerGood _ | .pllLocked _ |
    .pllLockLoss _ _ | .refClkLoss | .refClkRestored | .ntLockLoss | .frequencySwitchEnd _ | .regulatorAck _ |
    .regulatorAckTimeout _ | .rollbackAckTimeout _ | .sheetBoundary _ | .quireDrainEnd _ | .zeroFillEnd _ |
    .mbCmdTailWrite _ _ _ | .mbCplHeadWrite _ _ _ | .mbLeaseWrite _ _ | .heartbeatTimeout _ | .hostLinkDown _ |
    .hostLinkUp _ | .leaseExpiry _ | .handoverTimeout | .mordantWatchdogExpiry | .trialEnd | .criticalStateError _ |
    .powerOnReset | .powerOnRelease _ | .chipWarmReset | .coreResetRelease | .stackPowerEnable _ |
    .stackPowerGood _ _ | .stackPgTimeout _ | .stackPgFall _ | .stackOvercurrent _ | .pairFaultRecovery _ |
    .stackTraining _ _ _ | .importWaitEnd | .quickCheck _ _ _ _ | .initialFill _ | .dwReadyRise |
    .blockResetDrainEnd _ | .blockReturnToService _ | .debugStop | .debugStopEnd | .recordMove | .gapRecordWrite _ |
    .portWindowStart | .sampleTaken _ | .sampleTimeout _ | .apertureReady | .scanDone | .swrstStack _ _ |
    .swrstLake _ _ | .swrstXbar _ _ | .swrstMordant _ _ | .swrstTrace _ _ | .hostrstCore _ _ | .tbSnap _ _ |
    .ringRdWrite _ _ _ | .ringApSelWrite _ _ | .scanCtlStart _ _ | .registerWrite _ _ _ | .caParityError _ |
    .droopEnd _ _ | .timebaseErrorLimit _ | .loWordRead _ _ => none

/-! ## Requests -/

/-- The header and payload that a request row brings to a port, and whether the port is a Felt port. -/
def Instr.request (i : Instr) : Option (Nat × BitVec 128 × List Beat × Bool) :=
  match i with
  | .rd p h | .gath p h | .fence p h => some (p.val, h, [], false)
  | .wr p h d | .wrm p h d | .accu p h d | .acco p h d | .mark p h d => some (p.val, h, d, false)
  | .feltSpill f h d => some (136 + f.val, h, d, true)
  | .feltFillAck _ _ _ | .feltFillAckTimeout _ _ | .responseCreditReturn _ _ _ | .responseBeatSend _ |
    .urgLevelChange _ _ | .fdGo _ _ | .feederPageReadIssue _ | .feederBeat _ _ | .feederStallTimeout _ |
    .portWatchdogExpiry _ | .portEdgeResetRelease _ | .partGrant _ | .grantComplete _ | .lakeHoldTimeout _ |
    .urgencyCrossing _ | .deadlineSweep _ | .columnRun _ | .rowCommand _ | .idleClose _ | .directionTurn _ |
    .budgetWindow _ | .readDataArrival _ _ | .refreshTick _ | .refpbIssue _ | .rowCounterAgeing _ | .mitigation _ |
    .spillSweep _ | .spillSweepForce _ | .maintenanceStart _ _ | .maintenanceEnd _ _ | .retrainStep _ |
    .retrainStepAbandon _ | .retrainDone _ _ | .calibrationApply _ | .marginEvaluation _ _ _ | .loadWindow _ |
    .calenderVisit _ _ | .calenderEscalate _ | .heal _ _ | .rowRepair _ _ _ | .laneRepair _ _ | .repairMapStore |
    .nvRecordStore _ _ | .mergeEntryTimeout _ | .accuUpdate _ | .accoTileRetire _ | .accoTileTimeout _ |
    .watermarkClose _ | .markerRefill _ _ | .debtCharge | .gateRelease _ | .drrRelease _ | .powerLadderStep |
    .housekeepingRound _ | .thermalRestart _ | .droop _ | .droopLong _ | .quirePark _ | .selfRefreshEntry _ |
    .domainGateOff _ | .domainPowerGood _ | .pllLocked _ | .pllLockLoss _ _ | .refClkLoss | .refClkRestored |
    .ntLockLoss | .frequencySwitchEnd _ | .regulatorAck _ | .regulatorAckTimeout _ | .rollbackAckTimeout _ |
    .sheetBoundary _ | .quireDrainEnd _ | .zeroFillEnd _ | .mbCmdTailWrite _ _ _ | .mbCplHeadWrite _ _ _ |
    .mbLeaseWrite _ _ | .heartbeatTimeout _ | .hostLinkDown _ | .hostLinkUp _ | .leaseExpiry _ | .handoverTimeout |
    .mordantWatchdogExpiry | .trialEnd | .criticalStateError _ | .powerOnReset | .powerOnRelease _ | .chipWarmReset |
    .coreResetRelease | .stackPowerEnable _ | .stackPowerGood _ _ | .stackPgTimeout _ | .stackPgFall _ |
    .stackOvercurrent _ | .pairFaultRecovery _ | .stackTraining _ _ _ | .importWaitEnd | .quickCheck _ _ _ _ |
    .initialFill _ | .dwReadyRise | .blockResetDrainEnd _ | .blockReturnToService _ | .debugStop | .debugStopEnd |
    .recordMove | .gapRecordWrite _ | .portWindowStart | .sampleTaken _ | .sampleTimeout _ | .apertureReady |
    .scanDone | .open_ _ | .close _ | .commit _ | .discard _ | .stateRead _ | .qalloc _ | .qjoin _ | .wunmap _ |
    .qrelease _ | .regionSet _ | .tintSet _ | .portSet _ | .affinityReset _ | .policerSet _ | .gateSet _ |
    .profileLoad _ | .schedSet _ | .sheetSet _ | .skewSet _ | .lakeSet _ | .feederPortSet _ | .feederSlotSet _ |
    .doorbellSet _ | .wmArm _ | .dumpFree _ | .maintSet _ | .maintReqScrub _ | .maintReqHeal _ |
    .maintReqRepairRow _ | .maintReqRepairLane _ | .maintReqCapture _ | .repairPromote _ | .repairCompact _ |
    .repairClearStack _ | .repairReserial _ | .repairRead _ | .powerSet _ | .oppointSet _ | .thermalSet _ |
    .thermalRelease _ | .stackFence _ | .stackFenceClear _ | .calibSet _ | .calExport _ | .calImport _ |
    .calRetrain _ | .calBaseline _ | .hostSet _ | .tenantAssign _ | .ownerHandover _ | .ownerAccept _ | .adopt _ |
    .cntAllowUmap _ | .cntRevokeUmap _ | .cntArmSampling _ | .cntDisarmSampling _ | .energyRead _ | .subscribeAdd _ |
    .subscribeRemove _ | .fwStage _ _ | .fwActivate _ | .faultInjectFlipOne _ | .faultInjectFlipTwo _ |
    .faultInjectStain _ | .faultInjectTempOffset _ | .faultInjectWithholdAck _ | .faultInjectHeaderParity _ |
    .faultInjectHostLost _ | .dbgIssueCode _ | .dbgGrantRights _ | .dbgRevokeRights _ | .dbgUnlock _ | .dbgResume _ |
    .swrstStack _ _ | .swrstLake _ _ | .swrstXbar _ _ | .swrstMordant _ _ | .swrstTrace _ _ | .hostrstCore _ _ |
    .tbSnap _ _ | .ringRdWrite _ _ _ | .ringApSelWrite _ _ | .scanCtlStart _ _ | .registerWrite _ _ _ |
    .caParityError _ | .droopEnd _ _ | .timebaseErrorLimit _ | .loWordRead _ _ => none

end Sys2Proof

namespace Sys2Proof.Machine

/-- What a row's body answers to the command at the head of its page, taken under the next ticket: the checks of R462 that
every command has come first. -/
def State.replyTo (s : State) (m : MailRow) (c : Cmd) : Ans :=
  let (s, tk) := s.take m.page c
  match s.checkFirst c with
  | some (st, pos, step) => .fail st pos step none
  | none => if c.strayTarget then .fail stBadArg 0xFFFF 6 none else m.body c tk s

/-- A mailbox command is served: Mordant serves, and the head of the service queue is a command of the row (R445). -/
def State.serves (s : State) (i : Instr) (m : MailRow) (c : Cmd) : Prop :=
  i.mail = some m ∧ s.serving = true ∧ s.headCommand = some (m.page, c) ∧ c.opcode = m.op ∧ m.sub c = true

/-- A command is served and passes its checks; staged items find room in the page's open change set (R462). -/
def State.accepts (s : State) (i : Instr) (c : Cmd) : Prop :=
  ∃ m, s.serves i m c ∧ match s.replyTo m c with
    | .fail _ _ _ _ => False
    | .staged items _ t => (t.join m.page s.nextId items).isLeft = true
    | .ok _ _ => True
    | .wait _ => True

/-- A command is executed: it answers a next state, of which P holds. -/
def Completes (i : Instr) (s : State) (P : State → Prop) : Prop := ∃ t, exec i s = .next t ∧ P t

/-- A stage is a hold of Lake's that has lasted LAKE_HOLD (R280). -/
def State.holdOver (s : State) (k : Nat) (g : Stage) : Bool :=
  match g with
  | .lakeHeld t => decide (t + us (s.setting 0x3102 k) ≤ s.clk.ticks)
  | _ => false

/-- Stored words with the bits that the stack flips on a read: 64 data bits, then the check byte. -/
def flipped (raw : List (Word64 × Byte)) (flips : List (BitVec 72)) : List (Word64 × Byte) :=
  raw.zipIdx.map (fun ((d, c), i) =>
    let f := (flips[i]?).getD 0
    (d ^^^ BitVec.ofNat 64 f.toNat, c ^^^ BitVec.ofNat 8 (f.toNat / 2 ^ 64)))

/-- A request's payload has the beats its operation and region ask for, and the last one marks exactly the bursts left
(R11, R255). -/
def State.dataComplete (s : State) (p : Nat) (h : Hdr) (d : List Beat) : Prop :=
  let n := (s.passedReq p h).need / 32
  d.length = (if writeType h.op then (n + 7) / 8 else 0) ∧ (writeType h.op = true → lastDvldOk d n = true)

/-- A request's payload is whole when its header comes, or it starts to wait for its data: no beat came, its payload has one at
least, and every open request of the port is older and lacks a beat as well (R10, R255). -/
def State.laneFits (s : State) (p : Nat) (h : Hdr) (d : List Beat) : Prop :=
  (s.openReq p = none ∧ s.dataComplete p h d) ∨
  (d = [] ∧ (∀ x ∈ s.reqs, x.2.port = p → x.2.phase = .dataOpen → x.1 < s.nextId ∧ x.2.beats.length < x.2.wantBeats) ∧
    (writeType h.op = true → 0 < (s.passedReq p h).wantBeats))

/-- The open change set of a page ends with items staged under a ticket. -/
def State.hasStaged (t : State) (page tk : Nat) (items : List Staged) : Prop :=
  ∃ x, t.openSet page = some x ∧ (items.map (fun w => (⟨w, tk⟩ : Item))) <:+ x.items

/-- The next entry of a page's completion ring is the final completion of a command (R437, Table 14.8): nothing waited for
the ring before it, and the head pointer is one of the ring's. -/
def State.answered (s t : State) (page : Nat) (c : Cmd) (st : Nat) (result : List Nat) (bulk : Bool) : Prop :=
  (s.page page).waiting = [] → (s.page page).cplHead < 64 →
    ∃ e, Tab.find? (t.page page).cplRing ((s.page page).cplTail % 32) = some e ∧ e.event = false ∧
      e.bits = cplBits c.mmp2 c.ctag (c.opcode % 65536) st 0 true false bulk result

/-- A command is answered OK with a result, in the layout of R460: what does not fit RESULT goes to the bulk area. -/
def State.answeredOk (s t : State) (page : Nat) (c : Cmd) (result : List Nat) : Prop :=
  s.answered t page c stOk (resultOf c.mmp2 result).1 (resultOf c.mmp2 result).2.isSome

end Sys2Proof.Machine
end

