-- ==== Sys2Proof/Certificates/Slice0/Obligations.lean ====
section
/-! DEFINITION. The statements about the machine: the step and the whole machine, then the commands, family by family. -/

open Sys2Proof Sys2Proof.Machine
/-! ## The step and the whole machine -/

/-- The command at the front of the queue runs on the state with the queue's rest. -/
def Obligations.StepRunsTheFrontCommand : Prop :=
  ∀ (s : State) (c : Instr) (rest : List Instr), s.pending = c :: rest → step s = exec c { s with pending := rest }

/-- With nothing pending a step is one REF_CLK period: outside PORST_N the clock advances, under PORST_N nothing does, and
the stacks' words stay. The tick in place of idling is the model's choice (assumption 2). -/
def Obligations.EmptyQueueIsOneTick : Prop :=
  ∀ s : State, s.pending = [] → ∃ t, step s = .next t ∧ t.pending = [] ∧ t.mem = s.mem ∧ t.chk = s.chk ∧
    (s.pins.porst = true → t = s) ∧ (s.pins.porst = false → t.clk = s.clk.advance)

/-- Every command completes: no meaning faults or refuses. -/
def Obligations.EveryCommandCompletes : Prop :=
  ∀ (s : State), ∃ t, step s = .next t

/-- A step leaves the stacks' data and check words, the transfer area and host storage in canonical form. -/
def Obligations.StepKeepsMemoryCanonical : Prop :=
  ∀ s t : State, step s = .next t → Memory.wf s = true → Memory.wf t = true

/-- R41: DW_THR_LEVEL is 0 while DW_THR_REQ is low, in every state a step reaches from one in which it is; so a step changes
the level only where the request is high before it or after it. -/
def Obligations.ThrottleLevelFollowsRequest : Prop :=
  ∀ s t : State, step s = .next t → s.thrRule →
    t.thrRule ∧ (t.pins.thrLevel ≠ s.pins.thrLevel → s.pins.thrReq = true ∨ t.pins.thrReq = true)

/-- At reset the memories are in canonical form and DW_THR_LEVEL is 0 (both invariants hold there). -/
def Obligations.ResetMeetsTheRules : Prop :=
  Memory.wf State.reset = true ∧ State.reset.thrRule

/-- R47: of all commands only a core reset, or PORST_N, lowers DW_READY; an idle tick never does. -/
def Obligations.ReadyFallsOnlyWithCoreReset : Prop :=
  ∀ s t : State, step s = .next t → s.pins.ready = true → t.pins.ready = false →
    ∃ c rest, s.pending = c :: rest ∧ match c with
      | .powerOnReset | .chipWarmReset | .criticalStateError _ | .hostrstCore _ _ => True
      | .registerWrite _ off _ => off.toNat = 0x104
      | _ => False

/-- R222: the settings and the records listed in SameRecords change at a sheet boundary, or are cleared by a power-on or a
core reset; no other command and no tick changes them. -/
def Obligations.RecordsChangeOnlyAtABoundary : Prop :=
  ∀ (s t : State), step s = .next t → SameRecords s.bank t.bank ∨
    ∃ c rest, s.pending = c :: rest ∧ match c with
      | .sheetBoundary _ | .powerOnReset | .chipWarmReset | .criticalStateError _ | .hostrstCore _ _ => True
      | .registerWrite _ off _ => off.toNat = 0x104
      | _ => False

/-- DW_THERMTRIP latches: a step leaves it set unless PORST_N is asserted. -/
def Obligations.ThermtripLatches : Prop :=
  ∀ s t : State, step s = .next t → s.pins.thermtrip = true → t.pins.thermtrip = true ∨
    ∃ rest, s.pending = .powerOnReset :: rest

/-- The frame of every command: the parts of the state outside its list are the same in its next state. -/
def Obligations.CommandsTouchOnlyTheirParts : Prop :=
  ∀ (i : Instr) (s t : State), exec i s = .next t → ∀ f, f ∉ i.touches → f.same s t

/-! ## Ports -/

/-- Requests (RD, WR, WRM, ACCU, ACCO, GATH, MARK, FENCE and FELT_SPILL): one that passes the checks of R21 is accepted. It
takes the next identity, and its record holds the header's fields, its data and its arrival time. Its data lane is free and
its data complete, or it brings no beat and waits behind the requests that still lack theirs (R10). -/
def Obligations.AcceptedRequestsAreRecorded : Prop :=
  ∀ (i : Instr) (s : State) (p : Nat) (hb : BitVec 128) (d : List Beat) (felt : Bool),
    i.request = some (p, hb, d, felt) → (s.port p).live = true → 0 < (s.port p).hcred → d.length ≤ (s.port p).dcred →
    (s.port p).injectParity = false → hparOk hb = true → s.checkReq p (hdrOf hb) felt = none →
    s.laneFits p (hdrOf hb) d →
    Completes i s fun t => t.nextId = s.nextId + 1 ∧ ∃ r, t.req? s.nextId = some r ∧ r.port = p ∧ r.op = (hdrOf hb).op ∧
      r.ten = (hdrOf hb).ten ∧ r.sid = (hdrOf hb).sid ∧ r.tag = (hdrOf hb).tag ∧ r.addr = (hdrOf hb).addr ∧
      r.len = (hdrOf hb).len ∧ r.beats = d ∧ r.arrival = s.now

/-- R29: a request past check 5 on a fabric port teaches the stream-affinity table its SID and port, by the procedure of the
rule, whether or not it passes check 6. -/
def Obligations.AcceptedRequestsTeachAffinity : Prop :=
  ∀ (i : Instr) (s : State) (p : Nat) (hb : BitVec 128) (d : List Beat),
    i.request = some (p, hb, d, false) → p < 128 → (s.port p).live = true → (s.port p).isolated = false →
    0 < (s.port p).hcred → d.length ≤ (s.port p).dcred → (s.port p).injectParity = false → hparOk hb = true →
    s.pins.ready = true → (hdrOf hb).op < 8 → (hdrOf hb).malformed = false →
    s.laneFits p (hdrOf hb) d →
    Completes i s fun t => t.aff = learn s.aff (hdrOf hb).sid p

/-- R21: a request that fails a check after its header parity is answered with the code of the first failure, one header with
LAST and its TAG at the end of the port's response lane. Beats that came with it go to what older requests of its port still
lack (R10); where they lack none, nothing more happens. -/
def Obligations.FailedChecksAreAnswered : Prop :=
  ∀ (i : Instr) (s : State) (p : Nat) (hb : BitVec 128) (d : List Beat) (felt : Bool) (resp : Nat),
    i.request = some (p, hb, d, felt) → (s.port p).live = true → (s.port p).injectParity = false → hparOk hb = true →
    ((s.port p).isolated = false → 0 < (s.port p).hcred ∧ d.length ≤ (s.port p).dcred) →
    s.checkReq p (hdrOf hb) felt = some resp →
    Completes i s fun t => ∃ (u : State) (b : RespBeat), (u.port p).lane = (s.port p).lane ++ [b] ∧ b.resp = resp ∧
      b.tag = (hdrOf hb).tag ∧ b.last = true ∧ b.hasData = false ∧ b.sid = (hdrOf hb).sid ∧ b.ten = (hdrOf hb).ten ∧
      t = (if (s.port p).isolated then u else u.feedOlder p d) ∧
      ((s.port p).isolated = true ∨ d = [] ∨ s.openReq p = none → t = u)

/-- R22: a header that fails its parity isolates the port, whose request credits are withdrawn and whose entries leave the
stream-affinity table. With no gather to end, no request takes an identity and the port's isolation event is set. -/
def Obligations.BadParityIsolates : Prop :=
  ∀ (i : Instr) (s : State) (p : Nat) (hb : BitVec 128) (d : List Beat) (felt : Bool),
    i.request = some (p, hb, d, felt) → (s.port p).live = true → (s.port p).isolated = false → 0 < (s.port p).hcred →
    d.length ≤ (s.port p).dcred → hparOk hb = false →
    Completes i s fun t => (t.port p).isolated = true ∧ (t.port p).hcred = 0 ∧ (t.port p).dcred = 0 ∧
      t.aff = forget s.aff p ∧ (s.lake.gathers = [] → t.nextId = s.nextId ∧
        t.regs.isoEvt = s.regs.isoEvt ||| 2 ^ (if p < 128 then p else 128 + (p - 136)))

/-- Port events: credits come back and restart the watchdog (R25, R185); the first beat of a lane leaves and takes its
credits, or as a closing header of an isolated port none, unless an earlier response of its stream must go first (R17, R26,
R188); the urgency level a port drives raises its waiting entries (R28); a watchdog at PWD_T isolates its port (R186); a
fabric or Felt edge that leaves reset holds the initial credits, and a feeder edge is live (R24). -/
def Obligations.PortEventsComplete : Prop :=
  (∀ (p : Fin 138) (n m : Nat) (s : State), (s.port p.val).live = true →
    exec (.responseCreditReturn p n m) s = .next (s.setPort p.val { s.port p.val with
      rh := (s.port p.val).rh + n, rd := (s.port p.val).rd + m, timer := 0 })) ∧
  (∀ (p : Fin 138) (s : State) (b : RespBeat) (rest : List RespBeat), (s.port p.val).lane = b :: rest →
    (b.free = true ∨ ((s.port p.val).live = true ∧ 1 ≤ (s.port p.val).rh ∧ (b.hasData = true → 1 ≤ (s.port p.val).rd))) →
    s.outOfTurn p.val [] b = false →
    Completes (.responseBeatSend p) s fun t => rest <+: (t.port p.val).lane ∧ (t.port p.val).out = [b] ∧
      (t.port p.val).rh = (s.port p.val).rh - (if b.free then 0 else 1) ∧
      (t.port p.val).rd = (s.port p.val).rd - (if b.hasData && !b.free then 1 else 0)) ∧
  (∀ (p : Fin 138) (s : State), (∀ b ∈ (s.port p.val).lane, b.free = false) → (s.port p.val).rh = 0 →
    exec (.responseBeatSend p) s = .next s) ∧
  (∀ (p : Fin 128) (lvl : Fin 4) (s : State), Completes (.urgLevelChange p lvl) s fun t =>
    t.ports = (s.setPort p.val { s.port p.val with urg := lvl.val }).ports ∧
    ∀ leaf e, e ∈ (t.leaf leaf).queue → e.port = p.val → (t.port p.val).urg ≤ e.urg) ∧
  (∀ (p : Fin 138) (s : State), s.swapDue = false → s.watchdogRuns p.val = true → s.pwdT p.val ≤ (s.port p.val).timer →
    Completes (.portWatchdogExpiry p) s fun t => (t.port p.val).isolated = true) ∧
  (∀ (p : Fin 138) (s : State), (s.port p.val).live = false → s.boot.coreReset = false → (p.val < 128 ∨ 136 ≤ p.val) →
    Completes (.portEdgeResetRelease p) s fun t => (t.port p.val).live = true ∧ (t.port p.val).hcred = 128 ∧
      (t.port p.val).dcred = 256 ∧ (t.port p.val).rh = 0 ∧ (t.port p.val).rd = 0) ∧
  (∀ (p : Fin 138) (s : State), (s.port p.val).live = false → s.boot.coreReset = false → 128 ≤ p.val → p.val < 136 →
    exec (.portEdgeResetRelease p) s = .next (s.setPort p.val { s.port p.val with live := true }))

/-- Feeder ports: FD_GO starts the stream of a valid slot (R274) and is rejected while one runs (R33); a page read takes the
next page, as a request of the port for it (R275); FD_RDY is sampled after the pages that have come are in the feed buffer,
and a beat takes 16 bursts of it only with every enabled array ready, with SOS on the first and EOS on the last, which ends
the stream (R32, R274); a stalled stream ends and frees its slot (R189). -/
def Obligations.FeederEventsComplete : Prop :=
  (∀ (f slot : Fin 8) (s : State), s.pins.ready = true → (s.feeder f.val).stream = none →
    (s.bank.feedSlot (f.val * 8 + slot.val)).valid = true → (s.bank.feedPort f.val).fen = true →
    Completes (.fdGo f slot) s fun t => ∃ x, (t.feeder f.val).stream = some x ∧ x.slot = slot.val ∧
      x.rec_ = s.bank.feedSlot (f.val * 8 + slot.val) ∧ x.tGo = s.now ∧ x.page = 0 ∧ x.issued = 0 ∧ x.buffer = []) ∧
  (∀ (f slot : Fin 8) (s : State), s.pins.ready = true → (s.feeder f.val).stream.isSome = true →
    (s.feeder f.val).reject < 0xFFFFFFFF →
    exec (.fdGo f slot) s = .next (s.setFeeder f.val { s.feeder f.val with reject := (s.feeder f.val).reject + 1 })) ∧
  (∀ (f : Fin 8) (s : State) (x : Stream) (w : Window) (a : Nat), (s.feeder f.val).stream = some x →
    x.issued ≤ x.rec_.slen → x.buffer.length * 32 + (x.issued - x.page) * x.pageBytes + x.pageBytes ≤ 262144 →
    s.placeIn x.snap (x.rec_.saddr + 4096 * x.issued) = some (w, a) →
    Completes (.feederPageReadIssue f) s fun t => t.nextId = s.nextId + 1 ∧
      t.feeders = (s.setFeeder f.val { s.feeder f.val with stream := some { x with issued := x.issued + 1 } }).feeders ∧
      ∃ r, t.req? s.nextId = some r ∧ r.port = 128 + f.val ∧ r.ten = x.rec_.ten ∧
        r.addr = x.rec_.saddr + 4096 * x.issued ∧ r.need = x.pageBytes) ∧
  (∀ (f : Fin 8) (rdy : BitVec 4) (s u : State) (x : Stream),
    u = State.feedPages 64 (s.setFeeder f.val { s.feeder f.val with rdy := rdy.toNat, out := none }) f.val →
    (u.feeder f.val).stream = some x → rdy.toNat &&& x.rec_.aen = x.rec_.aen → 16 ≤ x.buffer.length →
    Completes (.feederBeat f rdy) s fun t => (t.feeder f.val).stall = 0 ∧
      (∃ b, (t.feeder f.val).out = some b ∧ b.aen = x.rec_.aen ∧ (b.sos = true ↔ x.beats = 0) ∧
        (b.eos = true ↔ x.total ≤ (x.beats + 1) * 512)) ∧
      if x.total ≤ (x.beats + 1) * 512 then (t.feeder f.val).stream = none
      else ∃ y, (t.feeder f.val).stream = some y ∧ y.buffer = x.buffer.drop 16 ∧ y.beats = x.beats + 1) ∧
  (∀ (f : Fin 8) (rdy : BitVec 4) (s u : State) (x : Stream),
    u = State.feedPages 64 (s.setFeeder f.val { s.feeder f.val with rdy := rdy.toNat, out := none }) f.val →
    (u.feeder f.val).stream = some x → rdy.toNat &&& x.rec_.aen ≠ x.rec_.aen →
    Completes (.feederBeat f rdy) s fun t => ∃ y, t.feeders = (u.setFeeder f.val { u.feeder f.val with stream := some y }).feeders ∧
      y.buffer = x.buffer ∧ y.beats = x.beats) ∧
  (∀ (f : Fin 8) (s : State) (x : Stream), (s.feeder f.val).stream = some x → s.pwdT (128 + f.val) ≤ (s.feeder f.val).stall →
    Completes (.feederStallTimeout f) s fun t =>
      t.feeders = (s.setFeeder f.val { s.feeder f.val with stream := none, stall := 0, out := none }).feeders ∧
      t.bank.feedSlots = Tab.set FeederSlot.none s.bank.feedSlots (f.val * 8 + x.slot) FeederSlot.none)

/-- R36, R189: a fill that is acknowledged, or left unacknowledged for PWD_T, ends: its tag is freed; its gather counts it
and every gather goes on. -/
def Obligations.FillsEnd : Prop :=
  (∀ (f : Fin 2) (tag : Fin 1024) (ok : Bool) (s : State) (x : Fill),
    Tab.find? (s.port (136 + f.val)).fills tag.val = some x → Tab.find? s.lake.gathers x.key = none →
    Completes (.feltFillAck f tag ok) s fun t => t.lake = s.lake ∧
      t.ports = (s.setPort (136 + f.val) { s.port (136 + f.val) with
        fills := Tab.erase (s.port (136 + f.val)).fills tag.val }).ports) ∧
  (∀ (f : Fin 2) (tag : Fin 1024) (ok : Bool) (s : State) (x : Fill) (g : Gather),
    Tab.find? (s.port (136 + f.val)).fills tag.val = some x → Tab.find? s.lake.gathers x.key = some g →
    Completes (.feltFillAck f tag ok) s fun t => ∃ u : State,
      u.lake = { s.lake with gathers := Tab.put s.lake.gathers x.key { g with
        fillsOut := g.fillsOut - 1, errFills := g.errFills + (!ok).toNat } } ∧
      u.ports = (s.setPort (136 + f.val) { s.port (136 + f.val) with
        fills := Tab.erase (s.port (136 + f.val)).fills tag.val }).ports ∧
      t = u.lake.gathers.foldl (fun v (k, _) => State.gatherGo 65537 v k) u) ∧
  (∀ (f : Fin 2) (tag : Fin 1024) (s : State) (x : Fill),
    Tab.find? (s.port (136 + f.val)).fills tag.val = some x → x.since + s.pwdT (136 + f.val) ≤ s.clk.ticks →
    exec (.feltFillAckTimeout f tag) s = exec (.feltFillAck f tag false) s)

/-- R33 and Table 1.8: with Dweten ready, an FD_GO for a slot that holds no stream, or for a port whose stream is still
running, starts nothing and counts in FD_REJECT, which saturates (model's choice); not ready, it changes nothing. -/
def Obligations.RejectedFeedStartsCount : Prop :=
  ∀ (f slot : Fin 8) (s : State),
    (s.pins.ready = false → exec (.fdGo f slot) s = .next s) ∧
    (s.pins.ready = true → (s.feeder f.val).stream.isSome = true ∨
        (s.bank.feedSlot (f.val * 8 + slot.val)).valid = false →
      Completes (.fdGo f slot) s fun t => (t.feeder f.val).stream = (s.feeder f.val).stream ∧
        (t.feeder f.val).reject = (if (s.feeder f.val).reject < 0xFFFFFFFF then (s.feeder f.val).reject + 1 else 0xFFFFFFFF) ∧
        ∀ g, g ≠ f.val → t.feeder g = s.feeder g)

/-- R30: a notification goes to the port of a settled entry and to both ports of a flapping one. Without an entry it is not
sent, NTF_DROP counts, and a log record of cause 0x43 is written where the log has room for it. -/
def Obligations.NotificationsFollowTheAffinity : Prop :=
  ∀ (s t : State) (kind sid ten : Nat) (body : List Nat), t = s.notify kind sid ten body →
    (∀ e, Tab.find? s.aff sid = some e → e.flap = false →
      (t.port e.port).lane = (s.port e.port).lane ++ [ntfBeat kind sid ten body] ∧
      ∀ p, p ≠ e.port → t.port p = s.port p) ∧
    (∀ e, Tab.find? s.aff sid = some e → e.flap = true → e.alt ≠ e.port →
      (t.port e.port).lane = (s.port e.port).lane ++ [ntfBeat kind sid ten body] ∧
      (t.port e.alt).lane = (s.port e.alt).lane ++ [ntfBeat kind sid ten body] ∧
      ∀ p, p ≠ e.port → p ≠ e.alt → t.port p = s.port p) ∧
    (Tab.find? s.aff sid = none → t.ports = s.ports ∧
      (Tab.num s.cnt.global 8 + 1 < 2 ^ 48 → Tab.num t.cnt.global 8 = Tab.num s.cnt.global 8 + 1) ∧
      (Tab.find? s.trace.rate 0 = none → 512 ≤ s.ringFree 1 → s.bufferBytes + 64 ≤ 65536 →
        ∃ r, t.trace.buffer.getLast? = some r ∧ r.ring = 1 ∧ r.kind = 0x12 ∧ (r.body.drop 8).take 2 = [0x43, 0]))

/-! ## Addresses -/

/-- R53: the member index is A[8+k-1:8] XOR A[20+k-1:20], the leaf is that member, and the leaf-local address keeps A[7:0]
and drops the k interleave bits; for k = 0 the index is 0 and the address A itself. For every legal k the map loses nothing:
the quire-relative address comes back from the index and the leaf-local address. -/
def Obligations.AddressesMapToLeaves : Prop :=
  ∀ a base k L : Nat,
    memberIndex a k < 2 ^ k ∧
    (∀ j, j < k → (memberIndex a k).testBit j = (a.testBit (8 + j) ^^ a.testBit (20 + j))) ∧
    leafOf a base k L = member base k (memberIndex a k) L ∧
    (∀ j, j < 8 → (leafLocal a k).testBit j = a.testBit j) ∧
    (∀ j, (leafLocal a k).testBit (8 + j) = a.testBit (8 + k + j)) ∧
    memberIndex a 0 = 0 ∧ leafLocal a 0 = a ∧
    (k ≤ 10 → quireRel (leafLocal a k) (memberIndex a k) k = a)

/-! ## The stack ingress arbiter -/

/-- The arbiter of a stack: a grant goes to the one admissible candidate that Lake lets pass, and one with data waits for its
lanes, while a read is admitted at once (R172-R174, R177, R279); where a part has moved its last piece, or is the only one
with a piece left and moves it, its grant completes and a request whose data is its own is answered OK (R174, R179); a hold
of LAKE_HOLD ends with RETRY (R280); every entry's urgency level is brought up to the stack's time (R95, R170); no held time
falls more than 2^30 behind its counter (R169). -/
def Obligations.ArbiterEventsComplete : Prop :=
  (∀ (k : Fin 16) (s : State) (c : Cand), s.partsAt k.val (fun g => g == .ready) = [c] →
    (∀ x ∈ s.parts, x.2.stack = k.val → ∀ since, x.2.stage ≠ .lakeHeld since) → s.stackRetries k.val = false →
    s.eligible k.val c = true → s.admissible k.val c = true → (s.arb k.val).rankPin = none → (s.arb k.val).waitPin = none →
    s.lakeCheck k.val c.2.1 c.2.2 = .pass →
    (c.2.2.op = 1 ∨ c.2.2.op = 2 ∨ c.2.2.op = 3 ∨ c.2.2.op = 4) → 0 < lanePieces c.2.1 c.2.2 →
    Completes (.partGrant k) s fun t =>
      ((s.arb k.val).count + 1 ≠ s.setting 0x2605 k.val → (t.arb k.val).count = (s.arb k.val).count + 1) ∧
      t.part? c.1 = some { c.2.1 with stage := .granted, since := s.clk.ticks, left := lanePieces c.2.1 c.2.2 }) ∧
  (∀ (k : Fin 16) (s : State) (c : Cand), s.partsAt k.val (fun g => g == .ready) = [c] →
    (∀ x ∈ s.parts, x.2.stack = k.val → ∀ since, x.2.stage ≠ .lakeHeld since) → s.stackRetries k.val = false →
    s.eligible k.val c = true → s.admissible k.val c = true → (s.arb k.val).rankPin = none → (s.arb k.val).waitPin = none →
    s.lakeCheck k.val c.2.1 c.2.2 = .pass → c.2.2.op = 0 →
    Completes (.partGrant k) s fun t => ∃ y, t.part? c.1 = some y ∧ y.stage = .admitted) ∧
  (∀ (k : Fin 16) (s : State) (key : Nat) (rest : List Nat) (p : Part) (r : Req),
    ((s.arb k.val).moved = key :: rest ∨ ((s.arb k.val).moved = [] ∧ s.moving k.val = [(key, p, r)] ∧ p.left = 1)) →
    s.part? key = some p → s.req? p.req = some r → r.answered = true → r.phase = .live → s.lake.gathers = [] →
    (r.op = 1 ∨ r.op = 2 ∨ r.op = 3 ∨ r.op = 4) → s.doorbellOf r = none →
    Completes (.grantComplete k) s fun t => ∃ u, t.req? p.req = some u ∧ u.phase = .done ∧ u.status = 0) ∧
  (∀ (k : Fin 16) (s : State) (c : Cand), s.partsAt k.val (s.holdOver k.val) = [c] → s.part? c.1 = some c.2.1 →
    s.req? c.2.1.req = some c.2.2 → c.2.2.answered = true → c.2.2.phase = .live →
    Completes (.lakeHoldTimeout k) s fun t => ∃ r, t.req? c.2.1.req = some r ∧ r.phase = .done ∧ r.status = 5) ∧
  (∀ (k : Fin 16) (s : State), Completes (.urgencyCrossing k) s fun t =>
    ∀ leaf e, leaf / 64 = k.val → e ∈ (t.leaf leaf).queue → e.urg = s.urgOf (s.sck k.val).stc e) ∧
  (∀ (k : Fin 16) (s : State), Completes (.deadlineSweep k) s fun t =>
    (∀ leaf, leaf / 64 ≠ k.val → t.leaf leaf = s.leaf leaf) ∧
    (∀ leaf e, leaf / 64 = k.val → e ∈ (t.leaf leaf).queue → diff32 (s.sck k.val).stc e.deadline ≤ 2 ^ 30 ∧
      diff32 (s.sck k.val).stc e.u1t ≤ 2 ^ 30 ∧ diff32 (s.sck k.val).stc e.u2t ≤ 2 ^ 30) ∧
    ∀ id r, t.req? id = some r → r.stack = k.val → -(2 ^ 30) ≤ s.ahead r.arrival)

/-! ## Leaves -/

/-- A leaf's slots: a run takes its entry from the queue, holds the data bus for its bursts and moves its data (R91, R92);
the row picker opens the row of its candidate, or closes the bank's other row first, and notes the leaf that won (R93, R95);
a row idle for 256 ns closes (R90); the direction turns (R98); a 64-QCLK window that is over gives way to the next, with its
debt, its cap level and the slots of runs across its start (R100-R104). Behind a run a zero-fill may queue its next run, and
Lake reads for which no entry was free. -/
def Obligations.LeafEventsComplete : Prop :=
  (∀ (l : Fin 1024) (s : State) (e : Entry), s.leafRuns l.val = true → s.escReady l.val = false →
    firstEntry columnBefore ((s.leaf l.val).queue.filter (s.columnOk l.val (s.leaf l.val))) = some e →
    Completes (.columnRun l) s fun t => ∃ u : State, t = (u.feedZero l.val).askAccu ∧
      (u.leaf l.val).queue = (s.leaf l.val).queue.filter (fun x => x.id != e.id) ∧
      (u.leaf l.val).busFree = s.now12 + e.nb * s.qPeriod (stackOf l.val) ∧
      if e.wr then t.mem = (s.storeRun l.val e.la e.words e.raw).mem ∧ t.chk = (s.storeRun l.val e.la e.words e.raw).chk
      else t.mem = s.mem ∧ t.chk = s.chk ∧
        (u.leaf l.val).inflight = (s.leaf l.val).inflight ++ [{ e with raw := s.takeRun l.val e.la e.nb, at_ := s.now }]) ∧
  (∀ (c : Fin 512) (s s1 : State) (x : RowCand) (rest : List RowCand) (leaf cls : Nat) (e : Entry),
    s1 = (s.claims (2 * c.val)).claims (2 * c.val + 1) → s1.classOne c.val = false → s1.chanCands c.val = x :: rest →
    rest.foldl (fun u v => if rowBefore (s1.chan c.val).rowLast v u then v else u) x = (leaf, e, cls) →
    ((s1.leaf leaf).bank e.bank).openRow = none →
    Completes (.rowCommand c) s fun t => ((t.leaf leaf).bank e.bank).openRow = some e.row ∧
      ((t.leaf leaf).bank e.bank).tAct = s.now12 ∧
      t.chans = (s1.setChan c.val { s1.chan c.val with rowLast := some (leaf % 2) }).chans) ∧
  (∀ (c : Fin 512) (s s1 : State) (x : RowCand) (rest : List RowCand) (leaf cls : Nat) (e : Entry),
    s1 = (s.claims (2 * c.val)).claims (2 * c.val + 1) → s1.classOne c.val = false → s1.chanCands c.val = x :: rest →
    rest.foldl (fun u v => if rowBefore (s1.chan c.val).rowLast v u then v else u) x = (leaf, e, cls) →
    ((s1.leaf leaf).bank e.bank).openRow.isSome = true →
    Completes (.rowCommand c) s fun t => t.leaves = (s1.setLeaf leaf ((s1.leaf leaf).setBank e.bank
      { (s1.leaf leaf).bank e.bank with openRow := none, tPre := s1.now12 })).leaves ∧
      t.chans = (s1.setChan c.val { s1.chan c.val with rowLast := some (leaf % 2) }).chans) ∧
  (∀ (l : Fin 1024) (s : State) (i : Nat) (b : Bank), s.classOne (channelOf l.val) = false →
    s.chanCands (channelOf l.val) = [] → s.idleRow l.val = some (i, b) →
    ((s.idleRow (if l.val % 2 = 0 then l.val + 1 else l.val - 1)).isSome = true →
      (s.chan (channelOf l.val)).rowLast.getD 1 ≠ l.val % 2) →
    Completes (.idleClose l) s fun t => t.leaves = (s.setLeaf l.val ((s.leaf l.val).setBank i
      { (s.leaf l.val).bank i with openRow := none, tPre := s.now12 })).leaves ∧
      t.chans = (s.setChan (channelOf l.val) { s.chan (channelOf l.val) with rowLast := some (l.val % 2) }).chans) ∧
  (∀ (l : Fin 1024) (s : State), s.turns l.val = true → (s.leaf l.val).busFree ≤ s.now12 →
    (s.leaf l.val).turned = false →
    exec (.directionTurn l) s = .next (s.setLeaf l.val { s.leaf l.val with
      writing := !(s.leaf l.val).writing, written := 0, turned := true })) ∧
  (∀ (k : Fin 16) (s : State) (n : Nat), n = (s.now12 - (s.arb k.val).winAt) / (64 * s.qPeriod k.val) → n ≠ 0 →
    Completes (.budgetWindow k) s fun t =>
    t.arbs = (s.setArb k.val { s.arb k.val with
      acts := 0, debt := (if n = 1 then (s.arb k.val).acts - s.actBudget k.val else 0),
      cap := max (s.heatOf k.val).lt (s.pow k.val).lp,
      winAt := (s.arb k.val).winAt + n * (64 * s.qPeriod k.val) }).arbs ∧
    (∀ leaf, leaf / 64 = k.val → (t.leaf leaf).slots = (if n = 1 then (s.leaf leaf).slotsNext else 0) ∧
      (t.leaf leaf).slotsNext = 0) ∧
    ∀ leaf, leaf / 64 ≠ k.val → t.leaf leaf = s.leaf leaf)

/-- READ_DATA_ARRIVAL (R317-R321): the oldest read under way leaves the channel's list, and its words, each decoded with the
bits the stack flipped, go to what asked for them: a request's part, a merge entry (R332), an accumulate (R282), which then
holds them as its old value, or a tile (R289), which collects them by their place in the page and takes them up once they are
whole. Where an accumulate or tile is gone they go nowhere. -/
def Obligations.ReadDataIsPassedOn : Prop :=
  (∀ (l : Fin 1024) (flips : List (BitVec 72)) (s : State) (e : Entry) (rest : List Entry) (req piece : Nat),
    (s.leaf l.val).inflight = e :: rest → e.src = .part req piece →
    exec (.readDataArrival l flips) s = .next (((s.setLeaf l.val { s.leaf l.val with inflight := rest }).readWords l.val e.la
      (flipped e.raw flips) 1 0x1100 e.ten e.sid e.at_ true true).toRequest l.val e req (decodedWords (flipped e.raw flips)))) ∧
  (∀ (l : Fin 1024) (flips : List (BitVec 72)) (s : State) (e : Entry) (rest : List Entry),
    (s.leaf l.val).inflight = e :: rest → e.src = .merge →
    exec (.readDataArrival l flips) s = .next (((s.setLeaf l.val { s.leaf l.val with inflight := rest }).readWords l.val e.la
      (flipped e.raw flips) 0 0x1100 e.ten e.sid e.at_ true false).mergeRead l.val e.la (flipped e.raw flips))) ∧
  (∀ (l : Fin 1024) (flips : List (BitVec 72)) (s u : State) (e : Entry) (rest : List Entry) (job : Nat) (j : AccuJob),
    (s.leaf l.val).inflight = e :: rest → e.src = .accu job →
    u = (s.setLeaf l.val { s.leaf l.val with inflight := rest }).readWords l.val e.la (flipped e.raw flips) 1 0x1100 e.ten
      e.sid e.at_ true true →
    Tab.find? u.lake.accus job = some j →
    Completes (.readDataArrival l flips) s fun t => t = { u with lake := t.lake } ∧
      t.lake = { u.lake with accus := t.lake.accus } ∧
      Tab.find? t.lake.accus job = some { j with old := some (decodedWords (flipped e.raw flips)) } ∧
      ∀ i, i ≠ job → Tab.find? t.lake.accus i = Tab.find? u.lake.accus i) ∧
  (∀ (l : Fin 1024) (flips : List (BitVec 72)) (s u : State) (e : Entry) (rest : List Entry) (id : Nat) (x : Tile),
    (s.leaf l.val).inflight = e :: rest → e.src = .tile id →
    u = (s.setLeaf l.val { s.leaf l.val with inflight := rest }).readWords l.val e.la (flipped e.raw flips) 1 0x1100 e.ten
      e.sid e.at_ true true →
    Tab.find? u.lake.tiles id = some x →
    Completes (.readDataArrival l flips) s fun t => t = { u with lake := t.lake } ∧
      ∃ y, Tab.find? t.lake.tiles id = some y ∧
        (y.oldReady = false → y = { x with
          got := putWords x.got (u.relAddr x.qbase x.qk l.val e.la % 4096 / 8) (decodedWords (flipped e.raw flips)) }) ∧
        (y.oldReady = true → x.oldReady = true ∨ y.got = [])) ∧
  (∀ (l : Fin 1024) (flips : List (BitVec 72)) (s u : State) (e : Entry) (rest : List Entry) (id : Nat),
    (s.leaf l.val).inflight = e :: rest →
    u = (s.setLeaf l.val { s.leaf l.val with inflight := rest }).readWords l.val e.la (flipped e.raw flips) 1 0x1100 e.ten
      e.sid e.at_ true true →
    (e.src = .accu id ∧ Tab.find? u.lake.accus id = none ∨ e.src = .tile id ∧ Tab.find? u.lake.tiles id = none) →
    exec (.readDataArrival l flips) s = .next u) ∧
  (∀ (raw : List (Word64 × Byte)) (i : Nat) (d : Word64) (c : Byte), raw[i]? = some (d, c) →
    (decodedWords raw)[i]? = some ⟨(decodeWord d c).data, (decodeWord d c).stain⟩)

/-- The words a run stores are the only words of any leaf that COLUMN_RUN changes; a read run changes none. -/
def Obligations.ColumnRunStoresOnlyItsWords : Prop :=
  ∀ (l : Fin 1024) (s : State) (e : Entry), s.leafRuns l.val = true → s.escReady l.val = false →
    firstEntry columnBefore ((s.leaf l.val).queue.filter (s.columnOk l.val (s.leaf l.val))) = some e →
    Completes (.columnRun l) s fun t => ∀ leaf la,
      (e.wr = true → ∀ i, i < e.words.length → cellKey leaf (la / 8 * 8) ≠ cellKey l.val ((e.la + 8 * i) / 8 * 8)) →
      t.storedWord leaf la = s.storedWord leaf la

/-! ## Refresh and row protection -/

/-- Refresh and row protection. A due tick makes the next bank owe one more, to 8, no other bank, and the tick after it is
the next bank's (R109, R110, R118). The channel's first refresh candidate gets its REFpb, which pays one and blocks its bank
for tRFCpb, or first the PRE that closes it and clears its page history (R90, R111, R116). At a multiple of RP_AGE each
counter and FLOOR halve, an entry at 0 leaves, and a stack whose domains are off counts the multiple (R122, R145). A
mitigation takes its turn: an open bank is closed first; then the row's entry leaves, its neighbours are activated a tRC
apart and the bank gets its RFMpb (R125, R126). A sweep command takes an owed bank, open ones closed first, and the last one
ends the sweep (R127); banks not found idle within one tREFI are claimed for it (R127). -/
def Obligations.RefreshEventsComplete : Prop :=
  (∀ (l : Fin 1024) (s : State) (b : Nat) (c : Bank), s.leafUp l.val = true → s.banksOf l.val ≠ 0 →
    tickDue (s.leaf l.val).tickOrigin (s.tREFI (stackOf l.val)) (s.banksOf l.val) (s.leaf l.val).tickN ≤ s.now12 →
    b = (s.leaf l.val).tickN % s.banksOf l.val → c = (s.leaf l.val).bank b →
    Completes (.refreshTick l) s fun t =>
      (t.leaf l.val).banks = ((s.leaf l.val).setBank b { c with owed := min 8 (c.owed + 1) }).banks ∧
      (∀ i, i ≠ l.val → (t.leaf i).banks = (s.leaf i).banks) ∧
      (t.leaf l.val).tickN = (if (s.sck (stackOf l.val)).ref2x = (s.sck (stackOf l.val)).ref2xNext
        then (s.leaf l.val).tickN + 1 else (s.leaf l.val).tickN % (s.geom (stackOf l.val)).banks + 1)) ∧
  (∀ (c : Fin 512) (s : State) (x : Nat × Int × Nat × Nat) (rest : List (Nat × Int × Nat × Nat))
      (step bank leaf : Nat) (owed : Int) (up : List Nat) (b : Bank),
    (s.chan c.val).gap = false → up = [2 * c.val, 2 * c.val + 1].filter (fun l => s.leafUp l && decide (0 < s.banksOf l)) →
    up.flatMap (fun l => s.refreshCands l (!s.rowBusy c.val)) = x :: rest →
    rest.foldl (fun u v => if refreshBefore (s.chan c.val).rowLast v u then v else u) x = (step, owed, bank, leaf) →
    s.stepBefore c.val step = false → b = (s.leaf leaf).bank bank →
    (b.openRow = none → Completes (.refpbIssue c) s fun t =>
      ((t.leaf leaf).bank bank).owed = max (-8) (b.owed - 1) ∧
      ((t.leaf leaf).bank bank).tRef = s.now12 + s.tRFCpb (stackOf leaf) ∧ ∀ i, i ≠ leaf → t.leaf i = s.leaf i) ∧
    (b.openRow.isSome = true → Completes (.refpbIssue c) s fun t => t.prots = s.prots ∧
      (t.leaf leaf).bank bank = { b with openRow := none, tPre := s.now12, hist := 0, lastRow := none } ∧
      (∀ i, i ≠ bank → (t.leaf leaf).bank i = (s.leaf leaf).bank i) ∧ ∀ i, i ≠ leaf → t.leaf i = s.leaf i)) ∧
  (∀ (k : Fin 16) (s : State) (n d : Nat),
    n = s.now / (s.setting 0x4006 k.val * 1000000) - (s.sck k.val).lastAge / (s.setting 0x4006 k.val * 1000000) → n ≠ 0 →
    d = 2 ^ min n 14 →
    Completes (.rowCounterAgeing k) s fun t =>
      t.sclk = (s.setSck k.val { s.sck k.val with
        lastAge := s.now / (s.setting 0x4006 k.val * 1000000) * (s.setting 0x4006 k.val * 1000000),
        missed := if (s.sck k.val).doms = 0 then (s.sck k.val).missed + n else (s.sck k.val).missed }).sclk ∧
      t.prots = if (s.sck k.val).doms = 0 then s.prots else
        (s.prots.map (fun x => if x.1 / 64 = k.val then (x.1, { x.2 with
            counts := (x.2.counts.map (fun e => (e.1, { e.2 with cnt := e.2.cnt / d }))).filter (fun e => e.2.cnt != 0),
            floor := x.2.floor / d }) else x)).filter (fun x => x.2 != RowProt.reset)) ∧
  (∀ (l : Fin 1024) (s : State) (bank row : Nat) (rest : List (Nat × Nat)) (ns : List Nat) (b : Bank),
    (s.prot l.val).mits = (bank, row) :: rest → s.leafUp l.val = true → (s.chan (channelOf l.val)).gap = false →
    s.stepBefore (channelOf l.val) 2 = false → s.otherFirst l.val 2 = false → b = (s.leaf l.val).bank bank →
    s.rowReady (stackOf l.val) b = true →
    ns = neighbours (s.geom (stackOf l.val)).rows (s.setting 0x4008 (stackOf l.val)) row →
    (b.openRow.isSome = true → Completes (.mitigation l) s fun t => t.prots = s.prots ∧
      (t.leaf l.val).bank bank = { b with openRow := none, tPre := s.now12, hist := 0, lastRow := none } ∧
      (∀ i, i ≠ bank → (t.leaf l.val).bank i = (s.leaf l.val).bank i) ∧ ∀ i, i ≠ l.val → t.leaf i = s.leaf i) ∧
    (b.openRow = none →
      (∀ i, i < ns.length → s.actFits (stackOf l.val) (s.leaf l.val) bank (s.now12 + i * s.cyc (stackOf l.val) 72 60) = true) →
      Completes (.mitigation l) s fun t =>
        t.prots = (s.setProt l.val { s.prot l.val with
          mits := rest
          counts := (s.prot l.val).counts.filter (fun e => !(e.2.bank == bank && e.2.row == row)) }).prots ∧
        ((t.leaf l.val).bank bank).tRef = s.now12 + ns.length * s.cyc (stackOf l.val) 72 60 + s.tRFCpb (stackOf l.val) ∧
        ∀ i, i < ns.length → (s.now12 + i * s.cyc (stackOf l.val) 72 60, bank % 4) ∈ (t.leaf l.val).acts)) ∧
  (∀ (l : Fin 1024) (s : State) (i j : Nat) (is : List Nat) (b : Bank), s.leafUp l.val = true →
    (s.chan (channelOf l.val)).gap = false → s.stepBefore (channelOf l.val) 3 = false →
    (s.prot l.val).sweep.filter (fun i => (((s.leaf l.val).bank i).sweep || s.bankIdle l.val i) &&
      s.rowReady (stackOf l.val) ((s.leaf l.val).bank i)) = i :: is →
    is.foldl (fun a j => if ((s.leaf l.val).bank a).owed < ((s.leaf l.val).bank j).owed then j else a) i = j →
    b = (s.leaf l.val).bank j →
    (b.openRow.isSome = true → Completes (.spillSweep l) s fun t => t.prots = s.prots ∧
      (t.leaf l.val).bank j = { b with openRow := none, tPre := s.now12, hist := 0, lastRow := none } ∧
      (∀ i, i ≠ j → (t.leaf l.val).bank i = (s.leaf l.val).bank i) ∧ ∀ i, i ≠ l.val → t.leaf i = s.leaf i) ∧
    (b.openRow = none → Completes (.spillSweep l) s fun t =>
      ((t.leaf l.val).bank j).tRef = s.now12 + s.tRFCpb (stackOf l.val) ∧
      t.prots = (s.setProt l.val { s.prot l.val with
        sweep := (s.prot l.val).sweep.filter (fun x => x != j)
        floor := if (s.prot l.val).sweep.filter (fun x => x != j) = [] then 0 else (s.prot l.val).floor }).prots)) ∧
  (∀ (l : Fin 1024) (s : State), (s.prot l.val).sweep ≠ [] →
    (s.prot l.val).sweepAt + s.tREFI (stackOf l.val) ≤ s.now12 →
    Completes (.spillSweepForce l) s fun t => t.prots = s.prots ∧
      ∀ i ∈ (s.prot l.val).sweep, ((t.leaf l.val).bank i).sweep = true)

/-! ## Maintenance, repair and calibration -/

/-- Maintenance: the first request of its leaves, in the order of R131, finds their token free and takes it (R128, R131),
unless a limit of R133 holds it; Calender raises and takes its own SCRUB (R336); an activity that is done leaves its leaves,
of each channel whose request named both, and what it had paused or what rode on it holds the token after it (R129, R130). -/
def Obligations.MaintenanceTakesAndReleasesTheToken : Prop :=
  (∀ (l : Fin 1024) (act : Fin 8) (s u : State) (a : Act) (m : MReq), actOf act.val = some a → s.keepsBack a = false →
    (s.care l.val).firstRaised s.keepsBack = some a → (s.care l.val).raised.find? (fun m => m.act == a) = some m →
    (∀ i ∈ m.leaves l.val, (s.care i).firstRaised s.keepsBack = some a) →
    u = (m.leaves l.val).foldl (fun s i => s.setCare i { s.care i with raised := (s.care i).raised.erase m }) s →
    (∀ i ∈ m.leaves l.val, (s.care i).holder = none) → u.overLimit l.val m = false →
    Completes (.maintenanceStart l act) s fun t => ∀ i ∈ m.leaves l.val,
      (t.care i).holder = some m ∧ (t.care i).raised = (s.care i).raised.erase m) ∧
  (∀ (l : Fin 1024) (act : Fin 8) (s : State), actOf act.val = some .scrub → s.keepsBack .scrub = false →
    (s.care l.val).firstRaised s.keepsBack = none → s.wantsScrub l.val = true → (s.care l.val).holder = none →
    Completes (.maintenanceStart l act) s fun t => (t.care l.val).holder = some (plainReq .scrub 0 0)) ∧
  (∀ (l : Fin 1024) (act : Fin 8) (s : State) (a : Act), actOf act.val = some a →
    (s.care l.val).runs a = true → s.actDone l.val a = true → (∀ x ∈ s.cares, x.2.queue = []) →
    Completes (.maintenanceEnd l act) s fun t =>
      t.cares = ((s.actLeaves l.val a).foldl (fun u i => u.setCare i ((u.care i).release a)) s).cares) ∧
  (∀ (c : Care) (a : Act),
    (∀ m ∈ (c.release a).running, m.act ≠ a ∨ (a, m) ∈ c.paused) ∧ (∀ m ∈ (c.release a).joined, m.act ≠ a) ∧
    (∀ m, (a, m) ∈ c.paused → m ∈ (c.release a).running) ∧ (∀ m ∈ c.riders, m.act ≠ a → m ∈ (c.release a).running) ∧
    ((c.release a).holder = none → (c.release a).riders = []))

/-- Calender, heals and repairs: a visit reads the row at Calender's position, stores nothing, and waits its share of the
column slots (R336, R337); the position moves on by bank, then by row, and the end of a lap counts it and ends an escalation
(R336, R340); a lap of SCRUB_LAP escalates (R338); a heal copies its row and its tracker entry is HEALED (R342); a row repair
takes a spare row of its bank and closes its gap (R347); a lane repair takes a spare lane, and without one both leaves of the
channel are lost (R351). -/
def Obligations.ScrubAndRepairComplete : Prop :=
  (∀ (l : Fin 1024) (flips : List (BitVec 72)) (s : State), s.visitReady l.val = true →
    s.refreshWaits (channelOf l.val) = false → ((s.care l.val).esc = true ∨ s.idleMode l.val = true) →
    s.rowRoom l.val (s.rowLa l.val (s.care l.val).calBank (s.care l.val).calRow) = true →
    Completes (.calenderVisit l flips) s fun t => ∃ u : State, t = u.calNext l.val ∧ u.now = s.now ∧
      (u.care l.val).calBank = (s.care l.val).calBank ∧ (u.care l.val).calRow = (s.care l.val).calRow ∧
      (u.care l.val).calFree = s.now12 + 32 * (if (s.care l.val).esc then 64 else s.setting 0x400D (stackOf l.val)) *
        s.qPeriod (stackOf l.val) ∧
      ((u.leaf l.val).bank (s.care l.val).calBank).tAct = s.touchAt l.val (s.care l.val).calBank ∧
      ((u.leaf l.val).bank (s.care l.val).calBank).openRow = none) ∧
  (∀ (l : Fin 1024) (u : State), (u.care l.val).calBank + 1 < u.banksOf l.val →
    ((u.calNext l.val).care l.val).calBank = (u.care l.val).calBank + 1 ∧
      ((u.calNext l.val).care l.val).calRow = (u.care l.val).calRow) ∧
  (∀ (l : Fin 1024) (u : State), u.banksOf l.val ≤ (u.care l.val).calBank + 1 →
    (u.care l.val).calRow + 1 < (u.geom (stackOf l.val)).rows →
    ((u.calNext l.val).care l.val).calBank = 0 ∧ ((u.calNext l.val).care l.val).calRow = (u.care l.val).calRow + 1) ∧
  (∀ (l : Fin 1024) (u : State), u.banksOf l.val ≤ (u.care l.val).calBank + 1 →
    (u.geom (stackOf l.val)).rows ≤ (u.care l.val).calRow + 1 →
    ((u.calNext l.val).care l.val).calBank = 0 ∧ ((u.calNext l.val).care l.val).calRow = 0 ∧
      ((u.calNext l.val).care l.val).laps = ((u.care l.val).laps + 1) % 256 ∧ ((u.calNext l.val).care l.val).esc = false ∧
      ((u.calNext l.val).care l.val).lapLast = min 1048575 ((u.now - (u.care l.val).lapStart) / 1000000000) ∧
      ((u.calNext l.val).care l.val).lapStart = u.now) ∧
  (∀ (l : Fin 1024) (s : State),
    (s.care l.val).lapStart + s.setting 0x400E (stackOf l.val) * 3600000000000 ≤ s.now → (s.care l.val).esc = false →
    ((s.care l.val).every.any (fun m => m.act == .scrub)) = true → s.leafUp l.val = true → (s.leaf l.val).parked = false →
    exec (.calenderEscalate l) s = .next ((s.setCare l.val { s.care l.val with esc := true, lapLate := true }).maint 5
      (stackOf l.val))) ∧
  (∀ (l : Fin 1024) (flips : List (BitVec 72)) (s u : State) (m : MReq), (s.care l.val).runs .heal = true →
    s.leafUp l.val = true → (s.chan (channelOf l.val)).gap = false → s.stopping = false →
    ((s.care l.val).running ++ (s.care l.val).joined).find? (fun m => m.act == .heal && !m.done) = some m →
    s.stepBefore (channelOf l.val) 5 = false → s.rowFree l.val m.bank = true →
    s.rowRoom l.val (s.rowLa l.val m.bank m.row) = true →
    u = ((s.rowWon l.val).touchRow l.val m.bank m.row true).copyRow l.val m.bank m.row flips →
    Completes (.heal l flips) s fun t =>
      t.mem = u.mem ∧ t.chk = u.chk ∧
      ∃ (mark : MReq → MReq) (htime : Nat), mark m = { m with done := true } ∧ (∀ x, x ≠ m → mark x = x) ∧
        t.cares = (u.setCare l.val { u.care l.val with
          track := Tab.mapVals (u.care l.val).track (fun _ e =>
            if e.bank == m.bank && e.row == m.row then { e with healed := true, htime := htime } else e),
          holder := (u.care l.val).holder.map mark, riders := (u.care l.val).riders.map mark,
          joined := (u.care l.val).joined.map mark }).cares) ∧
  (∀ (l : Fin 1024) (flips : List (BitVec 72)) (spare : Fin 256) (s : State) (m : MReq),
    (s.care l.val).nextRepair false = some m → s.leafUp l.val = true → s.stopping = false →
    s.stepBefore (channelOf l.val) 5 = false → s.spareLeft l.val m.bank ≠ 0 →
    Completes (.rowRepair l flips spare) s fun t => (t.chan (channelOf l.val)).gap = false ∧
      t.supply = (s.setSup (stackOf l.val) { s.sup (stackOf l.val) with
        spareRows := Tab.add (s.sup (stackOf l.val)).spareRows (l.val % 64 * 64 + m.bank) 1 }).supply) ∧
  (∀ (l : Fin 1024) (flips : List (BitVec 72)) (spare : Fin 256) (s : State) (m : MReq),
    (s.care l.val).nextRepair false = some m → s.leafUp l.val = true → s.stopping = false →
    s.stepBefore (channelOf l.val) 5 = false → s.spareLeft l.val m.bank = 0 →
    exec (.rowRepair l flips spare) s = .next (s.setCare l.val ((s.care l.val).markDone m 0))) ∧
  (∀ (c : Fin 512) (s : State) (m : MReq) (i : Fin 4), (s.care (2 * c.val)).nextRepair true = some m →
    s.leafUp (2 * c.val) = true → s.stopping = false → s.spareOk c.val (m.lane / 36) i.val = true →
    Completes (.laneRepair c (some i)) s fun t => (t.chan c.val).cal = (s.chan c.val).cal.remap m.lane i.val) ∧
  (∀ (c : Fin 512) (s : State) (m : MReq), (s.care (2 * c.val)).nextRepair true = some m →
    s.leafUp (2 * c.val) = true → s.stopping = false →
    Completes (.laneRepair c none) s fun t => (t.care (2 * c.val)).lost = true ∧ (t.care (2 * c.val + 1)).lost = true)

/-- R352, R385, R386: the oldest waiting map or record leaves the list of stores and stands, packed with the next SEQ, in the
slot that is not in use, which is then the slot in use; the device's records are what was stored. A record whose two attempts
fail leaves that slot invalid and the records as they were. Of two valid slots the one of the higher SEQ, by the signed
32-bit difference SEQ_B - SEQ_A, is in use, and A on a tie. -/
def Obligations.RecordsReachTheDevice : Prop :=
  (∀ (s : State) (x : NvStore), s.stores.find? (fun x => x.type_ == 2) = some x →
    Completes .repairMapStore s fun t => t.stores = s.stores.erase x ∧
      t.boot.dev = devSetRec s.boot.dev 2 (devTarget s.boot.dev 2)
        (packed 2 (devNextSeq s.boot.dev 2) s.now (mapPayload x.map x.serials x.altSerials)) ∧
      ((mapPayload x.map x.serials x.altSerials).length ≤ 262072 →
        devNewest t.boot.dev 2 = some (devTarget s.boot.dev 2)) ∧
      t.boot.recs = { s.boot.recs with map := x.map, serials := x.serials, altSerials := x.altSerials, mapValid := true,
                                       mapSeq := devNextSeq s.boot.dev 2 }) ∧
  (∀ (first second : Bool) (s : State) (x : NvStore) (rest : List NvStore), s.stores = x :: rest → (first || second) = true →
    (x.type_ = 2 ∨ x.type_ = 3) →
    Completes (.nvRecordStore first second) s fun t => t.stores = rest ∧
      t.boot.dev = devSetRec s.boot.dev x.type_ (devTarget s.boot.dev x.type_)
        (packed x.type_ (devNextSeq s.boot.dev x.type_) s.now x.payload) ∧
      (x.payload.length ≤ 262072 → devNewest t.boot.dev x.type_ = some (devTarget s.boot.dev x.type_)) ∧
      if x.type_ = 2 then t.boot.recs.map = x.map ∧ t.boot.recs.serials = x.serials ∧ t.boot.recs.mapValid = true
      else t.boot.recs.base = (sectionsOf 16 0 x.base).1 ∧ t.boot.recs.baseSerials = (sectionsOf 16 0 x.base).2 ∧
        t.boot.recs.baseValid = true) ∧
  (∀ (s : State) (x : NvStore) (rest : List NvStore), s.stores = x :: rest →
    Completes (.nvRecordStore false false) s fun t => t.stores = rest ∧ t.boot.recs = s.boot.recs ∧
      t.boot.dev = devSetRec s.boot.dev x.type_ (devTarget s.boot.dev x.type_) RecSlot.erased ∧
      recValid RecSlot.erased x.type_ = false) ∧
  (∀ (d : FlashDev) (type_ : Nat), recValid (devRec d type_ 0) type_ = true → recValid (devRec d type_ 1) type_ = true →
    devNewest d type_ = some (if 0 < diff32 (recNum (devRec d type_ 1) 8 4) (recNum (devRec d type_ 0) 8 4) then 1 else 0))

/-- Retraining: a step opens a gap and takes its points, its time counted from the gap (R135, R374); an abandoned step gives
them back (R136, R376); the agreed results become a correction in a set of its own (R378), written to the lanes in a gap
(R379, R380); probes move the margins (R369-R371); load windows are judged (R371); a CA parity error asks for a RETRAIN
(R371, trigger 4). -/
def Obligations.CalibrationEventsComplete : Prop :=
  (∀ (c : Fin 512) (s : State) (r w n m : Nat), (s.chan c.val).retrain = some (r, w) → s.retraining c.val = true →
    (s.chan c.val).gap = false → s.stopping = false → r + w ≠ 0 → s.leafUp (2 * c.val) = true →
    s.leafUp (2 * c.val + 1) = true → s.stepBefore c.val 5 = false → stepPoints (s.stepLimit (c.val / 32)) r w = (n, m) →
    Completes (.retrainStep c) s fun t => (t.chan c.val).retrain = some (r - n, w - m) ∧ (t.chan c.val).gap = true ∧
      (t.chan c.val).step = some (n, m, ((t.chan c.val).gapAt + 119) / 120 + stepTicks n m) ∧ (t.chan c.val).stale = true) ∧
  (∀ (c : Fin 512) (s : State) (r w n m at_ : Nat), (s.chan c.val).step = some (n, m, at_) →
    (s.chan c.val).retrain = some (r, w) →
    (s.forced c.val = true ∨ (s.heatOf (c.val / 32)).st = .tripped ∨ (s.sck (c.val / 32)).switching = true ∨
      (s.sck (c.val / 32)).pll ≠ .locked) →
    exec (.retrainStepAbandon c) s = .next (s.setChan c.val { s.chan c.val with
      retrain := some (r + n, w + m), step := none, gap := false })) ∧
  (∀ (c : Fin 512) (m : ChanMeas) (s : State), (s.chan c.val).retrain = some (0, 0) → (s.chan c.val).gap = false →
    s.retraining c.val = false → s.ownRoom 1 = true →
    m.lanes.any (fun l => (laneResult (s.setting 0x5801 0) (s.setting 0x5802 0)
      (measWv m l.lane) l).isSome) = true →
    Completes (.retrainDone c m) s fun t => (t.chan c.val).retrain = none ∧ (t.chan c.val).pendingCorr = true ∧
      ∃ x new, t.sets = s.sets ++ [x] ∧ x.committed = true ∧ x.items = [⟨.cal c.val new false, 0⟩] ∧
        new.optag = (s.sck (c.val / 32)).opcur ∧ new.load = (s.chan c.val).loadTag) ∧
  (∀ (c : Fin 512) (s : State) (r : ChanCal), (s.chan c.val).corr = some r →
    (∀ l, l / 2 = c.val → (s.leaf l).busFree ≤ s.now12 ∧ ((s.care l).runs .repair = false ∨ s.actDone l .repair = true)) →
    (s.chan c.val).step = none → (r.optag = (s.sck (c.val / 32)).opcur → s.stepBefore c.val 5 = false) →
    (s.sck (c.val / 32)).pll = .locked → (s.sck (c.val / 32)).switching = false → s.channelAsleep c.val = false →
    Completes (.calibrationApply c) s fun t =>
      (if r.optag = 1 then (t.chan c.val).eco = some r else (t.chan c.val).cal = r) ∧ (t.chan c.val).gap = false ∧
      (t.chan c.val).corr = none ∧ (t.chan c.val).pendingCorr = false ∧ (t.chan c.val).stale = false) ∧
  (∀ (c : Fin 512) (lane : Fin 80) (mismatch : Bool) (s : State), (s.chan c.val).cal.untrained = false →
    s.channelAsleep c.val = false → (s.chan c.val).stale = false → (s.sup (c.val / 32)).trained = true →
    (72 ≤ lane.val → (Tab.find? (s.chan c.val).cal.spmap (lane.val - 72)).isSome = true) →
    Completes (.marginEvaluation c lane mismatch) s fun t => (t.chan c.val).margins =
      Tab.put (s.chan c.val).margins lane.val ((Tab.get Margin.reset (s.chan c.val).margins lane.val).probe mismatch
        (s.setting 0x5803 0) (s.setting 0x5804 0))) ∧
  (∀ (k : Fin 16) (s : State) (all pct : Nat), 100000 ≤ s.clk.ticks - (s.pow k.val).loadAt → (s.sup k.val).trained = true →
    all = (s.clk.ticks - (s.pow k.val).loadAt) * 120 / s.qPeriod k.val * (s.geom k.val).leaves →
    pct = (if all = 0 then 0 else min 100 (100 * (s.slotsUsed k.val - (s.pow k.val).retired) / all)) →
    Completes (.loadWindow k) s fun t => t.power = (s.setPow k.val { s.pow k.val with
      retired := s.slotsUsed k.val, loadAt := s.clk.ticks, loadPct := pct,
      highRun := if s.setting 0x5806 0 != 0 && decide (s.setting 0x5806 0 ≤ pct) then min 100 ((s.pow k.val).highRun + 1)
        else 0 }).power) ∧
  (∀ (c : Fin 512) (s u : State) (times : List Nat),
    times = (match (s.chan c.val).retrainEnd with
      | some x => if s.now < x + 1000000000 then s.now :: (s.chan c.val).parity else []
      | none => []) →
    u = s.setChan c.val { s.chan c.val with
      parity := times, parityAlarm := (s.chan c.val).parityAlarm || decide (3 ≤ times.length) } →
    (s.care (2 * c.val)).every.any (fun m => m.act == .retrain) = false →
    (u.chan c.val).retrain = none → (u.chan c.val).pendingCorr = false → (u.chan c.val).corr = none →
    (u.chan c.val).cal.untrained = false → (s.sck (c.val / 32)).asleep = false →
    (s.sck (c.val / 32)).sr.contains (c.val % 32) = false →
    Completes (.caParityError c) s fun t => (t.chan c.val).lastCause = 4 ∧ (t.chan c.val).parity = (u.chan c.val).parity ∧
      (t.care (2 * c.val)).raised = (s.care (2 * c.val)).raised ++ [plainReq .retrain 4 0] ∧
      (t.care (2 * c.val + 1)).raised = (s.care (2 * c.val + 1)).raised ++ [plainReq .retrain 4 0])

/-! ## Lake -/

/-- The merge buffer and Lake's engines: an entry that waited MERGE_WAIT closes and queues its write, or its read and write
(R330-R332); an accumulate whose old value is there leaves the list and its sums are written (R282), or nothing where its
quire is gone (model's choice); a tile past CCNT leaves and frees its slots (R291); one open for ACCO_TMO drops what is
parked or waits, and leaves with a stain event once its old value is there (R292); a step's digest is complete once the
tenant's step moved on and nothing of the step is left, and its count is judged then (R310). -/
def Obligations.LakeEventsComplete : Prop :=
  (∀ (l : Fin 1024) (s : State) (m : MergeEnt), (s.care l.val).oldestEnt = some m →
    m.born + s.setting 0x400B (stackOf l.val) * 10 ≤ s.clk.ticks → s.stopping = false → 2 ≤ s.freeOf (stackOf l.val) l.val →
    Completes (.mergeEntryTimeout l) s fun t =>
      t.cares = (s.setCare l.val { s.care l.val with
        merge := (if m.full then (s.care l.val).merge.filter (fun x => !(x.la == m.la && !x.closed))
          else (s.care l.val).merge.map (fun x => if x.la == m.la && !x.closed then { x with closed := true } else x)) }).cares ∧
      ((t.leaf l.val).queue.drop (s.leaf l.val).queue.length).map (fun e => (e.wr, e.la, e.nb, e.words)) =
        (if m.full then [(true, m.la, 1, m.words)] else [(false, m.la, 1, []), (true, m.la, 1, [])])) ∧
  (∀ (k : Fin 16) (s : State) (id base q : Nat) (j : AccuJob) (fw : Fwd),
    Tab.first s.lake.accus (fun _ j => j.stack == k.val && j.old.isSome) = some (id, j) →
    s.accuResult j (j.old.getD []) = some (base, q, fw) → s.writeRoom base q fw = true →
    Completes (.accuUpdate k) s fun t => Tab.find? t.lake.accus id = none ∧
      t = (({ s with lake := { s.lake with accus := Tab.erase s.lake.accus id } }).lakeWrite base q
        j.ten j.sid j.tint j.port j.arrival j.target j.regIdx j.step j.region fw (.accu id)).askAccu) ∧
  (∀ (k : Fin 16) (s : State) (id : Nat) (j : AccuJob),
    Tab.first s.lake.accus (fun _ j => j.stack == k.val && j.old.isSome) = some (id, j) →
    s.quireAt j.leaf = none →
    Completes (.accuUpdate k) s fun t => Tab.find? t.lake.accus id = none ∧ t.mem = s.mem ∧ t.chk = s.chk) ∧
  (∀ (k : Fin 16) (s : State) (id : Nat) (x : Tile),
    Tab.first s.lake.tiles (fun _ t => t.stack == k.val && t.oldReady && !t.timedOut && decide (t.ccnt < t.next)) =
      some (id, x) →
    s.writeRoom x.qbase x.qk (x.result false) = true →
    Completes (.accoTileRetire k) s fun t => t.lake.tiles = Tab.erase s.lake.tiles id) ∧
  (∀ (k : Fin 16) (s u : State) (id : Nat) (x : Tile), u = s.expireTiles k.val →
    Tab.first u.lake.tiles (fun _ t => t.stack == k.val && t.timedOut && t.oldReady &&
      u.writeRoom t.qbase t.qk (t.result true)) = some (id, x) →
    Completes (.accoTileTimeout k) s fun t => t.lake.tiles = Tab.erase u.lake.tiles id ∧
      bitAt t.regs.stainStat 5 = true) ∧
  (∀ (k : Fin 16) (s u : State), u = s.expireTiles k.val →
    Tab.first u.lake.tiles (fun _ t => t.stack == k.val && t.timedOut && t.oldReady &&
      u.writeRoom t.qbase t.qk (t.result true)) = none → exec (.accoTileTimeout k) s = .next u) ∧
  (∀ (k : Fin 16) (s : State) (id : Nat) (x : Tile), Tab.find? s.lake.tiles id = some x → x.stack = k.val →
    x.timedOut = false → x.next ≤ x.ccnt → us x.tmo ≤ x.elapsed →
    Tab.find? (s.expireTiles k.val).lake.tiles id = some { x with timedOut := true, parked := [], waiting := [] }) ∧
  (∀ (a : Fin 16) (s : State) (r : Arming) (d : Digest), r = s.bank.arming a.val → r.valid = true →
    d = Tab.get Digest.reset s.lake.digests a.val → bitAt d.flags 0 = false →
    (s.tenSt r.ten).step0 % 2 ^ 32 ≠ r.step → (s.tenSt r.ten).step1 % 2 ^ 32 ≠ r.step → s.stepOpen r = false →
    (r.tcnt = true → d.count = r.ecount) →
    exec (.watermarkClose a) s = .next { s with lake := { s.lake with
      digests := Tab.put s.lake.digests a.val { d with flags := d.flags ||| 1 } } }) ∧
  (∀ (a : Fin 16) (s : State) (r : Arming) (d : Digest), r = s.bank.arming a.val → r.valid = true →
    d = Tab.get Digest.reset s.lake.digests a.val → bitAt d.flags 0 = false →
    (s.tenSt r.ten).step0 % 2 ^ 32 ≠ r.step → (s.tenSt r.ten).step1 % 2 ^ 32 ≠ r.step → s.stepOpen r = false →
    r.tcnt = true → d.count ≠ r.ecount →
    Completes (.watermarkClose a) s fun t => ∃ y, Tab.find? t.lake.digests a.val = some y ∧
      bitAt y.flags 0 = true ∧ bitAt y.flags 1 = true ∧ bitAt y.flags 6 = true)

/-! ## Shaping -/

/-- Shaping: a refill adds the half's rates to the buckets, up to the bursts (R197); debt lowers the marker of a policed
tenant down to its floors, or a shared quire's flow and subflow, and what is discarded is counted (R194); a part held at a
gate that opens goes on (R203); a part waiting alone at a round robin stage whose deficits cover it goes on (R207). -/
def Obligations.ShapingEventsComplete : Prop :=
  (∀ (half : Fin 2) (ten : Fin 512) (s : State) (p : Policer) (m : Marker), (∀ x ∈ s.parts, x.2.stage ≠ .redHeld) →
    p = s.bank.policer ten.val → m = s.marker ten.val half.val → (∀ x, m.oldRates = some x → x.1 ≠ s.clk.ticks) →
    Completes (.markerRefill half ten) s fun t => t.markers = (s.setMarker ten.val half.val {
        tc := min (burstShare p.cbs p.split half.val) (m.tc + share p.cir p.split half.val)
        tp := min (burstShare p.pbs p.split half.val) (m.tp + share p.pir p.split half.val)
        oldRates := none }).markers) ∧
  (∀ (s : State) (d : Debt) (rest : List Debt) (p : Policer) (m : Marker) (n tc tp : Int), s.debts = d :: rest →
    d.quire = none → p = s.bank.policer d.ten → p.pen = true → m = s.marker d.ten d.half → n = d.bytes * 16 →
    tc = min m.tc (max (-(burstShare p.cbs p.split d.half : Int)) (m.tc - n)) →
    tp = min m.tp (max (-(burstShare p.pbs p.split d.half : Int)) (m.tp - n)) →
    Completes .debtCharge s fun t => t.debts = rest ∧
      t.markers = (s.setMarker d.ten d.half { m with tc := tc, tp := tp }).markers ∧ t.drrs = s.drrs ∧
      t.cnt = (s.cntT d.ten 34 ((max (n - (m.tc - tc)) (n - (m.tp - tp))).toNat / 16)).cnt) ∧
  (∀ (s : State) (d : Debt) (rest : List Debt) (q : Nat) (f : Flow) (u : SubFlow) (c : Int), s.debts = d :: rest →
    d.quire = some q → (s.bank.policer d.ten).pen = false → (s.drr q).flow? d.ten = some f →
    f.subs.find? (fun u => u.tint == d.tint) = some u → c = -(s.ceiling d.ten : Int) →
    Completes .debtCharge s fun t => t.debts = rest ∧ t.markers = s.markers ∧
      t.drrs = (s.setDrr q ((s.drr q).setFlow ({ f with deficit := min f.deficit (max c (f.deficit - d.bytes)) }.setSub
        { u with deficit := min u.deficit (max c (u.deficit - d.bytes)) }))).drrs) ∧
  (∀ (s : State) (d : Debt) (rest : List Debt) (q : Nat), s.debts = d :: rest → d.quire = some q →
    (s.bank.policer d.ten).pen = false → (s.drr q).flow? d.ten = none →
    Completes .debtCharge s fun t => t.debts = rest ∧ t.markers = s.markers ∧ t.drrs = s.drrs ∧
      t.cnt = (s.cntT d.ten 34 d.bytes).cnt) ∧
  (∀ (q : Fin 1024) (s : State) (key : Nat) (p : Part) (r : Req),
    s.heldKeys (fun p r => p.stage == .gated && r.qbase == q.val) = [key] → s.part? key = some p → s.req? p.req = some r →
    s.gateOpen r.qbase r.qk r.tint (partCharge r) = true → s.stackRetries p.stack = false →
    Completes (.gateRelease q) s fun t => ∃ y, t.part? key = some y ∧ y.stage ≠ .gated) ∧
  (∀ (q : Fin 1024) (s : State) (key : Nat) (p : Part) (r : Req),
    s.heldKeys (fun p r => p.stage == .gated && r.qbase == q.val) = [key] → s.part? key = some p → s.req? p.req = some r →
    s.gateOpen r.qbase r.qk r.tint (partCharge r) = false → exec (.gateRelease q) s = .next s) ∧
  (∀ (k : Fin 1088) (s : State) (key : Nat) (p : Part) (r : Req) (f : Flow), s.waitingAt k.val = [(key, p, r)] →
    s.part? key = some p → s.req? p.req = some r → r.op ≠ 34 → (s.drr k.val).occ < s.drrWindow k.val →
    (s.drr k.val).round = [r.ten] → f = s.flow (s.drr k.val) r.ten → (partCharge r : Int) ≤ f.deficit →
    f.deficit ≤ s.ceiling r.ten → (partCharge r : Int) ≤ (f.sub r.tint (s.ceiling r.ten)).deficit →
    (f.sub r.tint (s.ceiling r.ten)).deficit ≤ s.ceiling r.ten → s.stackRetries p.stack = false →
    Completes (.drrRelease k) s fun t => ∃ y, t.part? key = some y ∧ y.stage ≠ p.stage)

/-! ## Power -/

/-- Power: each 10 us the package average is kept in tenths of a watt, and a powered, trained stack's ladder moves up over a
cap and down below 95 percent of it, between 0 and 22 (R419-R422); a droop stretches the clock, is counted, and its end adds
a quarter of the stretched cycles to the time counter; after 64 cycles it moves the ladder up (R417, R418). -/
def Obligations.PowerEventsComplete : Prop :=
  (∀ (s u : State) (n est total cap : Nat), s.pins.porst = false → s.regs.ladderNext ≤ s.clk.ticks →
    n = s.capWindows → n ≠ 0 →
    u = (List.range 16).foldl (fun s k => s.estimate k) s →
    est = ((List.range 16).map (fun k => (u.pow k).win.headD 0)).sum + s.regs.railPower * 1000000 →
    total = ((est :: (u.pow 16).win).take n).sum → cap = s.setting 0x520A 0 * 10000000 * n →
    Completes .powerLadderStep s fun t =>
      t.regs = { s.regs with pkgPavg := min 16383 (tenthWatts total n), ladderNext := s.regs.ladderNext + us 10 } ∧
      ∀ k mine own, k < 16 → mine = s.setting 0x520B k * 10000000 * n → own = (u.pow k).win.sum →
        (t.pow k).win = (u.pow k).win ∧ (t.pow k).ladder =
          (if !(s.sup k).enable || (s.sup k).fenced || !(s.sup k).good || !(s.sup k).trained then (s.pow k).ladder
           else if mine < own ∨ cap < total then min ((s.pow k).ladder + 1) 22
           else if 100 * own < 95 * mine ∧ 100 * total < 95 * cap then (s.pow k).ladder - 1
           else (s.pow k).ladder)) ∧
  (∀ (k : Fin 16) (s : State), (s.pow k.val).stretch = false → (s.sup k.val).good = true →
    exec (.droop k) s = .next ((s.setPow k.val { s.pow k.val with stretch := true }).tally k.val 0x1040 1 false)) ∧
  (∀ (k : Fin 16) (s u : State), (s.pow k.val).stretch = true →
    u = s.setPow k.val { s.pow k.val with stretch := false } →
    Completes (.droopLong k) s fun t =>
      t.sclk = (s.setSck k.val { s.sck k.val with stc := ((s.sck k.val).stc + 16) % 2 ^ 32 }).sclk ∧
      t.regs.thermStat = s.regs.thermStat ||| 2 ^ 7 ||| 2 ^ (16 + k.val) ∧
      ∃ x, t.power = (u.setPow k.val x).power ∧ x.ladder = min ((u.pow k.val).ladder + 1) 22 ∧
        x.lp = ladderLp x.ladder ∧ x.actLim = ladderLimit (if s.hbm4 k.val then 2048 else 1024) x.ladder) ∧
  (∀ (k : Fin 16) (cycles : Fin 65) (s : State), (s.pow k.val).stretch = true →
    exec (.droopEnd k cycles) s = .next ((s.setPow k.val { s.pow k.val with stretch := false }).setSck k.val
      { s.sck k.val with stc := ((s.sck k.val).stc + (cycles.val + 3) / 4) % 2 ^ 32 }))

/-! ## Heat -/

/-- Heat: a housekeeping round samples DW_THR_ACK and forms the rail power (R393), and trips every powered stack one of whose
diodes reads a valid 105 degrees or more (R405); a tripped stack that is not held and has been below 90 degrees for 100 ms
restarts enforcing at LT_RESTART, and a held one does not (R408, R409). -/
def Obligations.HeatEventsComplete : Prop :=
  (∀ (r : Round) (s : State), s.pins.porst = false → s.regs.roundNext ≤ s.clk.ticks →
    Completes (.housekeepingRound r) s fun t =>
    t.pins.thrAck = r.thrAck.toNat ∧ t.regs.roundAt = s.now ∧
      t.regs.railPower = ([60, 61, 62].map (fun i => (((r.adc[i]?).getD none).getD 0).toNat)).sum ∧
      ∀ k i v, k < 16 → (i = 2 * k ∨ i = 2 * k + 1) → (s.sup k).enable = true → (s.sup k).fenced = false →
        (s.heatOf k).injRounds = 0 → (r.adc[i]?).getD none = some v → 840 ≤ v → v ≤ 1200 →
        (t.heatOf k).st = .tripped) ∧
  (∀ (k : Fin 16) (s : State) (at_ : Nat), (s.heatOf k.val).st = .tripped → (s.heatOf k.val).held = false →
    (s.heatOf k.val).cool = some at_ → at_ + ms 100 ≤ s.clk.ticks →
    Completes (.thermalRestart k) s fun t => t.heat = (s.setHeat k.val { s.heatOf k.val with
      st := .enforce, lt := s.setting 0x5207 0, tl := s.clk.ticks, cool := none, held := false, released := false }).heat) ∧
  (∀ (k : Fin 16) (s : State), (s.heatOf k.val).held = true → exec (.thermalRestart k) s = .next s)

/-! ## Sleep and clocks -/

/-- Sleep: a quire idle for SLEEP_IDLE of the timebase parks its leaves (R147); a channel with both leaves parked and quiet,
or a drained channel of a tripped stack, enters self-refresh, once its open merge entries are closed, and a stack whose
trained channels all have is asleep (R148, R149, R330, R405); its domains go off after GATE_DELAY and lose what is not
retained (R144, R149); they come on and age the row counters by what was missed (R145); the PLL's lock ends the wake (Table
5.4). -/
def Obligations.SleepEventsComplete : Prop :=
  (∀ (q : Fin 1024) (s : State), s.setting 0x5001 0 ≠ 0 → s.stopping = false → (s.sup (stackOf q.val)).trained = true →
    s.quireIdle q.val = true → (∃ since, Tab.find? s.idle q.val = some since ∧ since + s.setting 0x5001 0 * 1000 ≤ s.now) →
    Completes (.quirePark q) s fun t => (∀ l ∈ s.parkLeaves q.val, (t.leaf l).parked = true) ∧
      ∀ l, l ∉ s.parkLeaves q.val → t.leaf l = s.leaf l) ∧
  (∀ (c : Fin 512) (s : State) (k : Nat), k = c.val / 32 → (s.sup k).trained = true →
    (s.upChans k).contains (c.val % 32) = true → (s.sck k).pll = .locked → (s.sck k).switching = false →
    (s.sck k).asleep = false → (s.sck k).sr.contains (c.val % 32) = false →
    (∀ l, l / 2 = c.val → (s.leaf l).queue = [] ∧ (s.leaf l).inflight = [] ∧ (s.care l).merge = []) →
    ((s.heatOf k).st = .tripped ∨
      (∀ l, l / 2 = c.val → (s.leaf l).parked = true ∧ s.refreshQuiet l = true) ∧
        (s.chan c.val).gap = false ∧ s.retraining c.val = false ∧ s.setting 0x5002 k ≠ 0 ∧ s.stopping = false) →
    Completes (.selfRefreshEntry c) s fun t => (t.sck k).sr = (s.sck k).sr ++ [c.val % 32] ∧
      t.leaves = ((s.closeBanks (2 * c.val)).closeBanks (2 * c.val + 1)).leaves ∧
      ((t.sck k).asleep = true ↔ ∀ x ∈ s.upChans k, x = c.val % 32 ∨ x ∈ (s.sck k).sr) ∧
      ((t.sck k).asleep = true → (t.sck k).pll = .standby ∧ (t.sck k).asleepAt = s.clk.ticks)) ∧
  (∀ (k : Fin 16) (s : State) (c : StackClk), c = s.sck k.val → c.asleep = true → c.waking = false → c.doms ≠ 0 →
    s.stopping = false → s.setting 0x5002 k.val = 2 → c.phase = .none →
    (∀ x ∈ s.leaves, x.1 / 64 = k.val → x.2.queue = [] ∧ x.2.inflight = []) →
    c.asleepAt + s.setting 0x5003 k.val * 1000 ≤ s.clk.ticks →
    Completes (.domainGateOff k) s fun t => (t.sck k.val).doms = 0 ∧ (t.sck k.val).missed = 0 ∧ t.prots = s.prots ∧
      t.leaves = s.leaves.map (fun x => (x.1, if x.1 / 64 = k.val then { Leaf.reset with parked := x.2.parked } else x.2))) ∧
  (∀ (k : Fin 16) (s : State), (s.sck k.val).waking = true → (s.sck k.val).doms = 0 →
    Completes (.domainPowerGood k) s fun t => (t.sck k.val).doms = s.allDoms k.val ∧ (t.sck k.val).missed = 0 ∧
      t.prots = (s.ageStack k.val ((s.sck k.val).missed + s.agesDue k.val) none).prots) ∧
  (∀ (k : Fin 16) (s : State), (s.sck k.val).waking = true → (s.sck k.val).doms ≠ 0 → s.clk.refLost = false →
    (s.sck k.val).switching = false → ((s.sck k.val).pll = .locking ∨ (s.sck k.val).pll = .locked) →
    Completes (.pllLocked k) s fun t => (t.sck k.val).pll = .locked ∧ (t.sck k.val).asleep = false ∧
      (t.sck k.val).waking = false ∧ (t.sck k.val).sr = [] ∧ (t.sck k.val).stc = s.stOf k.val s.now) ∧
  (∀ (k : Fin 16) (s : State), (s.sck k.val).waking = false → (s.sck k.val).asleep = true → (s.sck k.val).doms ≠ 0 →
    s.clk.refLost = false → (s.sck k.val).switching = false → (s.sck k.val).pll = .locking →
    exec (.pllLocked k) s = .next (s.setSck k.val { s.sck k.val with pll := .locked }))

/-- Losses of clocks: a PLL that loses lock sleeps its stack and relocks; a third failed relock within 1 s holds the stack
(R141); without REF_CLK every running stack is in self-refresh with its PLL in standby; once it has run again for 1 ms those
PLLs relock (R140); a loss of NT_LOCK clears ALIGNED (R42). -/
def Obligations.ClockLossesComplete : Prop :=
  (∀ (k : Fin 16) (s : State), (s.sck k.val).pll = .locked → (s.sck k.val).asleep = false →
    Completes (.pllLockLoss k false) s fun t => (t.sck k.val).pll = .locking ∧ (t.sck k.val).waking = true ∧
      ∀ x ∈ s.upChans k.val, x ∈ (t.sck k.val).sr) ∧
  (∀ (k : Fin 16) (s : State) (late : List Nat), (s.sck k.val).pll = .locking →
    late = (s.sck k.val).fails.filter (fun t => decide (s.now < t + 1000000000)) →
    Completes (.pllLockLoss k true) s fun t => (t.sck k.val).fails = s.now :: late ∧
      (2 ≤ late.length → (t.sck k.val).pllHold = true ∧ (t.sck k.val).pll = .standby ∧ (t.sck k.val).waking = false) ∧
      (late.length < 2 → (t.sck k.val).pll = .locking ∧ (t.sck k.val).pllHold = (s.sck k.val).pllHold)) ∧
  (∀ s : State, s.clk.refLost = false →
    Completes .refClkLoss s fun t =>
      t.clk = { s.clk with refLost := true, refLostAt := s.clk.ticks, incLast := s.clk.inc } ∧
      ∀ k, k < 16 → (s.sck k).pll = .locked → (t.sck k).pll = .standby ∧ (t.sck k).lostRef = true ∧
        ∀ x ∈ s.upChans k, x ∈ (t.sck k).sr) ∧
  (∀ s : State, s.clk.refLost = true → s.clk.refLostAt + us 1000 ≤ s.clk.ticks →
    Completes .refClkRestored s fun t => t.clk = { s.clk with refLost := false } ∧
      ∀ k, k < 16 → (s.sck k).lostRef = true → (t.sck k).lostRef = false ∧
        ((s.sck k).pll = .standby → (s.sck k).doms ≠ 0 → (t.sck k).pll = .locking)) ∧
  (∀ s : State, s.clk.ntLock = true →
    Completes .ntLockLoss s fun t => t.clk = { s.clk with ntLock := false, aligned := false })

/-! ## Operating points -/

/-- Operating points: the switch, whose channels are all in self-refresh and which waits for the last run, ends at the point
it switched to (R154, R155, R161; that OPCUR turns there is the model's choice, assumption 125); a regulator acknowledge ends
a ramp or starts the switch behind it (R154, R160); 200 us without one roll the transition back and set OPRB (R156); 200 us
without the acknowledge of the rollback leave the stack in self-refresh with OPFAIL (R157). -/
def Obligations.OperatingPointEventsComplete : Prop :=
  (∀ (k : Fin 16) (s : State) (rb : Bool) (pt : Nat), (s.sck k.val).phase = .switching rb → s.clk.refLost = false →
    (s.sck k.val).phaseAt ≤ s.clk.ticks → pt = (if rb then 0 else (s.sck k.val).optgt) →
    Completes (.frequencySwitchEnd k) s fun t => (t.sck k.val).opcur = pt ∧ (t.sck k.val).optgt = pt ∧
      (t.sck k.val).phase = (if pt = 1 then .rampDown else .none) ∧
      if (s.heatOf k.val).st = .tripped then (t.sck k.val).asleep = true ∧ (t.sck k.val).pll = .standby ∧
        (t.sck k.val).sr = s.upChans k.val
      else (t.sck k.val).asleep = false ∧ (t.sck k.val).pll = .locked ∧ (t.sck k.val).sr = []) ∧
  (∀ (k : Fin 16) (s : State) (c : StackClk), c = s.sck k.val → (c.phase = .rampUp ∨ c.phase = .rampDown) →
    c.withholdAck = true → exec (.regulatorAck k) s = .next (s.setSck k.val { c with withholdAck := false })) ∧
  (∀ (k : Fin 16) (s : State) (c : StackClk) (rb : Bool), c = s.sck k.val → c.phase = (if rb then .rollUp else .rampUp) →
    c.withholdAck = false → c.opcur ≠ 0 →
    Completes (.regulatorAck k) s fun t =>
      if c.asleep then (t.sck k.val).opcur = 0 ∧ (t.sck k.val).optgt = 0 ∧ (t.sck k.val).phase = .none
      else (t.sck k.val).phase = .switching rb ∧ (t.sck k.val).pll = .locking ∧ (t.sck k.val).sr = t.upChans k.val ∧
        ∀ i, i < 64 → (t.leaf (k.val * 64 + i)).busFree ≤ 120 * (t.sck k.val).phaseAt) ∧
  (∀ (k : Fin 16) (s : State) (c : StackClk), c = s.sck k.val → (c.phase = .rampUp ∨ c.phase = .rollUp) →
    c.withholdAck = false → c.opcur = 0 →
    Completes (.regulatorAck k) s fun t => (t.sck k.val).opcur = 0 ∧ (t.sck k.val).optgt = 0 ∧
      (t.sck k.val).phase = .none) ∧
  (∀ (k : Fin 16) (s : State) (c : StackClk), c = s.sck k.val → (c.phase = .rampDown ∨ c.phase = .rollDown) →
    c.withholdAck = false →
    Completes (.regulatorAck k) s fun t => (t.sck k.val).opcur = c.opcur ∧ (t.sck k.val).optgt = c.opcur ∧
      (t.sck k.val).phase = .none) ∧
  (∀ (k : Fin 16) (s : State) (c : StackClk), c = s.sck k.val → (c.phase = .rampUp ∨ c.phase = .rampDown) →
    s.swapDue = false → c.phaseAt + us 200 ≤ s.clk.ticks →
    Completes (.regulatorAckTimeout k) s fun t => (t.sck k.val).oprb = true ∧ (t.sck k.val).optgt = c.opOld ∧
      (t.sck k.val).phase = (if c.opOld = 0 then .rollUp else .rollDown) ∧
      t.bank.opPoints = Tab.set 0 s.bank.opPoints k.val c.opOld) ∧
  (∀ (k : Fin 16) (s : State) (c : StackClk), c = s.sck k.val → (c.phase = .rollUp ∨ c.phase = .rollDown) →
    c.phaseAt + us 200 ≤ s.clk.ticks → c.pll ≠ .off →
    Completes (.rollbackAckTimeout k) s fun t => (t.sck k.val).opfail = true ∧ (t.sck k.val).phase = .none ∧
      (t.sck k.val).pll = .standby ∧ ∀ x ∈ s.upChans k.val, x ∈ (t.sck k.val).sr)

/-! ## Sheets and quires -/

/-- Sheets: a boundary advances the sheet number, whose low byte is DW_SHEET_LSB, takes the stepped time where the timebase
steps, and takes the landing sets, and no other, out of the list (R217-R221, R229, R230); a boundary's only setting record
becomes the active one (R222, R232); an aligned timebase more than 10 us off is no longer aligned (R139). -/
def Obligations.SheetEventsComplete : Prop :=
  (∀ (nt : NetTime) (s : State) (b start : Nat), b = s.nextBoundary → s.pins.porst = false → b ≤ s.now →
    start = (if !s.clk.aligned && nt.lock && s.clk.ntLock && nt.valid && decide (100000000 ≤ s.clk.ntHigh) then nt.tod else b) →
    Completes (.sheetBoundary nt) s fun t => t.clk.sheetNum = (s.clk.sheetNum + 1) % 2 ^ 48 ∧
      t.clk.lsb = t.clk.sheetNum % 256 ∧ t.clk.sheetStart = start ∧ t.clk.defer = s.pins.stopped ∧
      ∀ c ∈ s.sets, (c ∈ t.sets ↔ ¬(s.pins.stopped = false ∧ c.committed = true ∧ c.time ≤ b ∧ c.notBefore ≤ start ∧
        s.setHeld c = false))) ∧
  (∀ (nt : NetTime) (s : State) (c : ChangeSet) (code inst v tk : Nat), s.pins.porst = false → s.nextBoundary ≤ s.now →
    s.clk.aligned = true → s.landing_ s.nextBoundary s.nextBoundary = [c] → c.items = [⟨.setting code inst v, tk⟩] →
    Completes (.sheetBoundary nt) s fun t => t.bank.settings = (s.bank.apply (c.sheetNs s.bank.sheetNs) (.setting code inst v)).settings ∧
      t.bank.windows = s.bank.windows ∧ t.bank.regions = s.bank.regions ∧ t.bank.tints = s.bank.tints ∧
      t.bank.policers = s.bank.policers ∧ t.bank.gates = s.bank.gates) ∧
  (∀ (nt : NetTime) (s : State) (err : Int), s.clk.aligned = true → nt.lock = true → nt.valid = true →
    err = (nt.tod : Int) * 2 ^ 32 - s.clk.tb → (10000 * 2 ^ 32 < err ∨ err < -(10000 * 2 ^ 32)) →
    exec (.timebaseErrorLimit nt) s = .next { s with clk := { s.clk with aligned := false, ntTod := nt.tod, ntValid := true } })

/-- Quires: a drained quire is ZEROING and each member leaf asks for its ZERO activity (R66, R67), which queues its runs of 8
bursts as Lake writes, the one at the leaf's progress next (R334, R105); such a run leaves its words at zero with valid check
bits, no other word changed, and the progress behind it (R334); when every leaf's fill is through, the quire is FREE and QGEN
has advanced (R67), each leaf's tracker entries are healed (R343), no word changes, and a quire of one leaf has it parked
(R147). -/
def Obligations.QuireEventsComplete : Prop :=
  (∀ (q : Fin 1024) (s : State), (s.bank.quire q.val).qstate = .draining → s.quireDrained q.val = true →
    Completes (.quireDrainEnd q) s fun t =>
      t.bank.quires = (s.bank.setQuire q.val { s.bank.quire q.val with qstate := .zeroing }).quires ∧
      ∀ l ∈ s.membersOf q.val (s.bank.quire q.val).qk, (t.care l).zeroing = true ∧ (t.care l).filled = false ∧
        (t.care l).raised.any (fun m => m.act == .zero) = true) ∧
  (∀ (q : Fin 1024) (s : State) (ls : List Nat), (s.bank.quire q.val).qstate = .zeroing →
    ls = s.membersOf q.val (s.bank.quire q.val).qk → (∀ l ∈ ls, (s.care l).runs .zero = true ∧ s.zeroDone l = true) →
    Completes (.zeroFillEnd q) s fun t =>
      t.bank.quires = (s.bank.setQuire q.val { QuireRec.none with qgen := ((s.bank.quire q.val).qgen + 1) % 65536 }).quires ∧
      (ls = [q.val] → (t.leaf q.val).parked = true) ∧
      (∀ l ∈ ls, (t.care l).filled = true ∧ ∀ x ∈ (t.care l).track, x.2.healed = true ∧ x.2.queued = false) ∧
      t.mem = s.mem ∧ t.chk = s.chk) ∧
  (∀ (leaf : Nat) (s : State), (s.care leaf).zeroing = true → (s.care leaf).runs .zero = true → s.zeroDone leaf = false →
    s.freeEntries leaf ≠ 0 → (∀ e ∈ (s.leaf leaf).queue, e.src ≠ .zero) →
    s.channelAsleep (channelOf leaf) = false →
    ∃ e, ((s.feedZero leaf).leaf leaf).queue.getLast? = some e ∧ e.src = .zero ∧ e.wr = true ∧ e.lake = true ∧
      e.la = (s.care leaf).zeroAt ∧ e.nb = 8 ∧ e.words = zeroRun) ∧
  (∀ (l : Fin 1024) (s : State) (e : Entry), s.leafRuns l.val = true → s.escReady l.val = false →
    firstEntry columnBefore ((s.leaf l.val).queue.filter (s.columnOk l.val (s.leaf l.val))) = some e →
    Memory.wf s = true → e.src = .zero → e.wr = true → e.words = zeroRun → e.nb = 8 → e.raw = [] → e.la % 256 = 0 → e.la < 2 ^ 31 →
    Completes (.columnRun l) s fun t => (t.care l.val).zeroAt = e.la + 256 ∧
      ∀ leaf la, la < 2 ^ 31 → t.storedWord leaf la =
        if leaf = l.val ∧ e.la ≤ la ∧ la < e.la + 256 then (0, 0xFF) else s.storedWord leaf la)

/-! ## Hosts and their pages -/

/-- Pages: the doorbell takes a tail that does not move back and leaves at most 32 commands, and sets TAILERR else (R434);
the completion head frees entries (R438); a write without the right is an access error (R38). -/
def Obligations.PageWritesComplete : Prop :=
  (∀ (page : Fin 521) (src : Fin 16) (v : BitVec 32) (s : State) (p : Page) (n : Nat), s.pins.porst = false →
    s.pageFull page.val src.val = true → s.pagesOff = false → p = s.page page.val → p.pstate ≠ .closed → n = v.toNat % 64 →
    ringUsed p.cmdTail p.cmdHead ≤ ringUsed n p.cmdHead → ringUsed n p.cmdHead ≤ 32 →
    Completes (.mbCmdTailWrite page src v) s fun t => (t.page page.val).cmdTail = n ∧
      (t.page page.val).tailErr = p.tailErr) ∧
  (∀ (page : Fin 521) (src : Fin 16) (v : BitVec 32) (s : State) (p : Page) (n : Nat), s.pins.porst = false →
    s.pageFull page.val src.val = true → s.pagesOff = false → p = s.page page.val → n = v.toNat % 64 →
    (ringUsed n p.cmdHead < ringUsed p.cmdTail p.cmdHead ∨ 32 < ringUsed n p.cmdHead) →
    Completes (.mbCmdTailWrite page src v) s fun t => t.pages = (s.setPage page.val { p with tailErr := true }).pages ∧
      t.serviceq = s.serviceq) ∧
  (∀ (page : Fin 521) (src : Fin 16) (v : BitVec 32) (s : State) (p : Page) (n : Nat), s.pins.porst = false →
    s.pageFull page.val src.val = true → s.pagesOff = false → p = s.page page.val → p.pstate ≠ .closed → n = v.toNat % 64 →
    ringUsed p.cplTail n ≤ ringUsed p.cplTail p.cplHead →
    Completes (.mbCplHeadWrite page src v) s fun t => (t.page page.val).cplHead = n) ∧
  (∀ (page : Fin 521) (src : Fin 16) (v : BitVec 32) (s : State), s.pins.porst = false →
    s.pageFull page.val src.val = false →
    exec (.mbCmdTailWrite page src v) s = .next (s.accErr src.val (pageOffset page.val + 0xC00) true false) ∧
    exec (.mbCplHeadWrite page src v) s = .next (s.accErr src.val (pageOffset page.val + 0xC0C) true false))

/-- Hosts: a host that sends no heartbeat for HB_TMO, or whose link goes down, is lost: its lease starts, its pages freeze,
their open sets are discarded and their epochs move on (R450, R451); a heartbeat or its link brings it back (R455); the end
of its lease commits the close of every tenant it still holds (R452). -/
def Obligations.HostEventsComplete : Prop :=
  (∀ (h : Fin 8) (i : Instr) (s : State), s.serving = true → (s.host h.val).lost = false →
    (i = .hostLinkDown h ∨ (i = .heartbeatTimeout h ∧ (s.host h.val).watched = true ∧
      (s.host h.val).beat + ms (10 * s.setting 0x6002 h.val) ≤ s.clk.ticks)) →
    Completes i s fun t =>
      t.hosts = (s.setHost h.val { s.host h.val with lost := true, lostAt := s.clk.ticks, leaseOn := true }).hosts ∧
      (∀ p ∈ s.heldPages h.val, (t.page p).pstate = .frozen ∧ (t.page p).epoch = ((s.page p).epoch + 1) % 65536) ∧
      ∀ c ∈ t.sets, c.committed = true ∨ c.page ∉ s.heldPages h.val) ∧
  (∀ (h : Fin 8) (s : State), s.pins.porst = false → s.pagesOff = false →
    Completes (.mbLeaseWrite h (h.castLE (by omega))) s fun t =>
      t.hosts = (s.setHost h.val { s.host h.val with lost := false, leaseOn := false, beat := s.clk.ticks }).hosts) ∧
  (∀ (h : Fin 8) (s : State), s.serving = true → (s.host h.val).lost = true →
    Completes (.hostLinkUp h) s fun t =>
      t.hosts = (s.setHost h.val { s.host h.val with lost := false, leaseOn := false, beat := s.clk.ticks }).hosts) ∧
  (∀ (h : Fin 8) (s : State), s.serving = true → (s.host h.val).lost = true → (s.host h.val).leaseOn = true →
    (s.host h.val).lostAt + ms (1000 * s.setting 0x6003 h.val) ≤ s.clk.ticks → s.leaseTenants h.val ≠ [] →
    (s.leaseTenants h.val).length ≤ 256 → s.ownRoom (s.leaseTenants h.val).length = true →
    Completes (.leaseExpiry h) s fun t => t.hosts = (s.setHost h.val { s.host h.val with leaseOn := false }).hosts ∧
      ∃ c, t.sets = s.sets ++ [c] ∧ c.committed = true ∧
        c.items.map (fun i => i.what) = (s.leaseTenants h.val).map Staged.tenantClose)

/-! ## Resets and boot -/

/-- Power-on: PORST_N leaves nothing of the state but the queue of commands (R496); its release starts the boot ROM, which
loads the slot it chooses, or stops with BOOTFAIL 1 where the device does not answer and 3 without a slot (Table 16.6). -/
def Obligations.PowerOnComplete : Prop :=
  (∀ s : State, exec .powerOnReset s = .next { State.reset with pending := s.pending, freeCount := s.freeCount }) ∧
  (∀ (dev : FlashDev) (s u : State), s.pins.porst = true →
    u = { s with pins := { s.pins with porst := false }, boot := { s.boot with dev := dev, coreReset := false } } →
    Completes (.powerOnRelease dev) s fun t => t.pins.porst = false ∧ t.boot.coreReset = false ∧
      if dev.answers = false then t.bootFail = 1 ∧ t.boot.firmware = false ∧ t.boot.loaded = none
      else if dev.sizeMiB < 16 ∨ 256 < dev.sizeMiB then t.bootFail = 1 ∧ t.boot.firmware = false ∧ t.boot.loaded = none
      else if dev.eraseOk = false then t.bootFail = 2 ∧ t.boot.firmware = false ∧ t.boot.loaded = none
      else match u.chooseSlot with
        | none => t.bootFail = 3 ∧ t.boot.firmware = false ∧ t.boot.loaded = none
        | some i => t.boot.firmware = true ∧ t.boot.loaded = some i ∧ t.boot.seqAt = some s.clk.ticks)

/-- Core resets (R47, R487, R491, R492, R496): CHIP_WRST_N, a critical state error and HOSTRST.CORE clear DW_READY and all
that is outstanding, keep the transfer area, the rails and the timebase's time, with no gather to end the stacks' words too,
and record their source; the release ends the reset after 32 AON_CLK cycles. -/
def Obligations.CoreResetsComplete : Prop :=
  (∀ (i : Instr) (s : State) (code : Nat), s.pins.porst = false →
    (i = .chipWarmReset ∧ code = 2 ∨ (∃ b, i = .criticalStateError b) ∧ code = 4 ∨
      (∃ src v, i = .hostrstCore src v ∧ (s.ownerSrc src.val || s.debugSrc src.val) = true ∧
        v.toNat / 2 ^ 24 = 0x5A ∧ v.toNat % 2 = 1 ∧ s.boot.coreReset = false) ∧ code = 3) →
    Completes i s fun t => t.pins.ready = false ∧ t.boot.coreReset = true ∧ t.boot.firmware = false ∧ t.reqs = [] ∧
      t.parts = [] ∧ t.sets = [] ∧ t.tickets = [] ∧ t.stores = [] ∧ t.xfer = s.xfer ∧
      (s.pins.ready = false ∨ s.lake.gathers = [] → t.mem = s.mem ∧ t.chk = s.chk) ∧
      t.clk.tb = s.clk.tb ∧ t.clk.ticks = s.clk.ticks ∧ t.heat = s.heat ∧ t.boot.dev = s.boot.dev ∧
      t.supply = s.supply.map (fun x => (x.1, x.2.kept)) ∧ fld (Tab.num t.boot.bkp 0) 8 4 = code ∧
      (t.pins.chipRst = true ∨ code ≠ 2)) ∧
  (∀ s : State, s.pins.porst = false → s.boot.coreReset = true → s.boot.fwAt + 128 ≤ s.clk.ticks →
    Completes .coreResetRelease s fun t => t.boot.coreReset = false ∧ t.pins.chipRst = false ∧ t.pins.ready = s.pins.ready)

/-- Mordant resets (R241, R489, R492, R509): the watchdog, a hand-over that is not over after 20 ms and SWRST.MORDANT discard
every change set and stop the firmware; a trial that ran 60 s ends, and raises MIN_SVN where the image asks so (R504). -/
def Obligations.MordantResetsComplete : Prop :=
  (∀ (i : Instr) (s : State) (code : Nat),
    (i = .mordantWatchdogExpiry ∧ s.mordantUp = true ∧ code = 5 ∨
     i = .handoverTimeout ∧ s.mordantUp = true ∧ (∃ at_, s.boot.pauseAt = some at_ ∧ at_ + ms 20 ≤ s.clk.ticks) ∧ code = 7 ∨
     (∃ src v, i = .swrstMordant src v ∧ s.pins.porst = false ∧ s.boot.coreReset = false ∧
       (s.ownerSrc src.val || s.debugSrc src.val) = true ∧ v.toNat = 0xA5100000 ∧ bitAt s.regs.rstBusy 20 = false) ∧ code = 6) →
    Completes i s fun t => t.sets = [] ∧ t.stores = [] ∧ t.serviceq = [] ∧ t.boot.firmware = false ∧
      t.boot.mordantRst = true ∧ t.boot.mrstAt = s.clk.ticks ∧ t.regs.rstBusy = s.regs.rstBusy ||| 2 ^ 20 ∧
      fld (Tab.num t.boot.bkp 0) 8 4 = code ∧ t.tickets = s.tickets ∧ t.pages = s.pages ∧ t.bank = s.bank) ∧
  (∀ (s : State) (x : Slot), s.mordantUp = true → bitAt (Tab.num s.boot.bkp 1) 1 = true →
    s.boot.trialAt + 60000000000 ≤ s.now → x = s.slot (fld (Tab.num s.boot.bkp 1) 0 1) →
    Completes .trialEnd s fun t =>
      if x.raise = true ∧ s.boot.dev.minSvn < x.svn then t.boot.dev.minSvn = x.svn
      else t.boot.dev = s.boot.dev ∧ t.boot.bkp = (s.setBkp 1 1 1 0).boot.bkp)

/-- Block resets (R491-R495): a write of SWRST with its KEY starts the resets of the blocks it names, an XBAR's LAKE with it;
without the right it is an access error; the drain ends, once empty or after 20 us, and the block returns to service. -/
def Obligations.BlockResetsComplete : Prop :=
  (∀ (src : Fin 16) (v : BitVec 32) (i : Instr) (s : State),
    (i = .swrstStack src v ∨ i = .swrstLake src v ∨ i = .swrstXbar src v ∨ i = .swrstTrace src v) → s.pins.porst = false →
    s.boot.coreReset = false → (s.ownerSrc src.val || s.debugSrc src.val) = true → v.toNat / 2 ^ 24 = 0xA5 →
    bitAt v.toNat 20 = false → s.regs.rstBusy = 0 →
    Completes i s fun t => t.boot.drains = s.boot.drains ++ (swrstBlocks v.toNat).map (fun b => (b, s.clk.ticks, false)) ∧
      ∀ b, bitAt t.regs.rstBusy b = true ↔ b ∈ swrstBlocks v.toNat) ∧
  (∀ (src : Fin 16) (v : BitVec 32) (i : Instr) (s : State),
    (i = .swrstStack src v ∨ i = .swrstLake src v ∨ i = .swrstXbar src v ∨ i = .swrstMordant src v ∨ i = .swrstTrace src v) →
    s.pins.porst = false → (s.ownerSrc src.val || s.debugSrc src.val) = false →
    exec i s = .next (s.accErr src.val 0x100 true false)) ∧
  (∀ (b : Fin 22) (s : State) (t0 : Nat), s.boot.drains.find? (fun (x, _, e) => x == b.val && !e) = some (b.val, t0, false) →
    (b.val < 16 → (s.sck b.val).phase = .none) → (s.blockDrained b.val = true ∨ t0 + us 20 ≤ s.clk.ticks) →
    Completes (.blockResetDrainEnd b) s fun t =>
      t.boot.drains = s.boot.drains.map (fun (x, t, e) => (x, t, e || x == b.val)) ∧
      (16 ≤ b.val → b.val < 20 → (∀ x ∈ t.lake.tiles, halfOf x.2.stack ≠ b.val % 2) ∧
        ∀ x ∈ t.lake.accus, halfOf x.2.stack ≠ b.val % 2)) ∧
  (∀ (b : Fin 22) (s : State) (t0 : Nat), b.val ≠ 20 →
    s.boot.drains.find? (fun (x, _, e) => x == b.val && e) = some (b.val, t0, true) → t0 + 128 ≤ s.clk.ticks →
    (b.val < 16 → s.stackBack b.val = true) →
    Completes (.blockReturnToService b) s fun t => t.boot.drains = s.boot.drains.filter (fun (x, _, _) => x != b.val) ∧
      t.regs.rstBusy = s.regs.rstBusy &&& (0xFFFFFFFF - 2 ^ b.val)) ∧
  (∀ (b : Fin 22) (s u : State), b.val = 20 → bitAt s.regs.rstBusy 20 = true → s.boot.mrstAt + 128 ≤ s.clk.ticks →
    u = s.bootRom (fld (Tab.num s.boot.bkp 0) 8 4) → u.boot.firmware = true →
    Completes (.blockReturnToService b) s fun t => t.boot.mordantRst = false ∧ t.boot.handTicket = 0 ∧
      t.regs.rstBusy = u.regs.rstBusy &&& (0xFFFFFFFF - 2 ^ 20))

/-! ## Stack power and bring-up -/

/-- Stack power: the sequence enables stack k after k ms and STK_PG within 2 ms brings discovery (R497); a missing or fallen
STK_PG, or overcurrent of an unsettled pair, fences the stack at fault, or shuts both down while its partner is in its
inrush, to be tried once alone 10 ms later (R498, R499). -/
def Obligations.StackPowerComplete : Prop :=
  (∀ (k : Fin 16) (s : State) (p : Nat), s.boot.seqAt = some p → s.mordantUp = true → s.toPower k.val = true →
    (s.sup k.val).enable = false → (s.sup k.val).recoverAt = none → (s.sup (partner k.val)).recoverAt = none →
    p + ms k.val ≤ s.clk.ticks →
    exec (.stackPowerEnable k) s = .next (s.setSup k.val { s.sup k.val with
      enable := true, good := false, enableAt := s.clk.ticks, rstOutLow := true })) ∧
  (∀ (k : Fin 16) (disc : Discovery) (s : State), (s.sup k.val).enable = true → (s.sup k.val).good = false →
    s.clk.ticks ≤ (s.sup k.val).enableAt + ms 2 →
    Completes (.stackPowerGood k disc) s fun t => t.supply = (s.setSup k.val { s.sup k.val with
      good := true, goodAt := s.clk.ticks, disc := disc, stype := (if disc.stype ≤ 7 then disc.stype else 0),
      rate := disc.rate }).supply) ∧
  (∀ (k : Nat) (i : Instr) (s : State),
    ((∃ k' : Fin 16, k'.val = k ∧ i = .stackPgTimeout k') ∧ (s.sup k).enable = true ∧ (s.sup k).good = false ∧
       (s.sup k).enableAt + ms 2 ≤ s.clk.ticks ∨
     (∃ k' : Fin 16, k'.val = k ∧ i = .stackPgFall k') ∧ (s.sup k).enable = true ∧ (s.sup k).good = true ∨
     (∃ p : Fin 8, k / 2 = p.val ∧ i = .stackOvercurrent p) ∧ (s.sup k).enable = true ∧
       (s.settled k = false ∨ (s.sup (partner k)).enable = true ∧ s.settled (partner k) = false) ∧
       ((s.sup (partner k)).enable = false ∨ (s.sup (partner k)).enableAt < (s.sup k).enableAt)) →
    Completes i s fun t => ((s.sup k).enableAt ≠ 0 → (t.sup k).enable = false) ∧
      if s.inrush (partner k) then (t.sup k).recoverAt = some (s.clk.ticks + ms 10)
      else (t.sup k).fenced = true ∧ (t.sup k).recoverAt = none) ∧
  (∀ (p : Fin 8) (s : State), (∀ k, k / 2 = p.val → (s.sup k).enable = true → s.settled k = true) →
    Completes (.stackOvercurrent p) s fun t => t.supply = s.supply) ∧
  (∀ (p : Fin 8) (s : State) (a due : Nat), a / 2 = p.val → (s.sup a).recoverAt = some due → due ≤ s.clk.ticks →
    (s.sup (partner a)).recoverAt = none →
    Completes (.pairFaultRecovery p) s fun t => (t.sup a).fenced = true ∧
      (s.toPower (partner a) = true → (t.sup (partner a)).enable = true ∧ (t.sup (partner a)).enableAt = s.clk.ticks))

/-- Bring-up: training commits a calibration for each channel of the stack (R361-R368), and leaves an unsupported stack
untrained (R79); the import wait ends (R392); the quick check rejects a stack with a failed lane or an unsupported type or
rate, or brings it into service (R391); a leaf's fill zeroes it and no other leaf (R335), and one that no quire holds parks
(R147); DW_READY rises once all is brought up with a filled system leaf, and else the bring-up stops at BOOTFAIL 5 (R47,
R500). -/
def Obligations.BringUpComplete : Prop :=
  (∀ (k : Fin 16) (m : List ChanMeas) (hard : List Nat) (s : State), s.mordantUp = true → s.boot.importWait = none →
    s.trainWaits k.val = true → ((List.range k.val).filter s.trainWaits).length + s.trainStacks.length < 4 →
    s.ownRoom 32 = true → (s.sup k.val).rate ≠ 4 → (s.sup k.val).stype ≠ 0 → (s.geom k.val).channels ≠ 0 →
    Completes (.stackTraining k m hard) s fun t => (t.sup k.val).training = true ∧
      ∃ x, t.sets = s.sets ++ [x] ∧ x.committed = true ∧
        x.items.map (fun i => i.what) = (List.range (s.geom k.val).channels).map (fun c => Staged.cal (k.val * 32 + c)
          ((s.loadLost k.val).trainChan k.val c ((m.find? (fun (x : ChanMeas) => x.chan == c)).getD
            ⟨c, [], ⟨0, 2, 0, 2⟩, ⟨0, 2, 0, 2⟩⟩)).1 false)) ∧
  (∀ (k : Fin 16) (m : List ChanMeas) (hard : List Nat) (s : State), s.mordantUp = true → s.boot.importWait = none →
    s.trainWaits k.val = true → ((List.range k.val).filter s.trainWaits).length + s.trainStacks.length < 4 →
    s.ownRoom 32 = true → ((s.sup k.val).rate = 4 ∨ (s.sup k.val).stype = 0) →
    Completes (.stackTraining k m hard) s fun t => (t.sup k.val).quickDone = true ∧ (t.sup k.val).trained = false ∧
      ∀ c ∈ s.chansOf k.val, (t.chan c).cal.untrained = true) ∧
  (∀ (s : State) (w : Nat), s.boot.importWait = some w → s.mordantUp = true →
    (w ≤ s.clk.ticks ∨ ∀ k, k < 16 → s.toPower k = true → (s.sup k).good = true ∧
      ((s.sup k).imported = true ∨ s.importing k = true)) →
    exec .importWaitEnd s = .next { s with boot := { s.boot with importWait := none } }) ∧
  (∀ (k : Fin 16) (bad hard : List Nat) (s : State), s.mordantUp = true → (s.sup k.val).imported = true →
    (s.sup k.val).quickDone = false → s.settled k.val = true → (s.sup k.val).rstOutLow = false →
    (∀ lane : Bool, (lane = true ∨ (s.sup k.val).rate = 4 ∨ (s.sup k.val).stype = 0) →
      Completes (.quickCheck k lane bad hard) s fun t => t.supply = (s.setSup k.val { s.sup k.val with
        imported := false }).supply) ∧
    ((s.sup k.val).rate ≠ 4 → (s.sup k.val).stype ≠ 0 →
      Completes (.quickCheck k false bad hard) s fun t => (t.sup k.val).quickDone = true ∧
        (t.sup k.val).trained = !(s.upChans k.val).isEmpty ∧ (t.sup k.val).badSpares = bad)) ∧
  (∀ (l : Fin 1024) (s : State), s.fillDue l.val = true →
    Completes (.initialFill l) s fun t => (t.care l.val).filled = true ∧
      (s.quireAt l.val = none → s.sysLeaf ≠ some l.val → (t.leaf l.val).parked = true) ∧ ∀ leaf la, la < 2 ^ 31 →
      t.storedWord leaf la = if leaf = l.val then (0, 0xFF) else s.storedWord leaf la) ∧
  (∀ (s : State) (l : Nat), s.mordantUp = true → s.pins.ready = false → s.broughtUp = true → s.sysLeaf = some l →
    s.fillable l = true → (s.care l).filled = true → (s.ring 1).gap = none → (s.ring 2).gap = none →
    Completes .dwReadyRise s fun t => t.pins = { s.pins with ready := true, stopped := s.stopping }) ∧
  (∀ s : State, s.mordantUp = true → s.pins.ready = false → s.broughtUp = true →
    (∀ l, s.sysLeaf = some l → s.fillable l = false ∨ (s.care l).filled = false) →
    Completes .dwReadyRise s fun t => t.pins = s.pins ∧ t.bootFail = 5)

/-! ## Debug and records -/

/-- Debug stop: DBG_STOP_IN halts admission and raises DW_DBG_STOPPED (R43, R544); its release ends the stop once every latch
is clear, which aborts a scan with code 4 (R545, R549). -/
def Obligations.DebugStopComplete : Prop :=
  (∀ s : State, s.pins.porst = false →
    exec .debugStop s = .next { s with pins := { s.pins with stopIn := true, stopped := s.pins.stopped || s.pins.ready } }) ∧
  (∀ s : State, s.pins.latches = 0 → Completes .debugStopEnd s fun t =>
    t.pins = { s.pins with stopIn := false, stopped := false } ∧
    t.trace = (if s.trace.scanBusy then { s.trace with scanBusy := false, scanErr := true, scanCode := 4 }
      else s.trace)) ∧
  (∀ s : State, s.pins.latches ≠ 0 →
    exec .debugStopEnd s = .next { s with pins := { s.pins with stopIn := false } })

/-- Records: the buffer moves into the rings of the system leaf (R534); a run of dropped records leaves one GAP record
(R538); a new port window starts empty (R526); a crossing's SAMPLE record is written with the request met, or without one 1
ms later (R529, R530); the aperture shows a page of an area, zeros beyond it (R539); a scan that copied its domain is DONE
(R549). -/
def Obligations.RecordEventsComplete : Prop :=
  (∀ (s : State) (x : Rec) (rest : List Rec), s.trace.buffer = x :: rest → s.systemAwake = true →
    (x.at_ + ms 1 ≤ s.clk.ticks ∨ 4096 ≤ s.bufferBytes ∨ ∃ y ∈ s.trace.buffer, y.ring = 0 ∧ y.kind ≠ 0) →
    Completes .recordMove s fun t => t.trace.buffer = [] ∧ (rest = [] → 0 < x.len →
      t.mem = (s.storeSystem (areaBase x.ring + (s.ring x.ring).wr % ringSize x.ring) x.bytes).mem ∧
      (t.ring x.ring).wr = (s.ring x.ring).wr + 32 * x.len)) ∧
  (∀ (r : Fin 3) (s : State) (g : Gap), (s.ring r.val).gap = some g → s.gapEnds r.val g = true →
    Completes (.gapRecordWrite r) s fun t => ((s.ring r.val).seq ≠ 0 → (t.ring r.val).gap = none) ∧
      ∃ y, t.trace.buffer.getLast? = some y ∧ y.kind = 1 ∧ y.ring = r.val ∧ y.body = g.body) ∧
  (∀ (s : State) (w : Nat), w = s.now / 100000 → w ≠ s.regs.winNum → Completes .portWindowStart s fun t =>
    t.regs = { s.regs with winNum := w } ∧ t.ports.map (fun x => x.1) = s.ports.map (fun x => x.1) ∧
      ∀ x ∈ t.ports, (x.2.windows[w % 8]?).getD [] = []) ∧
  (∀ (u : Fin 16) (s : State) (x : Sampler), Tab.find? s.trace.samplers u.val = some x →
    ∀ y, y = { x with pendingAt := none, missed := 0, cand := none, skid := 0 } →
      (∀ req, x.cand = some req → Completes (.sampleTaken u) s fun t =>
        t.trace.samplers = Tab.put s.trace.samplers u.val y ∧
        t.trace.sampleStat = s.trace.sampleStat ||| 2 ^ u.val) ∧
      (∀ at_, x.cand = none → x.pendingAt = some at_ → at_ + ms 1 ≤ s.clk.ticks → Completes (.sampleTimeout u) s fun t =>
        t.trace.samplers = Tab.put s.trace.samplers u.val y ∧
        t.trace.sampleStat = s.trace.sampleStat ||| 2 ^ u.val)) ∧
  (∀ (s : State) (l : Nat), s.trace.apBusy = true → s.sysLeaf = some l → Completes .apertureReady s fun t =>
    t.trace.apBusy = false ∧ t.trace.apReady = true ∧
      if areaPages (s.trace.apSel % 4) ≤ s.trace.apSel / 4 then t.trace.apPage = []
      else t.trace.apPage.length = 512 ∧ ∀ i w, i < 512 →
        w = s.storedWord l (areaBase (s.trace.apSel % 4) + 4096 * (s.trace.apSel / 4) + 8 * i) →
        t.trace.apPage[i]? = some (decodeWord w.1 w.2).data.toNat) ∧
  (∀ s : State, s.trace.scanBusy = true →
    (48 ≤ fld s.trace.scanCtl 0 6 ∨ (s.care (fld s.trace.scanCtl 6 10)).runs .scan = true) →
    Completes .scanDone s fun t => t.trace.scanBusy = false ∧ t.trace.scanDone = true ∧ t.trace.scanBase = s.freeCount ∧
      t.freeCount = s.freeCount + 1)

/-! ## Registers -/

/-- Registers with a row of their own: TB_CAP takes the timebase (R556); RING_RD moves forward, and not beyond WR (R539); a
write of RING_AP_SEL starts a copy; SCAN_CTL starts a scan of an unlocked, stopped chip, and reports code 2 or 1 else (R548);
the LO word of a latched pair fills the reader's holding register (R518). -/
def Obligations.RegisterRowsComplete : Prop :=
  (∀ (src : Fin 16) (v : BitVec 32) (s : State), s.pins.porst = false → s.boot.coreReset = false → src.val ≤ 8 →
    v.getLsbD 0 = true →
    exec (.tbSnap src v) s = .next { s with regs := { s.regs with
      tbCap := s.now % 2 ^ 64
      tbCapStat := src.val + put s.clk.aligned.toNat 4 1 + put ((fld s.regs.tbCapStat 8 8 + 1) % 256) 8 8 } }) ∧
  (∀ (r : Fin 3) (src : Fin 16) (v : BitVec 32) (s : State) (g : Ring) (d : Nat), s.pins.porst = false →
    s.boot.coreReset = false → s.debugRight src.val = true → g = s.ring r.val →
    d = (v.toNat + 2 ^ 32 - g.rd % 2 ^ 32) % 2 ^ 32 →
    (g.wr - g.rd < d → exec (.ringRdWrite r src v) s = .next (s.setRing r.val { g with badrd := true })) ∧
    (d ≤ g.wr - g.rd → 0 < d → Completes (.ringRdWrite r src v) s fun t => (t.ring r.val).rd = g.rd + d ∧
      (r.val ≠ 0 → t = s.setRing r.val { g with rd := g.rd + d }))) ∧
  (∀ (src : Fin 16) (v : BitVec 32) (s : State), s.pins.porst = false → s.boot.coreReset = false →
    s.debugRight src.val = true →
    exec (.ringApSelWrite src v) s = .next { s with trace := { s.trace with
      apSel := v.toNat % 2 ^ 19, apReady := false, apBusy := true } }) ∧
  (∀ (src : Fin 16) (v : BitVec 32) (s : State), s.pins.porst = false → s.boot.coreReset = false →
    s.debugRight src.val = true → v.getLsbD 16 = true → s.trace.scanBusy = false →
    Completes (.scanCtlStart src v) s fun t => t.trace.scanCtl = v.toNat % 2 ^ 16 ∧
      (s.trace.unlocked = false → t.trace.scanErr = true ∧ t.trace.scanCode = 2 ∧ t.trace.scanBusy = false) ∧
      (s.trace.unlocked = true → s.pins.stopped = false → t.trace.scanErr = true ∧ t.trace.scanCode = 1 ∧
        t.trace.scanBusy = false) ∧
      (s.trace.unlocked = true → s.pins.stopped = true → 48 ≤ v.toNat % 64 → s.domainOn (v.toNat % 64) = true →
        t.trace.scanBusy = true ∧ t.trace.scanDone = false ∧ t.trace.scanCode = 0)) ∧
  (∀ (src : Fin 16) (off : BitVec 25) (s : State) (ws : List Nat) (h : Hold),
    h = ⟨off.toNat, ws.getD 1 0, ws.getD 2 0, ws.getD 3 0⟩ → s.pins.porst = false → assigned off.toNat = true →
    s.readRight src.val off.toNat = true → s.pairRead off.toNat = some ws → s.heldBelow src.val off.toNat = false →
    exec (.loWordRead src off) s = .next { s with
      regs := { s.regs with holds := Tab.set Hold.reset s.regs.holds src.val h } })

/-- Every other register write: a reserved offset sets ADDRERR and a missing right RIGHTERR, and neither has another effect
(R38, R554, R555); a word of the transfer area or of host storage takes the value; a W1C register keeps the bits not written
as 1 (R522); IRQ_EN keeps its assigned bits. -/
def Obligations.RegisterWritesComplete : Prop :=
  (∀ (src : Fin 16) (off : BitVec 25) (v : BitVec 32) (s : State), s.pins.porst = false → assigned off.toNat = false →
    exec (.registerWrite src off v) s = .next (s.accErr src.val off.toNat true true)) ∧
  (∀ (src : Fin 16) (off : BitVec 25) (v : BitVec 32) (s : State), s.pins.porst = false → assigned off.toNat = true →
    off.toNat ≠ 0x100 → off.toNat ≠ 0x104 → s.writeRight src.val off.toNat = false →
    exec (.registerWrite src off v) s = .next (s.accErr src.val off.toNat true false)) ∧
  (∀ (src : Fin 16) (off : BitVec 25) (v : BitVec 32) (s : State), s.pins.porst = false → assigned off.toNat = true →
    s.writeRight src.val off.toNat = true → (s.boot.coreReset = false ∨ aonOffset off.toNat = true) →
    (0x28000 ≤ off.toNat → off.toNat < 0x2C000 → exec (.registerWrite src off v) s = .next { s with
      hostMem := putWordCells s.hostMem (off.toNat - 0x28000) v.toNat }) ∧
    (0x2C000 ≤ off.toNat → off.toNat < 0x30000 → exec (.registerWrite src off v) s = .next { s with
      xfer := putWordCells s.xfer (off.toNat - 0x2C000) v.toNat }) ∧
    (off = 0x54 → exec (.registerWrite src off v) s = .next { s with regs := { s.regs with
      stainStat := w1c s.regs.stainStat v.toNat 0xFFFF007F } }) ∧
    (off = 0x58 → exec (.registerWrite src off v) s = .next { s with regs := { s.regs with
      thermStat := w1c s.regs.thermStat v.toNat 0xFFFF03F7 } }) ∧
    (off = 0x44 → exec (.registerWrite src off v) s = .next { s with regs := { s.regs with
      irqEn := v.toNat &&& 0xFD00 } })) ∧
  (∀ (m : List Host.Cell) (o v i : Nat), Tab.rising m = true → i < 4 →
    Tab.get (0 : Byte) (putWordCells m o v) (o + i) = BitVec.ofNat 8 (v / 256 ^ i))

/-! ## Mailbox commands that stage -/

/-- Record commands (R224, R225): each joins its record, as its arguments give it, to the page's open set, and leaves the
active bank as it is. -/
def Obligations.RecordCommandsStage : Prop :=
  ∀ (i : Instr) (p : Fin 521) (s : State) (c : Cmd) (w : Staged), s.accepts i c →
    (i = .regionSet p ∧ w = .region c.tenant c.index (Region.ofBits (c.record 16)) ∨
     i = .tintSet p ∧ c.index ≠ 16 ∧ w = .tint c.index (Tint.ofBits (c.record 8)) ∨
     i = .tintSet p ∧ c.index = 16 ∧ w = .markTints (c.b 8) (c.b 9) ∨
     i = .portSet p ∧ w = .port c.index ⟨c.le 8 2, c.le 10 2, c.le 14 2, bitAt (c.b 12) 0⟩ ∨
     i = .policerSet p ∧ w = .policer c.tenant (Policer.ofBits (c.record 16)) ∨
     i = .profileLoad p ∧ w = .profile (c.b 0) ∨
     i = .skewSet p ∧ w = .skew c.index (Skew.ofBits (c.record 4)) ∨
     i = .feederPortSet p ∧ w = .feederPort c.index ⟨bitAt (c.record 4) 0, fld (c.record 4) 1 3⟩ ∨
     i = .feederSlotSet p ∧ w = .feederSlot c.index (FeederSlot.ofBits (c.record 16)) ∨
     i = .doorbellSet p ∧ w = .doorbell c.index (Doorbell.ofBits (c.record 24)) ∨
     i = .tenantAssign p ∧ w = .tenantHost c.target (c.b 0) ∨
     i = .ownerHandover p ∧ w = .owner (c.b 0) ∨
     i = .adopt p ∧ w = .adopt c.target (c.b 0) ∨
     i = .fwActivate p ∧ w = .handover (c.b 0) ∨
     i = .qrelease p ∧ w = .quireRelease (c.le 0 2) ∨
     i = .wunmap p ∧ w = .window c.tenant (c.b 5) Window.none) →
    Completes i s fun t => t.hasStaged p.val s.nextId [w] ∧ t.bank = s.bank

/-- Commands that stage lists: a gate list with its bulk entries (R201), a watermark in the arming named or the first free
one (R306), an operating point for each stack named (R478), an import's channels (R390), and every entry of a settings list
for each instance it names (R466). -/
def Obligations.ListCommandsStage : Prop :=
  (∀ (p : Fin 521) (s : State) (c : Cmd), s.accepts (.gateSet p) c →
    Completes (.gateSet p) s fun t => t.bank = s.bank ∧ ∃ g, t.hasStaged p.val s.nextId [.gate c.index g] ∧
      g.guard = fld (c.record 4) 7 14 ∧ g.follow = bitAt (c.record 4) 21 ∧ g.entries.length = fld (c.record 4) 0 7 ∧
      ∀ n e, n < g.entries.length → e = ofLe ((c.bulk.drop (8 * n)).take 8) →
        g.entries[n]? = some ⟨fld e 0 16, fld e 16 24⟩) ∧
  (∀ (p : Fin 521) (s : State) (c : Cmd), s.accepts (.wmArm p) c →
    Completes (.wmArm p) s fun t => t.bank = s.bank ∧ ∃ n,
      t.hasStaged p.val s.nextId [.arming n (Arming.ofBits (c.record 24))] ∧ (c.index ≠ 0xFFFF → n = c.index) ∧
      (c.index = 0xFFFF → n < 16 ∧ s.armFree s.pendingBank n = true)) ∧
  (∀ (p : Fin 521) (s : State) (c : Cmd), s.accepts (.oppointSet p) c →
    Completes (.oppointSet p) s fun t => t.bank = s.bank ∧ t.hasStaged p.val s.nextId
      (((List.range 16).filter (bitAt (c.le 0 2))).map (fun k => .opPoint k (c.b 2)))) ∧
  (∀ (p : Fin 521) (s : State) (c : Cmd), s.accepts (.calImport p) c →
    Completes (.calImport p) s fun t => t.bank = s.bank ∧ t.hasStaged p.val s.nextId
      ((s.importCals (c.b 0)).map (fun x => .cal x.1 x.2 true))) ∧
  (∀ (i : Instr) (p : Fin 521) (s : State) (c : Cmd), s.accepts i c →
    (i = .schedSet p ∨ i = .sheetSet p ∨ i = .lakeSet p ∨ i = .maintSet p ∨ i = .powerSet p ∨ i = .thermalSet p ∨
     i = .calibSet p ∨ i = .hostSet p) →
    Completes i s fun t => t.bank = s.bank ∧ t.hasStaged p.val s.nextId (c.settings.flatMap entryItems))

/-- Quires (R62-R64, R69): QALLOC reserves a legal quire of the size and PLACE asked and maps it; QJOIN maps a live quire of
its generation. -/
def Obligations.QuireCommandsStage : Prop :=
  (∀ (p : Fin 521) (s : State) (c : Cmd), s.accepts (.qalloc p) c →
    Completes (.qalloc p) s fun t => ∃ base q w,
      t.hasStaged p.val s.nextId [.quireNew base q, .window c.tenant (c.b 5) w] ∧ s.legalQuire base (c.b 0) = true ∧
      base ∈ s.placeBases (c.b 1) (c.le 2 2) (c.b 0) ∧
      (∀ l ∈ s.membersOf base (c.b 0), l ∉ s.leavesHeld s.pendingBank (fun _ => true)) ∧
      q.qk = c.b 0 ∧ q.qstate = .active ∧ q.shared = bitAt (c.b 4) 0 ∧ q.xhost = bitAt (c.b 4) 1 ∧ q.creator = c.tenant ∧
      w = ⟨true, bitAt (c.b 4) 2, bitAt (c.b 4) 0, base, c.b 0, c.le 8 4, q.qgen⟩) ∧
  (∀ (p : Fin 521) (s : State) (c : Cmd) (q : QuireRec), s.accepts (.qjoin p) c → q = s.pendingBank.quire (c.le 0 2) →
    Completes (.qjoin p) s fun t => q.qgen = c.le 2 2 ∧ q.shared = true ∧ s.sharersMost p.val (c.le 0 2) < 64 ∧
      t.hasStaged p.val s.nextId [.window c.tenant (c.b 5) ⟨true, c.b 4 == 4, true, c.le 0 2, q.qk, c.le 8 4, q.qgen⟩])

/-- Sessions and sets: OPEN begins a session of the generation asked with the capabilities granted (R440, R441) and stages a
FREE tenant's entry, and a tenant's policer record where its SEM differs from the one of the generation (R213, R222); CLOSE
ends one, or stages the tenant's close (R442); COMMIT commits the page's open set for its lead time (R228-R231); DISCARD
drops it (R233). -/
def Obligations.SessionCommandsComplete : Prop :=
  (∀ (p : Fin 521) (s : State) (c : Cmd), s.accepts (.open_ p) c →
    Completes (.open_ p) s fun t => (t.page p.val).pstate = .opened ∧ (t.page p.val).gen = c.b 32 ∧
      (t.page p.val).caps = c.le 40 8 &&& s.image.caps &&& (if c.b 32 = 2 then mmp2Caps else 0xFFFF) ∧
      (t.page p.val).epoch = ((s.page p.val).epoch + 1) % 65536 ∧
      (p.val < 512 → s.openItems p.val (c.b 32 == 2) ≠ [] →
        t.hasStaged p.val s.nextId ((s.openItems p.val (c.b 32 == 2)).map (fun x => x.1))) ∧
      (512 ≤ p.val → p.val < 520 → (t.host (p.val - 512)).watched = true ∧
        (s.bank.owner = none → t.bank.owner = some (p.val - 512)))) ∧
  (∀ (p : Fin 521) (s : State) (c : Cmd), s.accepts (.close p) c → 512 ≤ p.val →
    Completes (.close p) s fun t => (t.page p.val).pstate = .closed ∧ (t.page p.val).gen = 0 ∧ (t.page p.val).caps = 0) ∧
  (∀ (p : Fin 521) (s : State) (c : Cmd), s.accepts (.close p) c → p.val < 512 →
    ((s.bank.tenant p.val).tstate = .active ∨ (s.bank.tenant p.val).tstate = .failed) →
    ((s.pendingBank.tenant p.val).tstate ≠ .free) →
    s.sets.any (fun x => x.committed && x.items.any (fun i => i.what == .tenantClose p.val)) = false →
    Completes (.close p) s fun t => t.hasStaged p.val s.nextId [.tenantClose p.val]) ∧
  (∀ (p : Fin 521) (s : State) (c : Cmd), s.accepts (.commit p) c →
    Completes (.commit p) s fun t => t.openSet p.val = none ∧ ∃ x ∈ t.sets, x.committed = true ∧ x.page = p.val ∧
      x.commitTicket = s.nextId ∧ x.notBefore = c.le 0 8 ∧ x.time = s.now + s.setting 0x2803 0 * 1000 ∧
      x.items = ((s.openSet p.val).map (fun y => y.items)).getD []) ∧
  (∀ (p : Fin 521) (s : State) (c : Cmd), s.accepts (.discard p) c →
    Completes (.discard p) s fun t => t.openSet p.val = none ∧ t.bank = s.bank ∧
      t.sets = s.sets.filter (fun y => y.committed || y.page != p.val))

/-! ## Mailbox commands that act -/

/-- Refused commands (R462, R463): a command that fails a check is answered at once with its status, ARGPOS and the step of
the check, and changes nothing but the mailbox's own bookkeeping. -/
def Obligations.RefusedCommandsAnswer : Prop :=
  ∀ (i : Instr) (s : State) (m : MailRow) (c : Cmd) (st pos step : Nat) (bulk : Option (List Nat)), s.serves i m c →
    s.replyTo m c = .fail st pos step bulk → c.opcode ≠ 1 →
    Completes i s fun t => s.answered t m.page c st (leBytes 2 pos ++ [step]) bulk.isSome ∧
      ∀ f, f ∉ [Field.boot, .nextId, .pages, .serviceq, .tickets, .cnt] → f.same s t

/-- Commands that read back (R389, R472, R477, R481): the answer is OK and holds the record, the energies, the size of the
section or of the map, and the transfer area holds the section or the map. -/
def Obligations.ReadingCommandsAnswer : Prop :=
  (∀ (p : Fin 521) (s : State) (c : Cmd), s.accepts (.stateRead p) c →
    Completes (.stateRead p) s fun t => t.bank = s.bank ∧ t.sets = s.sets ∧ s.answeredOk t p.val c
      (s.recordBytes (if c.b 1 = 0 then s.bank else s.pendingBank) (c.b 0) c.tenant (c.le 2 2) (c.le 4 2) (c.le 6 2))) ∧
  (∀ (p : Fin 521) (s : State) (c : Cmd) (ten chip : Nat → Nat), s.accepts (.energyRead p) c →
    (∀ n, ten n = Tab.num s.cnt.tenant (c.tenant * 64 + n)) → (∀ n, chip n = Tab.num s.cnt.global n) →
    Completes (.energyRead p) s fun t => s.answeredOk t p.val c (leBytes 8 s.regs.roundAt ++
      (if c.b 0 = 0 then [ten 40, ten 42, ten 44] else [chip 0, chip 2, 0]).flatMap (leBytes 8))) ∧
  (∀ (p : Fin 521) (s : State) (c : Cmd) (es : List MapEntry), s.accepts (.repairRead p) c →
    es = (s.curMap.1.drop (c.le 4 2)).take 992 →
    Completes (.repairRead p) s fun t => s.answeredOk t p.val c (leBytes 2 es.length) ∧
      t.xfer = (s.putXfer (s.stackTable ++ es.flatMap MapEntry.bytes)).xfer) ∧
  (∀ (p : Fin 521) (s : State) (c : Cmd), s.accepts (.calExport p) c →
    Completes (.calExport p) s fun t => s.answeredOk t p.val c (leBytes 2 (s.section_ (c.b 0)).length) ∧
      t.xfer = (s.putXfer (s.section_ (c.b 0))).xfer)

/-- Commands that act at once on the machine's tables: affinity (R31), dumps (R312), the owner's acceptance (R449), counter
access and sampling (R523, R527, R528), subscriptions (R482), debug rights, codes and unlock (R486, R546, R547), and the end
of a debug stop (R544). -/
def Obligations.ImmediateCommandsAct : Prop :=
  (∀ (p : Fin 521) (s : State) (c : Cmd), s.accepts (.affinityReset p) c → Completes (.affinityReset p) s fun t =>
    s.answeredOk t p.val c [] ∧ t.aff = if c.le 0 2 = 0xFFFF then [] else Tab.erase s.aff (c.le 0 2)) ∧
  (∀ (p : Fin 521) (s : State) (c : Cmd), s.accepts (.dumpFree p) c → Completes (.dumpFree p) s fun t =>
    s.answeredOk t p.val c (leBytes 8 s.lake.dumpAt) ∧ t.lake = { s.lake with dumpAt := 0 }) ∧
  (∀ (p : Fin 521) (s : State) (c : Cmd), s.accepts (.ownerAccept p) c → Completes (.ownerAccept p) s fun t =>
    s.answeredOk t p.val c [] ∧
    t.hosts = (s.setHost c.hostNum { s.host c.hostNum with accept := some s.clk.ticks }).hosts) ∧
  (∀ (i : Instr) (p : Fin 521) (s : State) (c : Cmd) (x : TenSt) (on : Bool), s.accepts i c →
    (i = .cntAllowUmap p ∧ x = { s.tenSt c.tenant with umap := true } ∨
     i = .cntRevokeUmap p ∧ x = { s.tenSt c.tenant with umap := false } ∨
     i = .dbgGrantRights p ∧ x = { s.tenSt c.tenant with debugRights := true } ∨
     i = .dbgRevokeRights p ∧ x = { s.tenSt c.tenant with debugRights := false } ∨
     on = bitAt (c.b 1) 0 ∧ i = .subscribeAdd p ∧ x = { s.tenSt c.tenant with
       subs := if on && !(s.tenSt c.tenant).subs.contains (c.le 2 2) then (s.tenSt c.tenant).subs ++ [c.le 2 2]
         else (s.tenSt c.tenant).subs } ∨
     on = bitAt (c.b 1) 0 ∧ i = .subscribeRemove p ∧ x = { s.tenSt c.tenant with
       subs := if on then (s.tenSt c.tenant).subs.filter (fun n => n != c.le 2 2) else (s.tenSt c.tenant).subs }) →
    Completes i s fun t => t.tenants = (s.setTenSt c.tenant x).tenants) ∧
  (∀ (p : Fin 521) (s : State) (c : Cmd), s.accepts (.cntArmSampling p) c → Completes (.cntArmSampling p) s fun t =>
    ∃ n u, t.trace.samplers = Tab.put s.trace.samplers n u ∧ u.sel = c.le 2 2 ∧ u.ten = c.sampleTen ∧
      u.period = c.le 8 6 ∧ match s.unitOf (c.le 2 2) c.sampleTen with
        | some (j, v) => n = j ∧ u = { v with period := c.le 8 6 }
        | none => n < 16 ∧ Tab.find? s.trace.samplers n = none ∧ u.pendingAt = none) ∧
  (∀ (p : Fin 521) (s : State) (c : Cmd), s.accepts (.cntDisarmSampling p) c → Completes (.cntDisarmSampling p) s fun t =>
    t.trace.samplers = s.trace.samplers.filter (fun x => !(x.2.sel == c.le 2 2 && x.2.ten == c.sampleTen))) ∧
  (∀ (p : Fin 521) (s : State) (c : Cmd), s.accepts (.dbgIssueCode p) c → Completes (.dbgIssueCode p) s fun t =>
    t.trace.code = some ((Config.freeWord s.freeCount).toNat, s.clk.ticks) ∧ t.trace.tries = 0 ∧
      s.answeredOk t p.val c (leBytes 8 (Config.freeWord s.freeCount).toNat)) ∧
  (∀ (p : Fin 521) (s : State) (c : Cmd) (code at_ : Nat), s.accepts (.dbgUnlock p) c → s.trace.code = some (code, at_) →
    s.clk.ticks ≤ at_ + ms 10000 → Completes (.dbgUnlock p) s fun t =>
      if c.le 0 8 = code then t.trace.unlocked = true ∧ t.trace.code = none ∧ t.trace.tries = 0
      else t.trace.unlocked = s.trace.unlocked ∧
        (s.trace.tries ≠ 2 → t.trace.tries = s.trace.tries + 1 ∧ t.trace.code = s.trace.code) ∧
        (s.trace.tries = 2 → t.trace.tries = 0 ∧ t.trace.code = none)) ∧
  (∀ (p : Fin 521) (s : State) (c : Cmd), s.accepts (.dbgResume p) c → Completes (.dbgResume p) s fun t =>
    t.pins = if s.pins.stopIn then { s.pins with latches := 0 } else { s.pins with latches := 0, stopped := false })

/-- Commands that ask for work: a maintenance request is raised on its leaf, or for a lane on both leaves of its channel
(R130, R476); a repair-map command queues the store of the changed map (R348, R352, Table 15.10); a baseline its record
(R388); a retrain is asked of each channel that is awake and not busy (Table 12.4); FW_STAGE takes its piece (R483, R484). -/
def Obligations.WorkCommandsAsk : Prop :=
  (∀ (i : Instr) (p : Fin 521) (s : State) (c : Cmd) (m : MReq), s.accepts i c →
    (i = .maintReqScrub p ∧ m = plainReq .scrub 4 s.nextId ∨
     i = .maintReqHeal p ∧ m = healReq (c.flatBank s) (c.le 4 2) s.nextId ∨
     i = .maintReqRepairRow p ∧ m = repairReq (c.flatBank s) (c.le 4 2) 4 s.nextId ∨
     i = .maintReqRepairLane p ∧ m = laneReq (c.le 2 2 % 2 * 36 + c.b 7) 4 s.nextId ∨
     i = .maintReqCapture p ∧ m = plainReq .capture 4 s.nextId) →
    Completes i s fun t => t.cares = (s.request (c.le 2 2) m).cares) ∧
  (∀ (i : Instr) (p : Fin 521) (s : State) (c : Cmd) (map : List MapEntry) (ser alt : List Nat) (clear : Bool) (k : Nat),
    s.accepts i c → k = c.b 2 →
    (i = .repairPromote p ∧ map = s.curMap.1.map (fun e =>
         if e.kind = 1 ∧ bitAt (c.le 2 2) e.stack = true then { e with kind := 3 } else e) ∧ (ser, alt) = s.curMap.2 ∧
         clear = false ∨
     i = .repairCompact p ∧ map = s.compacted ∧ (ser, alt) = s.curMap.2 ∧ clear = true ∨
     i = .repairClearStack p ∧ map = s.curMap.1.filter (fun e => e.stack != k) ∧ ser = withSerial s.curMap.2.1 k 0 ∧
         alt = withSerial s.curMap.2.2 k 0 ∧ clear = false ∨
     i = .repairReserial p ∧ map = s.curMap.1.map (fun e => if e.stack = k then { e with alt := false } else e) ∧
         ser = withSerial s.curMap.2.1 k (s.sup k).disc.serial ∧ alt = withSerial s.curMap.2.2 k 0 ∧ clear = false) →
    Completes i s fun t => t.stores = s.stores ++ [⟨2, s.nextId, map, ser, alt, clear, []⟩] ∧ t.boot.dev = s.boot.dev) ∧
  (∀ (p : Fin 521) (s : State) (c : Cmd), s.accepts (.calBaseline p) c → Completes (.calBaseline p) s fun t =>
    t.stores = s.stores ++ [⟨3, s.nextId, [], [], [], false, (List.range 16).flatMap s.section_⟩]) ∧
  (∀ (p : Fin 521) (s : State) (c : Cmd), s.accepts (.calRetrain p) c → Completes (.calRetrain p) s fun t =>
    ∀ n ch, n < 32 → bitAt (c.le 4 4) n = true → ch = c.b 0 * 32 + n → (s.sup (c.b 0)).trained = true →
      (s.sck (c.b 0)).asleep = false → (s.sck (c.b 0)).sr.contains n = false → (s.chan ch).cal.untrained = false →
      (s.care (2 * ch)).every.any (fun m => m.act == .retrain) = false → (s.chan ch).retrain = none →
      (s.chan ch).pendingCorr = false → (s.chan ch).corr = none →
      (t.chan ch).lastCause = 8 ∧ s.nextId ∈ (t.chan ch).retrainTickets ∧
        plainReq .retrain 8 0 ∈ (t.care (2 * ch)).raised ∧ plainReq .retrain 8 0 ∈ (t.care (2 * ch + 1)).raised) ∧
  (∀ (p : Fin 521) (signed : Bool) (s : State) (c : Cmd) (n : Nat), s.accepts (.fwStage p signed) c →
    n = 1 - s.boot.loaded.getD 0 →
    Completes (.fwStage p signed) s fun t => if bitAt (c.b 6) 1 = true then
      t.boot.stagePage = none ∧ (t.slot n = Slot.erased ∨ (s.verified (t.slot n) = true ∧ (t.slot n).commit = false))
    else t.boot.stagePage = some p.val ∧ t.boot.stageNext = c.le 0 4 + c.le 4 2 ∧ t.boot.stageAt = s.clk.ticks ∧
      (bitAt (c.b 6) 0 = true → t.slot n = Slot.erased))

/-- Commands on stacks: the owner releases a held stack, which restarts once below 90 degrees (R409), fences a stack at once,
and clears its fence (R479). -/
def Obligations.StackCommandsAct : Prop :=
  (∀ (p : Fin 521) (s : State) (c : Cmd), s.accepts (.thermalRelease p) c → Completes (.thermalRelease p) s fun t =>
    ∀ k, k < 16 → bitAt (c.le 0 2) k = true → (s.heatOf k).held = true →
      match (s.heatOf k).temp with
      | some d => if d < 720 then (t.heatOf k).st = .enforce ∧ (t.heatOf k).held = false ∧
          (t.heatOf k).lt = s.setting 0x5207 0 else (t.heatOf k).released = true ∧ (t.heatOf k).st = (s.heatOf k).st
      | none => (t.heatOf k).released = true ∧ (t.heatOf k).st = (s.heatOf k).st) ∧
  (∀ (p : Fin 521) (s : State) (c : Cmd), s.accepts (.stackFence p) c → Completes (.stackFence p) s fun t =>
    (t.sup (c.b 1)).fenced = true) ∧
  (∀ (p : Fin 521) (s : State) (c : Cmd), s.accepts (.stackFenceClear p) c → Completes (.stackFenceClear p) s fun t =>
    t.supply = if (s.sup (c.b 1)).fenced then (s.setSup (c.b 1) { s.sup (c.b 1) with
      fenced := false, clearTicket := s.nextId }).supply else s.supply)

/-- Fault injections (R485): a flip or a stain of a word queues a read and a write of its burst behind what the leaf holds;
the others arm a temperature offset, a withheld acknowledge, a header parity error, or lose a host. -/
def Obligations.InjectionCommandsAct : Prop :=
  (∀ (i : Instr) (p : Fin 521) (s : State) (c : Cmd) (leaf la inject flip : Nat), s.accepts i c → leaf = c.le 2 2 →
    la = c.le 4 4 →
    (i = .faultInjectFlipOne p ∧ inject = la / 8 % 4 + 1 ∧ flip = 2 ^ c.b 8 ∨
     i = .faultInjectFlipTwo p ∧ inject = la / 8 % 4 + 1 ∧ flip = 2 ^ c.b 8 + 2 ^ c.b 9 ∨
     i = .faultInjectStain p ∧ inject = 0 ∧ flip = 0) →
    Completes i s fun t =>
      (∃ q a b, (t.leaf leaf).queue = q ++ [a, b] ∧ a.wr = false ∧ b.wr = true ∧ a.la = la / 32 * 32 ∧
        b.la = la / 32 * 32 ∧ a.nb = 1 ∧ b.nb = 1) ∧
      ∃ x ∈ (t.care leaf).merge, x.la = la / 32 * 32 ∧ x.closed = true ∧ x.inject = inject ∧
        x.flip = BitVec.ofNat 72 flip ∧ (inject = 0 → (x.words[la / 8 % 4]?).map (fun w => w.stain) = some true)) ∧
  (∀ (p : Fin 521) (s : State) (c : Cmd) (v k : Nat), s.accepts (.faultInjectTempOffset p) c → v = c.le 12 2 → k = c.le 2 2 →
    Completes (.faultInjectTempOffset p) s fun t => t.heat = (s.setHeat k { s.heatOf k with
      injTemp := if v < 2 ^ 15 then (v : Int) else (v : Int) - 2 ^ 16, injRounds := c.le 10 2 }).heat) ∧
  (∀ (p : Fin 521) (s : State) (c : Cmd) (k : Nat), s.accepts (.faultInjectWithholdAck p) c → k = c.le 2 2 →
    Completes (.faultInjectWithholdAck p) s fun t =>
      t.sclk = (s.setSck k { s.sck k with withholdAck := true }).sclk) ∧
  (∀ (p : Fin 521) (s : State) (c : Cmd) (k : Nat), s.accepts (.faultInjectHeaderParity p) c → k = c.le 2 2 →
    Completes (.faultInjectHeaderParity p) s fun t =>
      t.ports = (s.setPort k { s.port k with injectParity := true }).ports) ∧
  (∀ (p : Fin 521) (s : State) (c : Cmd) (h : Nat), s.accepts (.faultInjectHostLost p) c → h = c.le 2 2 →
    (s.host h).lost = false →
    Completes (.faultInjectHostLost p) s fun t =>
      t.hosts = (s.setHost h { s.host h with lost := true, lostAt := s.clk.ticks, leaseOn := true }).hosts)
end

