-- ==== Sys2Proof/Laws/Tab.lean ====
section
/-! SUPPORT. The laws of sparse tables: what a put, an erase and a set leave at an index, and that they keep the indexes
rising. -/

namespace Sys2Proof.Machine

/-! ## The indexes -/

theorem Tab.rising_tail {α : Type} {p : Nat × α} {t : Tab α} (h : Tab.rising (p :: t) = true) : Tab.rising t = true := by
  cases t with
  | nil => rfl
  | cons q u => simp only [Tab.rising, Bool.and_eq_true] at h; exact h.2

/-- A table is rising exactly when its indexes are pairwise so. -/
theorem Tab.rising_iff {α : Type} (t : Tab α) : Tab.rising t = true ↔ List.Pairwise (fun p q : Nat × α => p.1 < q.1) t := by
  induction t with
  | nil => simp [Tab.rising]
  | cons p t ih =>
    cases t with
    | nil => simp [Tab.rising]
    | cons q u =>
      simp only [Tab.rising, Bool.and_eq_true, decide_eq_true_eq, ih, List.pairwise_cons]
      constructor
      · rintro ⟨h1, h2, h3⟩
        refine ⟨?_, h2, h3⟩
        intro x hx
        rcases List.mem_cons.mp hx with rfl | hx
        · exact h1
        · exact lt_trans h1 (h2 x hx)
      · rintro ⟨h1, h2, h3⟩
        exact ⟨h1 q (List.mem_cons_self ..), h2, h3⟩

theorem Tab.mem_put {α : Type} {t : Tab α} {k : Nat} {a : α} {p : Nat × α} (h : p ∈ Tab.put t k a) : p ∈ t ∨ p = (k, a) := by
  induction t with
  | nil => simp [Tab.put] at h; exact .inr h
  | cons q t ih =>
    simp only [Tab.put] at h
    split at h
    · rcases List.mem_cons.mp h with rfl | h
      · exact .inr rfl
      · exact .inl h
    · split at h
      · rcases List.mem_cons.mp h with rfl | h
        · exact .inr rfl
        · exact .inl (List.mem_cons_of_mem _ h)
      · rcases List.mem_cons.mp h with rfl | h
        · exact .inl (List.mem_cons_self ..)
        · exact (ih h).imp (List.mem_cons_of_mem _) id

theorem Tab.mem_erase {α : Type} {t : Tab α} {k : Nat} {p : Nat × α} (h : p ∈ Tab.erase t k) : p ∈ t := by
  induction t with
  | nil => simp [Tab.erase] at h
  | cons q t ih =>
    simp only [Tab.erase] at h
    split at h
    · exact List.mem_cons_of_mem _ (ih h)
    · rcases List.mem_cons.mp h with rfl | h
      · exact List.mem_cons_self ..
      · exact List.mem_cons_of_mem _ (ih h)

theorem Tab.rising_put {α : Type} {t : Tab α} (h : Tab.rising t = true) (k : Nat) (a : α) : Tab.rising (Tab.put t k a) = true := by
  rw [Tab.rising_iff] at h ⊢
  induction t with
  | nil => simp [Tab.put]
  | cons q t ih =>
    have hq := List.pairwise_cons.mp h
    simp only [Tab.put]
    split
    · rename_i hk
      refine List.pairwise_cons.mpr ⟨?_, h⟩
      intro x hx
      rcases List.mem_cons.mp hx with rfl | hx
      · exact hk
      · exact lt_trans hk (hq.1 x hx)
    · split
      · rename_i hk
        refine List.pairwise_cons.mpr ⟨?_, hq.2⟩
        intro x hx
        subst hk; exact hq.1 x hx
      · rename_i h1 h2
        refine List.pairwise_cons.mpr ⟨?_, ih hq.2⟩
        intro x hx
        rcases Tab.mem_put hx with hx | rfl
        · exact hq.1 x hx
        · simp only; omega

theorem Tab.rising_erase {α : Type} {t : Tab α} (h : Tab.rising t = true) (k : Nat) : Tab.rising (Tab.erase t k) = true := by
  rw [Tab.rising_iff] at h ⊢
  induction t with
  | nil => simp [Tab.erase]
  | cons q t ih =>
    have hq := List.pairwise_cons.mp h
    simp only [Tab.erase]
    split
    · exact ih hq.2
    · exact List.pairwise_cons.mpr ⟨fun x hx => hq.1 x (Tab.mem_erase hx), ih hq.2⟩

theorem Tab.rising_set {α : Type} [DecidableEq α] {d : α} {t : Tab α} (h : Tab.rising t = true) (k : Nat) (a : α) :
    Tab.rising (Tab.set d t k a) = true := by
  unfold Tab.set
  split
  · exact Tab.rising_erase h k
  · exact Tab.rising_put h k a

/-! ## What stands at an index -/

/-- Below the first index of a rising table nothing is listed. -/
theorem Tab.find?_none {α : Type} {t : Tab α} {k : Nat} (h : ∀ p ∈ t, p.1 ≠ k) : Tab.find? t k = none := by
  induction t with
  | nil => rfl
  | cons q t ih =>
    simp only [Tab.find?]
    rw [if_neg (h q (List.mem_cons_self ..))]
    exact ih fun p hp => h p (List.mem_cons_of_mem _ hp)

@[simp] theorem Tab.find?_put_self {α : Type} (t : Tab α) (k : Nat) (a : α) : Tab.find? (Tab.put t k a) k = Option.some a := by
  induction t with
  | nil => simp [Tab.put, Tab.find?]
  | cons q t ih =>
    simp only [Tab.put]
    split
    · simp [Tab.find?]
    · split
      · simp [Tab.find?]
      · simp only [Tab.find?]
        rw [if_neg (by omega), ih]

theorem Tab.find?_put_other {α : Type} (t : Tab α) {k j : Nat} (a : α) (h : j ≠ k) :
    Tab.find? (Tab.put t k a) j = Tab.find? t j := by
  induction t with
  | nil => simp [Tab.put, Tab.find?, h.symm]
  | cons q t ih =>
    simp only [Tab.put]
    split
    · simp [Tab.find?, h.symm]
    · split
      · rename_i hk
        simp [Tab.find?, hk ▸ h.symm, h.symm]
      · simp only [Tab.find?, ih]

theorem Tab.find?_erase_other {α : Type} (t : Tab α) {k j : Nat} (h : j ≠ k) :
    Tab.find? (Tab.erase t k) j = Tab.find? t j := by
  induction t with
  | nil => rfl
  | cons q t ih =>
    simp only [Tab.erase]
    split
    · rename_i hk
      simp only [Tab.find?]
      rw [if_neg (hk ▸ h.symm), ih]
    · simp only [Tab.find?, ih]

/-- An erased index is gone. -/
@[simp] theorem Tab.find?_erase_self {α : Type} (t : Tab α) (k : Nat) : Tab.find? (Tab.erase t k) k = none := by
  induction t with
  | nil => rfl
  | cons q t ih =>
    simp only [Tab.erase]
    split
    · exact ih
    · rename_i hk
      simp only [Tab.find?]
      rw [if_neg hk, ih]

theorem Tab.get_set_other {α : Type} [DecidableEq α] (d : α) (t : Tab α) {k j : Nat} (a : α) (h : j ≠ k) :
    Tab.get d (Tab.set d t k a) j = Tab.get d t j := by
  unfold Tab.get Tab.set
  split
  · rw [Tab.find?_erase_other t h]
  · rw [Tab.find?_put_other t a h]

/-- What is set is read back. -/
@[simp] theorem Tab.get_set_self {α : Type} [DecidableEq α] (d : α) (t : Tab α) (k : Nat) (a : α) :
    Tab.get d (Tab.set d t k a) k = a := by
  unfold Tab.get Tab.set
  split
  · rename_i e
    rw [Tab.find?_erase_self, Option.getD_none, e]
  · rw [Tab.find?_put_self, Option.getD_some]

/-- What a filter by index keeps is read as before, and what it drops is gone. -/
theorem Tab.find?_keep {α : Type} (t : Tab α) (f : Nat → Bool) (k : Nat) :
    Tab.find? (Tab.keep t (fun i _ => f i)) k = if f k then Tab.find? t k else none := by
  induction t with
  | nil => simp [Tab.keep, Tab.find?]
  | cons q t ih =>
    simp only [Tab.keep, List.filter_cons] at ih ⊢
    by_cases hk : q.1 = k
    · subst hk
      by_cases hq : f q.1 = true
      · rw [if_pos hq, if_pos hq]
        simp [Tab.find?]
      · rw [if_neg hq, ih, if_neg hq, if_neg hq]
    · split
      · simp only [Tab.find?, ih]
        rw [if_neg hk, if_neg hk]
      · rw [ih]
        simp only [Tab.find?]
        rw [if_neg hk]

end Sys2Proof.Machine
end

