-- ==== Sys2Proof/Laws/Memory.lean ====
section
/-! SUPPORT. The laws of memory: every memory operation keeps the canonical form, a word reads back as it was stored, and
storing or zeroing leaves every other word alone. -/

namespace Sys2Proof.Machine

/-! ## The canonical form -/

/-- Setting a cell keeps the canonical form. -/
theorem cellsWf_set {d : Byte} {m : List Host.Cell} (h : cellsWf d m = true) (k : Nat) (v : Byte) :
    cellsWf d (Tab.set d m k v) = true := by
  simp only [cellsWf, Bool.and_eq_true, List.all_eq_true] at h ⊢
  unfold Tab.set
  split
  · exact ⟨Tab.rising_erase h.1 k, fun x hx => h.2 x (Tab.mem_erase hx)⟩
  · rename_i hv
    refine ⟨Tab.rising_put h.1 k v, fun x hx => ?_⟩
    rcases Tab.mem_put hx with hx | rfl
    · exact h.2 x hx
    · simpa using hv

/-- Keeping some of the cells keeps the canonical form. -/
theorem cellsWf_keep {d : Byte} {m : List Host.Cell} (h : cellsWf d m = true) (f : Nat → Byte → Bool) :
    cellsWf d (Tab.keep m f) = true := by
  simp only [cellsWf, Bool.and_eq_true, List.all_eq_true, Tab.rising_iff] at h ⊢
  exact ⟨h.1.sublist List.filter_sublist, fun x hx => h.2 x (List.mem_filter.mp hx).1⟩

/-- A run of cells set one after the other keeps the canonical form. -/
theorem cellsWf_foldl {α : Type} {d : Byte} (f : List Host.Cell → α → List Host.Cell)
    (hf : ∀ m a, cellsWf d m = true → cellsWf d (f m a) = true) (l : List α) :
    ∀ m, cellsWf d m = true → cellsWf d (l.foldl f m) = true := by
  induction l with
  | nil => intro m h; exact h
  | cons a t ih => intro m h; exact ih _ (hf m a h)

/-- The parts of memory's canonical form. -/
theorem Memory.wf_iff (s : State) : Memory.wf s = true ↔
    cellsWf 0 s.mem = true ∧ cellsWf 0xFF s.chk = true ∧ cellsWf 0 s.xfer = true ∧ cellsWf 0 s.hostMem = true := by
  simp [Memory.wf, Bool.and_eq_true, and_assoc]

theorem cellsWf_putWord {m : List Host.Cell} (h : cellsWf 0 m = true) (i v : Nat) : cellsWf 0 (putWordCells m i v) = true :=
  cellsWf_foldl _ (fun _ _ hm => cellsWf_set hm _ _) _ _ h

/-- Storing a word keeps the canonical form. -/
theorem storeWord_wf {s : State} (h : Memory.wf s = true) (leaf la : Nat) (d : Word64) (c : Byte) :
    Memory.wf (s.storeWord leaf la d c) = true := by
  have ⟨a1, a2, a3, a4⟩ := (Memory.wf_iff s).mp h
  exact (Memory.wf_iff _).mpr ⟨cellsWf_foldl _ (fun m i hm => cellsWf_set hm _ _) _ _ a1, cellsWf_set a2 _ _, a3, a4⟩

/-- Storing a run of words keeps the canonical form. -/
theorem storeWords_wf {s : State} (h : Memory.wf s = true) (leaf la : Nat) (ws : List SWord) :
    Memory.wf (s.storeWords leaf la ws) = true := by
  unfold State.storeWords
  induction ws.zipIdx generalizing s with
  | nil => exact h
  | cons x t ih => exact ih (storeWord_wf h _ _ _ _)

/-- Zeroing a leaf keeps the canonical form. -/
theorem zeroLeaf_wf {s : State} (h : Memory.wf s = true) (leaf : Nat) : Memory.wf (s.zeroLeaf leaf) = true := by
  have ⟨a1, a2, a3, a4⟩ := (Memory.wf_iff s).mp h
  exact (Memory.wf_iff _).mpr ⟨cellsWf_keep a1 (fun k _ => k / 2 ^ 31 != leaf),
    cellsWf_keep a2 (fun k _ => k / 2 ^ 28 != leaf), a3, a4⟩

/-! ## Reading after writing -/

/-- Cells set at indexes other than `j` leave what `j` reads. -/
theorem get_foldl_set_other {d : Byte} (f : Nat → Byte) (base j : Nat) (l : List Nat) (h : ∀ i ∈ l, j ≠ base + i) :
    ∀ m : List Host.Cell, Tab.get d (l.foldl (fun m i => Tab.set d m (base + i) (f i)) m) j = Tab.get d m j := by
  induction l with
  | nil => intro m; rfl
  | cons i t ih =>
    intro m
    rw [List.foldl_cons, ih (fun x hx => h x (List.mem_cons_of_mem _ hx)),
      Tab.get_set_other d m (f i) (h i (List.mem_cons_self ..))]

/-- Cells set one after the other read back, in a rising table. -/
theorem get_foldl_set_self {d : Byte} (f : Nat → Byte) (base : Nat) (l : List Nat) (hl : l.Nodup) (i : Nat) (hi : i ∈ l) :
    ∀ m : List Host.Cell, Tab.rising m = true →
      Tab.get d (l.foldl (fun m i => Tab.set d m (base + i) (f i)) m) (base + i) = f i := by
  induction l with
  | nil => cases hi
  | cons x t ih =>
    intro m hm
    have hx := List.nodup_cons.mp hl
    rw [List.foldl_cons]
    rcases List.mem_cons.mp hi with rfl | hi
    · rw [get_foldl_set_other f base _ t (fun y hy e => hx.1 (by rwa [Nat.add_left_cancel e])),
        Tab.get_set_self]
    · exact ih hx.2 hi _ (Tab.rising_set hm _ _)

theorem storeWord_mem (s : State) (leaf la : Nat) (d : Word64) (c : Byte) : (s.storeWord leaf la d c).mem =
    (List.range 8).foldl (fun m i => Tab.set (0 : Byte) m (cellKey leaf (la / 8 * 8) + i) (BitVec.ofNat 8 (d.toNat / 256 ^ i)))
      s.mem := rfl

theorem storeWord_chk (s : State) (leaf la : Nat) (d : Word64) (c : Byte) : (s.storeWord leaf la d c).chk =
    Tab.set (0xFF : Byte) s.chk (cellKey leaf (la / 8 * 8) / 8) c := rfl

/-- The keys of two words do not meet. -/
theorem cellKey_ne {leaf la leaf' la' i : Nat} (h : la < 2 ^ 31) (h' : la' < 2 ^ 31) (hi : i < 8)
    (hne : ¬ (leaf' = leaf ∧ la' / 8 = la / 8)) : cellKey leaf' la' ≠ cellKey leaf (la / 8 * 8) + i := by
  intro e
  simp only [cellKey] at e
  omega

/-- The check keys of two words differ. -/
theorem checkKey_ne {leaf la leaf' la' : Nat} (h : la < 2 ^ 31) (h' : la' < 2 ^ 31)
    (hne : ¬ (leaf' = leaf ∧ la' / 8 = la / 8)) : cellKey leaf' (la' / 8 * 8) / 8 ≠ cellKey leaf (la / 8 * 8) / 8 := by
  intro e
  simp only [cellKey] at e
  omega

theorem cellKey_add (leaf la i : Nat) : cellKey leaf la + i = cellKey leaf (la + i) := Nat.add_assoc ..

/-- The leaf of a key. -/
theorem cellKey_leaf {leaf la i : Nat} (h : la < 2 ^ 31) (hi : i < 8) :
    (cellKey leaf (la / 8 * 8) + i) / 2 ^ 31 = leaf ∧ cellKey leaf (la / 8 * 8) / 8 / 2 ^ 28 = leaf := by
  simp only [cellKey]
  omega

/-- A byte outside the stored word reads as before. -/
theorem storeWord_byteAt (s : State) {leaf la leaf' la' : Nat} (d : Word64) (c : Byte) (h : la < 2 ^ 31) (h' : la' < 2 ^ 31)
    (hne : ¬ (leaf' = leaf ∧ la' / 8 = la / 8)) :
    (s.storeWord leaf la d c).byteAt leaf' la' = s.byteAt leaf' la' := by
  unfold State.byteAt
  rw [storeWord_mem]
  exact get_foldl_set_other _ _ _ _ (fun i hi => cellKey_ne h h' (List.mem_range.mp hi) hne) _

/-- The bytes of the stored word read back. -/
theorem storeWord_byteAt_self {s : State} (hs : Tab.rising s.mem = true) (leaf la : Nat) (d : Word64) (c : Byte) {i : Nat}
    (hi : i < 8) : (s.storeWord leaf la d c).byteAt leaf (la / 8 * 8 + i) = BitVec.ofNat 8 (d.toNat / 256 ^ i) := by
  unfold State.byteAt
  rw [storeWord_mem]
  rw [← cellKey_add]
  exact get_foldl_set_self (fun i => BitVec.ofNat 8 (d.toNat / 256 ^ i)) _ _ List.nodup_range i (List.mem_range.mpr hi) _ hs

/-- The value of eight bytes, least significant first. -/
def bytesVal (f : Nat → Nat) : Nat := (List.range 8).foldl (fun a i => a + f i * 256 ^ i) 0

theorem foldl_bytes_congr {f g : Nat → Nat} (l : List Nat) (h : ∀ i ∈ l, f i = g i) :
    ∀ a, l.foldl (fun a i => a + f i * 256 ^ i) a = l.foldl (fun a i => a + g i * 256 ^ i) a := by
  induction l with
  | nil => intro a; rfl
  | cons x t ih =>
    intro a
    rw [List.foldl_cons, List.foldl_cons, h x (List.mem_cons_self ..)]
    exact ih (fun i hi => h i (List.mem_cons_of_mem _ hi)) _

theorem bytesVal_congr {f g : Nat → Nat} (h : ∀ i, i < 8 → f i = g i) : bytesVal f = bytesVal g :=
  foldl_bytes_congr _ (fun i hi => h i (List.mem_range.mp hi)) 0

/-- The bytes of a number add up to its remainder. -/
theorem foldl_bytes_range (v n : Nat) :
    (List.range n).foldl (fun a i => a + (v / 256 ^ i % 256) * 256 ^ i) 0 = v % 256 ^ n := by
  induction n with
  | zero => simp [Nat.mod_one]
  | succ n ih =>
    rw [List.range_succ, List.foldl_append, ih, List.foldl_cons, List.foldl_nil, Nat.pow_succ, Nat.mod_mul]
    rw [Nat.mul_comm (256 ^ n)]

theorem storedWord_eq (s : State) (leaf la : Nat) : s.storedWord leaf la =
    (BitVec.ofNat 64 (bytesVal fun i => (Tab.get (0 : Byte) s.mem (cellKey leaf (la / 8 * 8) + i)).toNat),
      Tab.get (0xFF : Byte) s.chk (cellKey leaf (la / 8 * 8) / 8)) := rfl

/-- A word other than the stored one reads as before, check byte included. -/
theorem storeWord_storedWord_other (s : State) {leaf la leaf' la' : Nat} (d : Word64) (c : Byte) (h : la < 2 ^ 31)
    (h' : la' < 2 ^ 31) (hne : ¬ (leaf' = leaf ∧ la' / 8 = la / 8)) :
    (s.storeWord leaf la d c).storedWord leaf' la' = s.storedWord leaf' la' := by
  rw [storedWord_eq, storedWord_eq, storeWord_chk, Tab.get_set_other _ _ _ (checkKey_ne h h' hne)]
  refine congrArg (fun n => (BitVec.ofNat 64 n, _)) (bytesVal_congr fun i hi => congrArg BitVec.toNat ?_)
  rw [cellKey_add]
  exact storeWord_byteAt s d c h (by omega) (by omega)

/-- A stored word reads back, check byte included. -/
theorem storeWord_storedWord_self {s : State} (hs : Memory.wf s = true) (leaf la : Nat) (d : Word64) (c : Byte) :
    (s.storeWord leaf la d c).storedWord leaf la = (d, c) := by
  have ⟨a1, a2, _, _⟩ := (Memory.wf_iff s).mp hs
  simp only [cellsWf, Bool.and_eq_true] at a1 a2
  rw [storedWord_eq, storeWord_chk, Tab.get_set_self]
  have hb : bytesVal (fun i => (Tab.get (0 : Byte) (s.storeWord leaf la d c).mem (cellKey leaf (la / 8 * 8) + i)).toNat) =
      bytesVal (fun i => d.toNat / 256 ^ i % 256) := by
    refine bytesVal_congr fun i hi => ?_
    rw [cellKey_add]
    exact (congrArg BitVec.toNat (storeWord_byteAt_self a1.1 leaf la d c hi)).trans (BitVec.toNat_ofNat ..)
  rw [hb, bytesVal, foldl_bytes_range]
  have hd : d.toNat % 256 ^ 8 = d.toNat := Nat.mod_eq_of_lt d.isLt
  rw [hd, BitVec.ofNat_toNat, BitVec.setWidth_eq]

/-- Every word of a zeroed leaf is zero with the check byte of zero, and every other word is as before. -/
theorem zeroLeaf_storedWord (s : State) (leaf leaf' : Nat) {la : Nat} (h : la < 2 ^ 31) :
    (s.zeroLeaf leaf).storedWord leaf' la = if leaf' = leaf then (0, 0xFF) else s.storedWord leaf' la := by
  have hm : ∀ i, i < 8 → Tab.get (0 : Byte) (s.zeroLeaf leaf).mem (cellKey leaf' (la / 8 * 8) + i) =
      if leaf' = leaf then 0 else Tab.get (0 : Byte) s.mem (cellKey leaf' (la / 8 * 8) + i) := by
    intro i hi
    have e := (cellKey_leaf (leaf := leaf') h hi).1
    have q := Tab.find?_keep s.mem (fun k => k / 2 ^ 31 != leaf) (cellKey leaf' (la / 8 * 8) + i)
    simp only [e] at q
    refine (congrArg (fun o => Option.getD o (0 : Byte)) q).trans ?_
    by_cases x : leaf' = leaf <;> simp [x, Tab.get]
  have hc : Tab.get (0xFF : Byte) (s.zeroLeaf leaf).chk (cellKey leaf' (la / 8 * 8) / 8) =
      if leaf' = leaf then 0xFF else Tab.get (0xFF : Byte) s.chk (cellKey leaf' (la / 8 * 8) / 8) := by
    have e := (cellKey_leaf (leaf := leaf') (i := 0) h (by decide)).2
    have q := Tab.find?_keep s.chk (fun k => k / 2 ^ 28 != leaf) (cellKey leaf' (la / 8 * 8) / 8)
    simp only [e] at q
    refine (congrArg (fun o => Option.getD o (0xFF : Byte)) q).trans ?_
    by_cases x : leaf' = leaf <;> simp [x, Tab.get]
  rw [storedWord_eq, storedWord_eq, hc]
  by_cases x : leaf' = leaf
  · rw [if_pos x, if_pos x]
    have z : bytesVal (fun i => (Tab.get (0 : Byte) (s.zeroLeaf leaf).mem (cellKey leaf' (la / 8 * 8) + i)).toNat) =
        bytesVal fun _ => 0 := bytesVal_congr fun i hi => by rw [hm i hi, if_pos x]; rfl
    rw [z]
    rfl
  · rw [if_neg x, if_neg x]
    refine congrArg (fun n => (BitVec.ofNat 64 n, _)) (bytesVal_congr fun i hi => congrArg BitVec.toNat ?_)
    rw [hm i hi, if_neg x]

end Sys2Proof.Machine
end

