-- ==== Sys2Proof/Laws/Kept.lean ====
section
/-! SUPPORT. What a step keeps and what it may change, as one relation between a state and a later one, and how it passes
through the plain building blocks: record updates, folds, tables, cells of memory. -/

namespace Sys2Proof.Machine

/-! ## Sets of parts, as masks -/

/-- The place of a part in a mask. -/
def Field.bit (f : Field) : Nat := f.ctorIdx

/-- The mask of a list of parts. -/
def maskOf (l : List Field) : Nat := l.foldr (fun f n => 2 ^ f.bit ||| n) 0

theorem Field.bit_inj {f g : Field} (h : f.bit = g.bit) : f = g := by
  cases f <;> cases g <;> first | rfl | exact absurd h (by decide)

theorem maskOf_testBit (l : List Field) (f : Field) : (maskOf l).testBit f.bit = true ↔ f ∈ l := by
  induction l with
  | nil => simp [maskOf]
  | cons g t ih =>
    rw [maskOf, List.foldr_cons, Nat.testBit_or, Nat.testBit_two_pow, Bool.or_eq_true, decide_eq_true_eq, List.mem_cons]
    exact or_congr ⟨fun e => (Field.bit_inj e).symm, fun e => by rw [e]⟩ ih

theorem maskLe {a b w : Nat} (h : a ||| b = b) (hw : b ||| w = w) : a ||| w = w := by
  rw [← hw, ← Nat.or_assoc, h]

theorem maskBit {a w i : Nat} (hw : a ||| w = w) (h : a.testBit i = true) : w.testBit i = true := by
  rw [← hw, Nat.testBit_or, h, Bool.true_or]

/-! ## The relation -/

/-- A later state keeps what an earlier one had: the canonical form of memory, the throttle pins' rule, the trip pin, and,
unless `r` lets the core be reset, DW_READY; unless `b` lets a sheet begin, the records of the active bank; and every part
that `w` does not name. -/
structure Kept (r b : Bool) (w : Nat) (s t : State) : Prop where
  mem : Memory.wf s = true → Memory.wf t = true
  thr : s.thrRule → t.thrRule
  trip : s.pins.thermtrip = true → t.pins.thermtrip = true
  ready : r = false → s.pins.ready = true → t.pins.ready = true
  bank : b = false → SameRecords s.bank t.bank
  frame : ∀ f : Field, w.testBit f.bit = false → f.same s t

theorem SameRecords.refl (a : Banked) : SameRecords a a :=
  ⟨rfl, rfl, rfl, rfl, ⟨rfl, rfl⟩, rfl, rfl, rfl, rfl, rfl, rfl, rfl, rfl⟩

theorem SameRecords.trans {a b c : Banked} (h : SameRecords a b) (g : SameRecords b c) : SameRecords a c :=
  ⟨g.settings.trans h.settings, g.windows.trans h.windows, g.regions.trans h.regions, g.tints.trans h.tints,
    ⟨g.marks.1.trans h.marks.1, g.marks.2.trans h.marks.2⟩, g.gates.trans h.gates, g.skews.trans h.skews,
    g.doorbells.trans h.doorbells, g.armings.trans h.armings, g.profile.trans h.profile, g.ports.trans h.ports,
    g.policers.trans h.policers, g.feedPorts.trans h.feedPorts⟩

theorem Field.same_refl (f : Field) (s : State) : f.same s s := by cases f <;> rfl

theorem Field.same_trans {f : Field} {s t u : State} (h : f.same s t) (g : f.same t u) : f.same s u := by
  cases f <;> exact Eq.trans g h

theorem Kept.refl {r b : Bool} {w : Nat} (s : State) : Kept r b w s s :=
  ⟨id, id, id, fun _ => id, fun _ => SameRecords.refl _, fun f _ => f.same_refl s⟩

/-- The parts outside a list are as they were. -/
theorem Kept.of_list {r b : Bool} {l : List Field} {s t : State} (h : Kept r b (maskOf l) s t) (f : Field) (hf : f ∉ l) :
    f.same s t :=
  h.frame f (by rw [← Bool.not_eq_true, maskOf_testBit]; exact hf)

/-- One step more: a later state that differs from one in the relation only in parts the mask names. -/
theorem Kept.more {r b : Bool} {w d : Nat} {s0 s t : State} (hw : d ||| w = w) (h : Kept r b w s0 s) (k : Kept r b d s t) :
    Kept r b w s0 t where
  mem := k.mem ∘ h.mem
  thr := k.thr ∘ h.thr
  trip := k.trip ∘ h.trip
  ready e := k.ready e ∘ h.ready e
  bank e := (h.bank e).trans (k.bank e)
  frame f e := Field.same_trans (h.frame f e) (k.frame f (by
    cases hd : d.testBit f.bit with
    | false => rfl
    | true => rw [maskBit hw hd] at e; cases e))

/-! ## Record updates, one lemma for each set of fields that a definition writes -/

theorem Kept.upd_clk {r b : Bool} {w : Nat} {s0 s : State} (hw : 0x1 ||| w = w) (h : Kept r b w s0 s) {clk} : Kept r b w s0
    (State.mk clk s.pins s.boot s.bank s.sets s.ports s.aff s.reqs s.parts s.nextId s.leaves s.prots s.cares s.arbs s.sclk
    s.heat s.power s.supply s.chans s.drrs s.markers s.debts s.lake s.feeders s.pages s.serviceq s.tickets s.hosts s.tenants
    s.cnt s.trace s.regs s.stores s.idle s.xfer s.hostMem s.mem s.chk s.freeCount s.pending) := h.more hw ⟨id, id, id, fun _
    => id, fun _ => SameRecords.refl _, fun f e => by cases f <;> first | rfl | cases e⟩

theorem Kept.upd_boot {r b : Bool} {w : Nat} {s0 s : State} (hw : 0x4 ||| w = w) (h : Kept r b w s0 s) {boot} : Kept r b w s0
    (State.mk s.clk s.pins boot s.bank s.sets s.ports s.aff s.reqs s.parts s.nextId s.leaves s.prots s.cares s.arbs s.sclk
    s.heat s.power s.supply s.chans s.drrs s.markers s.debts s.lake s.feeders s.pages s.serviceq s.tickets s.hosts s.tenants
    s.cnt s.trace s.regs s.stores s.idle s.xfer s.hostMem s.mem s.chk s.freeCount s.pending) := h.more hw ⟨id, id, id, fun _
    => id, fun _ => SameRecords.refl _, fun f e => by cases f <;> first | rfl | cases e⟩

theorem Kept.upd_sets {r b : Bool} {w : Nat} {s0 s : State} (hw : 0x10 ||| w = w) (h : Kept r b w s0 s) {sets} : Kept r b w s0
    (State.mk s.clk s.pins s.boot s.bank sets s.ports s.aff s.reqs s.parts s.nextId s.leaves s.prots s.cares s.arbs s.sclk
    s.heat s.power s.supply s.chans s.drrs s.markers s.debts s.lake s.feeders s.pages s.serviceq s.tickets s.hosts s.tenants
    s.cnt s.trace s.regs s.stores s.idle s.xfer s.hostMem s.mem s.chk s.freeCount s.pending) := h.more hw ⟨id, id, id, fun _
    => id, fun _ => SameRecords.refl _, fun f e => by cases f <;> first | rfl | cases e⟩

theorem Kept.upd_ports {r b : Bool} {w : Nat} {s0 s : State} (hw : 0x20 ||| w = w) (h : Kept r b w s0 s) {ports} : Kept r b w
    s0 (State.mk s.clk s.pins s.boot s.bank s.sets ports s.aff s.reqs s.parts s.nextId s.leaves s.prots s.cares s.arbs s.sclk
    s.heat s.power s.supply s.chans s.drrs s.markers s.debts s.lake s.feeders s.pages s.serviceq s.tickets s.hosts s.tenants
    s.cnt s.trace s.regs s.stores s.idle s.xfer s.hostMem s.mem s.chk s.freeCount s.pending) := h.more hw ⟨id, id, id, fun _
    => id, fun _ => SameRecords.refl _, fun f e => by cases f <;> first | rfl | cases e⟩

theorem Kept.upd_aff {r b : Bool} {w : Nat} {s0 s : State} (hw : 0x40 ||| w = w) (h : Kept r b w s0 s) {aff} : Kept r b w s0
    (State.mk s.clk s.pins s.boot s.bank s.sets s.ports aff s.reqs s.parts s.nextId s.leaves s.prots s.cares s.arbs s.sclk
    s.heat s.power s.supply s.chans s.drrs s.markers s.debts s.lake s.feeders s.pages s.serviceq s.tickets s.hosts s.tenants
    s.cnt s.trace s.regs s.stores s.idle s.xfer s.hostMem s.mem s.chk s.freeCount s.pending) := h.more hw ⟨id, id, id, fun _
    => id, fun _ => SameRecords.refl _, fun f e => by cases f <;> first | rfl | cases e⟩

theorem Kept.upd_reqs {r b : Bool} {w : Nat} {s0 s : State} (hw : 0x80 ||| w = w) (h : Kept r b w s0 s) {reqs} : Kept r b w s0
    (State.mk s.clk s.pins s.boot s.bank s.sets s.ports s.aff reqs s.parts s.nextId s.leaves s.prots s.cares s.arbs s.sclk
    s.heat s.power s.supply s.chans s.drrs s.markers s.debts s.lake s.feeders s.pages s.serviceq s.tickets s.hosts s.tenants
    s.cnt s.trace s.regs s.stores s.idle s.xfer s.hostMem s.mem s.chk s.freeCount s.pending) := h.more hw ⟨id, id, id, fun _
    => id, fun _ => SameRecords.refl _, fun f e => by cases f <;> first | rfl | cases e⟩

theorem Kept.upd_parts {r b : Bool} {w : Nat} {s0 s : State} (hw : 0x100 ||| w = w) (h : Kept r b w s0 s) {parts} : Kept r b w
    s0 (State.mk s.clk s.pins s.boot s.bank s.sets s.ports s.aff s.reqs parts s.nextId s.leaves s.prots s.cares s.arbs s.sclk
    s.heat s.power s.supply s.chans s.drrs s.markers s.debts s.lake s.feeders s.pages s.serviceq s.tickets s.hosts s.tenants
    s.cnt s.trace s.regs s.stores s.idle s.xfer s.hostMem s.mem s.chk s.freeCount s.pending) := h.more hw ⟨id, id, id, fun _
    => id, fun _ => SameRecords.refl _, fun f e => by cases f <;> first | rfl | cases e⟩

theorem Kept.upd_nextId {r b : Bool} {w : Nat} {s0 s : State} (hw : 0x200 ||| w = w) (h : Kept r b w s0 s) {nextId} : Kept r b
    w s0 (State.mk s.clk s.pins s.boot s.bank s.sets s.ports s.aff s.reqs s.parts nextId s.leaves s.prots s.cares s.arbs
    s.sclk s.heat s.power s.supply s.chans s.drrs s.markers s.debts s.lake s.feeders s.pages s.serviceq s.tickets s.hosts
    s.tenants s.cnt s.trace s.regs s.stores s.idle s.xfer s.hostMem s.mem s.chk s.freeCount s.pending) := h.more hw ⟨id, id,
    id, fun _ => id, fun _ => SameRecords.refl _, fun f e => by cases f <;> first | rfl | cases e⟩

theorem Kept.upd_leaves {r b : Bool} {w : Nat} {s0 s : State} (hw : 0x400 ||| w = w) (h : Kept r b w s0 s) {leaves} : Kept r b
    w s0 (State.mk s.clk s.pins s.boot s.bank s.sets s.ports s.aff s.reqs s.parts s.nextId leaves s.prots s.cares s.arbs
    s.sclk s.heat s.power s.supply s.chans s.drrs s.markers s.debts s.lake s.feeders s.pages s.serviceq s.tickets s.hosts
    s.tenants s.cnt s.trace s.regs s.stores s.idle s.xfer s.hostMem s.mem s.chk s.freeCount s.pending) := h.more hw ⟨id, id,
    id, fun _ => id, fun _ => SameRecords.refl _, fun f e => by cases f <;> first | rfl | cases e⟩

theorem Kept.upd_prots {r b : Bool} {w : Nat} {s0 s : State} (hw : 0x800 ||| w = w) (h : Kept r b w s0 s) {prots} : Kept r b w
    s0 (State.mk s.clk s.pins s.boot s.bank s.sets s.ports s.aff s.reqs s.parts s.nextId s.leaves prots s.cares s.arbs s.sclk
    s.heat s.power s.supply s.chans s.drrs s.markers s.debts s.lake s.feeders s.pages s.serviceq s.tickets s.hosts s.tenants
    s.cnt s.trace s.regs s.stores s.idle s.xfer s.hostMem s.mem s.chk s.freeCount s.pending) := h.more hw ⟨id, id, id, fun _
    => id, fun _ => SameRecords.refl _, fun f e => by cases f <;> first | rfl | cases e⟩

theorem Kept.upd_cares {r b : Bool} {w : Nat} {s0 s : State} (hw : 0x1000 ||| w = w) (h : Kept r b w s0 s) {cares} : Kept r b
    w s0 (State.mk s.clk s.pins s.boot s.bank s.sets s.ports s.aff s.reqs s.parts s.nextId s.leaves s.prots cares s.arbs
    s.sclk s.heat s.power s.supply s.chans s.drrs s.markers s.debts s.lake s.feeders s.pages s.serviceq s.tickets s.hosts
    s.tenants s.cnt s.trace s.regs s.stores s.idle s.xfer s.hostMem s.mem s.chk s.freeCount s.pending) := h.more hw ⟨id, id,
    id, fun _ => id, fun _ => SameRecords.refl _, fun f e => by cases f <;> first | rfl | cases e⟩

theorem Kept.upd_arbs {r b : Bool} {w : Nat} {s0 s : State} (hw : 0x2000 ||| w = w) (h : Kept r b w s0 s) {arbs} : Kept r b w
    s0 (State.mk s.clk s.pins s.boot s.bank s.sets s.ports s.aff s.reqs s.parts s.nextId s.leaves s.prots s.cares arbs s.sclk
    s.heat s.power s.supply s.chans s.drrs s.markers s.debts s.lake s.feeders s.pages s.serviceq s.tickets s.hosts s.tenants
    s.cnt s.trace s.regs s.stores s.idle s.xfer s.hostMem s.mem s.chk s.freeCount s.pending) := h.more hw ⟨id, id, id, fun _
    => id, fun _ => SameRecords.refl _, fun f e => by cases f <;> first | rfl | cases e⟩

theorem Kept.upd_sclk {r b : Bool} {w : Nat} {s0 s : State} (hw : 0x4000 ||| w = w) (h : Kept r b w s0 s) {sclk} : Kept r b w
    s0 (State.mk s.clk s.pins s.boot s.bank s.sets s.ports s.aff s.reqs s.parts s.nextId s.leaves s.prots s.cares s.arbs sclk
    s.heat s.power s.supply s.chans s.drrs s.markers s.debts s.lake s.feeders s.pages s.serviceq s.tickets s.hosts s.tenants
    s.cnt s.trace s.regs s.stores s.idle s.xfer s.hostMem s.mem s.chk s.freeCount s.pending) := h.more hw ⟨id, id, id, fun _
    => id, fun _ => SameRecords.refl _, fun f e => by cases f <;> first | rfl | cases e⟩

theorem Kept.upd_heat {r b : Bool} {w : Nat} {s0 s : State} (hw : 0x8000 ||| w = w) (h : Kept r b w s0 s) {heat} : Kept r b w
    s0 (State.mk s.clk s.pins s.boot s.bank s.sets s.ports s.aff s.reqs s.parts s.nextId s.leaves s.prots s.cares s.arbs
    s.sclk heat s.power s.supply s.chans s.drrs s.markers s.debts s.lake s.feeders s.pages s.serviceq s.tickets s.hosts
    s.tenants s.cnt s.trace s.regs s.stores s.idle s.xfer s.hostMem s.mem s.chk s.freeCount s.pending) := h.more hw ⟨id, id,
    id, fun _ => id, fun _ => SameRecords.refl _, fun f e => by cases f <;> first | rfl | cases e⟩

theorem Kept.upd_power {r b : Bool} {w : Nat} {s0 s : State} (hw : 0x10000 ||| w = w) (h : Kept r b w s0 s) {power} : Kept r b
    w s0 (State.mk s.clk s.pins s.boot s.bank s.sets s.ports s.aff s.reqs s.parts s.nextId s.leaves s.prots s.cares s.arbs
    s.sclk s.heat power s.supply s.chans s.drrs s.markers s.debts s.lake s.feeders s.pages s.serviceq s.tickets s.hosts
    s.tenants s.cnt s.trace s.regs s.stores s.idle s.xfer s.hostMem s.mem s.chk s.freeCount s.pending) := h.more hw ⟨id, id,
    id, fun _ => id, fun _ => SameRecords.refl _, fun f e => by cases f <;> first | rfl | cases e⟩

theorem Kept.upd_supply {r b : Bool} {w : Nat} {s0 s : State} (hw : 0x20000 ||| w = w) (h : Kept r b w s0 s) {supply} : Kept r
    b w s0 (State.mk s.clk s.pins s.boot s.bank s.sets s.ports s.aff s.reqs s.parts s.nextId s.leaves s.prots s.cares s.arbs
    s.sclk s.heat s.power supply s.chans s.drrs s.markers s.debts s.lake s.feeders s.pages s.serviceq s.tickets s.hosts
    s.tenants s.cnt s.trace s.regs s.stores s.idle s.xfer s.hostMem s.mem s.chk s.freeCount s.pending) := h.more hw ⟨id, id,
    id, fun _ => id, fun _ => SameRecords.refl _, fun f e => by cases f <;> first | rfl | cases e⟩

theorem Kept.upd_chans {r b : Bool} {w : Nat} {s0 s : State} (hw : 0x40000 ||| w = w) (h : Kept r b w s0 s) {chans} : Kept r b
    w s0 (State.mk s.clk s.pins s.boot s.bank s.sets s.ports s.aff s.reqs s.parts s.nextId s.leaves s.prots s.cares s.arbs
    s.sclk s.heat s.power s.supply chans s.drrs s.markers s.debts s.lake s.feeders s.pages s.serviceq s.tickets s.hosts
    s.tenants s.cnt s.trace s.regs s.stores s.idle s.xfer s.hostMem s.mem s.chk s.freeCount s.pending) := h.more hw ⟨id, id,
    id, fun _ => id, fun _ => SameRecords.refl _, fun f e => by cases f <;> first | rfl | cases e⟩

theorem Kept.upd_drrs {r b : Bool} {w : Nat} {s0 s : State} (hw : 0x80000 ||| w = w) (h : Kept r b w s0 s) {drrs} : Kept r b w
    s0 (State.mk s.clk s.pins s.boot s.bank s.sets s.ports s.aff s.reqs s.parts s.nextId s.leaves s.prots s.cares s.arbs
    s.sclk s.heat s.power s.supply s.chans drrs s.markers s.debts s.lake s.feeders s.pages s.serviceq s.tickets s.hosts
    s.tenants s.cnt s.trace s.regs s.stores s.idle s.xfer s.hostMem s.mem s.chk s.freeCount s.pending) := h.more hw ⟨id, id,
    id, fun _ => id, fun _ => SameRecords.refl _, fun f e => by cases f <;> first | rfl | cases e⟩

theorem Kept.upd_markers {r b : Bool} {w : Nat} {s0 s : State} (hw : 0x100000 ||| w = w) (h : Kept r b w s0 s) {markers} :
    Kept r b w s0 (State.mk s.clk s.pins s.boot s.bank s.sets s.ports s.aff s.reqs s.parts s.nextId s.leaves s.prots s.cares
    s.arbs s.sclk s.heat s.power s.supply s.chans s.drrs markers s.debts s.lake s.feeders s.pages s.serviceq s.tickets s.hosts
    s.tenants s.cnt s.trace s.regs s.stores s.idle s.xfer s.hostMem s.mem s.chk s.freeCount s.pending) := h.more hw ⟨id, id,
    id, fun _ => id, fun _ => SameRecords.refl _, fun f e => by cases f <;> first | rfl | cases e⟩

theorem Kept.upd_debts {r b : Bool} {w : Nat} {s0 s : State} (hw : 0x200000 ||| w = w) (h : Kept r b w s0 s) {debts} : Kept r
    b w s0 (State.mk s.clk s.pins s.boot s.bank s.sets s.ports s.aff s.reqs s.parts s.nextId s.leaves s.prots s.cares s.arbs
    s.sclk s.heat s.power s.supply s.chans s.drrs s.markers debts s.lake s.feeders s.pages s.serviceq s.tickets s.hosts
    s.tenants s.cnt s.trace s.regs s.stores s.idle s.xfer s.hostMem s.mem s.chk s.freeCount s.pending) := h.more hw ⟨id, id,
    id, fun _ => id, fun _ => SameRecords.refl _, fun f e => by cases f <;> first | rfl | cases e⟩

theorem Kept.upd_lake {r b : Bool} {w : Nat} {s0 s : State} (hw : 0x400000 ||| w = w) (h : Kept r b w s0 s) {lake} : Kept r b
    w s0 (State.mk s.clk s.pins s.boot s.bank s.sets s.ports s.aff s.reqs s.parts s.nextId s.leaves s.prots s.cares s.arbs
    s.sclk s.heat s.power s.supply s.chans s.drrs s.markers s.debts lake s.feeders s.pages s.serviceq s.tickets s.hosts
    s.tenants s.cnt s.trace s.regs s.stores s.idle s.xfer s.hostMem s.mem s.chk s.freeCount s.pending) := h.more hw ⟨id, id,
    id, fun _ => id, fun _ => SameRecords.refl _, fun f e => by cases f <;> first | rfl | cases e⟩

theorem Kept.upd_feeders {r b : Bool} {w : Nat} {s0 s : State} (hw : 0x800000 ||| w = w) (h : Kept r b w s0 s) {feeders} :
    Kept r b w s0 (State.mk s.clk s.pins s.boot s.bank s.sets s.ports s.aff s.reqs s.parts s.nextId s.leaves s.prots s.cares
    s.arbs s.sclk s.heat s.power s.supply s.chans s.drrs s.markers s.debts s.lake feeders s.pages s.serviceq s.tickets s.hosts
    s.tenants s.cnt s.trace s.regs s.stores s.idle s.xfer s.hostMem s.mem s.chk s.freeCount s.pending) := h.more hw ⟨id, id,
    id, fun _ => id, fun _ => SameRecords.refl _, fun f e => by cases f <;> first | rfl | cases e⟩

theorem Kept.upd_pages {r b : Bool} {w : Nat} {s0 s : State} (hw : 0x1000000 ||| w = w) (h : Kept r b w s0 s) {pages} : Kept r
    b w s0 (State.mk s.clk s.pins s.boot s.bank s.sets s.ports s.aff s.reqs s.parts s.nextId s.leaves s.prots s.cares s.arbs
    s.sclk s.heat s.power s.supply s.chans s.drrs s.markers s.debts s.lake s.feeders pages s.serviceq s.tickets s.hosts
    s.tenants s.cnt s.trace s.regs s.stores s.idle s.xfer s.hostMem s.mem s.chk s.freeCount s.pending) := h.more hw ⟨id, id,
    id, fun _ => id, fun _ => SameRecords.refl _, fun f e => by cases f <;> first | rfl | cases e⟩

theorem Kept.upd_serviceq {r b : Bool} {w : Nat} {s0 s : State} (hw : 0x2000000 ||| w = w) (h : Kept r b w s0 s) {serviceq} :
    Kept r b w s0 (State.mk s.clk s.pins s.boot s.bank s.sets s.ports s.aff s.reqs s.parts s.nextId s.leaves s.prots s.cares
    s.arbs s.sclk s.heat s.power s.supply s.chans s.drrs s.markers s.debts s.lake s.feeders s.pages serviceq s.tickets s.hosts
    s.tenants s.cnt s.trace s.regs s.stores s.idle s.xfer s.hostMem s.mem s.chk s.freeCount s.pending) := h.more hw ⟨id, id,
    id, fun _ => id, fun _ => SameRecords.refl _, fun f e => by cases f <;> first | rfl | cases e⟩

theorem Kept.upd_tickets {r b : Bool} {w : Nat} {s0 s : State} (hw : 0x4000000 ||| w = w) (h : Kept r b w s0 s) {tickets} :
    Kept r b w s0 (State.mk s.clk s.pins s.boot s.bank s.sets s.ports s.aff s.reqs s.parts s.nextId s.leaves s.prots s.cares
    s.arbs s.sclk s.heat s.power s.supply s.chans s.drrs s.markers s.debts s.lake s.feeders s.pages s.serviceq tickets s.hosts
    s.tenants s.cnt s.trace s.regs s.stores s.idle s.xfer s.hostMem s.mem s.chk s.freeCount s.pending) := h.more hw ⟨id, id,
    id, fun _ => id, fun _ => SameRecords.refl _, fun f e => by cases f <;> first | rfl | cases e⟩

theorem Kept.upd_hosts {r b : Bool} {w : Nat} {s0 s : State} (hw : 0x8000000 ||| w = w) (h : Kept r b w s0 s) {hosts} : Kept r
    b w s0 (State.mk s.clk s.pins s.boot s.bank s.sets s.ports s.aff s.reqs s.parts s.nextId s.leaves s.prots s.cares s.arbs
    s.sclk s.heat s.power s.supply s.chans s.drrs s.markers s.debts s.lake s.feeders s.pages s.serviceq s.tickets hosts
    s.tenants s.cnt s.trace s.regs s.stores s.idle s.xfer s.hostMem s.mem s.chk s.freeCount s.pending) := h.more hw ⟨id, id,
    id, fun _ => id, fun _ => SameRecords.refl _, fun f e => by cases f <;> first | rfl | cases e⟩

theorem Kept.upd_tenants {r b : Bool} {w : Nat} {s0 s : State} (hw : 0x10000000 ||| w = w) (h : Kept r b w s0 s) {tenants} :
    Kept r b w s0 (State.mk s.clk s.pins s.boot s.bank s.sets s.ports s.aff s.reqs s.parts s.nextId s.leaves s.prots s.cares
    s.arbs s.sclk s.heat s.power s.supply s.chans s.drrs s.markers s.debts s.lake s.feeders s.pages s.serviceq s.tickets
    s.hosts tenants s.cnt s.trace s.regs s.stores s.idle s.xfer s.hostMem s.mem s.chk s.freeCount s.pending) := h.more hw ⟨id,
    id, id, fun _ => id, fun _ => SameRecords.refl _, fun f e => by cases f <;> first | rfl | cases e⟩

theorem Kept.upd_cnt {r b : Bool} {w : Nat} {s0 s : State} (hw : 0x20000000 ||| w = w) (h : Kept r b w s0 s) {cnt} : Kept r b
    w s0 (State.mk s.clk s.pins s.boot s.bank s.sets s.ports s.aff s.reqs s.parts s.nextId s.leaves s.prots s.cares s.arbs
    s.sclk s.heat s.power s.supply s.chans s.drrs s.markers s.debts s.lake s.feeders s.pages s.serviceq s.tickets s.hosts
    s.tenants cnt s.trace s.regs s.stores s.idle s.xfer s.hostMem s.mem s.chk s.freeCount s.pending) := h.more hw ⟨id, id, id,
    fun _ => id, fun _ => SameRecords.refl _, fun f e => by cases f <;> first | rfl | cases e⟩

theorem Kept.upd_trace {r b : Bool} {w : Nat} {s0 s : State} (hw : 0x40000000 ||| w = w) (h : Kept r b w s0 s) {trace} : Kept
    r b w s0 (State.mk s.clk s.pins s.boot s.bank s.sets s.ports s.aff s.reqs s.parts s.nextId s.leaves s.prots s.cares s.arbs
    s.sclk s.heat s.power s.supply s.chans s.drrs s.markers s.debts s.lake s.feeders s.pages s.serviceq s.tickets s.hosts
    s.tenants s.cnt trace s.regs s.stores s.idle s.xfer s.hostMem s.mem s.chk s.freeCount s.pending) := h.more hw ⟨id, id, id,
    fun _ => id, fun _ => SameRecords.refl _, fun f e => by cases f <;> first | rfl | cases e⟩

theorem Kept.upd_regs {r b : Bool} {w : Nat} {s0 s : State} (hw : 0x80000000 ||| w = w) (h : Kept r b w s0 s) {regs} : Kept r
    b w s0 (State.mk s.clk s.pins s.boot s.bank s.sets s.ports s.aff s.reqs s.parts s.nextId s.leaves s.prots s.cares s.arbs
    s.sclk s.heat s.power s.supply s.chans s.drrs s.markers s.debts s.lake s.feeders s.pages s.serviceq s.tickets s.hosts
    s.tenants s.cnt s.trace regs s.stores s.idle s.xfer s.hostMem s.mem s.chk s.freeCount s.pending) := h.more hw ⟨id, id, id,
    fun _ => id, fun _ => SameRecords.refl _, fun f e => by cases f <;> first | rfl | cases e⟩

theorem Kept.upd_stores {r b : Bool} {w : Nat} {s0 s : State} (hw : 0x100000000 ||| w = w) (h : Kept r b w s0 s) {stores} :
    Kept r b w s0 (State.mk s.clk s.pins s.boot s.bank s.sets s.ports s.aff s.reqs s.parts s.nextId s.leaves s.prots s.cares
    s.arbs s.sclk s.heat s.power s.supply s.chans s.drrs s.markers s.debts s.lake s.feeders s.pages s.serviceq s.tickets
    s.hosts s.tenants s.cnt s.trace s.regs stores s.idle s.xfer s.hostMem s.mem s.chk s.freeCount s.pending) := h.more hw ⟨id,
    id, id, fun _ => id, fun _ => SameRecords.refl _, fun f e => by cases f <;> first | rfl | cases e⟩

theorem Kept.upd_idle {r b : Bool} {w : Nat} {s0 s : State} (hw : 0x200000000 ||| w = w) (h : Kept r b w s0 s) {idle} : Kept r
    b w s0 (State.mk s.clk s.pins s.boot s.bank s.sets s.ports s.aff s.reqs s.parts s.nextId s.leaves s.prots s.cares s.arbs
    s.sclk s.heat s.power s.supply s.chans s.drrs s.markers s.debts s.lake s.feeders s.pages s.serviceq s.tickets s.hosts
    s.tenants s.cnt s.trace s.regs s.stores idle s.xfer s.hostMem s.mem s.chk s.freeCount s.pending) := h.more hw ⟨id, id, id,
    fun _ => id, fun _ => SameRecords.refl _, fun f e => by cases f <;> first | rfl | cases e⟩

theorem Kept.upd_freeCount {r b : Bool} {w : Nat} {s0 s : State} (hw : 0x4000000000 ||| w = w) (h : Kept r b w s0 s)
    {freeCount} : Kept r b w s0 (State.mk s.clk s.pins s.boot s.bank s.sets s.ports s.aff s.reqs s.parts s.nextId s.leaves
    s.prots s.cares s.arbs s.sclk s.heat s.power s.supply s.chans s.drrs s.markers s.debts s.lake s.feeders s.pages s.serviceq
    s.tickets s.hosts s.tenants s.cnt s.trace s.regs s.stores s.idle s.xfer s.hostMem s.mem s.chk freeCount s.pending) :=
    h.more hw ⟨id, id, id, fun _ => id, fun _ => SameRecords.refl _, fun f e => by cases f <;> first | rfl | cases e⟩

theorem Kept.upd_pending {r b : Bool} {w : Nat} {s0 s : State} (hw : 0x8000000000 ||| w = w) (h : Kept r b w s0 s) {pending} :
    Kept r b w s0 (State.mk s.clk s.pins s.boot s.bank s.sets s.ports s.aff s.reqs s.parts s.nextId s.leaves s.prots s.cares
    s.arbs s.sclk s.heat s.power s.supply s.chans s.drrs s.markers s.debts s.lake s.feeders s.pages s.serviceq s.tickets
    s.hosts s.tenants s.cnt s.trace s.regs s.stores s.idle s.xfer s.hostMem s.mem s.chk s.freeCount pending) := h.more hw ⟨id,
    id, id, fun _ => id, fun _ => SameRecords.refl _, fun f e => by cases f <;> first | rfl | cases e⟩

theorem Kept.upd_clk_sets {r b : Bool} {w : Nat} {s0 s : State} (hw : 0x11 ||| w = w) (h : Kept r b w s0 s) {clk sets} : Kept
    r b w s0 (State.mk clk s.pins s.boot s.bank sets s.ports s.aff s.reqs s.parts s.nextId s.leaves s.prots s.cares s.arbs
    s.sclk s.heat s.power s.supply s.chans s.drrs s.markers s.debts s.lake s.feeders s.pages s.serviceq s.tickets s.hosts
    s.tenants s.cnt s.trace s.regs s.stores s.idle s.xfer s.hostMem s.mem s.chk s.freeCount s.pending) := h.more hw ⟨id, id,
    id, fun _ => id, fun _ => SameRecords.refl _, fun f e => by cases f <;> first | rfl | cases e⟩

theorem Kept.upd_clk_regs {r b : Bool} {w : Nat} {s0 s : State} (hw : 0x80000001 ||| w = w) (h : Kept r b w s0 s) {clk regs} :
    Kept r b w s0 (State.mk clk s.pins s.boot s.bank s.sets s.ports s.aff s.reqs s.parts s.nextId s.leaves s.prots s.cares
    s.arbs s.sclk s.heat s.power s.supply s.chans s.drrs s.markers s.debts s.lake s.feeders s.pages s.serviceq s.tickets
    s.hosts s.tenants s.cnt s.trace regs s.stores s.idle s.xfer s.hostMem s.mem s.chk s.freeCount s.pending) := h.more hw ⟨id,
    id, id, fun _ => id, fun _ => SameRecords.refl _, fun f e => by cases f <;> first | rfl | cases e⟩

theorem Kept.upd_boot_sets {r b : Bool} {w : Nat} {s0 s : State} (hw : 0x14 ||| w = w) (h : Kept r b w s0 s) {boot sets} :
    Kept r b w s0 (State.mk s.clk s.pins boot s.bank sets s.ports s.aff s.reqs s.parts s.nextId s.leaves s.prots s.cares
    s.arbs s.sclk s.heat s.power s.supply s.chans s.drrs s.markers s.debts s.lake s.feeders s.pages s.serviceq s.tickets
    s.hosts s.tenants s.cnt s.trace s.regs s.stores s.idle s.xfer s.hostMem s.mem s.chk s.freeCount s.pending) := h.more hw
    ⟨id, id, id, fun _ => id, fun _ => SameRecords.refl _, fun f e => by cases f <;> first | rfl | cases e⟩

theorem Kept.upd_boot_lake {r b : Bool} {w : Nat} {s0 s : State} (hw : 0x400004 ||| w = w) (h : Kept r b w s0 s) {boot lake} :
    Kept r b w s0 (State.mk s.clk s.pins boot s.bank s.sets s.ports s.aff s.reqs s.parts s.nextId s.leaves s.prots s.cares
    s.arbs s.sclk s.heat s.power s.supply s.chans s.drrs s.markers s.debts lake s.feeders s.pages s.serviceq s.tickets s.hosts
    s.tenants s.cnt s.trace s.regs s.stores s.idle s.xfer s.hostMem s.mem s.chk s.freeCount s.pending) := h.more hw ⟨id, id,
    id, fun _ => id, fun _ => SameRecords.refl _, fun f e => by cases f <;> first | rfl | cases e⟩

theorem Kept.upd_boot_tickets {r b : Bool} {w : Nat} {s0 s : State} (hw : 0x4000004 ||| w = w) (h : Kept r b w s0 s) {boot
    tickets} : Kept r b w s0 (State.mk s.clk s.pins boot s.bank s.sets s.ports s.aff s.reqs s.parts s.nextId s.leaves s.prots
    s.cares s.arbs s.sclk s.heat s.power s.supply s.chans s.drrs s.markers s.debts s.lake s.feeders s.pages s.serviceq tickets
    s.hosts s.tenants s.cnt s.trace s.regs s.stores s.idle s.xfer s.hostMem s.mem s.chk s.freeCount s.pending) := h.more hw
    ⟨id, id, id, fun _ => id, fun _ => SameRecords.refl _, fun f e => by cases f <;> first | rfl | cases e⟩

theorem Kept.upd_boot_regs {r b : Bool} {w : Nat} {s0 s : State} (hw : 0x80000004 ||| w = w) (h : Kept r b w s0 s) {boot regs}
    : Kept r b w s0 (State.mk s.clk s.pins boot s.bank s.sets s.ports s.aff s.reqs s.parts s.nextId s.leaves s.prots s.cares
    s.arbs s.sclk s.heat s.power s.supply s.chans s.drrs s.markers s.debts s.lake s.feeders s.pages s.serviceq s.tickets
    s.hosts s.tenants s.cnt s.trace regs s.stores s.idle s.xfer s.hostMem s.mem s.chk s.freeCount s.pending) := h.more hw ⟨id,
    id, id, fun _ => id, fun _ => SameRecords.refl _, fun f e => by cases f <;> first | rfl | cases e⟩

theorem Kept.upd_ports_feeders {r b : Bool} {w : Nat} {s0 s : State} (hw : 0x800020 ||| w = w) (h : Kept r b w s0 s) {ports
    feeders} : Kept r b w s0 (State.mk s.clk s.pins s.boot s.bank s.sets ports s.aff s.reqs s.parts s.nextId s.leaves s.prots
    s.cares s.arbs s.sclk s.heat s.power s.supply s.chans s.drrs s.markers s.debts s.lake feeders s.pages s.serviceq s.tickets
    s.hosts s.tenants s.cnt s.trace s.regs s.stores s.idle s.xfer s.hostMem s.mem s.chk s.freeCount s.pending) := h.more hw
    ⟨id, id, id, fun _ => id, fun _ => SameRecords.refl _, fun f e => by cases f <;> first | rfl | cases e⟩

theorem Kept.upd_ports_regs {r b : Bool} {w : Nat} {s0 s : State} (hw : 0x80000020 ||| w = w) (h : Kept r b w s0 s) {ports
    regs} : Kept r b w s0 (State.mk s.clk s.pins s.boot s.bank s.sets ports s.aff s.reqs s.parts s.nextId s.leaves s.prots
    s.cares s.arbs s.sclk s.heat s.power s.supply s.chans s.drrs s.markers s.debts s.lake s.feeders s.pages s.serviceq
    s.tickets s.hosts s.tenants s.cnt s.trace regs s.stores s.idle s.xfer s.hostMem s.mem s.chk s.freeCount s.pending) :=
    h.more hw ⟨id, id, id, fun _ => id, fun _ => SameRecords.refl _, fun f e => by cases f <;> first | rfl | cases e⟩

theorem Kept.upd_aff_regs {r b : Bool} {w : Nat} {s0 s : State} (hw : 0x80000040 ||| w = w) (h : Kept r b w s0 s) {aff regs} :
    Kept r b w s0 (State.mk s.clk s.pins s.boot s.bank s.sets s.ports aff s.reqs s.parts s.nextId s.leaves s.prots s.cares
    s.arbs s.sclk s.heat s.power s.supply s.chans s.drrs s.markers s.debts s.lake s.feeders s.pages s.serviceq s.tickets
    s.hosts s.tenants s.cnt s.trace regs s.stores s.idle s.xfer s.hostMem s.mem s.chk s.freeCount s.pending) := h.more hw ⟨id,
    id, id, fun _ => id, fun _ => SameRecords.refl _, fun f e => by cases f <;> first | rfl | cases e⟩

theorem Kept.upd_nextId_lake {r b : Bool} {w : Nat} {s0 s : State} (hw : 0x400200 ||| w = w) (h : Kept r b w s0 s) {nextId
    lake} : Kept r b w s0 (State.mk s.clk s.pins s.boot s.bank s.sets s.ports s.aff s.reqs s.parts nextId s.leaves s.prots
    s.cares s.arbs s.sclk s.heat s.power s.supply s.chans s.drrs s.markers s.debts lake s.feeders s.pages s.serviceq s.tickets
    s.hosts s.tenants s.cnt s.trace s.regs s.stores s.idle s.xfer s.hostMem s.mem s.chk s.freeCount s.pending) := h.more hw
    ⟨id, id, id, fun _ => id, fun _ => SameRecords.refl _, fun f e => by cases f <;> first | rfl | cases e⟩

theorem Kept.upd_cares_lake {r b : Bool} {w : Nat} {s0 s : State} (hw : 0x401000 ||| w = w) (h : Kept r b w s0 s) {cares lake}
    : Kept r b w s0 (State.mk s.clk s.pins s.boot s.bank s.sets s.ports s.aff s.reqs s.parts s.nextId s.leaves s.prots cares
    s.arbs s.sclk s.heat s.power s.supply s.chans s.drrs s.markers s.debts lake s.feeders s.pages s.serviceq s.tickets s.hosts
    s.tenants s.cnt s.trace s.regs s.stores s.idle s.xfer s.hostMem s.mem s.chk s.freeCount s.pending) := h.more hw ⟨id, id,
    id, fun _ => id, fun _ => SameRecords.refl _, fun f e => by cases f <;> first | rfl | cases e⟩

theorem Kept.upd_lake_tickets {r b : Bool} {w : Nat} {s0 s : State} (hw : 0x4400000 ||| w = w) (h : Kept r b w s0 s) {lake
    tickets} : Kept r b w s0 (State.mk s.clk s.pins s.boot s.bank s.sets s.ports s.aff s.reqs s.parts s.nextId s.leaves
    s.prots s.cares s.arbs s.sclk s.heat s.power s.supply s.chans s.drrs s.markers s.debts lake s.feeders s.pages s.serviceq
    tickets s.hosts s.tenants s.cnt s.trace s.regs s.stores s.idle s.xfer s.hostMem s.mem s.chk s.freeCount s.pending) :=
    h.more hw ⟨id, id, id, fun _ => id, fun _ => SameRecords.refl _, fun f e => by cases f <;> first | rfl | cases e⟩

theorem Kept.upd_serviceq_tickets {r b : Bool} {w : Nat} {s0 s : State} (hw : 0x6000000 ||| w = w) (h : Kept r b w s0 s)
    {serviceq tickets} : Kept r b w s0 (State.mk s.clk s.pins s.boot s.bank s.sets s.ports s.aff s.reqs s.parts s.nextId
    s.leaves s.prots s.cares s.arbs s.sclk s.heat s.power s.supply s.chans s.drrs s.markers s.debts s.lake s.feeders s.pages
    serviceq tickets s.hosts s.tenants s.cnt s.trace s.regs s.stores s.idle s.xfer s.hostMem s.mem s.chk s.freeCount
    s.pending) := h.more hw ⟨id, id, id, fun _ => id, fun _ => SameRecords.refl _, fun f e => by cases f <;> first | rfl |
    cases e⟩

theorem Kept.upd_sets_serviceq_tickets {r b : Bool} {w : Nat} {s0 s : State} (hw : 0x6000010 ||| w = w) (h : Kept r b w s0 s)
    {sets serviceq tickets} : Kept r b w s0 (State.mk s.clk s.pins s.boot s.bank sets s.ports s.aff s.reqs s.parts s.nextId
    s.leaves s.prots s.cares s.arbs s.sclk s.heat s.power s.supply s.chans s.drrs s.markers s.debts s.lake s.feeders s.pages
    serviceq tickets s.hosts s.tenants s.cnt s.trace s.regs s.stores s.idle s.xfer s.hostMem s.mem s.chk s.freeCount
    s.pending) := h.more hw ⟨id, id, id, fun _ => id, fun _ => SameRecords.refl _, fun f e => by cases f <;> first | rfl |
    cases e⟩

theorem Kept.upd_nextId_serviceq_tickets {r b : Bool} {w : Nat} {s0 s : State} (hw : 0x6000200 ||| w = w) (h : Kept r b w s0
    s) {nextId serviceq tickets} : Kept r b w s0 (State.mk s.clk s.pins s.boot s.bank s.sets s.ports s.aff s.reqs s.parts
    nextId s.leaves s.prots s.cares s.arbs s.sclk s.heat s.power s.supply s.chans s.drrs s.markers s.debts s.lake s.feeders
    s.pages serviceq tickets s.hosts s.tenants s.cnt s.trace s.regs s.stores s.idle s.xfer s.hostMem s.mem s.chk s.freeCount
    s.pending) := h.more hw ⟨id, id, id, fun _ => id, fun _ => SameRecords.refl _, fun f e => by cases f <;> first | rfl |
    cases e⟩

theorem Kept.upd_leaves_cares_arbs {r b : Bool} {w : Nat} {s0 s : State} (hw : 0x3400 ||| w = w) (h : Kept r b w s0 s) {leaves
    cares arbs} : Kept r b w s0 (State.mk s.clk s.pins s.boot s.bank s.sets s.ports s.aff s.reqs s.parts s.nextId leaves
    s.prots cares arbs s.sclk s.heat s.power s.supply s.chans s.drrs s.markers s.debts s.lake s.feeders s.pages s.serviceq
    s.tickets s.hosts s.tenants s.cnt s.trace s.regs s.stores s.idle s.xfer s.hostMem s.mem s.chk s.freeCount s.pending) :=
    h.more hw ⟨id, id, id, fun _ => id, fun _ => SameRecords.refl _, fun f e => by cases f <;> first | rfl | cases e⟩

theorem Kept.upd_boot_sets_serviceq_trace_regs_stores {r b : Bool} {w : Nat} {s0 s : State} (hw : 0x1c2000014 ||| w = w) (h :
    Kept r b w s0 s) {boot sets serviceq trace regs stores} : Kept r b w s0 (State.mk s.clk s.pins boot s.bank sets s.ports
    s.aff s.reqs s.parts s.nextId s.leaves s.prots s.cares s.arbs s.sclk s.heat s.power s.supply s.chans s.drrs s.markers
    s.debts s.lake s.feeders s.pages serviceq s.tickets s.hosts s.tenants s.cnt trace regs stores s.idle s.xfer s.hostMem
    s.mem s.chk s.freeCount s.pending) := h.more hw ⟨id, id, id, fun _ => id, fun _ => SameRecords.refl _, fun f e => by cases
    f <;> first | rfl | cases e⟩

theorem Kept.upd_pins {r b : Bool} {w : Nat} {s0 s : State} (hw : 0x2 ||| w = w) (h : Kept r b w s0 s) {pins : Pins} (hp :
    pins.thrReq = s.pins.thrReq ∧ pins.thrLevel = s.pins.thrLevel ∧ (s.pins.thermtrip = true → pins.thermtrip = true) ∧
    (s.pins.ready = true → pins.ready = true)) : Kept r b w s0 (State.mk s.clk pins s.boot s.bank s.sets s.ports s.aff s.reqs
    s.parts s.nextId s.leaves s.prots s.cares s.arbs s.sclk s.heat s.power s.supply s.chans s.drrs s.markers s.debts s.lake
    s.feeders s.pages s.serviceq s.tickets s.hosts s.tenants s.cnt s.trace s.regs s.stores s.idle s.xfer s.hostMem s.mem s.chk
    s.freeCount s.pending) := h.more hw ⟨id, fun c q => hp.2.1.trans (c (hp.1.symm.trans q)), hp.2.2.1, fun _ => hp.2.2.2, fun
    _ => SameRecords.refl _, fun f e => by cases f <;> first | rfl | cases e⟩

theorem Kept.upd_pins_boot {r b : Bool} {w : Nat} {s0 s : State} (hw : 0x6 ||| w = w) (h : Kept r b w s0 s) {boot} {pins :
    Pins} (hp : pins.thrReq = s.pins.thrReq ∧ pins.thrLevel = s.pins.thrLevel ∧ (s.pins.thermtrip = true → pins.thermtrip =
    true) ∧ (s.pins.ready = true → pins.ready = true)) : Kept r b w s0 (State.mk s.clk pins boot s.bank s.sets s.ports s.aff
    s.reqs s.parts s.nextId s.leaves s.prots s.cares s.arbs s.sclk s.heat s.power s.supply s.chans s.drrs s.markers s.debts
    s.lake s.feeders s.pages s.serviceq s.tickets s.hosts s.tenants s.cnt s.trace s.regs s.stores s.idle s.xfer s.hostMem
    s.mem s.chk s.freeCount s.pending) := h.more hw ⟨id, fun c q => hp.2.1.trans (c (hp.1.symm.trans q)), hp.2.2.1, fun _ =>
    hp.2.2.2, fun _ => SameRecords.refl _, fun f e => by cases f <;> first | rfl | cases e⟩

theorem Kept.upd_pins_lake {r b : Bool} {w : Nat} {s0 s : State} (hw : 0x400002 ||| w = w) (h : Kept r b w s0 s) {lake} {pins
    : Pins} (hp : pins.thrReq = s.pins.thrReq ∧ pins.thrLevel = s.pins.thrLevel ∧ (s.pins.thermtrip = true → pins.thermtrip =
    true) ∧ (s.pins.ready = true → pins.ready = true)) : Kept r b w s0 (State.mk s.clk pins s.boot s.bank s.sets s.ports s.aff
    s.reqs s.parts s.nextId s.leaves s.prots s.cares s.arbs s.sclk s.heat s.power s.supply s.chans s.drrs s.markers s.debts
    lake s.feeders s.pages s.serviceq s.tickets s.hosts s.tenants s.cnt s.trace s.regs s.stores s.idle s.xfer s.hostMem s.mem
    s.chk s.freeCount s.pending) := h.more hw ⟨id, fun c q => hp.2.1.trans (c (hp.1.symm.trans q)), hp.2.2.1, fun _ =>
    hp.2.2.2, fun _ => SameRecords.refl _, fun f e => by cases f <;> first | rfl | cases e⟩

theorem Kept.upd_pins_regs {r b : Bool} {w : Nat} {s0 s : State} (hw : 0x80000002 ||| w = w) (h : Kept r b w s0 s) {regs}
    {pins : Pins} (hp : pins.thrReq = s.pins.thrReq ∧ pins.thrLevel = s.pins.thrLevel ∧ (s.pins.thermtrip = true →
    pins.thermtrip = true) ∧ (s.pins.ready = true → pins.ready = true)) : Kept r b w s0 (State.mk s.clk pins s.boot s.bank
    s.sets s.ports s.aff s.reqs s.parts s.nextId s.leaves s.prots s.cares s.arbs s.sclk s.heat s.power s.supply s.chans s.drrs
    s.markers s.debts s.lake s.feeders s.pages s.serviceq s.tickets s.hosts s.tenants s.cnt s.trace regs s.stores s.idle
    s.xfer s.hostMem s.mem s.chk s.freeCount s.pending) := h.more hw ⟨id, fun c q => hp.2.1.trans (c (hp.1.symm.trans q)),
    hp.2.2.1, fun _ => hp.2.2.2, fun _ => SameRecords.refl _, fun f e => by cases f <;> first | rfl | cases e⟩

theorem Kept.upd_pins_boot_trace {r b : Bool} {w : Nat} {s0 s : State} (hw : 0x40000006 ||| w = w) (h : Kept r b w s0 s) {boot
    trace} {pins : Pins} (hp : pins.thrReq = s.pins.thrReq ∧ pins.thrLevel = s.pins.thrLevel ∧ (s.pins.thermtrip = true →
    pins.thermtrip = true) ∧ (s.pins.ready = true → pins.ready = true)) : Kept r b w s0 (State.mk s.clk pins boot s.bank
    s.sets s.ports s.aff s.reqs s.parts s.nextId s.leaves s.prots s.cares s.arbs s.sclk s.heat s.power s.supply s.chans s.drrs
    s.markers s.debts s.lake s.feeders s.pages s.serviceq s.tickets s.hosts s.tenants s.cnt trace s.regs s.stores s.idle
    s.xfer s.hostMem s.mem s.chk s.freeCount s.pending) := h.more hw ⟨id, fun c q => hp.2.1.trans (c (hp.1.symm.trans q)),
    hp.2.2.1, fun _ => hp.2.2.2, fun _ => SameRecords.refl _, fun f e => by cases f <;> first | rfl | cases e⟩

theorem Kept.upd_reqs_leaves_cares_lake {r b : Bool} {w : Nat} {s0 s : State} (hw : 0x401480 ||| w = w) (h : Kept r b w s0 s)
    {reqs leaves cares lake} : Kept r b w s0 (State.mk s.clk s.pins s.boot s.bank s.sets s.ports s.aff reqs s.parts s.nextId
    leaves s.prots cares s.arbs s.sclk s.heat s.power s.supply s.chans s.drrs s.markers s.debts lake s.feeders s.pages
    s.serviceq s.tickets s.hosts s.tenants s.cnt s.trace s.regs s.stores s.idle s.xfer s.hostMem s.mem s.chk s.freeCount
    s.pending) := h.more hw ⟨id, id, id, fun _ => id, fun _ => SameRecords.refl _, fun f e => by cases f <;> first | rfl |
    cases e⟩

/-- A state whose throttle pins are written together. -/
theorem Kept.pinsThr {r b : Bool} {w : Nat} {s0 s : State} (hw : 0x2 ||| w = w) (h : Kept r b w s0 s) (lvl : Nat) :
    Kept r b w s0 { s with pins := { s.pins with thrReq := decide (0 < lvl), thrLevel := lvl } } :=
  h.more hw ⟨id, fun _ hq => by simpa using hq, id, fun _ => id, fun _ => SameRecords.refl _,
    fun f e => by cases f <;> first | rfl | cases e⟩

theorem State.setBank_kept {r b : Bool} {w : Nat} {s0 s : State} (hw : 0x8 ||| w = w) (h : Kept r b w s0 s) {x : Banked}
    (e : b = false → SameRecords s.bank x) : Kept r b w s0 (s.setBank x) :=
  h.more hw ⟨id, id, id, fun _ => id, e, fun f e => by cases f <;> first | rfl | cases e⟩

theorem Kept.foldl {r b : Bool} {w : Nat} {α : Type} {s0 : State} {f : State → α → State}
    (hf : ∀ s a, Kept r b w s0 s → Kept r b w s0 (f s a)) (l : List α) : ∀ s, Kept r b w s0 s → Kept r b w s0 (l.foldl f s) := by
  induction l with
  | nil => intro s h; exact h
  | cons a t ih => intro s h; exact ih _ (hf s a h)

theorem Kept.foldl1 {r b : Bool} {w : Nat} {α β : Type} {s0 : State} {f : State × β → α → State × β}
    (hf : ∀ p a, Kept r b w s0 p.1 → Kept r b w s0 (f p a).1) (l : List α) : ∀ p, Kept r b w s0 p.1 → Kept r b w s0 (l.foldl f p).1 := by
  induction l with
  | nil => intro s h; exact h
  | cons a t ih => intro s h; exact ih _ (hf s a h)

/-- The same of a command's outcome. -/
def KeptO (r b : Bool) (w : Nat) (s : State) : Host.Outcome State Fault Refusal → Prop
  | .next t => Kept r b w s t
  | .fault _ => True
  | .refused _ => True

theorem KeptO.next {r b : Bool} {w : Nat} {s t : State} (h : Kept r b w s t) : KeptO r b w s (.next t) := h

/-- The same of what a mailbox body answers: staged items go into a change set. -/
def KeptA (r b : Bool) (w : Nat) (s : State) : Ans → Prop
  | .fail _ _ _ _ => True
  | .ok _ t => Kept r b w s t
  | .staged _ _ t => 0x10 ||| w = w ∧ Kept r b w s t
  | .wait t => Kept r b w s t

theorem KeptA.fail {r b : Bool} {w : Nat} {s : State} (st pos step : Nat) (bulk : Option (List Nat)) :
    KeptA r b w s (.fail st pos step bulk) :=
  trivial
theorem KeptA.ok {r b : Bool} {w : Nat} {s t : State} (l : List Nat) (h : Kept r b w s t) : KeptA r b w s (.ok l t) := h
theorem KeptA.staged {r b : Bool} {w : Nat} {s t : State} (hw : 0x10 ||| w = w) (i : List (Staged × Nat)) (l : List Nat)
    (h : Kept r b w s t) : KeptA r b w s (.staged i l t) := ⟨hw, h⟩
theorem KeptA.wait {r b : Bool} {w : Nat} {s t : State} (h : Kept r b w s t) : KeptA r b w s (.wait t) := h

theorem chain_kept {r b : Bool} {w : Nat} {s : State} {a : Ans} (h : KeptA r b w s a) (cs : List (Bool × Nat × Nat × Nat)) :
    KeptA r b w s (chain cs a) := by
  unfold chain
  split
  · trivial
  · exact h

/-- The state of a pair that a function answered. -/
theorem Kept.fst_eq {r b : Bool} {w : Nat} {α : Type} {s0 t : State} {p : State × α} {x : α} (e : p = (t, x)) (h : Kept r b w s0 p.1) :
    Kept r b w s0 t := by
  subst e; exact h

/-- A state on the way. -/
theorem Kept.via {r b : Bool} {w : Nat} {s0 : State} (x : State) {P : Prop} (h : Kept r b w s0 x) (k : Kept r b w s0 x → P) : P := k h

theorem Kept.ite {r b : Bool} {w : Nat} {s0 x y : State} {c : Prop} [Decidable c] (h : Kept r b w s0 x) (k : Kept r b w s0 y) :
    Kept r b w s0 (if c then x else y) := by
  split
  · exact h
  · exact k

theorem KeptO.ite {r b : Bool} {w : Nat} {s0 : State} {x y : Host.Outcome State Fault Refusal} {c : Prop} [Decidable c]
    (h : KeptO r b w s0 x) (k : KeptO r b w s0 y) : KeptO r b w s0 (if c then x else y) := by
  split
  · exact h
  · exact k

theorem KeptA.ite {r b : Bool} {w : Nat} {s0 : State} {x y : Ans} {c : Prop} [Decidable c] (h : KeptA r b w s0 x) (k : KeptA r b w s0 y) :
    KeptA r b w s0 (if c then x else y) := by
  split
  · exact h
  · exact k

/-! ## Cells -/

theorem State.storeWord_kept {r b : Bool} {w : Nat} {s0 s : State} (hw : 0x3000000000 ||| w = w) (h : Kept r b w s0 s) (leaf la : Nat)
    (d : Word64) (c : Byte) : Kept r b w s0 (s.storeWord leaf la d c) := by
  refine h.more hw ⟨fun q => ?_, id, id, fun _ => id, fun _ => SameRecords.refl _,
    fun f e => by cases f <;> first | rfl | cases e⟩
  have ⟨a1, a2, a3, a4⟩ := (Memory.wf_iff s).mp q
  exact (Memory.wf_iff _).mpr ⟨cellsWf_foldl _ (fun m i hm => cellsWf_set hm _ _) _ _ a1, cellsWf_set a2 _ _, a3, a4⟩

theorem State.zeroLeaf_kept {r b : Bool} {w : Nat} {s0 s : State} (hw : 0x3000000000 ||| w = w) (h : Kept r b w s0 s) (leaf : Nat) :
    Kept r b w s0 (s.zeroLeaf leaf) := by
  refine h.more hw ⟨fun q => ?_, id, id, fun _ => id, fun _ => SameRecords.refl _,
    fun f e => by cases f <;> first | rfl | cases e⟩
  have ⟨a1, a2, a3, a4⟩ := (Memory.wf_iff s).mp q
  exact (Memory.wf_iff _).mpr ⟨cellsWf_keep a1 (fun k _ => k / 2 ^ 31 != leaf),
    cellsWf_keep a2 (fun k _ => k / 2 ^ 28 != leaf), a3, a4⟩

/-- A register write into host storage. -/
theorem Kept.hostCells {r b : Bool} {w : Nat} {s0 s : State} (hw : 0x800000000 ||| w = w) (h : Kept r b w s0 s) (i v : Nat) :
    Kept r b w s0 { s with hostMem := putWordCells s.hostMem i v } := by
  refine h.more hw ⟨fun q => ?_, id, id, fun _ => id, fun _ => SameRecords.refl _,
    fun f e => by cases f <;> first | rfl | cases e⟩
  have ⟨a1, a2, a3, a4⟩ := (Memory.wf_iff s).mp q
  exact (Memory.wf_iff _).mpr ⟨a1, a2, a3, cellsWf_putWord a4 i v⟩

/-- A register write into the transfer area. -/
theorem Kept.xferCells {r b : Bool} {w : Nat} {s0 s : State} (hw : 0x400000000 ||| w = w) (h : Kept r b w s0 s) (i v : Nat) :
    Kept r b w s0 { s with xfer := putWordCells s.xfer i v } := by
  refine h.more hw ⟨fun q => ?_, id, id, fun _ => id, fun _ => SameRecords.refl _,
    fun f e => by cases f <;> first | rfl | cases e⟩
  have ⟨a1, a2, a3, a4⟩ := (Memory.wf_iff s).mp q
  exact (Memory.wf_iff _).mpr ⟨a1, a2, cellsWf_putWord a3 i v, a4⟩

/-- A core reset: memory and the throttle and trip pins stay. -/
theorem Kept.reset {w : Nat} {s0 s : State} (hw : 0x3ffffffff ||| w = w) (h : Kept true true w s0 s) {clk boot bank sets ports
    aff reqs parts nextId leaves prots cares arbs sclk heat power supply chans drrs markers debts lake feeders pages serviceq
    tickets hosts tenants cnt trace regs stores idle} {pins : Pins} (hp : pins.thrReq = s.pins.thrReq ∧ pins.thrLevel =
    s.pins.thrLevel ∧ pins.thermtrip = s.pins.thermtrip) : Kept true true w s0 (State.mk clk pins boot bank sets ports aff
    reqs parts nextId leaves prots cares arbs sclk heat power supply chans drrs markers debts lake feeders pages serviceq
    tickets hosts tenants cnt trace regs stores idle s.xfer s.hostMem s.mem s.chk s.freeCount s.pending) := h.more hw ⟨id, fun
    c q => hp.2.1.trans (c (hp.1.symm.trans q)), fun c => hp.2.2.trans c, fun e => Bool.noConfusion e, fun e =>
    Bool.noConfusion e, fun f e => by cases f <;> first | rfl | cases e⟩

end Sys2Proof.Machine
end

