-- ==== Sys2Proof/Laws/KeptOps.lean ====
section
/-! SUPPORT. What the functions of Ops, Path, Mail
keep and may change: one lemma each, in the order of their calls. -/

namespace Sys2Proof.Machine

theorem State.setPort_kept {r b : Bool} {w : Nat} {s0 s : State} (hw : 0x20 ||| w = w) (h : Kept r b w s0 s) :
    ∀ a1 a2, Kept r b w s0 (State.setPort s a1 a2) := by
  intro a1 a2
  unfold State.setPort
  repeat' first
    | with_reducible assumption
    | fail_if_no_progress with_reducible refine Kept.upd_ports (maskLe (by decide) hw) ?_

theorem State.setLeaf_kept {r b : Bool} {w : Nat} {s0 s : State} (hw : 0x400 ||| w = w) (h : Kept r b w s0 s) :
    ∀ a1 a2, Kept r b w s0 (State.setLeaf s a1 a2) := by
  intro a1 a2
  unfold State.setLeaf
  repeat' first
    | with_reducible assumption
    | fail_if_no_progress with_reducible refine Kept.upd_leaves (maskLe (by decide) hw) ?_

theorem State.setProt_kept {r b : Bool} {w : Nat} {s0 s : State} (hw : 0x800 ||| w = w) (h : Kept r b w s0 s) :
    ∀ a1 a2, Kept r b w s0 (State.setProt s a1 a2) := by
  intro a1 a2
  unfold State.setProt
  repeat' first
    | with_reducible assumption
    | fail_if_no_progress with_reducible refine Kept.upd_prots (maskLe (by decide) hw) ?_

theorem State.setCare_kept {r b : Bool} {w : Nat} {s0 s : State} (hw : 0x1000 ||| w = w) (h : Kept r b w s0 s) :
    ∀ a1 a2, Kept r b w s0 (State.setCare s a1 a2) := by
  intro a1 a2
  unfold State.setCare
  repeat' first
    | with_reducible assumption
    | fail_if_no_progress with_reducible refine Kept.upd_cares (maskLe (by decide) hw) ?_

theorem State.setArb_kept {r b : Bool} {w : Nat} {s0 s : State} (hw : 0x2000 ||| w = w) (h : Kept r b w s0 s) :
    ∀ a1 a2, Kept r b w s0 (State.setArb s a1 a2) := by
  intro a1 a2
  unfold State.setArb
  repeat' first
    | with_reducible assumption
    | fail_if_no_progress with_reducible refine Kept.upd_arbs (maskLe (by decide) hw) ?_

theorem State.setSck_kept {r b : Bool} {w : Nat} {s0 s : State} (hw : 0x4000 ||| w = w) (h : Kept r b w s0 s) :
    ∀ a1 a2, Kept r b w s0 (State.setSck s a1 a2) := by
  intro a1 a2
  unfold State.setSck
  repeat' first
    | with_reducible assumption
    | fail_if_no_progress with_reducible refine Kept.upd_sclk (maskLe (by decide) hw) ?_

theorem State.setHeat_kept {r b : Bool} {w : Nat} {s0 s : State} (hw : 0x8000 ||| w = w) (h : Kept r b w s0 s) :
    ∀ a1 a2, Kept r b w s0 (State.setHeat s a1 a2) := by
  intro a1 a2
  unfold State.setHeat
  repeat' first
    | with_reducible assumption
    | fail_if_no_progress with_reducible refine Kept.upd_heat (maskLe (by decide) hw) ?_

theorem State.setPow_kept {r b : Bool} {w : Nat} {s0 s : State} (hw : 0x10000 ||| w = w) (h : Kept r b w s0 s) :
    ∀ a1 a2, Kept r b w s0 (State.setPow s a1 a2) := by
  intro a1 a2
  unfold State.setPow
  repeat' first
    | with_reducible assumption
    | fail_if_no_progress with_reducible refine Kept.upd_power (maskLe (by decide) hw) ?_

theorem State.setSup_kept {r b : Bool} {w : Nat} {s0 s : State} (hw : 0x20000 ||| w = w) (h : Kept r b w s0 s) :
    ∀ a1 a2, Kept r b w s0 (State.setSup s a1 a2) := by
  intro a1 a2
  unfold State.setSup
  repeat' first
    | with_reducible assumption
    | fail_if_no_progress with_reducible refine Kept.upd_supply (maskLe (by decide) hw) ?_

theorem State.setChan_kept {r b : Bool} {w : Nat} {s0 s : State} (hw : 0x40000 ||| w = w) (h : Kept r b w s0 s) :
    ∀ a1 a2, Kept r b w s0 (State.setChan s a1 a2) := by
  intro a1 a2
  unfold State.setChan
  repeat' first
    | with_reducible assumption
    | fail_if_no_progress with_reducible refine Kept.upd_chans (maskLe (by decide) hw) ?_

theorem State.setDrr_kept {r b : Bool} {w : Nat} {s0 s : State} (hw : 0x80000 ||| w = w) (h : Kept r b w s0 s) :
    ∀ a1 a2, Kept r b w s0 (State.setDrr s a1 a2) := by
  intro a1 a2
  unfold State.setDrr
  repeat' first
    | with_reducible assumption
    | fail_if_no_progress with_reducible refine Kept.upd_drrs (maskLe (by decide) hw) ?_

theorem State.setFeeder_kept {r b : Bool} {w : Nat} {s0 s : State} (hw : 0x800000 ||| w = w) (h : Kept r b w s0 s) :
    ∀ a1 a2, Kept r b w s0 (State.setFeeder s a1 a2) := by
  intro a1 a2
  unfold State.setFeeder
  repeat' first
    | with_reducible assumption
    | fail_if_no_progress with_reducible refine Kept.upd_feeders (maskLe (by decide) hw) ?_

theorem State.setPage_kept {r b : Bool} {w : Nat} {s0 s : State} (hw : 0x1000000 ||| w = w) (h : Kept r b w s0 s) :
    ∀ a1 a2, Kept r b w s0 (State.setPage s a1 a2) := by
  intro a1 a2
  unfold State.setPage
  repeat' first
    | with_reducible assumption
    | fail_if_no_progress with_reducible refine Kept.upd_pages (maskLe (by decide) hw) ?_

theorem State.setHost_kept {r b : Bool} {w : Nat} {s0 s : State} (hw : 0x8000000 ||| w = w) (h : Kept r b w s0 s) :
    ∀ a1 a2, Kept r b w s0 (State.setHost s a1 a2) := by
  intro a1 a2
  unfold State.setHost
  repeat' first
    | with_reducible assumption
    | fail_if_no_progress with_reducible refine Kept.upd_hosts (maskLe (by decide) hw) ?_

theorem State.setTenSt_kept {r b : Bool} {w : Nat} {s0 s : State} (hw : 0x10000000 ||| w = w) (h : Kept r b w s0 s) :
    ∀ a1 a2, Kept r b w s0 (State.setTenSt s a1 a2) := by
  intro a1 a2
  unfold State.setTenSt
  repeat' first
    | with_reducible assumption
    | fail_if_no_progress with_reducible refine Kept.upd_tenants (maskLe (by decide) hw) ?_

theorem State.setRing_kept {r b : Bool} {w : Nat} {s0 s : State} (hw : 0x40000000 ||| w = w) (h : Kept r b w s0 s) :
    ∀ a1 a2, Kept r b w s0 (State.setRing s a1 a2) := by
  intro a1 a2
  unfold State.setRing
  repeat' first
    | with_reducible assumption
    | fail_if_no_progress with_reducible refine Kept.upd_trace (maskLe (by decide) hw) ?_

theorem State.storeWords_kept {r b : Bool} {w : Nat} {s0 s : State} (hw : 0x3000000000 ||| w = w) (h : Kept r b w s0 s) :
    ∀ a1 a2 a3, Kept r b w s0 (State.storeWords s a1 a2 a3) := by
  intro a1 a2 a3
  unfold State.storeWords
  repeat' first
    | with_reducible assumption
    | with_reducible refine State.storeWord_kept (maskLe (by decide) hw) ?_ _ _ _ _
    | split
    | with_reducible refine Kept.foldl (fun _ _ _ => ?_) _ _ ?_

theorem State.cntT_kept {r b : Bool} {w : Nat} {s0 s : State} (hw : 0x20000000 ||| w = w) (h : Kept r b w s0 s) :
    ∀ a1 a2 a3, Kept r b w s0 (State.cntT s a1 a2 a3) := by
  intro a1 a2 a3
  unfold State.cntT
  repeat' first
    | with_reducible assumption
    | with_reducible apply Kept.ite
    | fail_if_no_progress with_reducible refine Kept.upd_cnt (maskLe (by decide) hw) ?_

theorem State.cntG_kept {r b : Bool} {w : Nat} {s0 s : State} (hw : 0x20000000 ||| w = w) (h : Kept r b w s0 s) :
    ∀ a1 a2, Kept r b w s0 (State.cntG s a1 a2) := by
  intro a1 a2
  unfold State.cntG
  repeat' first
    | with_reducible assumption
    | with_reducible apply Kept.ite
    | fail_if_no_progress with_reducible refine Kept.upd_cnt (maskLe (by decide) hw) ?_

theorem State.cntS_kept {r b : Bool} {w : Nat} {s0 s : State} (hw : 0x20000000 ||| w = w) (h : Kept r b w s0 s) :
    ∀ a1 a2 a3, Kept r b w s0 (State.cntS s a1 a2 a3) := by
  intro a1 a2 a3
  unfold State.cntS
  repeat' first
    | with_reducible assumption
    | fail_if_no_progress with_reducible refine Kept.upd_cnt (maskLe (by decide) hw) ?_

theorem State.cntC_kept {r b : Bool} {w : Nat} {s0 s : State} (hw : 0x20000000 ||| w = w) (h : Kept r b w s0 s) :
    ∀ a1 a2 a3, Kept r b w s0 (State.cntC s a1 a2 a3) := by
  intro a1 a2 a3
  unfold State.cntC
  repeat' first
    | with_reducible assumption
    | fail_if_no_progress with_reducible refine Kept.upd_cnt (maskLe (by decide) hw) ?_

theorem State.tally_kept {r b : Bool} {w : Nat} {s0 s : State} (hw : 0x20000000 ||| w = w) (h : Kept r b w s0 s) :
    ∀ a1 a2 a3 a4, Kept r b w s0 (State.tally s a1 a2 a3 a4) := by
  intro a1 a2 a3 a4
  unfold State.tally
  repeat' first
    | with_reducible assumption
    | with_reducible apply Kept.ite
    | fail_if_no_progress with_reducible refine Kept.upd_cnt (maskLe (by decide) hw) ?_

theorem State.appendRec_kept {r b : Bool} {w : Nat} {s0 s : State} (hw : 0x40000000 ||| w = w) (h : Kept r b w s0 s) :
    ∀ a1 a2, Kept r b w s0 (State.appendRec s a1 a2) := by
  intro a1 a2
  unfold State.appendRec
  repeat' first
    | with_reducible assumption
    | with_reducible apply Kept.ite
    | with_reducible refine State.setRing_kept (maskLe (by decide) hw) ?_ _ _
    | fail_if_no_progress with_reducible refine Kept.upd_trace (maskLe (by decide) hw) ?_

theorem State.storeSystem_kept {r b : Bool} {w : Nat} {s0 s : State} (hw : 0x3000000000 ||| w = w) (h : Kept r b w s0 s) :
    ∀ a1 a2, Kept r b w s0 (State.storeSystem s a1 a2) := by
  intro a1 a2
  unfold State.storeSystem
  repeat' first
    | with_reducible assumption
    | with_reducible refine State.storeWords_kept (maskLe (by decide) hw) ?_ _ _ _
    | split

theorem State.foldAlarm_kept {r b : Bool} {w : Nat} {s0 s : State} (hw : 0x40000000 ||| w = w) (h : Kept r b w s0 s) :
    ∀ a1, Kept r b w s0 (State.foldAlarm s a1) := by
  intro a1
  unfold State.foldAlarm
  repeat' first
    | with_reducible assumption
    | with_reducible apply Kept.ite
    | fail_if_no_progress with_reducible refine Kept.upd_trace (maskLe (by decide) hw) ?_

theorem State.storeNewest_kept {r b : Bool} {w : Nat} {s0 s : State} (hw : 0x3000000000 ||| w = w) (h : Kept r b w s0 s) :
    Kept r b w s0 (State.storeNewest s) := by
  unfold State.storeNewest
  repeat' first
    | with_reducible assumption
    | with_reducible apply Kept.ite
    | with_reducible refine State.storeSystem_kept (maskLe (by decide) hw) ?_ _ _
    | split

theorem State.mirrored_kept {r b : Bool} {w : Nat} {s0 s : State} (hw : 0x40000000 ||| w = w) (h : Kept r b w s0 s) :
    ∀ a1, Kept r b w s0 (State.mirrored s a1) := by
  intro a1
  unfold State.mirrored
  repeat' first
    | with_reducible assumption
    | with_reducible apply Kept.ite
    | fail_if_no_progress with_reducible refine Kept.upd_trace (maskLe (by decide) hw) ?_

theorem State.mirrorMap_kept {r b : Bool} {w : Nat} {s0 s : State} (hw : 0x40000000 ||| w = w) (h : Kept r b w s0 s) :
    ∀ a1 a2, Kept r b w s0 (State.mirrorMap s a1 a2) := by
  intro a1 a2
  unfold State.mirrorMap
  repeat' first
    | with_reducible assumption
    | with_reducible apply Kept.ite
    | fail_if_no_progress with_reducible refine Kept.upd_trace (maskLe (by decide) hw) ?_

theorem State.dropRec_kept {r b : Bool} {w : Nat} {s0 s : State} (hw : 0x60000000 ||| w = w) (h : Kept r b w s0 s) :
    ∀ a1 a2, Kept r b w s0 (State.dropRec s a1 a2) := by
  intro a1 a2
  unfold State.dropRec
  repeat' first
    | with_reducible assumption
    | with_reducible apply Kept.ite
    | with_reducible refine State.cntG_kept (maskLe (by decide) hw) ?_ _ _
    | with_reducible refine State.setRing_kept (maskLe (by decide) hw) ?_ _ _

theorem State.wakeCores_kept {r b : Bool} {w : Nat} {s0 s : State} (hw : 0x40000000 ||| w = w) (h : Kept r b w s0 s) :
    Kept r b w s0 (State.wakeCores s) := by
  unfold State.wakeCores
  repeat' first
    | with_reducible assumption
    | with_reducible apply Kept.ite
    | fail_if_no_progress with_reducible refine Kept.upd_trace (maskLe (by decide) hw) ?_

theorem State.alarmRec_kept {r b : Bool} {w : Nat} {s0 s : State} (hw : 0x3060000000 ||| w = w) (h : Kept r b w s0 s) :
    ∀ a1, Kept r b w s0 (State.alarmRec s a1) := by
  intro a1
  unfold State.alarmRec
  repeat' first
    | with_reducible assumption
    | with_reducible apply Kept.ite
    | with_reducible refine State.wakeCores_kept (maskLe (by decide) hw) ?_
    | with_reducible refine State.mirrorMap_kept (maskLe (by decide) hw) ?_ _ _
    | with_reducible refine State.mirrored_kept (maskLe (by decide) hw) ?_ _
    | with_reducible refine State.storeNewest_kept (maskLe (by decide) hw) ?_
    | with_reducible refine State.foldAlarm_kept (maskLe (by decide) hw) ?_ _
    | with_reducible refine State.appendRec_kept (maskLe (by decide) hw) ?_ _ _
    | with_reducible refine State.cntG_kept (maskLe (by decide) hw) ?_ _ _
    | fail_if_no_progress with_reducible refine Kept.upd_trace (maskLe (by decide) hw) ?_
    | split

theorem State.logRec_kept {r b : Bool} {w : Nat} {s0 s : State} (hw : 0x60000000 ||| w = w) (h : Kept r b w s0 s) :
    ∀ a1, Kept r b w s0 (State.logRec s a1) := by
  intro a1
  unfold State.logRec
  repeat' first
    | with_reducible assumption
    | with_reducible apply Kept.ite
    | with_reducible refine State.dropRec_kept (maskLe (by decide) hw) ?_ _ _
    | with_reducible refine State.cntG_kept (maskLe (by decide) hw) ?_ _ _
    | with_reducible refine State.appendRec_kept (maskLe (by decide) hw) ?_ _ _
    | fail_if_no_progress with_reducible refine Kept.upd_trace (maskLe (by decide) hw) ?_

theorem State.traceRec_kept {r b : Bool} {w : Nat} {s0 s : State} (hw : 0x60000000 ||| w = w) (h : Kept r b w s0 s) :
    ∀ a1, Kept r b w s0 (State.traceRec s a1) := by
  intro a1
  unfold State.traceRec
  repeat' first
    | with_reducible assumption
    | with_reducible apply Kept.ite
    | with_reducible refine State.dropRec_kept (maskLe (by decide) hw) ?_ _ _
    | with_reducible refine State.cntG_kept (maskLe (by decide) hw) ?_ _ _
    | with_reducible refine State.appendRec_kept (maskLe (by decide) hw) ?_ _ _

theorem State.note_kept {r b : Bool} {w : Nat} {s0 s : State} (hw : 0x3060000000 ||| w = w) (h : Kept r b w s0 s) :
    ∀ a1 a2 a3 a4, Kept r b w s0 (State.note s a1 a2 a3 a4) := by
  intro a1 a2 a3 a4
  unfold State.note
  repeat' first
    | with_reducible assumption
    | with_reducible apply Kept.ite
    | with_reducible refine State.alarmRec_kept (maskLe (by decide) hw) ?_ _
    | with_reducible refine State.logRec_kept (maskLe (by decide) hw) ?_ _

theorem State.fresh_kept {r b : Bool} {w : Nat} {s0 s : State} (hw : 0x4000000000 ||| w = w) (h : Kept r b w s0 s) :
    Kept r b w s0 (State.fresh s) := by
  unfold State.fresh
  repeat' first
    | with_reducible assumption
    | fail_if_no_progress with_reducible refine Kept.upd_freeCount (maskLe (by decide) hw) ?_

theorem State.pushLane_kept {r b : Bool} {w : Nat} {s0 s : State} (hw : 0x20 ||| w = w) (h : Kept r b w s0 s) :
    ∀ a1 a2, Kept r b w s0 (State.pushLane s a1 a2) := by
  intro a1 a2
  unfold State.pushLane
  repeat' first
    | with_reducible assumption
    | with_reducible refine State.setPort_kept (maskLe (by decide) hw) ?_ _ _

theorem State.notify_kept {r b : Bool} {w : Nat} {s0 s : State} (hw : 0x3060000020 ||| w = w) (h : Kept r b w s0 s) :
    ∀ a1 a2 a3 a4, Kept r b w s0 (State.notify s a1 a2 a3 a4) := by
  intro a1 a2 a3 a4
  unfold State.notify
  repeat' first
    | with_reducible assumption
    | with_reducible apply Kept.ite
    | with_reducible refine State.note_kept (maskLe (by decide) hw) ?_ _ _ _ _
    | with_reducible refine State.cntG_kept (maskLe (by decide) hw) ?_ _ _
    | with_reducible refine State.pushLane_kept (maskLe (by decide) hw) ?_ _ _
    | split

theorem State.setReq_kept {r b : Bool} {w : Nat} {s0 s : State} (hw : 0x80 ||| w = w) (h : Kept r b w s0 s) :
    ∀ a1 a2, Kept r b w s0 (State.setReq s a1 a2) := by
  intro a1 a2
  unfold State.setReq
  repeat' first
    | with_reducible assumption
    | fail_if_no_progress with_reducible refine Kept.upd_reqs (maskLe (by decide) hw) ?_

theorem State.dropReq_kept {r b : Bool} {w : Nat} {s0 s : State} (hw : 0x80 ||| w = w) (h : Kept r b w s0 s) :
    ∀ a1, Kept r b w s0 (State.dropReq s a1) := by
  intro a1
  unfold State.dropReq
  repeat' first
    | with_reducible assumption
    | fail_if_no_progress with_reducible refine Kept.upd_reqs (maskLe (by decide) hw) ?_

theorem State.setPart_kept {r b : Bool} {w : Nat} {s0 s : State} (hw : 0x100 ||| w = w) (h : Kept r b w s0 s) :
    ∀ a1 a2, Kept r b w s0 (State.setPart s a1 a2) := by
  intro a1 a2
  unfold State.setPart
  repeat' first
    | with_reducible assumption
    | fail_if_no_progress with_reducible refine Kept.upd_parts (maskLe (by decide) hw) ?_

theorem State.dropPart_kept {r b : Bool} {w : Nat} {s0 s : State} (hw : 0x100 ||| w = w) (h : Kept r b w s0 s) :
    ∀ a1, Kept r b w s0 (State.dropPart s a1) := by
  intro a1
  unfold State.dropPart
  repeat' first
    | with_reducible assumption
    | fail_if_no_progress with_reducible refine Kept.upd_parts (maskLe (by decide) hw) ?_

theorem State.startWindows_kept {r b : Bool} {w : Nat} {s0 s : State} (hw : 0x80000020 ||| w = w) (h : Kept r b w s0 s) :
    Kept r b w s0 (State.startWindows s) := by
  unfold State.startWindows
  repeat' first
    | with_reducible assumption
    | with_reducible apply Kept.ite
    | fail_if_no_progress with_reducible refine Kept.upd_ports_regs (maskLe (by decide) hw) ?_

theorem State.window_kept {r b : Bool} {w : Nat} {s0 s : State} (hw : 0x80000020 ||| w = w) (h : Kept r b w s0 s) :
    ∀ a1 a2 a3, Kept r b w s0 (State.window s a1 a2 a3) := by
  intro a1 a2 a3
  unfold State.window
  repeat' first
    | with_reducible assumption
    | with_reducible apply Kept.ite
    | with_reducible refine State.startWindows_kept (maskLe (by decide) hw) ?_
    | with_reducible refine State.setPort_kept (maskLe (by decide) hw) ?_ _ _

theorem State.crossings_kept {r b : Bool} {w : Nat} {s0 s : State} (hw : 0x40000000 ||| w = w) (h : Kept r b w s0 s) :
    Kept r b w s0 (State.crossings s) := by
  unfold State.crossings
  repeat' first
    | with_reducible assumption
    | with_reducible apply Kept.ite
    | fail_if_no_progress with_reducible refine Kept.upd_trace (maskLe (by decide) hw) ?_

theorem State.samplePoint_kept {r b : Bool} {w : Nat} {s0 s : State} (hw : 0x40000000 ||| w = w) (h : Kept r b w s0 s) :
    ∀ a1 a2 a3, Kept r b w s0 (State.samplePoint s a1 a2 a3) := by
  intro a1 a2 a3
  unfold State.samplePoint
  repeat' first
    | with_reducible assumption
    | with_reducible apply Kept.ite
    | with_reducible refine State.crossings_kept (maskLe (by decide) hw) ?_
    | fail_if_no_progress with_reducible refine Kept.upd_trace (maskLe (by decide) hw) ?_

theorem State.countAnswer_kept {r b : Bool} {w : Nat} {s0 s : State} (hw : 0xa0000020 ||| w = w) (h : Kept r b w s0 s) :
    ∀ a1 a2, Kept r b w s0 (State.countAnswer s a1 a2) := by
  intro a1 a2
  unfold State.countAnswer
  repeat' first
    | with_reducible assumption
    | with_reducible apply Kept.ite
    | with_reducible refine State.cntT_kept (maskLe (by decide) hw) ?_ _ _ _
    | with_reducible refine State.cntG_kept (maskLe (by decide) hw) ?_ _ _
    | with_reducible refine State.window_kept (maskLe (by decide) hw) ?_ _ _ _
    | (lift_lets -underBinder; intro x; refine Kept.via (r := r) (b := b) (w := w) (s0 := s0) x ?_ ?_;
       on_goal 2 => (clear_value x; intro _); on_goal 1 => try subst x)
    | split

theorem State.returnCredits_kept {r b : Bool} {w : Nat} {s0 s : State} (hw : 0x20 ||| w = w) (h : Kept r b w s0 s) :
    ∀ a1 a2 a3, Kept r b w s0 (State.returnCredits s a1 a2 a3) := by
  intro a1 a2 a3
  unfold State.returnCredits
  repeat' first
    | with_reducible assumption
    | with_reducible apply Kept.ite
    | with_reducible refine State.setPort_kept (maskLe (by decide) hw) ?_ _ _

theorem State.answer_kept {r b : Bool} {w : Nat} {s0 s : State} (hw : 0xa00000a0 ||| w = w) (h : Kept r b w s0 s) :
    ∀ a1 a2 a3, Kept r b w s0 (State.answer s a1 a2 a3) := by
  intro a1 a2 a3
  unfold State.answer
  repeat' first
    | with_reducible assumption
    | with_reducible apply Kept.ite
    | with_reducible refine State.setReq_kept (maskLe (by decide) hw) ?_ _ _
    | with_reducible refine State.pushLane_kept (maskLe (by decide) hw) ?_ _ _
    | with_reducible refine State.countAnswer_kept (maskLe (by decide) hw) ?_ _ _
    | split

theorem State.fences_kept {r b : Bool} {w : Nat} {s0 s : State} (hw : 0xa00000a0 ||| w = w) (h : Kept r b w s0 s) :
    ∀ a1, Kept r b w s0 (State.fences s a1) := by
  intro a1
  unfold State.fences
  repeat' first
    | with_reducible assumption
    | with_reducible apply Kept.ite
    | with_reducible refine State.answer_kept (maskLe (by decide) hw) ?_ _ _ _
    | split
    | with_reducible refine Kept.foldl (fun _ _ _ => ?_) _ _ ?_

theorem State.drrTake_kept {r b : Bool} {w : Nat} {s0 s t : State} {k ten tint charge : Nat} {behind : Bool} (hw : 0x80000 ||| w = w) (h : Kept r b w s0 s)
    (e : s.drrTake k ten tint charge behind = some t) : Kept r b w s0 t := by
  unfold State.drrTake at e
  dsimp only at e
  split at e
  · injection e with e
    subst e
    exact State.setDrr_kept (maskLe (by decide) hw) h _ _
  · cases e

theorem State.drrJoin_kept {r b : Bool} {w : Nat} {s0 s : State} (hw : 0x80000 ||| w = w) (h : Kept r b w s0 s) :
    ∀ a1 a2 a3, Kept r b w s0 (State.drrJoin s a1 a2 a3) := by
  intro a1 a2 a3
  unfold State.drrJoin
  repeat' first
    | with_reducible assumption
    | with_reducible apply Kept.ite
    | with_reducible refine State.setDrr_kept (maskLe (by decide) hw) ?_ _ _

theorem State.drrLeave_kept {r b : Bool} {w : Nat} {s0 s : State} (hw : 0x80000 ||| w = w) (h : Kept r b w s0 s) :
    ∀ a1, Kept r b w s0 (State.drrLeave s a1) := by
  intro a1
  unfold State.drrLeave
  repeat' first
    | with_reducible assumption
    | with_reducible apply Kept.ite
    | with_reducible refine State.setDrr_kept (maskLe (by decide) hw) ?_ _ _

theorem State.drrFree_kept {r b : Bool} {w : Nat} {s0 s : State} (hw : 0x80000 ||| w = w) (h : Kept r b w s0 s) :
    ∀ a1 a2, Kept r b w s0 (State.drrFree s a1 a2) := by
  intro a1 a2
  unfold State.drrFree
  repeat' first
    | with_reducible assumption
    | with_reducible refine State.setDrr_kept (maskLe (by decide) hw) ?_ _ _

theorem State.drrRefund_kept {r b : Bool} {w : Nat} {s0 s : State} (hw : 0x80000 ||| w = w) (h : Kept r b w s0 s) :
    ∀ a1 a2 a3 a4, Kept r b w s0 (State.drrRefund s a1 a2 a3 a4) := by
  intro a1 a2 a3 a4
  unfold State.drrRefund
  repeat' first
    | with_reducible assumption
    | with_reducible refine State.setDrr_kept (maskLe (by decide) hw) ?_ _ _

theorem State.freeBridge_kept {r b : Bool} {w : Nat} {s0 s : State} (hw : 0x80100 ||| w = w) (h : Kept r b w s0 s) :
    ∀ a1 a2 a3, Kept r b w s0 (State.freeBridge s a1 a2 a3) := by
  intro a1 a2 a3
  unfold State.freeBridge
  repeat' first
    | with_reducible assumption
    | with_reducible refine State.setPart_kept (maskLe (by decide) hw) ?_ _ _
    | with_reducible refine State.drrFree_kept (maskLe (by decide) hw) ?_ _ _
    | split

theorem State.freePath_kept {r b : Bool} {w : Nat} {s0 s : State} (hw : 0x80100 ||| w = w) (h : Kept r b w s0 s) :
    ∀ a1, Kept r b w s0 (State.freePath s a1) := by
  intro a1
  unfold State.freePath
  repeat' first
    | with_reducible assumption
    | with_reducible apply Kept.ite
    | with_reducible refine State.drrFree_kept (maskLe (by decide) hw) ?_ _ _
    | with_reducible refine State.setPart_kept (maskLe (by decide) hw) ?_ _ _
    | (lift_lets -underBinder; intro x; refine Kept.via (r := r) (b := b) (w := w) (s0 := s0) x ?_ ?_;
       on_goal 2 => (clear_value x; intro _); on_goal 1 => try subst x)
    | (lift_lets -underBinder; intro x;
       first
         | (have _ : Pins := x; subst x) | (have _ : _ → State := x; subst x)
         | (have _ : _ → _ → State := x; subst x) | clear_value x)
    | split

theorem State.freeStages_kept {r b : Bool} {w : Nat} {s0 s : State} (hw : 0x80100 ||| w = w) (h : Kept r b w s0 s) :
    ∀ a1, Kept r b w s0 (State.freeStages s a1) := by
  intro a1
  unfold State.freeStages
  repeat' first
    | with_reducible assumption
    | with_reducible apply Kept.ite
    | with_reducible refine State.freePath_kept (maskLe (by decide) hw) ?_ _
    | with_reducible refine State.drrFree_kept (maskLe (by decide) hw) ?_ _ _
    | with_reducible refine State.setPart_kept (maskLe (by decide) hw) ?_ _ _
    | split
    | (lift_lets -underBinder; intro x; refine Kept.via (r := r) (b := b) (w := w) (s0 := s0) x ?_ ?_;
       on_goal 2 => (clear_value x; intro _); on_goal 1 => try subst x)

theorem State.withdraw_kept {r b : Bool} {w : Nat} {s0 s : State} (hw : 0x82100 ||| w = w) (h : Kept r b w s0 s) :
    ∀ a1, Kept r b w s0 (State.withdraw s a1) := by
  intro a1
  unfold State.withdraw
  repeat' first
    | with_reducible assumption
    | with_reducible apply Kept.ite
    | with_reducible refine State.freeStages_kept (maskLe (by decide) hw) ?_ _
    | with_reducible refine State.drrLeave_kept (maskLe (by decide) hw) ?_ _
    | with_reducible refine State.dropPart_kept (maskLe (by decide) hw) ?_ _
    | with_reducible refine State.setArb_kept (maskLe (by decide) hw) ?_ _ _
    | split
    | (lift_lets -underBinder; intro x; refine Kept.via (r := r) (b := b) (w := w) (s0 := s0) x ?_ ?_;
       on_goal 2 => (clear_value x; intro _); on_goal 1 => try subst x)
    | (lift_lets -underBinder; intro x;
       first
         | (have _ : Pins := x; subst x) | (have _ : _ → State := x; subst x)
         | (have _ : _ → _ → State := x; subst x) | clear_value x)
    | dsimp only

theorem State.setMarker_kept {r b : Bool} {w : Nat} {s0 s : State} (hw : 0x100000 ||| w = w) (h : Kept r b w s0 s) :
    ∀ a1 a2 a3, Kept r b w s0 (State.setMarker s a1 a2 a3) := by
  intro a1 a2 a3
  unfold State.setMarker
  repeat' first
    | with_reducible assumption
    | fail_if_no_progress with_reducible refine Kept.upd_markers (maskLe (by decide) hw) ?_

theorem State.refillMarker_kept {r b : Bool} {w : Nat} {s0 s : State} (hw : 0x100000 ||| w = w) (h : Kept r b w s0 s) :
    ∀ a1 a2, Kept r b w s0 (State.refillMarker s a1 a2) := by
  intro a1 a2
  unfold State.refillMarker
  repeat' first
    | with_reducible assumption
    | with_reducible apply Kept.ite
    | with_reducible refine State.setMarker_kept (maskLe (by decide) hw) ?_ _ _ _

theorem State.fillMarkers_kept {r b : Bool} {w : Nat} {s0 s : State} (hw : 0x100000 ||| w = w) (h : Kept r b w s0 s) :
    ∀ a1, Kept r b w s0 (State.fillMarkers s a1) := by
  intro a1
  unfold State.fillMarkers
  repeat' first
    | with_reducible assumption
    | with_reducible refine State.setMarker_kept (maskLe (by decide) hw) ?_ _ _ _
    | (lift_lets -underBinder; intro x; refine Kept.via (r := r) (b := b) (w := w) (s0 := s0) x ?_ ?_;
       on_goal 2 => (clear_value x; intro _); on_goal 1 => try subst x)
    | (lift_lets -underBinder; intro x;
       first
         | (have _ : Pins := x; subst x) | (have _ : _ → State := x; subst x)
         | (have _ : _ → _ → State := x; subst x) | clear_value x)
    | with_reducible refine Kept.foldl (fun _ _ _ => ?_) _ _ ?_

theorem State.refundMarker_kept {r b : Bool} {w : Nat} {s0 s : State} (hw : 0x100000 ||| w = w) (h : Kept r b w s0 s) :
    ∀ a1, Kept r b w s0 (State.refundMarker s a1) := by
  intro a1
  unfold State.refundMarker
  repeat' first
    | with_reducible assumption
    | with_reducible refine State.setMarker_kept (maskLe (by decide) hw) ?_ _ _ _
    | (lift_lets -underBinder; intro x; refine Kept.via (r := r) (b := b) (w := w) (s0 := s0) x ?_ ?_;
       on_goal 2 => (clear_value x; intro _); on_goal 1 => try subst x)
    | (lift_lets -underBinder; intro x;
       first
         | (have _ : Pins := x; subst x) | (have _ : _ → State := x; subst x)
         | (have _ : _ → _ → State := x; subst x) | clear_value x)
    | split

theorem State.debtMarker_kept {r b : Bool} {w : Nat} {s0 s : State} (hw : 0x100000 ||| w = w) (h : Kept r b w s0 s) :
    ∀ a1 a2 a3, Kept r b w s0 (State.debtMarker s a1 a2 a3).1 := by
  intro a1 a2 a3
  unfold State.debtMarker
  repeat' first
    | with_reducible assumption
    | with_reducible apply Kept.ite
    | with_reducible refine State.setMarker_kept (maskLe (by decide) hw) ?_ _ _ _
    | (lift_lets -underBinder; intro x; refine Kept.via (r := r) (b := b) (w := w) (s0 := s0) x ?_ ?_;
       on_goal 2 => (clear_value x; intro _); on_goal 1 => try subst x)
    | (lift_lets -underBinder; intro x;
       first
         | (have _ : Pins := x; subst x) | (have _ : _ → State := x; subst x)
         | (have _ : _ → _ → State := x; subst x) | clear_value x)
    | split

theorem State.debtFlow_kept {r b : Bool} {w : Nat} {s0 s : State} (hw : 0x80000 ||| w = w) (h : Kept r b w s0 s) :
    ∀ a1 a2 a3 a4, Kept r b w s0 (State.debtFlow s a1 a2 a3 a4).1 := by
  intro a1 a2 a3 a4
  unfold State.debtFlow
  repeat' first
    | with_reducible assumption
    | with_reducible apply Kept.ite
    | with_reducible refine State.setDrr_kept (maskLe (by decide) hw) ?_ _ _
    | (lift_lets -underBinder; intro x; refine Kept.via (r := r) (b := b) (w := w) (s0 := s0) x ?_ ?_;
       on_goal 2 => (clear_value x; intro _); on_goal 1 => try subst x)
    | (lift_lets -underBinder; intro x;
       first
         | (have _ : Pins := x; subst x) | (have _ : _ → State := x; subst x)
         | (have _ : _ → _ → State := x; subst x) | clear_value x)
    | split

theorem State.spend_kept {r b : Bool} {w : Nat} {s0 s : State} (hw : 0x10000 ||| w = w) (h : Kept r b w s0 s) :
    ∀ a1 a2 a3 a4, Kept r b w s0 (State.spend s a1 a2 a3 a4) := by
  intro a1 a2 a3 a4
  unfold State.spend
  repeat' first
    | with_reducible assumption
    | with_reducible apply Kept.ite
    | with_reducible refine State.setPow_kept (maskLe (by decide) hw) ?_ _ _

theorem State.freshBanks_kept {r b : Bool} {w : Nat} {s0 s : State} (hw : 0x400 ||| w = w) (h : Kept r b w s0 s) :
    ∀ a1 a2 a3, Kept r b w s0 (State.freshBanks s a1 a2 a3) := by
  intro a1 a2 a3
  unfold State.freshBanks
  repeat' first
    | with_reducible assumption
    | with_reducible apply Kept.ite
    | with_reducible refine State.setLeaf_kept (maskLe (by decide) hw) ?_ _ _

theorem State.freshRows_kept {r b : Bool} {w : Nat} {s0 s : State} (hw : 0x40000 ||| w = w) (h : Kept r b w s0 s) :
    ∀ a1 a2, Kept r b w s0 (State.freshRows s a1 a2) := by
  intro a1 a2
  unfold State.freshRows
  repeat' first
    | with_reducible assumption
    | with_reducible apply Kept.ite
    | with_reducible refine State.setChan_kept (maskLe (by decide) hw) ?_ _ _
    | with_reducible refine Kept.foldl (fun _ _ _ => ?_) _ _ ?_

theorem State.exitSR_kept {r b : Bool} {w : Nat} {s0 s : State} (hw : 0x56400 ||| w = w) (h : Kept r b w s0 s) :
    ∀ a1 a2, Kept r b w s0 (State.exitSR s a1 a2) := by
  intro a1 a2
  unfold State.exitSR
  repeat' first
    | with_reducible assumption
    | with_reducible apply Kept.ite
    | with_reducible refine State.freshRows_kept (maskLe (by decide) hw) ?_ _ _
    | with_reducible refine State.freshBanks_kept (maskLe (by decide) hw) ?_ _ _ _
    | with_reducible refine State.spend_kept (maskLe (by decide) hw) ?_ _ _ _ _
    | with_reducible refine State.setSck_kept (maskLe (by decide) hw) ?_ _ _
    | with_reducible refine State.setArb_kept (maskLe (by decide) hw) ?_ _ _
    | with_reducible refine Kept.foldl (fun _ _ _ => ?_) _ _ ?_

theorem State.afterTraining_kept {r b : Bool} {w : Nat} {s0 s : State} (hw : 0x44400 ||| w = w) (h : Kept r b w s0 s) :
    ∀ a1 a2, Kept r b w s0 (State.afterTraining s a1 a2) := by
  intro a1 a2
  unfold State.afterTraining
  repeat' first
    | with_reducible assumption
    | with_reducible apply Kept.ite
    | with_reducible refine State.freshRows_kept (maskLe (by decide) hw) ?_ _ _
    | with_reducible refine State.freshBanks_kept (maskLe (by decide) hw) ?_ _ _ _
    | with_reducible refine State.setSck_kept (maskLe (by decide) hw) ?_ _ _
    | (lift_lets -underBinder; intro x; refine Kept.via (r := r) (b := b) (w := w) (s0 := s0) x ?_ ?_;
       on_goal 2 => (clear_value x; intro _); on_goal 1 => try subst x)
    | (lift_lets -underBinder; intro x;
       first
         | (have _ : Pins := x; subst x) | (have _ : _ → State := x; subst x)
         | (have _ : _ → _ → State := x; subst x) | clear_value x)
    | with_reducible refine Kept.foldl (fun _ _ _ => ?_) _ _ ?_

theorem State.wakeStack_kept {r b : Bool} {w : Nat} {s0 s : State} (hw : 0x56400 ||| w = w) (h : Kept r b w s0 s) :
    ∀ a1, Kept r b w s0 (State.wakeStack s a1) := by
  intro a1
  unfold State.wakeStack
  repeat' first
    | with_reducible assumption
    | with_reducible apply Kept.ite
    | with_reducible refine State.exitSR_kept (maskLe (by decide) hw) ?_ _ _
    | with_reducible refine State.setSck_kept (maskLe (by decide) hw) ?_ _ _

theorem State.refuse_kept {r b : Bool} {w : Nat} {s0 s : State} (hw : 0xa01821a0 ||| w = w) (h : Kept r b w s0 s) :
    ∀ a1 a2, Kept r b w s0 (State.refuse s a1 a2) := by
  intro a1 a2
  unfold State.refuse
  repeat' first
    | with_reducible assumption
    | with_reducible apply Kept.ite
    | with_reducible refine State.drrRefund_kept (maskLe (by decide) hw) ?_ _ _ _ _
    | with_reducible refine State.withdraw_kept (maskLe (by decide) hw) ?_ _
    | with_reducible refine State.refundMarker_kept (maskLe (by decide) hw) ?_ _
    | with_reducible refine State.answer_kept (maskLe (by decide) hw) ?_ _ _ _
    | with_reducible refine State.returnCredits_kept (maskLe (by decide) hw) ?_ _ _ _
    | split

theorem State.enterReady_kept {r b : Bool} {w : Nat} {s0 s : State} (hw : 0xa01821a0 ||| w = w) (h : Kept r b w s0 s) :
    ∀ a1, Kept r b w s0 (State.enterReady s a1) := by
  intro a1
  unfold State.enterReady
  repeat' first
    | with_reducible assumption
    | with_reducible apply Kept.ite
    | with_reducible refine State.setPart_kept (maskLe (by decide) hw) ?_ _ _
    | with_reducible refine State.refuse_kept (maskLe (by decide) hw) ?_ _ _
    | split

theorem State.stageOr_kept {r b : Bool} {w : Nat} {s0 s : State} {next : State → State} (hw : 0x20080100 ||| w = w) (h : Kept r b w s0 s)
    (hn : ∀ x, Kept r b w s0 x → Kept r b w s0 (next x)) : ∀ a1 a2 a3 a4, Kept r b w s0 (s.stageOr a1 a2 a3 a4 next) := by
  intro a1 a2 a3 a4
  unfold State.stageOr
  split
  · exact h
  · split
    · exact h
    · dsimp only
      split
      · rename_i e
        exact hn _ (State.setPart_kept (maskLe (by decide) hw) (State.drrTake_kept (maskLe (by decide) hw) h e) _ _)
      · exact State.cntT_kept (maskLe (by decide) hw) (State.drrJoin_kept (maskLe (by decide) hw) (State.setPart_kept (maskLe (by decide) hw) h _ _) _ _ _) _ _ _

theorem State.enterLake_kept {r b : Bool} {w : Nat} {s0 s : State} (hw : 0xa01821a0 ||| w = w) (h : Kept r b w s0 s) :
    ∀ a1, Kept r b w s0 (State.enterLake s a1) := by
  intro a1
  unfold State.enterLake
  repeat' first
    | with_reducible assumption
    | with_reducible apply Kept.ite
    | with_reducible refine State.stageOr_kept (maskLe (by decide) hw) ?_ (fun _ _ => ?_) _ _ _ _
    | with_reducible refine State.enterReady_kept (maskLe (by decide) hw) ?_ _
    | split

theorem State.enterXbar_kept {r b : Bool} {w : Nat} {s0 s : State} (hw : 0xa01821a0 ||| w = w) (h : Kept r b w s0 s) :
    ∀ a1, Kept r b w s0 (State.enterXbar s a1) := by
  intro a1
  unfold State.enterXbar
  repeat' first
    | with_reducible assumption
    | with_reducible apply Kept.ite
    | with_reducible refine State.enterLake_kept (maskLe (by decide) hw) ?_ _
    | with_reducible refine State.freeBridge_kept (maskLe (by decide) hw) ?_ _ _ _
    | with_reducible refine State.setPart_kept (maskLe (by decide) hw) ?_ _ _
    | with_reducible refine State.stageOr_kept (maskLe (by decide) hw) ?_ (fun _ _ => ?_) _ _ _ _
    | split

theorem State.enterBridge_kept {r b : Bool} {w : Nat} {s0 s : State} (hw : 0xa01821a0 ||| w = w) (h : Kept r b w s0 s) :
    ∀ a1, Kept r b w s0 (State.enterBridge s a1) := by
  intro a1
  unfold State.enterBridge
  repeat' first
    | with_reducible assumption
    | with_reducible apply Kept.ite
    | with_reducible refine State.enterXbar_kept (maskLe (by decide) hw) ?_ _
    | with_reducible refine State.setPart_kept (maskLe (by decide) hw) ?_ _ _
    | with_reducible refine State.stageOr_kept (maskLe (by decide) hw) ?_ (fun _ _ => ?_) _ _ _ _
    | split

theorem State.enterPort_kept {r b : Bool} {w : Nat} {s0 s : State} (hw : 0xa01821a0 ||| w = w) (h : Kept r b w s0 s) :
    ∀ a1, Kept r b w s0 (State.enterPort s a1) := by
  intro a1
  unfold State.enterPort
  repeat' first
    | with_reducible assumption
    | with_reducible apply Kept.ite
    | with_reducible refine State.enterBridge_kept (maskLe (by decide) hw) ?_ _
    | with_reducible refine State.stageOr_kept (maskLe (by decide) hw) ?_ (fun _ _ => ?_) _ _ _ _
    | split

theorem State.enterQuire_kept {r b : Bool} {w : Nat} {s0 s : State} (hw : 0xa01821a0 ||| w = w) (h : Kept r b w s0 s) :
    ∀ a1, Kept r b w s0 (State.enterQuire s a1) := by
  intro a1
  unfold State.enterQuire
  repeat' first
    | with_reducible assumption
    | with_reducible apply Kept.ite
    | with_reducible refine State.stageOr_kept (maskLe (by decide) hw) ?_ (fun _ _ => ?_) _ _ _ _
    | with_reducible refine State.enterPort_kept (maskLe (by decide) hw) ?_ _
    | split

theorem State.enterGate_kept {r b : Bool} {w : Nat} {s0 s : State} (hw : 0xa01821a0 ||| w = w) (h : Kept r b w s0 s) :
    ∀ a1, Kept r b w s0 (State.enterGate s a1) := by
  intro a1
  unfold State.enterGate
  repeat' first
    | with_reducible assumption
    | with_reducible apply Kept.ite
    | with_reducible refine State.enterQuire_kept (maskLe (by decide) hw) ?_ _
    | with_reducible refine State.cntT_kept (maskLe (by decide) hw) ?_ _ _ _
    | with_reducible refine State.setPart_kept (maskLe (by decide) hw) ?_ _ _
    | split

theorem State.drrPassed_kept {r b : Bool} {w : Nat} {s0 s : State} (hw : 0xa01821a0 ||| w = w) (h : Kept r b w s0 s) :
    ∀ a1, Kept r b w s0 (State.drrPassed s a1) := by
  intro a1
  unfold State.drrPassed
  repeat' first
    | with_reducible assumption
    | with_reducible apply Kept.ite
    | with_reducible refine State.enterPort_kept (maskLe (by decide) hw) ?_ _
    | with_reducible refine State.enterBridge_kept (maskLe (by decide) hw) ?_ _
    | with_reducible refine State.enterXbar_kept (maskLe (by decide) hw) ?_ _
    | with_reducible refine State.enterLake_kept (maskLe (by decide) hw) ?_ _
    | with_reducible refine State.enterReady_kept (maskLe (by decide) hw) ?_ _
    | with_reducible refine State.freeBridge_kept (maskLe (by decide) hw) ?_ _ _ _
    | with_reducible refine State.setPart_kept (maskLe (by decide) hw) ?_ _ _
    | split

theorem State.mark_kept {r b : Bool} {w : Nat} {s0 s : State} (hw : 0xa01821a0 ||| w = w) (h : Kept r b w s0 s) :
    ∀ a1 a2, Kept r b w s0 (State.mark s a1 a2) := by
  intro a1 a2
  unfold State.mark
  repeat' first
    | with_reducible assumption
    | with_reducible apply Kept.ite
    | with_reducible refine State.enterGate_kept (maskLe (by decide) hw) ?_ _
    | with_reducible refine State.refuse_kept (maskLe (by decide) hw) ?_ _ _
    | with_reducible refine State.setMarker_kept (maskLe (by decide) hw) ?_ _ _ _
    | with_reducible refine State.setPart_kept (maskLe (by decide) hw) ?_ _ _
    | with_reducible refine State.setReq_kept (maskLe (by decide) hw) ?_ _ _
    | with_reducible refine State.cntT_kept (maskLe (by decide) hw) ?_ _ _ _
    | split

theorem State.freePlaces_kept {r b : Bool} {w : Nat} {s0 s : State} (hw : 0x2000 ||| w = w) (h : Kept r b w s0 s) :
    ∀ a1 a2 a3, Kept r b w s0 (State.freePlaces s a1 a2 a3) := by
  intro a1 a2 a3
  unfold State.freePlaces
  repeat' first
    | with_reducible assumption
    | with_reducible apply Kept.ite
    | with_reducible refine State.setArb_kept (maskLe (by decide) hw) ?_ _ _

theorem State.dropRead_kept {r b : Bool} {w : Nat} {s0 s : State} (hw : 0x82180 ||| w = w) (h : Kept r b w s0 s) :
    ∀ a1 a2, Kept r b w s0 (State.dropRead s a1 a2) := by
  intro a1 a2
  unfold State.dropRead
  repeat' first
    | with_reducible assumption
    | with_reducible apply Kept.ite
    | with_reducible refine State.freePlaces_kept (maskLe (by decide) hw) ?_ _ _ _
    | with_reducible refine State.withdraw_kept (maskLe (by decide) hw) ?_ _
    | with_reducible refine State.freeStages_kept (maskLe (by decide) hw) ?_ _
    | with_reducible refine State.dropReq_kept (maskLe (by decide) hw) ?_ _
    | with_reducible refine State.setReq_kept (maskLe (by decide) hw) ?_ _ _
    | (lift_lets -underBinder; intro x; refine Kept.via (r := r) (b := b) (w := w) (s0 := s0) x ?_ ?_;
       on_goal 2 => (clear_value x; intro _); on_goal 1 => try subst x)
    | (lift_lets -underBinder; intro x;
       first
         | (have _ : Pins := x; subst x) | (have _ : _ → State := x; subst x)
         | (have _ : _ → _ → State := x; subst x) | clear_value x)
    | split
    | dsimp only

theorem State.pumpPage_kept {r b : Bool} {w : Nat} {s0 s : State} (hw : 0x1000000 ||| w = w) (h : Kept r b w s0 s) :
    ∀ a1, Kept r b w s0 (State.pumpPage s a1) := by
  intro a1
  unfold State.pumpPage
  repeat' first
    | with_reducible assumption
    | with_reducible refine State.setPage_kept (maskLe (by decide) hw) ?_ _ _

theorem State.postEvent_kept {r b : Bool} {w : Nat} {s0 s : State} (hw : 0x1000000 ||| w = w) (h : Kept r b w s0 s) :
    ∀ a1 a2 a3, Kept r b w s0 (State.postEvent s a1 a2 a3) := by
  intro a1 a2 a3
  unfold State.postEvent
  repeat' first
    | with_reducible assumption
    | with_reducible apply Kept.ite
    | with_reducible refine State.pumpPage_kept (maskLe (by decide) hw) ?_ _
    | with_reducible refine State.setPage_kept (maskLe (by decide) hw) ?_ _ _

theorem State.ownerEvent_kept {r b : Bool} {w : Nat} {s0 s : State} (hw : 0x1000000 ||| w = w) (h : Kept r b w s0 s) :
    ∀ a1 a2, Kept r b w s0 (State.ownerEvent s a1 a2) := by
  intro a1 a2
  unfold State.ownerEvent
  repeat' first
    | with_reducible assumption
    | with_reducible refine State.postEvent_kept (maskLe (by decide) hw) ?_ _ _ _
    | split

theorem State.queueService_kept {r b : Bool} {w : Nat} {s0 s : State} (hw : 0x2000000 ||| w = w) (h : Kept r b w s0 s) :
    ∀ a1, Kept r b w s0 (State.queueService s a1) := by
  intro a1
  unfold State.queueService
  repeat' first
    | with_reducible assumption
    | with_reducible apply Kept.ite
    | fail_if_no_progress with_reducible refine Kept.upd_serviceq (maskLe (by decide) hw) ?_

theorem State.complete_kept {r b : Bool} {w : Nat} {s0 s : State} (hw : 0x1000000 ||| w = w) (h : Kept r b w s0 s) :
    ∀ a1 a2 a3 a4 a5 a6, Kept r b w s0 (State.complete s a1 a2 a3 a4 a5 a6) := by
  intro a1 a2 a3 a4 a5 a6
  unfold State.complete
  repeat' first
    | with_reducible assumption
    | with_reducible apply Kept.ite
    | with_reducible refine State.pumpPage_kept (maskLe (by decide) hw) ?_ _
    | with_reducible refine State.setPage_kept (maskLe (by decide) hw) ?_ _ _

theorem State.claimEnds_kept {r b : Bool} {w : Nat} {s0 s : State} (hw : 0x4 ||| w = w) (h : Kept r b w s0 s) :
    ∀ a1, Kept r b w s0 (State.claimEnds s a1) := by
  intro a1
  unfold State.claimEnds
  repeat' first
    | with_reducible assumption
    | with_reducible apply Kept.ite
    | fail_if_no_progress with_reducible refine Kept.upd_boot (maskLe (by decide) hw) ?_

theorem State.finish_kept {r b : Bool} {w : Nat} {s0 s : State} (hw : 0x7000004 ||| w = w) (h : Kept r b w s0 s) :
    ∀ a1 a2 a3 a4, Kept r b w s0 (State.finish s a1 a2 a3 a4) := by
  intro a1 a2 a3 a4
  unfold State.finish
  repeat' first
    | with_reducible assumption
    | with_reducible refine State.claimEnds_kept (maskLe (by decide) hw) ?_ _
    | with_reducible refine State.complete_kept (maskLe (by decide) hw) ?_ _ _ _ _ _ _
    | with_reducible refine State.queueService_kept (maskLe (by decide) hw) ?_ _
    | with_reducible refine State.setPage_kept (maskLe (by decide) hw) ?_ _ _
    | fail_if_no_progress with_reducible refine Kept.upd_tickets (maskLe (by decide) hw) ?_
    | split

theorem State.finishAt_kept {r b : Bool} {w : Nat} {s0 s : State} (hw : 0x7000004 ||| w = w) (h : Kept r b w s0 s) :
    ∀ a1 a2 a3 a4, Kept r b w s0 (State.finishAt s a1 a2 a3 a4) := by
  intro a1 a2 a3 a4
  unfold State.finishAt
  repeat' first
    | with_reducible assumption
    | with_reducible apply Kept.ite
    | with_reducible refine State.claimEnds_kept (maskLe (by decide) hw) ?_ _
    | with_reducible refine State.complete_kept (maskLe (by decide) hw) ?_ _ _ _ _ _ _
    | with_reducible refine State.queueService_kept (maskLe (by decide) hw) ?_ _
    | with_reducible refine State.setPage_kept (maskLe (by decide) hw) ?_ _ _
    | fail_if_no_progress with_reducible refine Kept.upd_tickets (maskLe (by decide) hw) ?_
    | split

end Sys2Proof.Machine
end

