-- ==== Sys2Proof/Laws/KeptLeaf.lean ====
section
/-! SUPPORT. What the functions of LeafOps, LakeOps, Bank, Leaf, Refresh, Maintain, Scrub
keep and may change: one lemma each, in the order of their calls. -/

namespace Sys2Proof.Machine

theorem State.stainEvent_kept {r b : Bool} {w : Nat} {s0 s : State} (hw : 0x30e0000000 ||| w = w) (h : Kept r b w s0 s) :
    ∀ a1 a2 a3 a4 a5 a6 a7, Kept r b w s0 (State.stainEvent s a1 a2 a3 a4 a5 a6 a7) := by
  intro a1 a2 a3 a4 a5 a6 a7
  unfold State.stainEvent
  repeat' first
    | with_reducible assumption
    | with_reducible refine State.alarmRec_kept (maskLe (by decide) hw) ?_ _
    | with_reducible refine State.cntG_kept (maskLe (by decide) hw) ?_ _ _
    | with_reducible refine State.tally_kept (maskLe (by decide) hw) ?_ _ _ _ _
    | fail_if_no_progress with_reducible refine Kept.upd_regs (maskLe (by decide) hw) ?_

theorem State.claims_kept {r b : Bool} {w : Nat} {s0 s : State} (hw : 0x400 ||| w = w) (h : Kept r b w s0 s) :
    ∀ a1, Kept r b w s0 (State.claims s a1) := by
  intro a1
  unfold State.claims
  repeat' first
    | with_reducible assumption
    | with_reducible apply Kept.ite
    | with_reducible refine State.setLeaf_kept (maskLe (by decide) hw) ?_ _ _

theorem State.pushEntry_kept {r b : Bool} {w : Nat} {s0 s : State} (hw : 0x56600 ||| w = w) (h : Kept r b w s0 s) :
    ∀ a1 a2, Kept r b w s0 (State.pushEntry s a1 a2) := by
  intro a1 a2
  unfold State.pushEntry
  repeat' first
    | with_reducible assumption
    | with_reducible apply Kept.ite
    | with_reducible refine State.claims_kept (maskLe (by decide) hw) ?_ _
    | with_reducible refine State.wakeStack_kept (maskLe (by decide) hw) ?_ _
    | with_reducible refine State.setLeaf_kept (maskLe (by decide) hw) ?_ _ _
    | fail_if_no_progress with_reducible refine Kept.upd_nextId (maskLe (by decide) hw) ?_

theorem State.flushEnt_kept {r b : Bool} {w : Nat} {s0 s : State} (hw : 0x57600 ||| w = w) (h : Kept r b w s0 s) :
    ∀ a1 a2, Kept r b w s0 (State.flushEnt s a1 a2) := by
  intro a1 a2
  unfold State.flushEnt
  repeat' first
    | with_reducible assumption
    | with_reducible apply Kept.ite
    | with_reducible refine State.setCare_kept (maskLe (by decide) hw) ?_ _ _
    | with_reducible refine State.pushEntry_kept (maskLe (by decide) hw) ?_ _ _

theorem State.closeFor_kept {r b : Bool} {w : Nat} {s0 s : State} (hw : 0x57600 ||| w = w) (h : Kept r b w s0 s) :
    ∀ a1 a2, Kept r b w s0 (State.closeFor s a1 a2) := by
  intro a1 a2
  unfold State.closeFor
  repeat' first
    | with_reducible assumption
    | with_reducible apply Kept.ite
    | with_reducible refine State.flushEnt_kept (maskLe (by decide) hw) ?_ _ _
    | split
    | with_reducible refine Kept.foldl (fun _ _ _ => ?_) _ _ ?_

theorem State.enqueue_kept {r b : Bool} {w : Nat} {s0 s : State} (hw : 0x57600 ||| w = w) (h : Kept r b w s0 s) :
    ∀ a1 a2, Kept r b w s0 (State.enqueue s a1 a2) := by
  intro a1 a2
  unfold State.enqueue
  repeat' first
    | with_reducible assumption
    | with_reducible apply Kept.ite
    | with_reducible refine State.closeFor_kept (maskLe (by decide) hw) ?_ _ _
    | with_reducible refine State.pushEntry_kept (maskLe (by decide) hw) ?_ _ _

theorem State.mergeBurst_kept {r b : Bool} {w : Nat} {s0 s : State} (hw : 0x57600 ||| w = w) (h : Kept r b w s0 s) :
    ∀ a1 a2 a3 a4 a5 a6 a7 a8 a9 a10 a11, Kept r b w s0 (State.mergeBurst s a1 a2 a3 a4 a5 a6 a7 a8 a9 a10 a11) := by
  intro a1 a2 a3 a4 a5 a6 a7 a8 a9 a10 a11
  unfold State.mergeBurst
  repeat' first
    | with_reducible assumption
    | with_reducible apply Kept.ite
    | with_reducible refine State.flushEnt_kept (maskLe (by decide) hw) ?_ _ _
    | with_reducible refine State.setCare_kept (maskLe (by decide) hw) ?_ _ _
    | (lift_lets -underBinder; intro x; refine Kept.via (r := r) (b := b) (w := w) (s0 := s0) x ?_ ?_;
       on_goal 2 => (clear_value x; intro _); on_goal 1 => try subst x)
    | (lift_lets -underBinder; intro x;
       first
         | (have _ : Pins := x; subst x) | (have _ : _ → State := x; subst x)
         | (have _ : _ → _ → State := x; subst x) | clear_value x)
    | split

theorem State.convert_kept {r b : Bool} {w : Nat} {s0 s : State} (hw : 0x57600 ||| w = w) (h : Kept r b w s0 s) :
    ∀ a1 a2 a3 a4 a5, Kept r b w s0 (State.convert s a1 a2 a3 a4 a5) := by
  intro a1 a2 a3 a4 a5
  unfold State.convert
  repeat' first
    | with_reducible assumption
    | with_reducible refine State.mergeBurst_kept (maskLe (by decide) hw) ?_ _ _ _ _ _ _ _ _ _ _ _

theorem State.closeAll_kept {r b : Bool} {w : Nat} {s0 s : State} (hw : 0x57600 ||| w = w) (h : Kept r b w s0 s) :
    ∀ a1, Kept r b w s0 (State.closeAll s a1) := by
  intro a1
  unfold State.closeAll
  repeat' first
    | with_reducible assumption
    | with_reducible apply Kept.ite
    | with_reducible refine State.flushEnt_kept (maskLe (by decide) hw) ?_ _ _
    | split
    | with_reducible refine Kept.foldl (fun _ _ _ => ?_) _ _ ?_

theorem State.mergeRead_kept {r b : Bool} {w : Nat} {s0 s : State} (hw : 0x30e0001400 ||| w = w) (h : Kept r b w s0 s) :
    ∀ a1 a2 a3, Kept r b w s0 (State.mergeRead s a1 a2 a3) := by
  intro a1 a2 a3
  unfold State.mergeRead
  repeat' first
    | with_reducible assumption
    | with_reducible apply Kept.ite
    | with_reducible refine State.setCare_kept (maskLe (by decide) hw) ?_ _ _
    | with_reducible refine State.setLeaf_kept (maskLe (by decide) hw) ?_ _ _
    | with_reducible refine State.stainEvent_kept (maskLe (by decide) hw) ?_ _ _ _ _ _ _ _
    | (lift_lets -underBinder; intro x; refine Kept.via (r := r) (b := b) (w := w) (s0 := s0) x ?_ ?_;
       on_goal 2 => (clear_value x; intro _); on_goal 1 => try subst x)
    | (lift_lets -underBinder; intro x;
       first
         | (have _ : Pins := x; subst x) | (have _ : _ → State := x; subst x)
         | (have _ : _ → _ → State := x; subst x) | clear_value x)
    | split
    | dsimp only

theorem State.storeMap_kept {r b : Bool} {w : Nat} {s0 s : State} (hw : 0x100000000 ||| w = w) (h : Kept r b w s0 s) :
    ∀ a1 a2 a3 a4 a5, Kept r b w s0 (State.storeMap s a1 a2 a3 a4 a5) := by
  intro a1 a2 a3 a4 a5
  unfold State.storeMap
  repeat' first
    | with_reducible assumption
    | fail_if_no_progress with_reducible refine Kept.upd_stores (maskLe (by decide) hw) ?_

theorem State.maint_kept {r b : Bool} {w : Nat} {s0 s : State} (hw : 0x80000000 ||| w = w) (h : Kept r b w s0 s) :
    ∀ a1 a2, Kept r b w s0 (State.maint s a1 a2) := by
  intro a1 a2
  unfold State.maint
  repeat' first
    | with_reducible assumption
    | fail_if_no_progress with_reducible refine Kept.upd_regs (maskLe (by decide) hw) ?_

theorem State.addMap_kept {r b : Bool} {w : Nat} {s0 s : State} (hw : 0x31e0000000 ||| w = w) (h : Kept r b w s0 s) :
    ∀ a1, Kept r b w s0 (State.addMap s a1) := by
  intro a1
  unfold State.addMap
  repeat' first
    | with_reducible assumption
    | with_reducible apply Kept.ite
    | with_reducible refine State.maint_kept (maskLe (by decide) hw) ?_ _ _
    | with_reducible refine State.note_kept (maskLe (by decide) hw) ?_ _ _ _ _
    | with_reducible refine State.storeMap_kept (maskLe (by decide) hw) ?_ _ _ _ _ _

theorem State.tileNote_kept {r b : Bool} {w : Nat} {s0 s : State} (hw : 0x3060000020 ||| w = w) (h : Kept r b w s0 s) :
    ∀ a1 a2 a3, Kept r b w s0 (State.tileNote s a1 a2 a3) := by
  intro a1 a2 a3
  unfold State.tileNote
  repeat' first
    | with_reducible assumption
    | with_reducible refine State.notify_kept (maskLe (by decide) hw) ?_ _ _ _ _

theorem State.failQuire_kept {r b : Bool} {w : Nat} {s0 s : State} (hw : 0x3061400028 ||| w = w) (h : Kept r b w s0 s) :
    ∀ a1, Kept r b w s0 (State.failQuire s a1) := by
  intro a1
  unfold State.failQuire
  repeat' first
    | with_reducible assumption
    | with_reducible apply Kept.ite
    | with_reducible refine State.note_kept (maskLe (by decide) hw) ?_ _ _ _ _
    | with_reducible refine State.postEvent_kept (maskLe (by decide) hw) ?_ _ _ _
    | with_reducible refine State.cntT_kept (maskLe (by decide) hw) ?_ _ _ _
    | with_reducible refine State.tileNote_kept (maskLe (by decide) hw) ?_ _ _ _
    | fail_if_no_progress with_reducible refine Kept.upd_lake (maskLe (by decide) hw) ?_
    | with_reducible refine State.setBank_kept (maskLe (by decide) hw) ?_ (fun _ => ⟨rfl, rfl, rfl, rfl, ⟨rfl, rfl⟩, rfl, rfl, rfl, rfl, rfl, rfl, rfl, rfl⟩)
    | split
    | with_reducible refine Kept.foldl (fun _ _ _ => ?_) _ _ ?_

theorem State.leafLost_kept {r b : Bool} {w : Nat} {s0 s : State} (hw : 0x31e1401028 ||| w = w) (h : Kept r b w s0 s) :
    ∀ a1, Kept r b w s0 (State.leafLost s a1) := by
  intro a1
  unfold State.leafLost
  repeat' first
    | with_reducible assumption
    | with_reducible apply Kept.ite
    | with_reducible refine State.setCare_kept (maskLe (by decide) hw) ?_ _ _
    | with_reducible refine State.maint_kept (maskLe (by decide) hw) ?_ _ _
    | with_reducible refine State.note_kept (maskLe (by decide) hw) ?_ _ _ _ _
    | with_reducible refine State.addMap_kept (maskLe (by decide) hw) ?_ _
    | with_reducible refine State.failQuire_kept (maskLe (by decide) hw) ?_ _
    | (lift_lets -underBinder; intro x; refine Kept.via (r := r) (b := b) (w := w) (s0 := s0) x ?_ ?_;
       on_goal 2 => (clear_value x; intro _); on_goal 1 => try subst x)
    | split
    | dsimp only

theorem State.request_kept {r b : Bool} {w : Nat} {s0 s : State} (hw : 0x1000 ||| w = w) (h : Kept r b w s0 s) :
    ∀ a1 a2, Kept r b w s0 (State.request s a1 a2) := by
  intro a1 a2
  unfold State.request
  repeat' first
    | with_reducible assumption
    | with_reducible refine State.setCare_kept (maskLe (by decide) hw) ?_ _ _
    | with_reducible refine Kept.foldl (fun _ _ _ => ?_) _ _ ?_

theorem State.requestRetrain_kept {r b : Bool} {w : Nat} {s0 s : State} (hw : 0x41000 ||| w = w) (h : Kept r b w s0 s) :
    ∀ a1 a2 a3, Kept r b w s0 (State.requestRetrain s a1 a2 a3) := by
  intro a1 a2 a3
  unfold State.requestRetrain
  repeat' first
    | with_reducible assumption
    | with_reducible apply Kept.ite
    | with_reducible refine State.setChan_kept (maskLe (by decide) hw) ?_ _ _
    | with_reducible refine State.request_kept (maskLe (by decide) hw) ?_ _ _

theorem State.weakCheck_kept {r b : Bool} {w : Nat} {s0 s : State} (hw : 0x31e1401028 ||| w = w) (h : Kept r b w s0 s) :
    ∀ a1, Kept r b w s0 (State.weakCheck s a1) := by
  intro a1
  unfold State.weakCheck
  repeat' first
    | with_reducible assumption
    | with_reducible apply Kept.ite
    | with_reducible refine State.leafLost_kept (maskLe (by decide) hw) ?_ _

theorem State.hardFault_kept {r b : Bool} {w : Nat} {s0 s : State} (hw : 0x31e1401028 ||| w = w) (h : Kept r b w s0 s) :
    ∀ a1 a2 a3, Kept r b w s0 (State.hardFault s a1 a2 a3) := by
  intro a1 a2 a3
  unfold State.hardFault
  repeat' first
    | with_reducible assumption
    | with_reducible apply Kept.ite
    | with_reducible refine State.request_kept (maskLe (by decide) hw) ?_ _ _
    | with_reducible refine State.setCare_kept (maskLe (by decide) hw) ?_ _ _
    | with_reducible refine State.maint_kept (maskLe (by decide) hw) ?_ _ _
    | with_reducible refine State.weakCheck_kept (maskLe (by decide) hw) ?_ _
    | with_reducible refine State.addMap_kept (maskLe (by decide) hw) ?_ _

theorem State.sighting_kept {r b : Bool} {w : Nat} {s0 s : State} (hw : 0x31e1401028 ||| w = w) (h : Kept r b w s0 s) :
    ∀ a1 a2 a3 a4 a5 a6, Kept r b w s0 (State.sighting s a1 a2 a3 a4 a5 a6) := by
  intro a1 a2 a3 a4 a5 a6
  unfold State.sighting
  repeat' first
    | with_reducible assumption
    | with_reducible apply Kept.ite
    | with_reducible refine State.tally_kept (maskLe (by decide) hw) ?_ _ _ _ _
    | with_reducible refine State.maint_kept (maskLe (by decide) hw) ?_ _ _
    | with_reducible refine State.setCare_kept (maskLe (by decide) hw) ?_ _ _
    | with_reducible refine State.request_kept (maskLe (by decide) hw) ?_ _ _
    | with_reducible refine State.hardFault_kept (maskLe (by decide) hw) ?_ _ _ _
    | (lift_lets -underBinder; intro x; refine Kept.via (r := r) (b := b) (w := w) (s0 := s0) x ?_ ?_;
       on_goal 2 => (clear_value x; intro _); on_goal 1 => try subst x)
    | (lift_lets -underBinder; intro x;
       first
         | (have _ : Pins := x; subst x) | (have _ : _ → State := x; subst x)
         | (have _ : _ → _ → State := x; subst x) | clear_value x)
    | split

theorem State.laneSighting_kept {r b : Bool} {w : Nat} {s0 s : State} (hw : 0x41000 ||| w = w) (h : Kept r b w s0 s) :
    ∀ a1 a2 a3, Kept r b w s0 (State.laneSighting s a1 a2 a3) := by
  intro a1 a2 a3
  unfold State.laneSighting
  repeat' first
    | with_reducible assumption
    | with_reducible apply Kept.ite
    | with_reducible refine State.setChan_kept (maskLe (by decide) hw) ?_ _ _
    | with_reducible refine State.request_kept (maskLe (by decide) hw) ?_ _ _

theorem State.ueSighting_kept {r b : Bool} {w : Nat} {s0 s : State} (hw : 0x41000 ||| w = w) (h : Kept r b w s0 s) :
    ∀ a1 a2, Kept r b w s0 (State.ueSighting s a1 a2) := by
  intro a1 a2
  unfold State.ueSighting
  repeat' first
    | with_reducible assumption
    | with_reducible apply Kept.ite
    | with_reducible refine State.setChan_kept (maskLe (by decide) hw) ?_ _ _
    | with_reducible refine State.requestRetrain_kept (maskLe (by decide) hw) ?_ _ _ _

theorem State.readWords_kept {r b : Bool} {w : Nat} {s0 s : State} (hw : 0x31e1457628 ||| w = w) (h : Kept r b w s0 s) :
    ∀ a1 a2 a3 a4 a5 a6 a7 a8 a9 a10, Kept r b w s0 (State.readWords s a1 a2 a3 a4 a5 a6 a7 a8 a9 a10) := by
  intro a1 a2 a3 a4 a5 a6 a7 a8 a9 a10
  unfold State.readWords
  repeat' first
    | with_reducible assumption
    | with_reducible apply Kept.ite
    | with_reducible refine State.ueSighting_kept (maskLe (by decide) hw) ?_ _ _
    | with_reducible refine State.laneSighting_kept (maskLe (by decide) hw) ?_ _ _ _
    | with_reducible refine State.sighting_kept (maskLe (by decide) hw) ?_ _ _ _ _ _ _
    | with_reducible refine State.leafLost_kept (maskLe (by decide) hw) ?_ _
    | with_reducible refine State.convert_kept (maskLe (by decide) hw) ?_ _ _ _ _ _
    | with_reducible refine State.stainEvent_kept (maskLe (by decide) hw) ?_ _ _ _ _ _ _ _
    | with_reducible refine State.tally_kept (maskLe (by decide) hw) ?_ _ _ _ _
    | (lift_lets -underBinder; intro x; refine Kept.via (r := r) (b := b) (w := w) (s0 := s0) x ?_ ?_;
       on_goal 2 => (clear_value x; intro _); on_goal 1 => try subst x)
    | (lift_lets -underBinder; intro x;
       first
         | (have _ : Pins := x; subst x) | (have _ : _ → State := x; subst x)
         | (have _ : _ → _ → State := x; subst x) | clear_value x)
    | split
    | with_reducible refine Kept.foldl (fun _ _ _ => ?_) _ _ ?_

theorem State.meetSleep_kept {r b : Bool} {w : Nat} {s0 s : State} (hw : 0x20056400 ||| w = w) (h : Kept r b w s0 s) :
    ∀ a1 a2 a3, Kept r b w s0 (State.meetSleep s a1 a2 a3) := by
  intro a1 a2 a3
  unfold State.meetSleep
  repeat' first
    | with_reducible assumption
    | with_reducible apply Kept.ite
    | with_reducible refine State.setLeaf_kept (maskLe (by decide) hw) ?_ _ _
    | with_reducible refine State.wakeStack_kept (maskLe (by decide) hw) ?_ _
    | with_reducible refine State.cntT_kept (maskLe (by decide) hw) ?_ _ _ _
    | split
    | with_reducible refine Kept.foldl (fun _ _ _ => ?_) _ _ ?_

theorem State.dump_kept {r b : Bool} {w : Nat} {s0 s : State} (hw : 0x3000000000 ||| w = w) (h : Kept r b w s0 s) :
    ∀ a1 a2 a3, Kept r b w s0 (State.dump s a1 a2 a3) := by
  intro a1 a2 a3
  unfold State.dump
  repeat' first
    | with_reducible assumption
    | with_reducible refine State.storeWord_kept (maskLe (by decide) hw) ?_ _ _ _ _
    | with_reducible refine State.storeSystem_kept (maskLe (by decide) hw) ?_ _ _
    | (lift_lets -underBinder; intro x; refine Kept.via (r := r) (b := b) (w := w) (s0 := s0) x ?_ ?_;
       on_goal 2 => (clear_value x; intro _); on_goal 1 => try subst x)
    | (lift_lets -underBinder; intro x;
       first
         | (have _ : Pins := x; subst x) | (have _ : _ → State := x; subst x)
         | (have _ : _ → _ → State := x; subst x) | clear_value x)
    | split
    | with_reducible refine Kept.foldl (fun _ _ _ => ?_) _ _ ?_
    | with_reducible refine Kept.foldl1 (fun _ _ _ => ?_) _ _ ?_
    | dsimp only

theorem State.trip_kept {r b : Bool} {w : Nat} {s0 s : State} (hw : 0x7060400022 ||| w = w) (h : Kept r b w s0 s) :
    ∀ a1 a2 a3 a4, Kept r b w s0 (State.trip s a1 a2 a3 a4) := by
  intro a1 a2 a3 a4
  unfold State.trip
  repeat' first
    | with_reducible assumption
    | with_reducible apply Kept.ite
    | with_reducible refine State.dump_kept (maskLe (by decide) hw) ?_ _ _ _
    | with_reducible refine State.notify_kept (maskLe (by decide) hw) ?_ _ _ _ _
    | with_reducible refine State.note_kept (maskLe (by decide) hw) ?_ _ _ _ _
    | with_reducible refine State.fresh_kept (maskLe (by decide) hw) ?_
    | (lift_lets -underBinder; intro x; refine Kept.via (r := r) (b := b) (w := w) (s0 := s0) x ?_ ?_;
       on_goal 2 => (clear_value x; intro _); on_goal 1 => try subst x)
    | (lift_lets -underBinder; intro x;
       first
         | (have _ : Pins := x; subst x) | (have _ : _ → State := x; subst x)
         | (have _ : _ → _ → State := x; subst x) | clear_value x)
    | split
    | fail_if_no_progress with_reducible refine Kept.upd_pins_lake (maskLe (by decide) hw) ?_ ⟨rfl, rfl, id, id⟩

theorem State.takeIn_kept {r b : Bool} {w : Nat} {s0 s : State} (hw : 0x7060400022 ||| w = w) (h : Kept r b w s0 s) :
    ∀ a1 a2 a3 a4, Kept r b w s0 (State.takeIn s a1 a2 a3 a4) := by
  intro a1 a2 a3 a4
  unfold State.takeIn
  repeat' first
    | with_reducible assumption
    | with_reducible apply Kept.ite
    | with_reducible refine State.trip_kept (maskLe (by decide) hw) ?_ _ _ _ _
    | fail_if_no_progress with_reducible refine Kept.upd_lake (maskLe (by decide) hw) ?_

theorem State.digest_kept {r b : Bool} {w : Nat} {s0 s : State} (hw : 0x7060400022 ||| w = w) (h : Kept r b w s0 s) :
    ∀ a1 a2 a3 a4 a5, Kept r b w s0 (State.digest s a1 a2 a3 a4 a5) := by
  intro a1 a2 a3 a4 a5
  unfold State.digest
  repeat' first
    | with_reducible assumption
    | with_reducible apply Kept.ite
    | with_reducible refine State.takeIn_kept (maskLe (by decide) hw) ?_ _ _ _ _
    | (lift_lets -underBinder; intro x; refine Kept.via (r := r) (b := b) (w := w) (s0 := s0) x ?_ ?_;
       on_goal 2 => (clear_value x; intro _); on_goal 1 => try subst x)
    | (lift_lets -underBinder; intro x;
       first
         | (have _ : Pins := x; subst x) | (have _ : _ → State := x; subst x)
         | (have _ : _ → _ → State := x; subst x) | clear_value x)
    | split
    | with_reducible refine Kept.foldl (fun _ _ _ => ?_) _ _ ?_

theorem State.tileReads_kept {r b : Bool} {w : Nat} {s0 s : State} (hw : 0x57600 ||| w = w) (h : Kept r b w s0 s) :
    ∀ a1 a2, Kept r b w s0 (State.tileReads s a1 a2) := by
  intro a1 a2
  unfold State.tileReads
  repeat' first
    | with_reducible assumption
    | with_reducible apply Kept.ite
    | with_reducible refine State.enqueue_kept (maskLe (by decide) hw) ?_ _ _
    | with_reducible refine Kept.foldl (fun _ _ _ => ?_) _ _ ?_

theorem State.acceptAcco_kept {r b : Bool} {w : Nat} {s0 s : State} (hw : 0x20457600 ||| w = w) (h : Kept r b w s0 s) :
    ∀ a1 a2, Kept r b w s0 (State.acceptAcco s a1 a2) := by
  intro a1 a2
  unfold State.acceptAcco
  repeat' first
    | with_reducible assumption
    | with_reducible apply Kept.ite
    | with_reducible refine State.tileReads_kept (maskLe (by decide) hw) ?_ _ _
    | with_reducible refine State.cntT_kept (maskLe (by decide) hw) ?_ _ _ _
    | fail_if_no_progress with_reducible refine Kept.upd_nextId_lake (maskLe (by decide) hw) ?_
    | (lift_lets -underBinder; intro x; refine Kept.via (r := r) (b := b) (w := w) (s0 := s0) x ?_ ?_;
       on_goal 2 => (clear_value x; intro _); on_goal 1 => try subst x)
    | (lift_lets -underBinder; intro x;
       first
         | (have _ : Pins := x; subst x) | (have _ : _ → State := x; subst x)
         | (have _ : _ → _ → State := x; subst x) | clear_value x)
    | split
    | dsimp only

theorem State.askAccu_kept {r b : Bool} {w : Nat} {s0 s : State} (hw : 0x457600 ||| w = w) (h : Kept r b w s0 s) :
    Kept r b w s0 (State.askAccu s) := by
  unfold State.askAccu
  repeat' first
    | with_reducible assumption
    | with_reducible apply Kept.ite
    | with_reducible refine State.enqueue_kept (maskLe (by decide) hw) ?_ _ _
    | fail_if_no_progress with_reducible refine Kept.upd_lake (maskLe (by decide) hw) ?_
    | split
    | with_reducible refine Kept.foldl (fun _ _ _ => ?_) _ _ ?_

theorem State.acceptAccu_kept {r b : Bool} {w : Nat} {s0 s : State} (hw : 0x20457600 ||| w = w) (h : Kept r b w s0 s) :
    ∀ a1 a2 a3, Kept r b w s0 (State.acceptAccu s a1 a2 a3) := by
  intro a1 a2 a3
  unfold State.acceptAccu
  repeat' first
    | with_reducible assumption
    | with_reducible apply Kept.ite
    | with_reducible refine State.askAccu_kept (maskLe (by decide) hw) ?_
    | with_reducible refine State.cntT_kept (maskLe (by decide) hw) ?_ _ _ _
    | fail_if_no_progress with_reducible refine Kept.upd_nextId_lake (maskLe (by decide) hw) ?_
    | with_reducible refine Kept.foldl (fun _ _ _ => ?_) _ _ ?_

theorem State.gatherRead_kept {r b : Bool} {w : Nat} {s0 s : State} (hw : 0xa01d67a0 ||| w = w) (h : Kept r b w s0 s) :
    ∀ a1 a2 a3 a4, Kept r b w s0 (State.gatherRead s a1 a2 a3 a4) := by
  intro a1 a2 a3 a4
  unfold State.gatherRead
  repeat' first
    | with_reducible assumption
    | with_reducible apply Kept.ite
    | with_reducible refine State.stageOr_kept (maskLe (by decide) hw) ?_ (fun _ _ => ?_) _ _ _ _
    | with_reducible refine State.enterReady_kept (maskLe (by decide) hw) ?_ _
    | with_reducible refine State.wakeStack_kept (maskLe (by decide) hw) ?_ _
    | with_reducible refine State.setPart_kept (maskLe (by decide) hw) ?_ _ _
    | with_reducible refine State.setReq_kept (maskLe (by decide) hw) ?_ _ _
    | fail_if_no_progress with_reducible refine Kept.upd_nextId (maskLe (by decide) hw) ?_
    | split

theorem State.gatherDebt_kept {r b : Bool} {w : Nat} {s0 s : State} (hw : 0x20100000 ||| w = w) (h : Kept r b w s0 s) :
    ∀ a1, Kept r b w s0 (State.gatherDebt s a1) := by
  intro a1
  unfold State.gatherDebt
  repeat' first
    | with_reducible assumption
    | with_reducible apply Kept.ite
    | with_reducible refine State.debtMarker_kept (maskLe (by decide) hw) ?_ _ _ _
    | with_reducible refine State.cntT_kept (maskLe (by decide) hw) ?_ _ _ _
    | (lift_lets -underBinder; intro x; refine Kept.via (r := r) (b := b) (w := w) (s0 := s0) x ?_ ?_;
       on_goal 2 => (clear_value x; intro _); on_goal 1 => try subst x)
    | (lift_lets -underBinder; intro x;
       first
         | (have _ : Pins := x; subst x) | (have _ : _ → State := x; subst x)
         | (have _ : _ → _ → State := x; subst x) | clear_value x)
    | split

theorem State.setGather_kept {r b : Bool} {w : Nat} {s0 s : State} (hw : 0x400000 ||| w = w) (h : Kept r b w s0 s) :
    ∀ a1 a2, Kept r b w s0 (State.setGather s a1 a2) := by
  intro a1 a2
  unfold State.setGather
  repeat' first
    | with_reducible assumption
    | fail_if_no_progress with_reducible refine Kept.upd_lake (maskLe (by decide) hw) ?_

theorem State.dropGather_kept {r b : Bool} {w : Nat} {s0 s : State} (hw : 0x400000 ||| w = w) (h : Kept r b w s0 s) :
    ∀ a1, Kept r b w s0 (State.dropGather s a1) := by
  intro a1
  unfold State.dropGather
  repeat' first
    | with_reducible assumption
    | fail_if_no_progress with_reducible refine Kept.upd_lake (maskLe (by decide) hw) ?_

theorem State.failGather_kept {r b : Bool} {w : Nat} {s0 s : State} (hw : 0xa05800a0 ||| w = w) (h : Kept r b w s0 s) :
    ∀ a1 a2 a3, Kept r b w s0 (State.failGather s a1 a2 a3) := by
  intro a1 a2 a3
  unfold State.failGather
  repeat' first
    | with_reducible assumption
    | with_reducible apply Kept.ite
    | with_reducible refine State.dropGather_kept (maskLe (by decide) hw) ?_ _
    | with_reducible refine State.drrRefund_kept (maskLe (by decide) hw) ?_ _ _ _ _
    | with_reducible refine State.answer_kept (maskLe (by decide) hw) ?_ _ _ _
    | with_reducible refine State.refundMarker_kept (maskLe (by decide) hw) ?_ _
    | (lift_lets -underBinder; intro x; refine Kept.via (r := r) (b := b) (w := w) (s0 := s0) x ?_ ?_;
       on_goal 2 => (clear_value x; intro _); on_goal 1 => try subst x)
    | split

theorem State.gatherBeats_kept {r b : Bool} {w : Nat} {s0 : State} (n : Nat) (hw : 0xa04000a0 ||| w = w) :
    ∀ {s : State}, Kept r b w s0 s → ∀ a2, Kept r b w s0 (State.gatherBeats n s a2) := by
  induction n with
  | zero =>
    intro s h a2
    exact h
  | succ n ih =>
    intro s h a2
    unfold State.gatherBeats
    repeat' first
    | with_reducible apply ih
    | with_reducible assumption
    | with_reducible apply Kept.ite
    | with_reducible refine State.dropGather_kept (maskLe (by decide) hw) ?_ _
    | with_reducible refine State.setReq_kept (maskLe (by decide) hw) ?_ _ _
    | with_reducible refine State.setGather_kept (maskLe (by decide) hw) ?_ _ _
    | with_reducible refine State.pushLane_kept (maskLe (by decide) hw) ?_ _ _
    | with_reducible refine State.countAnswer_kept (maskLe (by decide) hw) ?_ _ _
    | split

theorem State.gatherNote_kept {r b : Bool} {w : Nat} {s0 s : State} (hw : 0x3060000020 ||| w = w) (h : Kept r b w s0 s) :
    ∀ a1, Kept r b w s0 (State.gatherNote s a1) := by
  intro a1
  unfold State.gatherNote
  repeat' first
    | with_reducible assumption
    | with_reducible refine State.notify_kept (maskLe (by decide) hw) ?_ _ _ _ _

theorem State.outOfRow_kept {r b : Bool} {w : Nat} {s0 s : State} (hw : 0x3060000000 ||| w = w) (h : Kept r b w s0 s) :
    ∀ a1 a2 a3, Kept r b w s0 (State.outOfRow s a1 a2 a3) := by
  intro a1 a2 a3
  unfold State.outOfRow
  repeat' first
    | with_reducible assumption
    | with_reducible apply Kept.ite
    | with_reducible refine State.cntT_kept (maskLe (by decide) hw) ?_ _ _ _
    | with_reducible refine State.note_kept (maskLe (by decide) hw) ?_ _ _ _ _

theorem State.nextChunk_kept {r b : Bool} {w : Nat} {s0 s : State} (hw : 0xa05d67a0 ||| w = w) (h : Kept r b w s0 s) :
    ∀ a1, Kept r b w s0 (State.nextChunk s a1) := by
  intro a1
  unfold State.nextChunk
  repeat' first
    | with_reducible assumption
    | with_reducible apply Kept.ite
    | with_reducible refine State.setGather_kept (maskLe (by decide) hw) ?_ _ _
    | with_reducible refine State.gatherRead_kept (maskLe (by decide) hw) ?_ _ _ _ _
    | (lift_lets -underBinder; intro x; refine Kept.via (r := r) (b := b) (w := w) (s0 := s0) x ?_ ?_;
       on_goal 2 => (clear_value x; intro _); on_goal 1 => try subst x)
    | (lift_lets -underBinder; intro x;
       first
         | (have _ : Pins := x; subst x) | (have _ : _ → State := x; subst x)
         | (have _ : _ → _ → State := x; subst x) | clear_value x)
    | split

theorem State.pendTrigger_kept {r b : Bool} {w : Nat} {s0 s : State} (hw : 0x400000 ||| w = w) (h : Kept r b w s0 s) :
    ∀ a1 a2 a3, Kept r b w s0 (State.pendTrigger s a1 a2 a3) := by
  intro a1 a2 a3
  unfold State.pendTrigger
  repeat' first
    | with_reducible assumption
    | with_reducible apply Kept.ite
    | fail_if_no_progress with_reducible refine Kept.upd_lake (maskLe (by decide) hw) ?_

theorem State.startPrefetch_kept {r b : Bool} {w : Nat} {s0 s : State} (hw : 0x30e05d67a0 ||| w = w) (h : Kept r b w s0 s) :
    ∀ a1 a2 a3, Kept r b w s0 (State.startPrefetch s a1 a2 a3) := by
  intro a1 a2 a3
  unfold State.startPrefetch
  repeat' first
    | with_reducible assumption
    | with_reducible apply Kept.ite
    | with_reducible refine State.pendTrigger_kept (maskLe (by decide) hw) ?_ _ _ _
    | with_reducible refine State.nextChunk_kept (maskLe (by decide) hw) ?_ _
    | with_reducible refine State.setGather_kept (maskLe (by decide) hw) ?_ _ _
    | with_reducible refine State.note_kept (maskLe (by decide) hw) ?_ _ _ _ _
    | (lift_lets -underBinder; intro x; refine Kept.via (r := r) (b := b) (w := w) (s0 := s0) x ?_ ?_;
       on_goal 2 => (clear_value x; intro _); on_goal 1 => try subst x)
    | (lift_lets -underBinder; intro x;
       first
         | (have _ : Pins := x; subst x) | (have _ : _ → State := x; subst x)
         | (have _ : _ → _ → State := x; subst x) | clear_value x)
    | split

theorem State.trigger_kept {r b : Bool} {w : Nat} {s0 s : State} (hw : 0x30e05d67a0 ||| w = w) (h : Kept r b w s0 s) :
    ∀ a1 a2 a3, Kept r b w s0 (State.trigger s a1 a2 a3) := by
  intro a1 a2 a3
  unfold State.trigger
  repeat' first
    | with_reducible assumption
    | with_reducible apply Kept.ite
    | with_reducible refine State.startPrefetch_kept (maskLe (by decide) hw) ?_ _ _ _
    | with_reducible refine State.pendTrigger_kept (maskLe (by decide) hw) ?_ _ _ _

theorem State.nextPrefetch_kept {r b : Bool} {w : Nat} {s0 s : State} (hw : 0x30e05d67a0 ||| w = w) (h : Kept r b w s0 s) :
    ∀ a1, Kept r b w s0 (State.nextPrefetch s a1) := by
  intro a1
  unfold State.nextPrefetch
  repeat' first
    | with_reducible assumption
    | with_reducible apply Kept.ite
    | with_reducible refine State.startPrefetch_kept (maskLe (by decide) hw) ?_ _ _ _
    | fail_if_no_progress with_reducible refine Kept.upd_lake (maskLe (by decide) hw) ?_
    | split

theorem State.sendFill_kept {r b : Bool} {w : Nat} {s0 s : State} (hw : 0x204801a0 ||| w = w) (h : Kept r b w s0 s) :
    ∀ a1, Kept r b w s0 (State.sendFill s a1) := by
  intro a1
  unfold State.sendFill
  repeat' first
    | with_reducible assumption
    | with_reducible refine State.dropReq_kept (maskLe (by decide) hw) ?_ _
    | with_reducible refine State.dropPart_kept (maskLe (by decide) hw) ?_ _
    | with_reducible refine State.drrFree_kept (maskLe (by decide) hw) ?_ _ _
    | with_reducible refine State.setPort_kept (maskLe (by decide) hw) ?_ _ _
    | with_reducible refine State.cntG_kept (maskLe (by decide) hw) ?_ _ _
    | with_reducible refine State.cntT_kept (maskLe (by decide) hw) ?_ _ _ _
    | with_reducible refine State.setGather_kept (maskLe (by decide) hw) ?_ _ _
    | (lift_lets -underBinder; intro x; refine Kept.via (r := r) (b := b) (w := w) (s0 := s0) x ?_ ?_;
       on_goal 2 => (clear_value x; intro _); on_goal 1 => try subst x)
    | split

theorem State.queueFill_kept {r b : Bool} {w : Nat} {s0 s : State} (hw : 0x204803a0 ||| w = w) (h : Kept r b w s0 s) :
    ∀ a1 a2 a3, Kept r b w s0 (State.queueFill s a1 a2 a3) := by
  intro a1 a2 a3
  unfold State.queueFill
  repeat' first
    | with_reducible assumption
    | with_reducible apply Kept.ite
    | with_reducible refine State.sendFill_kept (maskLe (by decide) hw) ?_ _
    | with_reducible refine State.setGather_kept (maskLe (by decide) hw) ?_ _ _
    | with_reducible refine State.stageOr_kept (maskLe (by decide) hw) ?_ (fun _ _ => ?_) _ _ _ _
    | with_reducible refine State.setPart_kept (maskLe (by decide) hw) ?_ _ _
    | with_reducible refine State.setReq_kept (maskLe (by decide) hw) ?_ _ _
    | fail_if_no_progress with_reducible refine Kept.upd_nextId (maskLe (by decide) hw) ?_

theorem State.gatherGo_kept {r b : Bool} {w : Nat} {s0 : State} (n : Nat) (hw : 0x30e05d67a0 ||| w = w) :
    ∀ {s : State}, Kept r b w s0 s → ∀ a2, Kept r b w s0 (State.gatherGo n s a2) := by
  induction n with
  | zero =>
    intro s h a2
    exact h
  | succ n ih =>
    intro s h a2
    unfold State.gatherGo
    repeat' first
    | with_reducible apply ih
    | with_reducible assumption
    | with_reducible apply Kept.ite
    | with_reducible refine State.nextPrefetch_kept (maskLe (by decide) hw) ?_ _
    | with_reducible refine State.gatherBeats_kept _ (maskLe (by decide) hw) ?_ _
    | with_reducible refine State.gatherNote_kept (maskLe (by decide) hw) ?_ _
    | with_reducible refine State.dropGather_kept (maskLe (by decide) hw) ?_ _
    | with_reducible refine State.nextChunk_kept (maskLe (by decide) hw) ?_ _
    | with_reducible refine State.setGather_kept (maskLe (by decide) hw) ?_ _ _
    | with_reducible refine State.outOfRow_kept (maskLe (by decide) hw) ?_ _ _ _
    | with_reducible refine State.cntT_kept (maskLe (by decide) hw) ?_ _ _ _
    | with_reducible refine State.queueFill_kept (maskLe (by decide) hw) ?_ _ _ _
    | (lift_lets -underBinder; intro x; refine Kept.via (r := r) (b := b) (w := w) (s0 := s0) x ?_ ?_;
       on_goal 2 => (clear_value x; intro _); on_goal 1 => try subst x)
    | (lift_lets -underBinder; intro x;
       first
         | (have _ : Pins := x; subst x) | (have _ : _ → State := x; subst x)
         | (have _ : _ → _ → State := x; subst x) | clear_value x)
    | split

theorem State.gatherStain_kept {r b : Bool} {w : Nat} {s0 s : State} (hw : 0x30e0000000 ||| w = w) (h : Kept r b w s0 s) :
    ∀ a1 a2, Kept r b w s0 (State.gatherStain s a1 a2) := by
  intro a1 a2
  unfold State.gatherStain
  repeat' first
    | with_reducible assumption
    | with_reducible refine State.stainEvent_kept (maskLe (by decide) hw) ?_ _ _ _ _ _ _ _

theorem State.gotDesc_kept {r b : Bool} {w : Nat} {s0 s : State} (hw : 0x30e05d67a0 ||| w = w) (h : Kept r b w s0 s) :
    ∀ a1 a2 a3 a4, Kept r b w s0 (State.gotDesc s a1 a2 a3 a4) := by
  intro a1 a2 a3 a4
  unfold State.gotDesc
  repeat' first
    | with_reducible assumption
    | with_reducible apply Kept.ite
    | with_reducible refine State.gatherStain_kept (maskLe (by decide) hw) ?_ _ _
    | with_reducible refine State.nextPrefetch_kept (maskLe (by decide) hw) ?_ _
    | with_reducible refine State.nextChunk_kept (maskLe (by decide) hw) ?_ _
    | with_reducible refine State.failGather_kept (maskLe (by decide) hw) ?_ _ _ _
    | with_reducible refine State.setGather_kept (maskLe (by decide) hw) ?_ _ _
    | with_reducible refine State.cntT_kept (maskLe (by decide) hw) ?_ _ _ _

theorem State.gotPage_kept {r b : Bool} {w : Nat} {s0 s : State} (hw : 0x30e05d67a0 ||| w = w) (h : Kept r b w s0 s) :
    ∀ a1 a2 a3 a4, Kept r b w s0 (State.gotPage s a1 a2 a3 a4) := by
  intro a1 a2 a3 a4
  unfold State.gotPage
  repeat' first
    | with_reducible assumption
    | with_reducible apply Kept.ite
    | with_reducible refine State.nextPrefetch_kept (maskLe (by decide) hw) ?_ _
    | with_reducible refine State.note_kept (maskLe (by decide) hw) ?_ _ _ _ _
    | with_reducible refine State.dropGather_kept (maskLe (by decide) hw) ?_ _
    | with_reducible refine State.cntT_kept (maskLe (by decide) hw) ?_ _ _ _
    | with_reducible refine State.gatherGo_kept _ (maskLe (by decide) hw) ?_ _
    | with_reducible refine State.setGather_kept (maskLe (by decide) hw) ?_ _ _

theorem State.patternEvents_kept {r b : Bool} {w : Nat} {s0 s : State} (hw : 0x30e0000000 ||| w = w) (h : Kept r b w s0 s) :
    ∀ a1, Kept r b w s0 (State.patternEvents s a1) := by
  intro a1
  unfold State.patternEvents
  repeat' first
    | with_reducible assumption
    | with_reducible apply Kept.ite
    | with_reducible refine State.stainEvent_kept (maskLe (by decide) hw) ?_ _ _ _ _ _ _ _
    | (lift_lets -underBinder; intro x; refine Kept.via (r := r) (b := b) (w := w) (s0 := s0) x ?_ ?_;
       on_goal 2 => (clear_value x; intro _); on_goal 1 => try subst x)
    | (lift_lets -underBinder; intro x;
       first
         | (have _ : Pins := x; subst x) | (have _ : _ → State := x; subst x)
         | (have _ : _ → _ → State := x; subst x) | clear_value x)
    | with_reducible refine Kept.foldl (fun _ _ _ => ?_) _ _ ?_

theorem State.gatherPrefix_kept {r b : Bool} {w : Nat} {s0 s : State} (hw : 0xa04000a0 ||| w = w) (h : Kept r b w s0 s) :
    ∀ a1 a2, Kept r b w s0 (State.gatherPrefix s a1 a2) := by
  intro a1 a2
  unfold State.gatherPrefix
  repeat' first
    | with_reducible assumption
    | with_reducible apply Kept.ite
    | with_reducible refine State.gatherBeats_kept _ (maskLe (by decide) hw) ?_ _
    | with_reducible refine State.setGather_kept (maskLe (by decide) hw) ?_ _ _
    | with_reducible refine State.setReq_kept (maskLe (by decide) hw) ?_ _ _
    | with_reducible refine State.cntT_kept (maskLe (by decide) hw) ?_ _ _ _
    | (lift_lets -underBinder; intro x; refine Kept.via (r := r) (b := b) (w := w) (s0 := s0) x ?_ ?_;
       on_goal 2 => (clear_value x; intro _); on_goal 1 => try subst x)
    | (lift_lets -underBinder; intro x;
       first
         | (have _ : Pins := x; subst x) | (have _ : _ → State := x; subst x)
         | (have _ : _ → _ → State := x; subst x) | clear_value x)
    | split

theorem State.gatherData_kept {r b : Bool} {w : Nat} {s0 s : State} (hw : 0x30e05d67a0 ||| w = w) (h : Kept r b w s0 s) :
    ∀ a1 a2, Kept r b w s0 (State.gatherData s a1 a2) := by
  intro a1 a2
  unfold State.gatherData
  repeat' first
    | with_reducible assumption
    | with_reducible apply Kept.ite
    | with_reducible refine State.patternEvents_kept (maskLe (by decide) hw) ?_ _
    | with_reducible refine State.gotPage_kept (maskLe (by decide) hw) ?_ _ _ _ _
    | with_reducible refine State.gotDesc_kept (maskLe (by decide) hw) ?_ _ _ _ _
    | with_reducible refine State.gatherStain_kept (maskLe (by decide) hw) ?_ _ _
    | with_reducible refine State.gatherGo_kept _ (maskLe (by decide) hw) ?_ _
    | with_reducible refine State.queueFill_kept (maskLe (by decide) hw) ?_ _ _ _
    | with_reducible refine State.nextPrefetch_kept (maskLe (by decide) hw) ?_ _
    | with_reducible refine State.nextChunk_kept (maskLe (by decide) hw) ?_ _
    | with_reducible refine State.gatherBeats_kept _ (maskLe (by decide) hw) ?_ _
    | with_reducible refine State.failGather_kept (maskLe (by decide) hw) ?_ _ _ _
    | with_reducible refine State.setGather_kept (maskLe (by decide) hw) ?_ _ _
    | with_reducible refine State.freeStages_kept (maskLe (by decide) hw) ?_ _
    | with_reducible refine State.answer_kept (maskLe (by decide) hw) ?_ _ _ _
    | with_reducible refine State.dropPart_kept (maskLe (by decide) hw) ?_ _
    | with_reducible refine State.dropReq_kept (maskLe (by decide) hw) ?_ _
    | with_reducible refine State.cntT_kept (maskLe (by decide) hw) ?_ _ _ _
    | (lift_lets -underBinder; intro x; refine Kept.via (r := r) (b := b) (w := w) (s0 := s0) x ?_ ?_;
       on_goal 2 => (clear_value x; intro _); on_goal 1 => try subst x)
    | (lift_lets -underBinder; intro x;
       first
         | (have _ : Pins := x; subst x) | (have _ : _ → State := x; subst x)
         | (have _ : _ → _ → State := x; subst x) | clear_value x)
    | split
    | dsimp only

theorem State.gatherWords_kept {r b : Bool} {w : Nat} {s0 s : State} (hw : 0x30e05d67a0 ||| w = w) (h : Kept r b w s0 s) :
    ∀ a1 a2, Kept r b w s0 (State.gatherWords s a1 a2) := by
  intro a1 a2
  unfold State.gatherWords
  repeat' first
    | with_reducible assumption
    | with_reducible apply Kept.ite
    | with_reducible refine State.gatherData_kept (maskLe (by decide) hw) ?_ _ _
    | with_reducible refine State.gatherPrefix_kept (maskLe (by decide) hw) ?_ _ _
    | with_reducible refine State.freePlaces_kept (maskLe (by decide) hw) ?_ _ _ _

theorem State.startGather_kept {r b : Bool} {w : Nat} {s0 s : State} (hw : 0xa05d67a0 ||| w = w) (h : Kept r b w s0 s) :
    ∀ a1 a2 a3, Kept r b w s0 (State.startGather s a1 a2 a3) := by
  intro a1 a2 a3
  unfold State.startGather
  repeat' first
    | with_reducible assumption
    | with_reducible apply Kept.ite
    | with_reducible refine State.nextChunk_kept (maskLe (by decide) hw) ?_ _
    | with_reducible refine State.setGather_kept (maskLe (by decide) hw) ?_ _ _
    | with_reducible refine State.setReq_kept (maskLe (by decide) hw) ?_ _ _
    | (lift_lets -underBinder; intro x; refine Kept.via (r := r) (b := b) (w := w) (s0 := s0) x ?_ ?_;
       on_goal 2 => (clear_value x; intro _); on_goal 1 => try subst x)
    | (lift_lets -underBinder; intro x;
       first
         | (have _ : Pins := x; subst x) | (have _ : _ → State := x; subst x)
         | (have _ : _ → _ → State := x; subst x) | clear_value x)
    | split

theorem State.endGather_kept {r b : Bool} {w : Nat} {s0 s : State} (hw : 0x30e05d67a0 ||| w = w) (h : Kept r b w s0 s) :
    ∀ a1, Kept r b w s0 (State.endGather s a1) := by
  intro a1
  unfold State.endGather
  repeat' first
    | with_reducible assumption
    | with_reducible apply Kept.ite
    | with_reducible refine State.nextPrefetch_kept (maskLe (by decide) hw) ?_ _
    | with_reducible refine State.dropGather_kept (maskLe (by decide) hw) ?_ _
    | with_reducible refine State.dropRead_kept (maskLe (by decide) hw) ?_ _ _
    | (lift_lets -underBinder; intro x; refine Kept.via (r := r) (b := b) (w := w) (s0 := s0) x ?_ ?_;
       on_goal 2 => (clear_value x; intro _); on_goal 1 => try subst x)
    | (lift_lets -underBinder; intro x;
       first
         | (have _ : Pins := x; subst x) | (have _ : _ → State := x; subst x)
         | (have _ : _ → _ → State := x; subst x) | clear_value x)
    | split
    | with_reducible refine Kept.foldl (fun _ _ _ => ?_) _ _ ?_

theorem State.endRequest_kept {r b : Bool} {w : Nat} {s0 s : State} (hw : 0x30e05d67a0 ||| w = w) (h : Kept r b w s0 s) :
    ∀ a1 a2, Kept r b w s0 (State.endRequest s a1 a2).1 := by
  intro a1 a2
  unfold State.endRequest
  repeat' first
    | with_reducible assumption
    | with_reducible apply Kept.ite
    | with_reducible refine State.endGather_kept (maskLe (by decide) hw) ?_ _
    | with_reducible refine State.freePlaces_kept (maskLe (by decide) hw) ?_ _ _ _
    | with_reducible refine State.withdraw_kept (maskLe (by decide) hw) ?_ _
    | with_reducible refine State.answer_kept (maskLe (by decide) hw) ?_ _ _ _
    | with_reducible refine State.setReq_kept (maskLe (by decide) hw) ?_ _ _
    | with_reducible refine State.setPort_kept (maskLe (by decide) hw) ?_ _ _
    | (lift_lets -underBinder; intro x; refine Kept.via (r := r) (b := b) (w := w) (s0 := s0) x ?_ ?_;
       on_goal 2 => (clear_value x; intro _); on_goal 1 => try subst x)
    | (lift_lets -underBinder; intro x;
       first
         | (have _ : Pins := x; subst x) | (have _ : _ → State := x; subst x)
         | (have _ : _ → _ → State := x; subst x) | clear_value x)
    | split

theorem State.isolate_kept {r b : Bool} {w : Nat} {s0 s : State} (hw : 0x30e05d67e0 ||| w = w) (h : Kept r b w s0 s) :
    ∀ a1 a2, Kept r b w s0 (State.isolate s a1 a2) := by
  intro a1 a2
  unfold State.isolate
  repeat' first
    | with_reducible assumption
    | with_reducible apply Kept.ite
    | with_reducible refine State.endRequest_kept (maskLe (by decide) hw) ?_ _ _
    | with_reducible refine State.setPort_kept (maskLe (by decide) hw) ?_ _ _
    | with_reducible refine State.cntG_kept (maskLe (by decide) hw) ?_ _ _
    | with_reducible refine State.note_kept (maskLe (by decide) hw) ?_ _ _ _ _
    | fail_if_no_progress with_reducible refine Kept.upd_aff_regs (maskLe (by decide) hw) ?_
    | split
    | with_reducible refine Kept.foldl (fun _ _ _ => ?_) _ _ ?_
    | with_reducible refine Kept.foldl1 (fun _ _ _ => ?_) _ _ ?_

theorem State.ownSet_kept {r b : Bool} {w : Nat} {s0 s : State} (hw : 0x10 ||| w = w) (h : Kept r b w s0 s) :
    ∀ a1, Kept r b w s0 (State.ownSet s a1) := by
  intro a1
  unfold State.ownSet
  repeat' first
    | with_reducible assumption
    | with_reducible apply Kept.ite
    | fail_if_no_progress with_reducible refine Kept.upd_sets (maskLe (by decide) hw) ?_
    | (lift_lets -underBinder; intro x; refine Kept.via (r := r) (b := b) (w := w) (s0 := s0) x ?_ ?_;
       on_goal 2 => (clear_value x; intro _); on_goal 1 => try subst x)
    | (lift_lets -underBinder; intro x;
       first
         | (have _ : Pins := x; subst x) | (have _ : _ → State := x; subst x)
         | (have _ : _ → _ → State := x; subst x) | clear_value x)
    | with_reducible refine Kept.foldl (fun _ _ _ => ?_) _ _ ?_

theorem State.ageStack_kept {r b : Bool} {w : Nat} {s0 s : State} (hw : 0x800 ||| w = w) (h : Kept r b w s0 s) :
    ∀ a1 a2 a3, Kept r b w s0 (State.ageStack s a1 a2 a3) := by
  intro a1 a2 a3
  unfold State.ageStack
  repeat' first
    | with_reducible assumption
    | with_reducible apply Kept.ite
    | fail_if_no_progress with_reducible refine Kept.upd_prots (maskLe (by decide) hw) ?_

theorem State.ageDue_kept {r b : Bool} {w : Nat} {s0 s : State} (hw : 0x4800 ||| w = w) (h : Kept r b w s0 s) :
    ∀ a1 a2, Kept r b w s0 (State.ageDue s a1 a2) := by
  intro a1 a2
  unfold State.ageDue
  repeat' first
    | with_reducible assumption
    | with_reducible apply Kept.ite
    | with_reducible refine State.ageStack_kept (maskLe (by decide) hw) ?_ _ _ _
    | with_reducible refine State.setSck_kept (maskLe (by decide) hw) ?_ _ _

theorem State.rowCount_kept {r b : Bool} {w : Nat} {s0 s : State} (hw : 0x4800 ||| w = w) (h : Kept r b w s0 s) :
    ∀ a1 a2 a3, Kept r b w s0 (State.rowCount s a1 a2 a3) := by
  intro a1 a2 a3
  unfold State.rowCount
  repeat' first
    | with_reducible assumption
    | with_reducible apply Kept.ite
    | with_reducible refine State.ageDue_kept (maskLe (by decide) hw) ?_ _ _
    | with_reducible refine State.setProt_kept (maskLe (by decide) hw) ?_ _ _

theorem State.actRow_kept {r b : Bool} {w : Nat} {s0 s : State} (hw : 0x4c00 ||| w = w) (h : Kept r b w s0 s) :
    ∀ a1 a2 a3, Kept r b w s0 (State.actRow s a1 a2 a3) := by
  intro a1 a2 a3
  unfold State.actRow
  repeat' first
    | with_reducible assumption
    | with_reducible apply Kept.ite
    | with_reducible refine State.rowCount_kept (maskLe (by decide) hw) ?_ _ _ _
    | with_reducible refine State.setLeaf_kept (maskLe (by decide) hw) ?_ _ _

theorem State.preRow_kept {r b : Bool} {w : Nat} {s0 s : State} (hw : 0x400 ||| w = w) (h : Kept r b w s0 s) :
    ∀ a1 a2, Kept r b w s0 (State.preRow s a1 a2) := by
  intro a1 a2
  unfold State.preRow
  repeat' first
    | with_reducible assumption
    | with_reducible refine State.setLeaf_kept (maskLe (by decide) hw) ?_ _ _

theorem State.chargeAct_kept {r b : Bool} {w : Nat} {s0 s : State} (hw : 0x20212000 ||| w = w) (h : Kept r b w s0 s) :
    ∀ a1 a2, Kept r b w s0 (State.chargeAct s a1 a2) := by
  intro a1 a2
  unfold State.chargeAct
  repeat' first
    | with_reducible assumption
    | with_reducible apply Kept.ite
    | with_reducible refine State.setArb_kept (maskLe (by decide) hw) ?_ _ _
    | with_reducible refine State.spend_kept (maskLe (by decide) hw) ?_ _ _ _ _
    | with_reducible refine State.cntT_kept (maskLe (by decide) hw) ?_ _ _ _
    | fail_if_no_progress with_reducible refine Kept.upd_debts (maskLe (by decide) hw) ?_

theorem State.serveEntry_kept {r b : Bool} {w : Nat} {s0 s : State} (hw : 0x60000180 ||| w = w) (h : Kept r b w s0 s) :
    ∀ a1 a2, Kept r b w s0 (State.serveEntry s a1 a2) := by
  intro a1 a2
  unfold State.serveEntry
  repeat' first
    | with_reducible assumption
    | with_reducible apply Kept.ite
    | with_reducible refine State.samplePoint_kept (maskLe (by decide) hw) ?_ _ _ _
    | with_reducible refine State.dropPart_kept (maskLe (by decide) hw) ?_ _
    | with_reducible refine State.setPart_kept (maskLe (by decide) hw) ?_ _ _
    | with_reducible refine State.dropReq_kept (maskLe (by decide) hw) ?_ _
    | with_reducible refine State.setReq_kept (maskLe (by decide) hw) ?_ _ _
    | with_reducible refine State.cntT_kept (maskLe (by decide) hw) ?_ _ _ _
    | (lift_lets -underBinder; intro x; refine Kept.via (r := r) (b := b) (w := w) (s0 := s0) x ?_ ?_;
       on_goal 2 => (clear_value x; intro _); on_goal 1 => try subst x)
    | (lift_lets -underBinder; intro x;
       first
         | (have _ : Pins := x; subst x) | (have _ : _ → State := x; subst x)
         | (have _ : _ → _ → State := x; subst x) | clear_value x)
    | split

theorem State.storeRun_kept {r b : Bool} {w : Nat} {s0 s : State} (hw : 0x3000000000 ||| w = w) (h : Kept r b w s0 s) :
    ∀ a1 a2 a3 a4, Kept r b w s0 (State.storeRun s a1 a2 a3 a4) := by
  intro a1 a2 a3 a4
  unfold State.storeRun
  repeat' first
    | with_reducible assumption
    | with_reducible apply Kept.ite
    | with_reducible refine State.storeWord_kept (maskLe (by decide) hw) ?_ _ _ _ _
    | split
    | with_reducible refine Kept.foldl (fun _ _ _ => ?_) _ _ ?_

theorem State.slotCount_kept {r b : Bool} {w : Nat} {s0 s : State} (hw : 0x20000000 ||| w = w) (h : Kept r b w s0 s) :
    ∀ a1 a2 a3, Kept r b w s0 (State.slotCount s a1 a2 a3) := by
  intro a1 a2 a3
  unfold State.slotCount
  repeat' first
    | with_reducible assumption
    | with_reducible apply Kept.ite
    | with_reducible refine State.cntC_kept (maskLe (by decide) hw) ?_ _ _ _

theorem State.maintSlots_kept {r b : Bool} {w : Nat} {s0 s : State} (hw : 0x20000400 ||| w = w) (h : Kept r b w s0 s) :
    ∀ a1 a2, Kept r b w s0 (State.maintSlots s a1 a2) := by
  intro a1 a2
  unfold State.maintSlots
  repeat' first
    | with_reducible assumption
    | with_reducible refine State.slotCount_kept (maskLe (by decide) hw) ?_ _ _ _
    | with_reducible refine State.setLeaf_kept (maskLe (by decide) hw) ?_ _ _

theorem State.feedZero_kept {r b : Bool} {w : Nat} {s0 s : State} (hw : 0x56600 ||| w = w) (h : Kept r b w s0 s) :
    ∀ a1, Kept r b w s0 (State.feedZero s a1) := by
  intro a1
  unfold State.feedZero
  repeat' first
    | with_reducible assumption
    | with_reducible apply Kept.ite
    | with_reducible refine State.pushEntry_kept (maskLe (by decide) hw) ?_ _ _

theorem State.run_kept {r b : Bool} {w : Nat} {s0 s : State} (hw : 0x3060457780 ||| w = w) (h : Kept r b w s0 s) :
    ∀ a1 a2, Kept r b w s0 (State.run s a1 a2) := by
  intro a1 a2
  unfold State.run
  repeat' first
    | with_reducible assumption
    | with_reducible apply Kept.ite
    | with_reducible refine State.slotCount_kept (maskLe (by decide) hw) ?_ _ _ _
    | with_reducible refine State.storeRun_kept (maskLe (by decide) hw) ?_ _ _ _ _
    | with_reducible refine State.serveEntry_kept (maskLe (by decide) hw) ?_ _ _
    | with_reducible refine State.askAccu_kept (maskLe (by decide) hw) ?_
    | with_reducible refine State.feedZero_kept (maskLe (by decide) hw) ?_ _
    | with_reducible refine State.claims_kept (maskLe (by decide) hw) ?_ _
    | with_reducible refine State.spend_kept (maskLe (by decide) hw) ?_ _ _ _ _
    | with_reducible refine State.setCare_kept (maskLe (by decide) hw) ?_ _ _
    | with_reducible refine State.setLeaf_kept (maskLe (by decide) hw) ?_ _ _

theorem State.touchRow_kept {r b : Bool} {w : Nat} {s0 s : State} (hw : 0x20004c00 ||| w = w) (h : Kept r b w s0 s) :
    ∀ a1 a2 a3 a4, Kept r b w s0 (State.touchRow s a1 a2 a3 a4) := by
  intro a1 a2 a3 a4
  unfold State.touchRow
  repeat' first
    | with_reducible assumption
    | with_reducible apply Kept.ite
    | with_reducible refine State.slotCount_kept (maskLe (by decide) hw) ?_ _ _ _
    | with_reducible refine State.rowCount_kept (maskLe (by decide) hw) ?_ _ _ _
    | with_reducible refine State.setLeaf_kept (maskLe (by decide) hw) ?_ _ _

theorem execColumnRun_kept {r b : Bool} {w : Nat} {s0 s : State} (hw : 0x3060457780 ||| w = w) (h : Kept r b w s0 s) :
    ∀ a1, KeptO r b w s0 (execColumnRun a1 s) := by
  intro a1
  unfold execColumnRun
  repeat' first
    | with_reducible assumption
    | with_reducible apply Kept.ite
    | with_reducible apply KeptO.next
    | with_reducible apply KeptO.ite
    | with_reducible refine State.run_kept (maskLe (by decide) hw) ?_ _ _
    | split

theorem execRowCommand_kept {r b : Bool} {w : Nat} {s0 s : State} (hw : 0x20256c00 ||| w = w) (h : Kept r b w s0 s) :
    ∀ a1, KeptO r b w s0 (execRowCommand a1 s) := by
  intro a1
  unfold execRowCommand
  repeat' first
    | with_reducible assumption
    | with_reducible apply Kept.ite
    | with_reducible apply KeptO.next
    | with_reducible apply KeptO.ite
    | with_reducible refine State.chargeAct_kept (maskLe (by decide) hw) ?_ _ _
    | with_reducible refine State.preRow_kept (maskLe (by decide) hw) ?_ _ _
    | with_reducible refine State.actRow_kept (maskLe (by decide) hw) ?_ _ _ _
    | with_reducible refine State.claims_kept (maskLe (by decide) hw) ?_ _
    | with_reducible refine State.setChan_kept (maskLe (by decide) hw) ?_ _ _
    | with_reducible refine State.setLeaf_kept (maskLe (by decide) hw) ?_ _ _
    | (lift_lets -underBinder; intro x; refine Kept.via (r := r) (b := b) (w := w) (s0 := s0) x ?_ ?_;
       on_goal 2 => (clear_value x; intro _); on_goal 1 => try subst x)
    | (lift_lets -underBinder; intro x;
       first
         | (have _ : Pins := x; subst x) | (have _ : _ → State := x; subst x)
         | (have _ : _ → _ → State := x; subst x) | clear_value x)
    | split

theorem execIdleClose_kept {r b : Bool} {w : Nat} {s0 s : State} (hw : 0x40400 ||| w = w) (h : Kept r b w s0 s) :
    ∀ a1, KeptO r b w s0 (execIdleClose a1 s) := by
  intro a1
  unfold execIdleClose
  repeat' first
    | with_reducible assumption
    | with_reducible apply Kept.ite
    | with_reducible apply KeptO.next
    | with_reducible apply KeptO.ite
    | with_reducible refine State.preRow_kept (maskLe (by decide) hw) ?_ _ _
    | with_reducible refine State.setChan_kept (maskLe (by decide) hw) ?_ _ _
    | split

theorem execDirectionTurn_kept {r b : Bool} {w : Nat} {s0 s : State} (hw : 0x400 ||| w = w) (h : Kept r b w s0 s) :
    ∀ a1, KeptO r b w s0 (execDirectionTurn a1 s) := by
  intro a1
  unfold execDirectionTurn
  repeat' first
    | with_reducible assumption
    | with_reducible apply Kept.ite
    | with_reducible apply KeptO.next
    | with_reducible apply KeptO.ite
    | with_reducible refine State.setLeaf_kept (maskLe (by decide) hw) ?_ _ _

theorem execBudgetWindow_kept {r b : Bool} {w : Nat} {s0 s : State} (hw : 0x2400 ||| w = w) (h : Kept r b w s0 s) :
    ∀ a1, KeptO r b w s0 (execBudgetWindow a1 s) := by
  intro a1
  unfold execBudgetWindow
  repeat' first
    | with_reducible assumption
    | with_reducible apply Kept.ite
    | with_reducible apply KeptO.next
    | with_reducible apply KeptO.ite
    | with_reducible refine State.setArb_kept (maskLe (by decide) hw) ?_ _ _
    | fail_if_no_progress with_reducible refine Kept.upd_leaves (maskLe (by decide) hw) ?_

theorem State.formBeats_kept {r b : Bool} {w : Nat} {s0 : State} (n : Nat) (hw : 0x30e00000a0 ||| w = w) :
    ∀ {s : State}, Kept r b w s0 s → ∀ a2, Kept r b w s0 (State.formBeats n s a2) := by
  induction n with
  | zero =>
    intro s h a2
    exact h
  | succ n ih =>
    intro s h a2
    unfold State.formBeats
    repeat' first
    | with_reducible apply ih
    | with_reducible assumption
    | with_reducible apply Kept.ite
    | with_reducible refine State.patternEvents_kept (maskLe (by decide) hw) ?_ _
    | with_reducible refine State.countAnswer_kept (maskLe (by decide) hw) ?_ _ _
    | with_reducible refine State.setReq_kept (maskLe (by decide) hw) ?_ _ _
    | with_reducible refine State.pushLane_kept (maskLe (by decide) hw) ?_ _ _
    | with_reducible refine State.cntG_kept (maskLe (by decide) hw) ?_ _ _
    | with_reducible refine State.cntT_kept (maskLe (by decide) hw) ?_ _ _ _
    | split

theorem State.toRequest_kept {r b : Bool} {w : Nat} {s0 s : State} (hw : 0x30e05d67a0 ||| w = w) (h : Kept r b w s0 s) :
    ∀ a1 a2 a3 a4, Kept r b w s0 (State.toRequest s a1 a2 a3 a4) := by
  intro a1 a2 a3 a4
  unfold State.toRequest
  repeat' first
    | with_reducible assumption
    | with_reducible apply Kept.ite
    | with_reducible refine State.formBeats_kept _ (maskLe (by decide) hw) ?_ _
    | with_reducible refine State.gatherWords_kept (maskLe (by decide) hw) ?_ _ _
    | with_reducible refine State.freePlaces_kept (maskLe (by decide) hw) ?_ _ _ _
    | with_reducible refine State.dropReq_kept (maskLe (by decide) hw) ?_ _
    | with_reducible refine State.setReq_kept (maskLe (by decide) hw) ?_ _ _
    | split

theorem execReadDataArrival_kept {r b : Bool} {w : Nat} {s0 s : State} (hw : 0x31e15d77a8 ||| w = w) (h : Kept r b w s0 s) :
    ∀ a1 a2, KeptO r b w s0 (execReadDataArrival a1 a2 s) := by
  intro a1 a2
  unfold execReadDataArrival
  repeat' first
    | with_reducible assumption
    | with_reducible apply Kept.ite
    | with_reducible apply KeptO.next
    | with_reducible apply KeptO.ite
    | with_reducible refine State.setLeaf_kept (maskLe (by decide) hw) ?_ _ _
    | with_reducible refine State.mergeRead_kept (maskLe (by decide) hw) ?_ _ _ _
    | with_reducible refine State.readWords_kept (maskLe (by decide) hw) ?_ _ _ _ _ _ _ _ _ _ _
    | with_reducible refine State.toRequest_kept (maskLe (by decide) hw) ?_ _ _ _ _
    | fail_if_no_progress with_reducible refine Kept.upd_lake (maskLe (by decide) hw) ?_
    | (lift_lets -underBinder; intro x; refine Kept.via (r := r) (b := b) (w := w) (s0 := s0) x ?_ ?_;
       on_goal 2 => (clear_value x; intro _); on_goal 1 => try subst x)
    | (lift_lets -underBinder; intro x;
       first
         | (have _ : Pins := x; subst x) | (have _ : _ → State := x; subst x)
         | (have _ : _ → _ → State := x; subst x) | clear_value x)
    | split
    | dsimp only

theorem State.applyRate_kept {r b : Bool} {w : Nat} {s0 s : State} (hw : 0x4400 ||| w = w) (h : Kept r b w s0 s) :
    ∀ a1, Kept r b w s0 (State.applyRate s a1) := by
  intro a1
  unfold State.applyRate
  repeat' first
    | with_reducible assumption
    | with_reducible apply Kept.ite
    | with_reducible refine State.setSck_kept (maskLe (by decide) hw) ?_ _ _
    | fail_if_no_progress with_reducible refine Kept.upd_leaves (maskLe (by decide) hw) ?_

theorem execRefreshTick_kept {r b : Bool} {w : Nat} {s0 s : State} (hw : 0x3060004400 ||| w = w) (h : Kept r b w s0 s) :
    ∀ a1, KeptO r b w s0 (execRefreshTick a1 s) := by
  intro a1
  unfold execRefreshTick
  repeat' first
    | with_reducible assumption
    | with_reducible apply Kept.ite
    | with_reducible apply KeptO.next
    | with_reducible apply KeptO.ite
    | with_reducible refine State.applyRate_kept (maskLe (by decide) hw) ?_ _
    | with_reducible refine State.note_kept (maskLe (by decide) hw) ?_ _ _ _ _
    | with_reducible refine State.setLeaf_kept (maskLe (by decide) hw) ?_ _ _

theorem State.refreshPre_kept {r b : Bool} {w : Nat} {s0 s : State} (hw : 0x400 ||| w = w) (h : Kept r b w s0 s) :
    ∀ a1 a2, Kept r b w s0 (State.refreshPre s a1 a2) := by
  intro a1 a2
  unfold State.refreshPre
  repeat' first
    | with_reducible assumption
    | with_reducible refine State.preRow_kept (maskLe (by decide) hw) ?_ _ _
    | with_reducible refine State.setLeaf_kept (maskLe (by decide) hw) ?_ _ _

theorem State.chargeRefresh_kept {r b : Bool} {w : Nat} {s0 s : State} (hw : 0x12000 ||| w = w) (h : Kept r b w s0 s) :
    ∀ a1 a2 a3, Kept r b w s0 (State.chargeRefresh s a1 a2 a3) := by
  intro a1 a2 a3
  unfold State.chargeRefresh
  repeat' first
    | with_reducible assumption
    | with_reducible apply Kept.ite
    | with_reducible refine State.setArb_kept (maskLe (by decide) hw) ?_ _ _
    | with_reducible refine State.spend_kept (maskLe (by decide) hw) ?_ _ _ _ _

theorem State.rowWon_kept {r b : Bool} {w : Nat} {s0 s : State} (hw : 0x40000 ||| w = w) (h : Kept r b w s0 s) :
    ∀ a1, Kept r b w s0 (State.rowWon s a1) := by
  intro a1
  unfold State.rowWon
  repeat' first
    | with_reducible assumption
    | with_reducible apply Kept.ite
    | with_reducible refine State.setChan_kept (maskLe (by decide) hw) ?_ _ _

theorem execRefpbIssue_kept {r b : Bool} {w : Nat} {s0 s : State} (hw : 0x52400 ||| w = w) (h : Kept r b w s0 s) :
    ∀ a1, KeptO r b w s0 (execRefpbIssue a1 s) := by
  intro a1
  unfold execRefpbIssue
  repeat' first
    | with_reducible assumption
    | with_reducible apply Kept.ite
    | with_reducible apply KeptO.next
    | with_reducible apply KeptO.ite
    | with_reducible refine State.rowWon_kept (maskLe (by decide) hw) ?_ _
    | with_reducible refine State.chargeRefresh_kept (maskLe (by decide) hw) ?_ _ _ _
    | with_reducible refine State.refreshPre_kept (maskLe (by decide) hw) ?_ _ _
    | with_reducible refine State.claims_kept (maskLe (by decide) hw) ?_ _
    | with_reducible refine State.setLeaf_kept (maskLe (by decide) hw) ?_ _ _
    | split

theorem execRowCounterAgeing_kept {r b : Bool} {w : Nat} {s0 s : State} (hw : 0x4800 ||| w = w) (h : Kept r b w s0 s) :
    ∀ a1, KeptO r b w s0 (execRowCounterAgeing a1 s) := by
  intro a1
  unfold execRowCounterAgeing
  repeat' first
    | with_reducible assumption
    | with_reducible apply Kept.ite
    | with_reducible apply KeptO.next
    | with_reducible apply KeptO.ite
    | with_reducible refine State.ageDue_kept (maskLe (by decide) hw) ?_ _ _

theorem execMitigation_kept {r b : Bool} {w : Nat} {s0 s : State} (hw : 0x52c00 ||| w = w) (h : Kept r b w s0 s) :
    ∀ a1, KeptO r b w s0 (execMitigation a1 s) := by
  intro a1
  unfold execMitigation
  repeat' first
    | with_reducible assumption
    | with_reducible apply Kept.ite
    | with_reducible apply KeptO.next
    | with_reducible apply KeptO.ite
    | with_reducible refine State.rowWon_kept (maskLe (by decide) hw) ?_ _
    | with_reducible refine State.chargeRefresh_kept (maskLe (by decide) hw) ?_ _ _ _
    | with_reducible refine State.refreshPre_kept (maskLe (by decide) hw) ?_ _ _
    | with_reducible refine State.claims_kept (maskLe (by decide) hw) ?_ _
    | with_reducible refine State.setProt_kept (maskLe (by decide) hw) ?_ _ _
    | with_reducible refine State.setLeaf_kept (maskLe (by decide) hw) ?_ _ _
    | (lift_lets -underBinder; intro x; refine Kept.via (r := r) (b := b) (w := w) (s0 := s0) x ?_ ?_;
       on_goal 2 => (clear_value x; intro _); on_goal 1 => try subst x)
    | (lift_lets -underBinder; intro x;
       first
         | (have _ : Pins := x; subst x) | (have _ : _ → State := x; subst x)
         | (have _ : _ → _ → State := x; subst x) | clear_value x)
    | split
    | dsimp only

theorem execSpillSweep_kept {r b : Bool} {w : Nat} {s0 s : State} (hw : 0x3060052c00 ||| w = w) (h : Kept r b w s0 s) :
    ∀ a1, KeptO r b w s0 (execSpillSweep a1 s) := by
  intro a1
  unfold execSpillSweep
  repeat' first
    | with_reducible assumption
    | with_reducible apply Kept.ite
    | with_reducible apply KeptO.next
    | with_reducible apply KeptO.ite
    | with_reducible refine State.rowWon_kept (maskLe (by decide) hw) ?_ _
    | with_reducible refine State.chargeRefresh_kept (maskLe (by decide) hw) ?_ _ _ _
    | with_reducible refine State.refreshPre_kept (maskLe (by decide) hw) ?_ _ _
    | with_reducible refine State.claims_kept (maskLe (by decide) hw) ?_ _
    | with_reducible refine State.note_kept (maskLe (by decide) hw) ?_ _ _ _ _
    | with_reducible refine State.tally_kept (maskLe (by decide) hw) ?_ _ _ _ _
    | with_reducible refine State.setProt_kept (maskLe (by decide) hw) ?_ _ _
    | with_reducible refine State.setLeaf_kept (maskLe (by decide) hw) ?_ _ _
    | split

theorem execSpillSweepForce_kept {r b : Bool} {w : Nat} {s0 s : State} (hw : 0x400 ||| w = w) (h : Kept r b w s0 s) :
    ∀ a1, KeptO r b w s0 (execSpillSweepForce a1 s) := by
  intro a1
  unfold execSpillSweepForce
  repeat' first
    | with_reducible assumption
    | with_reducible apply Kept.ite
    | with_reducible apply KeptO.next
    | with_reducible apply KeptO.ite
    | with_reducible refine State.setLeaf_kept (maskLe (by decide) hw) ?_ _ _

theorem State.ticketQueued_kept {r b : Bool} {w : Nat} {s0 s : State} (hw : 0x1000000 ||| w = w) (h : Kept r b w s0 s) :
    ∀ a1, Kept r b w s0 (State.ticketQueued s a1) := by
  intro a1
  unfold State.ticketQueued
  repeat' first
    | with_reducible assumption
    | with_reducible refine State.complete_kept (maskLe (by decide) hw) ?_ _ _ _ _ _ _
    | split

theorem State.placeReq_kept {r b : Bool} {w : Nat} {s0 s : State} (hw : 0x57600 ||| w = w) (h : Kept r b w s0 s) :
    ∀ a1 a2 a3, Kept r b w s0 (State.placeReq s a1 a2 a3) := by
  intro a1 a2 a3
  unfold State.placeReq
  repeat' first
    | with_reducible assumption
    | with_reducible apply Kept.ite
    | with_reducible refine State.closeAll_kept (maskLe (by decide) hw) ?_ _
    | with_reducible refine State.feedZero_kept (maskLe (by decide) hw) ?_ _
    | with_reducible refine State.setChan_kept (maskLe (by decide) hw) ?_ _ _
    | with_reducible refine State.setCare_kept (maskLe (by decide) hw) ?_ _ _
    | (lift_lets -underBinder; intro x; refine Kept.via (r := r) (b := b) (w := w) (s0 := s0) x ?_ ?_;
       on_goal 2 => (clear_value x; intro _); on_goal 1 => try subst x)
    | (lift_lets -underBinder; intro x;
       first
         | (have _ : Pins := x; subst x) | (have _ : _ → State := x; subst x)
         | (have _ : _ → _ → State := x; subst x) | clear_value x)
    | split
    | with_reducible refine Kept.foldl (fun _ _ _ => ?_) _ _ ?_

theorem State.retrainOver_kept {r b : Bool} {w : Nat} {s0 s : State} (hw : 0x7040004 ||| w = w) (h : Kept r b w s0 s) :
    ∀ a1 a2, Kept r b w s0 (State.retrainOver s a1 a2) := by
  intro a1 a2
  unfold State.retrainOver
  repeat' first
    | with_reducible assumption
    | with_reducible apply Kept.ite
    | with_reducible refine State.setChan_kept (maskLe (by decide) hw) ?_ _ _
    | with_reducible refine State.finish_kept (maskLe (by decide) hw) ?_ _ _ _ _
    | fail_if_no_progress with_reducible refine Kept.upd_tickets (maskLe (by decide) hw) ?_
    | (lift_lets -underBinder; intro x; refine Kept.via (r := r) (b := b) (w := w) (s0 := s0) x ?_ ?_;
       on_goal 2 => (clear_value x; intro _); on_goal 1 => try subst x)
    | (lift_lets -underBinder; intro x;
       first
         | (have _ : Pins := x; subst x) | (have _ : _ → State := x; subst x)
         | (have _ : _ → _ → State := x; subst x) | clear_value x)
    | split
    | with_reducible refine Kept.foldl (fun _ _ _ => ?_) _ _ ?_

theorem State.refuseReq_kept {r b : Bool} {w : Nat} {s0 s : State} (hw : 0x87041004 ||| w = w) (h : Kept r b w s0 s) :
    ∀ a1 a2, Kept r b w s0 (State.refuseReq s a1 a2) := by
  intro a1 a2
  unfold State.refuseReq
  repeat' first
    | with_reducible assumption
    | with_reducible apply Kept.ite
    | with_reducible refine State.finish_kept (maskLe (by decide) hw) ?_ _ _ _ _
    | with_reducible refine State.maint_kept (maskLe (by decide) hw) ?_ _ _
    | with_reducible refine State.setCare_kept (maskLe (by decide) hw) ?_ _ _
    | with_reducible refine State.retrainOver_kept (maskLe (by decide) hw) ?_ _ _

theorem State.checkMReq_kept {r b : Bool} {w : Nat} {s0 s : State} (hw : 0x87057604 ||| w = w) (h : Kept r b w s0 s) :
    ∀ a1 a2, Kept r b w s0 (State.checkMReq s a1 a2) := by
  intro a1 a2
  unfold State.checkMReq
  repeat' first
    | with_reducible assumption
    | with_reducible apply Kept.ite
    | with_reducible refine State.refuseReq_kept (maskLe (by decide) hw) ?_ _ _
    | with_reducible refine State.ticketQueued_kept (maskLe (by decide) hw) ?_ _
    | with_reducible refine State.placeReq_kept (maskLe (by decide) hw) ?_ _ _ _

theorem execMaintenanceStart_kept {r b : Bool} {w : Nat} {s0 s : State} (hw : 0x87057604 ||| w = w) (h : Kept r b w s0 s) :
    ∀ a1 a2, KeptO r b w s0 (execMaintenanceStart a1 a2 s) := by
  intro a1 a2
  unfold execMaintenanceStart
  repeat' first
    | with_reducible assumption
    | with_reducible apply Kept.ite
    | with_reducible apply KeptO.next
    | with_reducible apply KeptO.ite
    | with_reducible refine State.checkMReq_kept (maskLe (by decide) hw) ?_ _ _
    | with_reducible refine State.setCare_kept (maskLe (by decide) hw) ?_ _ _
    | (lift_lets -underBinder; intro x; refine Kept.via (r := r) (b := b) (w := w) (s0 := s0) x ?_ ?_;
       on_goal 2 => (clear_value x; intro _); on_goal 1 => try subst x)
    | (lift_lets -underBinder; intro x;
       first
         | (have _ : Pins := x; subst x) | (have _ : _ → State := x; subst x)
         | (have _ : _ → _ → State := x; subst x) | clear_value x)
    | split
    | with_reducible refine Kept.foldl (fun _ _ _ => ?_) _ _ ?_

theorem State.endReq_kept {r b : Bool} {w : Nat} {s0 s : State} (hw : 0x7000004 ||| w = w) (h : Kept r b w s0 s) :
    ∀ a1, Kept r b w s0 (State.endReq s a1) := by
  intro a1
  unfold State.endReq
  repeat' first
    | with_reducible assumption
    | with_reducible apply Kept.ite
    | with_reducible refine State.finish_kept (maskLe (by decide) hw) ?_ _ _ _ _

theorem State.recheck_kept {r b : Bool} {w : Nat} {s0 : State} (n : Nat) (hw : 0x57600 ||| w = w) :
    ∀ {s : State}, Kept r b w s0 s → ∀ a2, Kept r b w s0 (State.recheck n s a2) := by
  induction n with
  | zero =>
    intro s h a2
    exact h
  | succ n ih =>
    intro s h a2
    unfold State.recheck
    repeat' first
    | with_reducible apply ih
    | with_reducible assumption
    | with_reducible apply Kept.ite
    | with_reducible refine State.placeReq_kept (maskLe (by decide) hw) ?_ _ _ _
    | with_reducible refine State.setCare_kept (maskLe (by decide) hw) ?_ _ _
    | split
    | with_reducible refine Kept.foldl (fun _ _ _ => ?_) _ _ ?_

theorem State.endAct_kept {r b : Bool} {w : Nat} {s0 s : State} (hw : 0x7057604 ||| w = w) (h : Kept r b w s0 s) :
    ∀ a1 a2, Kept r b w s0 (State.endAct s a1 a2) := by
  intro a1 a2
  unfold State.endAct
  repeat' first
    | with_reducible assumption
    | with_reducible apply Kept.ite
    | with_reducible refine State.recheck_kept _ (maskLe (by decide) hw) ?_ _
    | with_reducible refine State.endReq_kept (maskLe (by decide) hw) ?_ _
    | with_reducible refine State.setChan_kept (maskLe (by decide) hw) ?_ _ _
    | with_reducible refine State.setCare_kept (maskLe (by decide) hw) ?_ _ _
    | (lift_lets -underBinder; intro x; refine Kept.via (r := r) (b := b) (w := w) (s0 := s0) x ?_ ?_;
       on_goal 2 => (clear_value x; intro _); on_goal 1 => try subst x)
    | (lift_lets -underBinder; intro x;
       first
         | (have _ : Pins := x; subst x) | (have _ : _ → State := x; subst x)
         | (have _ : _ → _ → State := x; subst x) | clear_value x)
    | split
    | with_reducible refine Kept.foldl (fun _ _ _ => ?_) _ _ ?_

theorem execMaintenanceEnd_kept {r b : Bool} {w : Nat} {s0 s : State} (hw : 0x7057604 ||| w = w) (h : Kept r b w s0 s) :
    ∀ a1 a2, KeptO r b w s0 (execMaintenanceEnd a1 a2 s) := by
  intro a1 a2
  unfold execMaintenanceEnd
  repeat' first
    | with_reducible assumption
    | with_reducible apply Kept.ite
    | with_reducible apply KeptO.next
    | with_reducible apply KeptO.ite
    | with_reducible refine State.endAct_kept (maskLe (by decide) hw) ?_ _ _
    | split

theorem State.chargeAb_kept {r b : Bool} {w : Nat} {s0 s : State} (hw : 0x12000 ||| w = w) (h : Kept r b w s0 s) :
    ∀ a1 a2, Kept r b w s0 (State.chargeAb s a1 a2) := by
  intro a1 a2
  unfold State.chargeAb
  repeat' first
    | with_reducible assumption
    | with_reducible refine State.setArb_kept (maskLe (by decide) hw) ?_ _ _
    | with_reducible refine State.spend_kept (maskLe (by decide) hw) ?_ _ _ _ _

theorem State.openGap_kept {r b : Bool} {w : Nat} {s0 s : State} (hw : 0x52400 ||| w = w) (h : Kept r b w s0 s) :
    ∀ a1, Kept r b w s0 (State.openGap s a1) := by
  intro a1
  unfold State.openGap
  repeat' first
    | with_reducible assumption
    | with_reducible apply Kept.ite
    | with_reducible refine State.chargeAb_kept (maskLe (by decide) hw) ?_ _ _
    | with_reducible refine State.setChan_kept (maskLe (by decide) hw) ?_ _ _
    | with_reducible refine State.setLeaf_kept (maskLe (by decide) hw) ?_ _ _
    | split
    | with_reducible refine Kept.foldl (fun _ _ _ => ?_) _ _ ?_

theorem State.copyRow_kept {r b : Bool} {w : Nat} {s0 s : State} (hw : 0x31e1457628 ||| w = w) (h : Kept r b w s0 s) :
    ∀ a1 a2 a3 a4, Kept r b w s0 (State.copyRow s a1 a2 a3 a4) := by
  intro a1 a2 a3 a4
  unfold State.copyRow
  repeat' first
    | with_reducible assumption
    | with_reducible apply Kept.ite
    | with_reducible refine State.readWords_kept (maskLe (by decide) hw) ?_ _ _ _ _ _ _ _ _ _ _
    | with_reducible refine State.closeFor_kept (maskLe (by decide) hw) ?_ _ _
    | with_reducible refine State.spend_kept (maskLe (by decide) hw) ?_ _ _ _ _
    | with_reducible refine State.storeWords_kept (maskLe (by decide) hw) ?_ _ _ _

theorem State.calNext_kept {r b : Bool} {w : Nat} {s0 s : State} (hw : 0x7001004 ||| w = w) (h : Kept r b w s0 s) :
    ∀ a1, Kept r b w s0 (State.calNext s a1) := by
  intro a1
  unfold State.calNext
  repeat' first
    | with_reducible assumption
    | with_reducible apply Kept.ite
    | with_reducible refine State.setCare_kept (maskLe (by decide) hw) ?_ _ _
    | with_reducible refine State.endReq_kept (maskLe (by decide) hw) ?_ _
    | (lift_lets -underBinder; intro x; refine Kept.via (r := r) (b := b) (w := w) (s0 := s0) x ?_ ?_;
       on_goal 2 => (clear_value x; intro _); on_goal 1 => try subst x)
    | (lift_lets -underBinder; intro x;
       first
         | (have _ : Pins := x; subst x) | (have _ : _ → State := x; subst x)
         | (have _ : _ → _ → State := x; subst x) | clear_value x)
    | split
    | with_reducible refine Kept.foldl (fun _ _ _ => ?_) _ _ ?_

theorem execCalenderVisit_kept {r b : Bool} {w : Nat} {s0 s : State} (hw : 0x31e7457e2c ||| w = w) (h : Kept r b w s0 s) :
    ∀ a1 a2, KeptO r b w s0 (execCalenderVisit a1 a2 s) := by
  intro a1 a2
  unfold execCalenderVisit
  repeat' first
    | with_reducible assumption
    | with_reducible apply Kept.ite
    | with_reducible apply KeptO.next
    | with_reducible apply KeptO.ite
    | with_reducible refine State.calNext_kept (maskLe (by decide) hw) ?_ _
    | with_reducible refine State.rowWon_kept (maskLe (by decide) hw) ?_ _
    | with_reducible refine State.touchRow_kept (maskLe (by decide) hw) ?_ _ _ _ _
    | with_reducible refine State.readWords_kept (maskLe (by decide) hw) ?_ _ _ _ _ _ _ _ _ _ _
    | with_reducible refine State.closeFor_kept (maskLe (by decide) hw) ?_ _ _
    | with_reducible refine State.spend_kept (maskLe (by decide) hw) ?_ _ _ _ _
    | with_reducible refine State.tally_kept (maskLe (by decide) hw) ?_ _ _ _ _
    | with_reducible refine State.setArb_kept (maskLe (by decide) hw) ?_ _ _
    | with_reducible refine State.setCare_kept (maskLe (by decide) hw) ?_ _ _

theorem execCalenderEscalate_kept {r b : Bool} {w : Nat} {s0 s : State} (hw : 0x80001000 ||| w = w) (h : Kept r b w s0 s) :
    ∀ a1, KeptO r b w s0 (execCalenderEscalate a1 s) := by
  intro a1
  unfold execCalenderEscalate
  repeat' first
    | with_reducible assumption
    | with_reducible apply Kept.ite
    | with_reducible apply KeptO.next
    | with_reducible apply KeptO.ite
    | with_reducible refine State.maint_kept (maskLe (by decide) hw) ?_ _ _
    | with_reducible refine State.setCare_kept (maskLe (by decide) hw) ?_ _ _

theorem execHeal_kept {r b : Bool} {w : Nat} {s0 s : State} (hw : 0x31e1457e28 ||| w = w) (h : Kept r b w s0 s) :
    ∀ a1 a2, KeptO r b w s0 (execHeal a1 a2 s) := by
  intro a1 a2
  unfold execHeal
  repeat' first
    | with_reducible assumption
    | with_reducible apply Kept.ite
    | with_reducible apply KeptO.next
    | with_reducible apply KeptO.ite
    | with_reducible refine State.copyRow_kept (maskLe (by decide) hw) ?_ _ _ _ _
    | with_reducible refine State.rowWon_kept (maskLe (by decide) hw) ?_ _
    | with_reducible refine State.touchRow_kept (maskLe (by decide) hw) ?_ _ _ _ _
    | with_reducible refine State.setCare_kept (maskLe (by decide) hw) ?_ _ _
    | split

theorem execRowRepair_kept {r b : Bool} {w : Nat} {s0 s : State} (hw : 0x31e1477e28 ||| w = w) (h : Kept r b w s0 s) :
    ∀ a1 a2 a3, KeptO r b w s0 (execRowRepair a1 a2 a3 s) := by
  intro a1 a2 a3
  unfold execRowRepair
  repeat' first
    | with_reducible assumption
    | with_reducible apply Kept.ite
    | with_reducible apply KeptO.next
    | with_reducible apply KeptO.ite
    | with_reducible refine State.copyRow_kept (maskLe (by decide) hw) ?_ _ _ _ _
    | with_reducible refine State.openGap_kept (maskLe (by decide) hw) ?_ _
    | with_reducible refine State.maintSlots_kept (maskLe (by decide) hw) ?_ _ _
    | with_reducible refine State.rowCount_kept (maskLe (by decide) hw) ?_ _ _ _
    | with_reducible refine State.addMap_kept (maskLe (by decide) hw) ?_ _
    | with_reducible refine State.setChan_kept (maskLe (by decide) hw) ?_ _ _
    | with_reducible refine State.setSup_kept (maskLe (by decide) hw) ?_ _ _
    | with_reducible refine State.setCare_kept (maskLe (by decide) hw) ?_ _ _
    | split

theorem execLaneRepair_kept {r b : Bool} {w : Nat} {s0 s : State} (hw : 0x31e1441028 ||| w = w) (h : Kept r b w s0 s) :
    ∀ a1 a2, KeptO r b w s0 (execLaneRepair a1 a2 s) := by
  intro a1 a2
  unfold execLaneRepair
  repeat' first
    | with_reducible assumption
    | with_reducible apply Kept.ite
    | with_reducible apply KeptO.next
    | with_reducible apply KeptO.ite
    | with_reducible refine State.setCare_kept (maskLe (by decide) hw) ?_ _ _
    | with_reducible refine State.leafLost_kept (maskLe (by decide) hw) ?_ _
    | with_reducible refine State.setChan_kept (maskLe (by decide) hw) ?_ _ _
    | with_reducible refine State.addMap_kept (maskLe (by decide) hw) ?_ _
    | with_reducible refine State.requestRetrain_kept (maskLe (by decide) hw) ?_ _ _ _
    | (lift_lets -underBinder; intro x; refine Kept.via (r := r) (b := b) (w := w) (s0 := s0) x ?_ ?_;
       on_goal 2 => (clear_value x; intro _); on_goal 1 => try subst x)
    | (lift_lets -underBinder; intro x;
       first
         | (have _ : Pins := x; subst x) | (have _ : _ → State := x; subst x)
         | (have _ : _ → _ → State := x; subst x) | clear_value x)
    | split
    | with_reducible refine Kept.foldl (fun _ _ _ => ?_) _ _ ?_

theorem State.wrote_kept {r b : Bool} {w : Nat} {s0 s : State} (hw : 0x4 ||| w = w) (h : Kept r b w s0 s) :
    Kept r b w s0 (State.wrote s) := by
  unfold State.wrote
  repeat' first
    | with_reducible assumption
    | with_reducible apply Kept.ite
    | fail_if_no_progress with_reducible refine Kept.upd_boot (maskLe (by decide) hw) ?_

theorem State.stored_kept {r b : Bool} {w : Nat} {s0 s : State} (hw : 0x87000004 ||| w = w) (h : Kept r b w s0 s) :
    ∀ a1, Kept r b w s0 (State.stored s a1) := by
  intro a1
  unfold State.stored
  repeat' first
    | with_reducible assumption
    | with_reducible apply Kept.ite
    | with_reducible refine State.maint_kept (maskLe (by decide) hw) ?_ _ _
    | with_reducible refine State.finish_kept (maskLe (by decide) hw) ?_ _ _ _ _
    | fail_if_no_progress with_reducible refine Kept.upd_regs (maskLe (by decide) hw) ?_
    | fail_if_no_progress with_reducible refine Kept.upd_boot (maskLe (by decide) hw) ?_
    | (lift_lets -underBinder; intro x; refine Kept.via (r := r) (b := b) (w := w) (s0 := s0) x ?_ ?_;
       on_goal 2 => (clear_value x; intro _); on_goal 1 => try subst x)
    | (lift_lets -underBinder; intro x;
       first
         | (have _ : Pins := x; subst x) | (have _ : _ → State := x; subst x)
         | (have _ : _ → _ → State := x; subst x) | clear_value x)
    | split
    | with_reducible refine Kept.foldl (fun _ _ _ => ?_) _ _ ?_
    | dsimp only

theorem State.storeFailed_kept {r b : Bool} {w : Nat} {s0 s : State} (hw : 0x4 ||| w = w) (h : Kept r b w s0 s) :
    ∀ a1, Kept r b w s0 (State.storeFailed s a1) := by
  intro a1
  unfold State.storeFailed
  repeat' first
    | with_reducible assumption
    | with_reducible apply Kept.ite
    | fail_if_no_progress with_reducible refine Kept.upd_boot (maskLe (by decide) hw) ?_

theorem execRepairMapStore_kept {r b : Bool} {w : Nat} {s0 s : State} (hw : 0x187000004 ||| w = w) (h : Kept r b w s0 s) :
    KeptO r b w s0 (execRepairMapStore s) := by
  unfold execRepairMapStore
  repeat' first
    | with_reducible assumption
    | with_reducible apply KeptO.next
    | with_reducible refine State.stored_kept (maskLe (by decide) hw) ?_ _
    | fail_if_no_progress with_reducible refine Kept.upd_stores (maskLe (by decide) hw) ?_
    | split

theorem execNvRecordStore_kept {r b : Bool} {w : Nat} {s0 s : State} (hw : 0x31e7000004 ||| w = w) (h : Kept r b w s0 s) :
    ∀ a1 a2, KeptO r b w s0 (execNvRecordStore a1 a2 s) := by
  intro a1 a2
  unfold execNvRecordStore
  repeat' first
    | with_reducible assumption
    | with_reducible apply Kept.ite
    | with_reducible apply KeptO.next
    | with_reducible apply KeptO.ite
    | with_reducible refine State.storeFailed_kept (maskLe (by decide) hw) ?_ _
    | with_reducible refine State.stored_kept (maskLe (by decide) hw) ?_ _
    | with_reducible refine State.finish_kept (maskLe (by decide) hw) ?_ _ _ _ _
    | with_reducible refine State.note_kept (maskLe (by decide) hw) ?_ _ _ _ _
    | fail_if_no_progress with_reducible refine Kept.upd_stores (maskLe (by decide) hw) ?_
    | split

theorem execCaParityError_kept {r b : Bool} {w : Nat} {s0 s : State} (hw : 0x3060041000 ||| w = w) (h : Kept r b w s0 s) :
    ∀ a1, KeptO r b w s0 (execCaParityError a1 s) := by
  intro a1
  unfold execCaParityError
  repeat' first
    | with_reducible assumption
    | with_reducible apply Kept.ite
    | with_reducible apply KeptO.next
    | with_reducible apply KeptO.ite
    | with_reducible refine State.note_kept (maskLe (by decide) hw) ?_ _ _ _ _
    | with_reducible refine State.setChan_kept (maskLe (by decide) hw) ?_ _ _
    | with_reducible refine State.requestRetrain_kept (maskLe (by decide) hw) ?_ _ _ _

end Sys2Proof.Machine
end

