-- ==== Sys2Proof/Laws/KeptUnits.lean ====
section
/-! SUPPORT. What the functions of Calib, LakeEvents, Sleep, OpPoint, Fabric, Feeder, Port, Outage, Heat, PowerCap, Shaping
keep and may change: one lemma each, in the order of their calls. -/

namespace Sys2Proof.Machine

theorem State.trainRows_kept {r b : Bool} {w : Nat} {s0 s : State} (hw : 0x31e1457e28 ||| w = w) (h : Kept r b w s0 s) :
    ∀ a1, Kept r b w s0 (State.trainRows s a1) := by
  intro a1
  unfold State.trainRows
  repeat' first
    | with_reducible assumption
    | with_reducible apply Kept.ite
    | with_reducible refine State.copyRow_kept (maskLe (by decide) hw) ?_ _ _ _ _
    | with_reducible refine State.maintSlots_kept (maskLe (by decide) hw) ?_ _ _
    | with_reducible refine State.rowCount_kept (maskLe (by decide) hw) ?_ _ _ _
    | with_reducible refine Kept.foldl (fun _ _ _ => ?_) _ _ ?_

theorem execRetrainStep_kept {r b : Bool} {w : Nat} {s0 s : State} (hw : 0x31e1457e28 ||| w = w) (h : Kept r b w s0 s) :
    ∀ a1, KeptO r b w s0 (execRetrainStep a1 s) := by
  intro a1
  unfold execRetrainStep
  repeat' first
    | with_reducible assumption
    | with_reducible apply Kept.ite
    | with_reducible apply KeptO.next
    | with_reducible apply KeptO.ite
    | with_reducible refine State.trainRows_kept (maskLe (by decide) hw) ?_ _
    | with_reducible refine State.openGap_kept (maskLe (by decide) hw) ?_ _
    | with_reducible refine State.setChan_kept (maskLe (by decide) hw) ?_ _ _
    | (lift_lets -underBinder; intro x; refine Kept.via (r := r) (b := b) (w := w) (s0 := s0) x ?_ ?_;
       on_goal 2 => (clear_value x; intro _); on_goal 1 => try subst x)
    | (lift_lets -underBinder; intro x;
       first
         | (have _ : Pins := x; subst x) | (have _ : _ → State := x; subst x)
         | (have _ : _ → _ → State := x; subst x) | clear_value x)
    | split

theorem State.endStep_kept {r b : Bool} {w : Nat} {s0 s : State} (hw : 0x40000 ||| w = w) (h : Kept r b w s0 s) :
    ∀ a1, Kept r b w s0 (State.endStep s a1) := by
  intro a1
  unfold State.endStep
  repeat' first
    | with_reducible assumption
    | with_reducible refine State.setChan_kept (maskLe (by decide) hw) ?_ _ _

theorem execRetrainStepAbandon_kept {r b : Bool} {w : Nat} {s0 s : State} (hw : 0x40000 ||| w = w) (h : Kept r b w s0 s) :
    ∀ a1, KeptO r b w s0 (execRetrainStepAbandon a1 s) := by
  intro a1
  unfold execRetrainStepAbandon
  repeat' first
    | with_reducible assumption
    | with_reducible apply Kept.ite
    | with_reducible apply KeptO.next
    | with_reducible apply KeptO.ite
    | with_reducible refine State.setChan_kept (maskLe (by decide) hw) ?_ _ _
    | (lift_lets -underBinder; intro x; refine Kept.via (r := r) (b := b) (w := w) (s0 := s0) x ?_ ?_;
       on_goal 2 => (clear_value x; intro _); on_goal 1 => try subst x)
    | (lift_lets -underBinder; intro x;
       first
         | (have _ : Pins := x; subst x) | (have _ : _ → State := x; subst x)
         | (have _ : _ → _ → State := x; subst x) | clear_value x)
    | split

theorem execRetrainDone_kept {r b : Bool} {w : Nat} {s0 s : State} (hw : 0x3067041014 ||| w = w) (h : Kept r b w s0 s) :
    ∀ a1 a2, KeptO r b w s0 (execRetrainDone a1 a2 s) := by
  intro a1 a2
  unfold execRetrainDone
  repeat' first
    | with_reducible assumption
    | with_reducible apply Kept.ite
    | with_reducible apply KeptO.next
    | with_reducible apply KeptO.ite
    | with_reducible refine State.retrainOver_kept (maskLe (by decide) hw) ?_ _ _
    | with_reducible refine State.ownSet_kept (maskLe (by decide) hw) ?_ _
    | with_reducible refine State.request_kept (maskLe (by decide) hw) ?_ _ _
    | with_reducible refine State.note_kept (maskLe (by decide) hw) ?_ _ _ _ _
    | with_reducible refine State.setChan_kept (maskLe (by decide) hw) ?_ _ _
    | split
    | with_reducible refine Kept.foldl (fun _ _ _ => ?_) _ _ ?_

theorem State.putCal_kept {r b : Bool} {w : Nat} {s0 s : State} (hw : 0x40000 ||| w = w) (h : Kept r b w s0 s) :
    ∀ a1 a2, Kept r b w s0 (State.putCal s a1 a2) := by
  intro a1 a2
  unfold State.putCal
  repeat' first
    | with_reducible assumption
    | with_reducible apply Kept.ite
    | with_reducible refine State.setChan_kept (maskLe (by decide) hw) ?_ _ _

theorem execCalibrationApply_kept {r b : Bool} {w : Nat} {s0 s : State} (hw : 0x7052404 ||| w = w) (h : Kept r b w s0 s) :
    ∀ a1, KeptO r b w s0 (execCalibrationApply a1 s) := by
  intro a1
  unfold execCalibrationApply
  repeat' first
    | with_reducible assumption
    | with_reducible apply Kept.ite
    | with_reducible apply KeptO.next
    | with_reducible apply KeptO.ite
    | with_reducible refine State.putCal_kept (maskLe (by decide) hw) ?_ _ _
    | with_reducible refine State.openGap_kept (maskLe (by decide) hw) ?_ _
    | with_reducible refine State.retrainOver_kept (maskLe (by decide) hw) ?_ _ _
    | with_reducible refine State.setChan_kept (maskLe (by decide) hw) ?_ _ _
    | (lift_lets -underBinder; intro x; refine Kept.via (r := r) (b := b) (w := w) (s0 := s0) x ?_ ?_;
       on_goal 2 => (clear_value x; intro _); on_goal 1 => try subst x)
    | (lift_lets -underBinder; intro x;
       first
         | (have _ : Pins := x; subst x) | (have _ : _ → State := x; subst x)
         | (have _ : _ → _ → State := x; subst x) | clear_value x)
    | split

theorem execMarginEvaluation_kept {r b : Bool} {w : Nat} {s0 s : State} (hw : 0x41000 ||| w = w) (h : Kept r b w s0 s) :
    ∀ a1 a2 a3, KeptO r b w s0 (execMarginEvaluation a1 a2 a3 s) := by
  intro a1 a2 a3
  unfold execMarginEvaluation
  repeat' first
    | with_reducible assumption
    | with_reducible apply Kept.ite
    | with_reducible apply KeptO.next
    | with_reducible apply KeptO.ite
    | with_reducible refine State.setChan_kept (maskLe (by decide) hw) ?_ _ _
    | with_reducible refine State.requestRetrain_kept (maskLe (by decide) hw) ?_ _ _ _

theorem execLoadWindow_kept {r b : Bool} {w : Nat} {s0 s : State} (hw : 0x51000 ||| w = w) (h : Kept r b w s0 s) :
    ∀ a1, KeptO r b w s0 (execLoadWindow a1 s) := by
  intro a1
  unfold execLoadWindow
  repeat' first
    | with_reducible assumption
    | with_reducible apply Kept.ite
    | with_reducible apply KeptO.next
    | with_reducible apply KeptO.ite
    | with_reducible refine State.setPow_kept (maskLe (by decide) hw) ?_ _ _
    | with_reducible refine State.requestRetrain_kept (maskLe (by decide) hw) ?_ _ _ _
    | with_reducible refine State.setChan_kept (maskLe (by decide) hw) ?_ _ _
    | split
    | with_reducible refine Kept.foldl (fun _ _ _ => ?_) _ _ ?_

theorem execMergeEntryTimeout_kept {r b : Bool} {w : Nat} {s0 s : State} (hw : 0x57600 ||| w = w) (h : Kept r b w s0 s) :
    ∀ a1, KeptO r b w s0 (execMergeEntryTimeout a1 s) := by
  intro a1
  unfold execMergeEntryTimeout
  repeat' first
    | with_reducible assumption
    | with_reducible apply Kept.ite
    | with_reducible apply KeptO.next
    | with_reducible apply KeptO.ite
    | with_reducible refine State.flushEnt_kept (maskLe (by decide) hw) ?_ _ _
    | split

theorem State.lakeWrite_kept {r b : Bool} {w : Nat} {s0 s : State} (hw : 0x7060457622 ||| w = w) (h : Kept r b w s0 s) :
    ∀ a1 a2 a3 a4 a5 a6 a7 a8 a9 a10 a11 a12 a13, Kept r b w s0 (State.lakeWrite s a1 a2 a3 a4 a5 a6 a7 a8 a9 a10 a11 a12 a13) := by
  intro a1 a2 a3 a4 a5 a6 a7 a8 a9 a10 a11 a12 a13
  unfold State.lakeWrite
  repeat' first
    | with_reducible assumption
    | with_reducible apply Kept.ite
    | with_reducible refine State.digest_kept (maskLe (by decide) hw) ?_ _ _ _ _ _
    | with_reducible refine State.mergeBurst_kept (maskLe (by decide) hw) ?_ _ _ _ _ _ _ _ _ _ _ _
    | with_reducible refine State.enqueue_kept (maskLe (by decide) hw) ?_ _ _
    | with_reducible refine State.cntT_kept (maskLe (by decide) hw) ?_ _ _ _
    | split
    | with_reducible refine Kept.foldl (fun _ _ _ => ?_) _ _ ?_

theorem execAccuUpdate_kept {r b : Bool} {w : Nat} {s0 s : State} (hw : 0x7060457622 ||| w = w) (h : Kept r b w s0 s) :
    ∀ a1, KeptO r b w s0 (execAccuUpdate a1 s) := by
  intro a1
  unfold execAccuUpdate
  repeat' first
    | with_reducible assumption
    | with_reducible apply Kept.ite
    | with_reducible apply KeptO.next
    | with_reducible apply KeptO.ite
    | with_reducible refine State.lakeWrite_kept (maskLe (by decide) hw) ?_ _ _ _ _ _ _ _ _ _ _ _ _ _
    | with_reducible refine State.askAccu_kept (maskLe (by decide) hw) ?_
    | fail_if_no_progress with_reducible refine Kept.upd_lake (maskLe (by decide) hw) ?_
    | (lift_lets -underBinder; intro x; refine Kept.via (r := r) (b := b) (w := w) (s0 := s0) x ?_ ?_;
       on_goal 2 => (clear_value x; intro _); on_goal 1 => try subst x)
    | (lift_lets -underBinder; intro x;
       first
         | (have _ : Pins := x; subst x) | (have _ : _ → State := x; subst x)
         | (have _ : _ → _ → State := x; subst x) | clear_value x)
    | split

theorem State.closeTile_kept {r b : Bool} {w : Nat} {s0 s : State} (hw : 0x7060457622 ||| w = w) (h : Kept r b w s0 s) :
    ∀ a1 a2 a3 a4 a5, Kept r b w s0 (State.closeTile s a1 a2 a3 a4 a5) := by
  intro a1 a2 a3 a4 a5
  unfold State.closeTile
  repeat' first
    | with_reducible assumption
    | with_reducible apply Kept.ite
    | with_reducible refine State.lakeWrite_kept (maskLe (by decide) hw) ?_ _ _ _ _ _ _ _ _ _ _ _ _ _
    | with_reducible refine State.tileNote_kept (maskLe (by decide) hw) ?_ _ _ _
    | fail_if_no_progress with_reducible refine Kept.upd_lake (maskLe (by decide) hw) ?_

theorem execAccoTileRetire_kept {r b : Bool} {w : Nat} {s0 s : State} (hw : 0x7060457622 ||| w = w) (h : Kept r b w s0 s) :
    ∀ a1, KeptO r b w s0 (execAccoTileRetire a1 s) := by
  intro a1
  unfold execAccoTileRetire
  repeat' first
    | with_reducible assumption
    | with_reducible apply Kept.ite
    | with_reducible apply KeptO.next
    | with_reducible apply KeptO.ite
    | with_reducible refine State.closeTile_kept (maskLe (by decide) hw) ?_ _ _ _ _ _
    | with_reducible refine State.cntT_kept (maskLe (by decide) hw) ?_ _ _ _
    | split

theorem State.expireTiles_kept {r b : Bool} {w : Nat} {s0 s : State} (hw : 0x20400000 ||| w = w) (h : Kept r b w s0 s) :
    ∀ a1, Kept r b w s0 (State.expireTiles s a1) := by
  intro a1
  unfold State.expireTiles
  repeat' first
    | with_reducible assumption
    | with_reducible apply Kept.ite
    | with_reducible refine State.cntT_kept (maskLe (by decide) hw) ?_ _ _ _
    | fail_if_no_progress with_reducible refine Kept.upd_lake (maskLe (by decide) hw) ?_
    | (lift_lets -underBinder; intro x; refine Kept.via (r := r) (b := b) (w := w) (s0 := s0) x ?_ ?_;
       on_goal 2 => (clear_value x; intro _); on_goal 1 => try subst x)
    | (lift_lets -underBinder; intro x;
       first
         | (have _ : Pins := x; subst x) | (have _ : _ → State := x; subst x)
         | (have _ : _ → _ → State := x; subst x) | clear_value x)
    | split
    | with_reducible refine Kept.foldl (fun _ _ _ => ?_) _ _ ?_

theorem execAccoTileTimeout_kept {r b : Bool} {w : Nat} {s0 s : State} (hw : 0x70e0457622 ||| w = w) (h : Kept r b w s0 s) :
    ∀ a1, KeptO r b w s0 (execAccoTileTimeout a1 s) := by
  intro a1
  unfold execAccoTileTimeout
  repeat' first
    | with_reducible assumption
    | with_reducible apply Kept.ite
    | with_reducible apply KeptO.next
    | with_reducible apply KeptO.ite
    | with_reducible refine State.expireTiles_kept (maskLe (by decide) hw) ?_ _
    | with_reducible refine State.closeTile_kept (maskLe (by decide) hw) ?_ _ _ _ _ _
    | with_reducible refine State.stainEvent_kept (maskLe (by decide) hw) ?_ _ _ _ _ _ _ _
    | split
    | (lift_lets -underBinder; intro x; refine Kept.via (r := r) (b := b) (w := w) (s0 := s0) x ?_ ?_;
       on_goal 2 => (clear_value x; intro _); on_goal 1 => try subst x)

theorem execWatermarkClose_kept {r b : Bool} {w : Nat} {s0 s : State} (hw : 0x7060400022 ||| w = w) (h : Kept r b w s0 s) :
    ∀ a1, KeptO r b w s0 (execWatermarkClose a1 s) := by
  intro a1
  unfold execWatermarkClose
  repeat' first
    | with_reducible assumption
    | with_reducible apply Kept.ite
    | with_reducible apply KeptO.next
    | with_reducible apply KeptO.ite
    | with_reducible refine State.trip_kept (maskLe (by decide) hw) ?_ _ _ _ _
    | fail_if_no_progress with_reducible refine Kept.upd_lake (maskLe (by decide) hw) ?_

theorem State.closeBanks_kept {r b : Bool} {w : Nat} {s0 s : State} (hw : 0x400 ||| w = w) (h : Kept r b w s0 s) :
    ∀ a1, Kept r b w s0 (State.closeBanks s a1) := by
  intro a1
  unfold State.closeBanks
  repeat' first
    | with_reducible assumption
    | with_reducible apply Kept.ite
    | with_reducible refine State.setLeaf_kept (maskLe (by decide) hw) ?_ _ _

theorem State.parkLeaf_kept {r b : Bool} {w : Nat} {s0 s : State} (hw : 0x400 ||| w = w) (h : Kept r b w s0 s) :
    ∀ a1, Kept r b w s0 (State.parkLeaf s a1) := by
  intro a1
  unfold State.parkLeaf
  repeat' first
    | with_reducible assumption
    | with_reducible apply Kept.ite
    | with_reducible refine State.closeBanks_kept (maskLe (by decide) hw) ?_ _
    | with_reducible refine State.setLeaf_kept (maskLe (by decide) hw) ?_ _ _

theorem execQuirePark_kept {r b : Bool} {w : Nat} {s0 s : State} (hw : 0x400 ||| w = w) (h : Kept r b w s0 s) :
    ∀ a1, KeptO r b w s0 (execQuirePark a1 s) := by
  intro a1
  unfold execQuirePark
  repeat' first
    | with_reducible assumption
    | with_reducible apply Kept.ite
    | with_reducible apply KeptO.next
    | with_reducible apply KeptO.ite
    | with_reducible refine State.parkLeaf_kept (maskLe (by decide) hw) ?_ _
    | split
    | with_reducible refine Kept.foldl (fun _ _ _ => ?_) _ _ ?_

theorem State.settleSleep_kept {r b : Bool} {w : Nat} {s0 s : State} (hw : 0x4000 ||| w = w) (h : Kept r b w s0 s) :
    ∀ a1, Kept r b w s0 (State.settleSleep s a1) := by
  intro a1
  unfold State.settleSleep
  repeat' first
    | with_reducible assumption
    | with_reducible apply Kept.ite
    | with_reducible refine State.setSck_kept (maskLe (by decide) hw) ?_ _ _

theorem State.enterSR_kept {r b : Bool} {w : Nat} {s0 s : State} (hw : 0x4400 ||| w = w) (h : Kept r b w s0 s) :
    ∀ a1 a2, Kept r b w s0 (State.enterSR s a1 a2) := by
  intro a1 a2
  unfold State.enterSR
  repeat' first
    | with_reducible assumption
    | with_reducible refine State.closeBanks_kept (maskLe (by decide) hw) ?_ _
    | with_reducible refine State.settleSleep_kept (maskLe (by decide) hw) ?_ _
    | with_reducible refine State.setSck_kept (maskLe (by decide) hw) ?_ _ _
    | with_reducible refine Kept.foldl (fun _ _ _ => ?_) _ _ ?_

theorem State.sleepAll_kept {r b : Bool} {w : Nat} {s0 s : State} (hw : 0x4400 ||| w = w) (h : Kept r b w s0 s) :
    ∀ a1, Kept r b w s0 (State.sleepAll s a1) := by
  intro a1
  unfold State.sleepAll
  repeat' first
    | with_reducible assumption
    | with_reducible apply Kept.ite
    | with_reducible refine State.enterSR_kept (maskLe (by decide) hw) ?_ _ _
    | with_reducible refine State.setSck_kept (maskLe (by decide) hw) ?_ _ _

theorem execSelfRefreshEntry_kept {r b : Bool} {w : Nat} {s0 s : State} (hw : 0x57600 ||| w = w) (h : Kept r b w s0 s) :
    ∀ a1, KeptO r b w s0 (execSelfRefreshEntry a1 s) := by
  intro a1
  unfold execSelfRefreshEntry
  repeat' first
    | with_reducible assumption
    | with_reducible apply Kept.ite
    | with_reducible apply KeptO.next
    | with_reducible apply KeptO.ite
    | with_reducible refine State.closeAll_kept (maskLe (by decide) hw) ?_ _
    | with_reducible refine State.enterSR_kept (maskLe (by decide) hw) ?_ _ _
    | split
    | with_reducible refine Kept.foldl (fun _ _ _ => ?_) _ _ ?_

theorem State.gateOff_kept {r b : Bool} {w : Nat} {s0 s : State} (hw : 0x4400 ||| w = w) (h : Kept r b w s0 s) :
    ∀ a1, Kept r b w s0 (State.gateOff s a1) := by
  intro a1
  unfold State.gateOff
  repeat' first
    | with_reducible assumption
    | with_reducible apply Kept.ite
    | with_reducible refine State.setSck_kept (maskLe (by decide) hw) ?_ _ _
    | fail_if_no_progress with_reducible refine Kept.upd_leaves (maskLe (by decide) hw) ?_

theorem execDomainGateOff_kept {r b : Bool} {w : Nat} {s0 s : State} (hw : 0x4400 ||| w = w) (h : Kept r b w s0 s) :
    ∀ a1, KeptO r b w s0 (execDomainGateOff a1 s) := by
  intro a1
  unfold execDomainGateOff
  repeat' first
    | with_reducible assumption
    | with_reducible apply Kept.ite
    | with_reducible apply KeptO.next
    | with_reducible apply KeptO.ite
    | with_reducible refine State.gateOff_kept (maskLe (by decide) hw) ?_ _

theorem execDomainPowerGood_kept {r b : Bool} {w : Nat} {s0 s : State} (hw : 0x4800 ||| w = w) (h : Kept r b w s0 s) :
    ∀ a1, KeptO r b w s0 (execDomainPowerGood a1 s) := by
  intro a1
  unfold execDomainPowerGood
  repeat' first
    | with_reducible assumption
    | with_reducible apply Kept.ite
    | with_reducible apply KeptO.next
    | with_reducible apply KeptO.ite
    | with_reducible refine State.ageDue_kept (maskLe (by decide) hw) ?_ _ _
    | with_reducible refine State.ageStack_kept (maskLe (by decide) hw) ?_ _ _ _
    | with_reducible refine State.setSck_kept (maskLe (by decide) hw) ?_ _ _

theorem State.takeCorr_kept {r b : Bool} {w : Nat} {s0 s : State} (hw : 0x7040004 ||| w = w) (h : Kept r b w s0 s) :
    ∀ a1, Kept r b w s0 (State.takeCorr s a1) := by
  intro a1
  unfold State.takeCorr
  repeat' first
    | with_reducible assumption
    | with_reducible refine State.putCal_kept (maskLe (by decide) hw) ?_ _ _
    | with_reducible refine State.setChan_kept (maskLe (by decide) hw) ?_ _ _
    | with_reducible refine State.retrainOver_kept (maskLe (by decide) hw) ?_ _ _
    | split

theorem State.startClock_kept {r b : Bool} {w : Nat} {s0 s : State} (hw : 0x7056404 ||| w = w) (h : Kept r b w s0 s) :
    ∀ a1, Kept r b w s0 (State.startClock s a1) := by
  intro a1
  unfold State.startClock
  repeat' first
    | with_reducible assumption
    | with_reducible refine State.takeCorr_kept (maskLe (by decide) hw) ?_ _
    | with_reducible refine State.setSck_kept (maskLe (by decide) hw) ?_ _ _
    | with_reducible refine State.exitSR_kept (maskLe (by decide) hw) ?_ _ _
    | with_reducible refine Kept.foldl (fun _ _ _ => ?_) _ _ ?_

theorem execPllLocked_kept {r b : Bool} {w : Nat} {s0 s : State} (hw : 0x7056404 ||| w = w) (h : Kept r b w s0 s) :
    ∀ a1, KeptO r b w s0 (execPllLocked a1 s) := by
  intro a1
  unfold execPllLocked
  repeat' first
    | with_reducible assumption
    | with_reducible apply Kept.ite
    | with_reducible apply KeptO.next
    | with_reducible apply KeptO.ite
    | with_reducible refine State.startClock_kept (maskLe (by decide) hw) ?_ _
    | with_reducible refine State.setSck_kept (maskLe (by decide) hw) ?_ _ _

theorem State.rewake_kept {r b : Bool} {w : Nat} {s0 s : State} (hw : 0x56400 ||| w = w) (h : Kept r b w s0 s) :
    ∀ a1, Kept r b w s0 (State.rewake s a1) := by
  intro a1
  unfold State.rewake
  repeat' first
    | with_reducible assumption
    | with_reducible apply Kept.ite
    | with_reducible refine State.wakeStack_kept (maskLe (by decide) hw) ?_ _

theorem State.attempt_kept {r b : Bool} {w : Nat} {s0 s : State} (hw : 0x56400 ||| w = w) (h : Kept r b w s0 s) :
    ∀ a1, Kept r b w s0 (State.attempt s a1) := by
  intro a1
  unfold State.attempt
  repeat' first
    | with_reducible assumption
    | with_reducible apply Kept.ite
    | with_reducible refine State.rewake_kept (maskLe (by decide) hw) ?_ _
    | with_reducible refine State.setSck_kept (maskLe (by decide) hw) ?_ _ _

theorem execPllLockLoss_kept {r b : Bool} {w : Nat} {s0 s : State} (hw : 0x3060004400 ||| w = w) (h : Kept r b w s0 s) :
    ∀ a1 a2, KeptO r b w s0 (execPllLockLoss a1 a2 s) := by
  intro a1 a2
  unfold execPllLockLoss
  repeat' first
    | with_reducible assumption
    | with_reducible apply Kept.ite
    | with_reducible apply KeptO.next
    | with_reducible apply KeptO.ite
    | with_reducible refine State.note_kept (maskLe (by decide) hw) ?_ _ _ _ _
    | with_reducible refine State.sleepAll_kept (maskLe (by decide) hw) ?_ _
    | with_reducible refine State.setSck_kept (maskLe (by decide) hw) ?_ _ _

theorem execRefClkLoss_kept {r b : Bool} {w : Nat} {s0 s : State} (hw : 0x3060004401 ||| w = w) (h : Kept r b w s0 s) :
    KeptO r b w s0 (execRefClkLoss s) := by
  unfold execRefClkLoss
  repeat' first
    | with_reducible assumption
    | with_reducible apply Kept.ite
    | with_reducible apply KeptO.next
    | with_reducible apply KeptO.ite
    | with_reducible refine State.sleepAll_kept (maskLe (by decide) hw) ?_ _
    | with_reducible refine State.note_kept (maskLe (by decide) hw) ?_ _ _ _ _
    | with_reducible refine State.setSck_kept (maskLe (by decide) hw) ?_ _ _
    | fail_if_no_progress with_reducible refine Kept.upd_clk (maskLe (by decide) hw) ?_
    | (lift_lets -underBinder; intro x; refine Kept.via (r := r) (b := b) (w := w) (s0 := s0) x ?_ ?_;
       on_goal 2 => (clear_value x; intro _); on_goal 1 => try subst x)
    | (lift_lets -underBinder; intro x;
       first
         | (have _ : Pins := x; subst x) | (have _ : _ → State := x; subst x)
         | (have _ : _ → _ → State := x; subst x) | clear_value x)
    | split
    | with_reducible refine Kept.foldl (fun _ _ _ => ?_) _ _ ?_

theorem execRefClkRestored_kept {r b : Bool} {w : Nat} {s0 s : State} (hw : 0x56401 ||| w = w) (h : Kept r b w s0 s) :
    KeptO r b w s0 (execRefClkRestored s) := by
  unfold execRefClkRestored
  repeat' first
    | with_reducible assumption
    | with_reducible apply Kept.ite
    | with_reducible apply KeptO.next
    | with_reducible apply KeptO.ite
    | with_reducible refine State.rewake_kept (maskLe (by decide) hw) ?_ _
    | fail_if_no_progress with_reducible refine Kept.upd_clk (maskLe (by decide) hw) ?_
    | fail_if_no_progress with_reducible refine Kept.upd_sclk (maskLe (by decide) hw) ?_
    | (lift_lets -underBinder; intro x; refine Kept.via (r := r) (b := b) (w := w) (s0 := s0) x ?_ ?_;
       on_goal 2 => (clear_value x; intro _); on_goal 1 => try subst x)
    | (lift_lets -underBinder; intro x;
       first
         | (have _ : Pins := x; subst x) | (have _ : _ → State := x; subst x)
         | (have _ : _ → _ → State := x; subst x) | clear_value x)
    | split
    | with_reducible refine Kept.foldl (fun _ _ _ => ?_) _ _ ?_

theorem execNtLockLoss_kept {r b : Bool} {w : Nat} {s0 s : State} (hw : 0x3060000001 ||| w = w) (h : Kept r b w s0 s) :
    KeptO r b w s0 (execNtLockLoss s) := by
  unfold execNtLockLoss
  repeat' first
    | with_reducible assumption
    | with_reducible apply Kept.ite
    | with_reducible apply KeptO.next
    | with_reducible apply KeptO.ite
    | with_reducible refine State.note_kept (maskLe (by decide) hw) ?_ _ _ _ _
    | fail_if_no_progress with_reducible refine Kept.upd_clk (maskLe (by decide) hw) ?_

theorem State.opFinish_kept {r b : Bool} {w : Nat} {s0 s : State} (hw : 0x7004004 ||| w = w) (h : Kept r b w s0 s) :
    ∀ a1 a2, Kept r b w s0 (State.opFinish s a1 a2) := by
  intro a1 a2
  unfold State.opFinish
  repeat' first
    | with_reducible assumption
    | with_reducible apply Kept.ite
    | with_reducible refine State.setSck_kept (maskLe (by decide) hw) ?_ _ _
    | with_reducible refine State.finishAt_kept (maskLe (by decide) hw) ?_ _ _ _ _
    | fail_if_no_progress with_reducible refine Kept.upd_tickets (maskLe (by decide) hw) ?_
    | (lift_lets -underBinder; intro x; refine Kept.via (r := r) (b := b) (w := w) (s0 := s0) x ?_ ?_;
       on_goal 2 => (clear_value x; intro _); on_goal 1 => try subst x)
    | (lift_lets -underBinder; intro x;
       first
         | (have _ : Pins := x; subst x) | (have _ : _ → State := x; subst x)
         | (have _ : _ → _ → State := x; subst x) | clear_value x)
    | split
    | with_reducible refine Kept.foldl (fun _ _ _ => ?_) _ _ ?_

theorem State.startSwitch_kept {r b : Bool} {w : Nat} {s0 s : State} (hw : 0x57600 ||| w = w) (h : Kept r b w s0 s) :
    ∀ a1 a2, Kept r b w s0 (State.startSwitch s a1 a2) := by
  intro a1 a2
  unfold State.startSwitch
  repeat' first
    | with_reducible assumption
    | with_reducible apply Kept.ite
    | with_reducible refine State.closeBanks_kept (maskLe (by decide) hw) ?_ _
    | with_reducible refine State.closeAll_kept (maskLe (by decide) hw) ?_ _
    | with_reducible refine State.setSck_kept (maskLe (by decide) hw) ?_ _ _
    | with_reducible refine Kept.foldl (fun _ _ _ => ?_) _ _ ?_

theorem State.firstEconomy_kept {r b : Bool} {w : Nat} {s0 s : State} (hw : 0x45000 ||| w = w) (h : Kept r b w s0 s) :
    ∀ a1, Kept r b w s0 (State.firstEconomy s a1) := by
  intro a1
  unfold State.firstEconomy
  repeat' first
    | with_reducible assumption
    | with_reducible apply Kept.ite
    | with_reducible refine State.setSck_kept (maskLe (by decide) hw) ?_ _ _
    | with_reducible refine State.requestRetrain_kept (maskLe (by decide) hw) ?_ _ _ _
    | with_reducible refine State.setChan_kept (maskLe (by decide) hw) ?_ _ _
    | (lift_lets -underBinder; intro x; refine Kept.via (r := r) (b := b) (w := w) (s0 := s0) x ?_ ?_;
       on_goal 2 => (clear_value x; intro _); on_goal 1 => try subst x)
    | (lift_lets -underBinder; intro x;
       first
         | (have _ : Pins := x; subst x) | (have _ : _ → State := x; subst x)
         | (have _ : _ → _ → State := x; subst x) | clear_value x)
    | split
    | with_reducible refine Kept.foldl (fun _ _ _ => ?_) _ _ ?_

theorem State.startTransition_kept {r b : Bool} {w : Nat} {s0 s : State} (hw : 0x7057604 ||| w = w) (h : Kept r b w s0 s) :
    ∀ a1 a2 a3 a4, Kept r b w s0 (State.startTransition s a1 a2 a3 a4) := by
  intro a1 a2 a3 a4
  unfold State.startTransition
  repeat' first
    | with_reducible assumption
    | with_reducible apply Kept.ite
    | with_reducible refine State.firstEconomy_kept (maskLe (by decide) hw) ?_ _
    | with_reducible refine State.startSwitch_kept (maskLe (by decide) hw) ?_ _ _
    | with_reducible refine State.opFinish_kept (maskLe (by decide) hw) ?_ _ _
    | with_reducible refine State.attempt_kept (maskLe (by decide) hw) ?_ _
    | with_reducible refine State.setSck_kept (maskLe (by decide) hw) ?_ _ _

theorem execFrequencySwitchEnd_kept {r b : Bool} {w : Nat} {s0 s : State} (hw : 0x7057404 ||| w = w) (h : Kept r b w s0 s) :
    ∀ a1, KeptO r b w s0 (execFrequencySwitchEnd a1 s) := by
  intro a1
  unfold execFrequencySwitchEnd
  repeat' first
    | with_reducible assumption
    | with_reducible apply Kept.ite
    | with_reducible apply KeptO.next
    | with_reducible apply KeptO.ite
    | with_reducible refine State.firstEconomy_kept (maskLe (by decide) hw) ?_ _
    | with_reducible refine State.opFinish_kept (maskLe (by decide) hw) ?_ _ _
    | with_reducible refine State.startClock_kept (maskLe (by decide) hw) ?_ _
    | with_reducible refine State.setSck_kept (maskLe (by decide) hw) ?_ _ _
    | (lift_lets -underBinder; intro x; refine Kept.via (r := r) (b := b) (w := w) (s0 := s0) x ?_ ?_;
       on_goal 2 => (clear_value x; intro _); on_goal 1 => try subst x)
    | (lift_lets -underBinder; intro x;
       first
         | (have _ : Pins := x; subst x) | (have _ : _ → State := x; subst x)
         | (have _ : _ → _ → State := x; subst x) | clear_value x)
    | split

theorem execRegulatorAck_kept {r b : Bool} {w : Nat} {s0 s : State} (hw : 0x7057604 ||| w = w) (h : Kept r b w s0 s) :
    ∀ a1, KeptO r b w s0 (execRegulatorAck a1 s) := by
  intro a1
  unfold execRegulatorAck
  repeat' first
    | with_reducible assumption
    | with_reducible apply Kept.ite
    | with_reducible apply KeptO.next
    | with_reducible apply KeptO.ite
    | with_reducible refine State.startSwitch_kept (maskLe (by decide) hw) ?_ _ _
    | with_reducible refine State.opFinish_kept (maskLe (by decide) hw) ?_ _ _
    | with_reducible refine State.attempt_kept (maskLe (by decide) hw) ?_ _
    | with_reducible refine State.setSck_kept (maskLe (by decide) hw) ?_ _ _
    | (lift_lets -underBinder; intro x; refine Kept.via (r := r) (b := b) (w := w) (s0 := s0) x ?_ ?_;
       on_goal 2 => (clear_value x; intro _); on_goal 1 => try subst x)
    | (lift_lets -underBinder; intro x;
       first
         | (have _ : Pins := x; subst x) | (have _ : _ → State := x; subst x)
         | (have _ : _ → _ → State := x; subst x) | clear_value x)
    | split

theorem execRegulatorAckTimeout_kept {r b : Bool} {w : Nat} {s0 s : State} (hw : 0x3060056408 ||| w = w) (h : Kept r b w s0 s) :
    ∀ a1, KeptO r b w s0 (execRegulatorAckTimeout a1 s) := by
  intro a1
  unfold execRegulatorAckTimeout
  repeat' first
    | with_reducible assumption
    | with_reducible apply Kept.ite
    | with_reducible apply KeptO.next
    | with_reducible apply KeptO.ite
    | with_reducible refine State.rewake_kept (maskLe (by decide) hw) ?_ _
    | with_reducible refine State.note_kept (maskLe (by decide) hw) ?_ _ _ _ _
    | with_reducible refine State.setBank_kept (maskLe (by decide) hw) ?_ (fun _ => ⟨rfl, rfl, rfl, rfl, ⟨rfl, rfl⟩, rfl, rfl, rfl, rfl, rfl, rfl, rfl, rfl⟩)
    | with_reducible refine State.setSck_kept (maskLe (by decide) hw) ?_ _ _

theorem execRollbackAckTimeout_kept {r b : Bool} {w : Nat} {s0 s : State} (hw : 0x3067004404 ||| w = w) (h : Kept r b w s0 s) :
    ∀ a1, KeptO r b w s0 (execRollbackAckTimeout a1 s) := by
  intro a1
  unfold execRollbackAckTimeout
  repeat' first
    | with_reducible assumption
    | with_reducible apply Kept.ite
    | with_reducible apply KeptO.next
    | with_reducible apply KeptO.ite
    | with_reducible refine State.note_kept (maskLe (by decide) hw) ?_ _ _ _ _
    | with_reducible refine State.sleepAll_kept (maskLe (by decide) hw) ?_ _
    | with_reducible refine State.opFinish_kept (maskLe (by decide) hw) ?_ _ _
    | with_reducible refine State.setSck_kept (maskLe (by decide) hw) ?_ _ _

theorem State.answerEdge_kept {r b : Bool} {w : Nat} {s0 s : State} (hw : 0xa00002a0 ||| w = w) (h : Kept r b w s0 s) :
    ∀ a1 a2 a3 a4, Kept r b w s0 (State.answerEdge s a1 a2 a3 a4) := by
  intro a1 a2 a3 a4
  unfold State.answerEdge
  repeat' first
    | with_reducible assumption
    | with_reducible refine State.answer_kept (maskLe (by decide) hw) ?_ _ _ _
    | with_reducible refine State.setReq_kept (maskLe (by decide) hw) ?_ _ _
    | fail_if_no_progress with_reducible refine Kept.upd_nextId (maskLe (by decide) hw) ?_

theorem State.firstOfSheet_kept {r b : Bool} {w : Nat} {s0 s : State} (hw : 0x3070000000 ||| w = w) (h : Kept r b w s0 s) :
    ∀ a1 a2, Kept r b w s0 (State.firstOfSheet s a1 a2) := by
  intro a1 a2
  unfold State.firstOfSheet
  repeat' first
    | with_reducible assumption
    | with_reducible apply Kept.ite
    | with_reducible refine State.note_kept (maskLe (by decide) hw) ?_ _ _ _ _
    | with_reducible refine State.setTenSt_kept (maskLe (by decide) hw) ?_ _ _

theorem State.setStep_kept {r b : Bool} {w : Nat} {s0 s : State} (hw : 0x10000000 ||| w = w) (h : Kept r b w s0 s) :
    ∀ a1 a2 a3, Kept r b w s0 (State.setStep s a1 a2 a3) := by
  intro a1 a2 a3
  unfold State.setStep
  repeat' first
    | with_reducible assumption
    | with_reducible refine State.setTenSt_kept (maskLe (by decide) hw) ?_ _ _

theorem State.filters_kept {r b : Bool} {w : Nat} {s0 s : State} (hw : 0x40000000 ||| w = w) (h : Kept r b w s0 s) :
    ∀ a1 a2, Kept r b w s0 (State.filters s a1 a2).1 := by
  intro a1 a2
  unfold State.filters
  repeat' first
    | with_reducible assumption
    | with_reducible apply Kept.ite
    | fail_if_no_progress with_reducible refine Kept.upd_trace (maskLe (by decide) hw) ?_
    | (lift_lets -underBinder; intro x; refine Kept.via (r := r) (b := b) (w := w) (s0 := s0) x ?_ ?_;
       on_goal 2 => (clear_value x; intro _); on_goal 1 => try subst x)
    | (lift_lets -underBinder; intro x;
       first
         | (have _ : Pins := x; subst x) | (have _ : _ → State := x; subst x)
         | (have _ : _ → _ → State := x; subst x) | clear_value x)
    | split
    | with_reducible refine Kept.foldl (fun _ _ _ => ?_) _ _ ?_
    | with_reducible refine Kept.foldl1 (fun _ _ _ => ?_) _ _ ?_

theorem State.launch_kept {r b : Bool} {w : Nat} {s0 s : State} (hw : 0xa01d65a0 ||| w = w) (h : Kept r b w s0 s) :
    ∀ a1 a2, Kept r b w s0 (State.launch s a1 a2) := by
  intro a1 a2
  unfold State.launch
  repeat' first
    | with_reducible assumption
    | with_reducible apply Kept.ite
    | with_reducible refine State.meetSleep_kept (maskLe (by decide) hw) ?_ _ _ _
    | with_reducible refine State.mark_kept (maskLe (by decide) hw) ?_ _ _
    | with_reducible refine State.setPart_kept (maskLe (by decide) hw) ?_ _ _
    | with_reducible refine State.setReq_kept (maskLe (by decide) hw) ?_ _ _

theorem State.takeCredits_kept {r b : Bool} {w : Nat} {s0 s : State} (hw : 0x20 ||| w = w) (h : Kept r b w s0 s) :
    ∀ a1 a2 a3, Kept r b w s0 (State.takeCredits s a1 a2 a3) := by
  intro a1 a2 a3
  unfold State.takeCredits
  repeat' first
    | with_reducible assumption
    | with_reducible apply Kept.ite
    | with_reducible refine State.setPort_kept (maskLe (by decide) hw) ?_ _ _

theorem State.dataDone_kept {r b : Bool} {w : Nat} {s0 s : State} (hw : 0xb01d65a0 ||| w = w) (h : Kept r b w s0 s) :
    ∀ a1 a2, Kept r b w s0 (State.dataDone s a1 a2) := by
  intro a1 a2
  unfold State.dataDone
  repeat' first
    | with_reducible assumption
    | with_reducible apply Kept.ite
    | with_reducible refine State.launch_kept (maskLe (by decide) hw) ?_ _ _
    | with_reducible refine State.setStep_kept (maskLe (by decide) hw) ?_ _ _ _
    | with_reducible refine State.fences_kept (maskLe (by decide) hw) ?_ _
    | with_reducible refine State.returnCredits_kept (maskLe (by decide) hw) ?_ _ _ _
    | with_reducible refine State.setReq_kept (maskLe (by decide) hw) ?_ _ _

theorem State.feedLane_kept {r b : Bool} {w : Nat} {s0 : State} (n : Nat) (hw : 0x30f05d67e0 ||| w = w) :
    ∀ {s : State}, Kept r b w s0 s → ∀ a2 a3, Kept r b w s0 (State.feedLane n s a2 a3) := by
  induction n with
  | zero =>
    intro s h a2 a3
    exact h
  | succ n ih =>
    intro s h a2 a3
    unfold State.feedLane
    repeat' first
    | with_reducible apply ih
    | with_reducible assumption
    | with_reducible apply Kept.ite
    | with_reducible refine State.dataDone_kept (maskLe (by decide) hw) ?_ _ _
    | with_reducible refine State.isolate_kept (maskLe (by decide) hw) ?_ _ _
    | with_reducible refine State.setReq_kept (maskLe (by decide) hw) ?_ _ _
    | (lift_lets -underBinder; intro x; refine Kept.via (r := r) (b := b) (w := w) (s0 := s0) x ?_ ?_;
       on_goal 2 => (clear_value x; intro _); on_goal 1 => try subst x)
    | (lift_lets -underBinder; intro x;
       first
         | (have _ : Pins := x; subst x) | (have _ : _ → State := x; subst x)
         | (have _ : _ → _ → State := x; subst x) | clear_value x)
    | split

theorem State.accepted_kept {r b : Bool} {w : Nat} {s0 s : State} (hw : 0x30f05d67e0 ||| w = w) (h : Kept r b w s0 s) :
    ∀ a1 a2 a3, Kept r b w s0 (State.accepted s a1 a2 a3) := by
  intro a1 a2 a3
  unfold State.accepted
  repeat' first
    | with_reducible assumption
    | with_reducible apply Kept.ite
    | with_reducible refine State.feedLane_kept _ (maskLe (by decide) hw) ?_ _ _
    | with_reducible refine State.dataDone_kept (maskLe (by decide) hw) ?_ _ _
    | with_reducible refine State.takeCredits_kept (maskLe (by decide) hw) ?_ _ _ _
    | with_reducible refine State.filters_kept (maskLe (by decide) hw) ?_ _ _
    | with_reducible refine State.samplePoint_kept (maskLe (by decide) hw) ?_ _ _ _
    | with_reducible refine State.window_kept (maskLe (by decide) hw) ?_ _ _ _
    | with_reducible refine State.setReq_kept (maskLe (by decide) hw) ?_ _ _
    | fail_if_no_progress with_reducible refine Kept.upd_nextId (maskLe (by decide) hw) ?_

theorem State.feedOlder_kept {r b : Bool} {w : Nat} {s0 s : State} (hw : 0x30f05d67e0 ||| w = w) (h : Kept r b w s0 s) :
    ∀ a1 a2, Kept r b w s0 (State.feedOlder s a1 a2) := by
  intro a1 a2
  unfold State.feedOlder
  repeat' first
    | with_reducible assumption
    | with_reducible apply Kept.ite
    | with_reducible refine State.feedLane_kept _ (maskLe (by decide) hw) ?_ _ _
    | with_reducible refine State.takeCredits_kept (maskLe (by decide) hw) ?_ _ _ _

theorem State.accept_kept {r b : Bool} {w : Nat} {s0 s : State} (hw : 0x30f05d67e0 ||| w = w) (h : Kept r b w s0 s) :
    ∀ a1 a2 a3 a4, Kept r b w s0 (State.accept s a1 a2 a3 a4) := by
  intro a1 a2 a3 a4
  unfold State.accept
  repeat' first
    | with_reducible assumption
    | with_reducible apply Kept.ite
    | with_reducible refine State.feedOlder_kept (maskLe (by decide) hw) ?_ _ _
    | with_reducible refine State.accepted_kept (maskLe (by decide) hw) ?_ _ _ _
    | with_reducible refine State.firstOfSheet_kept (maskLe (by decide) hw) ?_ _ _
    | with_reducible refine State.answerEdge_kept (maskLe (by decide) hw) ?_ _ _ _ _
    | with_reducible refine State.isolate_kept (maskLe (by decide) hw) ?_ _ _
    | with_reducible refine State.window_kept (maskLe (by decide) hw) ?_ _ _ _
    | with_reducible refine State.setPort_kept (maskLe (by decide) hw) ?_ _ _
    | fail_if_no_progress with_reducible refine Kept.upd_aff (maskLe (by decide) hw) ?_
    | (lift_lets -underBinder; intro x; refine Kept.via (r := r) (b := b) (w := w) (s0 := s0) x ?_ ?_;
       on_goal 2 => (clear_value x; intro _); on_goal 1 => try subst x)
    | (lift_lets -underBinder; intro x;
       first
         | (have _ : Pins := x; subst x) | (have _ : _ → State := x; subst x)
         | (have _ : _ → _ → State := x; subst x) | clear_value x)
    | split
    | dsimp only

theorem execRd_kept {r b : Bool} {w : Nat} {s0 s : State} (hw : 0x30f05d67e0 ||| w = w) (h : Kept r b w s0 s) :
    ∀ a1 a2, KeptO r b w s0 (execRd a1 a2 s) := by
  intro a1 a2
  unfold execRd
  repeat' first
    | with_reducible assumption
    | with_reducible apply KeptO.next
    | with_reducible refine State.accept_kept (maskLe (by decide) hw) ?_ _ _ _ _

theorem execWr_kept {r b : Bool} {w : Nat} {s0 s : State} (hw : 0x30f05d67e0 ||| w = w) (h : Kept r b w s0 s) :
    ∀ a1 a2 a3, KeptO r b w s0 (execWr a1 a2 a3 s) := by
  intro a1 a2 a3
  unfold execWr
  repeat' first
    | with_reducible assumption
    | with_reducible apply KeptO.next
    | with_reducible refine State.accept_kept (maskLe (by decide) hw) ?_ _ _ _ _

theorem execWrm_kept {r b : Bool} {w : Nat} {s0 s : State} (hw : 0x30f05d67e0 ||| w = w) (h : Kept r b w s0 s) :
    ∀ a1 a2 a3, KeptO r b w s0 (execWrm a1 a2 a3 s) := by
  intro a1 a2 a3
  unfold execWrm
  repeat' first
    | with_reducible assumption
    | with_reducible apply KeptO.next
    | with_reducible refine State.accept_kept (maskLe (by decide) hw) ?_ _ _ _ _

theorem execAccu_kept {r b : Bool} {w : Nat} {s0 s : State} (hw : 0x30f05d67e0 ||| w = w) (h : Kept r b w s0 s) :
    ∀ a1 a2 a3, KeptO r b w s0 (execAccu a1 a2 a3 s) := by
  intro a1 a2 a3
  unfold execAccu
  repeat' first
    | with_reducible assumption
    | with_reducible apply KeptO.next
    | with_reducible refine State.accept_kept (maskLe (by decide) hw) ?_ _ _ _ _

theorem execAcco_kept {r b : Bool} {w : Nat} {s0 s : State} (hw : 0x30f05d67e0 ||| w = w) (h : Kept r b w s0 s) :
    ∀ a1 a2 a3, KeptO r b w s0 (execAcco a1 a2 a3 s) := by
  intro a1 a2 a3
  unfold execAcco
  repeat' first
    | with_reducible assumption
    | with_reducible apply KeptO.next
    | with_reducible refine State.accept_kept (maskLe (by decide) hw) ?_ _ _ _ _

theorem execGath_kept {r b : Bool} {w : Nat} {s0 s : State} (hw : 0x30f05d67e0 ||| w = w) (h : Kept r b w s0 s) :
    ∀ a1 a2, KeptO r b w s0 (execGath a1 a2 s) := by
  intro a1 a2
  unfold execGath
  repeat' first
    | with_reducible assumption
    | with_reducible apply KeptO.next
    | with_reducible refine State.accept_kept (maskLe (by decide) hw) ?_ _ _ _ _

theorem execMark_kept {r b : Bool} {w : Nat} {s0 s : State} (hw : 0x30f05d67e0 ||| w = w) (h : Kept r b w s0 s) :
    ∀ a1 a2 a3, KeptO r b w s0 (execMark a1 a2 a3 s) := by
  intro a1 a2 a3
  unfold execMark
  repeat' first
    | with_reducible assumption
    | with_reducible apply KeptO.next
    | with_reducible refine State.accept_kept (maskLe (by decide) hw) ?_ _ _ _ _

theorem execFence_kept {r b : Bool} {w : Nat} {s0 s : State} (hw : 0x30f05d67e0 ||| w = w) (h : Kept r b w s0 s) :
    ∀ a1 a2, KeptO r b w s0 (execFence a1 a2 s) := by
  intro a1 a2
  unfold execFence
  repeat' first
    | with_reducible assumption
    | with_reducible apply KeptO.next
    | with_reducible refine State.accept_kept (maskLe (by decide) hw) ?_ _ _ _ _

theorem execFeltSpill_kept {r b : Bool} {w : Nat} {s0 s : State} (hw : 0x30f05d67e0 ||| w = w) (h : Kept r b w s0 s) :
    ∀ a1 a2 a3, KeptO r b w s0 (execFeltSpill a1 a2 a3 s) := by
  intro a1 a2 a3
  unfold execFeltSpill
  repeat' first
    | with_reducible assumption
    | with_reducible apply KeptO.next
    | with_reducible refine State.accept_kept (maskLe (by decide) hw) ?_ _ _ _ _

theorem execResponseCreditReturn_kept {r b : Bool} {w : Nat} {s0 s : State} (hw : 0x20 ||| w = w) (h : Kept r b w s0 s) :
    ∀ a1 a2 a3, KeptO r b w s0 (execResponseCreditReturn a1 a2 a3 s) := by
  intro a1 a2 a3
  unfold execResponseCreditReturn
  repeat' first
    | with_reducible assumption
    | with_reducible apply Kept.ite
    | with_reducible apply KeptO.next
    | with_reducible apply KeptO.ite
    | with_reducible refine State.setPort_kept (maskLe (by decide) hw) ?_ _ _

theorem execUrgLevelChange_kept {r b : Bool} {w : Nat} {s0 s : State} (hw : 0x420 ||| w = w) (h : Kept r b w s0 s) :
    ∀ a1 a2, KeptO r b w s0 (execUrgLevelChange a1 a2 s) := by
  intro a1 a2
  unfold execUrgLevelChange
  repeat' first
    | with_reducible assumption
    | with_reducible apply Kept.ite
    | with_reducible apply KeptO.next
    | with_reducible apply KeptO.ite
    | with_reducible refine State.claims_kept (maskLe (by decide) hw) ?_ _
    | with_reducible refine State.setPort_kept (maskLe (by decide) hw) ?_ _ _
    | fail_if_no_progress with_reducible refine Kept.upd_leaves (maskLe (by decide) hw) ?_
    | (lift_lets -underBinder; intro x; refine Kept.via (r := r) (b := b) (w := w) (s0 := s0) x ?_ ?_;
       on_goal 2 => (clear_value x; intro _); on_goal 1 => try subst x)
    | (lift_lets -underBinder; intro x;
       first
         | (have _ : Pins := x; subst x) | (have _ : _ → State := x; subst x)
         | (have _ : _ → _ → State := x; subst x) | clear_value x)
    | split
    | with_reducible refine Kept.foldl (fun _ _ _ => ?_) _ _ ?_

theorem State.reqtrace_kept {r b : Bool} {w : Nat} {s0 s : State} (hw : 0x60000000 ||| w = w) (h : Kept r b w s0 s) :
    ∀ a1, Kept r b w s0 (State.reqtrace s a1) := by
  intro a1
  unfold State.reqtrace
  repeat' first
    | with_reducible assumption
    | with_reducible refine State.traceRec_kept (maskLe (by decide) hw) ?_ _

theorem State.sendBeat_kept {r b : Bool} {w : Nat} {s0 s : State} (hw : 0xe00020a0 ||| w = w) (h : Kept r b w s0 s) :
    ∀ a1 a2 a3, Kept r b w s0 (State.sendBeat s a1 a2 a3) := by
  intro a1 a2 a3
  unfold State.sendBeat
  repeat' first
    | with_reducible assumption
    | with_reducible apply Kept.ite
    | with_reducible refine State.reqtrace_kept (maskLe (by decide) hw) ?_ _
    | with_reducible refine State.freePlaces_kept (maskLe (by decide) hw) ?_ _ _ _
    | with_reducible refine State.fences_kept (maskLe (by decide) hw) ?_ _
    | with_reducible refine State.window_kept (maskLe (by decide) hw) ?_ _ _ _
    | with_reducible refine State.dropReq_kept (maskLe (by decide) hw) ?_ _
    | with_reducible refine State.setReq_kept (maskLe (by decide) hw) ?_ _ _
    | with_reducible refine State.setPort_kept (maskLe (by decide) hw) ?_ _ _
    | (lift_lets -underBinder; intro x; refine Kept.via (r := r) (b := b) (w := w) (s0 := s0) x ?_ ?_;
       on_goal 2 => (clear_value x; intro _); on_goal 1 => try subst x)
    | (lift_lets -underBinder; intro x;
       first
         | (have _ : Pins := x; subst x) | (have _ : _ → State := x; subst x)
         | (have _ : _ → _ → State := x; subst x) | clear_value x)
    | split
    | dsimp only

theorem execResponseBeatSend_kept {r b : Bool} {w : Nat} {s0 s : State} (hw : 0xe00020a0 ||| w = w) (h : Kept r b w s0 s) :
    ∀ a1, KeptO r b w s0 (execResponseBeatSend a1 s) := by
  intro a1
  unfold execResponseBeatSend
  repeat' first
    | with_reducible assumption
    | with_reducible apply Kept.ite
    | with_reducible apply KeptO.next
    | with_reducible apply KeptO.ite
    | with_reducible refine State.sendBeat_kept (maskLe (by decide) hw) ?_ _ _ _
    | (lift_lets -underBinder; intro x; refine Kept.via (r := r) (b := b) (w := w) (s0 := s0) x ?_ ?_;
       on_goal 2 => (clear_value x; intro _); on_goal 1 => try subst x)
    | (lift_lets -underBinder; intro x;
       first
         | (have _ : Pins := x; subst x) | (have _ : _ → State := x; subst x)
         | (have _ : _ → _ → State := x; subst x) | clear_value x)
    | split

theorem execFdGo_kept {r b : Bool} {w : Nat} {s0 s : State} (hw : 0x800000 ||| w = w) (h : Kept r b w s0 s) :
    ∀ a1 a2, KeptO r b w s0 (execFdGo a1 a2 s) := by
  intro a1 a2
  unfold execFdGo
  repeat' first
    | with_reducible assumption
    | with_reducible apply Kept.ite
    | with_reducible apply KeptO.next
    | with_reducible apply KeptO.ite
    | with_reducible refine State.setFeeder_kept (maskLe (by decide) hw) ?_ _ _

theorem State.feedPages_kept {r b : Bool} {w : Nat} {s0 : State} (n : Nat) (hw : 0x30e0802180 ||| w = w) :
    ∀ {s : State}, Kept r b w s0 s → ∀ a2, Kept r b w s0 (State.feedPages n s a2) := by
  induction n with
  | zero =>
    intro s h a2
    exact h
  | succ n ih =>
    intro s h a2
    unfold State.feedPages
    repeat' first
    | with_reducible apply ih
    | with_reducible assumption
    | with_reducible apply Kept.ite
    | with_reducible refine State.patternEvents_kept (maskLe (by decide) hw) ?_ _
    | with_reducible refine State.freePlaces_kept (maskLe (by decide) hw) ?_ _ _ _
    | with_reducible refine State.dropPart_kept (maskLe (by decide) hw) ?_ _
    | with_reducible refine State.dropReq_kept (maskLe (by decide) hw) ?_ _
    | with_reducible refine State.cntT_kept (maskLe (by decide) hw) ?_ _ _ _
    | with_reducible refine State.setFeeder_kept (maskLe (by decide) hw) ?_ _ _
    | (lift_lets -underBinder; intro x; refine Kept.via (r := r) (b := b) (w := w) (s0 := s0) x ?_ ?_;
       on_goal 2 => (clear_value x; intro _); on_goal 1 => try subst x)
    | (lift_lets -underBinder; intro x;
       first
         | (have _ : Pins := x; subst x) | (have _ : _ → State := x; subst x)
         | (have _ : _ → _ → State := x; subst x) | clear_value x)
    | split

theorem execFeederPageReadIssue_kept {r b : Bool} {w : Nat} {s0 s : State} (hw : 0xa09d67a0 ||| w = w) (h : Kept r b w s0 s) :
    ∀ a1, KeptO r b w s0 (execFeederPageReadIssue a1 s) := by
  intro a1
  unfold execFeederPageReadIssue
  repeat' first
    | with_reducible assumption
    | with_reducible apply Kept.ite
    | with_reducible apply KeptO.next
    | with_reducible apply KeptO.ite
    | with_reducible refine State.meetSleep_kept (maskLe (by decide) hw) ?_ _ _ _
    | with_reducible refine State.enterGate_kept (maskLe (by decide) hw) ?_ _
    | with_reducible refine State.setPart_kept (maskLe (by decide) hw) ?_ _ _
    | with_reducible refine State.setReq_kept (maskLe (by decide) hw) ?_ _ _
    | with_reducible refine State.cntT_kept (maskLe (by decide) hw) ?_ _ _ _
    | with_reducible refine State.setFeeder_kept (maskLe (by decide) hw) ?_ _ _
    | fail_if_no_progress with_reducible refine Kept.upd_nextId (maskLe (by decide) hw) ?_
    | (lift_lets -underBinder; intro x; refine Kept.via (r := r) (b := b) (w := w) (s0 := s0) x ?_ ?_;
       on_goal 2 => (clear_value x; intro _); on_goal 1 => try subst x)
    | (lift_lets -underBinder; intro x;
       first
         | (have _ : Pins := x; subst x) | (have _ : _ → State := x; subst x)
         | (have _ : _ → _ → State := x; subst x) | clear_value x)
    | split

theorem State.freeUnpaced_kept {r b : Bool} {w : Nat} {s0 s : State} (hw : 0x80000 ||| w = w) (h : Kept r b w s0 s) :
    ∀ a1 a2, Kept r b w s0 (State.freeUnpaced s a1 a2) := by
  intro a1 a2
  unfold State.freeUnpaced
  repeat' first
    | with_reducible assumption
    | with_reducible apply Kept.ite
    | with_reducible refine State.drrFree_kept (maskLe (by decide) hw) ?_ _ _
    | split

theorem State.feedBeat_kept {r b : Bool} {w : Nat} {s0 s : State} (hw : 0x20880000 ||| w = w) (h : Kept r b w s0 s) :
    ∀ a1 a2, Kept r b w s0 (State.feedBeat s a1 a2) := by
  intro a1 a2
  unfold State.feedBeat
  repeat' first
    | with_reducible assumption
    | with_reducible apply Kept.ite
    | with_reducible refine State.freeUnpaced_kept (maskLe (by decide) hw) ?_ _ _
    | with_reducible refine State.cntG_kept (maskLe (by decide) hw) ?_ _ _
    | with_reducible refine State.setFeeder_kept (maskLe (by decide) hw) ?_ _ _

theorem execFeederBeat_kept {r b : Bool} {w : Nat} {s0 s : State} (hw : 0x30e0882180 ||| w = w) (h : Kept r b w s0 s) :
    ∀ a1 a2, KeptO r b w s0 (execFeederBeat a1 a2 s) := by
  intro a1 a2
  unfold execFeederBeat
  repeat' first
    | with_reducible assumption
    | with_reducible apply Kept.ite
    | with_reducible apply KeptO.next
    | with_reducible apply KeptO.ite
    | with_reducible refine State.feedBeat_kept (maskLe (by decide) hw) ?_ _ _
    | with_reducible refine State.feedPages_kept _ (maskLe (by decide) hw) ?_ _
    | with_reducible refine State.setFeeder_kept (maskLe (by decide) hw) ?_ _ _
    | (lift_lets -underBinder; intro x; refine Kept.via (r := r) (b := b) (w := w) (s0 := s0) x ?_ ?_;
       on_goal 2 => (clear_value x; intro _); on_goal 1 => try subst x)
    | (lift_lets -underBinder; intro x;
       first
         | (have _ : Pins := x; subst x) | (have _ : _ → State := x; subst x)
         | (have _ : _ → _ → State := x; subst x) | clear_value x)
    | split
    | dsimp only

theorem State.dropFeed_kept {r b : Bool} {w : Nat} {s0 s : State} (hw : 0x82180 ||| w = w) (h : Kept r b w s0 s) :
    ∀ a1, Kept r b w s0 (State.dropFeed s a1) := by
  intro a1
  unfold State.dropFeed
  repeat' first
    | with_reducible assumption
    | with_reducible apply Kept.ite
    | with_reducible refine State.dropRead_kept (maskLe (by decide) hw) ?_ _ _
    | with_reducible refine Kept.foldl (fun _ _ _ => ?_) _ _ ?_

theorem State.endStream_kept {r b : Bool} {w : Nat} {s0 s : State} (hw : 0x882180 ||| w = w) (h : Kept r b w s0 s) :
    ∀ a1, Kept r b w s0 (State.endStream s a1) := by
  intro a1
  unfold State.endStream
  repeat' first
    | with_reducible assumption
    | with_reducible apply Kept.ite
    | with_reducible refine State.dropFeed_kept (maskLe (by decide) hw) ?_ _
    | with_reducible refine State.freeUnpaced_kept (maskLe (by decide) hw) ?_ _ _
    | with_reducible refine State.setFeeder_kept (maskLe (by decide) hw) ?_ _ _
    | (lift_lets -underBinder; intro x; refine Kept.via (r := r) (b := b) (w := w) (s0 := s0) x ?_ ?_;
       on_goal 2 => (clear_value x; intro _); on_goal 1 => try subst x)
    | (lift_lets -underBinder; intro x;
       first
         | (have _ : Pins := x; subst x) | (have _ : _ → State := x; subst x)
         | (have _ : _ → _ → State := x; subst x) | clear_value x)
    | split

theorem execFeederStallTimeout_kept {r b : Bool} {w : Nat} {s0 s : State} (hw : 0x3060882188 ||| w = w) (h : Kept r b w s0 s) :
    ∀ a1, KeptO r b w s0 (execFeederStallTimeout a1 s) := by
  intro a1
  unfold execFeederStallTimeout
  repeat' first
    | with_reducible assumption
    | with_reducible apply Kept.ite
    | with_reducible apply KeptO.next
    | with_reducible apply KeptO.ite
    | with_reducible refine State.endStream_kept (maskLe (by decide) hw) ?_ _
    | with_reducible refine State.note_kept (maskLe (by decide) hw) ?_ _ _ _ _
    | with_reducible refine State.setBank_kept (maskLe (by decide) hw) ?_ (fun _ => ⟨rfl, rfl, rfl, rfl, ⟨rfl, rfl⟩, rfl, rfl, rfl, rfl, rfl, rfl, rfl, rfl⟩)
    | (lift_lets -underBinder; intro x; refine Kept.via (r := r) (b := b) (w := w) (s0 := s0) x ?_ ?_;
       on_goal 2 => (clear_value x; intro _); on_goal 1 => try subst x)
    | (lift_lets -underBinder; intro x;
       first
         | (have _ : Pins := x; subst x) | (have _ : _ → State := x; subst x)
         | (have _ : _ → _ → State := x; subst x) | clear_value x)
    | split

theorem State.endFill_kept {r b : Bool} {w : Nat} {s0 s : State} (hw : 0x30e05d67a0 ||| w = w) (h : Kept r b w s0 s) :
    ∀ a1 a2 a3 a4, Kept r b w s0 (State.endFill s a1 a2 a3 a4) := by
  intro a1 a2 a3 a4
  unfold State.endFill
  repeat' first
    | with_reducible assumption
    | with_reducible apply Kept.ite
    | with_reducible refine State.setPort_kept (maskLe (by decide) hw) ?_ _ _
    | with_reducible refine State.drrFree_kept (maskLe (by decide) hw) ?_ _ _
    | with_reducible refine State.note_kept (maskLe (by decide) hw) ?_ _ _ _ _
    | with_reducible refine State.setGather_kept (maskLe (by decide) hw) ?_ _ _
    | with_reducible refine State.gatherGo_kept _ (maskLe (by decide) hw) ?_ _
    | (lift_lets -underBinder; intro x; refine Kept.via (r := r) (b := b) (w := w) (s0 := s0) x ?_ ?_;
       on_goal 2 => (clear_value x; intro _); on_goal 1 => try subst x)
    | (lift_lets -underBinder; intro x;
       first
         | (have _ : Pins := x; subst x) | (have _ : _ → State := x; subst x)
         | (have _ : _ → _ → State := x; subst x) | clear_value x)
    | split
    | with_reducible refine Kept.foldl (fun _ _ _ => ?_) _ _ ?_
    | with_reducible refine Kept.foldl1 (fun _ _ _ => ?_) _ _ ?_
    | dsimp only

theorem execFeltFillAck_kept {r b : Bool} {w : Nat} {s0 s : State} (hw : 0x30e05d67a0 ||| w = w) (h : Kept r b w s0 s) :
    ∀ a1 a2 a3, KeptO r b w s0 (execFeltFillAck a1 a2 a3 s) := by
  intro a1 a2 a3
  unfold execFeltFillAck
  repeat' first
    | with_reducible assumption
    | with_reducible apply KeptO.next
    | with_reducible refine State.endFill_kept (maskLe (by decide) hw) ?_ _ _ _ _
    | split

theorem execFeltFillAckTimeout_kept {r b : Bool} {w : Nat} {s0 s : State} (hw : 0x30e05d67a0 ||| w = w) (h : Kept r b w s0 s) :
    ∀ a1 a2, KeptO r b w s0 (execFeltFillAckTimeout a1 a2 s) := by
  intro a1 a2
  unfold execFeltFillAckTimeout
  repeat' first
    | with_reducible assumption
    | with_reducible apply Kept.ite
    | with_reducible apply KeptO.next
    | with_reducible apply KeptO.ite
    | with_reducible refine State.endFill_kept (maskLe (by decide) hw) ?_ _ _ _ _
    | split

theorem execPortWatchdogExpiry_kept {r b : Bool} {w : Nat} {s0 s : State} (hw : 0x30e05d67e0 ||| w = w) (h : Kept r b w s0 s) :
    ∀ a1, KeptO r b w s0 (execPortWatchdogExpiry a1 s) := by
  intro a1
  unfold execPortWatchdogExpiry
  repeat' first
    | with_reducible assumption
    | with_reducible apply Kept.ite
    | with_reducible apply KeptO.next
    | with_reducible apply KeptO.ite
    | with_reducible refine State.isolate_kept (maskLe (by decide) hw) ?_ _ _

theorem execPortEdgeResetRelease_kept {r b : Bool} {w : Nat} {s0 s : State} (hw : 0x20 ||| w = w) (h : Kept r b w s0 s) :
    ∀ a1, KeptO r b w s0 (execPortEdgeResetRelease a1 s) := by
  intro a1
  unfold execPortEdgeResetRelease
  repeat' first
    | with_reducible assumption
    | with_reducible apply Kept.ite
    | with_reducible apply KeptO.next
    | with_reducible apply KeptO.ite
    | with_reducible refine State.setPort_kept (maskLe (by decide) hw) ?_ _ _

theorem State.portLive_kept {r b : Bool} {w : Nat} {s0 s : State} (hw : 0x30e05d67e0 ||| w = w) (h : Kept r b w s0 s) :
    ∀ a1 a2, Kept r b w s0 (State.portLive s a1 a2) := by
  intro a1 a2
  unfold State.portLive
  repeat' first
    | with_reducible assumption
    | with_reducible apply Kept.ite
    | with_reducible refine State.setPort_kept (maskLe (by decide) hw) ?_ _ _
    | with_reducible refine State.isolate_kept (maskLe (by decide) hw) ?_ _ _

theorem State.breakGather_kept {r b : Bool} {w : Nat} {s0 s : State} (hw : 0x30e05800a0 ||| w = w) (h : Kept r b w s0 s) :
    ∀ a1, Kept r b w s0 (State.breakGather s a1) := by
  intro a1
  unfold State.breakGather
  repeat' first
    | with_reducible assumption
    | with_reducible apply Kept.ite
    | with_reducible refine State.gatherNote_kept (maskLe (by decide) hw) ?_ _
    | with_reducible refine State.dropGather_kept (maskLe (by decide) hw) ?_ _
    | with_reducible refine State.failGather_kept (maskLe (by decide) hw) ?_ _ _ _
    | split

theorem State.breakFeed_kept {r b : Bool} {w : Nat} {s0 s : State} (hw : 0x882180 ||| w = w) (h : Kept r b w s0 s) :
    ∀ a1, Kept r b w s0 (State.breakFeed s a1) := by
  intro a1
  unfold State.breakFeed
  repeat' first
    | with_reducible assumption
    | with_reducible apply Kept.ite
    | with_reducible refine State.endStream_kept (maskLe (by decide) hw) ?_ _

theorem State.breakReq_kept {r b : Bool} {w : Nat} {s0 s : State} (hw : 0x30e0d821a0 ||| w = w) (h : Kept r b w s0 s) :
    ∀ a1 a2 a3, Kept r b w s0 (State.breakReq s a1 a2 a3) := by
  intro a1 a2 a3
  unfold State.breakReq
  repeat' first
    | with_reducible assumption
    | with_reducible apply Kept.ite
    | with_reducible refine State.breakGather_kept (maskLe (by decide) hw) ?_ _
    | with_reducible refine State.breakFeed_kept (maskLe (by decide) hw) ?_ _
    | with_reducible refine State.refuse_kept (maskLe (by decide) hw) ?_ _ _
    | with_reducible refine State.dropPart_kept (maskLe (by decide) hw) ?_ _
    | with_reducible refine State.dropReq_kept (maskLe (by decide) hw) ?_ _
    | with_reducible refine State.freePlaces_kept (maskLe (by decide) hw) ?_ _ _ _
    | with_reducible refine State.setPort_kept (maskLe (by decide) hw) ?_ _ _
    | with_reducible refine State.answer_kept (maskLe (by decide) hw) ?_ _ _ _
    | (lift_lets -underBinder; intro x; refine Kept.via (r := r) (b := b) (w := w) (s0 := s0) x ?_ ?_;
       on_goal 2 => (clear_value x; intro _); on_goal 1 => try subst x)
    | split

theorem State.breakStack_kept {r b : Bool} {w : Nat} {s0 s : State} (hw : 0x30e0d821a0 ||| w = w) (h : Kept r b w s0 s) :
    ∀ a1 a2, Kept r b w s0 (State.breakStack s a1 a2) := by
  intro a1 a2
  unfold State.breakStack
  repeat' first
    | with_reducible assumption
    | with_reducible apply Kept.ite
    | with_reducible refine State.breakReq_kept (maskLe (by decide) hw) ?_ _ _ _
    | with_reducible refine State.breakGather_kept (maskLe (by decide) hw) ?_ _
    | fail_if_no_progress with_reducible refine Kept.upd_lake (maskLe (by decide) hw) ?_
    | split
    | with_reducible refine Kept.foldl (fun _ _ _ => ?_) _ _ ?_

theorem State.stainRun_kept {r b : Bool} {w : Nat} {s0 s : State} (hw : 0x3000000000 ||| w = w) (h : Kept r b w s0 s) :
    ∀ a1 a2 a3, Kept r b w s0 (State.stainRun s a1 a2 a3) := by
  intro a1 a2 a3
  unfold State.stainRun
  repeat' first
    | with_reducible assumption
    | with_reducible refine State.storeWord_kept (maskLe (by decide) hw) ?_ _ _ _ _
    | with_reducible refine Kept.foldl (fun _ _ _ => ?_) _ _ ?_

theorem State.tilesAsk_kept {r b : Bool} {w : Nat} {s0 s : State} (hw : 0x57600 ||| w = w) (h : Kept r b w s0 s) :
    ∀ a1, Kept r b w s0 (State.tilesAsk s a1) := by
  intro a1
  unfold State.tilesAsk
  repeat' first
    | with_reducible assumption
    | with_reducible apply Kept.ite
    | with_reducible refine State.tileReads_kept (maskLe (by decide) hw) ?_ _ _
    | split
    | with_reducible refine Kept.foldl (fun _ _ _ => ?_) _ _ ?_

theorem State.zeroAsk_kept {r b : Bool} {w : Nat} {s0 s : State} (hw : 0x56600 ||| w = w) (h : Kept r b w s0 s) :
    ∀ a1, Kept r b w s0 (State.zeroAsk s a1) := by
  intro a1
  unfold State.zeroAsk
  repeat' first
    | with_reducible assumption
    | with_reducible refine State.feedZero_kept (maskLe (by decide) hw) ?_ _
    | with_reducible refine Kept.foldl (fun _ _ _ => ?_) _ _ ?_

theorem State.clearLeaves_kept {r b : Bool} {w : Nat} {s0 s : State} (hw : 0x3400 ||| w = w) (h : Kept r b w s0 s) :
    ∀ a1, Kept r b w s0 (State.clearLeaves s a1) := by
  intro a1
  unfold State.clearLeaves
  repeat' first
    | with_reducible assumption
    | with_reducible apply Kept.ite
    | fail_if_no_progress with_reducible refine Kept.upd_leaves_cares_arbs (maskLe (by decide) hw) ?_

theorem State.breakCare_kept {r b : Bool} {w : Nat} {s0 s : State} (hw : 0x7001004 ||| w = w) (h : Kept r b w s0 s) :
    ∀ a1, Kept r b w s0 (State.breakCare s a1) := by
  intro a1
  unfold State.breakCare
  repeat' first
    | with_reducible assumption
    | with_reducible refine State.setCare_kept (maskLe (by decide) hw) ?_ _ _
    | with_reducible refine State.finish_kept (maskLe (by decide) hw) ?_ _ _ _ _
    | (lift_lets -underBinder; intro x; refine Kept.via (r := r) (b := b) (w := w) (s0 := s0) x ?_ ?_;
       on_goal 2 => (clear_value x; intro _); on_goal 1 => try subst x)
    | (lift_lets -underBinder; intro x;
       first
         | (have _ : Pins := x; subst x) | (have _ : _ → State := x; subst x)
         | (have _ : _ → _ → State := x; subst x) | clear_value x)
    | with_reducible refine Kept.foldl (fun _ _ _ => ?_) _ _ ?_

theorem State.stackDown_kept {r b : Bool} {w : Nat} {s0 s : State} (hw : 0x30e7de7dac ||| w = w) (h : Kept r b w s0 s) :
    ∀ a1, Kept r b w s0 (State.stackDown s a1) := by
  intro a1
  unfold State.stackDown
  repeat' first
    | with_reducible assumption
    | with_reducible refine State.failQuire_kept (maskLe (by decide) hw) ?_ _
    | with_reducible refine State.breakStack_kept (maskLe (by decide) hw) ?_ _ _
    | with_reducible refine State.breakCare_kept (maskLe (by decide) hw) ?_ _
    | with_reducible refine State.clearLeaves_kept (maskLe (by decide) hw) ?_ _
    | with_reducible refine State.setChan_kept (maskLe (by decide) hw) ?_ _ _
    | with_reducible refine State.retrainOver_kept (maskLe (by decide) hw) ?_ _ _
    | with_reducible refine State.opFinish_kept (maskLe (by decide) hw) ?_ _ _
    | with_reducible refine State.finishAt_kept (maskLe (by decide) hw) ?_ _ _ _ _
    | with_reducible refine State.setSck_kept (maskLe (by decide) hw) ?_ _ _
    | with_reducible refine State.setSup_kept (maskLe (by decide) hw) ?_ _ _
    | fail_if_no_progress with_reducible refine Kept.upd_prots (maskLe (by decide) hw) ?_
    | split
    | with_reducible refine Kept.foldl (fun _ _ _ => ?_) _ _ ?_

theorem State.fence_kept {r b : Bool} {w : Nat} {s0 s : State} (hw : 0x30e7de7dac ||| w = w) (h : Kept r b w s0 s) :
    ∀ a1 a2, Kept r b w s0 (State.fence s a1 a2) := by
  intro a1 a2
  unfold State.fence
  repeat' first
    | with_reducible assumption
    | with_reducible apply Kept.ite
    | with_reducible refine State.note_kept (maskLe (by decide) hw) ?_ _ _ _ _
    | with_reducible refine State.stackDown_kept (maskLe (by decide) hw) ?_ _
    | with_reducible refine State.setSup_kept (maskLe (by decide) hw) ?_ _ _
    | with_reducible refine State.finish_kept (maskLe (by decide) hw) ?_ _ _ _ _

theorem State.therm_kept {r b : Bool} {w : Nat} {s0 s : State} (hw : 0x80000000 ||| w = w) (h : Kept r b w s0 s) :
    ∀ a1 a2, Kept r b w s0 (State.therm s a1 a2) := by
  intro a1 a2
  unfold State.therm
  repeat' first
    | with_reducible assumption
    | fail_if_no_progress with_reducible refine Kept.upd_regs (maskLe (by decide) hw) ?_

theorem State.setBkp_kept {r b : Bool} {w : Nat} {s0 s : State} (hw : 0x4 ||| w = w) (h : Kept r b w s0 s) :
    ∀ a1 a2 a3 a4, Kept r b w s0 (State.setBkp s a1 a2 a3 a4) := by
  intro a1 a2 a3 a4
  unfold State.setBkp
  repeat' first
    | with_reducible assumption
    | fail_if_no_progress with_reducible refine Kept.upd_boot (maskLe (by decide) hw) ?_

theorem State.throttleRec_kept {r b : Bool} {w : Nat} {s0 s : State} (hw : 0x3060000000 ||| w = w) (h : Kept r b w s0 s) :
    ∀ a1 a2 a3, Kept r b w s0 (State.throttleRec s a1 a2 a3) := by
  intro a1 a2 a3
  unfold State.throttleRec
  repeat' first
    | with_reducible assumption
    | with_reducible apply Kept.ite
    | with_reducible refine State.alarmRec_kept (maskLe (by decide) hw) ?_ _
    | with_reducible refine State.logRec_kept (maskLe (by decide) hw) ?_ _

theorem State.sourceCheck_kept {r b : Bool} {w : Nat} {s0 s : State} (hw : 0x3060008000 ||| w = w) (h : Kept r b w s0 s) :
    ∀ a1 a2, Kept r b w s0 (State.sourceCheck s a1 a2) := by
  intro a1 a2
  unfold State.sourceCheck
  repeat' first
    | with_reducible assumption
    | with_reducible apply Kept.ite
    | with_reducible refine State.setHeat_kept (maskLe (by decide) hw) ?_ _ _
    | with_reducible refine State.note_kept (maskLe (by decide) hw) ?_ _ _ _ _
    | (lift_lets -underBinder; intro x; refine Kept.via (r := r) (b := b) (w := w) (s0 := s0) x ?_ ?_;
       on_goal 2 => (clear_value x; intro _); on_goal 1 => try subst x)
    | (lift_lets -underBinder; intro x;
       first
         | (have _ : Pins := x; subst x) | (have _ : _ → State := x; subst x)
         | (have _ : _ → _ → State := x; subst x) | clear_value x)
    | split

theorem State.disagreeCheck_kept {r b : Bool} {w : Nat} {s0 s : State} (hw : 0x30e0008000 ||| w = w) (h : Kept r b w s0 s) :
    ∀ a1 a2, Kept r b w s0 (State.disagreeCheck s a1 a2) := by
  intro a1 a2
  unfold State.disagreeCheck
  repeat' first
    | with_reducible assumption
    | with_reducible apply Kept.ite
    | with_reducible refine State.setHeat_kept (maskLe (by decide) hw) ?_ _ _
    | with_reducible refine State.therm_kept (maskLe (by decide) hw) ?_ _ _
    | with_reducible refine State.note_kept (maskLe (by decide) hw) ?_ _ _ _ _

theorem State.formTemp_kept {r b : Bool} {w : Nat} {s0 s : State} (hw : 0x30e0008000 ||| w = w) (h : Kept r b w s0 s) :
    ∀ a1 a2 a3, Kept r b w s0 (State.formTemp s a1 a2 a3) := by
  intro a1 a2 a3
  unfold State.formTemp
  repeat' first
    | with_reducible assumption
    | with_reducible apply Kept.ite
    | with_reducible refine State.sourceCheck_kept (maskLe (by decide) hw) ?_ _ _
    | with_reducible refine State.disagreeCheck_kept (maskLe (by decide) hw) ?_ _ _
    | with_reducible refine State.setHeat_kept (maskLe (by decide) hw) ?_ _ _
    | with_reducible refine State.therm_kept (maskLe (by decide) hw) ?_ _ _
    | split
    | with_reducible refine Kept.foldl (fun _ _ _ => ?_) _ _ ?_

theorem State.noTemp_kept {r b : Bool} {w : Nat} {s0 s : State} (hw : 0x8000 ||| w = w) (h : Kept r b w s0 s) :
    ∀ a1, Kept r b w s0 (State.noTemp s a1) := by
  intro a1
  unfold State.noTemp
  repeat' first
    | with_reducible assumption
    | with_reducible refine State.setHeat_kept (maskLe (by decide) hw) ?_ _ _

theorem State.thrLevel_kept {r b : Bool} {w : Nat} {s0 s : State} (hw : 0x30e0000002 ||| w = w) (h : Kept r b w s0 s) :
    ∀ a1, Kept r b w s0 (State.thrLevel s a1) := by
  intro a1
  unfold State.thrLevel
  repeat' first
    | with_reducible assumption
    | with_reducible apply Kept.ite
    | with_reducible refine State.therm_kept (maskLe (by decide) hw) ?_ _ _
    | with_reducible refine State.throttleRec_kept (maskLe (by decide) hw) ?_ _ _ _
    | with_reducible refine Kept.pinsThr (maskLe (by decide) hw) ?_ _

theorem State.throttleStep_kept {r b : Bool} {w : Nat} {s0 s : State} (hw : 0x30e0008000 ||| w = w) (h : Kept r b w s0 s) :
    ∀ a1, Kept r b w s0 (State.throttleStep s a1) := by
  intro a1
  unfold State.throttleStep
  repeat' first
    | with_reducible assumption
    | with_reducible apply Kept.ite
    | with_reducible refine State.setHeat_kept (maskLe (by decide) hw) ?_ _ _
    | with_reducible refine State.throttleRec_kept (maskLe (by decide) hw) ?_ _ _ _
    | with_reducible refine State.therm_kept (maskLe (by decide) hw) ?_ _ _
    | (lift_lets -underBinder; intro x; refine Kept.via (r := r) (b := b) (w := w) (s0 := s0) x ?_ ?_;
       on_goal 2 => (clear_value x; intro _); on_goal 1 => try subst x)
    | (lift_lets -underBinder; intro x;
       first
         | (have _ : Pins := x; subst x) | (have _ : _ → State := x; subst x)
         | (have _ : _ → _ → State := x; subst x) | clear_value x)
    | split

theorem State.tripStack_kept {r b : Bool} {w : Nat} {s0 s : State} (hw : 0x30e000c000 ||| w = w) (h : Kept r b w s0 s) :
    ∀ a1, Kept r b w s0 (State.tripStack s a1) := by
  intro a1
  unfold State.tripStack
  repeat' first
    | with_reducible assumption
    | with_reducible apply Kept.ite
    | with_reducible refine State.setHeat_kept (maskLe (by decide) hw) ?_ _ _
    | with_reducible refine State.setSck_kept (maskLe (by decide) hw) ?_ _ _
    | with_reducible refine State.throttleRec_kept (maskLe (by decide) hw) ?_ _ _ _
    | with_reducible refine State.cntG_kept (maskLe (by decide) hw) ?_ _ _
    | with_reducible refine State.therm_kept (maskLe (by decide) hw) ?_ _ _

theorem State.restartStack_kept {r b : Bool} {w : Nat} {s0 s : State} (hw : 0x306005e400 ||| w = w) (h : Kept r b w s0 s) :
    ∀ a1, Kept r b w s0 (State.restartStack s a1) := by
  intro a1
  unfold State.restartStack
  repeat' first
    | with_reducible assumption
    | with_reducible refine State.setHeat_kept (maskLe (by decide) hw) ?_ _ _
    | with_reducible refine State.rewake_kept (maskLe (by decide) hw) ?_ _
    | with_reducible refine State.throttleRec_kept (maskLe (by decide) hw) ?_ _ _ _

theorem State.tripCheck_kept {r b : Bool} {w : Nat} {s0 s : State} (hw : 0x30e7dffdae ||| w = w) (h : Kept r b w s0 s) :
    ∀ a1, Kept r b w s0 (State.tripCheck s a1) := by
  intro a1
  unfold State.tripCheck
  repeat' first
    | with_reducible assumption
    | with_reducible apply Kept.ite
    | with_reducible refine State.tripStack_kept (maskLe (by decide) hw) ?_ _
    | with_reducible refine State.setHeat_kept (maskLe (by decide) hw) ?_ _ _
    | with_reducible refine State.restartStack_kept (maskLe (by decide) hw) ?_ _
    | with_reducible refine State.therm_kept (maskLe (by decide) hw) ?_ _ _
    | with_reducible refine State.setBkp_kept (maskLe (by decide) hw) ?_ _ _ _ _
    | with_reducible refine State.stackDown_kept (maskLe (by decide) hw) ?_ _
    | with_reducible refine State.throttleRec_kept (maskLe (by decide) hw) ?_ _ _ _
    | (lift_lets -underBinder; intro x; refine Kept.via (r := r) (b := b) (w := w) (s0 := s0) x ?_ ?_;
       on_goal 2 => (clear_value x; intro _); on_goal 1 => try subst x)
    | (lift_lets -underBinder; intro x;
       first
         | (have _ : Pins := x; subst x) | (have _ : _ → State := x; subst x)
         | (have _ : _ → _ → State := x; subst x) | clear_value x)
    | split
    | fail_if_no_progress with_reducible refine Kept.upd_pins (maskLe (by decide) hw) ?_ ⟨rfl, rfl, id, id⟩
    | fail_if_no_progress with_reducible refine Kept.upd_pins (maskLe (by decide) hw) ?_ ⟨rfl, rfl, id, fun _ => rfl⟩
    | fail_if_no_progress with_reducible refine Kept.upd_pins (maskLe (by decide) hw) ?_ ⟨rfl, rfl, fun _ => rfl, id⟩

theorem execThermalRestart_kept {r b : Bool} {w : Nat} {s0 s : State} (hw : 0x306005e400 ||| w = w) (h : Kept r b w s0 s) :
    ∀ a1, KeptO r b w s0 (execThermalRestart a1 s) := by
  intro a1
  unfold execThermalRestart
  repeat' first
    | with_reducible assumption
    | with_reducible apply Kept.ite
    | with_reducible apply KeptO.next
    | with_reducible apply KeptO.ite
    | with_reducible refine State.restartStack_kept (maskLe (by decide) hw) ?_ _
    | (lift_lets -underBinder; intro x; refine Kept.via (r := r) (b := b) (w := w) (s0 := s0) x ?_ ?_;
       on_goal 2 => (clear_value x; intro _); on_goal 1 => try subst x)
    | (lift_lets -underBinder; intro x;
       first
         | (have _ : Pins := x; subst x) | (have _ : _ → State := x; subst x)
         | (have _ : _ → _ → State := x; subst x) | clear_value x)
    | split

theorem State.tempTriggers_kept {r b : Bool} {w : Nat} {s0 s : State} (hw : 0x41000 ||| w = w) (h : Kept r b w s0 s) :
    ∀ a1 a2, Kept r b w s0 (State.tempTriggers s a1 a2) := by
  intro a1 a2
  unfold State.tempTriggers
  repeat' first
    | with_reducible assumption
    | with_reducible apply Kept.ite
    | with_reducible refine State.requestRetrain_kept (maskLe (by decide) hw) ?_ _ _ _
    | split
    | with_reducible refine Kept.foldl (fun _ _ _ => ?_) _ _ ?_

theorem State.trimBias_kept {r b : Bool} {w : Nat} {s0 s : State} (hw : 0x40000 ||| w = w) (h : Kept r b w s0 s) :
    ∀ a1 a2, Kept r b w s0 (State.trimBias s a1 a2) := by
  intro a1 a2
  unfold State.trimBias
  repeat' first
    | with_reducible assumption
    | with_reducible apply Kept.ite
    | with_reducible refine State.setChan_kept (maskLe (by decide) hw) ?_ _ _
    | (lift_lets -underBinder; intro x; refine Kept.via (r := r) (b := b) (w := w) (s0 := s0) x ?_ ?_;
       on_goal 2 => (clear_value x; intro _); on_goal 1 => try subst x)
    | (lift_lets -underBinder; intro x;
       first
         | (have _ : Pins := x; subst x) | (have _ : _ → State := x; subst x)
         | (have _ : _ → _ → State := x; subst x) | clear_value x)
    | split
    | with_reducible refine Kept.foldl (fun _ _ _ => ?_) _ _ ?_

theorem State.stackRound_kept {r b : Bool} {w : Nat} {s0 s : State} (hw : 0x30e7dffdae ||| w = w) (h : Kept r b w s0 s) :
    ∀ a1 a2 a3, Kept r b w s0 (State.stackRound s a1 a2 a3) := by
  intro a1 a2 a3
  unfold State.stackRound
  repeat' first
    | with_reducible assumption
    | with_reducible apply Kept.ite
    | with_reducible refine State.trimBias_kept (maskLe (by decide) hw) ?_ _ _
    | with_reducible refine State.tempTriggers_kept (maskLe (by decide) hw) ?_ _ _
    | with_reducible refine State.tripCheck_kept (maskLe (by decide) hw) ?_ _
    | with_reducible refine State.throttleStep_kept (maskLe (by decide) hw) ?_ _
    | with_reducible refine State.thrLevel_kept (maskLe (by decide) hw) ?_ _
    | with_reducible refine State.noTemp_kept (maskLe (by decide) hw) ?_ _
    | with_reducible refine State.formTemp_kept (maskLe (by decide) hw) ?_ _ _ _
    | with_reducible refine State.therm_kept (maskLe (by decide) hw) ?_ _ _
    | with_reducible refine State.setPow_kept (maskLe (by decide) hw) ?_ _ _
    | with_reducible refine State.setHeat_kept (maskLe (by decide) hw) ?_ _ _
    | with_reducible refine State.setSck_kept (maskLe (by decide) hw) ?_ _ _
    | (lift_lets -underBinder; intro x; refine Kept.via (r := r) (b := b) (w := w) (s0 := s0) x ?_ ?_;
       on_goal 2 => (clear_value x; intro _); on_goal 1 => try subst x)
    | (lift_lets -underBinder; intro x;
       first
         | (have _ : Pins := x; subst x) | (have _ : _ → State := x; subst x)
         | (have _ : _ → _ → State := x; subst x) | clear_value x)
    | split
    | dsimp only

theorem State.formGp_kept {r b : Bool} {w : Nat} {s0 s : State} (hw : 0x30e0010000 ||| w = w) (h : Kept r b w s0 s) :
    ∀ a1 a2, Kept r b w s0 (State.formGp s a1 a2) := by
  intro a1 a2
  unfold State.formGp
  repeat' first
    | with_reducible assumption
    | with_reducible apply Kept.ite
    | with_reducible refine State.setPow_kept (maskLe (by decide) hw) ?_ _ _
    | with_reducible refine State.note_kept (maskLe (by decide) hw) ?_ _ _ _ _
    | with_reducible refine State.therm_kept (maskLe (by decide) hw) ?_ _ _
    | (lift_lets -underBinder; intro x; refine Kept.via (r := r) (b := b) (w := w) (s0 := s0) x ?_ ?_;
       on_goal 2 => (clear_value x; intro _); on_goal 1 => try subst x)
    | (lift_lets -underBinder; intro x;
       first
         | (have _ : Pins := x; subst x) | (have _ : _ → State := x; subst x)
         | (have _ : _ → _ → State := x; subst x) | clear_value x)
    | split
    | with_reducible refine Kept.foldl (fun _ _ _ => ?_) _ _ ?_
    | with_reducible refine Kept.foldl1 (fun _ _ _ => ?_) _ _ ?_
    | dsimp only

theorem State.chargeEnergy_kept {r b : Bool} {w : Nat} {s0 s : State} (hw : 0x30000000 ||| w = w) (h : Kept r b w s0 s) :
    ∀ a1 a2 a3, Kept r b w s0 (State.chargeEnergy s a1 a2 a3) := by
  intro a1 a2 a3
  unfold State.chargeEnergy
  repeat' first
    | with_reducible assumption
    | with_reducible apply Kept.ite
    | with_reducible refine State.cntT_kept (maskLe (by decide) hw) ?_ _ _ _
    | with_reducible refine State.setTenSt_kept (maskLe (by decide) hw) ?_ _ _

theorem State.chargeUnassigned_kept {r b : Bool} {w : Nat} {s0 s : State} (hw : 0x20000000 ||| w = w) (h : Kept r b w s0 s) :
    ∀ a1, Kept r b w s0 (State.chargeUnassigned s a1) := by
  intro a1
  unfold State.chargeUnassigned
  repeat' first
    | with_reducible assumption
    | with_reducible refine State.cntG_kept (maskLe (by decide) hw) ?_ _ _
    | fail_if_no_progress with_reducible refine Kept.upd_cnt (maskLe (by decide) hw) ?_

theorem State.chargeLeaf_kept {r b : Bool} {w : Nat} {s0 s : State} (hw : 0x30000000 ||| w = w) (h : Kept r b w s0 s) :
    ∀ a1 a2, Kept r b w s0 (State.chargeLeaf s a1 a2) := by
  intro a1 a2
  unfold State.chargeLeaf
  repeat' first
    | with_reducible assumption
    | with_reducible apply Kept.ite
    | with_reducible refine State.chargeEnergy_kept (maskLe (by decide) hw) ?_ _ _ _
    | with_reducible refine State.chargeUnassigned_kept (maskLe (by decide) hw) ?_ _
    | split
    | with_reducible refine Kept.foldl (fun _ _ _ => ?_) _ _ ?_

theorem State.accountEnergy_kept {r b : Bool} {w : Nat} {s0 s : State} (hw : 0x30010000 ||| w = w) (h : Kept r b w s0 s) :
    ∀ a1, Kept r b w s0 (State.accountEnergy s a1) := by
  intro a1
  unfold State.accountEnergy
  repeat' first
    | with_reducible assumption
    | with_reducible apply Kept.ite
    | with_reducible refine State.chargeEnergy_kept (maskLe (by decide) hw) ?_ _ _ _
    | with_reducible refine State.chargeUnassigned_kept (maskLe (by decide) hw) ?_ _
    | with_reducible refine State.chargeLeaf_kept (maskLe (by decide) hw) ?_ _ _
    | with_reducible refine State.setPow_kept (maskLe (by decide) hw) ?_ _ _
    | with_reducible refine State.cntG_kept (maskLe (by decide) hw) ?_ _ _
    | fail_if_no_progress with_reducible refine Kept.upd_cnt (maskLe (by decide) hw) ?_
    | split
    | with_reducible refine Kept.foldl (fun _ _ _ => ?_) _ _ ?_
    | with_reducible refine Kept.foldl1 (fun _ _ _ => ?_) _ _ ?_

theorem State.throttleWords_kept {r b : Bool} {w : Nat} {s0 s : State} (hw : 0x3070000020 ||| w = w) (h : Kept r b w s0 s) :
    Kept r b w s0 (State.throttleWords s) := by
  unfold State.throttleWords
  repeat' first
    | with_reducible assumption
    | with_reducible apply Kept.ite
    | with_reducible refine State.setTenSt_kept (maskLe (by decide) hw) ?_ _ _
    | with_reducible refine State.notify_kept (maskLe (by decide) hw) ?_ _ _ _ _
    | (lift_lets -underBinder; intro x; refine Kept.via (r := r) (b := b) (w := w) (s0 := s0) x ?_ ?_;
       on_goal 2 => (clear_value x; intro _); on_goal 1 => try subst x)
    | split
    | with_reducible refine Kept.foldl (fun _ _ _ => ?_) _ _ ?_

theorem State.compensate_kept {r b : Bool} {w : Nat} {s0 s : State} (hw : 0x1 ||| w = w) (h : Kept r b w s0 s) :
    ∀ a1, Kept r b w s0 (State.compensate s a1) := by
  intro a1
  unfold State.compensate
  repeat' first
    | with_reducible assumption
    | with_reducible apply Kept.ite
    | fail_if_no_progress with_reducible refine Kept.upd_clk (maskLe (by decide) hw) ?_
    | split

theorem execHousekeepingRound_kept {r b : Bool} {w : Nat} {s0 s : State} (hw : 0x30f7dffdaf ||| w = w) (h : Kept r b w s0 s) :
    ∀ a1, KeptO r b w s0 (execHousekeepingRound a1 s) := by
  intro a1
  unfold execHousekeepingRound
  repeat' first
    | with_reducible assumption
    | with_reducible apply Kept.ite
    | with_reducible apply KeptO.next
    | with_reducible apply KeptO.ite
    | with_reducible refine State.compensate_kept (maskLe (by decide) hw) ?_ _
    | with_reducible refine State.throttleWords_kept (maskLe (by decide) hw) ?_
    | with_reducible refine State.accountEnergy_kept (maskLe (by decide) hw) ?_ _
    | with_reducible refine State.formGp_kept (maskLe (by decide) hw) ?_ _ _
    | with_reducible refine State.stackRound_kept (maskLe (by decide) hw) ?_ _ _ _
    | with_reducible refine State.note_kept (maskLe (by decide) hw) ?_ _ _ _ _
    | fail_if_no_progress with_reducible refine Kept.upd_regs (maskLe (by decide) hw) ?_
    | fail_if_no_progress with_reducible refine Kept.upd_pins (maskLe (by decide) hw) ?_ ⟨rfl, rfl, id, id⟩
    | (lift_lets -underBinder; intro x; refine Kept.via (r := r) (b := b) (w := w) (s0 := s0) x ?_ ?_;
       on_goal 2 => (clear_value x; intro _); on_goal 1 => try subst x)
    | (lift_lets -underBinder; intro x;
       first
         | (have _ : Pins := x; subst x) | (have _ : _ → State := x; subst x)
         | (have _ : _ → _ → State := x; subst x) | clear_value x)
    | split
    | with_reducible refine Kept.foldl (fun _ _ _ => ?_) _ _ ?_

theorem State.estimate_kept {r b : Bool} {w : Nat} {s0 s : State} (hw : 0x10000 ||| w = w) (h : Kept r b w s0 s) :
    ∀ a1, Kept r b w s0 (State.estimate s a1) := by
  intro a1
  unfold State.estimate
  repeat' first
    | with_reducible assumption
    | with_reducible refine State.setPow_kept (maskLe (by decide) hw) ?_ _ _

theorem State.setLadder_kept {r b : Bool} {w : Nat} {s0 s : State} (hw : 0x3060010000 ||| w = w) (h : Kept r b w s0 s) :
    ∀ a1 a2, Kept r b w s0 (State.setLadder s a1 a2) := by
  intro a1 a2
  unfold State.setLadder
  repeat' first
    | with_reducible assumption
    | with_reducible apply Kept.ite
    | with_reducible refine State.setPow_kept (maskLe (by decide) hw) ?_ _ _
    | with_reducible refine State.throttleRec_kept (maskLe (by decide) hw) ?_ _ _ _

theorem State.ladderStep_kept {r b : Bool} {w : Nat} {s0 s : State} (hw : 0x3060010000 ||| w = w) (h : Kept r b w s0 s) :
    ∀ a1 a2 a3, Kept r b w s0 (State.ladderStep s a1 a2 a3) := by
  intro a1 a2 a3
  unfold State.ladderStep
  repeat' first
    | with_reducible assumption
    | with_reducible apply Kept.ite
    | with_reducible refine State.setLadder_kept (maskLe (by decide) hw) ?_ _ _

theorem execPowerLadderStep_kept {r b : Bool} {w : Nat} {s0 s : State} (hw : 0x30e0010000 ||| w = w) (h : Kept r b w s0 s) :
    KeptO r b w s0 (execPowerLadderStep s) := by
  unfold execPowerLadderStep
  repeat' first
    | with_reducible assumption
    | with_reducible apply Kept.ite
    | with_reducible apply KeptO.next
    | with_reducible apply KeptO.ite
    | with_reducible refine State.ladderStep_kept (maskLe (by decide) hw) ?_ _ _ _
    | with_reducible refine State.estimate_kept (maskLe (by decide) hw) ?_ _
    | with_reducible refine State.setPow_kept (maskLe (by decide) hw) ?_ _ _
    | fail_if_no_progress with_reducible refine Kept.upd_regs (maskLe (by decide) hw) ?_
    | (lift_lets -underBinder; intro x; refine Kept.via (r := r) (b := b) (w := w) (s0 := s0) x ?_ ?_;
       on_goal 2 => (clear_value x; intro _); on_goal 1 => try subst x)
    | (lift_lets -underBinder; intro x;
       first
         | (have _ : Pins := x; subst x) | (have _ : _ → State := x; subst x)
         | (have _ : _ → _ → State := x; subst x) | clear_value x)
    | split
    | with_reducible refine Kept.foldl (fun _ _ _ => ?_) _ _ ?_

theorem execDroop_kept {r b : Bool} {w : Nat} {s0 s : State} (hw : 0x20010000 ||| w = w) (h : Kept r b w s0 s) :
    ∀ a1, KeptO r b w s0 (execDroop a1 s) := by
  intro a1
  unfold execDroop
  repeat' first
    | with_reducible assumption
    | with_reducible apply Kept.ite
    | with_reducible apply KeptO.next
    | with_reducible apply KeptO.ite
    | with_reducible refine State.tally_kept (maskLe (by decide) hw) ?_ _ _ _ _
    | with_reducible refine State.setPow_kept (maskLe (by decide) hw) ?_ _ _

theorem State.endStretch_kept {r b : Bool} {w : Nat} {s0 s : State} (hw : 0x14000 ||| w = w) (h : Kept r b w s0 s) :
    ∀ a1 a2, Kept r b w s0 (State.endStretch s a1 a2) := by
  intro a1 a2
  unfold State.endStretch
  repeat' first
    | with_reducible assumption
    | with_reducible refine State.setSck_kept (maskLe (by decide) hw) ?_ _ _
    | with_reducible refine State.setPow_kept (maskLe (by decide) hw) ?_ _ _

theorem execDroopLong_kept {r b : Bool} {w : Nat} {s0 s : State} (hw : 0x30e0014000 ||| w = w) (h : Kept r b w s0 s) :
    ∀ a1, KeptO r b w s0 (execDroopLong a1 s) := by
  intro a1
  unfold execDroopLong
  repeat' first
    | with_reducible assumption
    | with_reducible apply Kept.ite
    | with_reducible apply KeptO.next
    | with_reducible apply KeptO.ite
    | with_reducible refine State.note_kept (maskLe (by decide) hw) ?_ _ _ _ _
    | with_reducible refine State.therm_kept (maskLe (by decide) hw) ?_ _ _
    | with_reducible refine State.tally_kept (maskLe (by decide) hw) ?_ _ _ _ _
    | with_reducible refine State.endStretch_kept (maskLe (by decide) hw) ?_ _ _
    | with_reducible refine State.setLadder_kept (maskLe (by decide) hw) ?_ _ _

theorem execDroopEnd_kept {r b : Bool} {w : Nat} {s0 s : State} (hw : 0x14000 ||| w = w) (h : Kept r b w s0 s) :
    ∀ a1 a2, KeptO r b w s0 (execDroopEnd a1 a2 s) := by
  intro a1 a2
  unfold execDroopEnd
  repeat' first
    | with_reducible assumption
    | with_reducible apply Kept.ite
    | with_reducible apply KeptO.next
    | with_reducible apply KeptO.ite
    | with_reducible refine State.endStretch_kept (maskLe (by decide) hw) ?_ _ _

theorem execMarkerRefill_kept {r b : Bool} {w : Nat} {s0 s : State} (hw : 0xa01821a0 ||| w = w) (h : Kept r b w s0 s) :
    ∀ a1 a2, KeptO r b w s0 (execMarkerRefill a1 a2 s) := by
  intro a1 a2
  unfold execMarkerRefill
  repeat' first
    | with_reducible assumption
    | with_reducible apply KeptO.next
    | with_reducible refine State.refillMarker_kept (maskLe (by decide) hw) ?_ _ _
    | with_reducible refine State.mark_kept (maskLe (by decide) hw) ?_ _ _
    | with_reducible refine Kept.foldl (fun _ _ _ => ?_) _ _ ?_

theorem execDebtCharge_kept {r b : Bool} {w : Nat} {s0 s : State} (hw : 0x20380000 ||| w = w) (h : Kept r b w s0 s) :
    KeptO r b w s0 (execDebtCharge s) := by
  unfold execDebtCharge
  repeat' first
    | with_reducible assumption
    | with_reducible apply KeptO.next
    | with_reducible refine State.debtMarker_kept (maskLe (by decide) hw) ?_ _ _ _
    | with_reducible refine State.debtFlow_kept (maskLe (by decide) hw) ?_ _ _ _ _
    | with_reducible refine State.cntT_kept (maskLe (by decide) hw) ?_ _ _ _
    | fail_if_no_progress with_reducible refine Kept.upd_debts (maskLe (by decide) hw) ?_
    | split

theorem execGateRelease_kept {r b : Bool} {w : Nat} {s0 s : State} (hw : 0xa01821a0 ||| w = w) (h : Kept r b w s0 s) :
    ∀ a1, KeptO r b w s0 (execGateRelease a1 s) := by
  intro a1
  unfold execGateRelease
  repeat' first
    | with_reducible assumption
    | with_reducible apply Kept.ite
    | with_reducible apply KeptO.next
    | with_reducible apply KeptO.ite
    | with_reducible refine State.enterQuire_kept (maskLe (by decide) hw) ?_ _
    | split
    | with_reducible refine Kept.foldl (fun _ _ _ => ?_) _ _ ?_

theorem State.drrRelease_kept {r b : Bool} {w : Nat} {s0 s : State} (hw : 0x30e05d67a0 ||| w = w) (h : Kept r b w s0 s) :
    ∀ a1 a2, Kept r b w s0 (State.drrRelease s a1 a2) := by
  intro a1 a2
  unfold State.drrRelease
  repeat' first
    | with_reducible assumption
    | with_reducible apply Kept.ite
    | with_reducible refine State.gatherGo_kept _ (maskLe (by decide) hw) ?_ _
    | with_reducible refine State.sendFill_kept (maskLe (by decide) hw) ?_ _
    | with_reducible refine State.drrPassed_kept (maskLe (by decide) hw) ?_ _

theorem State.drrGo_kept {r b : Bool} {w : Nat} {s0 : State} (n : Nat) (hw : 0x30e05d67a0 ||| w = w) :
    ∀ {s : State}, Kept r b w s0 s → ∀ a2 a3, Kept r b w s0 (State.drrGo n a2 s a3) := by
  induction n with
  | zero =>
    intro s h a2 a3
    exact h
  | succ n ih =>
    intro s h a2 a3
    unfold State.drrGo
    repeat' first
    | with_reducible apply ih
    | with_reducible assumption
    | with_reducible apply Kept.ite
    | with_reducible refine State.drrRelease_kept (maskLe (by decide) hw) ?_ _ _
    | with_reducible refine State.setDrr_kept (maskLe (by decide) hw) ?_ _ _
    | (lift_lets -underBinder; intro x; refine Kept.via (r := r) (b := b) (w := w) (s0 := s0) x ?_ ?_;
       on_goal 2 => (clear_value x; intro _); on_goal 1 => try subst x)
    | (lift_lets -underBinder; intro x;
       first
         | (have _ : Pins := x; subst x) | (have _ : _ → State := x; subst x)
         | (have _ : _ → _ → State := x; subst x) | clear_value x)
    | split
    | dsimp only

theorem execDrrRelease_kept {r b : Bool} {w : Nat} {s0 s : State} (hw : 0x30e05d67a0 ||| w = w) (h : Kept r b w s0 s) :
    ∀ a1, KeptO r b w s0 (execDrrRelease a1 s) := by
  intro a1
  unfold execDrrRelease
  repeat' first
    | with_reducible assumption
    | with_reducible apply KeptO.next
    | with_reducible refine State.drrGo_kept _ (maskLe (by decide) hw) ?_ _ _

end Sys2Proof.Machine
end

