-- ==== Sys2Proof/Laws/KeptMail.lean ====
section
/-! SUPPORT. What the functions of Sheets, MailCheck, MailStage, Hosts, MailOps
keep and may change: one lemma each, in the order of their calls. -/

namespace Sys2Proof.Machine

theorem State.dropTickets_kept {r b : Bool} {w : Nat} {s0 s : State} (hw : 0x4000000 ||| w = w) (h : Kept r b w s0 s) :
    ∀ a1, Kept r b w s0 (State.dropTickets s a1) := by
  intro a1
  unfold State.dropTickets
  repeat' first
    | with_reducible assumption
    | fail_if_no_progress with_reducible refine Kept.upd_tickets (maskLe (by decide) hw) ?_

theorem State.pathFlows_kept {r b : Bool} {w : Nat} {s0 s : State} (hw : 0x80000 ||| w = w) (h : Kept r b w s0 s) :
    ∀ a1, Kept r b w s0 (State.pathFlows s a1) := by
  intro a1
  unfold State.pathFlows
  repeat' first
    | with_reducible assumption
    | with_reducible apply Kept.ite
    | with_reducible refine State.setDrr_kept (maskLe (by decide) hw) ?_ _ _
    | (lift_lets -underBinder; intro x; refine Kept.via (r := r) (b := b) (w := w) (s0 := s0) x ?_ ?_;
       on_goal 2 => (clear_value x; intro _); on_goal 1 => try subst x)
    | (lift_lets -underBinder; intro x;
       first
         | (have _ : Pins := x; subst x) | (have _ : _ → State := x; subst x)
         | (have _ : _ → _ → State := x; subst x) | clear_value x)
    | with_reducible refine Kept.foldl (fun _ _ _ => ?_) _ _ ?_

theorem State.openTenant_kept {r b : Bool} {w : Nat} {s0 s : State} (hw : 0x30180000 ||| w = w) (h : Kept r b w s0 s) :
    ∀ a1, Kept r b w s0 (State.openTenant s a1) := by
  intro a1
  unfold State.openTenant
  repeat' first
    | with_reducible assumption
    | with_reducible apply Kept.ite
    | with_reducible refine State.pathFlows_kept (maskLe (by decide) hw) ?_ _
    | with_reducible refine State.fillMarkers_kept (maskLe (by decide) hw) ?_ _
    | with_reducible refine State.setTenSt_kept (maskLe (by decide) hw) ?_ _ _
    | fail_if_no_progress with_reducible refine Kept.upd_cnt (maskLe (by decide) hw) ?_

theorem State.closeTickets_kept {r b : Bool} {w : Nat} {s0 s : State} (hw : 0x7000004 ||| w = w) (h : Kept r b w s0 s) :
    ∀ a1, Kept r b w s0 (State.closeTickets s a1) := by
  intro a1
  unfold State.closeTickets
  repeat' first
    | with_reducible assumption
    | with_reducible apply Kept.ite
    | with_reducible refine State.finishAt_kept (maskLe (by decide) hw) ?_ _ _ _ _
    | with_reducible refine State.setPage_kept (maskLe (by decide) hw) ?_ _ _
    | split
    | with_reducible refine Kept.foldl (fun _ _ _ => ?_) _ _ ?_

theorem State.freeTenant_kept {r b : Bool} {w : Nat} {s0 s : State} (hw : 0x5700000c ||| w = w) (h : Kept r b w s0 s) :
    ∀ a1, Kept r b w s0 (State.freeTenant s a1) := by
  intro a1
  unfold State.freeTenant
  repeat' first
    | with_reducible assumption
    | with_reducible refine State.setTenSt_kept (maskLe (by decide) hw) ?_ _ _
    | with_reducible refine State.closeTickets_kept (maskLe (by decide) hw) ?_ _
    | fail_if_no_progress with_reducible refine Kept.upd_trace (maskLe (by decide) hw) ?_
    | with_reducible refine State.setBank_kept (maskLe (by decide) hw) ?_ (fun _ => ⟨rfl, rfl, rfl, rfl, ⟨rfl, rfl⟩, rfl, rfl, rfl, rfl, rfl, rfl, rfl, rfl⟩)

theorem State.settleTenants_kept {r b : Bool} {w : Nat} {s0 s : State} (hw : 0x5700000c ||| w = w) (h : Kept r b w s0 s) :
    Kept r b w s0 (State.settleTenants s) := by
  unfold State.settleTenants
  repeat' first
    | with_reducible assumption
    | with_reducible apply Kept.ite
    | with_reducible refine State.freeTenant_kept (maskLe (by decide) hw) ?_ _
    | with_reducible refine State.setBank_kept (maskLe (by decide) hw) ?_ (fun _ => ⟨rfl, rfl, rfl, rfl, ⟨rfl, rfl⟩, rfl, rfl, rfl, rfl, rfl, rfl, rfl, rfl⟩)
    | split
    | with_reducible refine Kept.foldl (fun _ _ _ => ?_) _ _ ?_

theorem State.startZero_kept {r b : Bool} {w : Nat} {s0 s : State} (hw : 0x1008 ||| w = w) (h : Kept r b w s0 s) :
    ∀ a1, Kept r b w s0 (State.startZero s a1) := by
  intro a1
  unfold State.startZero
  repeat' first
    | with_reducible assumption
    | with_reducible refine State.request_kept (maskLe (by decide) hw) ?_ _ _
    | with_reducible refine State.setCare_kept (maskLe (by decide) hw) ?_ _ _
    | with_reducible refine State.setBank_kept (maskLe (by decide) hw) ?_ (fun _ => ⟨rfl, rfl, rfl, rfl, ⟨rfl, rfl⟩, rfl, rfl, rfl, rfl, rfl, rfl, rfl, rfl⟩)
    | (lift_lets -underBinder; intro x; refine Kept.via (r := r) (b := b) (w := w) (s0 := s0) x ?_ ?_;
       on_goal 2 => (clear_value x; intro _); on_goal 1 => try subst x)
    | (lift_lets -underBinder; intro x;
       first
         | (have _ : Pins := x; subst x) | (have _ : _ → State := x; subst x)
         | (have _ : _ → _ → State := x; subst x) | clear_value x)
    | with_reducible refine Kept.foldl (fun _ _ _ => ?_) _ _ ?_

theorem execQuireDrainEnd_kept {r b : Bool} {w : Nat} {s0 s : State} (hw : 0x5700100c ||| w = w) (h : Kept r b w s0 s) :
    ∀ a1, KeptO r b w s0 (execQuireDrainEnd a1 s) := by
  intro a1
  unfold execQuireDrainEnd
  repeat' first
    | with_reducible assumption
    | with_reducible apply Kept.ite
    | with_reducible apply KeptO.next
    | with_reducible apply KeptO.ite
    | with_reducible refine State.settleTenants_kept (maskLe (by decide) hw) ?_
    | with_reducible refine State.startZero_kept (maskLe (by decide) hw) ?_ _

theorem State.chargeFill_kept {r b : Bool} {w : Nat} {s0 s : State} (hw : 0x10000 ||| w = w) (h : Kept r b w s0 s) :
    ∀ a1, Kept r b w s0 (State.chargeFill s a1) := by
  intro a1
  unfold State.chargeFill
  repeat' first
    | with_reducible assumption
    | with_reducible refine State.setPow_kept (maskLe (by decide) hw) ?_ _ _

theorem State.leafFilled_kept {r b : Bool} {w : Nat} {s0 s : State} (hw : 0x1000 ||| w = w) (h : Kept r b w s0 s) :
    ∀ a1, Kept r b w s0 (State.leafFilled s a1) := by
  intro a1
  unfold State.leafFilled
  repeat' first
    | with_reducible assumption
    | with_reducible refine State.setCare_kept (maskLe (by decide) hw) ?_ _ _

theorem State.fillLeaf_kept {r b : Bool} {w : Nat} {s0 s : State} (hw : 0x3000011000 ||| w = w) (h : Kept r b w s0 s) :
    ∀ a1, Kept r b w s0 (State.fillLeaf s a1) := by
  intro a1
  unfold State.fillLeaf
  repeat' first
    | with_reducible assumption
    | with_reducible refine State.zeroLeaf_kept (maskLe (by decide) hw) ?_ _
    | with_reducible refine State.chargeFill_kept (maskLe (by decide) hw) ?_ _
    | with_reducible refine State.leafFilled_kept (maskLe (by decide) hw) ?_ _

theorem execZeroFillEnd_kept {r b : Bool} {w : Nat} {s0 s : State} (hw : 0x5705760c ||| w = w) (h : Kept r b w s0 s) :
    ∀ a1, KeptO r b w s0 (execZeroFillEnd a1 s) := by
  intro a1
  unfold execZeroFillEnd
  repeat' first
    | with_reducible assumption
    | with_reducible apply Kept.ite
    | with_reducible apply KeptO.next
    | with_reducible apply KeptO.ite
    | with_reducible refine State.leafFilled_kept (maskLe (by decide) hw) ?_ _
    | with_reducible refine State.settleTenants_kept (maskLe (by decide) hw) ?_
    | with_reducible refine State.parkLeaf_kept (maskLe (by decide) hw) ?_ _
    | with_reducible refine State.endAct_kept (maskLe (by decide) hw) ?_ _ _
    | with_reducible refine State.setBank_kept (maskLe (by decide) hw) ?_ (fun _ => ⟨rfl, rfl, rfl, rfl, ⟨rfl, rfl⟩, rfl, rfl, rfl, rfl, rfl, rfl, rfl, rfl⟩)
    | split
    | with_reducible refine Kept.foldl (fun _ _ _ => ?_) _ _ ?_

theorem State.policerLive_kept {r b : Bool} {w : Nat} {s0 s : State} (hw : 0x180000 ||| w = w) (h : Kept r b w s0 s) :
    ∀ a1 a2, Kept r b w s0 (State.policerLive s a1 a2) := by
  intro a1 a2
  unfold State.policerLive
  repeat' first
    | with_reducible assumption
    | with_reducible apply Kept.ite
    | with_reducible refine State.setMarker_kept (maskLe (by decide) hw) ?_ _ _ _
    | fail_if_no_progress with_reducible refine Kept.upd_drrs (maskLe (by decide) hw) ?_
    | split
    | with_reducible refine Kept.foldl (fun _ _ _ => ?_) _ _ ?_

theorem State.ownerMoved_kept {r b : Bool} {w : Nat} {s0 s : State} (hw : 0x41000000 ||| w = w) (h : Kept r b w s0 s) :
    ∀ a1, Kept r b w s0 (State.ownerMoved s a1) := by
  intro a1
  unfold State.ownerMoved
  repeat' first
    | with_reducible assumption
    | with_reducible refine State.postEvent_kept (maskLe (by decide) hw) ?_ _ _ _
    | fail_if_no_progress with_reducible refine Kept.upd_trace (maskLe (by decide) hw) ?_
    | (lift_lets -underBinder; intro x; refine Kept.via (r := r) (b := b) (w := w) (s0 := s0) x ?_ ?_;
       on_goal 2 => (clear_value x; intro _); on_goal 1 => try subst x)
    | (lift_lets -underBinder; intro x;
       first
         | (have _ : Pins := x; subst x) | (have _ : _ → State := x; subst x)
         | (have _ : _ → _ → State := x; subst x) | clear_value x)
    | with_reducible refine Kept.foldl (fun _ _ _ => ?_) _ _ ?_

theorem State.stackUp_kept {r b : Bool} {w : Nat} {s0 s : State} (hw : 0x7074404 ||| w = w) (h : Kept r b w s0 s) :
    ∀ a1, Kept r b w s0 (State.stackUp s a1) := by
  intro a1
  unfold State.stackUp
  repeat' first
    | with_reducible assumption
    | with_reducible apply Kept.ite
    | with_reducible refine State.finish_kept (maskLe (by decide) hw) ?_ _ _ _ _
    | with_reducible refine State.afterTraining_kept (maskLe (by decide) hw) ?_ _ _
    | with_reducible refine State.setSup_kept (maskLe (by decide) hw) ?_ _ _
    | with_reducible refine State.setPow_kept (maskLe (by decide) hw) ?_ _ _
    | with_reducible refine State.setSck_kept (maskLe (by decide) hw) ?_ _ _

theorem State.calLive_kept {r b : Bool} {w : Nat} {s0 s : State} (hw : 0x7060004 ||| w = w) (h : Kept r b w s0 s) :
    ∀ a1 a2 a3, Kept r b w s0 (State.calLive s a1 a2 a3) := by
  intro a1 a2 a3
  unfold State.calLive
  repeat' first
    | with_reducible assumption
    | with_reducible apply Kept.ite
    | with_reducible refine State.finishAt_kept (maskLe (by decide) hw) ?_ _ _ _ _
    | with_reducible refine State.setSup_kept (maskLe (by decide) hw) ?_ _ _
    | with_reducible refine State.putCal_kept (maskLe (by decide) hw) ?_ _ _
    | with_reducible refine State.retrainOver_kept (maskLe (by decide) hw) ?_ _ _
    | with_reducible refine State.setChan_kept (maskLe (by decide) hw) ?_ _ _
    | fail_if_no_progress with_reducible refine Kept.upd_boot (maskLe (by decide) hw) ?_
    | split
    | with_reducible refine Kept.foldl (fun _ _ _ => ?_) _ _ ?_

theorem State.handoverLive_kept {r b : Bool} {w : Nat} {s0 s : State} (hw : 0x4 ||| w = w) (h : Kept r b w s0 s) :
    ∀ a1 a2, Kept r b w s0 (State.handoverLive s a1 a2) := by
  intro a1 a2
  unfold State.handoverLive
  repeat' first
    | with_reducible assumption
    | with_reducible apply Kept.ite
    | with_reducible refine State.setBkp_kept (maskLe (by decide) hw) ?_ _ _ _ _
    | fail_if_no_progress with_reducible refine Kept.upd_boot (maskLe (by decide) hw) ?_

theorem State.adoptLive_kept {r b : Bool} {w : Nat} {s0 s : State} (hw : 0x7000000 ||| w = w) (h : Kept r b w s0 s) :
    ∀ a1 a2 a3, Kept r b w s0 (State.adoptLive s a1 a2 a3) := by
  intro a1 a2 a3
  unfold State.adoptLive
  repeat' first
    | with_reducible assumption
    | with_reducible refine State.setPage_kept (maskLe (by decide) hw) ?_ _ _
    | with_reducible refine State.dropTickets_kept (maskLe (by decide) hw) ?_ _
    | with_reducible refine State.postEvent_kept (maskLe (by decide) hw) ?_ _ _ _
    | fail_if_no_progress with_reducible refine Kept.upd_serviceq_tickets (maskLe (by decide) hw) ?_
    | split

theorem State.itemLive_kept {r b : Bool} {w : Nat} {s0 s : State} (hw : 0x30f75f77ec ||| w = w) (h : Kept r b w s0 s) :
    ∀ a1 a2, Kept r b w s0 (State.itemLive s a1 a2) := by
  intro a1 a2
  unfold State.itemLive
  repeat' first
    | with_reducible assumption
    | with_reducible apply Kept.ite
    | with_reducible refine State.adoptLive_kept (maskLe (by decide) hw) ?_ _ _ _
    | with_reducible refine State.handoverLive_kept (maskLe (by decide) hw) ?_ _ _
    | with_reducible refine State.calLive_kept (maskLe (by decide) hw) ?_ _ _ _
    | with_reducible refine State.ownerMoved_kept (maskLe (by decide) hw) ?_ _
    | with_reducible refine State.policerLive_kept (maskLe (by decide) hw) ?_ _ _
    | with_reducible refine State.startZero_kept (maskLe (by decide) hw) ?_ _
    | with_reducible refine State.closeTickets_kept (maskLe (by decide) hw) ?_ _
    | with_reducible refine State.openTenant_kept (maskLe (by decide) hw) ?_ _
    | with_reducible refine State.dropTickets_kept (maskLe (by decide) hw) ?_ _
    | with_reducible refine State.setBkp_kept (maskLe (by decide) hw) ?_ _ _ _ _
    | with_reducible refine State.portLive_kept (maskLe (by decide) hw) ?_ _ _
    | with_reducible refine State.startTransition_kept (maskLe (by decide) hw) ?_ _ _ _ _
    | with_reducible refine State.postEvent_kept (maskLe (by decide) hw) ?_ _ _ _
    | with_reducible refine State.setPage_kept (maskLe (by decide) hw) ?_ _ _
    | with_reducible refine State.setSck_kept (maskLe (by decide) hw) ?_ _ _
    | fail_if_no_progress with_reducible refine Kept.upd_lake (maskLe (by decide) hw) ?_
    | fail_if_no_progress with_reducible refine Kept.upd_tickets (maskLe (by decide) hw) ?_
    | split

theorem State.liveTicket_kept {r b : Bool} {w : Nat} {s0 s : State} (hw : 0x4000000 ||| w = w) (h : Kept r b w s0 s) :
    ∀ a1 a2, Kept r b w s0 (State.liveTicket s a1 a2) := by
  intro a1 a2
  unfold State.liveTicket
  repeat' first
    | with_reducible assumption
    | with_reducible apply Kept.ite
    | fail_if_no_progress with_reducible refine Kept.upd_tickets (maskLe (by decide) hw) ?_
    | split

theorem State.ticketLive_kept {r b : Bool} {w : Nat} {s0 s : State} (hw : 0x7000004 ||| w = w) (h : Kept r b w s0 s) :
    ∀ a1 a2, Kept r b w s0 (State.ticketLive s a1 a2) := by
  intro a1 a2
  unfold State.ticketLive
  repeat' first
    | with_reducible assumption
    | with_reducible apply Kept.ite
    | with_reducible refine State.finishAt_kept (maskLe (by decide) hw) ?_ _ _ _ _
    | split

theorem State.setLive_kept {r : Bool} {w : Nat} {s0 s : State} (hw : 0x30f75f77ed ||| w = w) (h : Kept r true w s0 s) :
    ∀ a1 a2 a3, Kept r true w s0 (State.setLive a1 a2 s a3) := by
  intro a1 a2 a3
  unfold State.setLive
  repeat' first
    | with_reducible assumption
    | with_reducible apply Kept.ite
    | with_reducible refine State.ticketLive_kept (maskLe (by decide) hw) ?_ _ _
    | with_reducible refine State.liveTicket_kept (maskLe (by decide) hw) ?_ _ _
    | with_reducible refine State.itemLive_kept (maskLe (by decide) hw) ?_ _ _
    | with_reducible refine State.stackUp_kept (maskLe (by decide) hw) ?_ _
    | with_reducible refine State.failQuire_kept (maskLe (by decide) hw) ?_ _
    | with_reducible refine State.finishAt_kept (maskLe (by decide) hw) ?_ _ _ _ _
    | with_reducible refine State.cntG_kept (maskLe (by decide) hw) ?_ _ _
    | with_reducible refine State.setBank_kept (maskLe (by decide) hw) ?_ (fun e => Bool.noConfusion e)
    | fail_if_no_progress with_reducible refine Kept.upd_clk (maskLe (by decide) hw) ?_
    | split
    | with_reducible refine Kept.foldl (fun _ _ _ => ?_) _ _ ?_

theorem State.flowsLeave_kept {r b : Bool} {w : Nat} {s0 s : State} (hw : 0x80000 ||| w = w) (h : Kept r b w s0 s) :
    ∀ a1, Kept r b w s0 (State.flowsLeave s a1) := by
  intro a1
  unfold State.flowsLeave
  repeat' first
    | with_reducible assumption
    | with_reducible apply Kept.ite
    | with_reducible refine State.setDrr_kept (maskLe (by decide) hw) ?_ _ _
    | (lift_lets -underBinder; intro x; refine Kept.via (r := r) (b := b) (w := w) (s0 := s0) x ?_ ?_;
       on_goal 2 => (clear_value x; intro _); on_goal 1 => try subst x)
    | (lift_lets -underBinder; intro x;
       first
         | (have _ : Pins := x; subst x) | (have _ : _ → State := x; subst x)
         | (have _ : _ → _ → State := x; subst x) | clear_value x)
    | split
    | with_reducible refine Kept.foldl (fun _ _ _ => ?_) _ _ ?_

theorem State.profileMarkers_kept {r b : Bool} {w : Nat} {s0 s : State} (hw : 0x180000 ||| w = w) (h : Kept r b w s0 s) :
    ∀ a1 a2, Kept r b w s0 (State.profileMarkers s a1 a2) := by
  intro a1 a2
  unfold State.profileMarkers
  repeat' first
    | with_reducible assumption
    | with_reducible apply Kept.ite
    | with_reducible refine State.policerLive_kept (maskLe (by decide) hw) ?_ _ _
    | split
    | with_reducible refine Kept.foldl (fun _ _ _ => ?_) _ _ ?_

theorem State.gateCuts_kept {r b : Bool} {w : Nat} {s0 s : State} (hw : 0x3060000000 ||| w = w) (h : Kept r b w s0 s) :
    ∀ a1, Kept r b w s0 (State.gateCuts s a1) := by
  intro a1
  unfold State.gateCuts
  repeat' first
    | with_reducible assumption
    | with_reducible apply Kept.ite
    | with_reducible refine State.note_kept (maskLe (by decide) hw) ?_ _ _ _ _
    | split
    | with_reducible refine Kept.foldl (fun _ _ _ => ?_) _ _ ?_

theorem State.ownerPass_kept {r b : Bool} {w : Nat} {s0 s : State} (hw : 0x41000008 ||| w = w) (h : Kept r b w s0 s) :
    Kept r b w s0 (State.ownerPass s) := by
  unfold State.ownerPass
  repeat' first
    | with_reducible assumption
    | with_reducible apply Kept.ite
    | with_reducible refine State.ownerMoved_kept (maskLe (by decide) hw) ?_ _
    | with_reducible refine State.setBank_kept (maskLe (by decide) hw) ?_ (fun _ => ⟨rfl, rfl, rfl, rfl, ⟨rfl, rfl⟩, rfl, rfl, rfl, rfl, rfl, rfl, rfl, rfl⟩)
    | split

theorem State.mirrorOwner_kept {r b : Bool} {w : Nat} {s0 s : State} (hw : 0x4 ||| w = w) (h : Kept r b w s0 s) :
    Kept r b w s0 (State.mirrorOwner s) := by
  unfold State.mirrorOwner
  repeat' first
    | with_reducible assumption
    | with_reducible refine State.setBkp_kept (maskLe (by decide) hw) ?_ _ _ _ _
    | split

theorem State.trackerLogs_kept {r b : Bool} {w : Nat} {s0 s : State} (hw : 0x3060001000 ||| w = w) (h : Kept r b w s0 s) :
    Kept r b w s0 (State.trackerLogs s) := by
  unfold State.trackerLogs
  repeat' first
    | with_reducible assumption
    | with_reducible apply Kept.ite
    | with_reducible refine State.note_kept (maskLe (by decide) hw) ?_ _ _ _ _
    | with_reducible refine State.setCare_kept (maskLe (by decide) hw) ?_ _ _
    | split
    | with_reducible refine Kept.foldl (fun _ _ _ => ?_) _ _ ?_

theorem State.sampleTime_kept {r b : Bool} {w : Nat} {s0 s : State} (hw : 0x3060000001 ||| w = w) (h : Kept r b w s0 s) :
    ∀ a1, Kept r b w s0 (State.sampleTime s a1) := by
  intro a1
  unfold State.sampleTime
  repeat' first
    | with_reducible assumption
    | with_reducible apply Kept.ite
    | with_reducible refine State.note_kept (maskLe (by decide) hw) ?_ _ _ _ _
    | fail_if_no_progress with_reducible refine Kept.upd_clk (maskLe (by decide) hw) ?_

theorem State.stepTime_kept {r b : Bool} {w : Nat} {s0 s : State} (hw : 0x3060000001 ||| w = w) (h : Kept r b w s0 s) :
    ∀ a1, Kept r b w s0 (State.stepTime s a1) := by
  intro a1
  unfold State.stepTime
  repeat' first
    | with_reducible assumption
    | with_reducible refine State.note_kept (maskLe (by decide) hw) ?_ _ _ _ _
    | fail_if_no_progress with_reducible refine Kept.upd_clk (maskLe (by decide) hw) ?_

theorem execSheetBoundary_kept {r : Bool} {w : Nat} {s0 s : State} (hw : 0x30f75f7ffd ||| w = w) (h : Kept r true w s0 s) :
    ∀ a1, KeptO r true w s0 (execSheetBoundary a1 s) := by
  intro a1
  unfold execSheetBoundary
  repeat' first
    | with_reducible assumption
    | with_reducible apply Kept.ite
    | with_reducible apply KeptO.next
    | with_reducible apply KeptO.ite
    | with_reducible refine State.stepTime_kept (maskLe (by decide) hw) ?_ _
    | with_reducible refine State.sampleTime_kept (maskLe (by decide) hw) ?_ _
    | with_reducible refine State.trackerLogs_kept (maskLe (by decide) hw) ?_
    | with_reducible refine State.mirrorOwner_kept (maskLe (by decide) hw) ?_
    | with_reducible refine State.ownerPass_kept (maskLe (by decide) hw) ?_
    | with_reducible refine State.gateCuts_kept (maskLe (by decide) hw) ?_ _
    | with_reducible refine State.profileMarkers_kept (maskLe (by decide) hw) ?_ _ _
    | with_reducible refine State.flowsLeave_kept (maskLe (by decide) hw) ?_ _
    | with_reducible refine State.setLive_kept (maskLe (by decide) hw) ?_ _ _ _
    | with_reducible refine State.settleTenants_kept (maskLe (by decide) hw) ?_
    | with_reducible refine State.ageDue_kept (maskLe (by decide) hw) ?_ _ _
    | fail_if_no_progress with_reducible refine Kept.upd_clk (maskLe (by decide) hw) ?_
    | fail_if_no_progress with_reducible refine Kept.upd_sets (maskLe (by decide) hw) ?_
    | (lift_lets -underBinder; intro x; refine Kept.via (r := r) (b := true) (w := w) (s0 := s0) x ?_ ?_;
       on_goal 2 => (clear_value x; intro _); on_goal 1 => try subst x)
    | (lift_lets -underBinder; intro x;
       first
         | (have _ : Pins := x; subst x) | (have _ : _ → State := x; subst x)
         | (have _ : _ → _ → State := x; subst x) | clear_value x)
    | split
    | with_reducible refine Kept.foldl (fun _ _ _ => ?_) _ _ ?_

theorem execTimebaseErrorLimit_kept {r b : Bool} {w : Nat} {s0 s : State} (hw : 0x1 ||| w = w) (h : Kept r b w s0 s) :
    ∀ a1, KeptO r b w s0 (execTimebaseErrorLimit a1 s) := by
  intro a1
  unfold execTimebaseErrorLimit
  repeat' first
    | with_reducible assumption
    | with_reducible apply Kept.ite
    | with_reducible apply KeptO.next
    | with_reducible apply KeptO.ite
    | fail_if_no_progress with_reducible refine Kept.upd_clk (maskLe (by decide) hw) ?_

theorem State.join_kept {r b : Bool} {w : Nat} {s0 s t : State} {page tk : Nat} {items : List (Staged × Nat)} (hw : 0x10 ||| w = w) (h : Kept r b w s0 s)
    (e : s.join page tk items = .inl t) : Kept r b w s0 t := by
  unfold State.join at e
  split at e
  · cases e
  · dsimp only at e
    split at e
    · cases e
    · injection e with e
      subst e
      exact Kept.upd_sets (maskLe (by decide) hw) h

theorem State.settle_kept {r b : Bool} {w : Nat} {s0 s : State} {a : Ans} (hw : 0x7000004 ||| w = w) (h : Kept r b w s0 s) (tk : Nat) (ha : KeptA r b w s0 a) :
    Kept r b w s0 (s.settle tk a) := by
  unfold State.settle
  cases a with
  | fail st pos step bulk => exact State.finish_kept (maskLe (by decide) hw) h _ _ _ _
  | wait t => exact ha
  | ok l t =>
    dsimp only
    split
    · exact ha
    · exact State.finish_kept (maskLe (by decide) hw) ha _ _ _ _
  | staged items l t =>
    obtain ⟨hs, ha⟩ := ha
    dsimp only
    split
    · exact ha
    · split
      · exact State.finish_kept (maskLe (by decide) hw) h _ _ _ _
      · rename_i e
        have := State.join_kept hs ha e
        split
        · exact Kept.upd_tickets (maskLe (by decide) hw) this
        · exact State.complete_kept (maskLe (by decide) hw) (Kept.upd_tickets (maskLe (by decide) hw) this) _ _ _ _ _ _

theorem State.take_kept {r b : Bool} {w : Nat} {s0 s : State} (hw : 0x27000200 ||| w = w) (h : Kept r b w s0 s) :
    ∀ a1 a2, Kept r b w s0 (State.take s a1 a2).1 := by
  intro a1 a2
  unfold State.take
  repeat' first
    | with_reducible assumption
    | with_reducible apply Kept.ite
    | with_reducible refine State.setPage_kept (maskLe (by decide) hw) ?_ _ _
    | with_reducible refine State.cntG_kept (maskLe (by decide) hw) ?_ _ _
    | fail_if_no_progress with_reducible refine Kept.upd_nextId_serviceq_tickets (maskLe (by decide) hw) ?_

theorem State.serveWith_kept {r b : Bool} {w : Nat} {s0 s : State} {page : Nat} {body : Cmd → Nat → State → Ans} (hw : 0x27000204 ||| w = w) (h : Kept r b w s0 s)
    (hb : ∀ c tk x, Kept r b w s0 x → KeptA r b w s0 (body c tk x)) : Kept r b w s0 (s.serveWith page body) := by
  unfold State.serveWith
  have ht := State.take_kept (maskLe (by decide) hw) h page ((s.page page).headCmd page)
  refine State.queueService_kept (maskLe (by decide) hw) ?_ _
  refine State.settle_kept (maskLe (by decide) hw) ht _ ?_
  split
  · trivial
  · split
    · trivial
    · exact hb _ _ _ ht

theorem State.skipUnknown_kept {r b : Bool} {w : Nat} {s0 : State} (n : Nat) (hw : 0x27000204 ||| w = w) :
    ∀ {s : State}, Kept r b w s0 s → Kept r b w s0 (s.skipUnknown n) := by
  induction n with
  | zero => intro s h; exact h
  | succ n ih =>
    intro s h
    unfold State.skipUnknown
    split
    · exact h
    · split
      · exact h
      · split
        · exact h
        · exact ih (State.serveWith_kept (maskLe (by decide) hw) h (fun _ _ _ _ => trivial))

theorem State.serve_kept {r b : Bool} {w : Nat} {s0 s : State} {page op : Nat} {sub : Cmd → Bool} {body : Cmd → Nat → State → Ans}
    (hw : 0x27000204 ||| w = w) (h : Kept r b w s0 s) (hb : ∀ c tk x, Kept r b w s0 x → KeptA r b w s0 (body c tk x)) : KeptO r b w s0 (s.serve page op sub body) := by
  unfold State.serve
  split
  · split
    · exact State.skipUnknown_kept _ (maskLe (by decide) hw) (State.serveWith_kept (maskLe (by decide) hw) h hb)
    · exact h
  · exact h

theorem State.openPage_kept {r b : Bool} {w : Nat} {s0 s : State} (hw : 0x49000008 ||| w = w) (h : Kept r b w s0 s) :
    ∀ a1 a2 a3, Kept r b w s0 (State.openPage s a1 a2 a3) := by
  intro a1 a2 a3
  unfold State.openPage
  repeat' first
    | with_reducible assumption
    | with_reducible apply Kept.ite
    | with_reducible refine State.ownerMoved_kept (maskLe (by decide) hw) ?_ _
    | with_reducible refine State.setBank_kept (maskLe (by decide) hw) ?_ (fun _ => ⟨rfl, rfl, rfl, rfl, ⟨rfl, rfl⟩, rfl, rfl, rfl, rfl, rfl, rfl, rfl, rfl⟩)
    | with_reducible refine State.setHost_kept (maskLe (by decide) hw) ?_ _ _
    | with_reducible refine State.setPage_kept (maskLe (by decide) hw) ?_ _ _

theorem openBody_kept {r b : Bool} {w : Nat} {s0 s : State} (hw : 0x49000018 ||| w = w) (h : Kept r b w s0 s) :
    ∀ a1 a2, KeptA r b w s0 (openBody a1 a2 s) := by
  intro a1 a2
  unfold openBody
  repeat' first
    | with_reducible assumption
    | with_reducible apply Kept.ite
    | with_reducible apply chain_kept
    | with_reducible apply KeptA.fail
    | with_reducible apply KeptA.ok
    | with_reducible refine KeptA.staged (maskLe (by decide) hw) _ _ ?_
    | with_reducible apply KeptA.wait
    | with_reducible apply KeptA.ite
    | with_reducible refine State.openPage_kept (maskLe (by decide) hw) ?_ _ _ _

theorem execOpen_kept {r b : Bool} {w : Nat} {s0 s : State} (hw : 0x6f00021c ||| w = w) (h : Kept r b w s0 s) :
    ∀ a1, KeptO r b w s0 (execOpen a1 s) := by
  intro a1
  unfold execOpen
  repeat' first
    | with_reducible assumption
    | with_reducible apply KeptO.next
    | with_reducible refine State.serve_kept (maskLe (by decide) hw) ?_ (fun _ _ _ _ => ?_)
    | with_reducible refine openBody_kept (maskLe (by decide) hw) ?_ _ _

theorem closeBody_kept {r b : Bool} {w : Nat} {s0 s : State} (hw : 0x1000010 ||| w = w) (h : Kept r b w s0 s) :
    ∀ a1 a2, KeptA r b w s0 (closeBody a1 a2 s) := by
  intro a1 a2
  unfold closeBody
  repeat' first
    | with_reducible assumption
    | with_reducible apply Kept.ite
    | with_reducible apply KeptA.ok
    | with_reducible apply KeptA.fail
    | with_reducible apply KeptA.wait
    | with_reducible refine KeptA.staged (maskLe (by decide) hw) _ _ ?_
    | with_reducible apply chain_kept
    | with_reducible apply KeptA.ite
    | with_reducible refine State.setPage_kept (maskLe (by decide) hw) ?_ _ _

theorem execClose_kept {r b : Bool} {w : Nat} {s0 s : State} (hw : 0x27000214 ||| w = w) (h : Kept r b w s0 s) :
    ∀ a1, KeptO r b w s0 (execClose a1 s) := by
  intro a1
  unfold execClose
  repeat' first
    | with_reducible assumption
    | with_reducible apply KeptO.next
    | with_reducible refine State.serve_kept (maskLe (by decide) hw) ?_ (fun _ _ _ _ => ?_)
    | with_reducible refine closeBody_kept (maskLe (by decide) hw) ?_ _ _

theorem qallocBody_kept {r b : Bool} {w : Nat} {s0 s : State} (hw : 0x10 ||| w = w) (h : Kept r b w s0 s) :
    ∀ a1 a2, KeptA r b w s0 (qallocBody a1 a2 s) := by
  intro a1 a2
  unfold qallocBody
  repeat' first
    | with_reducible assumption
    | with_reducible apply Kept.ite
    | with_reducible apply chain_kept
    | with_reducible apply KeptA.fail
    | with_reducible apply KeptA.ok
    | with_reducible refine KeptA.staged (maskLe (by decide) hw) _ _ ?_
    | with_reducible apply KeptA.wait
    | with_reducible apply KeptA.ite
    | (lift_lets -underBinder; intro x; refine Kept.via (r := r) (b := b) (w := w) (s0 := s0) x ?_ ?_;
       on_goal 2 => (clear_value x; intro _); on_goal 1 => try subst x)
    | (lift_lets -underBinder; intro x;
       first
         | (have _ : Pins := x; subst x) | (have _ : _ → State := x; subst x)
         | (have _ : _ → _ → State := x; subst x) | clear_value x)
    | split
    | dsimp only

theorem execQalloc_kept {r b : Bool} {w : Nat} {s0 s : State} (hw : 0x27000214 ||| w = w) (h : Kept r b w s0 s) :
    ∀ a1, KeptO r b w s0 (execQalloc a1 s) := by
  intro a1
  unfold execQalloc
  repeat' first
    | with_reducible assumption
    | with_reducible apply KeptO.next
    | with_reducible refine State.serve_kept (maskLe (by decide) hw) ?_ (fun _ _ _ _ => ?_)
    | with_reducible refine qallocBody_kept (maskLe (by decide) hw) ?_ _ _

theorem qjoinBody_kept {r b : Bool} {w : Nat} {s0 s : State} (hw : 0x10 ||| w = w) (h : Kept r b w s0 s) :
    ∀ a1 a2, KeptA r b w s0 (qjoinBody a1 a2 s) := by
  intro a1 a2
  unfold qjoinBody
  repeat' first
    | with_reducible assumption
    | with_reducible apply Kept.ite
    | with_reducible apply chain_kept
    | with_reducible apply KeptA.fail
    | with_reducible apply KeptA.ok
    | with_reducible refine KeptA.staged (maskLe (by decide) hw) _ _ ?_

theorem execQjoin_kept {r b : Bool} {w : Nat} {s0 s : State} (hw : 0x27000214 ||| w = w) (h : Kept r b w s0 s) :
    ∀ a1, KeptO r b w s0 (execQjoin a1 s) := by
  intro a1
  unfold execQjoin
  repeat' first
    | with_reducible assumption
    | with_reducible apply KeptO.next
    | with_reducible refine State.serve_kept (maskLe (by decide) hw) ?_ (fun _ _ _ _ => ?_)
    | with_reducible refine qjoinBody_kept (maskLe (by decide) hw) ?_ _ _

theorem wunmapBody_kept {r b : Bool} {w : Nat} {s0 s : State} (hw : 0x10 ||| w = w) (h : Kept r b w s0 s) :
    ∀ a1 a2, KeptA r b w s0 (wunmapBody a1 a2 s) := by
  intro a1 a2
  unfold wunmapBody
  repeat' first
    | with_reducible assumption
    | with_reducible apply Kept.ite
    | with_reducible apply KeptA.ok
    | with_reducible apply KeptA.fail
    | with_reducible apply KeptA.wait
    | with_reducible refine KeptA.staged (maskLe (by decide) hw) _ _ ?_
    | with_reducible apply chain_kept
    | with_reducible apply KeptA.ite
    | fail_if_no_progress with_reducible refine Kept.upd_sets (maskLe (by decide) hw) ?_

theorem execWunmap_kept {r b : Bool} {w : Nat} {s0 s : State} (hw : 0x27000214 ||| w = w) (h : Kept r b w s0 s) :
    ∀ a1, KeptO r b w s0 (execWunmap a1 s) := by
  intro a1
  unfold execWunmap
  repeat' first
    | with_reducible assumption
    | with_reducible apply KeptO.next
    | with_reducible refine State.serve_kept (maskLe (by decide) hw) ?_ (fun _ _ _ _ => ?_)
    | with_reducible refine wunmapBody_kept (maskLe (by decide) hw) ?_ _ _

theorem qreleaseBody_kept {r b : Bool} {w : Nat} {s0 s : State} (hw : 0x10 ||| w = w) (h : Kept r b w s0 s) :
    ∀ a1 a2, KeptA r b w s0 (qreleaseBody a1 a2 s) := by
  intro a1 a2
  unfold qreleaseBody
  repeat' first
    | with_reducible assumption
    | with_reducible apply Kept.ite
    | with_reducible apply chain_kept
    | with_reducible apply KeptA.fail
    | with_reducible apply KeptA.ok
    | with_reducible refine KeptA.staged (maskLe (by decide) hw) _ _ ?_

theorem execQrelease_kept {r b : Bool} {w : Nat} {s0 s : State} (hw : 0x27000214 ||| w = w) (h : Kept r b w s0 s) :
    ∀ a1, KeptO r b w s0 (execQrelease a1 s) := by
  intro a1
  unfold execQrelease
  repeat' first
    | with_reducible assumption
    | with_reducible apply KeptO.next
    | with_reducible refine State.serve_kept (maskLe (by decide) hw) ?_ (fun _ _ _ _ => ?_)
    | with_reducible refine qreleaseBody_kept (maskLe (by decide) hw) ?_ _ _

theorem regionSetBody_kept {r b : Bool} {w : Nat} {s0 s : State} (hw : 0x10 ||| w = w) (h : Kept r b w s0 s) :
    ∀ a1 a2, KeptA r b w s0 (regionSetBody a1 a2 s) := by
  intro a1 a2
  unfold regionSetBody
  repeat' first
    | with_reducible assumption
    | with_reducible apply KeptA.ok
    | with_reducible apply KeptA.fail
    | with_reducible apply KeptA.wait
    | with_reducible refine KeptA.staged (maskLe (by decide) hw) _ _ ?_
    | with_reducible apply chain_kept

theorem execRegionSet_kept {r b : Bool} {w : Nat} {s0 s : State} (hw : 0x27000214 ||| w = w) (h : Kept r b w s0 s) :
    ∀ a1, KeptO r b w s0 (execRegionSet a1 s) := by
  intro a1
  unfold execRegionSet
  repeat' first
    | with_reducible assumption
    | with_reducible apply KeptO.next
    | with_reducible refine State.serve_kept (maskLe (by decide) hw) ?_ (fun _ _ _ _ => ?_)
    | with_reducible refine regionSetBody_kept (maskLe (by decide) hw) ?_ _ _

theorem tintSetBody_kept {r b : Bool} {w : Nat} {s0 s : State} (hw : 0x10 ||| w = w) (h : Kept r b w s0 s) :
    ∀ a1 a2, KeptA r b w s0 (tintSetBody a1 a2 s) := by
  intro a1 a2
  unfold tintSetBody
  repeat' first
    | with_reducible assumption
    | with_reducible apply Kept.ite
    | with_reducible apply chain_kept
    | with_reducible apply KeptA.fail
    | with_reducible apply KeptA.ok
    | with_reducible refine KeptA.staged (maskLe (by decide) hw) _ _ ?_
    | with_reducible apply KeptA.wait
    | with_reducible apply KeptA.ite

theorem execTintSet_kept {r b : Bool} {w : Nat} {s0 s : State} (hw : 0x27000214 ||| w = w) (h : Kept r b w s0 s) :
    ∀ a1, KeptO r b w s0 (execTintSet a1 s) := by
  intro a1
  unfold execTintSet
  repeat' first
    | with_reducible assumption
    | with_reducible apply KeptO.next
    | with_reducible refine State.serve_kept (maskLe (by decide) hw) ?_ (fun _ _ _ _ => ?_)
    | with_reducible refine tintSetBody_kept (maskLe (by decide) hw) ?_ _ _

theorem portSetBody_kept {r b : Bool} {w : Nat} {s0 s : State} (hw : 0x10 ||| w = w) (h : Kept r b w s0 s) :
    ∀ a1 a2, KeptA r b w s0 (portSetBody a1 a2 s) := by
  intro a1 a2
  unfold portSetBody
  repeat' first
    | with_reducible assumption
    | with_reducible apply KeptA.ok
    | with_reducible apply KeptA.fail
    | with_reducible apply KeptA.wait
    | with_reducible refine KeptA.staged (maskLe (by decide) hw) _ _ ?_
    | with_reducible apply chain_kept

theorem execPortSet_kept {r b : Bool} {w : Nat} {s0 s : State} (hw : 0x27000214 ||| w = w) (h : Kept r b w s0 s) :
    ∀ a1, KeptO r b w s0 (execPortSet a1 s) := by
  intro a1
  unfold execPortSet
  repeat' first
    | with_reducible assumption
    | with_reducible apply KeptO.next
    | with_reducible refine State.serve_kept (maskLe (by decide) hw) ?_ (fun _ _ _ _ => ?_)
    | with_reducible refine portSetBody_kept (maskLe (by decide) hw) ?_ _ _

theorem policerSetBody_kept {r b : Bool} {w : Nat} {s0 s : State} (hw : 0x10 ||| w = w) (h : Kept r b w s0 s) :
    ∀ a1 a2, KeptA r b w s0 (policerSetBody a1 a2 s) := by
  intro a1 a2
  unfold policerSetBody
  repeat' first
    | with_reducible assumption
    | with_reducible apply KeptA.ok
    | with_reducible apply KeptA.fail
    | with_reducible apply KeptA.wait
    | with_reducible refine KeptA.staged (maskLe (by decide) hw) _ _ ?_
    | with_reducible apply chain_kept

theorem execPolicerSet_kept {r b : Bool} {w : Nat} {s0 s : State} (hw : 0x27000214 ||| w = w) (h : Kept r b w s0 s) :
    ∀ a1, KeptO r b w s0 (execPolicerSet a1 s) := by
  intro a1
  unfold execPolicerSet
  repeat' first
    | with_reducible assumption
    | with_reducible apply KeptO.next
    | with_reducible refine State.serve_kept (maskLe (by decide) hw) ?_ (fun _ _ _ _ => ?_)
    | with_reducible refine policerSetBody_kept (maskLe (by decide) hw) ?_ _ _

theorem gateSetBody_kept {r b : Bool} {w : Nat} {s0 s : State} (hw : 0x10 ||| w = w) (h : Kept r b w s0 s) :
    ∀ a1 a2, KeptA r b w s0 (gateSetBody a1 a2 s) := by
  intro a1 a2
  unfold gateSetBody
  repeat' first
    | with_reducible assumption
    | with_reducible apply KeptA.ok
    | with_reducible apply KeptA.fail
    | with_reducible apply KeptA.wait
    | with_reducible refine KeptA.staged (maskLe (by decide) hw) _ _ ?_
    | with_reducible apply chain_kept

theorem execGateSet_kept {r b : Bool} {w : Nat} {s0 s : State} (hw : 0x27000214 ||| w = w) (h : Kept r b w s0 s) :
    ∀ a1, KeptO r b w s0 (execGateSet a1 s) := by
  intro a1
  unfold execGateSet
  repeat' first
    | with_reducible assumption
    | with_reducible apply KeptO.next
    | with_reducible refine State.serve_kept (maskLe (by decide) hw) ?_ (fun _ _ _ _ => ?_)
    | with_reducible refine gateSetBody_kept (maskLe (by decide) hw) ?_ _ _

theorem profileLoadBody_kept {r b : Bool} {w : Nat} {s0 s : State} (hw : 0x10 ||| w = w) (h : Kept r b w s0 s) :
    ∀ a1 a2, KeptA r b w s0 (profileLoadBody a1 a2 s) := by
  intro a1 a2
  unfold profileLoadBody
  repeat' first
    | with_reducible assumption
    | with_reducible apply KeptA.ok
    | with_reducible apply KeptA.fail
    | with_reducible apply KeptA.wait
    | with_reducible refine KeptA.staged (maskLe (by decide) hw) _ _ ?_
    | with_reducible apply chain_kept

theorem execProfileLoad_kept {r b : Bool} {w : Nat} {s0 s : State} (hw : 0x27000214 ||| w = w) (h : Kept r b w s0 s) :
    ∀ a1, KeptO r b w s0 (execProfileLoad a1 s) := by
  intro a1
  unfold execProfileLoad
  repeat' first
    | with_reducible assumption
    | with_reducible apply KeptO.next
    | with_reducible refine State.serve_kept (maskLe (by decide) hw) ?_ (fun _ _ _ _ => ?_)
    | with_reducible refine profileLoadBody_kept (maskLe (by decide) hw) ?_ _ _

theorem skewSetBody_kept {r b : Bool} {w : Nat} {s0 s : State} (hw : 0x10 ||| w = w) (h : Kept r b w s0 s) :
    ∀ a1 a2, KeptA r b w s0 (skewSetBody a1 a2 s) := by
  intro a1 a2
  unfold skewSetBody
  repeat' first
    | with_reducible assumption
    | with_reducible apply KeptA.ok
    | with_reducible apply KeptA.fail
    | with_reducible apply KeptA.wait
    | with_reducible refine KeptA.staged (maskLe (by decide) hw) _ _ ?_
    | with_reducible apply chain_kept

theorem execSkewSet_kept {r b : Bool} {w : Nat} {s0 s : State} (hw : 0x27000214 ||| w = w) (h : Kept r b w s0 s) :
    ∀ a1, KeptO r b w s0 (execSkewSet a1 s) := by
  intro a1
  unfold execSkewSet
  repeat' first
    | with_reducible assumption
    | with_reducible apply KeptO.next
    | with_reducible refine State.serve_kept (maskLe (by decide) hw) ?_ (fun _ _ _ _ => ?_)
    | with_reducible refine skewSetBody_kept (maskLe (by decide) hw) ?_ _ _

theorem feederPortSetBody_kept {r b : Bool} {w : Nat} {s0 s : State} (hw : 0x10 ||| w = w) (h : Kept r b w s0 s) :
    ∀ a1 a2, KeptA r b w s0 (feederPortSetBody a1 a2 s) := by
  intro a1 a2
  unfold feederPortSetBody
  repeat' first
    | with_reducible assumption
    | with_reducible apply KeptA.ok
    | with_reducible apply KeptA.fail
    | with_reducible apply KeptA.wait
    | with_reducible refine KeptA.staged (maskLe (by decide) hw) _ _ ?_
    | with_reducible apply chain_kept

theorem execFeederPortSet_kept {r b : Bool} {w : Nat} {s0 s : State} (hw : 0x27000214 ||| w = w) (h : Kept r b w s0 s) :
    ∀ a1, KeptO r b w s0 (execFeederPortSet a1 s) := by
  intro a1
  unfold execFeederPortSet
  repeat' first
    | with_reducible assumption
    | with_reducible apply KeptO.next
    | with_reducible refine State.serve_kept (maskLe (by decide) hw) ?_ (fun _ _ _ _ => ?_)
    | with_reducible refine feederPortSetBody_kept (maskLe (by decide) hw) ?_ _ _

theorem feederSlotSetBody_kept {r b : Bool} {w : Nat} {s0 s : State} (hw : 0x10 ||| w = w) (h : Kept r b w s0 s) :
    ∀ a1 a2, KeptA r b w s0 (feederSlotSetBody a1 a2 s) := by
  intro a1 a2
  unfold feederSlotSetBody
  repeat' first
    | with_reducible assumption
    | with_reducible apply Kept.ite
    | with_reducible apply chain_kept
    | with_reducible apply KeptA.fail
    | with_reducible apply KeptA.ok
    | with_reducible refine KeptA.staged (maskLe (by decide) hw) _ _ ?_

theorem execFeederSlotSet_kept {r b : Bool} {w : Nat} {s0 s : State} (hw : 0x27000214 ||| w = w) (h : Kept r b w s0 s) :
    ∀ a1, KeptO r b w s0 (execFeederSlotSet a1 s) := by
  intro a1
  unfold execFeederSlotSet
  repeat' first
    | with_reducible assumption
    | with_reducible apply KeptO.next
    | with_reducible refine State.serve_kept (maskLe (by decide) hw) ?_ (fun _ _ _ _ => ?_)
    | with_reducible refine feederSlotSetBody_kept (maskLe (by decide) hw) ?_ _ _

theorem doorbellSetBody_kept {r b : Bool} {w : Nat} {s0 s : State} (hw : 0x10 ||| w = w) (h : Kept r b w s0 s) :
    ∀ a1 a2, KeptA r b w s0 (doorbellSetBody a1 a2 s) := by
  intro a1 a2
  unfold doorbellSetBody
  repeat' first
    | with_reducible assumption
    | with_reducible apply KeptA.ok
    | with_reducible apply KeptA.fail
    | with_reducible apply KeptA.wait
    | with_reducible refine KeptA.staged (maskLe (by decide) hw) _ _ ?_
    | with_reducible apply chain_kept

theorem execDoorbellSet_kept {r b : Bool} {w : Nat} {s0 s : State} (hw : 0x27000214 ||| w = w) (h : Kept r b w s0 s) :
    ∀ a1, KeptO r b w s0 (execDoorbellSet a1 s) := by
  intro a1
  unfold execDoorbellSet
  repeat' first
    | with_reducible assumption
    | with_reducible apply KeptO.next
    | with_reducible refine State.serve_kept (maskLe (by decide) hw) ?_ (fun _ _ _ _ => ?_)
    | with_reducible refine doorbellSetBody_kept (maskLe (by decide) hw) ?_ _ _

theorem wmArmBody_kept {r b : Bool} {w : Nat} {s0 s : State} (hw : 0x10 ||| w = w) (h : Kept r b w s0 s) :
    ∀ a1 a2, KeptA r b w s0 (wmArmBody a1 a2 s) := by
  intro a1 a2
  unfold wmArmBody
  repeat' first
    | with_reducible assumption
    | with_reducible apply Kept.ite
    | with_reducible apply chain_kept
    | with_reducible apply KeptA.fail
    | with_reducible apply KeptA.ok
    | with_reducible refine KeptA.staged (maskLe (by decide) hw) _ _ ?_

theorem execWmArm_kept {r b : Bool} {w : Nat} {s0 s : State} (hw : 0x27000214 ||| w = w) (h : Kept r b w s0 s) :
    ∀ a1, KeptO r b w s0 (execWmArm a1 s) := by
  intro a1
  unfold execWmArm
  repeat' first
    | with_reducible assumption
    | with_reducible apply KeptO.next
    | with_reducible refine State.serve_kept (maskLe (by decide) hw) ?_ (fun _ _ _ _ => ?_)
    | with_reducible refine wmArmBody_kept (maskLe (by decide) hw) ?_ _ _

theorem settingsBody_kept {r b : Bool} {w : Nat} {s0 s : State} (hw : 0x10 ||| w = w) (h : Kept r b w s0 s) :
    ∀ a1 a2, KeptA r b w s0 (settingsBody a1 a2 s) := by
  intro a1 a2
  unfold settingsBody
  repeat' first
    | with_reducible assumption
    | with_reducible apply Kept.ite
    | with_reducible apply chain_kept
    | with_reducible apply KeptA.fail
    | with_reducible apply KeptA.ok
    | with_reducible refine KeptA.staged (maskLe (by decide) hw) _ _ ?_

theorem execSchedSet_kept {r b : Bool} {w : Nat} {s0 s : State} (hw : 0x27000214 ||| w = w) (h : Kept r b w s0 s) :
    ∀ a1, KeptO r b w s0 (execSchedSet a1 s) := by
  intro a1
  unfold execSchedSet
  repeat' first
    | with_reducible assumption
    | with_reducible apply KeptO.next
    | with_reducible refine State.serve_kept (maskLe (by decide) hw) ?_ (fun _ _ _ _ => ?_)
    | with_reducible refine settingsBody_kept (maskLe (by decide) hw) ?_ _ _

theorem execSheetSet_kept {r b : Bool} {w : Nat} {s0 s : State} (hw : 0x27000214 ||| w = w) (h : Kept r b w s0 s) :
    ∀ a1, KeptO r b w s0 (execSheetSet a1 s) := by
  intro a1
  unfold execSheetSet
  repeat' first
    | with_reducible assumption
    | with_reducible apply KeptO.next
    | with_reducible refine State.serve_kept (maskLe (by decide) hw) ?_ (fun _ _ _ _ => ?_)
    | with_reducible refine settingsBody_kept (maskLe (by decide) hw) ?_ _ _

theorem execLakeSet_kept {r b : Bool} {w : Nat} {s0 s : State} (hw : 0x27000214 ||| w = w) (h : Kept r b w s0 s) :
    ∀ a1, KeptO r b w s0 (execLakeSet a1 s) := by
  intro a1
  unfold execLakeSet
  repeat' first
    | with_reducible assumption
    | with_reducible apply KeptO.next
    | with_reducible refine State.serve_kept (maskLe (by decide) hw) ?_ (fun _ _ _ _ => ?_)
    | with_reducible refine settingsBody_kept (maskLe (by decide) hw) ?_ _ _

theorem execMaintSet_kept {r b : Bool} {w : Nat} {s0 s : State} (hw : 0x27000214 ||| w = w) (h : Kept r b w s0 s) :
    ∀ a1, KeptO r b w s0 (execMaintSet a1 s) := by
  intro a1
  unfold execMaintSet
  repeat' first
    | with_reducible assumption
    | with_reducible apply KeptO.next
    | with_reducible refine State.serve_kept (maskLe (by decide) hw) ?_ (fun _ _ _ _ => ?_)
    | with_reducible refine settingsBody_kept (maskLe (by decide) hw) ?_ _ _

theorem execPowerSet_kept {r b : Bool} {w : Nat} {s0 s : State} (hw : 0x27000214 ||| w = w) (h : Kept r b w s0 s) :
    ∀ a1, KeptO r b w s0 (execPowerSet a1 s) := by
  intro a1
  unfold execPowerSet
  repeat' first
    | with_reducible assumption
    | with_reducible apply KeptO.next
    | with_reducible refine State.serve_kept (maskLe (by decide) hw) ?_ (fun _ _ _ _ => ?_)
    | with_reducible refine settingsBody_kept (maskLe (by decide) hw) ?_ _ _

theorem execThermalSet_kept {r b : Bool} {w : Nat} {s0 s : State} (hw : 0x27000214 ||| w = w) (h : Kept r b w s0 s) :
    ∀ a1, KeptO r b w s0 (execThermalSet a1 s) := by
  intro a1
  unfold execThermalSet
  repeat' first
    | with_reducible assumption
    | with_reducible apply KeptO.next
    | with_reducible refine State.serve_kept (maskLe (by decide) hw) ?_ (fun _ _ _ _ => ?_)
    | with_reducible refine settingsBody_kept (maskLe (by decide) hw) ?_ _ _

theorem execCalibSet_kept {r b : Bool} {w : Nat} {s0 s : State} (hw : 0x27000214 ||| w = w) (h : Kept r b w s0 s) :
    ∀ a1, KeptO r b w s0 (execCalibSet a1 s) := by
  intro a1
  unfold execCalibSet
  repeat' first
    | with_reducible assumption
    | with_reducible apply KeptO.next
    | with_reducible refine State.serve_kept (maskLe (by decide) hw) ?_ (fun _ _ _ _ => ?_)
    | with_reducible refine settingsBody_kept (maskLe (by decide) hw) ?_ _ _

theorem execHostSet_kept {r b : Bool} {w : Nat} {s0 s : State} (hw : 0x27000214 ||| w = w) (h : Kept r b w s0 s) :
    ∀ a1, KeptO r b w s0 (execHostSet a1 s) := by
  intro a1
  unfold execHostSet
  repeat' first
    | with_reducible assumption
    | with_reducible apply KeptO.next
    | with_reducible refine State.serve_kept (maskLe (by decide) hw) ?_ (fun _ _ _ _ => ?_)
    | with_reducible refine settingsBody_kept (maskLe (by decide) hw) ?_ _ _

theorem oppointSetBody_kept {r b : Bool} {w : Nat} {s0 s : State} (hw : 0x10 ||| w = w) (h : Kept r b w s0 s) :
    ∀ a1 a2, KeptA r b w s0 (oppointSetBody a1 a2 s) := by
  intro a1 a2
  unfold oppointSetBody
  repeat' first
    | with_reducible assumption
    | with_reducible apply KeptA.ok
    | with_reducible apply KeptA.fail
    | with_reducible apply KeptA.wait
    | with_reducible refine KeptA.staged (maskLe (by decide) hw) _ _ ?_
    | with_reducible apply chain_kept

theorem execOppointSet_kept {r b : Bool} {w : Nat} {s0 s : State} (hw : 0x27000214 ||| w = w) (h : Kept r b w s0 s) :
    ∀ a1, KeptO r b w s0 (execOppointSet a1 s) := by
  intro a1
  unfold execOppointSet
  repeat' first
    | with_reducible assumption
    | with_reducible apply KeptO.next
    | with_reducible refine State.serve_kept (maskLe (by decide) hw) ?_ (fun _ _ _ _ => ?_)
    | with_reducible refine oppointSetBody_kept (maskLe (by decide) hw) ?_ _ _

theorem tenantAssignBody_kept {r b : Bool} {w : Nat} {s0 s : State} (hw : 0x10 ||| w = w) (h : Kept r b w s0 s) :
    ∀ a1 a2, KeptA r b w s0 (tenantAssignBody a1 a2 s) := by
  intro a1 a2
  unfold tenantAssignBody
  repeat' first
    | with_reducible assumption
    | with_reducible apply KeptA.ok
    | with_reducible apply KeptA.fail
    | with_reducible apply KeptA.wait
    | with_reducible refine KeptA.staged (maskLe (by decide) hw) _ _ ?_
    | with_reducible apply chain_kept

theorem execTenantAssign_kept {r b : Bool} {w : Nat} {s0 s : State} (hw : 0x27000214 ||| w = w) (h : Kept r b w s0 s) :
    ∀ a1, KeptO r b w s0 (execTenantAssign a1 s) := by
  intro a1
  unfold execTenantAssign
  repeat' first
    | with_reducible assumption
    | with_reducible apply KeptO.next
    | with_reducible refine State.serve_kept (maskLe (by decide) hw) ?_ (fun _ _ _ _ => ?_)
    | with_reducible refine tenantAssignBody_kept (maskLe (by decide) hw) ?_ _ _

theorem ownerHandoverBody_kept {r b : Bool} {w : Nat} {s0 s : State} (hw : 0x10 ||| w = w) (h : Kept r b w s0 s) :
    ∀ a1 a2, KeptA r b w s0 (ownerHandoverBody a1 a2 s) := by
  intro a1 a2
  unfold ownerHandoverBody
  repeat' first
    | with_reducible assumption
    | with_reducible apply KeptA.ok
    | with_reducible apply KeptA.fail
    | with_reducible apply KeptA.wait
    | with_reducible refine KeptA.staged (maskLe (by decide) hw) _ _ ?_
    | with_reducible apply chain_kept

theorem execOwnerHandover_kept {r b : Bool} {w : Nat} {s0 s : State} (hw : 0x27000214 ||| w = w) (h : Kept r b w s0 s) :
    ∀ a1, KeptO r b w s0 (execOwnerHandover a1 s) := by
  intro a1
  unfold execOwnerHandover
  repeat' first
    | with_reducible assumption
    | with_reducible apply KeptO.next
    | with_reducible refine State.serve_kept (maskLe (by decide) hw) ?_ (fun _ _ _ _ => ?_)
    | with_reducible refine ownerHandoverBody_kept (maskLe (by decide) hw) ?_ _ _

theorem adoptBody_kept {r b : Bool} {w : Nat} {s0 s : State} (hw : 0x10 ||| w = w) (h : Kept r b w s0 s) :
    ∀ a1 a2, KeptA r b w s0 (adoptBody a1 a2 s) := by
  intro a1 a2
  unfold adoptBody
  repeat' first
    | with_reducible assumption
    | with_reducible apply KeptA.ok
    | with_reducible apply KeptA.fail
    | with_reducible apply KeptA.wait
    | with_reducible refine KeptA.staged (maskLe (by decide) hw) _ _ ?_
    | with_reducible apply chain_kept

theorem execAdopt_kept {r b : Bool} {w : Nat} {s0 s : State} (hw : 0x27000214 ||| w = w) (h : Kept r b w s0 s) :
    ∀ a1, KeptO r b w s0 (execAdopt a1 s) := by
  intro a1
  unfold execAdopt
  repeat' first
    | with_reducible assumption
    | with_reducible apply KeptO.next
    | with_reducible refine State.serve_kept (maskLe (by decide) hw) ?_ (fun _ _ _ _ => ?_)
    | with_reducible refine adoptBody_kept (maskLe (by decide) hw) ?_ _ _

theorem State.overlapLogs_kept {r b : Bool} {w : Nat} {s0 s : State} (hw : 0x3060000000 ||| w = w) (h : Kept r b w s0 s) :
    ∀ a1 a2, Kept r b w s0 (State.overlapLogs s a1 a2) := by
  intro a1 a2
  unfold State.overlapLogs
  repeat' first
    | with_reducible assumption
    | with_reducible apply Kept.ite
    | with_reducible refine State.note_kept (maskLe (by decide) hw) ?_ _ _ _ _
    | (lift_lets -underBinder; intro x; refine Kept.via (r := r) (b := b) (w := w) (s0 := s0) x ?_ ?_;
       on_goal 2 => (clear_value x; intro _); on_goal 1 => try subst x)
    | (lift_lets -underBinder; intro x;
       first
         | (have _ : Pins := x; subst x) | (have _ : _ → State := x; subst x)
         | (have _ : _ → _ → State := x; subst x) | clear_value x)
    | split
    | with_reducible refine Kept.foldl (fun _ _ _ => ?_) _ _ ?_

theorem commitBody_kept {r b : Bool} {w : Nat} {s0 s : State} (hw : 0x3061000010 ||| w = w) (h : Kept r b w s0 s) :
    ∀ a1 a2, KeptA r b w s0 (commitBody a1 a2 s) := by
  intro a1 a2
  unfold commitBody
  repeat' first
    | with_reducible assumption
    | with_reducible apply Kept.ite
    | with_reducible apply chain_kept
    | with_reducible apply KeptA.fail
    | with_reducible apply KeptA.ok
    | with_reducible apply KeptA.wait
    | with_reducible apply KeptA.ite
    | with_reducible refine State.overlapLogs_kept (maskLe (by decide) hw) ?_ _ _
    | with_reducible refine State.complete_kept (maskLe (by decide) hw) ?_ _ _ _ _ _ _
    | fail_if_no_progress with_reducible refine Kept.upd_sets (maskLe (by decide) hw) ?_
    | (lift_lets -underBinder; intro x; refine Kept.via (r := r) (b := b) (w := w) (s0 := s0) x ?_ ?_;
       on_goal 2 => (clear_value x; intro _); on_goal 1 => try subst x)
    | (lift_lets -underBinder; intro x;
       first
         | (have _ : Pins := x; subst x) | (have _ : _ → State := x; subst x)
         | (have _ : _ → _ → State := x; subst x) | clear_value x)
    | split
    | dsimp only

theorem execCommit_kept {r b : Bool} {w : Nat} {s0 s : State} (hw : 0x3067000214 ||| w = w) (h : Kept r b w s0 s) :
    ∀ a1, KeptO r b w s0 (execCommit a1 s) := by
  intro a1
  unfold execCommit
  repeat' first
    | with_reducible assumption
    | with_reducible apply KeptO.next
    | with_reducible refine State.serve_kept (maskLe (by decide) hw) ?_ (fun _ _ _ _ => ?_)
    | with_reducible refine commitBody_kept (maskLe (by decide) hw) ?_ _ _

theorem discardBody_kept {r b : Bool} {w : Nat} {s0 s : State} (hw : 0x7000014 ||| w = w) (h : Kept r b w s0 s) :
    ∀ a1 a2, KeptA r b w s0 (discardBody a1 a2 s) := by
  intro a1 a2
  unfold discardBody
  repeat' first
    | with_reducible assumption
    | with_reducible apply Kept.ite
    | with_reducible apply KeptA.ok
    | with_reducible apply KeptA.fail
    | with_reducible apply KeptA.wait
    | with_reducible apply chain_kept
    | with_reducible apply KeptA.ite
    | with_reducible refine State.finish_kept (maskLe (by decide) hw) ?_ _ _ _ _
    | fail_if_no_progress with_reducible refine Kept.upd_sets (maskLe (by decide) hw) ?_
    | split
    | with_reducible refine Kept.foldl (fun _ _ _ => ?_) _ _ ?_

theorem execDiscard_kept {r b : Bool} {w : Nat} {s0 s : State} (hw : 0x27000214 ||| w = w) (h : Kept r b w s0 s) :
    ∀ a1, KeptO r b w s0 (execDiscard a1 s) := by
  intro a1
  unfold execDiscard
  repeat' first
    | with_reducible assumption
    | with_reducible apply KeptO.next
    | with_reducible refine State.serve_kept (maskLe (by decide) hw) ?_ (fun _ _ _ _ => ?_)
    | with_reducible refine discardBody_kept (maskLe (by decide) hw) ?_ _ _

theorem State.accErr_kept {r b : Bool} {w : Nat} {s0 s : State} (hw : 0x80000000 ||| w = w) (h : Kept r b w s0 s) :
    ∀ a1 a2 a3 a4, Kept r b w s0 (State.accErr s a1 a2 a3 a4) := by
  intro a1 a2 a3 a4
  unfold State.accErr
  repeat' first
    | with_reducible assumption
    | with_reducible apply Kept.ite
    | fail_if_no_progress with_reducible refine Kept.upd_regs (maskLe (by decide) hw) ?_

theorem State.pageWrite_kept {r b : Bool} {w : Nat} {s0 s : State} {page src off : Nat} {right : Bool} {f : State → State} (hw : 0x80000000 ||| w = w) (h : Kept r b w s0 s)
    (hf : ∀ x, Kept r b w s0 x → Kept r b w s0 (f x)) : KeptO r b w s0 (s.pageWrite page src off right f) := by
  unfold State.pageWrite
  split
  · exact h
  · split
    · exact State.accErr_kept (maskLe (by decide) hw) h _ _ _ _
    · exact hf _ h

theorem State.writeTail_kept {r b : Bool} {w : Nat} {s0 s : State} (hw : 0x27000204 ||| w = w) (h : Kept r b w s0 s) :
    ∀ a1 a2, Kept r b w s0 (State.writeTail s a1 a2) := by
  intro a1 a2
  unfold State.writeTail
  repeat' first
    | with_reducible assumption
    | with_reducible apply Kept.ite
    | with_reducible refine State.skipUnknown_kept _ (maskLe (by decide) hw) ?_
    | with_reducible refine State.queueService_kept (maskLe (by decide) hw) ?_ _
    | with_reducible refine State.setPage_kept (maskLe (by decide) hw) ?_ _ _

theorem State.writeHead_kept {r b : Bool} {w : Nat} {s0 s : State} (hw : 0x27000204 ||| w = w) (h : Kept r b w s0 s) :
    ∀ a1 a2, Kept r b w s0 (State.writeHead s a1 a2) := by
  intro a1 a2
  unfold State.writeHead
  repeat' first
    | with_reducible assumption
    | with_reducible apply Kept.ite
    | with_reducible refine State.skipUnknown_kept _ (maskLe (by decide) hw) ?_
    | with_reducible refine State.queueService_kept (maskLe (by decide) hw) ?_ _
    | with_reducible refine State.pumpPage_kept (maskLe (by decide) hw) ?_ _
    | with_reducible refine State.setPage_kept (maskLe (by decide) hw) ?_ _ _

theorem execMbCmdTailWrite_kept {r b : Bool} {w : Nat} {s0 s : State} (hw : 0xe7000204 ||| w = w) (h : Kept r b w s0 s) :
    ∀ a1 a2 a3, KeptO r b w s0 (execMbCmdTailWrite a1 a2 a3 s) := by
  intro a1 a2 a3
  unfold execMbCmdTailWrite
  repeat' first
    | with_reducible assumption
    | with_reducible apply Kept.ite
    | with_reducible apply KeptO.next
    | with_reducible apply KeptO.ite
    | with_reducible refine State.writeTail_kept (maskLe (by decide) hw) ?_ _ _
    | with_reducible refine State.pageWrite_kept (maskLe (by decide) hw) ?_ (fun _ _ => ?_)
    | with_reducible refine State.wakeCores_kept (maskLe (by decide) hw) ?_

theorem execMbCplHeadWrite_kept {r b : Bool} {w : Nat} {s0 s : State} (hw : 0xa7000204 ||| w = w) (h : Kept r b w s0 s) :
    ∀ a1 a2 a3, KeptO r b w s0 (execMbCplHeadWrite a1 a2 a3 s) := by
  intro a1 a2 a3
  unfold execMbCplHeadWrite
  repeat' first
    | with_reducible assumption
    | with_reducible apply KeptO.next
    | with_reducible refine State.pageWrite_kept (maskLe (by decide) hw) ?_ (fun _ _ => ?_)
    | with_reducible refine State.writeHead_kept (maskLe (by decide) hw) ?_ _ _

theorem State.freezePage_kept {r b : Bool} {w : Nat} {s0 s : State} (hw : 0x7000010 ||| w = w) (h : Kept r b w s0 s) :
    ∀ a1, Kept r b w s0 (State.freezePage s a1) := by
  intro a1
  unfold State.freezePage
  repeat' first
    | with_reducible assumption
    | with_reducible refine State.setPage_kept (maskLe (by decide) hw) ?_ _ _
    | fail_if_no_progress with_reducible refine Kept.upd_sets_serviceq_tickets (maskLe (by decide) hw) ?_

theorem State.hostLost_kept {r b : Bool} {w : Nat} {s0 s : State} (hw : 0x306f000010 ||| w = w) (h : Kept r b w s0 s) :
    ∀ a1, Kept r b w s0 (State.hostLost s a1) := by
  intro a1
  unfold State.hostLost
  repeat' first
    | with_reducible assumption
    | with_reducible refine State.setHost_kept (maskLe (by decide) hw) ?_ _ _
    | with_reducible refine State.freezePage_kept (maskLe (by decide) hw) ?_ _
    | with_reducible refine State.note_kept (maskLe (by decide) hw) ?_ _ _ _ _
    | with_reducible refine State.ownerEvent_kept (maskLe (by decide) hw) ?_ _ _
    | (lift_lets -underBinder; intro x; refine Kept.via (r := r) (b := b) (w := w) (s0 := s0) x ?_ ?_;
       on_goal 2 => (clear_value x; intro _); on_goal 1 => try subst x)
    | (lift_lets -underBinder; intro x;
       first
         | (have _ : Pins := x; subst x) | (have _ : _ → State := x; subst x)
         | (have _ : _ → _ → State := x; subst x) | clear_value x)
    | with_reducible refine Kept.foldl (fun _ _ _ => ?_) _ _ ?_

theorem execHeartbeatTimeout_kept {r b : Bool} {w : Nat} {s0 s : State} (hw : 0x306f000010 ||| w = w) (h : Kept r b w s0 s) :
    ∀ a1, KeptO r b w s0 (execHeartbeatTimeout a1 s) := by
  intro a1
  unfold execHeartbeatTimeout
  repeat' first
    | with_reducible assumption
    | with_reducible apply Kept.ite
    | with_reducible apply KeptO.next
    | with_reducible apply KeptO.ite
    | with_reducible refine State.hostLost_kept (maskLe (by decide) hw) ?_ _
    | with_reducible refine State.wakeCores_kept (maskLe (by decide) hw) ?_

theorem execHostLinkDown_kept {r b : Bool} {w : Nat} {s0 s : State} (hw : 0x306f000010 ||| w = w) (h : Kept r b w s0 s) :
    ∀ a1, KeptO r b w s0 (execHostLinkDown a1 s) := by
  intro a1
  unfold execHostLinkDown
  repeat' first
    | with_reducible assumption
    | with_reducible apply Kept.ite
    | with_reducible apply KeptO.next
    | with_reducible apply KeptO.ite
    | with_reducible refine State.hostLost_kept (maskLe (by decide) hw) ?_ _

theorem State.thawPage_kept {r b : Bool} {w : Nat} {s0 s : State} (hw : 0x1000000 ||| w = w) (h : Kept r b w s0 s) :
    ∀ a1, Kept r b w s0 (State.thawPage s a1) := by
  intro a1
  unfold State.thawPage
  repeat' first
    | with_reducible assumption
    | with_reducible apply Kept.ite
    | with_reducible refine State.pumpPage_kept (maskLe (by decide) hw) ?_ _
    | with_reducible refine State.setPage_kept (maskLe (by decide) hw) ?_ _ _

theorem State.hostResumed_kept {r b : Bool} {w : Nat} {s0 s : State} (hw : 0x9000000 ||| w = w) (h : Kept r b w s0 s) :
    ∀ a1, Kept r b w s0 (State.hostResumed s a1) := by
  intro a1
  unfold State.hostResumed
  repeat' first
    | with_reducible assumption
    | with_reducible apply Kept.ite
    | with_reducible refine State.setHost_kept (maskLe (by decide) hw) ?_ _ _
    | with_reducible refine State.ownerEvent_kept (maskLe (by decide) hw) ?_ _ _
    | with_reducible refine State.thawPage_kept (maskLe (by decide) hw) ?_ _
    | split
    | with_reducible refine Kept.foldl (fun _ _ _ => ?_) _ _ ?_

theorem execMbLeaseWrite_kept {r b : Bool} {w : Nat} {s0 s : State} (hw : 0x89000000 ||| w = w) (h : Kept r b w s0 s) :
    ∀ a1 a2, KeptO r b w s0 (execMbLeaseWrite a1 a2 s) := by
  intro a1 a2
  unfold execMbLeaseWrite
  repeat' first
    | with_reducible assumption
    | with_reducible apply KeptO.next
    | with_reducible refine State.pageWrite_kept (maskLe (by decide) hw) ?_ (fun _ _ => ?_)
    | with_reducible refine State.hostResumed_kept (maskLe (by decide) hw) ?_ _

theorem execHostLinkUp_kept {r b : Bool} {w : Nat} {s0 s : State} (hw : 0x9000000 ||| w = w) (h : Kept r b w s0 s) :
    ∀ a1, KeptO r b w s0 (execHostLinkUp a1 s) := by
  intro a1
  unfold execHostLinkUp
  repeat' first
    | with_reducible assumption
    | with_reducible apply Kept.ite
    | with_reducible apply KeptO.next
    | with_reducible apply KeptO.ite
    | with_reducible refine State.hostResumed_kept (maskLe (by decide) hw) ?_ _

theorem execLeaseExpiry_kept {r b : Bool} {w : Nat} {s0 s : State} (hw : 0x49000010 ||| w = w) (h : Kept r b w s0 s) :
    ∀ a1, KeptO r b w s0 (execLeaseExpiry a1 s) := by
  intro a1
  unfold execLeaseExpiry
  repeat' first
    | with_reducible assumption
    | with_reducible apply Kept.ite
    | with_reducible apply KeptO.next
    | with_reducible apply KeptO.ite
    | with_reducible refine State.ownSet_kept (maskLe (by decide) hw) ?_ _
    | with_reducible refine State.ownerEvent_kept (maskLe (by decide) hw) ?_ _ _
    | with_reducible refine State.wakeCores_kept (maskLe (by decide) hw) ?_
    | with_reducible refine State.setHost_kept (maskLe (by decide) hw) ?_ _ _
    | split
    | with_reducible refine Kept.foldl (fun _ _ _ => ?_) _ _ ?_

theorem stateReadBody_kept {r b : Bool} {w : Nat} {s0 s : State} (hw : 0x4000000000 ||| w = w) (h : Kept r b w s0 s) :
    ∀ a1 a2, KeptA r b w s0 (stateReadBody a1 a2 s) := by
  intro a1 a2
  unfold stateReadBody
  repeat' first
    | with_reducible assumption
    | with_reducible apply Kept.ite
    | with_reducible apply KeptA.ok
    | with_reducible apply KeptA.fail
    | with_reducible apply KeptA.wait
    | with_reducible apply chain_kept
    | with_reducible apply KeptA.ite
    | with_reducible refine State.fresh_kept (maskLe (by decide) hw) ?_

theorem execStateRead_kept {r b : Bool} {w : Nat} {s0 s : State} (hw : 0x4027000204 ||| w = w) (h : Kept r b w s0 s) :
    ∀ a1, KeptO r b w s0 (execStateRead a1 s) := by
  intro a1
  unfold execStateRead
  repeat' first
    | with_reducible assumption
    | with_reducible apply KeptO.next
    | with_reducible refine State.serve_kept (maskLe (by decide) hw) ?_ (fun _ _ _ _ => ?_)
    | with_reducible refine stateReadBody_kept (maskLe (by decide) hw) ?_ _ _

theorem affinityResetBody_kept {r b : Bool} {w : Nat} {s0 s : State} (hw : 0x40 ||| w = w) (h : Kept r b w s0 s) :
    ∀ a1 a2, KeptA r b w s0 (affinityResetBody a1 a2 s) := by
  intro a1 a2
  unfold affinityResetBody
  repeat' first
    | with_reducible assumption
    | with_reducible apply Kept.ite
    | with_reducible apply KeptA.ok
    | with_reducible apply KeptA.fail
    | with_reducible apply KeptA.wait
    | with_reducible apply chain_kept
    | with_reducible apply KeptA.ite
    | fail_if_no_progress with_reducible refine Kept.upd_aff (maskLe (by decide) hw) ?_

theorem execAffinityReset_kept {r b : Bool} {w : Nat} {s0 s : State} (hw : 0x27000244 ||| w = w) (h : Kept r b w s0 s) :
    ∀ a1, KeptO r b w s0 (execAffinityReset a1 s) := by
  intro a1
  unfold execAffinityReset
  repeat' first
    | with_reducible assumption
    | with_reducible apply KeptO.next
    | with_reducible refine State.serve_kept (maskLe (by decide) hw) ?_ (fun _ _ _ _ => ?_)
    | with_reducible refine affinityResetBody_kept (maskLe (by decide) hw) ?_ _ _

theorem dumpFreeBody_kept {r b : Bool} {w : Nat} {s0 s : State} (hw : 0x400000 ||| w = w) (h : Kept r b w s0 s) :
    ∀ a1 a2, KeptA r b w s0 (dumpFreeBody a1 a2 s) := by
  intro a1 a2
  unfold dumpFreeBody
  repeat' first
    | with_reducible assumption
    | with_reducible apply KeptA.ok
    | with_reducible apply KeptA.fail
    | with_reducible apply KeptA.wait
    | with_reducible apply chain_kept
    | fail_if_no_progress with_reducible refine Kept.upd_lake (maskLe (by decide) hw) ?_

theorem execDumpFree_kept {r b : Bool} {w : Nat} {s0 s : State} (hw : 0x27400204 ||| w = w) (h : Kept r b w s0 s) :
    ∀ a1, KeptO r b w s0 (execDumpFree a1 s) := by
  intro a1
  unfold execDumpFree
  repeat' first
    | with_reducible assumption
    | with_reducible apply KeptO.next
    | with_reducible refine State.serve_kept (maskLe (by decide) hw) ?_ (fun _ _ _ _ => ?_)
    | with_reducible refine dumpFreeBody_kept (maskLe (by decide) hw) ?_ _ _

theorem maintBody_kept {r b : Bool} {w : Nat} {s0 s : State} (hw : 0x1000 ||| w = w) (h : Kept r b w s0 s) :
    ∀ a1 a2 a3 a4, KeptA r b w s0 (maintBody a1 a2 a3 a4 s) := by
  intro a1 a2 a3 a4
  unfold maintBody
  repeat' first
    | with_reducible assumption
    | with_reducible apply KeptA.ok
    | with_reducible apply KeptA.fail
    | with_reducible apply KeptA.wait
    | with_reducible apply chain_kept
    | with_reducible refine State.request_kept (maskLe (by decide) hw) ?_ _ _

theorem execMaintReqScrub_kept {r b : Bool} {w : Nat} {s0 s : State} (hw : 0x27001204 ||| w = w) (h : Kept r b w s0 s) :
    ∀ a1, KeptO r b w s0 (execMaintReqScrub a1 s) := by
  intro a1
  unfold execMaintReqScrub
  repeat' first
    | with_reducible assumption
    | with_reducible apply KeptO.next
    | with_reducible refine State.serve_kept (maskLe (by decide) hw) ?_ (fun _ _ _ _ => ?_)
    | with_reducible refine maintBody_kept (maskLe (by decide) hw) ?_ _ _ _ _

theorem execMaintReqHeal_kept {r b : Bool} {w : Nat} {s0 s : State} (hw : 0x27001204 ||| w = w) (h : Kept r b w s0 s) :
    ∀ a1, KeptO r b w s0 (execMaintReqHeal a1 s) := by
  intro a1
  unfold execMaintReqHeal
  repeat' first
    | with_reducible assumption
    | with_reducible apply KeptO.next
    | with_reducible refine State.serve_kept (maskLe (by decide) hw) ?_ (fun _ _ _ _ => ?_)
    | with_reducible refine maintBody_kept (maskLe (by decide) hw) ?_ _ _ _ _

theorem execMaintReqRepairRow_kept {r b : Bool} {w : Nat} {s0 s : State} (hw : 0x27001204 ||| w = w) (h : Kept r b w s0 s) :
    ∀ a1, KeptO r b w s0 (execMaintReqRepairRow a1 s) := by
  intro a1
  unfold execMaintReqRepairRow
  repeat' first
    | with_reducible assumption
    | with_reducible apply KeptO.next
    | with_reducible refine State.serve_kept (maskLe (by decide) hw) ?_ (fun _ _ _ _ => ?_)
    | with_reducible refine maintBody_kept (maskLe (by decide) hw) ?_ _ _ _ _

theorem execMaintReqRepairLane_kept {r b : Bool} {w : Nat} {s0 s : State} (hw : 0x27001204 ||| w = w) (h : Kept r b w s0 s) :
    ∀ a1, KeptO r b w s0 (execMaintReqRepairLane a1 s) := by
  intro a1
  unfold execMaintReqRepairLane
  repeat' first
    | with_reducible assumption
    | with_reducible apply KeptO.next
    | with_reducible refine State.serve_kept (maskLe (by decide) hw) ?_ (fun _ _ _ _ => ?_)
    | with_reducible refine maintBody_kept (maskLe (by decide) hw) ?_ _ _ _ _

theorem execMaintReqCapture_kept {r b : Bool} {w : Nat} {s0 s : State} (hw : 0x27001204 ||| w = w) (h : Kept r b w s0 s) :
    ∀ a1, KeptO r b w s0 (execMaintReqCapture a1 s) := by
  intro a1
  unfold execMaintReqCapture
  repeat' first
    | with_reducible assumption
    | with_reducible apply KeptO.next
    | with_reducible refine State.serve_kept (maskLe (by decide) hw) ?_ (fun _ _ _ _ => ?_)
    | with_reducible refine maintBody_kept (maskLe (by decide) hw) ?_ _ _ _ _

theorem State.claimFor_kept {r b : Bool} {w : Nat} {s0 s : State} (hw : 0x4 ||| w = w) (h : Kept r b w s0 s) :
    ∀ a1, Kept r b w s0 (State.claimFor s a1) := by
  intro a1
  unfold State.claimFor
  repeat' first
    | with_reducible assumption
    | fail_if_no_progress with_reducible refine Kept.upd_boot (maskLe (by decide) hw) ?_

theorem State.putXfer_kept {r b : Bool} {w : Nat} {s0 s : State} (hw : 0x400000000 ||| w = w) (h : Kept r b w s0 s)
    (l : List Nat) : Kept r b w s0 (s.putXfer l) := by
  refine h.more hw ⟨fun q => ?_, id, id, fun _ => id, fun _ => SameRecords.refl _,
    fun f e => by cases f <;> first | rfl | cases e⟩
  have ⟨a1, a2, a3, a4⟩ := (Memory.wf_iff s).mp q
  exact (Memory.wf_iff _).mpr ⟨a1, a2, cellsWf_foldl _ (fun m x hm => cellsWf_set hm _ _) _ _ a3, a4⟩

theorem repairAns_kept {r b : Bool} {w : Nat} {s0 s : State} (hw : 0x101000000 ||| w = w) (h : Kept r b w s0 s) :
    ∀ a1 a2 a3 a4 a5, KeptA r b w s0 (repairAns s a1 a2 a3 a4 a5) := by
  intro a1 a2 a3 a4 a5
  unfold repairAns
  repeat' first
    | with_reducible assumption
    | with_reducible apply KeptA.ok
    | with_reducible apply KeptA.fail
    | with_reducible apply KeptA.wait
    | with_reducible apply chain_kept
    | with_reducible refine State.ticketQueued_kept (maskLe (by decide) hw) ?_ _
    | with_reducible refine State.storeMap_kept (maskLe (by decide) hw) ?_ _ _ _ _ _

theorem promoteBody_kept {r b : Bool} {w : Nat} {s0 s : State} (hw : 0x101000000 ||| w = w) (h : Kept r b w s0 s) :
    ∀ a1 a2, KeptA r b w s0 (promoteBody a1 a2 s) := by
  intro a1 a2
  unfold promoteBody
  repeat' first
    | with_reducible assumption
    | with_reducible apply Kept.ite
    | with_reducible apply KeptA.ok
    | with_reducible apply KeptA.fail
    | with_reducible apply KeptA.wait
    | with_reducible apply chain_kept
    | with_reducible apply KeptA.ite
    | with_reducible refine repairAns_kept (maskLe (by decide) hw) ?_ _ _ _ _ _

theorem execRepairPromote_kept {r b : Bool} {w : Nat} {s0 s : State} (hw : 0x127000204 ||| w = w) (h : Kept r b w s0 s) :
    ∀ a1, KeptO r b w s0 (execRepairPromote a1 s) := by
  intro a1
  unfold execRepairPromote
  repeat' first
    | with_reducible assumption
    | with_reducible apply KeptO.next
    | with_reducible refine State.serve_kept (maskLe (by decide) hw) ?_ (fun _ _ _ _ => ?_)
    | with_reducible refine promoteBody_kept (maskLe (by decide) hw) ?_ _ _

theorem compactBody_kept {r b : Bool} {w : Nat} {s0 s : State} (hw : 0x101000000 ||| w = w) (h : Kept r b w s0 s) :
    ∀ a1 a2, KeptA r b w s0 (compactBody a1 a2 s) := by
  intro a1 a2
  unfold compactBody
  repeat' first
    | with_reducible assumption
    | with_reducible apply KeptA.ok
    | with_reducible apply KeptA.fail
    | with_reducible apply KeptA.wait
    | with_reducible apply chain_kept
    | with_reducible refine repairAns_kept (maskLe (by decide) hw) ?_ _ _ _ _ _

theorem execRepairCompact_kept {r b : Bool} {w : Nat} {s0 s : State} (hw : 0x127000204 ||| w = w) (h : Kept r b w s0 s) :
    ∀ a1, KeptO r b w s0 (execRepairCompact a1 s) := by
  intro a1
  unfold execRepairCompact
  repeat' first
    | with_reducible assumption
    | with_reducible apply KeptO.next
    | with_reducible refine State.serve_kept (maskLe (by decide) hw) ?_ (fun _ _ _ _ => ?_)
    | with_reducible refine compactBody_kept (maskLe (by decide) hw) ?_ _ _

theorem clearStackBody_kept {r b : Bool} {w : Nat} {s0 s : State} (hw : 0x101000000 ||| w = w) (h : Kept r b w s0 s) :
    ∀ a1 a2, KeptA r b w s0 (clearStackBody a1 a2 s) := by
  intro a1 a2
  unfold clearStackBody
  repeat' first
    | with_reducible assumption
    | with_reducible apply KeptA.ok
    | with_reducible apply KeptA.fail
    | with_reducible apply KeptA.wait
    | with_reducible apply chain_kept
    | with_reducible refine repairAns_kept (maskLe (by decide) hw) ?_ _ _ _ _ _

theorem execRepairClearStack_kept {r b : Bool} {w : Nat} {s0 s : State} (hw : 0x127000204 ||| w = w) (h : Kept r b w s0 s) :
    ∀ a1, KeptO r b w s0 (execRepairClearStack a1 s) := by
  intro a1
  unfold execRepairClearStack
  repeat' first
    | with_reducible assumption
    | with_reducible apply KeptO.next
    | with_reducible refine State.serve_kept (maskLe (by decide) hw) ?_ (fun _ _ _ _ => ?_)
    | with_reducible refine clearStackBody_kept (maskLe (by decide) hw) ?_ _ _

theorem reserialBody_kept {r b : Bool} {w : Nat} {s0 s : State} (hw : 0x101000000 ||| w = w) (h : Kept r b w s0 s) :
    ∀ a1 a2, KeptA r b w s0 (reserialBody a1 a2 s) := by
  intro a1 a2
  unfold reserialBody
  repeat' first
    | with_reducible assumption
    | with_reducible apply Kept.ite
    | with_reducible apply KeptA.ok
    | with_reducible apply KeptA.fail
    | with_reducible apply KeptA.wait
    | with_reducible apply chain_kept
    | with_reducible apply KeptA.ite
    | with_reducible refine repairAns_kept (maskLe (by decide) hw) ?_ _ _ _ _ _

theorem execRepairReserial_kept {r b : Bool} {w : Nat} {s0 s : State} (hw : 0x127000204 ||| w = w) (h : Kept r b w s0 s) :
    ∀ a1, KeptO r b w s0 (execRepairReserial a1 s) := by
  intro a1
  unfold execRepairReserial
  repeat' first
    | with_reducible assumption
    | with_reducible apply KeptO.next
    | with_reducible refine State.serve_kept (maskLe (by decide) hw) ?_ (fun _ _ _ _ => ?_)
    | with_reducible refine reserialBody_kept (maskLe (by decide) hw) ?_ _ _

theorem repairReadBody_kept {r b : Bool} {w : Nat} {s0 s : State} (hw : 0x400000004 ||| w = w) (h : Kept r b w s0 s) :
    ∀ a1 a2, KeptA r b w s0 (repairReadBody a1 a2 s) := by
  intro a1 a2
  unfold repairReadBody
  repeat' first
    | with_reducible assumption
    | with_reducible apply KeptA.ok
    | with_reducible apply KeptA.fail
    | with_reducible apply KeptA.wait
    | with_reducible apply chain_kept
    | with_reducible refine State.putXfer_kept (maskLe (by decide) hw) ?_ _
    | with_reducible refine State.claimFor_kept (maskLe (by decide) hw) ?_ _

theorem execRepairRead_kept {r b : Bool} {w : Nat} {s0 s : State} (hw : 0x427000204 ||| w = w) (h : Kept r b w s0 s) :
    ∀ a1, KeptO r b w s0 (execRepairRead a1 s) := by
  intro a1
  unfold execRepairRead
  repeat' first
    | with_reducible assumption
    | with_reducible apply KeptO.next
    | with_reducible refine State.serve_kept (maskLe (by decide) hw) ?_ (fun _ _ _ _ => ?_)
    | with_reducible refine repairReadBody_kept (maskLe (by decide) hw) ?_ _ _

theorem thermalReleaseBody_kept {r b : Bool} {w : Nat} {s0 s : State} (hw : 0x306005e400 ||| w = w) (h : Kept r b w s0 s) :
    ∀ a1 a2, KeptA r b w s0 (thermalReleaseBody a1 a2 s) := by
  intro a1 a2
  unfold thermalReleaseBody
  repeat' first
    | with_reducible assumption
    | with_reducible apply Kept.ite
    | with_reducible apply KeptA.ok
    | with_reducible apply KeptA.fail
    | with_reducible apply KeptA.wait
    | with_reducible apply chain_kept
    | with_reducible apply KeptA.ite
    | with_reducible refine State.restartStack_kept (maskLe (by decide) hw) ?_ _
    | with_reducible refine State.setHeat_kept (maskLe (by decide) hw) ?_ _ _
    | split
    | with_reducible refine Kept.foldl (fun _ _ _ => ?_) _ _ ?_

theorem execThermalRelease_kept {r b : Bool} {w : Nat} {s0 s : State} (hw : 0x306705e604 ||| w = w) (h : Kept r b w s0 s) :
    ∀ a1, KeptO r b w s0 (execThermalRelease a1 s) := by
  intro a1
  unfold execThermalRelease
  repeat' first
    | with_reducible assumption
    | with_reducible apply KeptO.next
    | with_reducible refine State.serve_kept (maskLe (by decide) hw) ?_ (fun _ _ _ _ => ?_)
    | with_reducible refine thermalReleaseBody_kept (maskLe (by decide) hw) ?_ _ _

theorem stackFenceBody_kept {r b : Bool} {w : Nat} {s0 s : State} (hw : 0x30e7de7dac ||| w = w) (h : Kept r b w s0 s) :
    ∀ a1 a2, KeptA r b w s0 (stackFenceBody a1 a2 s) := by
  intro a1 a2
  unfold stackFenceBody
  repeat' first
    | with_reducible assumption
    | with_reducible apply Kept.ite
    | with_reducible apply KeptA.ok
    | with_reducible apply KeptA.fail
    | with_reducible apply KeptA.wait
    | with_reducible apply chain_kept
    | with_reducible apply KeptA.ite
    | with_reducible refine State.fence_kept (maskLe (by decide) hw) ?_ _ _

theorem execStackFence_kept {r b : Bool} {w : Nat} {s0 s : State} (hw : 0x30e7de7fac ||| w = w) (h : Kept r b w s0 s) :
    ∀ a1, KeptO r b w s0 (execStackFence a1 s) := by
  intro a1
  unfold execStackFence
  repeat' first
    | with_reducible assumption
    | with_reducible apply KeptO.next
    | with_reducible refine State.serve_kept (maskLe (by decide) hw) ?_ (fun _ _ _ _ => ?_)
    | with_reducible refine stackFenceBody_kept (maskLe (by decide) hw) ?_ _ _

theorem stackFenceClearBody_kept {r b : Bool} {w : Nat} {s0 s : State} (hw : 0x1020000 ||| w = w) (h : Kept r b w s0 s) :
    ∀ a1 a2, KeptA r b w s0 (stackFenceClearBody a1 a2 s) := by
  intro a1 a2
  unfold stackFenceClearBody
  repeat' first
    | with_reducible assumption
    | with_reducible apply Kept.ite
    | with_reducible apply KeptA.ok
    | with_reducible apply KeptA.fail
    | with_reducible apply KeptA.wait
    | with_reducible apply chain_kept
    | with_reducible apply KeptA.ite
    | with_reducible refine State.ticketQueued_kept (maskLe (by decide) hw) ?_ _
    | with_reducible refine State.setSup_kept (maskLe (by decide) hw) ?_ _ _

theorem execStackFenceClear_kept {r b : Bool} {w : Nat} {s0 s : State} (hw : 0x27020204 ||| w = w) (h : Kept r b w s0 s) :
    ∀ a1, KeptO r b w s0 (execStackFenceClear a1 s) := by
  intro a1
  unfold execStackFenceClear
  repeat' first
    | with_reducible assumption
    | with_reducible apply KeptO.next
    | with_reducible refine State.serve_kept (maskLe (by decide) hw) ?_ (fun _ _ _ _ => ?_)
    | with_reducible refine stackFenceClearBody_kept (maskLe (by decide) hw) ?_ _ _

theorem calExportBody_kept {r b : Bool} {w : Nat} {s0 s : State} (hw : 0x400000004 ||| w = w) (h : Kept r b w s0 s) :
    ∀ a1 a2, KeptA r b w s0 (calExportBody a1 a2 s) := by
  intro a1 a2
  unfold calExportBody
  repeat' first
    | with_reducible assumption
    | with_reducible apply Kept.ite
    | with_reducible apply KeptA.ok
    | with_reducible apply KeptA.fail
    | with_reducible apply KeptA.wait
    | with_reducible apply chain_kept
    | with_reducible apply KeptA.ite
    | with_reducible refine State.putXfer_kept (maskLe (by decide) hw) ?_ _
    | with_reducible refine State.claimFor_kept (maskLe (by decide) hw) ?_ _

theorem execCalExport_kept {r b : Bool} {w : Nat} {s0 s : State} (hw : 0x427000204 ||| w = w) (h : Kept r b w s0 s) :
    ∀ a1, KeptO r b w s0 (execCalExport a1 s) := by
  intro a1
  unfold execCalExport
  repeat' first
    | with_reducible assumption
    | with_reducible apply KeptO.next
    | with_reducible refine State.serve_kept (maskLe (by decide) hw) ?_ (fun _ _ _ _ => ?_)
    | with_reducible refine calExportBody_kept (maskLe (by decide) hw) ?_ _ _

theorem calImportBody_kept {r b : Bool} {w : Nat} {s0 s : State} (hw : 0x4000014 ||| w = w) (h : Kept r b w s0 s) :
    ∀ a1 a2, KeptA r b w s0 (calImportBody a1 a2 s) := by
  intro a1 a2
  unfold calImportBody
  repeat' first
    | with_reducible assumption
    | with_reducible apply KeptA.ok
    | with_reducible apply KeptA.fail
    | with_reducible apply KeptA.wait
    | with_reducible refine KeptA.staged (maskLe (by decide) hw) _ _ ?_
    | with_reducible apply chain_kept
    | fail_if_no_progress with_reducible refine Kept.upd_boot_tickets (maskLe (by decide) hw) ?_
    | split

theorem execCalImport_kept {r b : Bool} {w : Nat} {s0 s : State} (hw : 0x27000214 ||| w = w) (h : Kept r b w s0 s) :
    ∀ a1, KeptO r b w s0 (execCalImport a1 s) := by
  intro a1
  unfold execCalImport
  repeat' first
    | with_reducible assumption
    | with_reducible apply KeptO.next
    | with_reducible refine State.serve_kept (maskLe (by decide) hw) ?_ (fun _ _ _ _ => ?_)
    | with_reducible refine calImportBody_kept (maskLe (by decide) hw) ?_ _ _

theorem calRetrainBody_kept {r b : Bool} {w : Nat} {s0 s : State} (hw : 0x5041000 ||| w = w) (h : Kept r b w s0 s) :
    ∀ a1 a2, KeptA r b w s0 (calRetrainBody a1 a2 s) := by
  intro a1 a2
  unfold calRetrainBody
  repeat' first
    | with_reducible assumption
    | with_reducible apply Kept.ite
    | with_reducible apply KeptA.ok
    | with_reducible apply KeptA.fail
    | with_reducible apply KeptA.wait
    | with_reducible apply chain_kept
    | with_reducible apply KeptA.ite
    | with_reducible refine State.ticketQueued_kept (maskLe (by decide) hw) ?_ _
    | with_reducible refine State.requestRetrain_kept (maskLe (by decide) hw) ?_ _ _ _
    | fail_if_no_progress with_reducible refine Kept.upd_tickets (maskLe (by decide) hw) ?_
    | split
    | with_reducible refine Kept.foldl (fun _ _ _ => ?_) _ _ ?_

theorem execCalRetrain_kept {r b : Bool} {w : Nat} {s0 s : State} (hw : 0x27041204 ||| w = w) (h : Kept r b w s0 s) :
    ∀ a1, KeptO r b w s0 (execCalRetrain a1 s) := by
  intro a1
  unfold execCalRetrain
  repeat' first
    | with_reducible assumption
    | with_reducible apply KeptO.next
    | with_reducible refine State.serve_kept (maskLe (by decide) hw) ?_ (fun _ _ _ _ => ?_)
    | with_reducible refine calRetrainBody_kept (maskLe (by decide) hw) ?_ _ _

theorem calBaselineBody_kept {r b : Bool} {w : Nat} {s0 s : State} (hw : 0x101000000 ||| w = w) (h : Kept r b w s0 s) :
    ∀ a1 a2, KeptA r b w s0 (calBaselineBody a1 a2 s) := by
  intro a1 a2
  unfold calBaselineBody
  repeat' first
    | with_reducible assumption
    | with_reducible apply Kept.ite
    | with_reducible apply chain_kept
    | with_reducible apply KeptA.fail
    | with_reducible apply KeptA.ok
    | with_reducible apply KeptA.wait
    | with_reducible apply KeptA.ite
    | with_reducible refine State.ticketQueued_kept (maskLe (by decide) hw) ?_ _
    | fail_if_no_progress with_reducible refine Kept.upd_stores (maskLe (by decide) hw) ?_

theorem execCalBaseline_kept {r b : Bool} {w : Nat} {s0 s : State} (hw : 0x127000204 ||| w = w) (h : Kept r b w s0 s) :
    ∀ a1, KeptO r b w s0 (execCalBaseline a1 s) := by
  intro a1
  unfold execCalBaseline
  repeat' first
    | with_reducible assumption
    | with_reducible apply KeptO.next
    | with_reducible refine State.serve_kept (maskLe (by decide) hw) ?_ (fun _ _ _ _ => ?_)
    | with_reducible refine calBaselineBody_kept (maskLe (by decide) hw) ?_ _ _

theorem ownerAcceptBody_kept {r b : Bool} {w : Nat} {s0 s : State} (hw : 0x8000000 ||| w = w) (h : Kept r b w s0 s) :
    ∀ a1 a2, KeptA r b w s0 (ownerAcceptBody a1 a2 s) := by
  intro a1 a2
  unfold ownerAcceptBody
  repeat' first
    | with_reducible assumption
    | with_reducible apply KeptA.ok
    | with_reducible apply KeptA.fail
    | with_reducible apply KeptA.wait
    | with_reducible apply chain_kept
    | with_reducible refine State.setHost_kept (maskLe (by decide) hw) ?_ _ _

theorem execOwnerAccept_kept {r b : Bool} {w : Nat} {s0 s : State} (hw : 0x2f000204 ||| w = w) (h : Kept r b w s0 s) :
    ∀ a1, KeptO r b w s0 (execOwnerAccept a1 s) := by
  intro a1
  unfold execOwnerAccept
  repeat' first
    | with_reducible assumption
    | with_reducible apply KeptO.next
    | with_reducible refine State.serve_kept (maskLe (by decide) hw) ?_ (fun _ _ _ _ => ?_)
    | with_reducible refine ownerAcceptBody_kept (maskLe (by decide) hw) ?_ _ _

theorem umapBody_kept {r b : Bool} {w : Nat} {s0 s : State} (hw : 0x10000000 ||| w = w) (h : Kept r b w s0 s) :
    ∀ a1 a2 a3, KeptA r b w s0 (umapBody a1 a2 a3 s) := by
  intro a1 a2 a3
  unfold umapBody
  repeat' first
    | with_reducible assumption
    | with_reducible apply KeptA.ok
    | with_reducible apply KeptA.fail
    | with_reducible apply KeptA.wait
    | with_reducible apply chain_kept
    | with_reducible refine State.setTenSt_kept (maskLe (by decide) hw) ?_ _ _

theorem execCntAllowUmap_kept {r b : Bool} {w : Nat} {s0 s : State} (hw : 0x37000204 ||| w = w) (h : Kept r b w s0 s) :
    ∀ a1, KeptO r b w s0 (execCntAllowUmap a1 s) := by
  intro a1
  unfold execCntAllowUmap
  repeat' first
    | with_reducible assumption
    | with_reducible apply KeptO.next
    | with_reducible refine State.serve_kept (maskLe (by decide) hw) ?_ (fun _ _ _ _ => ?_)
    | with_reducible refine umapBody_kept (maskLe (by decide) hw) ?_ _ _ _

theorem execCntRevokeUmap_kept {r b : Bool} {w : Nat} {s0 s : State} (hw : 0x37000204 ||| w = w) (h : Kept r b w s0 s) :
    ∀ a1, KeptO r b w s0 (execCntRevokeUmap a1 s) := by
  intro a1
  unfold execCntRevokeUmap
  repeat' first
    | with_reducible assumption
    | with_reducible apply KeptO.next
    | with_reducible refine State.serve_kept (maskLe (by decide) hw) ?_ (fun _ _ _ _ => ?_)
    | with_reducible refine umapBody_kept (maskLe (by decide) hw) ?_ _ _ _

theorem armBody_kept {r b : Bool} {w : Nat} {s0 s : State} (hw : 0x40000000 ||| w = w) (h : Kept r b w s0 s) :
    ∀ a1 a2, KeptA r b w s0 (armBody a1 a2 s) := by
  intro a1 a2
  unfold armBody
  repeat' first
    | with_reducible assumption
    | with_reducible apply KeptA.ok
    | with_reducible apply KeptA.fail
    | with_reducible apply KeptA.wait
    | with_reducible apply chain_kept
    | fail_if_no_progress with_reducible refine Kept.upd_trace (maskLe (by decide) hw) ?_
    | split

theorem execCntArmSampling_kept {r b : Bool} {w : Nat} {s0 s : State} (hw : 0x67000204 ||| w = w) (h : Kept r b w s0 s) :
    ∀ a1, KeptO r b w s0 (execCntArmSampling a1 s) := by
  intro a1
  unfold execCntArmSampling
  repeat' first
    | with_reducible assumption
    | with_reducible apply KeptO.next
    | with_reducible refine State.serve_kept (maskLe (by decide) hw) ?_ (fun _ _ _ _ => ?_)
    | with_reducible refine armBody_kept (maskLe (by decide) hw) ?_ _ _

theorem disarmBody_kept {r b : Bool} {w : Nat} {s0 s : State} (hw : 0x40000000 ||| w = w) (h : Kept r b w s0 s) :
    ∀ a1 a2, KeptA r b w s0 (disarmBody a1 a2 s) := by
  intro a1 a2
  unfold disarmBody
  repeat' first
    | with_reducible assumption
    | with_reducible apply KeptA.ok
    | with_reducible apply KeptA.fail
    | with_reducible apply KeptA.wait
    | with_reducible apply chain_kept
    | fail_if_no_progress with_reducible refine Kept.upd_trace (maskLe (by decide) hw) ?_

theorem execCntDisarmSampling_kept {r b : Bool} {w : Nat} {s0 s : State} (hw : 0x67000204 ||| w = w) (h : Kept r b w s0 s) :
    ∀ a1, KeptO r b w s0 (execCntDisarmSampling a1 s) := by
  intro a1
  unfold execCntDisarmSampling
  repeat' first
    | with_reducible assumption
    | with_reducible apply KeptO.next
    | with_reducible refine State.serve_kept (maskLe (by decide) hw) ?_ (fun _ _ _ _ => ?_)
    | with_reducible refine disarmBody_kept (maskLe (by decide) hw) ?_ _ _

theorem energyReadBody_kept {r b : Bool} {w : Nat} {s0 s : State} (hw : 0x0 ||| w = w) (h : Kept r b w s0 s) :
    ∀ a1 a2, KeptA r b w s0 (energyReadBody a1 a2 s) := by
  intro a1 a2
  unfold energyReadBody
  repeat' first
    | with_reducible assumption
    | with_reducible apply Kept.ite
    | with_reducible apply KeptA.ok
    | with_reducible apply KeptA.fail
    | with_reducible apply KeptA.wait
    | with_reducible apply chain_kept

theorem execEnergyRead_kept {r b : Bool} {w : Nat} {s0 s : State} (hw : 0x27000204 ||| w = w) (h : Kept r b w s0 s) :
    ∀ a1, KeptO r b w s0 (execEnergyRead a1 s) := by
  intro a1
  unfold execEnergyRead
  repeat' first
    | with_reducible assumption
    | with_reducible apply KeptO.next
    | with_reducible refine State.serve_kept (maskLe (by decide) hw) ?_ (fun _ _ _ _ => ?_)
    | with_reducible refine energyReadBody_kept (maskLe (by decide) hw) ?_ _ _

theorem subscribeBody_kept {r b : Bool} {w : Nat} {s0 s : State} (hw : 0x10000000 ||| w = w) (h : Kept r b w s0 s) :
    ∀ a1 a2 a3, KeptA r b w s0 (subscribeBody a1 a2 a3 s) := by
  intro a1 a2 a3
  unfold subscribeBody
  repeat' first
    | with_reducible assumption
    | with_reducible apply Kept.ite
    | with_reducible apply KeptA.ok
    | with_reducible apply KeptA.fail
    | with_reducible apply KeptA.wait
    | with_reducible apply chain_kept
    | with_reducible apply KeptA.ite
    | with_reducible refine State.setTenSt_kept (maskLe (by decide) hw) ?_ _ _

theorem execSubscribeAdd_kept {r b : Bool} {w : Nat} {s0 s : State} (hw : 0x37000204 ||| w = w) (h : Kept r b w s0 s) :
    ∀ a1, KeptO r b w s0 (execSubscribeAdd a1 s) := by
  intro a1
  unfold execSubscribeAdd
  repeat' first
    | with_reducible assumption
    | with_reducible apply KeptO.next
    | with_reducible refine State.serve_kept (maskLe (by decide) hw) ?_ (fun _ _ _ _ => ?_)
    | with_reducible refine subscribeBody_kept (maskLe (by decide) hw) ?_ _ _ _

theorem execSubscribeRemove_kept {r b : Bool} {w : Nat} {s0 s : State} (hw : 0x37000204 ||| w = w) (h : Kept r b w s0 s) :
    ∀ a1, KeptO r b w s0 (execSubscribeRemove a1 s) := by
  intro a1
  unfold execSubscribeRemove
  repeat' first
    | with_reducible assumption
    | with_reducible apply KeptO.next
    | with_reducible refine State.serve_kept (maskLe (by decide) hw) ?_ (fun _ _ _ _ => ?_)
    | with_reducible refine subscribeBody_kept (maskLe (by decide) hw) ?_ _ _ _

theorem State.setSlot_kept {r b : Bool} {w : Nat} {s0 s : State} (hw : 0x4 ||| w = w) (h : Kept r b w s0 s) :
    ∀ a1 a2, Kept r b w s0 (State.setSlot s a1 a2) := by
  intro a1 a2
  unfold State.setSlot
  repeat' first
    | with_reducible assumption
    | with_reducible apply Kept.ite
    | fail_if_no_progress with_reducible refine Kept.upd_boot (maskLe (by decide) hw) ?_

theorem fwStageBody_kept {r b : Bool} {w : Nat} {s0 s : State} (hw : 0x7000004 ||| w = w) (h : Kept r b w s0 s) :
    ∀ a1 a2 a3, KeptA r b w s0 (fwStageBody a1 a2 a3 s) := by
  intro a1 a2 a3
  unfold fwStageBody
  repeat' first
    | with_reducible assumption
    | with_reducible apply Kept.ite
    | with_reducible apply chain_kept
    | with_reducible apply KeptA.fail
    | with_reducible apply KeptA.ok
    | with_reducible apply KeptA.wait
    | with_reducible apply KeptA.ite
    | with_reducible refine State.setSlot_kept (maskLe (by decide) hw) ?_ _ _
    | with_reducible refine State.claimFor_kept (maskLe (by decide) hw) ?_ _
    | with_reducible refine State.ticketQueued_kept (maskLe (by decide) hw) ?_ _
    | with_reducible refine State.finish_kept (maskLe (by decide) hw) ?_ _ _ _ _
    | fail_if_no_progress with_reducible refine Kept.upd_boot (maskLe (by decide) hw) ?_

theorem execFwStage_kept {r b : Bool} {w : Nat} {s0 s : State} (hw : 0x27000204 ||| w = w) (h : Kept r b w s0 s) :
    ∀ a1 a2, KeptO r b w s0 (execFwStage a1 a2 s) := by
  intro a1 a2
  unfold execFwStage
  repeat' first
    | with_reducible assumption
    | with_reducible apply KeptO.next
    | with_reducible refine State.serve_kept (maskLe (by decide) hw) ?_ (fun _ _ _ _ => ?_)
    | with_reducible refine fwStageBody_kept (maskLe (by decide) hw) ?_ _ _ _

theorem fwActivateBody_kept {r b : Bool} {w : Nat} {s0 s : State} (hw : 0x10 ||| w = w) (h : Kept r b w s0 s) :
    ∀ a1 a2, KeptA r b w s0 (fwActivateBody a1 a2 s) := by
  intro a1 a2
  unfold fwActivateBody
  repeat' first
    | with_reducible assumption
    | with_reducible apply KeptA.ok
    | with_reducible apply KeptA.fail
    | with_reducible apply KeptA.wait
    | with_reducible refine KeptA.staged (maskLe (by decide) hw) _ _ ?_
    | with_reducible apply chain_kept

theorem execFwActivate_kept {r b : Bool} {w : Nat} {s0 s : State} (hw : 0x27000214 ||| w = w) (h : Kept r b w s0 s) :
    ∀ a1, KeptO r b w s0 (execFwActivate a1 s) := by
  intro a1
  unfold execFwActivate
  repeat' first
    | with_reducible assumption
    | with_reducible apply KeptO.next
    | with_reducible refine State.serve_kept (maskLe (by decide) hw) ?_ (fun _ _ _ _ => ?_)
    | with_reducible refine fwActivateBody_kept (maskLe (by decide) hw) ?_ _ _

theorem State.injected_kept {r b : Bool} {w : Nat} {s0 s : State} (hw : 0x3060000000 ||| w = w) (h : Kept r b w s0 s) :
    ∀ a1, Kept r b w s0 (State.injected s a1) := by
  intro a1
  unfold State.injected
  repeat' first
    | with_reducible assumption
    | with_reducible refine State.note_kept (maskLe (by decide) hw) ?_ _ _ _ _

theorem State.injectWord_kept {r b : Bool} {w : Nat} {s0 s : State} (hw : 0x57600 ||| w = w) (h : Kept r b w s0 s) :
    ∀ a1 a2 a3 a4, Kept r b w s0 (State.injectWord s a1 a2 a3 a4) := by
  intro a1 a2 a3 a4
  unfold State.injectWord
  repeat' first
    | with_reducible assumption
    | with_reducible apply Kept.ite
    | with_reducible refine State.closeFor_kept (maskLe (by decide) hw) ?_ _ _
    | with_reducible refine State.flushEnt_kept (maskLe (by decide) hw) ?_ _ _
    | with_reducible refine State.setCare_kept (maskLe (by decide) hw) ?_ _ _

theorem injectBody_kept {r b : Bool} {w : Nat} {s0 s : State} (hw : 0x3060057600 ||| w = w) (h : Kept r b w s0 s) :
    ∀ a1 a2 a3 a4, KeptA r b w s0 (injectBody a1 a2 a3 a4 s) := by
  intro a1 a2 a3 a4
  unfold injectBody
  repeat' first
    | with_reducible assumption
    | with_reducible apply KeptA.ok
    | with_reducible apply KeptA.fail
    | with_reducible apply KeptA.wait
    | with_reducible apply chain_kept
    | with_reducible refine State.injected_kept (maskLe (by decide) hw) ?_ _
    | with_reducible refine State.injectWord_kept (maskLe (by decide) hw) ?_ _ _ _ _

theorem execFaultInjectFlipOne_kept {r b : Bool} {w : Nat} {s0 s : State} (hw : 0x3067057604 ||| w = w) (h : Kept r b w s0 s) :
    ∀ a1, KeptO r b w s0 (execFaultInjectFlipOne a1 s) := by
  intro a1
  unfold execFaultInjectFlipOne
  repeat' first
    | with_reducible assumption
    | with_reducible apply KeptO.next
    | with_reducible refine State.serve_kept (maskLe (by decide) hw) ?_ (fun _ _ _ _ => ?_)
    | with_reducible refine injectBody_kept (maskLe (by decide) hw) ?_ _ _ _ _

theorem execFaultInjectFlipTwo_kept {r b : Bool} {w : Nat} {s0 s : State} (hw : 0x3067057604 ||| w = w) (h : Kept r b w s0 s) :
    ∀ a1, KeptO r b w s0 (execFaultInjectFlipTwo a1 s) := by
  intro a1
  unfold execFaultInjectFlipTwo
  repeat' first
    | with_reducible assumption
    | with_reducible apply KeptO.next
    | with_reducible refine State.serve_kept (maskLe (by decide) hw) ?_ (fun _ _ _ _ => ?_)
    | with_reducible refine injectBody_kept (maskLe (by decide) hw) ?_ _ _ _ _

theorem execFaultInjectStain_kept {r b : Bool} {w : Nat} {s0 s : State} (hw : 0x3067057604 ||| w = w) (h : Kept r b w s0 s) :
    ∀ a1, KeptO r b w s0 (execFaultInjectStain a1 s) := by
  intro a1
  unfold execFaultInjectStain
  repeat' first
    | with_reducible assumption
    | with_reducible apply KeptO.next
    | with_reducible refine State.serve_kept (maskLe (by decide) hw) ?_ (fun _ _ _ _ => ?_)
    | with_reducible refine injectBody_kept (maskLe (by decide) hw) ?_ _ _ _ _

theorem unitBody_kept {r b : Bool} {w : Nat} {s0 s : State} {n : Nat} {used : List (Nat × Nat)} {more : Cmd → List (Bool × Nat × Nat × Nat)}
    {act : Cmd → State → State} (hw : 0x3060000000 ||| w = w) (h : Kept r b w s0 s) (ha : ∀ c x, Kept r b w s0 x → Kept r b w s0 (act c x)) :
    ∀ a1 a2, KeptA r b w s0 (unitBody n used more act a1 a2 s) := by
  intro c tk
  exact chain_kept (KeptA.ok _ (ha _ _ (State.injected_kept (maskLe (by decide) hw) h _))) _

theorem execFaultInjectTempOffset_kept {r b : Bool} {w : Nat} {s0 s : State} (hw : 0x3067008204 ||| w = w) (h : Kept r b w s0 s) :
    ∀ a1, KeptO r b w s0 (execFaultInjectTempOffset a1 s) := by
  intro a1
  unfold execFaultInjectTempOffset
  repeat' first
    | with_reducible assumption
    | with_reducible apply Kept.ite
    | with_reducible apply KeptO.next
    | with_reducible apply KeptO.ite
    | with_reducible refine State.serve_kept (maskLe (by decide) hw) ?_ (fun _ _ _ _ => ?_)
    | with_reducible refine unitBody_kept (maskLe (by decide) hw) ?_ (fun _ _ _ => ?_) _ _
    | with_reducible refine State.setHeat_kept (maskLe (by decide) hw) ?_ _ _

theorem execFaultInjectWithholdAck_kept {r b : Bool} {w : Nat} {s0 s : State} (hw : 0x3067004204 ||| w = w) (h : Kept r b w s0 s) : ∀ a1, KeptO r b w s0 (execFaultInjectWithholdAck a1 s) := by
  intro a1
  unfold execFaultInjectWithholdAck
  repeat' first
    | with_reducible assumption
    | with_reducible apply KeptO.next
    | with_reducible refine State.serve_kept (maskLe (by decide) hw) ?_ (fun _ _ _ _ => ?_)
    | with_reducible refine unitBody_kept (maskLe (by decide) hw) ?_ (fun _ _ _ => ?_) _ _
    | with_reducible refine State.setSck_kept (maskLe (by decide) hw) ?_ _ _

theorem execFaultInjectHeaderParity_kept {r b : Bool} {w : Nat} {s0 s : State} (hw : 0x3067000224 ||| w = w) (h : Kept r b w s0 s) : ∀ a1, KeptO r b w s0 (execFaultInjectHeaderParity a1 s) := by
  intro a1
  unfold execFaultInjectHeaderParity
  repeat' first
    | with_reducible assumption
    | with_reducible apply KeptO.next
    | with_reducible refine State.serve_kept (maskLe (by decide) hw) ?_ (fun _ _ _ _ => ?_)
    | with_reducible refine unitBody_kept (maskLe (by decide) hw) ?_ (fun _ _ _ => ?_) _ _
    | with_reducible refine State.setPort_kept (maskLe (by decide) hw) ?_ _ _

theorem execFaultInjectHostLost_kept {r b : Bool} {w : Nat} {s0 s : State} (hw : 0x306f000214 ||| w = w) (h : Kept r b w s0 s) :
    ∀ a1, KeptO r b w s0 (execFaultInjectHostLost a1 s) := by
  intro a1
  unfold execFaultInjectHostLost
  repeat' first
    | with_reducible assumption
    | with_reducible apply Kept.ite
    | with_reducible apply KeptO.next
    | with_reducible apply KeptO.ite
    | with_reducible refine State.serve_kept (maskLe (by decide) hw) ?_ (fun _ _ _ _ => ?_)
    | with_reducible refine unitBody_kept (maskLe (by decide) hw) ?_ (fun _ _ _ => ?_) _ _
    | with_reducible refine State.hostLost_kept (maskLe (by decide) hw) ?_ _

theorem issueCodeBody_kept {r b : Bool} {w : Nat} {s0 s : State} (hw : 0x4040000000 ||| w = w) (h : Kept r b w s0 s) :
    ∀ a1 a2, KeptA r b w s0 (issueCodeBody a1 a2 s) := by
  intro a1 a2
  unfold issueCodeBody
  repeat' first
    | with_reducible assumption
    | with_reducible apply KeptA.ok
    | with_reducible apply KeptA.fail
    | with_reducible apply KeptA.wait
    | with_reducible apply chain_kept
    | with_reducible refine State.fresh_kept (maskLe (by decide) hw) ?_
    | fail_if_no_progress with_reducible refine Kept.upd_trace (maskLe (by decide) hw) ?_

theorem execDbgIssueCode_kept {r b : Bool} {w : Nat} {s0 s : State} (hw : 0x4067000204 ||| w = w) (h : Kept r b w s0 s) :
    ∀ a1, KeptO r b w s0 (execDbgIssueCode a1 s) := by
  intro a1
  unfold execDbgIssueCode
  repeat' first
    | with_reducible assumption
    | with_reducible apply KeptO.next
    | with_reducible refine State.serve_kept (maskLe (by decide) hw) ?_ (fun _ _ _ _ => ?_)
    | with_reducible refine issueCodeBody_kept (maskLe (by decide) hw) ?_ _ _

theorem rightsBody_kept {r b : Bool} {w : Nat} {s0 s : State} (hw : 0x10000000 ||| w = w) (h : Kept r b w s0 s) :
    ∀ a1 a2 a3, KeptA r b w s0 (rightsBody a1 a2 a3 s) := by
  intro a1 a2 a3
  unfold rightsBody
  repeat' first
    | with_reducible assumption
    | with_reducible apply KeptA.ok
    | with_reducible apply KeptA.fail
    | with_reducible apply KeptA.wait
    | with_reducible apply chain_kept
    | with_reducible refine State.setTenSt_kept (maskLe (by decide) hw) ?_ _ _

theorem execDbgGrantRights_kept {r b : Bool} {w : Nat} {s0 s : State} (hw : 0x37000204 ||| w = w) (h : Kept r b w s0 s) :
    ∀ a1, KeptO r b w s0 (execDbgGrantRights a1 s) := by
  intro a1
  unfold execDbgGrantRights
  repeat' first
    | with_reducible assumption
    | with_reducible apply KeptO.next
    | with_reducible refine State.serve_kept (maskLe (by decide) hw) ?_ (fun _ _ _ _ => ?_)
    | with_reducible refine rightsBody_kept (maskLe (by decide) hw) ?_ _ _ _

theorem execDbgRevokeRights_kept {r b : Bool} {w : Nat} {s0 s : State} (hw : 0x37000204 ||| w = w) (h : Kept r b w s0 s) :
    ∀ a1, KeptO r b w s0 (execDbgRevokeRights a1 s) := by
  intro a1
  unfold execDbgRevokeRights
  repeat' first
    | with_reducible assumption
    | with_reducible apply KeptO.next
    | with_reducible refine State.serve_kept (maskLe (by decide) hw) ?_ (fun _ _ _ _ => ?_)
    | with_reducible refine rightsBody_kept (maskLe (by decide) hw) ?_ _ _ _

theorem dbgUnlockBody_kept {r b : Bool} {w : Nat} {s0 s : State} (hw : 0x47000004 ||| w = w) (h : Kept r b w s0 s) :
    ∀ a1 a2, KeptA r b w s0 (dbgUnlockBody a1 a2 s) := by
  intro a1 a2
  unfold dbgUnlockBody
  repeat' first
    | with_reducible assumption
    | with_reducible apply Kept.ite
    | with_reducible apply KeptA.ok
    | with_reducible apply KeptA.fail
    | with_reducible apply KeptA.wait
    | with_reducible apply chain_kept
    | with_reducible apply KeptA.ite
    | with_reducible refine State.finish_kept (maskLe (by decide) hw) ?_ _ _ _ _
    | fail_if_no_progress with_reducible refine Kept.upd_trace (maskLe (by decide) hw) ?_
    | split

theorem execDbgUnlock_kept {r b : Bool} {w : Nat} {s0 s : State} (hw : 0x67000204 ||| w = w) (h : Kept r b w s0 s) :
    ∀ a1, KeptO r b w s0 (execDbgUnlock a1 s) := by
  intro a1
  unfold execDbgUnlock
  repeat' first
    | with_reducible assumption
    | with_reducible apply KeptO.next
    | with_reducible refine State.serve_kept (maskLe (by decide) hw) ?_ (fun _ _ _ _ => ?_)
    | with_reducible refine dbgUnlockBody_kept (maskLe (by decide) hw) ?_ _ _

theorem State.scanAbort_kept {r b : Bool} {w : Nat} {s0 s : State} (hw : 0x40000000 ||| w = w) (h : Kept r b w s0 s) :
    ∀ a1, Kept r b w s0 (State.scanAbort s a1) := by
  intro a1
  unfold State.scanAbort
  repeat' first
    | with_reducible assumption
    | with_reducible apply Kept.ite
    | fail_if_no_progress with_reducible refine Kept.upd_trace (maskLe (by decide) hw) ?_

theorem State.stopEnds_kept {r b : Bool} {w : Nat} {s0 s : State} (hw : 0x40057602 ||| w = w) (h : Kept r b w s0 s) :
    Kept r b w s0 (State.stopEnds s) := by
  unfold State.stopEnds
  repeat' first
    | with_reducible assumption
    | with_reducible apply Kept.ite
    | with_reducible refine State.scanAbort_kept (maskLe (by decide) hw) ?_ _
    | with_reducible refine State.recheck_kept _ (maskLe (by decide) hw) ?_ _
    | fail_if_no_progress with_reducible refine Kept.upd_pins (maskLe (by decide) hw) ?_ ⟨rfl, rfl, id, id⟩
    | (lift_lets -underBinder; intro x; refine Kept.via (r := r) (b := b) (w := w) (s0 := s0) x ?_ ?_;
       on_goal 2 => (clear_value x; intro _); on_goal 1 => try subst x)
    | (lift_lets -underBinder; intro x;
       first
         | (have _ : Pins := x; subst x) | (have _ : _ → State := x; subst x)
         | (have _ : _ → _ → State := x; subst x) | clear_value x)
    | split
    | with_reducible refine Kept.foldl (fun _ _ _ => ?_) _ _ ?_

theorem dbgResumeBody_kept {r b : Bool} {w : Nat} {s0 s : State} (hw : 0x40057602 ||| w = w) (h : Kept r b w s0 s) :
    ∀ a1 a2, KeptA r b w s0 (dbgResumeBody a1 a2 s) := by
  intro a1 a2
  unfold dbgResumeBody
  repeat' first
    | with_reducible assumption
    | with_reducible apply KeptA.ok
    | with_reducible apply KeptA.fail
    | with_reducible apply KeptA.wait
    | with_reducible apply chain_kept
    | with_reducible refine State.stopEnds_kept (maskLe (by decide) hw) ?_
    | (lift_lets -underBinder; intro x; refine Kept.via (r := r) (b := b) (w := w) (s0 := s0) x ?_ ?_;
       on_goal 2 => (clear_value x; intro _); on_goal 1 => try subst x)
    | (lift_lets -underBinder; intro x;
       first
         | (have _ : Pins := x; subst x) | (have _ : _ → State := x; subst x)
         | (have _ : _ → _ → State := x; subst x) | clear_value x)
    | fail_if_no_progress with_reducible refine Kept.upd_pins (maskLe (by decide) hw) ?_ ⟨rfl, rfl, id, id⟩

theorem execDbgResume_kept {r b : Bool} {w : Nat} {s0 s : State} (hw : 0x67057606 ||| w = w) (h : Kept r b w s0 s) :
    ∀ a1, KeptO r b w s0 (execDbgResume a1 s) := by
  intro a1
  unfold execDbgResume
  repeat' first
    | with_reducible assumption
    | with_reducible apply KeptO.next
    | with_reducible refine State.serve_kept (maskLe (by decide) hw) ?_ (fun _ _ _ _ => ?_)
    | with_reducible refine dbgResumeBody_kept (maskLe (by decide) hw) ?_ _ _

end Sys2Proof.Machine
end

