-- ==== Sys2Proof/Laws/KeptRest.lean ====
section
/-! SUPPORT. What the functions of Arbiter, Boot, BringUp, BlockReset, Debug, Registers, Tick
keep and may change: one lemma each, in the order of their calls. -/

namespace Sys2Proof.Machine

theorem State.queuePieces_kept {r b : Bool} {w : Nat} {s0 s : State} (hw : 0x57600 ||| w = w) (h : Kept r b w s0 s) :
    ∀ a1 a2, Kept r b w s0 (State.queuePieces s a1 a2) := by
  intro a1 a2
  unfold State.queuePieces
  repeat' first
    | with_reducible assumption
    | with_reducible apply Kept.ite
    | with_reducible refine State.mergeBurst_kept (maskLe (by decide) hw) ?_ _ _ _ _ _ _ _ _ _ _ _
    | with_reducible refine State.enqueue_kept (maskLe (by decide) hw) ?_ _ _
    | split
    | with_reducible refine Kept.foldl (fun _ _ _ => ?_) _ _ ?_

theorem State.servedPart_kept {r b : Bool} {w : Nat} {s0 s : State} (hw : 0x20000080 ||| w = w) (h : Kept r b w s0 s) :
    ∀ a1 a2, Kept r b w s0 (State.servedPart s a1 a2) := by
  intro a1 a2
  unfold State.servedPart
  repeat' first
    | with_reducible assumption
    | with_reducible refine State.cntT_kept (maskLe (by decide) hw) ?_ _ _ _
    | with_reducible refine State.setReq_kept (maskLe (by decide) hw) ?_ _ _

theorem State.forwardEffects_kept {r b : Bool} {w : Nat} {s0 s : State} (hw : 0x70e05d67a2 ||| w = w) (h : Kept r b w s0 s) :
    ∀ a1 a2, Kept r b w s0 (State.forwardEffects s a1 a2) := by
  intro a1 a2
  unfold State.forwardEffects
  repeat' first
    | with_reducible assumption
    | with_reducible apply Kept.ite
    | with_reducible refine State.cntT_kept (maskLe (by decide) hw) ?_ _ _ _
    | with_reducible refine State.digest_kept (maskLe (by decide) hw) ?_ _ _ _ _ _
    | with_reducible refine State.stainEvent_kept (maskLe (by decide) hw) ?_ _ _ _ _ _ _ _
    | with_reducible refine State.trigger_kept (maskLe (by decide) hw) ?_ _ _ _
    | (lift_lets -underBinder; intro x; refine Kept.via (r := r) (b := b) (w := w) (s0 := s0) x ?_ ?_;
       on_goal 2 => (clear_value x; intro _); on_goal 1 => try subst x)
    | (lift_lets -underBinder; intro x;
       first
         | (have _ : Pins := x; subst x) | (have _ : _ → State := x; subst x)
         | (have _ : _ → _ → State := x; subst x) | clear_value x)
    | split
    | with_reducible refine Kept.foldl (fun _ _ _ => ?_) _ _ ?_
    | with_reducible refine Kept.foldl1 (fun _ _ _ => ?_) _ _ ?_
    | dsimp only

theorem State.payloadParity_kept {r b : Bool} {w : Nat} {s0 s : State} (hw : 0x30e0000000 ||| w = w) (h : Kept r b w s0 s) :
    ∀ a1, Kept r b w s0 (State.payloadParity s a1) := by
  intro a1
  unfold State.payloadParity
  repeat' first
    | with_reducible assumption
    | with_reducible apply Kept.ite
    | with_reducible refine State.stainEvent_kept (maskLe (by decide) hw) ?_ _ _ _ _ _ _ _
    | (lift_lets -underBinder; intro x; refine Kept.via (r := r) (b := b) (w := w) (s0 := s0) x ?_ ?_;
       on_goal 2 => (clear_value x; intro _); on_goal 1 => try subst x)
    | (lift_lets -underBinder; intro x;
       first
         | (have _ : Pins := x; subst x) | (have _ : _ → State := x; subst x)
         | (have _ : _ → _ → State := x; subst x) | clear_value x)
    | split
    | with_reducible refine Kept.foldl (fun _ _ _ => ?_) _ _ ?_

theorem State.admitPart_kept {r b : Bool} {w : Nat} {s0 s : State} (hw : 0x70e05d77a2 ||| w = w) (h : Kept r b w s0 s) :
    ∀ a1, Kept r b w s0 (State.admitPart s a1) := by
  intro a1
  unfold State.admitPart
  repeat' first
    | with_reducible assumption
    | with_reducible apply Kept.ite
    | with_reducible refine State.payloadParity_kept (maskLe (by decide) hw) ?_ _
    | with_reducible refine State.forwardEffects_kept (maskLe (by decide) hw) ?_ _ _
    | with_reducible refine State.servedPart_kept (maskLe (by decide) hw) ?_ _ _
    | with_reducible refine State.queuePieces_kept (maskLe (by decide) hw) ?_ _ _
    | with_reducible refine State.startGather_kept (maskLe (by decide) hw) ?_ _ _ _
    | with_reducible refine State.gatherDebt_kept (maskLe (by decide) hw) ?_ _
    | with_reducible refine State.acceptAccu_kept (maskLe (by decide) hw) ?_ _ _ _
    | with_reducible refine State.acceptAcco_kept (maskLe (by decide) hw) ?_ _ _
    | with_reducible refine State.freeStages_kept (maskLe (by decide) hw) ?_ _
    | with_reducible refine State.freePath_kept (maskLe (by decide) hw) ?_ _
    | with_reducible refine State.answer_kept (maskLe (by decide) hw) ?_ _ _ _
    | with_reducible refine State.returnCredits_kept (maskLe (by decide) hw) ?_ _ _ _
    | with_reducible refine State.dropPart_kept (maskLe (by decide) hw) ?_ _
    | with_reducible refine State.setPart_kept (maskLe (by decide) hw) ?_ _ _
    | with_reducible refine State.traceRec_kept (maskLe (by decide) hw) ?_ _
    | (lift_lets -underBinder; intro x; refine Kept.via (r := r) (b := b) (w := w) (s0 := s0) x ?_ ?_;
       on_goal 2 => (clear_value x; intro _); on_goal 1 => try subst x)
    | (lift_lets -underBinder; intro x;
       first
         | (have _ : Pins := x; subst x) | (have _ : _ → State := x; subst x)
         | (have _ : _ → _ → State := x; subst x) | clear_value x)
    | split

theorem State.bridgeBytes_kept {r b : Bool} {w : Nat} {s0 s : State} (hw : 0x20000000 ||| w = w) (h : Kept r b w s0 s) :
    ∀ a1 a2 a3 a4, Kept r b w s0 (State.bridgeBytes s a1 a2 a3 a4) := by
  intro a1 a2 a3 a4
  unfold State.bridgeBytes
  repeat' first
    | with_reducible assumption
    | with_reducible apply Kept.ite
    | with_reducible refine State.cntG_kept (maskLe (by decide) hw) ?_ _ _

theorem State.grant_kept {r b : Bool} {w : Nat} {s0 s : State} (hw : 0x70e05d77a2 ||| w = w) (h : Kept r b w s0 s) :
    ∀ a1 a2, Kept r b w s0 (State.grant s a1 a2) := by
  intro a1 a2
  unfold State.grant
  repeat' first
    | with_reducible assumption
    | with_reducible apply Kept.ite
    | with_reducible refine State.bridgeBytes_kept (maskLe (by decide) hw) ?_ _ _ _ _
    | with_reducible refine State.admitPart_kept (maskLe (by decide) hw) ?_ _
    | with_reducible refine State.samplePoint_kept (maskLe (by decide) hw) ?_ _ _ _
    | with_reducible refine State.setPart_kept (maskLe (by decide) hw) ?_ _ _
    | with_reducible refine State.setReq_kept (maskLe (by decide) hw) ?_ _ _
    | with_reducible refine State.cntG_kept (maskLe (by decide) hw) ?_ _ _
    | with_reducible refine State.setArb_kept (maskLe (by decide) hw) ?_ _ _

theorem State.tryGrant_kept {r b : Bool} {w : Nat} {s0 s : State} (hw : 0x70e05d77a2 ||| w = w) (h : Kept r b w s0 s) :
    ∀ a1 a2, Kept r b w s0 (State.tryGrant s a1 a2).1 := by
  intro a1 a2
  unfold State.tryGrant
  repeat' first
    | with_reducible assumption
    | with_reducible apply Kept.ite
    | with_reducible refine State.grant_kept (maskLe (by decide) hw) ?_ _ _
    | with_reducible refine State.refuse_kept (maskLe (by decide) hw) ?_ _ _
    | with_reducible refine State.setPart_kept (maskLe (by decide) hw) ?_ _ _
    | with_reducible refine State.cntT_kept (maskLe (by decide) hw) ?_ _ _ _
    | with_reducible refine State.setArb_kept (maskLe (by decide) hw) ?_ _ _
    | (lift_lets -underBinder; intro x; refine Kept.via (r := r) (b := b) (w := w) (s0 := s0) x ?_ ?_;
       on_goal 2 => (clear_value x; intro _); on_goal 1 => try subst x)
    | (lift_lets -underBinder; intro x;
       first
         | (have _ : Pins := x; subst x) | (have _ : _ → State := x; subst x)
         | (have _ : _ → _ → State := x; subst x) | clear_value x)
    | split

theorem State.closeOldest_kept {r b : Bool} {w : Nat} {s0 s : State} (hw : 0x57600 ||| w = w) (h : Kept r b w s0 s) :
    ∀ a1 a2, Kept r b w s0 (State.closeOldest s a1 a2) := by
  intro a1 a2
  unfold State.closeOldest
  repeat' first
    | with_reducible assumption
    | with_reducible apply Kept.ite
    | with_reducible refine State.flushEnt_kept (maskLe (by decide) hw) ?_ _ _
    | split
    | with_reducible refine Kept.foldl (fun _ _ _ => ?_) _ _ ?_

theorem State.arbitrate_kept {r b : Bool} {w : Nat} {s0 : State} (n : Nat) (hw : 0x70e05d77a2 ||| w = w) :
    ∀ {s : State}, Kept r b w s0 s → ∀ a2, Kept r b w s0 (State.arbitrate n s a2) := by
  induction n with
  | zero =>
    intro s h a2
    exact h
  | succ n ih =>
    intro s h a2
    unfold State.arbitrate
    repeat' first
    | with_reducible apply ih
    | with_reducible assumption
    | with_reducible apply Kept.ite
    | with_reducible refine State.closeOldest_kept (maskLe (by decide) hw) ?_ _ _
    | with_reducible refine State.tryGrant_kept (maskLe (by decide) hw) ?_ _ _
    | with_reducible refine State.setArb_kept (maskLe (by decide) hw) ?_ _ _
    | (lift_lets -underBinder; intro x; refine Kept.via (r := r) (b := b) (w := w) (s0 := s0) x ?_ ?_;
       on_goal 2 => (clear_value x; intro _); on_goal 1 => try subst x)
    | (lift_lets -underBinder; intro x;
       first
         | (have _ : Pins := x; subst x) | (have _ : _ → State := x; subst x)
         | (have _ : _ → _ → State := x; subst x) | clear_value x)
    | split
    | dsimp only
    | with_reducible refine Kept.foldl1 (fun _ _ _ => ?_) _ _ ?_
    | with_reducible refine Kept.fst_eq (by assumption) ?_

theorem State.retest_kept {r b : Bool} {w : Nat} {s0 s : State} (hw : 0xa01821a0 ||| w = w) (h : Kept r b w s0 s) :
    ∀ a1, Kept r b w s0 (State.retest s a1) := by
  intro a1
  unfold State.retest
  repeat' first
    | with_reducible assumption
    | with_reducible apply Kept.ite
    | with_reducible refine State.refuse_kept (maskLe (by decide) hw) ?_ _ _
    | with_reducible refine State.setPart_kept (maskLe (by decide) hw) ?_ _ _
    | split
    | with_reducible refine Kept.foldl (fun _ _ _ => ?_) _ _ ?_

theorem State.pinTop_kept {r b : Bool} {w : Nat} {s0 s : State} (hw : 0x57600 ||| w = w) (h : Kept r b w s0 s) :
    ∀ a1, Kept r b w s0 (State.pinTop s a1) := by
  intro a1
  unfold State.pinTop
  repeat' first
    | with_reducible assumption
    | with_reducible apply Kept.ite
    | with_reducible refine State.closeOldest_kept (maskLe (by decide) hw) ?_ _ _
    | with_reducible refine State.setArb_kept (maskLe (by decide) hw) ?_ _ _
    | (lift_lets -underBinder; intro x; refine Kept.via (r := r) (b := b) (w := w) (s0 := s0) x ?_ ?_;
       on_goal 2 => (clear_value x; intro _); on_goal 1 => try subst x)
    | (lift_lets -underBinder; intro x;
       first
         | (have _ : Pins := x; subst x) | (have _ : _ → State := x; subst x)
         | (have _ : _ → _ → State := x; subst x) | clear_value x)
    | split

theorem execPartGrant_kept {r b : Bool} {w : Nat} {s0 s : State} (hw : 0x70e05d77a2 ||| w = w) (h : Kept r b w s0 s) :
    ∀ a1, KeptO r b w s0 (execPartGrant a1 s) := by
  intro a1
  unfold execPartGrant
  repeat' first
    | with_reducible assumption
    | with_reducible apply KeptO.next
    | with_reducible refine State.arbitrate_kept _ (maskLe (by decide) hw) ?_ _
    | with_reducible refine State.pinTop_kept (maskLe (by decide) hw) ?_ _
    | with_reducible refine State.retest_kept (maskLe (by decide) hw) ?_ _

theorem State.laneRound_kept {r b : Bool} {w : Nat} {s0 : State} (n : Nat) (hw : 0x2100 ||| w = w) :
    ∀ {s : State}, Kept r b w s0 s → ∀ a2 a3, Kept r b w s0 (State.laneRound n s a2 a3) := by
  induction n with
  | zero =>
    intro s h a2 a3
    exact h
  | succ n ih =>
    intro s h a2 a3
    unfold State.laneRound
    repeat' first
    | with_reducible apply ih
    | with_reducible assumption
    | with_reducible apply Kept.ite
    | with_reducible refine State.setPart_kept (maskLe (by decide) hw) ?_ _ _
    | with_reducible refine State.setArb_kept (maskLe (by decide) hw) ?_ _ _
    | (lift_lets -underBinder; intro x; refine Kept.via (r := r) (b := b) (w := w) (s0 := s0) x ?_ ?_;
       on_goal 2 => (clear_value x; intro _); on_goal 1 => try subst x)
    | (lift_lets -underBinder; intro x;
       first
         | (have _ : Pins := x; subst x) | (have _ : _ → State := x; subst x)
         | (have _ : _ → _ → State := x; subst x) | clear_value x)
    | split
    | dsimp only

theorem State.runLanes_kept {r b : Bool} {w : Nat} {s0 : State} (n : Nat) (hw : 0x2100 ||| w = w) :
    ∀ {s : State}, Kept r b w s0 s → ∀ a2, Kept r b w s0 (State.runLanes n s a2) := by
  induction n with
  | zero =>
    intro s h a2
    exact h
  | succ n ih =>
    intro s h a2
    unfold State.runLanes
    repeat' first
    | with_reducible apply ih
    | with_reducible assumption
    | with_reducible apply Kept.ite
    | with_reducible refine State.laneRound_kept _ (maskLe (by decide) hw) ?_ _ _

theorem execGrantComplete_kept {r b : Bool} {w : Nat} {s0 s : State} (hw : 0x70e05d77a2 ||| w = w) (h : Kept r b w s0 s) :
    ∀ a1, KeptO r b w s0 (execGrantComplete a1 s) := by
  intro a1
  unfold execGrantComplete
  repeat' first
    | with_reducible assumption
    | with_reducible apply Kept.ite
    | with_reducible apply KeptO.next
    | with_reducible apply KeptO.ite
    | with_reducible refine State.runLanes_kept _ (maskLe (by decide) hw) ?_ _
    | with_reducible refine State.admitPart_kept (maskLe (by decide) hw) ?_ _
    | with_reducible refine State.setArb_kept (maskLe (by decide) hw) ?_ _ _
    | (lift_lets -underBinder; intro x; refine Kept.via (r := r) (b := b) (w := w) (s0 := s0) x ?_ ?_;
       on_goal 2 => (clear_value x; intro _); on_goal 1 => try subst x)
    | (lift_lets -underBinder; intro x;
       first
         | (have _ : Pins := x; subst x) | (have _ : _ → State := x; subst x)
         | (have _ : _ → _ → State := x; subst x) | clear_value x)
    | split
    | dsimp only

theorem execLakeHoldTimeout_kept {r b : Bool} {w : Nat} {s0 s : State} (hw : 0xa01821a0 ||| w = w) (h : Kept r b w s0 s) :
    ∀ a1, KeptO r b w s0 (execLakeHoldTimeout a1 s) := by
  intro a1
  unfold execLakeHoldTimeout
  repeat' first
    | with_reducible assumption
    | with_reducible apply KeptO.next
    | with_reducible refine State.refuse_kept (maskLe (by decide) hw) ?_ _ _
    | with_reducible refine State.cntT_kept (maskLe (by decide) hw) ?_ _ _ _
    | split
    | with_reducible refine Kept.foldl (fun _ _ _ => ?_) _ _ ?_

theorem State.late_kept {r b : Bool} {w : Nat} {s0 s : State} (hw : 0x30e0002000 ||| w = w) (h : Kept r b w s0 s) :
    ∀ a1 a2 a3, Kept r b w s0 (State.late s a1 a2 a3) := by
  intro a1 a2 a3
  unfold State.late
  repeat' first
    | with_reducible assumption
    | with_reducible apply Kept.ite
    | with_reducible refine State.note_kept (maskLe (by decide) hw) ?_ _ _ _ _
    | with_reducible refine State.cntS_kept (maskLe (by decide) hw) ?_ _ _ _
    | with_reducible refine State.cntT_kept (maskLe (by decide) hw) ?_ _ _ _
    | with_reducible refine State.setArb_kept (maskLe (by decide) hw) ?_ _ _
    | fail_if_no_progress with_reducible refine Kept.upd_regs (maskLe (by decide) hw) ?_

theorem State.countLevels_kept {r b : Bool} {w : Nat} {s0 s : State} (hw : 0x20000000 ||| w = w) (h : Kept r b w s0 s) :
    ∀ a1 a2 a3 a4, Kept r b w s0 (State.countLevels s a1 a2 a3 a4) := by
  intro a1 a2 a3 a4
  unfold State.countLevels
  repeat' first
    | with_reducible assumption
    | with_reducible apply Kept.ite
    | with_reducible refine State.tally_kept (maskLe (by decide) hw) ?_ _ _ _ _
    | with_reducible refine State.cntS_kept (maskLe (by decide) hw) ?_ _ _ _
    | with_reducible refine State.cntT_kept (maskLe (by decide) hw) ?_ _ _ _

theorem State.crossPart_kept {r b : Bool} {w : Nat} {s0 s : State} (hw : 0x30e0002100 ||| w = w) (h : Kept r b w s0 s) :
    ∀ a1 a2 a3 a4, Kept r b w s0 (State.crossPart s a1 a2 a3 a4) := by
  intro a1 a2 a3 a4
  unfold State.crossPart
  repeat' first
    | with_reducible assumption
    | with_reducible apply Kept.ite
    | with_reducible refine State.countLevels_kept (maskLe (by decide) hw) ?_ _ _ _ _
    | with_reducible refine State.late_kept (maskLe (by decide) hw) ?_ _ _ _
    | with_reducible refine State.setPart_kept (maskLe (by decide) hw) ?_ _ _

theorem State.crossOpen_kept {r b : Bool} {w : Nat} {s0 s : State} (hw : 0x30e0002080 ||| w = w) (h : Kept r b w s0 s) :
    ∀ a1 a2 a3, Kept r b w s0 (State.crossOpen s a1 a2 a3) := by
  intro a1 a2 a3
  unfold State.crossOpen
  repeat' first
    | with_reducible assumption
    | with_reducible apply Kept.ite
    | with_reducible refine State.countLevels_kept (maskLe (by decide) hw) ?_ _ _ _ _
    | with_reducible refine State.late_kept (maskLe (by decide) hw) ?_ _ _ _
    | with_reducible refine State.setReq_kept (maskLe (by decide) hw) ?_ _ _

theorem execUrgencyCrossing_kept {r b : Bool} {w : Nat} {s0 s : State} (hw : 0x30e0002580 ||| w = w) (h : Kept r b w s0 s) :
    ∀ a1, KeptO r b w s0 (execUrgencyCrossing a1 s) := by
  intro a1
  unfold execUrgencyCrossing
  repeat' first
    | with_reducible assumption
    | with_reducible apply Kept.ite
    | with_reducible apply KeptO.next
    | with_reducible apply KeptO.ite
    | with_reducible refine State.crossOpen_kept (maskLe (by decide) hw) ?_ _ _ _
    | with_reducible refine State.crossPart_kept (maskLe (by decide) hw) ?_ _ _ _ _
    | with_reducible refine State.claims_kept (maskLe (by decide) hw) ?_ _
    | with_reducible refine State.setLeaf_kept (maskLe (by decide) hw) ?_ _ _
    | split
    | with_reducible refine Kept.foldl (fun _ _ _ => ?_) _ _ ?_

theorem execDeadlineSweep_kept {r b : Bool} {w : Nat} {s0 s : State} (hw : 0x401480 ||| w = w) (h : Kept r b w s0 s) :
    ∀ a1, KeptO r b w s0 (execDeadlineSweep a1 s) := by
  intro a1
  unfold execDeadlineSweep
  repeat' first
    | with_reducible assumption
    | with_reducible apply Kept.ite
    | with_reducible apply KeptO.next
    | with_reducible apply KeptO.ite
    | fail_if_no_progress with_reducible refine Kept.upd_reqs_leaves_cares_lake (maskLe (by decide) hw) ?_

theorem State.countReset_kept {r b : Bool} {w : Nat} {s0 s : State} (hw : 0x4 ||| w = w) (h : Kept r b w s0 s) :
    ∀ a1, Kept r b w s0 (State.countReset s a1) := by
  intro a1
  unfold State.countReset
  repeat' first
    | with_reducible assumption
    | with_reducible refine State.setBkp_kept (maskLe (by decide) hw) ?_ _ _ _ _

theorem State.loseRecs_kept {r b : Bool} {w : Nat} {s0 s : State} (hw : 0x60000000 ||| w = w) (h : Kept r b w s0 s) :
    ∀ a1, Kept r b w s0 (State.loseRecs s a1) := by
  intro a1
  unfold State.loseRecs
  repeat' first
    | with_reducible assumption
    | with_reducible apply Kept.ite
    | with_reducible refine State.setRing_kept (maskLe (by decide) hw) ?_ _ _
    | with_reducible refine State.cntG_kept (maskLe (by decide) hw) ?_ _ _
    | fail_if_no_progress with_reducible refine Kept.upd_trace (maskLe (by decide) hw) ?_
    | (lift_lets -underBinder; intro x; refine Kept.via (r := r) (b := b) (w := w) (s0 := s0) x ?_ ?_;
       on_goal 2 => (clear_value x; intro _); on_goal 1 => try subst x)
    | (lift_lets -underBinder; intro x;
       first
         | (have _ : Pins := x; subst x) | (have _ : _ → State := x; subst x)
         | (have _ : _ → _ → State := x; subst x) | clear_value x)
    | split

theorem State.endAll_kept {r b : Bool} {w : Nat} {s0 s : State} (hw : 0x30e05d67a0 ||| w = w) (h : Kept r b w s0 s) :
    Kept r b w s0 (State.endAll s) := by
  unfold State.endAll
  repeat' first
    | with_reducible assumption
    | with_reducible apply Kept.ite
    | with_reducible refine State.endRequest_kept (maskLe (by decide) hw) ?_ _ _
    | split
    | with_reducible refine Kept.foldl (fun _ _ _ => ?_) _ _ ?_

theorem State.coreReset_kept {w : Nat} {s0 s : State} (hw : 0x33ffffffff ||| w = w) (h : Kept true true w s0 s) :
    ∀ a1, Kept true true w s0 (State.coreReset s a1) := by
  intro a1
  unfold State.coreReset
  repeat' first
    | with_reducible assumption
    | with_reducible apply Kept.ite
    | with_reducible refine State.endAll_kept (maskLe (by decide) hw) ?_
    | with_reducible refine State.countReset_kept (maskLe (by decide) hw) ?_ _
    | with_reducible refine State.loseRecs_kept (maskLe (by decide) hw) ?_ _
    | (lift_lets -underBinder; intro x; refine Kept.via (r := true) (b := true) (w := w) (s0 := s0) x ?_ ?_;
       on_goal 2 => (clear_value x; intro _); on_goal 1 => try subst x)
    | split
    | with_reducible refine Kept.reset (maskLe (by decide) hw) ?_ ⟨rfl, rfl, rfl⟩

theorem State.fallBack_kept {r b : Bool} {w : Nat} {s0 s : State} (hw : 0x3060000004 ||| w = w) (h : Kept r b w s0 s) :
    ∀ a1, Kept r b w s0 (State.fallBack s a1) := by
  intro a1
  unfold State.fallBack
  repeat' first
    | with_reducible assumption
    | with_reducible apply Kept.ite
    | with_reducible refine State.setSlot_kept (maskLe (by decide) hw) ?_ _ _
    | with_reducible refine State.note_kept (maskLe (by decide) hw) ?_ _ _ _ _
    | with_reducible refine State.setBkp_kept (maskLe (by decide) hw) ?_ _ _ _ _

theorem State.bootStop_kept {r b : Bool} {w : Nat} {s0 s : State} (hw : 0x6 ||| w = w) (h : Kept r b w s0 s) :
    ∀ a1, Kept r b w s0 (State.bootStop s a1) := by
  intro a1
  unfold State.bootStop
  repeat' first
    | with_reducible assumption
    | with_reducible refine State.setBkp_kept (maskLe (by decide) hw) ?_ _ _ _ _
    | (lift_lets -underBinder; intro x; refine Kept.via (r := r) (b := b) (w := w) (s0 := s0) x ?_ ?_;
       on_goal 2 => (clear_value x; intro _); on_goal 1 => try subst x)
    | fail_if_no_progress with_reducible refine Kept.upd_pins_boot (maskLe (by decide) hw) ?_ ⟨rfl, rfl, id, id⟩

theorem State.checkSerial_kept {r b : Bool} {w : Nat} {s0 s : State} (hw : 0x3160000000 ||| w = w) (h : Kept r b w s0 s) :
    ∀ a1, Kept r b w s0 (State.checkSerial s a1) := by
  intro a1
  unfold State.checkSerial
  repeat' first
    | with_reducible assumption
    | with_reducible apply Kept.ite
    | with_reducible refine State.note_kept (maskLe (by decide) hw) ?_ _ _ _ _
    | with_reducible refine State.storeMap_kept (maskLe (by decide) hw) ?_ _ _ _ _ _

theorem State.startUp_kept {r b : Bool} {w : Nat} {s0 s : State} (hw : 0x3160000004 ||| w = w) (h : Kept r b w s0 s) :
    Kept r b w s0 (State.startUp s) := by
  unfold State.startUp
  repeat' first
    | with_reducible assumption
    | with_reducible apply Kept.ite
    | with_reducible refine State.checkSerial_kept (maskLe (by decide) hw) ?_ _
    | with_reducible refine State.setBkp_kept (maskLe (by decide) hw) ?_ _ _ _ _
    | with_reducible refine State.note_kept (maskLe (by decide) hw) ?_ _ _ _ _
    | with_reducible refine State.appendRec_kept (maskLe (by decide) hw) ?_ _ _
    | fail_if_no_progress with_reducible refine Kept.upd_boot (maskLe (by decide) hw) ?_
    | fail_if_no_progress with_reducible refine Kept.upd_trace (maskLe (by decide) hw) ?_
    | (lift_lets -underBinder; intro x; refine Kept.via (r := r) (b := b) (w := w) (s0 := s0) x ?_ ?_;
       on_goal 2 => (clear_value x; intro _); on_goal 1 => try subst x)
    | (lift_lets -underBinder; intro x;
       first
         | (have _ : Pins := x; subst x) | (have _ : _ → State := x; subst x)
         | (have _ : _ → _ → State := x; subst x) | clear_value x)
    | split
    | with_reducible refine Kept.foldl (fun _ _ _ => ?_) _ _ ?_

theorem State.bootRom_kept {r b : Bool} {w : Nat} {s0 s : State} (hw : 0x3160000006 ||| w = w) (h : Kept r b w s0 s) :
    ∀ a1, Kept r b w s0 (State.bootRom s a1) := by
  intro a1
  unfold State.bootRom
  repeat' first
    | with_reducible assumption
    | with_reducible apply Kept.ite
    | with_reducible refine State.startUp_kept (maskLe (by decide) hw) ?_
    | with_reducible refine State.bootStop_kept (maskLe (by decide) hw) ?_ _
    | with_reducible refine State.fallBack_kept (maskLe (by decide) hw) ?_ _
    | with_reducible refine State.setBkp_kept (maskLe (by decide) hw) ?_ _ _ _ _
    | fail_if_no_progress with_reducible refine Kept.upd_pins_boot_trace (maskLe (by decide) hw) ?_ ⟨rfl, rfl, id, id⟩
    | (lift_lets -underBinder; intro x; refine Kept.via (r := r) (b := b) (w := w) (s0 := s0) x ?_ ?_;
       on_goal 2 => (clear_value x; intro _); on_goal 1 => try subst x)
    | (lift_lets -underBinder; intro x;
       first
         | (have _ : Pins := x; subst x) | (have _ : _ → State := x; subst x)
         | (have _ : _ → _ → State := x; subst x) | clear_value x)
    | split

theorem execPowerOnRelease_kept {r b : Bool} {w : Nat} {s0 s : State} (hw : 0x3160000006 ||| w = w) (h : Kept r b w s0 s) :
    ∀ a1, KeptO r b w s0 (execPowerOnRelease a1 s) := by
  intro a1
  unfold execPowerOnRelease
  repeat' first
    | with_reducible assumption
    | with_reducible apply Kept.ite
    | with_reducible apply KeptO.next
    | with_reducible apply KeptO.ite
    | with_reducible refine State.bootRom_kept (maskLe (by decide) hw) ?_ _
    | (lift_lets -underBinder; intro x; refine Kept.via (r := r) (b := b) (w := w) (s0 := s0) x ?_ ?_;
       on_goal 2 => (clear_value x; intro _); on_goal 1 => try subst x)
    | (lift_lets -underBinder; intro x;
       first
         | (have _ : Pins := x; subst x) | (have _ : _ → State := x; subst x)
         | (have _ : _ → _ → State := x; subst x) | clear_value x)
    | split
    | fail_if_no_progress with_reducible refine Kept.upd_pins_boot (maskLe (by decide) hw) ?_ ⟨rfl, rfl, id, id⟩

theorem execChipWarmReset_kept {w : Nat} {s0 s : State} (hw : 0x33ffffffff ||| w = w) (h : Kept true true w s0 s) :
    KeptO true true w s0 (execChipWarmReset s) := by
  unfold execChipWarmReset
  repeat' first
    | with_reducible assumption
    | with_reducible apply Kept.ite
    | with_reducible apply KeptO.next
    | with_reducible apply KeptO.ite
    | with_reducible refine State.coreReset_kept (maskLe (by decide) hw) ?_ _
    | (lift_lets -underBinder; intro x; refine Kept.via (r := true) (b := true) (w := w) (s0 := s0) x ?_ ?_;
       on_goal 2 => (clear_value x; intro _); on_goal 1 => try subst x)
    | (lift_lets -underBinder; intro x;
       first
         | (have _ : Pins := x; subst x) | (have _ : _ → State := x; subst x)
         | (have _ : _ → _ → State := x; subst x) | clear_value x)
    | split
    | fail_if_no_progress with_reducible refine Kept.upd_pins (maskLe (by decide) hw) ?_ ⟨rfl, rfl, id, id⟩

theorem execCriticalStateError_kept {w : Nat} {s0 s : State} (hw : 0x33ffffffff ||| w = w) (h : Kept true true w s0 s) :
    ∀ a1, KeptO true true w s0 (execCriticalStateError a1 s) := by
  intro a1
  unfold execCriticalStateError
  repeat' first
    | with_reducible assumption
    | with_reducible apply Kept.ite
    | with_reducible apply KeptO.next
    | with_reducible apply KeptO.ite
    | with_reducible refine State.coreReset_kept (maskLe (by decide) hw) ?_ _
    | with_reducible refine State.setBkp_kept (maskLe (by decide) hw) ?_ _ _ _ _
    | fail_if_no_progress with_reducible refine Kept.upd_boot_regs (maskLe (by decide) hw) ?_

theorem execCoreResetRelease_kept {r b : Bool} {w : Nat} {s0 s : State} (hw : 0x3160000006 ||| w = w) (h : Kept r b w s0 s) :
    KeptO r b w s0 (execCoreResetRelease s) := by
  unfold execCoreResetRelease
  repeat' first
    | with_reducible assumption
    | with_reducible apply Kept.ite
    | with_reducible apply KeptO.next
    | with_reducible apply KeptO.ite
    | with_reducible refine State.bootRom_kept (maskLe (by decide) hw) ?_ _
    | (lift_lets -underBinder; intro x; refine Kept.via (r := r) (b := b) (w := w) (s0 := s0) x ?_ ?_;
       on_goal 2 => (clear_value x; intro _); on_goal 1 => try subst x)
    | (lift_lets -underBinder; intro x;
       first
         | (have _ : Pins := x; subst x) | (have _ : _ → State := x; subst x)
         | (have _ : _ → _ → State := x; subst x) | clear_value x)
    | split
    | fail_if_no_progress with_reducible refine Kept.upd_pins_boot (maskLe (by decide) hw) ?_ ⟨rfl, rfl, id, id⟩

theorem State.dropSet_kept {r b : Bool} {w : Nat} {s0 s : State} (hw : 0x60000 ||| w = w) (h : Kept r b w s0 s) :
    ∀ a1, Kept r b w s0 (State.dropSet s a1) := by
  intro a1
  unfold State.dropSet
  repeat' first
    | with_reducible assumption
    | with_reducible apply Kept.ite
    | with_reducible refine State.setSup_kept (maskLe (by decide) hw) ?_ _ _
    | with_reducible refine State.setChan_kept (maskLe (by decide) hw) ?_ _ _
    | split
    | with_reducible refine Kept.foldl (fun _ _ _ => ?_) _ _ ?_

theorem State.mordantReset_kept {r b : Bool} {w : Nat} {s0 s : State} (hw : 0x1c2060014 ||| w = w) (h : Kept r b w s0 s) :
    ∀ a1, Kept r b w s0 (State.mordantReset s a1) := by
  intro a1
  unfold State.mordantReset
  repeat' first
    | with_reducible assumption
    | with_reducible apply Kept.ite
    | with_reducible refine State.dropSet_kept (maskLe (by decide) hw) ?_ _
    | with_reducible refine State.countReset_kept (maskLe (by decide) hw) ?_ _
    | fail_if_no_progress with_reducible refine Kept.upd_boot_sets_serviceq_trace_regs_stores (maskLe (by decide) hw) ?_
    | with_reducible refine Kept.foldl (fun _ _ _ => ?_) _ _ ?_

theorem State.mordantBack_kept {r b : Bool} {w : Nat} {s0 s : State} (hw : 0x31e7000006 ||| w = w) (h : Kept r b w s0 s) :
    ∀ a1, Kept r b w s0 (State.mordantBack s a1) := by
  intro a1
  unfold State.mordantBack
  repeat' first
    | with_reducible assumption
    | with_reducible apply Kept.ite
    | with_reducible refine State.bootRom_kept (maskLe (by decide) hw) ?_ _
    | with_reducible refine State.finish_kept (maskLe (by decide) hw) ?_ _ _ _ _
    | with_reducible refine State.queueService_kept (maskLe (by decide) hw) ?_ _
    | fail_if_no_progress with_reducible refine Kept.upd_boot_regs (maskLe (by decide) hw) ?_
    | (lift_lets -underBinder; intro x; refine Kept.via (r := r) (b := b) (w := w) (s0 := s0) x ?_ ?_;
       on_goal 2 => (clear_value x; intro _); on_goal 1 => try subst x)
    | (lift_lets -underBinder; intro x;
       first
         | (have _ : Pins := x; subst x) | (have _ : _ → State := x; subst x)
         | (have _ : _ → _ → State := x; subst x) | clear_value x)
    | split
    | with_reducible refine Kept.foldl (fun _ _ _ => ?_) _ _ ?_

theorem execMordantWatchdogExpiry_kept {r b : Bool} {w : Nat} {s0 s : State} (hw : 0x1c2060014 ||| w = w) (h : Kept r b w s0 s) :
    KeptO r b w s0 (execMordantWatchdogExpiry s) := by
  unfold execMordantWatchdogExpiry
  repeat' first
    | with_reducible assumption
    | with_reducible apply Kept.ite
    | with_reducible apply KeptO.next
    | with_reducible apply KeptO.ite
    | with_reducible refine State.mordantReset_kept (maskLe (by decide) hw) ?_ _

theorem execHandoverTimeout_kept {r b : Bool} {w : Nat} {s0 s : State} (hw : 0x1c2060014 ||| w = w) (h : Kept r b w s0 s) :
    KeptO r b w s0 (execHandoverTimeout s) := by
  unfold execHandoverTimeout
  repeat' first
    | with_reducible assumption
    | with_reducible apply Kept.ite
    | with_reducible apply KeptO.next
    | with_reducible apply KeptO.ite
    | with_reducible refine State.mordantReset_kept (maskLe (by decide) hw) ?_ _
    | split

theorem execTrialEnd_kept {r b : Bool} {w : Nat} {s0 s : State} (hw : 0x4 ||| w = w) (h : Kept r b w s0 s) :
    KeptO r b w s0 (execTrialEnd s) := by
  unfold execTrialEnd
  repeat' first
    | with_reducible assumption
    | with_reducible apply Kept.ite
    | with_reducible apply KeptO.next
    | with_reducible apply KeptO.ite
    | with_reducible refine State.setBkp_kept (maskLe (by decide) hw) ?_ _ _ _ _
    | fail_if_no_progress with_reducible refine Kept.upd_boot (maskLe (by decide) hw) ?_

theorem State.takeOver_kept {r b : Bool} {w : Nat} {s0 s : State} (hw : 0x27000214 ||| w = w) (h : Kept r b w s0 s) :
    Kept r b w s0 (State.takeOver s) := by
  unfold State.takeOver
  repeat' first
    | with_reducible assumption
    | with_reducible refine State.setBkp_kept (maskLe (by decide) hw) ?_ _ _ _ _
    | with_reducible refine State.finish_kept (maskLe (by decide) hw) ?_ _ _ _ _
    | with_reducible refine State.skipUnknown_kept _ (maskLe (by decide) hw) ?_
    | with_reducible refine State.finishAt_kept (maskLe (by decide) hw) ?_ _ _ _ _
    | fail_if_no_progress with_reducible refine Kept.upd_boot_sets (maskLe (by decide) hw) ?_
    | (lift_lets -underBinder; intro x; refine Kept.via (r := r) (b := b) (w := w) (s0 := s0) x ?_ ?_;
       on_goal 2 => (clear_value x; intro _); on_goal 1 => try subst x)
    | (lift_lets -underBinder; intro x;
       first
         | (have _ : Pins := x; subst x) | (have _ : _ → State := x; subst x)
         | (have _ : _ → _ → State := x; subst x) | clear_value x)
    | split
    | with_reducible refine Kept.foldl (fun _ _ _ => ?_) _ _ ?_

theorem State.enableStack_kept {r b : Bool} {w : Nat} {s0 s : State} (hw : 0x20000 ||| w = w) (h : Kept r b w s0 s) :
    ∀ a1, Kept r b w s0 (State.enableStack s a1) := by
  intro a1
  unfold State.enableStack
  repeat' first
    | with_reducible assumption
    | with_reducible refine State.setSup_kept (maskLe (by decide) hw) ?_ _ _

theorem execStackPowerEnable_kept {r b : Bool} {w : Nat} {s0 s : State} (hw : 0x20000 ||| w = w) (h : Kept r b w s0 s) :
    ∀ a1, KeptO r b w s0 (execStackPowerEnable a1 s) := by
  intro a1
  unfold execStackPowerEnable
  repeat' first
    | with_reducible assumption
    | with_reducible apply Kept.ite
    | with_reducible apply KeptO.next
    | with_reducible apply KeptO.ite
    | with_reducible refine State.enableStack_kept (maskLe (by decide) hw) ?_ _
    | (lift_lets -underBinder; intro x; refine Kept.via (r := r) (b := b) (w := w) (s0 := s0) x ?_ ?_;
       on_goal 2 => (clear_value x; intro _); on_goal 1 => try subst x)
    | (lift_lets -underBinder; intro x;
       first
         | (have _ : Pins := x; subst x) | (have _ : _ → State := x; subst x)
         | (have _ : _ → _ → State := x; subst x) | clear_value x)
    | split

theorem execStackPowerGood_kept {r b : Bool} {w : Nat} {s0 s : State} (hw : 0x3160020000 ||| w = w) (h : Kept r b w s0 s) :
    ∀ a1 a2, KeptO r b w s0 (execStackPowerGood a1 a2 s) := by
  intro a1 a2
  unfold execStackPowerGood
  repeat' first
    | with_reducible assumption
    | with_reducible apply Kept.ite
    | with_reducible apply KeptO.next
    | with_reducible apply KeptO.ite
    | with_reducible refine State.setSup_kept (maskLe (by decide) hw) ?_ _ _
    | with_reducible refine State.checkSerial_kept (maskLe (by decide) hw) ?_ _

theorem State.pairFault_kept {r b : Bool} {w : Nat} {s0 s : State} (hw : 0x30e7de7dac ||| w = w) (h : Kept r b w s0 s) :
    ∀ a1, Kept r b w s0 (State.pairFault s a1) := by
  intro a1
  unfold State.pairFault
  repeat' first
    | with_reducible assumption
    | with_reducible apply Kept.ite
    | with_reducible refine State.stackDown_kept (maskLe (by decide) hw) ?_ _
    | with_reducible refine State.setSup_kept (maskLe (by decide) hw) ?_ _ _
    | with_reducible refine State.fence_kept (maskLe (by decide) hw) ?_ _ _

theorem execStackPgTimeout_kept {r b : Bool} {w : Nat} {s0 s : State} (hw : 0x30e7de7dac ||| w = w) (h : Kept r b w s0 s) :
    ∀ a1, KeptO r b w s0 (execStackPgTimeout a1 s) := by
  intro a1
  unfold execStackPgTimeout
  repeat' first
    | with_reducible assumption
    | with_reducible apply Kept.ite
    | with_reducible apply KeptO.next
    | with_reducible apply KeptO.ite
    | with_reducible refine State.pairFault_kept (maskLe (by decide) hw) ?_ _

theorem execStackPgFall_kept {r b : Bool} {w : Nat} {s0 s : State} (hw : 0x30e7de7dac ||| w = w) (h : Kept r b w s0 s) :
    ∀ a1, KeptO r b w s0 (execStackPgFall a1 s) := by
  intro a1
  unfold execStackPgFall
  repeat' first
    | with_reducible assumption
    | with_reducible apply Kept.ite
    | with_reducible apply KeptO.next
    | with_reducible apply KeptO.ite
    | with_reducible refine State.pairFault_kept (maskLe (by decide) hw) ?_ _

theorem execStackOvercurrent_kept {r b : Bool} {w : Nat} {s0 s : State} (hw : 0x30e7de7dac ||| w = w) (h : Kept r b w s0 s) :
    ∀ a1, KeptO r b w s0 (execStackOvercurrent a1 s) := by
  intro a1
  unfold execStackOvercurrent
  repeat' first
    | with_reducible assumption
    | with_reducible apply Kept.ite
    | with_reducible apply KeptO.next
    | with_reducible apply KeptO.ite
    | with_reducible refine State.note_kept (maskLe (by decide) hw) ?_ _ _ _ _
    | with_reducible refine State.pairFault_kept (maskLe (by decide) hw) ?_ _
    | (lift_lets -underBinder; intro x; refine Kept.via (r := r) (b := b) (w := w) (s0 := s0) x ?_ ?_;
       on_goal 2 => (clear_value x; intro _); on_goal 1 => try subst x)
    | (lift_lets -underBinder; intro x;
       first
         | (have _ : Pins := x; subst x) | (have _ : _ → State := x; subst x)
         | (have _ : _ → _ → State := x; subst x) | clear_value x)
    | split
    | with_reducible refine Kept.foldl (fun _ _ _ => ?_) _ _ ?_

theorem execPairFaultRecovery_kept {r b : Bool} {w : Nat} {s0 s : State} (hw : 0x30e7de7dac ||| w = w) (h : Kept r b w s0 s) :
    ∀ a1, KeptO r b w s0 (execPairFaultRecovery a1 s) := by
  intro a1
  unfold execPairFaultRecovery
  repeat' first
    | with_reducible assumption
    | with_reducible apply Kept.ite
    | with_reducible apply KeptO.next
    | with_reducible apply KeptO.ite
    | with_reducible refine State.fence_kept (maskLe (by decide) hw) ?_ _ _
    | with_reducible refine State.enableStack_kept (maskLe (by decide) hw) ?_ _
    | (lift_lets -underBinder; intro x; refine Kept.via (r := r) (b := b) (w := w) (s0 := s0) x ?_ ?_;
       on_goal 2 => (clear_value x; intro _); on_goal 1 => try subst x)
    | (lift_lets -underBinder; intro x;
       first
         | (have _ : Pins := x; subst x) | (have _ : _ → State := x; subst x)
         | (have _ : _ → _ → State := x; subst x) | clear_value x)
    | split

theorem State.baseCheck_kept {r b : Bool} {w : Nat} {s0 s : State} (hw : 0x3060000000 ||| w = w) (h : Kept r b w s0 s) :
    ∀ a1 a2 a3, Kept r b w s0 (State.baseCheck s a1 a2 a3) := by
  intro a1 a2 a3
  unfold State.baseCheck
  repeat' first
    | with_reducible assumption
    | with_reducible apply Kept.ite
    | with_reducible refine State.note_kept (maskLe (by decide) hw) ?_ _ _ _ _
    | split

theorem State.loadLost_kept {r b : Bool} {w : Nat} {s0 s : State} (hw : 0x1000 ||| w = w) (h : Kept r b w s0 s) :
    ∀ a1, Kept r b w s0 (State.loadLost s a1) := by
  intro a1
  unfold State.loadLost
  repeat' first
    | with_reducible assumption
    | with_reducible refine State.setCare_kept (maskLe (by decide) hw) ?_ _ _
    | with_reducible refine Kept.foldl (fun _ _ _ => ?_) _ _ ?_

theorem State.applyMap_kept {r b : Bool} {w : Nat} {s0 s : State} (hw : 0x3160021000 ||| w = w) (h : Kept r b w s0 s) :
    ∀ a1 a2, Kept r b w s0 (State.applyMap s a1 a2) := by
  intro a1 a2
  unfold State.applyMap
  repeat' first
    | with_reducible assumption
    | with_reducible apply Kept.ite
    | with_reducible refine State.storeMap_kept (maskLe (by decide) hw) ?_ _ _ _ _ _
    | with_reducible refine State.note_kept (maskLe (by decide) hw) ?_ _ _ _ _
    | with_reducible refine State.setSup_kept (maskLe (by decide) hw) ?_ _ _
    | with_reducible refine State.setCare_kept (maskLe (by decide) hw) ?_ _ _
    | (lift_lets -underBinder; intro x; refine Kept.via (r := r) (b := b) (w := w) (s0 := s0) x ?_ ?_;
       on_goal 2 => (clear_value x; intro _); on_goal 1 => try subst x)
    | (lift_lets -underBinder; intro x;
       first
         | (have _ : Pins := x; subst x) | (have _ : _ → State := x; subst x)
         | (have _ : _ → _ → State := x; subst x) | clear_value x)
    | split
    | with_reducible refine Kept.foldl (fun _ _ _ => ?_) _ _ ?_
    | with_reducible refine Kept.foldl1 (fun _ _ _ => ?_) _ _ ?_
    | dsimp only

theorem execStackTraining_kept {r b : Bool} {w : Nat} {s0 s : State} (hw : 0x31e7075414 ||| w = w) (h : Kept r b w s0 s) :
    ∀ a1 a2 a3, KeptO r b w s0 (execStackTraining a1 a2 a3 s) := by
  intro a1 a2 a3
  unfold execStackTraining
  repeat' first
    | with_reducible assumption
    | with_reducible apply Kept.ite
    | with_reducible apply KeptO.next
    | with_reducible apply KeptO.ite
    | with_reducible refine State.applyMap_kept (maskLe (by decide) hw) ?_ _ _
    | with_reducible refine State.loadLost_kept (maskLe (by decide) hw) ?_ _
    | with_reducible refine State.baseCheck_kept (maskLe (by decide) hw) ?_ _ _ _
    | with_reducible refine State.stackUp_kept (maskLe (by decide) hw) ?_ _
    | with_reducible refine State.ownSet_kept (maskLe (by decide) hw) ?_ _
    | with_reducible refine State.addMap_kept (maskLe (by decide) hw) ?_ _
    | with_reducible refine State.maint_kept (maskLe (by decide) hw) ?_ _ _
    | with_reducible refine State.note_kept (maskLe (by decide) hw) ?_ _ _ _ _
    | with_reducible refine State.setChan_kept (maskLe (by decide) hw) ?_ _ _
    | with_reducible refine State.setSup_kept (maskLe (by decide) hw) ?_ _ _
    | split
    | with_reducible refine Kept.foldl (fun _ _ _ => ?_) _ _ ?_

theorem execImportWaitEnd_kept {r b : Bool} {w : Nat} {s0 s : State} (hw : 0x4 ||| w = w) (h : Kept r b w s0 s) :
    KeptO r b w s0 (execImportWaitEnd s) := by
  unfold execImportWaitEnd
  repeat' first
    | with_reducible assumption
    | with_reducible apply Kept.ite
    | with_reducible apply KeptO.next
    | with_reducible apply KeptO.ite
    | fail_if_no_progress with_reducible refine Kept.upd_boot (maskLe (by decide) hw) ?_
    | split

theorem State.importEnds_kept {r b : Bool} {w : Nat} {s0 s : State} (hw : 0x7000004 ||| w = w) (h : Kept r b w s0 s) :
    ∀ a1 a2, Kept r b w s0 (State.importEnds s a1 a2) := by
  intro a1 a2
  unfold State.importEnds
  repeat' first
    | with_reducible assumption
    | with_reducible apply Kept.ite
    | with_reducible refine State.finishAt_kept (maskLe (by decide) hw) ?_ _ _ _ _
    | split
    | with_reducible refine Kept.foldl (fun _ _ _ => ?_) _ _ ?_

theorem execQuickCheck_kept {r b : Bool} {w : Nat} {s0 s : State} (hw : 0x3167075404 ||| w = w) (h : Kept r b w s0 s) :
    ∀ a1 a2 a3 a4, KeptO r b w s0 (execQuickCheck a1 a2 a3 a4 s) := by
  intro a1 a2 a3 a4
  unfold execQuickCheck
  repeat' first
    | with_reducible assumption
    | with_reducible apply Kept.ite
    | with_reducible apply KeptO.next
    | with_reducible apply KeptO.ite
    | with_reducible refine State.importEnds_kept (maskLe (by decide) hw) ?_ _ _
    | with_reducible refine State.applyMap_kept (maskLe (by decide) hw) ?_ _ _
    | with_reducible refine State.loadLost_kept (maskLe (by decide) hw) ?_ _
    | with_reducible refine State.stackUp_kept (maskLe (by decide) hw) ?_ _
    | with_reducible refine State.setSup_kept (maskLe (by decide) hw) ?_ _ _

theorem execInitialFill_kept {r b : Bool} {w : Nat} {s0 s : State} (hw : 0x3007031404 ||| w = w) (h : Kept r b w s0 s) :
    ∀ a1, KeptO r b w s0 (execInitialFill a1 s) := by
  intro a1
  unfold execInitialFill
  repeat' first
    | with_reducible assumption
    | with_reducible apply Kept.ite
    | with_reducible apply KeptO.next
    | with_reducible apply KeptO.ite
    | with_reducible refine State.fillLeaf_kept (maskLe (by decide) hw) ?_ _
    | with_reducible refine State.parkLeaf_kept (maskLe (by decide) hw) ?_ _
    | with_reducible refine State.finish_kept (maskLe (by decide) hw) ?_ _ _ _ _
    | with_reducible refine State.setSup_kept (maskLe (by decide) hw) ?_ _ _

theorem execDwReadyRise_kept {r b : Bool} {w : Nat} {s0 s : State} (hw : 0x6 ||| w = w) (h : Kept r b w s0 s) :
    KeptO r b w s0 (execDwReadyRise s) := by
  unfold execDwReadyRise
  repeat' first
    | with_reducible assumption
    | with_reducible apply Kept.ite
    | with_reducible apply KeptO.next
    | with_reducible apply KeptO.ite
    | with_reducible refine State.setBkp_kept (maskLe (by decide) hw) ?_ _ _ _ _
    | (lift_lets -underBinder; intro x; refine Kept.via (r := r) (b := b) (w := w) (s0 := s0) x ?_ ?_;
       on_goal 2 => (clear_value x; intro _); on_goal 1 => try subst x)
    | (lift_lets -underBinder; intro x;
       first
         | (have _ : Pins := x; subst x) | (have _ : _ → State := x; subst x)
         | (have _ : _ → _ → State := x; subst x) | clear_value x)
    | split
    | fail_if_no_progress with_reducible refine Kept.upd_pins_boot (maskLe (by decide) hw) ?_ ⟨rfl, rfl, id, id⟩
    | fail_if_no_progress with_reducible refine Kept.upd_pins_boot (maskLe (by decide) hw) ?_ ⟨rfl, rfl, id, fun _ => rfl⟩

theorem State.startReset_kept {r b : Bool} {w : Nat} {s0 s : State} (hw : 0x1c2060014 ||| w = w) (h : Kept r b w s0 s) :
    ∀ a1, Kept r b w s0 (State.startReset s a1) := by
  intro a1
  unfold State.startReset
  repeat' first
    | with_reducible assumption
    | with_reducible apply Kept.ite
    | with_reducible refine State.mordantReset_kept (maskLe (by decide) hw) ?_ _
    | fail_if_no_progress with_reducible refine Kept.upd_boot_regs (maskLe (by decide) hw) ?_

theorem State.resetStack_kept {r b : Bool} {w : Nat} {s0 s : State} (hw : 0x30e0d875a4 ||| w = w) (h : Kept r b w s0 s) :
    ∀ a1, Kept r b w s0 (State.resetStack s a1) := by
  intro a1
  unfold State.resetStack
  repeat' first
    | with_reducible assumption
    | with_reducible apply Kept.ite
    | with_reducible refine State.clearLeaves_kept (maskLe (by decide) hw) ?_ _
    | with_reducible refine State.breakStack_kept (maskLe (by decide) hw) ?_ _ _
    | with_reducible refine State.gateOff_kept (maskLe (by decide) hw) ?_ _
    | with_reducible refine State.sleepAll_kept (maskLe (by decide) hw) ?_ _
    | with_reducible refine State.setSck_kept (maskLe (by decide) hw) ?_ _ _
    | fail_if_no_progress with_reducible refine Kept.upd_boot (maskLe (by decide) hw) ?_

theorem State.resetLake_kept {r b : Bool} {w : Nat} {s0 s : State} (hw : 0x30e0d821a4 ||| w = w) (h : Kept r b w s0 s) :
    ∀ a1 a2 a3, Kept r b w s0 (State.resetLake s a1 a2 a3) := by
  intro a1 a2 a3
  unfold State.resetLake
  repeat' first
    | with_reducible assumption
    | with_reducible apply Kept.ite
    | with_reducible refine State.breakReq_kept (maskLe (by decide) hw) ?_ _ _ _
    | with_reducible refine State.breakGather_kept (maskLe (by decide) hw) ?_ _
    | with_reducible refine State.breakFeed_kept (maskLe (by decide) hw) ?_ _
    | fail_if_no_progress with_reducible refine Kept.upd_boot_lake (maskLe (by decide) hw) ?_
    | (lift_lets -underBinder; intro x; refine Kept.via (r := r) (b := b) (w := w) (s0 := s0) x ?_ ?_;
       on_goal 2 => (clear_value x; intro _); on_goal 1 => try subst x)
    | (lift_lets -underBinder; intro x;
       first
         | (have _ : Pins := x; subst x) | (have _ : _ → State := x; subst x)
         | (have _ : _ → _ → State := x; subst x) | clear_value x)
    | split
    | with_reducible refine Kept.foldl (fun _ _ _ => ?_) _ _ ?_

theorem execBlockResetDrainEnd_kept {r b : Bool} {w : Nat} {s0 s : State} (hw : 0x30e0d875a4 ||| w = w) (h : Kept r b w s0 s) :
    ∀ a1, KeptO r b w s0 (execBlockResetDrainEnd a1 s) := by
  intro a1
  unfold execBlockResetDrainEnd
  repeat' first
    | with_reducible assumption
    | with_reducible apply Kept.ite
    | with_reducible apply KeptO.next
    | with_reducible apply KeptO.ite
    | with_reducible refine State.scanAbort_kept (maskLe (by decide) hw) ?_ _
    | with_reducible refine State.resetStack_kept (maskLe (by decide) hw) ?_ _
    | with_reducible refine State.resetLake_kept (maskLe (by decide) hw) ?_ _ _ _
    | with_reducible refine State.loseRecs_kept (maskLe (by decide) hw) ?_ _
    | fail_if_no_progress with_reducible refine Kept.upd_boot (maskLe (by decide) hw) ?_
    | split

theorem State.stainLeft_kept {r b : Bool} {w : Nat} {s0 s : State} (hw : 0x3060000004 ||| w = w) (h : Kept r b w s0 s) :
    ∀ a1, Kept r b w s0 (State.stainLeft s a1) := by
  intro a1
  unfold State.stainLeft
  repeat' first
    | with_reducible assumption
    | with_reducible refine State.stainRun_kept (maskLe (by decide) hw) ?_ _ _ _
    | with_reducible refine State.note_kept (maskLe (by decide) hw) ?_ _ _ _ _
    | fail_if_no_progress with_reducible refine Kept.upd_boot (maskLe (by decide) hw) ?_
    | split
    | with_reducible refine Kept.foldl (fun _ _ _ => ?_) _ _ ?_

theorem execBlockReturnToService_kept {r b : Bool} {w : Nat} {s0 s : State} (hw : 0x31e7457606 ||| w = w) (h : Kept r b w s0 s) :
    ∀ a1, KeptO r b w s0 (execBlockReturnToService a1 s) := by
  intro a1
  unfold execBlockReturnToService
  repeat' first
    | with_reducible assumption
    | with_reducible apply Kept.ite
    | with_reducible apply KeptO.next
    | with_reducible apply KeptO.ite
    | with_reducible refine State.stainLeft_kept (maskLe (by decide) hw) ?_ _
    | with_reducible refine State.mordantBack_kept (maskLe (by decide) hw) ?_ _
    | with_reducible refine State.tilesAsk_kept (maskLe (by decide) hw) ?_ _
    | with_reducible refine State.zeroAsk_kept (maskLe (by decide) hw) ?_ _
    | with_reducible refine State.rewake_kept (maskLe (by decide) hw) ?_ _
    | with_reducible refine State.askAccu_kept (maskLe (by decide) hw) ?_
    | fail_if_no_progress with_reducible refine Kept.upd_boot_regs (maskLe (by decide) hw) ?_
    | (lift_lets -underBinder; intro x; refine Kept.via (r := r) (b := b) (w := w) (s0 := s0) x ?_ ?_;
       on_goal 2 => (clear_value x; intro _); on_goal 1 => try subst x)
    | (lift_lets -underBinder; intro x;
       first
         | (have _ : Pins := x; subst x) | (have _ : _ → State := x; subst x)
         | (have _ : _ → _ → State := x; subst x) | clear_value x)
    | split
    | with_reducible refine Kept.foldl (fun _ _ _ => ?_) _ _ ?_

theorem execDebugStop_kept {r b : Bool} {w : Nat} {s0 s : State} (hw : 0x2 ||| w = w) (h : Kept r b w s0 s) :
    KeptO r b w s0 (execDebugStop s) := by
  unfold execDebugStop
  repeat' first
    | with_reducible assumption
    | with_reducible apply Kept.ite
    | with_reducible apply KeptO.next
    | with_reducible apply KeptO.ite
    | (lift_lets -underBinder; intro x; refine Kept.via (r := r) (b := b) (w := w) (s0 := s0) x ?_ ?_;
       on_goal 2 => (clear_value x; intro _); on_goal 1 => try subst x)
    | (lift_lets -underBinder; intro x;
       first
         | (have _ : Pins := x; subst x) | (have _ : _ → State := x; subst x)
         | (have _ : _ → _ → State := x; subst x) | clear_value x)
    | split
    | fail_if_no_progress with_reducible refine Kept.upd_pins (maskLe (by decide) hw) ?_ ⟨rfl, rfl, id, id⟩

theorem execDebugStopEnd_kept {r b : Bool} {w : Nat} {s0 s : State} (hw : 0x40057602 ||| w = w) (h : Kept r b w s0 s) :
    KeptO r b w s0 (execDebugStopEnd s) := by
  unfold execDebugStopEnd
  repeat' first
    | with_reducible assumption
    | with_reducible apply KeptO.next
    | with_reducible refine State.stopEnds_kept (maskLe (by decide) hw) ?_
    | (lift_lets -underBinder; intro x; refine Kept.via (r := r) (b := b) (w := w) (s0 := s0) x ?_ ?_;
       on_goal 2 => (clear_value x; intro _); on_goal 1 => try subst x)
    | (lift_lets -underBinder; intro x;
       first
         | (have _ : Pins := x; subst x) | (have _ : _ → State := x; subst x)
         | (have _ : _ → _ → State := x; subst x) | clear_value x)
    | fail_if_no_progress with_reducible refine Kept.upd_pins (maskLe (by decide) hw) ?_ ⟨rfl, rfl, id, id⟩

theorem State.moveRecs_kept {r b : Bool} {w : Nat} {s0 s : State} (hw : 0x3040000000 ||| w = w) (h : Kept r b w s0 s) :
    Kept r b w s0 (State.moveRecs s) := by
  unfold State.moveRecs
  repeat' first
    | with_reducible assumption
    | with_reducible refine State.storeSystem_kept (maskLe (by decide) hw) ?_ _ _
    | with_reducible refine State.setRing_kept (maskLe (by decide) hw) ?_ _ _
    | fail_if_no_progress with_reducible refine Kept.upd_trace (maskLe (by decide) hw) ?_
    | with_reducible refine Kept.foldl (fun _ _ _ => ?_) _ _ ?_

theorem execRecordMove_kept {r b : Bool} {w : Nat} {s0 s : State} (hw : 0x3040056400 ||| w = w) (h : Kept r b w s0 s) :
    KeptO r b w s0 (execRecordMove s) := by
  unfold execRecordMove
  repeat' first
    | with_reducible assumption
    | with_reducible apply Kept.ite
    | with_reducible apply KeptO.next
    | with_reducible apply KeptO.ite
    | with_reducible refine State.moveRecs_kept (maskLe (by decide) hw) ?_
    | with_reducible refine State.wakeStack_kept (maskLe (by decide) hw) ?_ _
    | split

theorem execGapRecordWrite_kept {r b : Bool} {w : Nat} {s0 s : State} (hw : 0x60000000 ||| w = w) (h : Kept r b w s0 s) :
    ∀ a1, KeptO r b w s0 (execGapRecordWrite a1 s) := by
  intro a1
  unfold execGapRecordWrite
  repeat' first
    | with_reducible assumption
    | with_reducible apply Kept.ite
    | with_reducible apply KeptO.next
    | with_reducible apply KeptO.ite
    | with_reducible refine State.setRing_kept (maskLe (by decide) hw) ?_ _ _
    | with_reducible refine State.appendRec_kept (maskLe (by decide) hw) ?_ _ _
    | with_reducible refine State.cntG_kept (maskLe (by decide) hw) ?_ _ _
    | (lift_lets -underBinder; intro x; refine Kept.via (r := r) (b := b) (w := w) (s0 := s0) x ?_ ?_;
       on_goal 2 => (clear_value x; intro _); on_goal 1 => try subst x)
    | (lift_lets -underBinder; intro x;
       first
         | (have _ : Pins := x; subst x) | (have _ : _ → State := x; subst x)
         | (have _ : _ → _ → State := x; subst x) | clear_value x)
    | split

theorem State.writePending_kept {r b : Bool} {w : Nat} {s0 : State} (n : Nat) (hw : 0x60000000 ||| w = w) :
    ∀ {s : State}, Kept r b w s0 s → Kept r b w s0 (State.writePending n s) := by
  induction n with
  | zero =>
    intro s h
    exact h
  | succ n ih =>
    intro s h
    unfold State.writePending
    repeat' first
    | with_reducible apply ih
    | with_reducible assumption
    | with_reducible apply Kept.ite
    | with_reducible refine State.mirrorMap_kept (maskLe (by decide) hw) ?_ _ _
    | with_reducible refine State.appendRec_kept (maskLe (by decide) hw) ?_ _ _
    | with_reducible refine State.cntG_kept (maskLe (by decide) hw) ?_ _ _
    | fail_if_no_progress with_reducible refine Kept.upd_trace (maskLe (by decide) hw) ?_
    | (lift_lets -underBinder; intro x; refine Kept.via (r := r) (b := b) (w := w) (s0 := s0) x ?_ ?_;
       on_goal 2 => (clear_value x; intro _); on_goal 1 => try subst x)
    | (lift_lets -underBinder; intro x;
       first
         | (have _ : Pins := x; subst x) | (have _ : _ → State := x; subst x)
         | (have _ : _ → _ → State := x; subst x) | clear_value x)
    | split

theorem State.writeRingRd_kept {r b : Bool} {w : Nat} {s0 s : State} (hw : 0x60000000 ||| w = w) (h : Kept r b w s0 s) :
    ∀ a1 a2, Kept r b w s0 (State.writeRingRd s a1 a2) := by
  intro a1 a2
  unfold State.writeRingRd
  repeat' first
    | with_reducible assumption
    | with_reducible apply Kept.ite
    | with_reducible refine State.setRing_kept (maskLe (by decide) hw) ?_ _ _
    | with_reducible refine State.writePending_kept _ (maskLe (by decide) hw) ?_

theorem execPortWindowStart_kept {r b : Bool} {w : Nat} {s0 s : State} (hw : 0x80000020 ||| w = w) (h : Kept r b w s0 s) :
    KeptO r b w s0 (execPortWindowStart s) := by
  unfold execPortWindowStart
  repeat' first
    | with_reducible assumption
    | with_reducible apply KeptO.next
    | with_reducible refine State.startWindows_kept (maskLe (by decide) hw) ?_

theorem State.sampleRec_kept {r b : Bool} {w : Nat} {s0 s : State} (hw : 0x60000000 ||| w = w) (h : Kept r b w s0 s) :
    ∀ a1 a2 a3 a4, Kept r b w s0 (State.sampleRec s a1 a2 a3 a4) := by
  intro a1 a2 a3 a4
  unfold State.sampleRec
  repeat' first
    | with_reducible assumption
    | with_reducible refine State.traceRec_kept (maskLe (by decide) hw) ?_ _
    | fail_if_no_progress with_reducible refine Kept.upd_trace (maskLe (by decide) hw) ?_

theorem execSampleTaken_kept {r b : Bool} {w : Nat} {s0 s : State} (hw : 0x60000000 ||| w = w) (h : Kept r b w s0 s) :
    ∀ a1, KeptO r b w s0 (execSampleTaken a1 s) := by
  intro a1
  unfold execSampleTaken
  repeat' first
    | with_reducible assumption
    | with_reducible apply KeptO.next
    | with_reducible refine State.sampleRec_kept (maskLe (by decide) hw) ?_ _ _ _ _
    | split

theorem execSampleTimeout_kept {r b : Bool} {w : Nat} {s0 s : State} (hw : 0x60000000 ||| w = w) (h : Kept r b w s0 s) :
    ∀ a1, KeptO r b w s0 (execSampleTimeout a1 s) := by
  intro a1
  unfold execSampleTimeout
  repeat' first
    | with_reducible assumption
    | with_reducible apply Kept.ite
    | with_reducible apply KeptO.next
    | with_reducible apply KeptO.ite
    | with_reducible refine State.sampleRec_kept (maskLe (by decide) hw) ?_ _ _ _ _
    | split

theorem State.selectPage_kept {r b : Bool} {w : Nat} {s0 s : State} (hw : 0x40000000 ||| w = w) (h : Kept r b w s0 s) :
    ∀ a1, Kept r b w s0 (State.selectPage s a1) := by
  intro a1
  unfold State.selectPage
  repeat' first
    | with_reducible assumption
    | fail_if_no_progress with_reducible refine Kept.upd_trace (maskLe (by decide) hw) ?_

theorem execApertureReady_kept {r b : Bool} {w : Nat} {s0 s : State} (hw : 0x40000000 ||| w = w) (h : Kept r b w s0 s) :
    KeptO r b w s0 (execApertureReady s) := by
  unfold execApertureReady
  repeat' first
    | with_reducible assumption
    | with_reducible apply Kept.ite
    | with_reducible apply KeptO.next
    | with_reducible apply KeptO.ite
    | fail_if_no_progress with_reducible refine Kept.upd_trace (maskLe (by decide) hw) ?_

theorem State.writeScan_kept {r b : Bool} {w : Nat} {s0 s : State} (hw : 0x40001000 ||| w = w) (h : Kept r b w s0 s) :
    ∀ a1, Kept r b w s0 (State.writeScan s a1) := by
  intro a1
  unfold State.writeScan
  repeat' first
    | with_reducible assumption
    | with_reducible apply Kept.ite
    | with_reducible refine State.request_kept (maskLe (by decide) hw) ?_ _ _
    | fail_if_no_progress with_reducible refine Kept.upd_trace (maskLe (by decide) hw) ?_

theorem execScanDone_kept {r b : Bool} {w : Nat} {s0 s : State} (hw : 0x4040000000 ||| w = w) (h : Kept r b w s0 s) :
    KeptO r b w s0 (execScanDone s) := by
  unfold execScanDone
  repeat' first
    | with_reducible assumption
    | with_reducible apply Kept.ite
    | with_reducible apply KeptO.next
    | with_reducible apply KeptO.ite
    | with_reducible refine State.fresh_kept (maskLe (by decide) hw) ?_
    | fail_if_no_progress with_reducible refine Kept.upd_trace (maskLe (by decide) hw) ?_

theorem State.regWrite_kept {r b : Bool} {w : Nat} {s0 s : State} {src off : Nat} {right : Bool} {f : State → State} (hw : 0x80000000 ||| w = w) (h : Kept r b w s0 s)
    (hf : ∀ x, Kept r b w s0 x → Kept r b w s0 (f x)) : KeptO r b w s0 (s.regWrite src off right f) := by
  unfold State.regWrite
  split
  · exact h
  · split
    · exact State.accErr_kept (maskLe (by decide) hw) h _ _ _ _
    · exact hf _ h

theorem State.swrst_kept {r b : Bool} {w : Nat} {s0 s : State} (hw : 0x1c2060014 ||| w = w) (h : Kept r b w s0 s) :
    ∀ a1 a2, KeptO r b w s0 (State.swrst s a1 a2) := by
  intro a1 a2
  unfold State.swrst
  repeat' first
    | with_reducible assumption
    | with_reducible apply KeptO.next
    | with_reducible refine State.regWrite_kept (maskLe (by decide) hw) ?_ (fun _ _ => ?_)
    | with_reducible refine State.startReset_kept (maskLe (by decide) hw) ?_ _
    | with_reducible refine Kept.foldl (fun _ _ _ => ?_) _ _ ?_

theorem execSwrstStack_kept {r b : Bool} {w : Nat} {s0 s : State} (hw : 0x1c2060014 ||| w = w) (h : Kept r b w s0 s) :
    ∀ a1 a2, KeptO r b w s0 (execSwrstStack a1 a2 s) := by
  intro a1 a2
  unfold execSwrstStack
  repeat' first
    | with_reducible assumption
    | with_reducible apply KeptO.next
    | with_reducible refine State.swrst_kept (maskLe (by decide) hw) ?_ _ _

theorem execSwrstLake_kept {r b : Bool} {w : Nat} {s0 s : State} (hw : 0x1c2060014 ||| w = w) (h : Kept r b w s0 s) :
    ∀ a1 a2, KeptO r b w s0 (execSwrstLake a1 a2 s) := by
  intro a1 a2
  unfold execSwrstLake
  repeat' first
    | with_reducible assumption
    | with_reducible apply KeptO.next
    | with_reducible refine State.swrst_kept (maskLe (by decide) hw) ?_ _ _

theorem execSwrstXbar_kept {r b : Bool} {w : Nat} {s0 s : State} (hw : 0x1c2060014 ||| w = w) (h : Kept r b w s0 s) :
    ∀ a1 a2, KeptO r b w s0 (execSwrstXbar a1 a2 s) := by
  intro a1 a2
  unfold execSwrstXbar
  repeat' first
    | with_reducible assumption
    | with_reducible apply KeptO.next
    | with_reducible refine State.swrst_kept (maskLe (by decide) hw) ?_ _ _

theorem execSwrstMordant_kept {r b : Bool} {w : Nat} {s0 s : State} (hw : 0x1c2060014 ||| w = w) (h : Kept r b w s0 s) :
    ∀ a1 a2, KeptO r b w s0 (execSwrstMordant a1 a2 s) := by
  intro a1 a2
  unfold execSwrstMordant
  repeat' first
    | with_reducible assumption
    | with_reducible apply KeptO.next
    | with_reducible refine State.swrst_kept (maskLe (by decide) hw) ?_ _ _

theorem execSwrstTrace_kept {r b : Bool} {w : Nat} {s0 s : State} (hw : 0x1c2060014 ||| w = w) (h : Kept r b w s0 s) :
    ∀ a1 a2, KeptO r b w s0 (execSwrstTrace a1 a2 s) := by
  intro a1 a2
  unfold execSwrstTrace
  repeat' first
    | with_reducible assumption
    | with_reducible apply KeptO.next
    | with_reducible refine State.swrst_kept (maskLe (by decide) hw) ?_ _ _

theorem State.hostrst_kept {w : Nat} {s0 s : State} (hw : 0x33ffffffff ||| w = w) (h : Kept true true w s0 s) :
    ∀ a1 a2, KeptO true true w s0 (State.hostrst s a1 a2) := by
  intro a1 a2
  unfold State.hostrst
  repeat' first
    | with_reducible assumption
    | with_reducible apply Kept.ite
    | with_reducible apply KeptO.next
    | with_reducible apply KeptO.ite
    | with_reducible refine State.regWrite_kept (maskLe (by decide) hw) ?_ (fun _ _ => ?_)
    | with_reducible refine State.coreReset_kept (maskLe (by decide) hw) ?_ _

theorem execHostrstCore_kept {w : Nat} {s0 s : State} (hw : 0x33ffffffff ||| w = w) (h : Kept true true w s0 s) :
    ∀ a1 a2, KeptO true true w s0 (execHostrstCore a1 a2 s) := by
  intro a1 a2
  unfold execHostrstCore
  repeat' first
    | with_reducible assumption
    | with_reducible apply KeptO.next
    | with_reducible refine State.hostrst_kept (maskLe (by decide) hw) ?_ _ _

theorem State.snap_kept {r b : Bool} {w : Nat} {s0 s : State} (hw : 0x80000000 ||| w = w) (h : Kept r b w s0 s) :
    ∀ a1 a2, Kept r b w s0 (State.snap s a1 a2) := by
  intro a1 a2
  unfold State.snap
  repeat' first
    | with_reducible assumption
    | with_reducible apply Kept.ite
    | fail_if_no_progress with_reducible refine Kept.upd_regs (maskLe (by decide) hw) ?_

theorem execTbSnap_kept {r b : Bool} {w : Nat} {s0 s : State} (hw : 0x80000000 ||| w = w) (h : Kept r b w s0 s) :
    ∀ a1 a2, KeptO r b w s0 (execTbSnap a1 a2 s) := by
  intro a1 a2
  unfold execTbSnap
  repeat' first
    | with_reducible assumption
    | with_reducible apply KeptO.next
    | with_reducible refine State.regWrite_kept (maskLe (by decide) hw) ?_ (fun _ _ => ?_)
    | with_reducible refine State.snap_kept (maskLe (by decide) hw) ?_ _ _

theorem execRingRdWrite_kept {r b : Bool} {w : Nat} {s0 s : State} (hw : 0xe0000000 ||| w = w) (h : Kept r b w s0 s) :
    ∀ a1 a2 a3, KeptO r b w s0 (execRingRdWrite a1 a2 a3 s) := by
  intro a1 a2 a3
  unfold execRingRdWrite
  repeat' first
    | with_reducible assumption
    | with_reducible apply KeptO.next
    | with_reducible refine State.regWrite_kept (maskLe (by decide) hw) ?_ (fun _ _ => ?_)
    | with_reducible refine State.writeRingRd_kept (maskLe (by decide) hw) ?_ _ _

theorem execRingApSelWrite_kept {r b : Bool} {w : Nat} {s0 s : State} (hw : 0xc0000000 ||| w = w) (h : Kept r b w s0 s) :
    ∀ a1 a2, KeptO r b w s0 (execRingApSelWrite a1 a2 s) := by
  intro a1 a2
  unfold execRingApSelWrite
  repeat' first
    | with_reducible assumption
    | with_reducible apply KeptO.next
    | with_reducible refine State.regWrite_kept (maskLe (by decide) hw) ?_ (fun _ _ => ?_)
    | with_reducible refine State.selectPage_kept (maskLe (by decide) hw) ?_ _

theorem execScanCtlStart_kept {r b : Bool} {w : Nat} {s0 s : State} (hw : 0xc0001000 ||| w = w) (h : Kept r b w s0 s) :
    ∀ a1 a2, KeptO r b w s0 (execScanCtlStart a1 a2 s) := by
  intro a1 a2
  unfold execScanCtlStart
  repeat' first
    | with_reducible assumption
    | with_reducible apply KeptO.next
    | with_reducible refine State.regWrite_kept (maskLe (by decide) hw) ?_ (fun _ _ => ?_)
    | with_reducible refine State.writeScan_kept (maskLe (by decide) hw) ?_ _

theorem State.writeAccerr_kept {r b : Bool} {w : Nat} {s0 s : State} (hw : 0x80000000 ||| w = w) (h : Kept r b w s0 s) :
    ∀ a1, Kept r b w s0 (State.writeAccerr s a1) := by
  intro a1
  unfold State.writeAccerr
  repeat' first
    | with_reducible assumption
    | with_reducible apply Kept.ite
    | fail_if_no_progress with_reducible refine Kept.upd_regs (maskLe (by decide) hw) ?_

theorem State.writeGlobal_kept {r b : Bool} {w : Nat} {s0 s : State} (hw : 0x80000001 ||| w = w) (h : Kept r b w s0 s) :
    ∀ a1 a2 a3, Kept r b w s0 (State.writeGlobal s a1 a2 a3) := by
  intro a1 a2 a3
  unfold State.writeGlobal
  repeat' first
    | with_reducible assumption
    | with_reducible apply Kept.ite
    | with_reducible refine State.writeAccerr_kept (maskLe (by decide) hw) ?_ _
    | with_reducible refine State.snap_kept (maskLe (by decide) hw) ?_ _ _
    | fail_if_no_progress with_reducible refine Kept.upd_clk_regs (maskLe (by decide) hw) ?_
    | split

theorem State.writeBkp_kept {r b : Bool} {w : Nat} {s0 s : State} (hw : 0x4 ||| w = w) (h : Kept r b w s0 s) :
    ∀ a1 a2, Kept r b w s0 (State.writeBkp s a1 a2) := by
  intro a1 a2
  unfold State.writeBkp
  repeat' first
    | with_reducible assumption
    | with_reducible apply Kept.ite
    | with_reducible refine State.setBkp_kept (maskLe (by decide) hw) ?_ _ _ _ _

theorem State.writePage_kept {r b : Bool} {w : Nat} {s0 s : State} (hw : 0x6f000204 ||| w = w) (h : Kept r b w s0 s) :
    ∀ a1 a2 a3, Kept r b w s0 (State.writePage s a1 a2 a3) := by
  intro a1 a2 a3
  unfold State.writePage
  repeat' first
    | with_reducible assumption
    | with_reducible apply Kept.ite
    | with_reducible refine State.hostResumed_kept (maskLe (by decide) hw) ?_ _
    | with_reducible refine State.writeHead_kept (maskLe (by decide) hw) ?_ _ _
    | with_reducible refine State.writeTail_kept (maskLe (by decide) hw) ?_ _ _
    | with_reducible refine State.wakeCores_kept (maskLe (by decide) hw) ?_
    | with_reducible refine State.setPage_kept (maskLe (by decide) hw) ?_ _ _
    | split

theorem State.writeDebug_kept {r b : Bool} {w : Nat} {s0 s : State} (hw : 0x60001000 ||| w = w) (h : Kept r b w s0 s) :
    ∀ a1 a2, Kept r b w s0 (State.writeDebug s a1 a2) := by
  intro a1 a2
  unfold State.writeDebug
  repeat' first
    | with_reducible assumption
    | with_reducible apply Kept.ite
    | with_reducible refine State.writeRingRd_kept (maskLe (by decide) hw) ?_ _ _
    | with_reducible refine State.setRing_kept (maskLe (by decide) hw) ?_ _ _
    | with_reducible refine State.selectPage_kept (maskLe (by decide) hw) ?_ _
    | with_reducible refine State.writeScan_kept (maskLe (by decide) hw) ?_ _
    | fail_if_no_progress with_reducible refine Kept.upd_trace (maskLe (by decide) hw) ?_
    | (lift_lets -underBinder; intro x; refine Kept.via (r := r) (b := b) (w := w) (s0 := s0) x ?_ ?_;
       on_goal 2 => (clear_value x; intro _); on_goal 1 => try subst x)
    | (lift_lets -underBinder; intro x;
       first
         | (have _ : Pins := x; subst x) | (have _ : _ → State := x; subst x)
         | (have _ : _ → _ → State := x; subst x) | clear_value x)
    | split

theorem State.writeReg_kept {r b : Bool} {w : Nat} {s0 s : State} (hw : 0xcef001205 ||| w = w) (h : Kept r b w s0 s) :
    ∀ a1 a2 a3, Kept r b w s0 (State.writeReg s a1 a2 a3) := by
  intro a1 a2 a3
  unfold State.writeReg
  repeat' first
    | with_reducible assumption
    | with_reducible apply Kept.ite
    | with_reducible refine State.writeGlobal_kept (maskLe (by decide) hw) ?_ _ _ _
    | with_reducible refine State.writeBkp_kept (maskLe (by decide) hw) ?_ _ _
    | with_reducible refine State.writeDebug_kept (maskLe (by decide) hw) ?_ _ _
    | with_reducible refine State.writePage_kept (maskLe (by decide) hw) ?_ _ _ _
    | fail_if_no_progress with_reducible refine Kept.hostCells (maskLe (by decide) hw) ?_ _ _
    | fail_if_no_progress with_reducible refine Kept.xferCells (maskLe (by decide) hw) ?_ _ _
    | split

theorem execRegisterWrite_kept {w : Nat} {s0 s : State} (hw : 0x3fffffffff ||| w = w) (h : Kept true true w s0 s) :
    ∀ a1 a2 a3, KeptO true true w s0 (execRegisterWrite a1 a2 a3 s) := by
  intro a1 a2 a3
  unfold execRegisterWrite
  repeat' first
    | with_reducible assumption
    | with_reducible apply Kept.ite
    | with_reducible apply KeptO.next
    | with_reducible apply KeptO.ite
    | with_reducible refine State.accErr_kept (maskLe (by decide) hw) ?_ _ _ _ _
    | with_reducible refine State.swrst_kept (maskLe (by decide) hw) ?_ _ _
    | with_reducible refine State.hostrst_kept (maskLe (by decide) hw) ?_ _ _
    | with_reducible refine State.regWrite_kept (maskLe (by decide) hw) ?_ (fun _ _ => ?_)
    | with_reducible refine State.writeReg_kept (maskLe (by decide) hw) ?_ _ _ _

theorem execLoWordRead_kept {r b : Bool} {w : Nat} {s0 s : State} (hw : 0x80000000 ||| w = w) (h : Kept r b w s0 s) :
    ∀ a1 a2, KeptO r b w s0 (execLoWordRead a1 a2 s) := by
  intro a1 a2
  unfold execLoWordRead
  repeat' first
    | with_reducible assumption
    | with_reducible apply Kept.ite
    | with_reducible apply KeptO.next
    | with_reducible apply KeptO.ite
    | with_reducible refine State.accErr_kept (maskLe (by decide) hw) ?_ _ _ _ _
    | fail_if_no_progress with_reducible refine Kept.upd_regs (maskLe (by decide) hw) ?_
    | split

theorem State.stackTime_kept {r b : Bool} {w : Nat} {s0 s : State} (hw : 0x4000 ||| w = w) (h : Kept r b w s0 s) :
    Kept r b w s0 (State.stackTime s) := by
  unfold State.stackTime
  repeat' first
    | with_reducible assumption
    | with_reducible apply Kept.ite
    | fail_if_no_progress with_reducible refine Kept.upd_sclk (maskLe (by decide) hw) ?_

theorem State.portTimers_kept {r b : Bool} {w : Nat} {s0 s : State} (hw : 0x800020 ||| w = w) (h : Kept r b w s0 s) :
    Kept r b w s0 (State.portTimers s) := by
  unfold State.portTimers
  repeat' first
    | with_reducible assumption
    | with_reducible apply Kept.ite
    | fail_if_no_progress with_reducible refine Kept.upd_ports_feeders (maskLe (by decide) hw) ?_

theorem State.lakeTimers_kept {r b : Bool} {w : Nat} {s0 s : State} (hw : 0x401000 ||| w = w) (h : Kept r b w s0 s) :
    Kept r b w s0 (State.lakeTimers s) := by
  unfold State.lakeTimers
  repeat' first
    | with_reducible assumption
    | with_reducible apply Kept.ite
    | fail_if_no_progress with_reducible refine Kept.upd_cares_lake (maskLe (by decide) hw) ?_

theorem State.feedJudge_kept {r b : Bool} {w : Nat} {s0 s : State} (hw : 0x800000 ||| w = w) (h : Kept r b w s0 s) :
    Kept r b w s0 (State.feedJudge s) := by
  unfold State.feedJudge
  repeat' first
    | with_reducible assumption
    | with_reducible apply Kept.ite
    | fail_if_no_progress with_reducible refine Kept.upd_feeders (maskLe (by decide) hw) ?_

theorem State.idleTimers_kept {r b : Bool} {w : Nat} {s0 s : State} (hw : 0x200000000 ||| w = w) (h : Kept r b w s0 s) :
    ∀ a1, Kept r b w s0 (State.idleTimers s a1) := by
  intro a1
  unfold State.idleTimers
  repeat' first
    | with_reducible assumption
    | with_reducible apply Kept.ite
    | fail_if_no_progress with_reducible refine Kept.upd_idle (maskLe (by decide) hw) ?_

theorem State.settleHalves_kept {r b : Bool} {w : Nat} {s0 s : State} (hw : 0x1 ||| w = w) (h : Kept r b w s0 s) :
    Kept r b w s0 (State.settleHalves s) := by
  unfold State.settleHalves
  repeat' first
    | with_reducible assumption
    | with_reducible apply Kept.ite
    | fail_if_no_progress with_reducible refine Kept.upd_clk (maskLe (by decide) hw) ?_

theorem State.stepEnds_kept {r b : Bool} {w : Nat} {s0 s : State} (hw : 0x40000 ||| w = w) (h : Kept r b w s0 s) :
    Kept r b w s0 (State.stepEnds s) := by
  unfold State.stepEnds
  repeat' first
    | with_reducible assumption
    | with_reducible apply Kept.ite
    | with_reducible refine State.endStep_kept (maskLe (by decide) hw) ?_ _
    | split
    | with_reducible refine Kept.foldl (fun _ _ _ => ?_) _ _ ?_

theorem State.resetsRise_kept {r b : Bool} {w : Nat} {s0 s : State} (hw : 0x20000 ||| w = w) (h : Kept r b w s0 s) :
    Kept r b w s0 (State.resetsRise s) := by
  unfold State.resetsRise
  repeat' first
    | with_reducible assumption
    | with_reducible apply Kept.ite
    | fail_if_no_progress with_reducible refine Kept.upd_supply (maskLe (by decide) hw) ?_

theorem State.handOver_kept {r b : Bool} {w : Nat} {s0 s : State} (hw : 0x27000214 ||| w = w) (h : Kept r b w s0 s) :
    Kept r b w s0 (State.handOver s) := by
  unfold State.handOver
  repeat' first
    | with_reducible assumption
    | with_reducible apply Kept.ite
    | with_reducible refine State.takeOver_kept (maskLe (by decide) hw) ?_
    | split

theorem State.coresRest_kept {r b : Bool} {w : Nat} {s0 s : State} (hw : 0x40000000 ||| w = w) (h : Kept r b w s0 s) :
    Kept r b w s0 (State.coresRest s) := by
  unfold State.coresRest
  repeat' first
    | with_reducible assumption
    | with_reducible apply Kept.ite
    | fail_if_no_progress with_reducible refine Kept.upd_trace (maskLe (by decide) hw) ?_

theorem State.countSlots_kept {r b : Bool} {w : Nat} {s0 s : State} (hw : 0x20000000 ||| w = w) (h : Kept r b w s0 s) :
    Kept r b w s0 (State.countSlots s) := by
  unfold State.countSlots
  repeat' first
    | with_reducible assumption
    | with_reducible apply Kept.ite
    | with_reducible refine State.slotCount_kept (maskLe (by decide) hw) ?_ _ _ _
    | split
    | with_reducible refine Kept.foldl (fun _ _ _ => ?_) _ _ ?_

theorem tick_kept {w : Nat} {s0 s : State} (hw : 0x277c6523d ||| w = w) (h : Kept true true w s0 s) :
    Kept true true w s0 (tick s) := by
  unfold tick
  repeat' first
    | with_reducible assumption
    | with_reducible apply Kept.ite
    | with_reducible refine State.countSlots_kept (maskLe (by decide) hw) ?_
    | with_reducible refine State.coresRest_kept (maskLe (by decide) hw) ?_
    | with_reducible refine State.handOver_kept (maskLe (by decide) hw) ?_
    | with_reducible refine State.resetsRise_kept (maskLe (by decide) hw) ?_
    | with_reducible refine State.stepEnds_kept (maskLe (by decide) hw) ?_
    | with_reducible refine State.settleHalves_kept (maskLe (by decide) hw) ?_
    | with_reducible refine State.idleTimers_kept (maskLe (by decide) hw) ?_ _
    | with_reducible refine State.feedJudge_kept (maskLe (by decide) hw) ?_
    | with_reducible refine State.lakeTimers_kept (maskLe (by decide) hw) ?_
    | with_reducible refine State.portTimers_kept (maskLe (by decide) hw) ?_
    | with_reducible refine State.stackTime_kept (maskLe (by decide) hw) ?_
    | with_reducible refine State.settleTenants_kept (maskLe (by decide) hw) ?_
    | with_reducible refine State.crossings_kept (maskLe (by decide) hw) ?_
    | fail_if_no_progress with_reducible refine Kept.upd_clk (maskLe (by decide) hw) ?_

end Sys2Proof.Machine
end

