-- ==== Sys2Proof/WellFormed.lean ====
section
/-! DEFINITION. Which commands are well formed: the sizes and ranges of the operands that a command brings in. The block
gives every command a meaning, well formed or not; an ill-formed one names something no boundary of the block can carry. -/

namespace Sys2Proof

/-- Beats of the longest payload: one page of 4096 stored bytes delivers at most 11,392 elements of 4 bytes, 178 beats
(Tables 9.3 and 1.2). -/
def maxBeats : Nat := 178

/-- The first beats of a payload are full and only the last may mark fewer bursts (R11, R255): DVLD fills from bit 0. -/
def Beat.filled (b : Beat) : Bool := (List.range 8).any (fun n => b.dvld.toNat == 2 ^ (n + 1) - 1)

/-- A payload that a request data lane can carry. -/
def payloadOk (d : List Beat) : Bool :=
  decide (d.length ≤ maxBeats) && d.all Beat.filled && d.dropLast.all (fun b => b.dvld == 0xFF)

/-- A pass result within the delay and threshold codes of Table 12.2. -/
def PassRes.ok (r : PassRes) : Bool :=
  r.nf || (decide (r.dly < 128) && decide (r.vref < 128) && decide (r.left ≤ r.dly) && decide (r.dly ≤ r.right))

/-- A lane of a channel: 80 data and spare lanes in both directions, 18 command lanes toward the stack (Table 18.11). -/
def LaneMeas.ok (l : LaneMeas) : Bool :=
  (decide (l.lane < 80) || (l.tx && decide (l.lane < 98))) && l.first.ok && l.second.ok && l.retryFirst.ok && l.retrySecond.ok

/-- Measurements of a channel: no lane measured twice in one direction. -/
def ChanMeas.ok (m : ChanMeas) : Bool :=
  decide (m.chan < 32) && m.lanes.all LaneMeas.ok && decide ((m.lanes.map (fun l => (l.lane, l.tx))).Nodup)

/-- What discovery can report (Tables 2.2, 3.1 and 11.14). -/
def Discovery.ok (d : Discovery) : Bool := decide (d.stype ≤ 7) && decide (d.rate ≤ 4) && decide (d.spares ≤ 4)

/-- A record slot that a device can hold: 64 header bytes, a payload that fits, bytes and 32-bit words. -/
def RecSlot.ok (x : RecSlot) : Bool :=
  decide (x.header.length = 64) && decide (x.payload.length ≤ 262072) && (x.header ++ x.payload).all (fun b => decide (b < 256)) &&
    decide (x.crc < 2 ^ 32) && decide (x.commit < 2 ^ 32)

/-- A device that can be read: its record slots, and MIN_SVN's width. -/
def FlashDev.ok (d : FlashDev) : Bool :=
  [d.trimA, d.trimB, d.mapA, d.mapB, d.baseA, d.baseB].all RecSlot.ok && decide (d.minSvn < 65536)

/-- A round with all 64 conversions and all 16 readouts (R393). -/
def Round.ok (r : Round) : Bool := decide (r.adc.length = 64) && decide (r.readout.length = 16)

/-- NT_TOD is a 64-bit count. -/
def NetTime.ok (n : NetTime) : Bool := decide (n.tod < 2 ^ 64)

/-- Well-formed commands. -/
def Instr.wellFormed (i : Instr) : Bool :=
  match i with
  | .wr _ _ d | .wrm _ _ d | .accu _ _ d | .acco _ _ d | .mark _ _ d | .feltSpill _ _ d => payloadOk d
  | .readDataArrival _ flips => decide (flips.length ≤ 32)
  | .calenderVisit _ flips | .heal _ flips | .rowRepair _ flips _ => decide (flips.length ≤ 128)
  | .retrainDone _ m => m.ok
  | .stackTraining _ m hardFails => m.all ChanMeas.ok && decide (hardFails.Nodup)
  | .quickCheck _ _ badSpares hardFails => badSpares.all (fun n => decide (n < 256)) && decide (hardFails.Nodup)
  | .housekeepingRound r => r.ok
  | .stackPowerGood _ d => d.ok
  | .powerOnRelease d => d.ok
  | .sheetBoundary nt | .timebaseErrorLimit nt => nt.ok
  | .rd _ _ | .gath _ _ | .fence _ _ | .feltFillAck _ _ _ | .feltFillAckTimeout _ _ | .responseCreditReturn _ _ _
  | .responseBeatSend _ | .urgLevelChange _ _ | .fdGo _ _ | .feederPageReadIssue _ | .feederBeat _ _
  | .feederStallTimeout _ | .portWatchdogExpiry _ | .portEdgeResetRelease _ | .partGrant _ | .grantComplete _
  | .lakeHoldTimeout _ | .urgencyCrossing _ | .deadlineSweep _ | .columnRun _ | .rowCommand _ | .idleClose _
  | .directionTurn _ | .budgetWindow _ | .refreshTick _ | .refpbIssue _ | .rowCounterAgeing _ | .mitigation _
  | .spillSweep _ | .spillSweepForce _ | .maintenanceStart _ _ | .maintenanceEnd _ _ | .retrainStep _
  | .retrainStepAbandon _ | .calibrationApply _ | .marginEvaluation _ _ _ | .loadWindow _ | .calenderEscalate _
  | .laneRepair _ _ | .repairMapStore | .nvRecordStore _ _ | .mergeEntryTimeout _ | .accuUpdate _ | .accoTileRetire _
  | .accoTileTimeout _ | .watermarkClose _ | .markerRefill _ _ | .debtCharge | .gateRelease _ | .drrRelease _
  | .powerLadderStep | .thermalRestart _ | .droop _ | .droopLong _ | .quirePark _ | .selfRefreshEntry _
  | .domainGateOff _ | .domainPowerGood _ | .pllLocked _ | .pllLockLoss _ _ | .refClkLoss | .refClkRestored
  | .ntLockLoss | .frequencySwitchEnd _ | .regulatorAck _ | .regulatorAckTimeout _ | .rollbackAckTimeout _
  | .quireDrainEnd _ | .zeroFillEnd _ | .mbCmdTailWrite _ _ _ | .mbCplHeadWrite _ _ _ | .mbLeaseWrite _ _
  | .heartbeatTimeout _ | .hostLinkDown _ | .hostLinkUp _ | .leaseExpiry _ | .handoverTimeout | .mordantWatchdogExpiry
  | .trialEnd | .criticalStateError _ | .powerOnReset | .chipWarmReset | .coreResetRelease | .stackPowerEnable _
  | .stackPgTimeout _ | .stackPgFall _ | .stackOvercurrent _ | .pairFaultRecovery _ | .importWaitEnd | .initialFill _
  | .dwReadyRise | .blockResetDrainEnd _ | .blockReturnToService _ | .debugStop | .debugStopEnd | .recordMove
  | .gapRecordWrite _ | .portWindowStart | .sampleTaken _ | .sampleTimeout _ | .apertureReady | .scanDone => true
  | .open_ _ | .close _ | .commit _ | .discard _ | .stateRead _ | .qalloc _ | .qjoin _ | .wunmap _ | .qrelease _
  | .regionSet _ | .tintSet _ | .portSet _ | .affinityReset _ | .policerSet _ | .gateSet _ | .profileLoad _
  | .schedSet _ | .sheetSet _ | .skewSet _ | .lakeSet _ | .feederPortSet _ | .feederSlotSet _ | .doorbellSet _
  | .wmArm _ | .dumpFree _ | .maintSet _ | .maintReqScrub _ | .maintReqHeal _ | .maintReqRepairRow _
  | .maintReqRepairLane _ | .maintReqCapture _ | .repairPromote _ | .repairCompact _ | .repairClearStack _
  | .repairReserial _ | .repairRead _ | .powerSet _ | .oppointSet _ | .thermalSet _ | .thermalRelease _
  | .stackFence _ | .stackFenceClear _ | .calibSet _ | .calExport _ | .calImport _ | .calRetrain _ | .calBaseline _
  | .hostSet _ | .tenantAssign _ | .ownerHandover _ | .ownerAccept _ | .adopt _ | .cntAllowUmap _
  | .cntRevokeUmap _ | .cntArmSampling _ | .cntDisarmSampling _ | .energyRead _ | .subscribeAdd _
  | .subscribeRemove _ | .fwStage _ _ | .fwActivate _ | .faultInjectFlipOne _ | .faultInjectFlipTwo _
  | .faultInjectStain _ | .faultInjectTempOffset _ | .faultInjectWithholdAck _ | .faultInjectHeaderParity _
  | .faultInjectHostLost _ | .dbgIssueCode _ | .dbgGrantRights _ | .dbgRevokeRights _ | .dbgUnlock _ | .dbgResume _ => true
  | .swrstStack _ _ | .swrstLake _ _ | .swrstXbar _ _ | .swrstMordant _ _ | .swrstTrace _ _ | .hostrstCore _ _
  | .tbSnap _ _ | .ringRdWrite _ _ _ | .ringApSelWrite _ _ | .scanCtlStart _ _ => true
  | .registerWrite _ off _ | .loWordRead _ off => off.toNat % 4 == 0
  | .caParityError _ | .droopEnd _ _ => true

end Sys2Proof
end

