-- ==== Sys2Proof/Laws/PerInstr.lean ====
section
/-! SUPPORT. Facts of every command as syntax, one lemma for each constructor. -/

namespace Sys2Proof.Laws.WellSized

/-- A well-formed command that brings a request names one of the 138 ports, and its payload fits the request data lane:
at most 178 beats, the last of which alone may be partly filled. -/
def Statement (i : Instr) : Prop :=
  i.wellFormed = true → ∀ p hb d felt, i.request = some (p, hb, d, felt) → p < 138 ∧ payloadOk d = true

/-- No request, nothing to show. -/
theorem of_none {i : Instr} (h : i.request = none) : Statement i := by
  intro _ p hb d felt e
  rw [h] at e
  exact nomatch e

/-- A request without data. -/
theorem of_header {i : Instr} {q : Fin 128} {h : BitVec 128} (e : i.request = some (q.val, h, [], false)) :
    Statement i := by
  intro _ p hb d felt x
  rw [e] at x
  cases x
  exact ⟨by omega, rfl⟩

/-- A request with data. -/
theorem of_data {i : Instr} {n : Nat} {h : BitVec 128} {l : List Beat} {b : Bool} (hn : n < 138)
    (e : i.request = some (n, h, l, b)) (w : i.wellFormed = payloadOk l) : Statement i := by
  intro k p hb d felt x
  rw [e] at x
  cases x
  exact ⟨hn, by rw [← w]; exact k⟩

theorem rd (p : Fin 128) (h : BitVec 128) : Statement (.rd p h) := of_header rfl
theorem wr (p : Fin 128) (h : BitVec 128) (d : List Beat) : Statement (.wr p h d) := of_data (by omega) rfl rfl
theorem wrm (p : Fin 128) (h : BitVec 128) (d : List Beat) : Statement (.wrm p h d) := of_data (by omega) rfl rfl
theorem accu (p : Fin 128) (h : BitVec 128) (d : List Beat) : Statement (.accu p h d) := of_data (by omega) rfl rfl
theorem acco (p : Fin 128) (h : BitVec 128) (d : List Beat) : Statement (.acco p h d) := of_data (by omega) rfl rfl
theorem gath (p : Fin 128) (h : BitVec 128) : Statement (.gath p h) := of_header rfl
theorem mark (p : Fin 128) (h : BitVec 128) (d : List Beat) : Statement (.mark p h d) := of_data (by omega) rfl rfl
theorem fence (p : Fin 128) (h : BitVec 128) : Statement (.fence p h) := of_header rfl
theorem feltSpill (f : Fin 2) (h : BitVec 128) (d : List Beat) : Statement (.feltSpill f h d) := of_data (by omega) rfl rfl
theorem feltFillAck (f : Fin 2) (tag : Fin 1024) (ok : Bool) : Statement (.feltFillAck f tag ok) := of_none rfl
theorem feltFillAckTimeout (f : Fin 2) (tag : Fin 1024) : Statement (.feltFillAckTimeout f tag) := of_none rfl
theorem responseCreditReturn (p : Fin 138) (hdrs beats : Nat) : Statement (.responseCreditReturn p hdrs beats) := of_none rfl
theorem responseBeatSend (p : Fin 138) : Statement (.responseBeatSend p) := of_none rfl
theorem urgLevelChange (p : Fin 128) (lvl : Fin 4) : Statement (.urgLevelChange p lvl) := of_none rfl
theorem fdGo (f : Fin 8) (slot : Fin 8) : Statement (.fdGo f slot) := of_none rfl
theorem feederPageReadIssue (f : Fin 8) : Statement (.feederPageReadIssue f) := of_none rfl
theorem feederBeat (f : Fin 8) (rdy : BitVec 4) : Statement (.feederBeat f rdy) := of_none rfl
theorem feederStallTimeout (f : Fin 8) : Statement (.feederStallTimeout f) := of_none rfl
theorem portWatchdogExpiry (p : Fin 138) : Statement (.portWatchdogExpiry p) := of_none rfl
theorem portEdgeResetRelease (p : Fin 138) : Statement (.portEdgeResetRelease p) := of_none rfl
theorem partGrant (k : Fin 16) : Statement (.partGrant k) := of_none rfl
theorem grantComplete (k : Fin 16) : Statement (.grantComplete k) := of_none rfl
theorem lakeHoldTimeout (k : Fin 16) : Statement (.lakeHoldTimeout k) := of_none rfl
theorem urgencyCrossing (k : Fin 16) : Statement (.urgencyCrossing k) := of_none rfl
theorem deadlineSweep (k : Fin 16) : Statement (.deadlineSweep k) := of_none rfl
theorem columnRun (l : Fin 1024) : Statement (.columnRun l) := of_none rfl
theorem rowCommand (c : Fin 512) : Statement (.rowCommand c) := of_none rfl
theorem idleClose (l : Fin 1024) : Statement (.idleClose l) := of_none rfl
theorem directionTurn (l : Fin 1024) : Statement (.directionTurn l) := of_none rfl
theorem budgetWindow (k : Fin 16) : Statement (.budgetWindow k) := of_none rfl
theorem readDataArrival (l : Fin 1024) (flips : List (BitVec 72)) : Statement (.readDataArrival l flips) := of_none rfl
theorem refreshTick (l : Fin 1024) : Statement (.refreshTick l) := of_none rfl
theorem refpbIssue (c : Fin 512) : Statement (.refpbIssue c) := of_none rfl
theorem rowCounterAgeing (k : Fin 16) : Statement (.rowCounterAgeing k) := of_none rfl
theorem mitigation (l : Fin 1024) : Statement (.mitigation l) := of_none rfl
theorem spillSweep (l : Fin 1024) : Statement (.spillSweep l) := of_none rfl
theorem spillSweepForce (l : Fin 1024) : Statement (.spillSweepForce l) := of_none rfl
theorem maintenanceStart (l : Fin 1024) (act : Fin 8) : Statement (.maintenanceStart l act) := of_none rfl
theorem maintenanceEnd (l : Fin 1024) (act : Fin 8) : Statement (.maintenanceEnd l act) := of_none rfl
theorem retrainStep (c : Fin 512) : Statement (.retrainStep c) := of_none rfl
theorem retrainStepAbandon (c : Fin 512) : Statement (.retrainStepAbandon c) := of_none rfl
theorem retrainDone (c : Fin 512) (m : ChanMeas) : Statement (.retrainDone c m) := of_none rfl
theorem calibrationApply (c : Fin 512) : Statement (.calibrationApply c) := of_none rfl
theorem marginEvaluation (c : Fin 512) (lane : Fin 80) (mismatch : Bool) : Statement (.marginEvaluation c lane mismatch) := of_none rfl
theorem loadWindow (k : Fin 16) : Statement (.loadWindow k) := of_none rfl
theorem calenderVisit (l : Fin 1024) (flips : List (BitVec 72)) : Statement (.calenderVisit l flips) := of_none rfl
theorem calenderEscalate (l : Fin 1024) : Statement (.calenderEscalate l) := of_none rfl
theorem heal (l : Fin 1024) (flips : List (BitVec 72)) : Statement (.heal l flips) := of_none rfl
theorem rowRepair (l : Fin 1024) (flips : List (BitVec 72)) (spare : Fin 256) : Statement (.rowRepair l flips spare) := of_none rfl
theorem laneRepair (c : Fin 512) (spare : Option (Fin 4)) : Statement (.laneRepair c spare) := of_none rfl
theorem repairMapStore : Statement (.repairMapStore) := of_none rfl
theorem nvRecordStore (first second : Bool) : Statement (.nvRecordStore first second) := of_none rfl
theorem mergeEntryTimeout (l : Fin 1024) : Statement (.mergeEntryTimeout l) := of_none rfl
theorem accuUpdate (k : Fin 16) : Statement (.accuUpdate k) := of_none rfl
theorem accoTileRetire (k : Fin 16) : Statement (.accoTileRetire k) := of_none rfl
theorem accoTileTimeout (k : Fin 16) : Statement (.accoTileTimeout k) := of_none rfl
theorem watermarkClose (a : Fin 16) : Statement (.watermarkClose a) := of_none rfl
theorem markerRefill (half : Fin 2) (t : Fin 512) : Statement (.markerRefill half t) := of_none rfl
theorem debtCharge : Statement (.debtCharge) := of_none rfl
theorem gateRelease (q : Fin 1024) : Statement (.gateRelease q) := of_none rfl
theorem drrRelease (stage : Fin 1088) : Statement (.drrRelease stage) := of_none rfl
theorem powerLadderStep : Statement (.powerLadderStep) := of_none rfl
theorem housekeepingRound (r : Round) : Statement (.housekeepingRound r) := of_none rfl
theorem thermalRestart (k : Fin 16) : Statement (.thermalRestart k) := of_none rfl
theorem droop (k : Fin 16) : Statement (.droop k) := of_none rfl
theorem droopLong (k : Fin 16) : Statement (.droopLong k) := of_none rfl
theorem quirePark (q : Fin 1024) : Statement (.quirePark q) := of_none rfl
theorem selfRefreshEntry (c : Fin 512) : Statement (.selfRefreshEntry c) := of_none rfl
theorem domainGateOff (k : Fin 16) : Statement (.domainGateOff k) := of_none rfl
theorem domainPowerGood (k : Fin 16) : Statement (.domainPowerGood k) := of_none rfl
theorem pllLocked (k : Fin 16) : Statement (.pllLocked k) := of_none rfl
theorem pllLockLoss (k : Fin 16) (relockFailed : Bool) : Statement (.pllLockLoss k relockFailed) := of_none rfl
theorem refClkLoss : Statement (.refClkLoss) := of_none rfl
theorem refClkRestored : Statement (.refClkRestored) := of_none rfl
theorem ntLockLoss : Statement (.ntLockLoss) := of_none rfl
theorem frequencySwitchEnd (k : Fin 16) : Statement (.frequencySwitchEnd k) := of_none rfl
theorem regulatorAck (k : Fin 16) : Statement (.regulatorAck k) := of_none rfl
theorem regulatorAckTimeout (k : Fin 16) : Statement (.regulatorAckTimeout k) := of_none rfl
theorem rollbackAckTimeout (k : Fin 16) : Statement (.rollbackAckTimeout k) := of_none rfl
theorem sheetBoundary (nt : NetTime) : Statement (.sheetBoundary nt) := of_none rfl
theorem quireDrainEnd (q : Fin 1024) : Statement (.quireDrainEnd q) := of_none rfl
theorem zeroFillEnd (q : Fin 1024) : Statement (.zeroFillEnd q) := of_none rfl
theorem mbCmdTailWrite (page : Fin 521) (src : Fin 16) (v : BitVec 32) : Statement (.mbCmdTailWrite page src v) := of_none rfl
theorem mbCplHeadWrite (page : Fin 521) (src : Fin 16) (v : BitVec 32) : Statement (.mbCplHeadWrite page src v) := of_none rfl
theorem mbLeaseWrite (h : Fin 8) (src : Fin 16) : Statement (.mbLeaseWrite h src) := of_none rfl
theorem heartbeatTimeout (h : Fin 8) : Statement (.heartbeatTimeout h) := of_none rfl
theorem hostLinkDown (h : Fin 8) : Statement (.hostLinkDown h) := of_none rfl
theorem hostLinkUp (h : Fin 8) : Statement (.hostLinkUp h) := of_none rfl
theorem leaseExpiry (h : Fin 8) : Statement (.leaseExpiry h) := of_none rfl
theorem handoverTimeout : Statement (.handoverTimeout) := of_none rfl
theorem mordantWatchdogExpiry : Statement (.mordantWatchdogExpiry) := of_none rfl
theorem trialEnd : Statement (.trialEnd) := of_none rfl
theorem criticalStateError (aonSequencer : Bool) : Statement (.criticalStateError aonSequencer) := of_none rfl
theorem powerOnReset : Statement (.powerOnReset) := of_none rfl
theorem powerOnRelease (dev : FlashDev) : Statement (.powerOnRelease dev) := of_none rfl
theorem chipWarmReset : Statement (.chipWarmReset) := of_none rfl
theorem coreResetRelease : Statement (.coreResetRelease) := of_none rfl
theorem stackPowerEnable (k : Fin 16) : Statement (.stackPowerEnable k) := of_none rfl
theorem stackPowerGood (k : Fin 16) (disc : Discovery) : Statement (.stackPowerGood k disc) := of_none rfl
theorem stackPgTimeout (k : Fin 16) : Statement (.stackPgTimeout k) := of_none rfl
theorem stackPgFall (k : Fin 16) : Statement (.stackPgFall k) := of_none rfl
theorem stackOvercurrent (pair : Fin 8) : Statement (.stackOvercurrent pair) := of_none rfl
theorem pairFaultRecovery (pair : Fin 8) : Statement (.pairFaultRecovery pair) := of_none rfl
theorem stackTraining (k : Fin 16) (m : List ChanMeas) (hardFails : List Nat) : Statement (.stackTraining k m hardFails) := of_none rfl
theorem importWaitEnd : Statement (.importWaitEnd) := of_none rfl
theorem quickCheck (k : Fin 16) (laneFailed : Bool) (badSpares hardFails : List Nat) : Statement (.quickCheck k laneFailed badSpares hardFails) := of_none rfl
theorem initialFill (l : Fin 1024) : Statement (.initialFill l) := of_none rfl
theorem dwReadyRise : Statement (.dwReadyRise) := of_none rfl
theorem blockResetDrainEnd (b : Fin 22) : Statement (.blockResetDrainEnd b) := of_none rfl
theorem blockReturnToService (b : Fin 22) : Statement (.blockReturnToService b) := of_none rfl
theorem debugStop : Statement (.debugStop) := of_none rfl
theorem debugStopEnd : Statement (.debugStopEnd) := of_none rfl
theorem recordMove : Statement (.recordMove) := of_none rfl
theorem gapRecordWrite (ring : Fin 3) : Statement (.gapRecordWrite ring) := of_none rfl
theorem portWindowStart : Statement (.portWindowStart) := of_none rfl
theorem sampleTaken (u : Fin 16) : Statement (.sampleTaken u) := of_none rfl
theorem sampleTimeout (u : Fin 16) : Statement (.sampleTimeout u) := of_none rfl
theorem apertureReady : Statement (.apertureReady) := of_none rfl
theorem scanDone : Statement (.scanDone) := of_none rfl
theorem open_ (page : Fin 521) : Statement (.open_ page) := of_none rfl
theorem close (page : Fin 521) : Statement (.close page) := of_none rfl
theorem commit (page : Fin 521) : Statement (.commit page) := of_none rfl
theorem discard (page : Fin 521) : Statement (.discard page) := of_none rfl
theorem stateRead (page : Fin 521) : Statement (.stateRead page) := of_none rfl
theorem qalloc (page : Fin 521) : Statement (.qalloc page) := of_none rfl
theorem qjoin (page : Fin 521) : Statement (.qjoin page) := of_none rfl
theorem wunmap (page : Fin 521) : Statement (.wunmap page) := of_none rfl
theorem qrelease (page : Fin 521) : Statement (.qrelease page) := of_none rfl
theorem regionSet (page : Fin 521) : Statement (.regionSet page) := of_none rfl
theorem tintSet (page : Fin 521) : Statement (.tintSet page) := of_none rfl
theorem portSet (page : Fin 521) : Statement (.portSet page) := of_none rfl
theorem affinityReset (page : Fin 521) : Statement (.affinityReset page) := of_none rfl
theorem policerSet (page : Fin 521) : Statement (.policerSet page) := of_none rfl
theorem gateSet (page : Fin 521) : Statement (.gateSet page) := of_none rfl
theorem profileLoad (page : Fin 521) : Statement (.profileLoad page) := of_none rfl
theorem schedSet (page : Fin 521) : Statement (.schedSet page) := of_none rfl
theorem sheetSet (page : Fin 521) : Statement (.sheetSet page) := of_none rfl
theorem skewSet (page : Fin 521) : Statement (.skewSet page) := of_none rfl
theorem lakeSet (page : Fin 521) : Statement (.lakeSet page) := of_none rfl
theorem feederPortSet (page : Fin 521) : Statement (.feederPortSet page) := of_none rfl
theorem feederSlotSet (page : Fin 521) : Statement (.feederSlotSet page) := of_none rfl
theorem doorbellSet (page : Fin 521) : Statement (.doorbellSet page) := of_none rfl
theorem wmArm (page : Fin 521) : Statement (.wmArm page) := of_none rfl
theorem dumpFree (page : Fin 521) : Statement (.dumpFree page) := of_none rfl
theorem maintSet (page : Fin 521) : Statement (.maintSet page) := of_none rfl
theorem maintReqScrub (page : Fin 521) : Statement (.maintReqScrub page) := of_none rfl
theorem maintReqHeal (page : Fin 521) : Statement (.maintReqHeal page) := of_none rfl
theorem maintReqRepairRow (page : Fin 521) : Statement (.maintReqRepairRow page) := of_none rfl
theorem maintReqRepairLane (page : Fin 521) : Statement (.maintReqRepairLane page) := of_none rfl
theorem maintReqCapture (page : Fin 521) : Statement (.maintReqCapture page) := of_none rfl
theorem repairPromote (page : Fin 521) : Statement (.repairPromote page) := of_none rfl
theorem repairCompact (page : Fin 521) : Statement (.repairCompact page) := of_none rfl
theorem repairClearStack (page : Fin 521) : Statement (.repairClearStack page) := of_none rfl
theorem repairReserial (page : Fin 521) : Statement (.repairReserial page) := of_none rfl
theorem repairRead (page : Fin 521) : Statement (.repairRead page) := of_none rfl
theorem powerSet (page : Fin 521) : Statement (.powerSet page) := of_none rfl
theorem oppointSet (page : Fin 521) : Statement (.oppointSet page) := of_none rfl
theorem thermalSet (page : Fin 521) : Statement (.thermalSet page) := of_none rfl
theorem thermalRelease (page : Fin 521) : Statement (.thermalRelease page) := of_none rfl
theorem stackFence (page : Fin 521) : Statement (.stackFence page) := of_none rfl
theorem stackFenceClear (page : Fin 521) : Statement (.stackFenceClear page) := of_none rfl
theorem calibSet (page : Fin 521) : Statement (.calibSet page) := of_none rfl
theorem calExport (page : Fin 521) : Statement (.calExport page) := of_none rfl
theorem calImport (page : Fin 521) : Statement (.calImport page) := of_none rfl
theorem calRetrain (page : Fin 521) : Statement (.calRetrain page) := of_none rfl
theorem calBaseline (page : Fin 521) : Statement (.calBaseline page) := of_none rfl
theorem hostSet (page : Fin 521) : Statement (.hostSet page) := of_none rfl
theorem tenantAssign (page : Fin 521) : Statement (.tenantAssign page) := of_none rfl
theorem ownerHandover (page : Fin 521) : Statement (.ownerHandover page) := of_none rfl
theorem ownerAccept (page : Fin 521) : Statement (.ownerAccept page) := of_none rfl
theorem adopt (page : Fin 521) : Statement (.adopt page) := of_none rfl
theorem cntAllowUmap (page : Fin 521) : Statement (.cntAllowUmap page) := of_none rfl
theorem cntRevokeUmap (page : Fin 521) : Statement (.cntRevokeUmap page) := of_none rfl
theorem cntArmSampling (page : Fin 521) : Statement (.cntArmSampling page) := of_none rfl
theorem cntDisarmSampling (page : Fin 521) : Statement (.cntDisarmSampling page) := of_none rfl
theorem energyRead (page : Fin 521) : Statement (.energyRead page) := of_none rfl
theorem subscribeAdd (page : Fin 521) : Statement (.subscribeAdd page) := of_none rfl
theorem subscribeRemove (page : Fin 521) : Statement (.subscribeRemove page) := of_none rfl
theorem fwStage (page : Fin 521) (signed : Bool) : Statement (.fwStage page signed) := of_none rfl
theorem fwActivate (page : Fin 521) : Statement (.fwActivate page) := of_none rfl
theorem faultInjectFlipOne (page : Fin 521) : Statement (.faultInjectFlipOne page) := of_none rfl
theorem faultInjectFlipTwo (page : Fin 521) : Statement (.faultInjectFlipTwo page) := of_none rfl
theorem faultInjectStain (page : Fin 521) : Statement (.faultInjectStain page) := of_none rfl
theorem faultInjectTempOffset (page : Fin 521) : Statement (.faultInjectTempOffset page) := of_none rfl
theorem faultInjectWithholdAck (page : Fin 521) : Statement (.faultInjectWithholdAck page) := of_none rfl
theorem faultInjectHeaderParity (page : Fin 521) : Statement (.faultInjectHeaderParity page) := of_none rfl
theorem faultInjectHostLost (page : Fin 521) : Statement (.faultInjectHostLost page) := of_none rfl
theorem dbgIssueCode (page : Fin 521) : Statement (.dbgIssueCode page) := of_none rfl
theorem dbgGrantRights (page : Fin 521) : Statement (.dbgGrantRights page) := of_none rfl
theorem dbgRevokeRights (page : Fin 521) : Statement (.dbgRevokeRights page) := of_none rfl
theorem dbgUnlock (page : Fin 521) : Statement (.dbgUnlock page) := of_none rfl
theorem dbgResume (page : Fin 521) : Statement (.dbgResume page) := of_none rfl
theorem swrstStack (src : Fin 16) (v : BitVec 32) : Statement (.swrstStack src v) := of_none rfl
theorem swrstLake (src : Fin 16) (v : BitVec 32) : Statement (.swrstLake src v) := of_none rfl
theorem swrstXbar (src : Fin 16) (v : BitVec 32) : Statement (.swrstXbar src v) := of_none rfl
theorem swrstMordant (src : Fin 16) (v : BitVec 32) : Statement (.swrstMordant src v) := of_none rfl
theorem swrstTrace (src : Fin 16) (v : BitVec 32) : Statement (.swrstTrace src v) := of_none rfl
theorem hostrstCore (src : Fin 16) (v : BitVec 32) : Statement (.hostrstCore src v) := of_none rfl
theorem tbSnap (src : Fin 16) (v : BitVec 32) : Statement (.tbSnap src v) := of_none rfl
theorem ringRdWrite (ring : Fin 3) (src : Fin 16) (v : BitVec 32) : Statement (.ringRdWrite ring src v) := of_none rfl
theorem ringApSelWrite (src : Fin 16) (v : BitVec 32) : Statement (.ringApSelWrite src v) := of_none rfl
theorem scanCtlStart (src : Fin 16) (v : BitVec 32) : Statement (.scanCtlStart src v) := of_none rfl
theorem registerWrite (src : Fin 16) (off : BitVec 25) (v : BitVec 32) : Statement (.registerWrite src off v) := of_none rfl
theorem caParityError (c : Fin 512) : Statement (.caParityError c) := of_none rfl
theorem droopEnd (k : Fin 16) (cycles : Fin 65) : Statement (.droopEnd k cycles) := of_none rfl
theorem timebaseErrorLimit (nt : NetTime) : Statement (.timebaseErrorLimit nt) := of_none rfl
theorem loWordRead (src : Fin 16) (off : BitVec 25) : Statement (.loWordRead src off) := of_none rfl

end Sys2Proof.Laws.WellSized
end

