-- ==== Sys2Proof/Laws/State.lean ====
section
/-! SUPPORT. What the updates of the state leave in each of its fields, and what its accessors read after them. -/

namespace Sys2Proof.Machine

/-! ## One lemma for each field and update -/

section setPort
variable (s : State) (k : Nat) (x : Port)
@[simp] theorem State.setPort_clk : (s.setPort k x).clk = s.clk := rfl
@[simp] theorem State.setPort_pins : (s.setPort k x).pins = s.pins := rfl
@[simp] theorem State.setPort_boot : (s.setPort k x).boot = s.boot := rfl
@[simp] theorem State.setPort_bank : (s.setPort k x).bank = s.bank := rfl
@[simp] theorem State.setPort_sets : (s.setPort k x).sets = s.sets := rfl
@[simp] theorem State.setPort_ports : (s.setPort k x).ports = Tab.set Port.reset s.ports k x := rfl
@[simp] theorem State.setPort_aff : (s.setPort k x).aff = s.aff := rfl
@[simp] theorem State.setPort_reqs : (s.setPort k x).reqs = s.reqs := rfl
@[simp] theorem State.setPort_parts : (s.setPort k x).parts = s.parts := rfl
@[simp] theorem State.setPort_nextId : (s.setPort k x).nextId = s.nextId := rfl
@[simp] theorem State.setPort_leaves : (s.setPort k x).leaves = s.leaves := rfl
@[simp] theorem State.setPort_prots : (s.setPort k x).prots = s.prots := rfl
@[simp] theorem State.setPort_cares : (s.setPort k x).cares = s.cares := rfl
@[simp] theorem State.setPort_arbs : (s.setPort k x).arbs = s.arbs := rfl
@[simp] theorem State.setPort_sclk : (s.setPort k x).sclk = s.sclk := rfl
@[simp] theorem State.setPort_heat : (s.setPort k x).heat = s.heat := rfl
@[simp] theorem State.setPort_power : (s.setPort k x).power = s.power := rfl
@[simp] theorem State.setPort_supply : (s.setPort k x).supply = s.supply := rfl
@[simp] theorem State.setPort_chans : (s.setPort k x).chans = s.chans := rfl
@[simp] theorem State.setPort_drrs : (s.setPort k x).drrs = s.drrs := rfl
@[simp] theorem State.setPort_markers : (s.setPort k x).markers = s.markers := rfl
@[simp] theorem State.setPort_debts : (s.setPort k x).debts = s.debts := rfl
@[simp] theorem State.setPort_lake : (s.setPort k x).lake = s.lake := rfl
@[simp] theorem State.setPort_feeders : (s.setPort k x).feeders = s.feeders := rfl
@[simp] theorem State.setPort_pages : (s.setPort k x).pages = s.pages := rfl
@[simp] theorem State.setPort_serviceq : (s.setPort k x).serviceq = s.serviceq := rfl
@[simp] theorem State.setPort_tickets : (s.setPort k x).tickets = s.tickets := rfl
@[simp] theorem State.setPort_hosts : (s.setPort k x).hosts = s.hosts := rfl
@[simp] theorem State.setPort_tenants : (s.setPort k x).tenants = s.tenants := rfl
@[simp] theorem State.setPort_cnt : (s.setPort k x).cnt = s.cnt := rfl
@[simp] theorem State.setPort_trace : (s.setPort k x).trace = s.trace := rfl
@[simp] theorem State.setPort_regs : (s.setPort k x).regs = s.regs := rfl
@[simp] theorem State.setPort_stores : (s.setPort k x).stores = s.stores := rfl
@[simp] theorem State.setPort_idle : (s.setPort k x).idle = s.idle := rfl
@[simp] theorem State.setPort_xfer : (s.setPort k x).xfer = s.xfer := rfl
@[simp] theorem State.setPort_hostMem : (s.setPort k x).hostMem = s.hostMem := rfl
@[simp] theorem State.setPort_mem : (s.setPort k x).mem = s.mem := rfl
@[simp] theorem State.setPort_chk : (s.setPort k x).chk = s.chk := rfl
@[simp] theorem State.setPort_freeCount : (s.setPort k x).freeCount = s.freeCount := rfl
@[simp] theorem State.setPort_pending : (s.setPort k x).pending = s.pending := rfl
end setPort

section setLeaf
variable (s : State) (k : Nat) (x : Leaf)
@[simp] theorem State.setLeaf_clk : (s.setLeaf k x).clk = s.clk := rfl
@[simp] theorem State.setLeaf_pins : (s.setLeaf k x).pins = s.pins := rfl
@[simp] theorem State.setLeaf_boot : (s.setLeaf k x).boot = s.boot := rfl
@[simp] theorem State.setLeaf_bank : (s.setLeaf k x).bank = s.bank := rfl
@[simp] theorem State.setLeaf_sets : (s.setLeaf k x).sets = s.sets := rfl
@[simp] theorem State.setLeaf_ports : (s.setLeaf k x).ports = s.ports := rfl
@[simp] theorem State.setLeaf_aff : (s.setLeaf k x).aff = s.aff := rfl
@[simp] theorem State.setLeaf_reqs : (s.setLeaf k x).reqs = s.reqs := rfl
@[simp] theorem State.setLeaf_parts : (s.setLeaf k x).parts = s.parts := rfl
@[simp] theorem State.setLeaf_nextId : (s.setLeaf k x).nextId = s.nextId := rfl
@[simp] theorem State.setLeaf_leaves : (s.setLeaf k x).leaves = Tab.set Leaf.reset s.leaves k x := rfl
@[simp] theorem State.setLeaf_prots : (s.setLeaf k x).prots = s.prots := rfl
@[simp] theorem State.setLeaf_cares : (s.setLeaf k x).cares = s.cares := rfl
@[simp] theorem State.setLeaf_arbs : (s.setLeaf k x).arbs = s.arbs := rfl
@[simp] theorem State.setLeaf_sclk : (s.setLeaf k x).sclk = s.sclk := rfl
@[simp] theorem State.setLeaf_heat : (s.setLeaf k x).heat = s.heat := rfl
@[simp] theorem State.setLeaf_power : (s.setLeaf k x).power = s.power := rfl
@[simp] theorem State.setLeaf_supply : (s.setLeaf k x).supply = s.supply := rfl
@[simp] theorem State.setLeaf_chans : (s.setLeaf k x).chans = s.chans := rfl
@[simp] theorem State.setLeaf_drrs : (s.setLeaf k x).drrs = s.drrs := rfl
@[simp] theorem State.setLeaf_markers : (s.setLeaf k x).markers = s.markers := rfl
@[simp] theorem State.setLeaf_debts : (s.setLeaf k x).debts = s.debts := rfl
@[simp] theorem State.setLeaf_lake : (s.setLeaf k x).lake = s.lake := rfl
@[simp] theorem State.setLeaf_feeders : (s.setLeaf k x).feeders = s.feeders := rfl
@[simp] theorem State.setLeaf_pages : (s.setLeaf k x).pages = s.pages := rfl
@[simp] theorem State.setLeaf_serviceq : (s.setLeaf k x).serviceq = s.serviceq := rfl
@[simp] theorem State.setLeaf_tickets : (s.setLeaf k x).tickets = s.tickets := rfl
@[simp] theorem State.setLeaf_hosts : (s.setLeaf k x).hosts = s.hosts := rfl
@[simp] theorem State.setLeaf_tenants : (s.setLeaf k x).tenants = s.tenants := rfl
@[simp] theorem State.setLeaf_cnt : (s.setLeaf k x).cnt = s.cnt := rfl
@[simp] theorem State.setLeaf_trace : (s.setLeaf k x).trace = s.trace := rfl
@[simp] theorem State.setLeaf_regs : (s.setLeaf k x).regs = s.regs := rfl
@[simp] theorem State.setLeaf_stores : (s.setLeaf k x).stores = s.stores := rfl
@[simp] theorem State.setLeaf_idle : (s.setLeaf k x).idle = s.idle := rfl
@[simp] theorem State.setLeaf_xfer : (s.setLeaf k x).xfer = s.xfer := rfl
@[simp] theorem State.setLeaf_hostMem : (s.setLeaf k x).hostMem = s.hostMem := rfl
@[simp] theorem State.setLeaf_mem : (s.setLeaf k x).mem = s.mem := rfl
@[simp] theorem State.setLeaf_chk : (s.setLeaf k x).chk = s.chk := rfl
@[simp] theorem State.setLeaf_freeCount : (s.setLeaf k x).freeCount = s.freeCount := rfl
@[simp] theorem State.setLeaf_pending : (s.setLeaf k x).pending = s.pending := rfl
end setLeaf

section setProt
variable (s : State) (k : Nat) (x : RowProt)
@[simp] theorem State.setProt_clk : (s.setProt k x).clk = s.clk := rfl
@[simp] theorem State.setProt_pins : (s.setProt k x).pins = s.pins := rfl
@[simp] theorem State.setProt_boot : (s.setProt k x).boot = s.boot := rfl
@[simp] theorem State.setProt_bank : (s.setProt k x).bank = s.bank := rfl
@[simp] theorem State.setProt_sets : (s.setProt k x).sets = s.sets := rfl
@[simp] theorem State.setProt_ports : (s.setProt k x).ports = s.ports := rfl
@[simp] theorem State.setProt_aff : (s.setProt k x).aff = s.aff := rfl
@[simp] theorem State.setProt_reqs : (s.setProt k x).reqs = s.reqs := rfl
@[simp] theorem State.setProt_parts : (s.setProt k x).parts = s.parts := rfl
@[simp] theorem State.setProt_nextId : (s.setProt k x).nextId = s.nextId := rfl
@[simp] theorem State.setProt_leaves : (s.setProt k x).leaves = s.leaves := rfl
@[simp] theorem State.setProt_prots : (s.setProt k x).prots = Tab.set RowProt.reset s.prots k x := rfl
@[simp] theorem State.setProt_cares : (s.setProt k x).cares = s.cares := rfl
@[simp] theorem State.setProt_arbs : (s.setProt k x).arbs = s.arbs := rfl
@[simp] theorem State.setProt_sclk : (s.setProt k x).sclk = s.sclk := rfl
@[simp] theorem State.setProt_heat : (s.setProt k x).heat = s.heat := rfl
@[simp] theorem State.setProt_power : (s.setProt k x).power = s.power := rfl
@[simp] theorem State.setProt_supply : (s.setProt k x).supply = s.supply := rfl
@[simp] theorem State.setProt_chans : (s.setProt k x).chans = s.chans := rfl
@[simp] theorem State.setProt_drrs : (s.setProt k x).drrs = s.drrs := rfl
@[simp] theorem State.setProt_markers : (s.setProt k x).markers = s.markers := rfl
@[simp] theorem State.setProt_debts : (s.setProt k x).debts = s.debts := rfl
@[simp] theorem State.setProt_lake : (s.setProt k x).lake = s.lake := rfl
@[simp] theorem State.setProt_feeders : (s.setProt k x).feeders = s.feeders := rfl
@[simp] theorem State.setProt_pages : (s.setProt k x).pages = s.pages := rfl
@[simp] theorem State.setProt_serviceq : (s.setProt k x).serviceq = s.serviceq := rfl
@[simp] theorem State.setProt_tickets : (s.setProt k x).tickets = s.tickets := rfl
@[simp] theorem State.setProt_hosts : (s.setProt k x).hosts = s.hosts := rfl
@[simp] theorem State.setProt_tenants : (s.setProt k x).tenants = s.tenants := rfl
@[simp] theorem State.setProt_cnt : (s.setProt k x).cnt = s.cnt := rfl
@[simp] theorem State.setProt_trace : (s.setProt k x).trace = s.trace := rfl
@[simp] theorem State.setProt_regs : (s.setProt k x).regs = s.regs := rfl
@[simp] theorem State.setProt_stores : (s.setProt k x).stores = s.stores := rfl
@[simp] theorem State.setProt_idle : (s.setProt k x).idle = s.idle := rfl
@[simp] theorem State.setProt_xfer : (s.setProt k x).xfer = s.xfer := rfl
@[simp] theorem State.setProt_hostMem : (s.setProt k x).hostMem = s.hostMem := rfl
@[simp] theorem State.setProt_mem : (s.setProt k x).mem = s.mem := rfl
@[simp] theorem State.setProt_chk : (s.setProt k x).chk = s.chk := rfl
@[simp] theorem State.setProt_freeCount : (s.setProt k x).freeCount = s.freeCount := rfl
@[simp] theorem State.setProt_pending : (s.setProt k x).pending = s.pending := rfl
end setProt

section setCare
variable (s : State) (k : Nat) (x : Care)
@[simp] theorem State.setCare_clk : (s.setCare k x).clk = s.clk := rfl
@[simp] theorem State.setCare_pins : (s.setCare k x).pins = s.pins := rfl
@[simp] theorem State.setCare_boot : (s.setCare k x).boot = s.boot := rfl
@[simp] theorem State.setCare_bank : (s.setCare k x).bank = s.bank := rfl
@[simp] theorem State.setCare_sets : (s.setCare k x).sets = s.sets := rfl
@[simp] theorem State.setCare_ports : (s.setCare k x).ports = s.ports := rfl
@[simp] theorem State.setCare_aff : (s.setCare k x).aff = s.aff := rfl
@[simp] theorem State.setCare_reqs : (s.setCare k x).reqs = s.reqs := rfl
@[simp] theorem State.setCare_parts : (s.setCare k x).parts = s.parts := rfl
@[simp] theorem State.setCare_nextId : (s.setCare k x).nextId = s.nextId := rfl
@[simp] theorem State.setCare_leaves : (s.setCare k x).leaves = s.leaves := rfl
@[simp] theorem State.setCare_prots : (s.setCare k x).prots = s.prots := rfl
@[simp] theorem State.setCare_cares : (s.setCare k x).cares = Tab.set Care.reset s.cares k x := rfl
@[simp] theorem State.setCare_arbs : (s.setCare k x).arbs = s.arbs := rfl
@[simp] theorem State.setCare_sclk : (s.setCare k x).sclk = s.sclk := rfl
@[simp] theorem State.setCare_heat : (s.setCare k x).heat = s.heat := rfl
@[simp] theorem State.setCare_power : (s.setCare k x).power = s.power := rfl
@[simp] theorem State.setCare_supply : (s.setCare k x).supply = s.supply := rfl
@[simp] theorem State.setCare_chans : (s.setCare k x).chans = s.chans := rfl
@[simp] theorem State.setCare_drrs : (s.setCare k x).drrs = s.drrs := rfl
@[simp] theorem State.setCare_markers : (s.setCare k x).markers = s.markers := rfl
@[simp] theorem State.setCare_debts : (s.setCare k x).debts = s.debts := rfl
@[simp] theorem State.setCare_lake : (s.setCare k x).lake = s.lake := rfl
@[simp] theorem State.setCare_feeders : (s.setCare k x).feeders = s.feeders := rfl
@[simp] theorem State.setCare_pages : (s.setCare k x).pages = s.pages := rfl
@[simp] theorem State.setCare_serviceq : (s.setCare k x).serviceq = s.serviceq := rfl
@[simp] theorem State.setCare_tickets : (s.setCare k x).tickets = s.tickets := rfl
@[simp] theorem State.setCare_hosts : (s.setCare k x).hosts = s.hosts := rfl
@[simp] theorem State.setCare_tenants : (s.setCare k x).tenants = s.tenants := rfl
@[simp] theorem State.setCare_cnt : (s.setCare k x).cnt = s.cnt := rfl
@[simp] theorem State.setCare_trace : (s.setCare k x).trace = s.trace := rfl
@[simp] theorem State.setCare_regs : (s.setCare k x).regs = s.regs := rfl
@[simp] theorem State.setCare_stores : (s.setCare k x).stores = s.stores := rfl
@[simp] theorem State.setCare_idle : (s.setCare k x).idle = s.idle := rfl
@[simp] theorem State.setCare_xfer : (s.setCare k x).xfer = s.xfer := rfl
@[simp] theorem State.setCare_hostMem : (s.setCare k x).hostMem = s.hostMem := rfl
@[simp] theorem State.setCare_mem : (s.setCare k x).mem = s.mem := rfl
@[simp] theorem State.setCare_chk : (s.setCare k x).chk = s.chk := rfl
@[simp] theorem State.setCare_freeCount : (s.setCare k x).freeCount = s.freeCount := rfl
@[simp] theorem State.setCare_pending : (s.setCare k x).pending = s.pending := rfl
end setCare

section setArb
variable (s : State) (k : Nat) (x : Arb)
@[simp] theorem State.setArb_clk : (s.setArb k x).clk = s.clk := rfl
@[simp] theorem State.setArb_pins : (s.setArb k x).pins = s.pins := rfl
@[simp] theorem State.setArb_boot : (s.setArb k x).boot = s.boot := rfl
@[simp] theorem State.setArb_bank : (s.setArb k x).bank = s.bank := rfl
@[simp] theorem State.setArb_sets : (s.setArb k x).sets = s.sets := rfl
@[simp] theorem State.setArb_ports : (s.setArb k x).ports = s.ports := rfl
@[simp] theorem State.setArb_aff : (s.setArb k x).aff = s.aff := rfl
@[simp] theorem State.setArb_reqs : (s.setArb k x).reqs = s.reqs := rfl
@[simp] theorem State.setArb_parts : (s.setArb k x).parts = s.parts := rfl
@[simp] theorem State.setArb_nextId : (s.setArb k x).nextId = s.nextId := rfl
@[simp] theorem State.setArb_leaves : (s.setArb k x).leaves = s.leaves := rfl
@[simp] theorem State.setArb_prots : (s.setArb k x).prots = s.prots := rfl
@[simp] theorem State.setArb_cares : (s.setArb k x).cares = s.cares := rfl
@[simp] theorem State.setArb_arbs : (s.setArb k x).arbs = Tab.set Arb.reset s.arbs k x := rfl
@[simp] theorem State.setArb_sclk : (s.setArb k x).sclk = s.sclk := rfl
@[simp] theorem State.setArb_heat : (s.setArb k x).heat = s.heat := rfl
@[simp] theorem State.setArb_power : (s.setArb k x).power = s.power := rfl
@[simp] theorem State.setArb_supply : (s.setArb k x).supply = s.supply := rfl
@[simp] theorem State.setArb_chans : (s.setArb k x).chans = s.chans := rfl
@[simp] theorem State.setArb_drrs : (s.setArb k x).drrs = s.drrs := rfl
@[simp] theorem State.setArb_markers : (s.setArb k x).markers = s.markers := rfl
@[simp] theorem State.setArb_debts : (s.setArb k x).debts = s.debts := rfl
@[simp] theorem State.setArb_lake : (s.setArb k x).lake = s.lake := rfl
@[simp] theorem State.setArb_feeders : (s.setArb k x).feeders = s.feeders := rfl
@[simp] theorem State.setArb_pages : (s.setArb k x).pages = s.pages := rfl
@[simp] theorem State.setArb_serviceq : (s.setArb k x).serviceq = s.serviceq := rfl
@[simp] theorem State.setArb_tickets : (s.setArb k x).tickets = s.tickets := rfl
@[simp] theorem State.setArb_hosts : (s.setArb k x).hosts = s.hosts := rfl
@[simp] theorem State.setArb_tenants : (s.setArb k x).tenants = s.tenants := rfl
@[simp] theorem State.setArb_cnt : (s.setArb k x).cnt = s.cnt := rfl
@[simp] theorem State.setArb_trace : (s.setArb k x).trace = s.trace := rfl
@[simp] theorem State.setArb_regs : (s.setArb k x).regs = s.regs := rfl
@[simp] theorem State.setArb_stores : (s.setArb k x).stores = s.stores := rfl
@[simp] theorem State.setArb_idle : (s.setArb k x).idle = s.idle := rfl
@[simp] theorem State.setArb_xfer : (s.setArb k x).xfer = s.xfer := rfl
@[simp] theorem State.setArb_hostMem : (s.setArb k x).hostMem = s.hostMem := rfl
@[simp] theorem State.setArb_mem : (s.setArb k x).mem = s.mem := rfl
@[simp] theorem State.setArb_chk : (s.setArb k x).chk = s.chk := rfl
@[simp] theorem State.setArb_freeCount : (s.setArb k x).freeCount = s.freeCount := rfl
@[simp] theorem State.setArb_pending : (s.setArb k x).pending = s.pending := rfl
end setArb

section setSck
variable (s : State) (k : Nat) (x : StackClk)
@[simp] theorem State.setSck_clk : (s.setSck k x).clk = s.clk := rfl
@[simp] theorem State.setSck_pins : (s.setSck k x).pins = s.pins := rfl
@[simp] theorem State.setSck_boot : (s.setSck k x).boot = s.boot := rfl
@[simp] theorem State.setSck_bank : (s.setSck k x).bank = s.bank := rfl
@[simp] theorem State.setSck_sets : (s.setSck k x).sets = s.sets := rfl
@[simp] theorem State.setSck_ports : (s.setSck k x).ports = s.ports := rfl
@[simp] theorem State.setSck_aff : (s.setSck k x).aff = s.aff := rfl
@[simp] theorem State.setSck_reqs : (s.setSck k x).reqs = s.reqs := rfl
@[simp] theorem State.setSck_parts : (s.setSck k x).parts = s.parts := rfl
@[simp] theorem State.setSck_nextId : (s.setSck k x).nextId = s.nextId := rfl
@[simp] theorem State.setSck_leaves : (s.setSck k x).leaves = s.leaves := rfl
@[simp] theorem State.setSck_prots : (s.setSck k x).prots = s.prots := rfl
@[simp] theorem State.setSck_cares : (s.setSck k x).cares = s.cares := rfl
@[simp] theorem State.setSck_arbs : (s.setSck k x).arbs = s.arbs := rfl
@[simp] theorem State.setSck_sclk : (s.setSck k x).sclk = Tab.set StackClk.reset s.sclk k x := rfl
@[simp] theorem State.setSck_heat : (s.setSck k x).heat = s.heat := rfl
@[simp] theorem State.setSck_power : (s.setSck k x).power = s.power := rfl
@[simp] theorem State.setSck_supply : (s.setSck k x).supply = s.supply := rfl
@[simp] theorem State.setSck_chans : (s.setSck k x).chans = s.chans := rfl
@[simp] theorem State.setSck_drrs : (s.setSck k x).drrs = s.drrs := rfl
@[simp] theorem State.setSck_markers : (s.setSck k x).markers = s.markers := rfl
@[simp] theorem State.setSck_debts : (s.setSck k x).debts = s.debts := rfl
@[simp] theorem State.setSck_lake : (s.setSck k x).lake = s.lake := rfl
@[simp] theorem State.setSck_feeders : (s.setSck k x).feeders = s.feeders := rfl
@[simp] theorem State.setSck_pages : (s.setSck k x).pages = s.pages := rfl
@[simp] theorem State.setSck_serviceq : (s.setSck k x).serviceq = s.serviceq := rfl
@[simp] theorem State.setSck_tickets : (s.setSck k x).tickets = s.tickets := rfl
@[simp] theorem State.setSck_hosts : (s.setSck k x).hosts = s.hosts := rfl
@[simp] theorem State.setSck_tenants : (s.setSck k x).tenants = s.tenants := rfl
@[simp] theorem State.setSck_cnt : (s.setSck k x).cnt = s.cnt := rfl
@[simp] theorem State.setSck_trace : (s.setSck k x).trace = s.trace := rfl
@[simp] theorem State.setSck_regs : (s.setSck k x).regs = s.regs := rfl
@[simp] theorem State.setSck_stores : (s.setSck k x).stores = s.stores := rfl
@[simp] theorem State.setSck_idle : (s.setSck k x).idle = s.idle := rfl
@[simp] theorem State.setSck_xfer : (s.setSck k x).xfer = s.xfer := rfl
@[simp] theorem State.setSck_hostMem : (s.setSck k x).hostMem = s.hostMem := rfl
@[simp] theorem State.setSck_mem : (s.setSck k x).mem = s.mem := rfl
@[simp] theorem State.setSck_chk : (s.setSck k x).chk = s.chk := rfl
@[simp] theorem State.setSck_freeCount : (s.setSck k x).freeCount = s.freeCount := rfl
@[simp] theorem State.setSck_pending : (s.setSck k x).pending = s.pending := rfl
end setSck

section setHeat
variable (s : State) (k : Nat) (x : Heat)
@[simp] theorem State.setHeat_clk : (s.setHeat k x).clk = s.clk := rfl
@[simp] theorem State.setHeat_pins : (s.setHeat k x).pins = s.pins := rfl
@[simp] theorem State.setHeat_boot : (s.setHeat k x).boot = s.boot := rfl
@[simp] theorem State.setHeat_bank : (s.setHeat k x).bank = s.bank := rfl
@[simp] theorem State.setHeat_sets : (s.setHeat k x).sets = s.sets := rfl
@[simp] theorem State.setHeat_ports : (s.setHeat k x).ports = s.ports := rfl
@[simp] theorem State.setHeat_aff : (s.setHeat k x).aff = s.aff := rfl
@[simp] theorem State.setHeat_reqs : (s.setHeat k x).reqs = s.reqs := rfl
@[simp] theorem State.setHeat_parts : (s.setHeat k x).parts = s.parts := rfl
@[simp] theorem State.setHeat_nextId : (s.setHeat k x).nextId = s.nextId := rfl
@[simp] theorem State.setHeat_leaves : (s.setHeat k x).leaves = s.leaves := rfl
@[simp] theorem State.setHeat_prots : (s.setHeat k x).prots = s.prots := rfl
@[simp] theorem State.setHeat_cares : (s.setHeat k x).cares = s.cares := rfl
@[simp] theorem State.setHeat_arbs : (s.setHeat k x).arbs = s.arbs := rfl
@[simp] theorem State.setHeat_sclk : (s.setHeat k x).sclk = s.sclk := rfl
@[simp] theorem State.setHeat_heat : (s.setHeat k x).heat = Tab.set Heat.reset s.heat k x := rfl
@[simp] theorem State.setHeat_power : (s.setHeat k x).power = s.power := rfl
@[simp] theorem State.setHeat_supply : (s.setHeat k x).supply = s.supply := rfl
@[simp] theorem State.setHeat_chans : (s.setHeat k x).chans = s.chans := rfl
@[simp] theorem State.setHeat_drrs : (s.setHeat k x).drrs = s.drrs := rfl
@[simp] theorem State.setHeat_markers : (s.setHeat k x).markers = s.markers := rfl
@[simp] theorem State.setHeat_debts : (s.setHeat k x).debts = s.debts := rfl
@[simp] theorem State.setHeat_lake : (s.setHeat k x).lake = s.lake := rfl
@[simp] theorem State.setHeat_feeders : (s.setHeat k x).feeders = s.feeders := rfl
@[simp] theorem State.setHeat_pages : (s.setHeat k x).pages = s.pages := rfl
@[simp] theorem State.setHeat_serviceq : (s.setHeat k x).serviceq = s.serviceq := rfl
@[simp] theorem State.setHeat_tickets : (s.setHeat k x).tickets = s.tickets := rfl
@[simp] theorem State.setHeat_hosts : (s.setHeat k x).hosts = s.hosts := rfl
@[simp] theorem State.setHeat_tenants : (s.setHeat k x).tenants = s.tenants := rfl
@[simp] theorem State.setHeat_cnt : (s.setHeat k x).cnt = s.cnt := rfl
@[simp] theorem State.setHeat_trace : (s.setHeat k x).trace = s.trace := rfl
@[simp] theorem State.setHeat_regs : (s.setHeat k x).regs = s.regs := rfl
@[simp] theorem State.setHeat_stores : (s.setHeat k x).stores = s.stores := rfl
@[simp] theorem State.setHeat_idle : (s.setHeat k x).idle = s.idle := rfl
@[simp] theorem State.setHeat_xfer : (s.setHeat k x).xfer = s.xfer := rfl
@[simp] theorem State.setHeat_hostMem : (s.setHeat k x).hostMem = s.hostMem := rfl
@[simp] theorem State.setHeat_mem : (s.setHeat k x).mem = s.mem := rfl
@[simp] theorem State.setHeat_chk : (s.setHeat k x).chk = s.chk := rfl
@[simp] theorem State.setHeat_freeCount : (s.setHeat k x).freeCount = s.freeCount := rfl
@[simp] theorem State.setHeat_pending : (s.setHeat k x).pending = s.pending := rfl
end setHeat

section setPow
variable (s : State) (k : Nat) (x : Power)
@[simp] theorem State.setPow_clk : (s.setPow k x).clk = s.clk := rfl
@[simp] theorem State.setPow_pins : (s.setPow k x).pins = s.pins := rfl
@[simp] theorem State.setPow_boot : (s.setPow k x).boot = s.boot := rfl
@[simp] theorem State.setPow_bank : (s.setPow k x).bank = s.bank := rfl
@[simp] theorem State.setPow_sets : (s.setPow k x).sets = s.sets := rfl
@[simp] theorem State.setPow_ports : (s.setPow k x).ports = s.ports := rfl
@[simp] theorem State.setPow_aff : (s.setPow k x).aff = s.aff := rfl
@[simp] theorem State.setPow_reqs : (s.setPow k x).reqs = s.reqs := rfl
@[simp] theorem State.setPow_parts : (s.setPow k x).parts = s.parts := rfl
@[simp] theorem State.setPow_nextId : (s.setPow k x).nextId = s.nextId := rfl
@[simp] theorem State.setPow_leaves : (s.setPow k x).leaves = s.leaves := rfl
@[simp] theorem State.setPow_prots : (s.setPow k x).prots = s.prots := rfl
@[simp] theorem State.setPow_cares : (s.setPow k x).cares = s.cares := rfl
@[simp] theorem State.setPow_arbs : (s.setPow k x).arbs = s.arbs := rfl
@[simp] theorem State.setPow_sclk : (s.setPow k x).sclk = s.sclk := rfl
@[simp] theorem State.setPow_heat : (s.setPow k x).heat = s.heat := rfl
@[simp] theorem State.setPow_power : (s.setPow k x).power = Tab.set Power.reset s.power k x := rfl
@[simp] theorem State.setPow_supply : (s.setPow k x).supply = s.supply := rfl
@[simp] theorem State.setPow_chans : (s.setPow k x).chans = s.chans := rfl
@[simp] theorem State.setPow_drrs : (s.setPow k x).drrs = s.drrs := rfl
@[simp] theorem State.setPow_markers : (s.setPow k x).markers = s.markers := rfl
@[simp] theorem State.setPow_debts : (s.setPow k x).debts = s.debts := rfl
@[simp] theorem State.setPow_lake : (s.setPow k x).lake = s.lake := rfl
@[simp] theorem State.setPow_feeders : (s.setPow k x).feeders = s.feeders := rfl
@[simp] theorem State.setPow_pages : (s.setPow k x).pages = s.pages := rfl
@[simp] theorem State.setPow_serviceq : (s.setPow k x).serviceq = s.serviceq := rfl
@[simp] theorem State.setPow_tickets : (s.setPow k x).tickets = s.tickets := rfl
@[simp] theorem State.setPow_hosts : (s.setPow k x).hosts = s.hosts := rfl
@[simp] theorem State.setPow_tenants : (s.setPow k x).tenants = s.tenants := rfl
@[simp] theorem State.setPow_cnt : (s.setPow k x).cnt = s.cnt := rfl
@[simp] theorem State.setPow_trace : (s.setPow k x).trace = s.trace := rfl
@[simp] theorem State.setPow_regs : (s.setPow k x).regs = s.regs := rfl
@[simp] theorem State.setPow_stores : (s.setPow k x).stores = s.stores := rfl
@[simp] theorem State.setPow_idle : (s.setPow k x).idle = s.idle := rfl
@[simp] theorem State.setPow_xfer : (s.setPow k x).xfer = s.xfer := rfl
@[simp] theorem State.setPow_hostMem : (s.setPow k x).hostMem = s.hostMem := rfl
@[simp] theorem State.setPow_mem : (s.setPow k x).mem = s.mem := rfl
@[simp] theorem State.setPow_chk : (s.setPow k x).chk = s.chk := rfl
@[simp] theorem State.setPow_freeCount : (s.setPow k x).freeCount = s.freeCount := rfl
@[simp] theorem State.setPow_pending : (s.setPow k x).pending = s.pending := rfl
end setPow

section setSup
variable (s : State) (k : Nat) (x : Supply)
@[simp] theorem State.setSup_clk : (s.setSup k x).clk = s.clk := rfl
@[simp] theorem State.setSup_pins : (s.setSup k x).pins = s.pins := rfl
@[simp] theorem State.setSup_boot : (s.setSup k x).boot = s.boot := rfl
@[simp] theorem State.setSup_bank : (s.setSup k x).bank = s.bank := rfl
@[simp] theorem State.setSup_sets : (s.setSup k x).sets = s.sets := rfl
@[simp] theorem State.setSup_ports : (s.setSup k x).ports = s.ports := rfl
@[simp] theorem State.setSup_aff : (s.setSup k x).aff = s.aff := rfl
@[simp] theorem State.setSup_reqs : (s.setSup k x).reqs = s.reqs := rfl
@[simp] theorem State.setSup_parts : (s.setSup k x).parts = s.parts := rfl
@[simp] theorem State.setSup_nextId : (s.setSup k x).nextId = s.nextId := rfl
@[simp] theorem State.setSup_leaves : (s.setSup k x).leaves = s.leaves := rfl
@[simp] theorem State.setSup_prots : (s.setSup k x).prots = s.prots := rfl
@[simp] theorem State.setSup_cares : (s.setSup k x).cares = s.cares := rfl
@[simp] theorem State.setSup_arbs : (s.setSup k x).arbs = s.arbs := rfl
@[simp] theorem State.setSup_sclk : (s.setSup k x).sclk = s.sclk := rfl
@[simp] theorem State.setSup_heat : (s.setSup k x).heat = s.heat := rfl
@[simp] theorem State.setSup_power : (s.setSup k x).power = s.power := rfl
@[simp] theorem State.setSup_supply : (s.setSup k x).supply = Tab.set Supply.reset s.supply k x := rfl
@[simp] theorem State.setSup_chans : (s.setSup k x).chans = s.chans := rfl
@[simp] theorem State.setSup_drrs : (s.setSup k x).drrs = s.drrs := rfl
@[simp] theorem State.setSup_markers : (s.setSup k x).markers = s.markers := rfl
@[simp] theorem State.setSup_debts : (s.setSup k x).debts = s.debts := rfl
@[simp] theorem State.setSup_lake : (s.setSup k x).lake = s.lake := rfl
@[simp] theorem State.setSup_feeders : (s.setSup k x).feeders = s.feeders := rfl
@[simp] theorem State.setSup_pages : (s.setSup k x).pages = s.pages := rfl
@[simp] theorem State.setSup_serviceq : (s.setSup k x).serviceq = s.serviceq := rfl
@[simp] theorem State.setSup_tickets : (s.setSup k x).tickets = s.tickets := rfl
@[simp] theorem State.setSup_hosts : (s.setSup k x).hosts = s.hosts := rfl
@[simp] theorem State.setSup_tenants : (s.setSup k x).tenants = s.tenants := rfl
@[simp] theorem State.setSup_cnt : (s.setSup k x).cnt = s.cnt := rfl
@[simp] theorem State.setSup_trace : (s.setSup k x).trace = s.trace := rfl
@[simp] theorem State.setSup_regs : (s.setSup k x).regs = s.regs := rfl
@[simp] theorem State.setSup_stores : (s.setSup k x).stores = s.stores := rfl
@[simp] theorem State.setSup_idle : (s.setSup k x).idle = s.idle := rfl
@[simp] theorem State.setSup_xfer : (s.setSup k x).xfer = s.xfer := rfl
@[simp] theorem State.setSup_hostMem : (s.setSup k x).hostMem = s.hostMem := rfl
@[simp] theorem State.setSup_mem : (s.setSup k x).mem = s.mem := rfl
@[simp] theorem State.setSup_chk : (s.setSup k x).chk = s.chk := rfl
@[simp] theorem State.setSup_freeCount : (s.setSup k x).freeCount = s.freeCount := rfl
@[simp] theorem State.setSup_pending : (s.setSup k x).pending = s.pending := rfl
end setSup

section setChan
variable (s : State) (k : Nat) (x : Chan)
@[simp] theorem State.setChan_clk : (s.setChan k x).clk = s.clk := rfl
@[simp] theorem State.setChan_pins : (s.setChan k x).pins = s.pins := rfl
@[simp] theorem State.setChan_boot : (s.setChan k x).boot = s.boot := rfl
@[simp] theorem State.setChan_bank : (s.setChan k x).bank = s.bank := rfl
@[simp] theorem State.setChan_sets : (s.setChan k x).sets = s.sets := rfl
@[simp] theorem State.setChan_ports : (s.setChan k x).ports = s.ports := rfl
@[simp] theorem State.setChan_aff : (s.setChan k x).aff = s.aff := rfl
@[simp] theorem State.setChan_reqs : (s.setChan k x).reqs = s.reqs := rfl
@[simp] theorem State.setChan_parts : (s.setChan k x).parts = s.parts := rfl
@[simp] theorem State.setChan_nextId : (s.setChan k x).nextId = s.nextId := rfl
@[simp] theorem State.setChan_leaves : (s.setChan k x).leaves = s.leaves := rfl
@[simp] theorem State.setChan_prots : (s.setChan k x).prots = s.prots := rfl
@[simp] theorem State.setChan_cares : (s.setChan k x).cares = s.cares := rfl
@[simp] theorem State.setChan_arbs : (s.setChan k x).arbs = s.arbs := rfl
@[simp] theorem State.setChan_sclk : (s.setChan k x).sclk = s.sclk := rfl
@[simp] theorem State.setChan_heat : (s.setChan k x).heat = s.heat := rfl
@[simp] theorem State.setChan_power : (s.setChan k x).power = s.power := rfl
@[simp] theorem State.setChan_supply : (s.setChan k x).supply = s.supply := rfl
@[simp] theorem State.setChan_chans : (s.setChan k x).chans = Tab.set Chan.reset s.chans k x := rfl
@[simp] theorem State.setChan_drrs : (s.setChan k x).drrs = s.drrs := rfl
@[simp] theorem State.setChan_markers : (s.setChan k x).markers = s.markers := rfl
@[simp] theorem State.setChan_debts : (s.setChan k x).debts = s.debts := rfl
@[simp] theorem State.setChan_lake : (s.setChan k x).lake = s.lake := rfl
@[simp] theorem State.setChan_feeders : (s.setChan k x).feeders = s.feeders := rfl
@[simp] theorem State.setChan_pages : (s.setChan k x).pages = s.pages := rfl
@[simp] theorem State.setChan_serviceq : (s.setChan k x).serviceq = s.serviceq := rfl
@[simp] theorem State.setChan_tickets : (s.setChan k x).tickets = s.tickets := rfl
@[simp] theorem State.setChan_hosts : (s.setChan k x).hosts = s.hosts := rfl
@[simp] theorem State.setChan_tenants : (s.setChan k x).tenants = s.tenants := rfl
@[simp] theorem State.setChan_cnt : (s.setChan k x).cnt = s.cnt := rfl
@[simp] theorem State.setChan_trace : (s.setChan k x).trace = s.trace := rfl
@[simp] theorem State.setChan_regs : (s.setChan k x).regs = s.regs := rfl
@[simp] theorem State.setChan_stores : (s.setChan k x).stores = s.stores := rfl
@[simp] theorem State.setChan_idle : (s.setChan k x).idle = s.idle := rfl
@[simp] theorem State.setChan_xfer : (s.setChan k x).xfer = s.xfer := rfl
@[simp] theorem State.setChan_hostMem : (s.setChan k x).hostMem = s.hostMem := rfl
@[simp] theorem State.setChan_mem : (s.setChan k x).mem = s.mem := rfl
@[simp] theorem State.setChan_chk : (s.setChan k x).chk = s.chk := rfl
@[simp] theorem State.setChan_freeCount : (s.setChan k x).freeCount = s.freeCount := rfl
@[simp] theorem State.setChan_pending : (s.setChan k x).pending = s.pending := rfl
end setChan

section setDrr
variable (s : State) (k : Nat) (x : Drr)
@[simp] theorem State.setDrr_clk : (s.setDrr k x).clk = s.clk := rfl
@[simp] theorem State.setDrr_pins : (s.setDrr k x).pins = s.pins := rfl
@[simp] theorem State.setDrr_boot : (s.setDrr k x).boot = s.boot := rfl
@[simp] theorem State.setDrr_bank : (s.setDrr k x).bank = s.bank := rfl
@[simp] theorem State.setDrr_sets : (s.setDrr k x).sets = s.sets := rfl
@[simp] theorem State.setDrr_ports : (s.setDrr k x).ports = s.ports := rfl
@[simp] theorem State.setDrr_aff : (s.setDrr k x).aff = s.aff := rfl
@[simp] theorem State.setDrr_reqs : (s.setDrr k x).reqs = s.reqs := rfl
@[simp] theorem State.setDrr_parts : (s.setDrr k x).parts = s.parts := rfl
@[simp] theorem State.setDrr_nextId : (s.setDrr k x).nextId = s.nextId := rfl
@[simp] theorem State.setDrr_leaves : (s.setDrr k x).leaves = s.leaves := rfl
@[simp] theorem State.setDrr_prots : (s.setDrr k x).prots = s.prots := rfl
@[simp] theorem State.setDrr_cares : (s.setDrr k x).cares = s.cares := rfl
@[simp] theorem State.setDrr_arbs : (s.setDrr k x).arbs = s.arbs := rfl
@[simp] theorem State.setDrr_sclk : (s.setDrr k x).sclk = s.sclk := rfl
@[simp] theorem State.setDrr_heat : (s.setDrr k x).heat = s.heat := rfl
@[simp] theorem State.setDrr_power : (s.setDrr k x).power = s.power := rfl
@[simp] theorem State.setDrr_supply : (s.setDrr k x).supply = s.supply := rfl
@[simp] theorem State.setDrr_chans : (s.setDrr k x).chans = s.chans := rfl
@[simp] theorem State.setDrr_drrs : (s.setDrr k x).drrs = Tab.set Drr.reset s.drrs k x := rfl
@[simp] theorem State.setDrr_markers : (s.setDrr k x).markers = s.markers := rfl
@[simp] theorem State.setDrr_debts : (s.setDrr k x).debts = s.debts := rfl
@[simp] theorem State.setDrr_lake : (s.setDrr k x).lake = s.lake := rfl
@[simp] theorem State.setDrr_feeders : (s.setDrr k x).feeders = s.feeders := rfl
@[simp] theorem State.setDrr_pages : (s.setDrr k x).pages = s.pages := rfl
@[simp] theorem State.setDrr_serviceq : (s.setDrr k x).serviceq = s.serviceq := rfl
@[simp] theorem State.setDrr_tickets : (s.setDrr k x).tickets = s.tickets := rfl
@[simp] theorem State.setDrr_hosts : (s.setDrr k x).hosts = s.hosts := rfl
@[simp] theorem State.setDrr_tenants : (s.setDrr k x).tenants = s.tenants := rfl
@[simp] theorem State.setDrr_cnt : (s.setDrr k x).cnt = s.cnt := rfl
@[simp] theorem State.setDrr_trace : (s.setDrr k x).trace = s.trace := rfl
@[simp] theorem State.setDrr_regs : (s.setDrr k x).regs = s.regs := rfl
@[simp] theorem State.setDrr_stores : (s.setDrr k x).stores = s.stores := rfl
@[simp] theorem State.setDrr_idle : (s.setDrr k x).idle = s.idle := rfl
@[simp] theorem State.setDrr_xfer : (s.setDrr k x).xfer = s.xfer := rfl
@[simp] theorem State.setDrr_hostMem : (s.setDrr k x).hostMem = s.hostMem := rfl
@[simp] theorem State.setDrr_mem : (s.setDrr k x).mem = s.mem := rfl
@[simp] theorem State.setDrr_chk : (s.setDrr k x).chk = s.chk := rfl
@[simp] theorem State.setDrr_freeCount : (s.setDrr k x).freeCount = s.freeCount := rfl
@[simp] theorem State.setDrr_pending : (s.setDrr k x).pending = s.pending := rfl
end setDrr

section setFeeder
variable (s : State) (k : Nat) (x : Feeder)
@[simp] theorem State.setFeeder_clk : (s.setFeeder k x).clk = s.clk := rfl
@[simp] theorem State.setFeeder_pins : (s.setFeeder k x).pins = s.pins := rfl
@[simp] theorem State.setFeeder_boot : (s.setFeeder k x).boot = s.boot := rfl
@[simp] theorem State.setFeeder_bank : (s.setFeeder k x).bank = s.bank := rfl
@[simp] theorem State.setFeeder_sets : (s.setFeeder k x).sets = s.sets := rfl
@[simp] theorem State.setFeeder_ports : (s.setFeeder k x).ports = s.ports := rfl
@[simp] theorem State.setFeeder_aff : (s.setFeeder k x).aff = s.aff := rfl
@[simp] theorem State.setFeeder_reqs : (s.setFeeder k x).reqs = s.reqs := rfl
@[simp] theorem State.setFeeder_parts : (s.setFeeder k x).parts = s.parts := rfl
@[simp] theorem State.setFeeder_nextId : (s.setFeeder k x).nextId = s.nextId := rfl
@[simp] theorem State.setFeeder_leaves : (s.setFeeder k x).leaves = s.leaves := rfl
@[simp] theorem State.setFeeder_prots : (s.setFeeder k x).prots = s.prots := rfl
@[simp] theorem State.setFeeder_cares : (s.setFeeder k x).cares = s.cares := rfl
@[simp] theorem State.setFeeder_arbs : (s.setFeeder k x).arbs = s.arbs := rfl
@[simp] theorem State.setFeeder_sclk : (s.setFeeder k x).sclk = s.sclk := rfl
@[simp] theorem State.setFeeder_heat : (s.setFeeder k x).heat = s.heat := rfl
@[simp] theorem State.setFeeder_power : (s.setFeeder k x).power = s.power := rfl
@[simp] theorem State.setFeeder_supply : (s.setFeeder k x).supply = s.supply := rfl
@[simp] theorem State.setFeeder_chans : (s.setFeeder k x).chans = s.chans := rfl
@[simp] theorem State.setFeeder_drrs : (s.setFeeder k x).drrs = s.drrs := rfl
@[simp] theorem State.setFeeder_markers : (s.setFeeder k x).markers = s.markers := rfl
@[simp] theorem State.setFeeder_debts : (s.setFeeder k x).debts = s.debts := rfl
@[simp] theorem State.setFeeder_lake : (s.setFeeder k x).lake = s.lake := rfl
@[simp] theorem State.setFeeder_feeders : (s.setFeeder k x).feeders = Tab.set Feeder.reset s.feeders k x := rfl
@[simp] theorem State.setFeeder_pages : (s.setFeeder k x).pages = s.pages := rfl
@[simp] theorem State.setFeeder_serviceq : (s.setFeeder k x).serviceq = s.serviceq := rfl
@[simp] theorem State.setFeeder_tickets : (s.setFeeder k x).tickets = s.tickets := rfl
@[simp] theorem State.setFeeder_hosts : (s.setFeeder k x).hosts = s.hosts := rfl
@[simp] theorem State.setFeeder_tenants : (s.setFeeder k x).tenants = s.tenants := rfl
@[simp] theorem State.setFeeder_cnt : (s.setFeeder k x).cnt = s.cnt := rfl
@[simp] theorem State.setFeeder_trace : (s.setFeeder k x).trace = s.trace := rfl
@[simp] theorem State.setFeeder_regs : (s.setFeeder k x).regs = s.regs := rfl
@[simp] theorem State.setFeeder_stores : (s.setFeeder k x).stores = s.stores := rfl
@[simp] theorem State.setFeeder_idle : (s.setFeeder k x).idle = s.idle := rfl
@[simp] theorem State.setFeeder_xfer : (s.setFeeder k x).xfer = s.xfer := rfl
@[simp] theorem State.setFeeder_hostMem : (s.setFeeder k x).hostMem = s.hostMem := rfl
@[simp] theorem State.setFeeder_mem : (s.setFeeder k x).mem = s.mem := rfl
@[simp] theorem State.setFeeder_chk : (s.setFeeder k x).chk = s.chk := rfl
@[simp] theorem State.setFeeder_freeCount : (s.setFeeder k x).freeCount = s.freeCount := rfl
@[simp] theorem State.setFeeder_pending : (s.setFeeder k x).pending = s.pending := rfl
end setFeeder

section setPage
variable (s : State) (k : Nat) (x : Page)
@[simp] theorem State.setPage_clk : (s.setPage k x).clk = s.clk := rfl
@[simp] theorem State.setPage_pins : (s.setPage k x).pins = s.pins := rfl
@[simp] theorem State.setPage_boot : (s.setPage k x).boot = s.boot := rfl
@[simp] theorem State.setPage_bank : (s.setPage k x).bank = s.bank := rfl
@[simp] theorem State.setPage_sets : (s.setPage k x).sets = s.sets := rfl
@[simp] theorem State.setPage_ports : (s.setPage k x).ports = s.ports := rfl
@[simp] theorem State.setPage_aff : (s.setPage k x).aff = s.aff := rfl
@[simp] theorem State.setPage_reqs : (s.setPage k x).reqs = s.reqs := rfl
@[simp] theorem State.setPage_parts : (s.setPage k x).parts = s.parts := rfl
@[simp] theorem State.setPage_nextId : (s.setPage k x).nextId = s.nextId := rfl
@[simp] theorem State.setPage_leaves : (s.setPage k x).leaves = s.leaves := rfl
@[simp] theorem State.setPage_prots : (s.setPage k x).prots = s.prots := rfl
@[simp] theorem State.setPage_cares : (s.setPage k x).cares = s.cares := rfl
@[simp] theorem State.setPage_arbs : (s.setPage k x).arbs = s.arbs := rfl
@[simp] theorem State.setPage_sclk : (s.setPage k x).sclk = s.sclk := rfl
@[simp] theorem State.setPage_heat : (s.setPage k x).heat = s.heat := rfl
@[simp] theorem State.setPage_power : (s.setPage k x).power = s.power := rfl
@[simp] theorem State.setPage_supply : (s.setPage k x).supply = s.supply := rfl
@[simp] theorem State.setPage_chans : (s.setPage k x).chans = s.chans := rfl
@[simp] theorem State.setPage_drrs : (s.setPage k x).drrs = s.drrs := rfl
@[simp] theorem State.setPage_markers : (s.setPage k x).markers = s.markers := rfl
@[simp] theorem State.setPage_debts : (s.setPage k x).debts = s.debts := rfl
@[simp] theorem State.setPage_lake : (s.setPage k x).lake = s.lake := rfl
@[simp] theorem State.setPage_feeders : (s.setPage k x).feeders = s.feeders := rfl
@[simp] theorem State.setPage_pages : (s.setPage k x).pages = Tab.set Page.reset s.pages k x := rfl
@[simp] theorem State.setPage_serviceq : (s.setPage k x).serviceq = s.serviceq := rfl
@[simp] theorem State.setPage_tickets : (s.setPage k x).tickets = s.tickets := rfl
@[simp] theorem State.setPage_hosts : (s.setPage k x).hosts = s.hosts := rfl
@[simp] theorem State.setPage_tenants : (s.setPage k x).tenants = s.tenants := rfl
@[simp] theorem State.setPage_cnt : (s.setPage k x).cnt = s.cnt := rfl
@[simp] theorem State.setPage_trace : (s.setPage k x).trace = s.trace := rfl
@[simp] theorem State.setPage_regs : (s.setPage k x).regs = s.regs := rfl
@[simp] theorem State.setPage_stores : (s.setPage k x).stores = s.stores := rfl
@[simp] theorem State.setPage_idle : (s.setPage k x).idle = s.idle := rfl
@[simp] theorem State.setPage_xfer : (s.setPage k x).xfer = s.xfer := rfl
@[simp] theorem State.setPage_hostMem : (s.setPage k x).hostMem = s.hostMem := rfl
@[simp] theorem State.setPage_mem : (s.setPage k x).mem = s.mem := rfl
@[simp] theorem State.setPage_chk : (s.setPage k x).chk = s.chk := rfl
@[simp] theorem State.setPage_freeCount : (s.setPage k x).freeCount = s.freeCount := rfl
@[simp] theorem State.setPage_pending : (s.setPage k x).pending = s.pending := rfl
end setPage

section setHost
variable (s : State) (k : Nat) (x : HostSt)
@[simp] theorem State.setHost_clk : (s.setHost k x).clk = s.clk := rfl
@[simp] theorem State.setHost_pins : (s.setHost k x).pins = s.pins := rfl
@[simp] theorem State.setHost_boot : (s.setHost k x).boot = s.boot := rfl
@[simp] theorem State.setHost_bank : (s.setHost k x).bank = s.bank := rfl
@[simp] theorem State.setHost_sets : (s.setHost k x).sets = s.sets := rfl
@[simp] theorem State.setHost_ports : (s.setHost k x).ports = s.ports := rfl
@[simp] theorem State.setHost_aff : (s.setHost k x).aff = s.aff := rfl
@[simp] theorem State.setHost_reqs : (s.setHost k x).reqs = s.reqs := rfl
@[simp] theorem State.setHost_parts : (s.setHost k x).parts = s.parts := rfl
@[simp] theorem State.setHost_nextId : (s.setHost k x).nextId = s.nextId := rfl
@[simp] theorem State.setHost_leaves : (s.setHost k x).leaves = s.leaves := rfl
@[simp] theorem State.setHost_prots : (s.setHost k x).prots = s.prots := rfl
@[simp] theorem State.setHost_cares : (s.setHost k x).cares = s.cares := rfl
@[simp] theorem State.setHost_arbs : (s.setHost k x).arbs = s.arbs := rfl
@[simp] theorem State.setHost_sclk : (s.setHost k x).sclk = s.sclk := rfl
@[simp] theorem State.setHost_heat : (s.setHost k x).heat = s.heat := rfl
@[simp] theorem State.setHost_power : (s.setHost k x).power = s.power := rfl
@[simp] theorem State.setHost_supply : (s.setHost k x).supply = s.supply := rfl
@[simp] theorem State.setHost_chans : (s.setHost k x).chans = s.chans := rfl
@[simp] theorem State.setHost_drrs : (s.setHost k x).drrs = s.drrs := rfl
@[simp] theorem State.setHost_markers : (s.setHost k x).markers = s.markers := rfl
@[simp] theorem State.setHost_debts : (s.setHost k x).debts = s.debts := rfl
@[simp] theorem State.setHost_lake : (s.setHost k x).lake = s.lake := rfl
@[simp] theorem State.setHost_feeders : (s.setHost k x).feeders = s.feeders := rfl
@[simp] theorem State.setHost_pages : (s.setHost k x).pages = s.pages := rfl
@[simp] theorem State.setHost_serviceq : (s.setHost k x).serviceq = s.serviceq := rfl
@[simp] theorem State.setHost_tickets : (s.setHost k x).tickets = s.tickets := rfl
@[simp] theorem State.setHost_hosts : (s.setHost k x).hosts = Tab.set HostSt.reset s.hosts k x := rfl
@[simp] theorem State.setHost_tenants : (s.setHost k x).tenants = s.tenants := rfl
@[simp] theorem State.setHost_cnt : (s.setHost k x).cnt = s.cnt := rfl
@[simp] theorem State.setHost_trace : (s.setHost k x).trace = s.trace := rfl
@[simp] theorem State.setHost_regs : (s.setHost k x).regs = s.regs := rfl
@[simp] theorem State.setHost_stores : (s.setHost k x).stores = s.stores := rfl
@[simp] theorem State.setHost_idle : (s.setHost k x).idle = s.idle := rfl
@[simp] theorem State.setHost_xfer : (s.setHost k x).xfer = s.xfer := rfl
@[simp] theorem State.setHost_hostMem : (s.setHost k x).hostMem = s.hostMem := rfl
@[simp] theorem State.setHost_mem : (s.setHost k x).mem = s.mem := rfl
@[simp] theorem State.setHost_chk : (s.setHost k x).chk = s.chk := rfl
@[simp] theorem State.setHost_freeCount : (s.setHost k x).freeCount = s.freeCount := rfl
@[simp] theorem State.setHost_pending : (s.setHost k x).pending = s.pending := rfl
end setHost

section setTenSt
variable (s : State) (k : Nat) (x : TenSt)
@[simp] theorem State.setTenSt_clk : (s.setTenSt k x).clk = s.clk := rfl
@[simp] theorem State.setTenSt_pins : (s.setTenSt k x).pins = s.pins := rfl
@[simp] theorem State.setTenSt_boot : (s.setTenSt k x).boot = s.boot := rfl
@[simp] theorem State.setTenSt_bank : (s.setTenSt k x).bank = s.bank := rfl
@[simp] theorem State.setTenSt_sets : (s.setTenSt k x).sets = s.sets := rfl
@[simp] theorem State.setTenSt_ports : (s.setTenSt k x).ports = s.ports := rfl
@[simp] theorem State.setTenSt_aff : (s.setTenSt k x).aff = s.aff := rfl
@[simp] theorem State.setTenSt_reqs : (s.setTenSt k x).reqs = s.reqs := rfl
@[simp] theorem State.setTenSt_parts : (s.setTenSt k x).parts = s.parts := rfl
@[simp] theorem State.setTenSt_nextId : (s.setTenSt k x).nextId = s.nextId := rfl
@[simp] theorem State.setTenSt_leaves : (s.setTenSt k x).leaves = s.leaves := rfl
@[simp] theorem State.setTenSt_prots : (s.setTenSt k x).prots = s.prots := rfl
@[simp] theorem State.setTenSt_cares : (s.setTenSt k x).cares = s.cares := rfl
@[simp] theorem State.setTenSt_arbs : (s.setTenSt k x).arbs = s.arbs := rfl
@[simp] theorem State.setTenSt_sclk : (s.setTenSt k x).sclk = s.sclk := rfl
@[simp] theorem State.setTenSt_heat : (s.setTenSt k x).heat = s.heat := rfl
@[simp] theorem State.setTenSt_power : (s.setTenSt k x).power = s.power := rfl
@[simp] theorem State.setTenSt_supply : (s.setTenSt k x).supply = s.supply := rfl
@[simp] theorem State.setTenSt_chans : (s.setTenSt k x).chans = s.chans := rfl
@[simp] theorem State.setTenSt_drrs : (s.setTenSt k x).drrs = s.drrs := rfl
@[simp] theorem State.setTenSt_markers : (s.setTenSt k x).markers = s.markers := rfl
@[simp] theorem State.setTenSt_debts : (s.setTenSt k x).debts = s.debts := rfl
@[simp] theorem State.setTenSt_lake : (s.setTenSt k x).lake = s.lake := rfl
@[simp] theorem State.setTenSt_feeders : (s.setTenSt k x).feeders = s.feeders := rfl
@[simp] theorem State.setTenSt_pages : (s.setTenSt k x).pages = s.pages := rfl
@[simp] theorem State.setTenSt_serviceq : (s.setTenSt k x).serviceq = s.serviceq := rfl
@[simp] theorem State.setTenSt_tickets : (s.setTenSt k x).tickets = s.tickets := rfl
@[simp] theorem State.setTenSt_hosts : (s.setTenSt k x).hosts = s.hosts := rfl
@[simp] theorem State.setTenSt_tenants : (s.setTenSt k x).tenants = Tab.set TenSt.reset s.tenants k x := rfl
@[simp] theorem State.setTenSt_cnt : (s.setTenSt k x).cnt = s.cnt := rfl
@[simp] theorem State.setTenSt_trace : (s.setTenSt k x).trace = s.trace := rfl
@[simp] theorem State.setTenSt_regs : (s.setTenSt k x).regs = s.regs := rfl
@[simp] theorem State.setTenSt_stores : (s.setTenSt k x).stores = s.stores := rfl
@[simp] theorem State.setTenSt_idle : (s.setTenSt k x).idle = s.idle := rfl
@[simp] theorem State.setTenSt_xfer : (s.setTenSt k x).xfer = s.xfer := rfl
@[simp] theorem State.setTenSt_hostMem : (s.setTenSt k x).hostMem = s.hostMem := rfl
@[simp] theorem State.setTenSt_mem : (s.setTenSt k x).mem = s.mem := rfl
@[simp] theorem State.setTenSt_chk : (s.setTenSt k x).chk = s.chk := rfl
@[simp] theorem State.setTenSt_freeCount : (s.setTenSt k x).freeCount = s.freeCount := rfl
@[simp] theorem State.setTenSt_pending : (s.setTenSt k x).pending = s.pending := rfl
end setTenSt

section setBank
variable (s : State) (b : Banked)
@[simp] theorem State.setBank_clk : (s.setBank b).clk = s.clk := rfl
@[simp] theorem State.setBank_pins : (s.setBank b).pins = s.pins := rfl
@[simp] theorem State.setBank_boot : (s.setBank b).boot = s.boot := rfl
@[simp] theorem State.setBank_bank : (s.setBank b).bank = b := rfl
@[simp] theorem State.setBank_sets : (s.setBank b).sets = s.sets := rfl
@[simp] theorem State.setBank_ports : (s.setBank b).ports = s.ports := rfl
@[simp] theorem State.setBank_aff : (s.setBank b).aff = s.aff := rfl
@[simp] theorem State.setBank_reqs : (s.setBank b).reqs = s.reqs := rfl
@[simp] theorem State.setBank_parts : (s.setBank b).parts = s.parts := rfl
@[simp] theorem State.setBank_nextId : (s.setBank b).nextId = s.nextId := rfl
@[simp] theorem State.setBank_leaves : (s.setBank b).leaves = s.leaves := rfl
@[simp] theorem State.setBank_prots : (s.setBank b).prots = s.prots := rfl
@[simp] theorem State.setBank_cares : (s.setBank b).cares = s.cares := rfl
@[simp] theorem State.setBank_arbs : (s.setBank b).arbs = s.arbs := rfl
@[simp] theorem State.setBank_sclk : (s.setBank b).sclk = s.sclk := rfl
@[simp] theorem State.setBank_heat : (s.setBank b).heat = s.heat := rfl
@[simp] theorem State.setBank_power : (s.setBank b).power = s.power := rfl
@[simp] theorem State.setBank_supply : (s.setBank b).supply = s.supply := rfl
@[simp] theorem State.setBank_chans : (s.setBank b).chans = s.chans := rfl
@[simp] theorem State.setBank_drrs : (s.setBank b).drrs = s.drrs := rfl
@[simp] theorem State.setBank_markers : (s.setBank b).markers = s.markers := rfl
@[simp] theorem State.setBank_debts : (s.setBank b).debts = s.debts := rfl
@[simp] theorem State.setBank_lake : (s.setBank b).lake = s.lake := rfl
@[simp] theorem State.setBank_feeders : (s.setBank b).feeders = s.feeders := rfl
@[simp] theorem State.setBank_pages : (s.setBank b).pages = s.pages := rfl
@[simp] theorem State.setBank_serviceq : (s.setBank b).serviceq = s.serviceq := rfl
@[simp] theorem State.setBank_tickets : (s.setBank b).tickets = s.tickets := rfl
@[simp] theorem State.setBank_hosts : (s.setBank b).hosts = s.hosts := rfl
@[simp] theorem State.setBank_tenants : (s.setBank b).tenants = s.tenants := rfl
@[simp] theorem State.setBank_cnt : (s.setBank b).cnt = s.cnt := rfl
@[simp] theorem State.setBank_trace : (s.setBank b).trace = s.trace := rfl
@[simp] theorem State.setBank_regs : (s.setBank b).regs = s.regs := rfl
@[simp] theorem State.setBank_stores : (s.setBank b).stores = s.stores := rfl
@[simp] theorem State.setBank_idle : (s.setBank b).idle = s.idle := rfl
@[simp] theorem State.setBank_xfer : (s.setBank b).xfer = s.xfer := rfl
@[simp] theorem State.setBank_hostMem : (s.setBank b).hostMem = s.hostMem := rfl
@[simp] theorem State.setBank_mem : (s.setBank b).mem = s.mem := rfl
@[simp] theorem State.setBank_chk : (s.setBank b).chk = s.chk := rfl
@[simp] theorem State.setBank_freeCount : (s.setBank b).freeCount = s.freeCount := rfl
@[simp] theorem State.setBank_pending : (s.setBank b).pending = s.pending := rfl
end setBank

section setReq
variable (s : State) (k : Nat) (x : Req)
@[simp] theorem State.setReq_clk : (s.setReq k x).clk = s.clk := rfl
@[simp] theorem State.setReq_pins : (s.setReq k x).pins = s.pins := rfl
@[simp] theorem State.setReq_boot : (s.setReq k x).boot = s.boot := rfl
@[simp] theorem State.setReq_bank : (s.setReq k x).bank = s.bank := rfl
@[simp] theorem State.setReq_sets : (s.setReq k x).sets = s.sets := rfl
@[simp] theorem State.setReq_ports : (s.setReq k x).ports = s.ports := rfl
@[simp] theorem State.setReq_aff : (s.setReq k x).aff = s.aff := rfl
@[simp] theorem State.setReq_reqs : (s.setReq k x).reqs = Tab.put s.reqs k x := rfl
@[simp] theorem State.setReq_parts : (s.setReq k x).parts = s.parts := rfl
@[simp] theorem State.setReq_nextId : (s.setReq k x).nextId = s.nextId := rfl
@[simp] theorem State.setReq_leaves : (s.setReq k x).leaves = s.leaves := rfl
@[simp] theorem State.setReq_prots : (s.setReq k x).prots = s.prots := rfl
@[simp] theorem State.setReq_cares : (s.setReq k x).cares = s.cares := rfl
@[simp] theorem State.setReq_arbs : (s.setReq k x).arbs = s.arbs := rfl
@[simp] theorem State.setReq_sclk : (s.setReq k x).sclk = s.sclk := rfl
@[simp] theorem State.setReq_heat : (s.setReq k x).heat = s.heat := rfl
@[simp] theorem State.setReq_power : (s.setReq k x).power = s.power := rfl
@[simp] theorem State.setReq_supply : (s.setReq k x).supply = s.supply := rfl
@[simp] theorem State.setReq_chans : (s.setReq k x).chans = s.chans := rfl
@[simp] theorem State.setReq_drrs : (s.setReq k x).drrs = s.drrs := rfl
@[simp] theorem State.setReq_markers : (s.setReq k x).markers = s.markers := rfl
@[simp] theorem State.setReq_debts : (s.setReq k x).debts = s.debts := rfl
@[simp] theorem State.setReq_lake : (s.setReq k x).lake = s.lake := rfl
@[simp] theorem State.setReq_feeders : (s.setReq k x).feeders = s.feeders := rfl
@[simp] theorem State.setReq_pages : (s.setReq k x).pages = s.pages := rfl
@[simp] theorem State.setReq_serviceq : (s.setReq k x).serviceq = s.serviceq := rfl
@[simp] theorem State.setReq_tickets : (s.setReq k x).tickets = s.tickets := rfl
@[simp] theorem State.setReq_hosts : (s.setReq k x).hosts = s.hosts := rfl
@[simp] theorem State.setReq_tenants : (s.setReq k x).tenants = s.tenants := rfl
@[simp] theorem State.setReq_cnt : (s.setReq k x).cnt = s.cnt := rfl
@[simp] theorem State.setReq_trace : (s.setReq k x).trace = s.trace := rfl
@[simp] theorem State.setReq_regs : (s.setReq k x).regs = s.regs := rfl
@[simp] theorem State.setReq_stores : (s.setReq k x).stores = s.stores := rfl
@[simp] theorem State.setReq_idle : (s.setReq k x).idle = s.idle := rfl
@[simp] theorem State.setReq_xfer : (s.setReq k x).xfer = s.xfer := rfl
@[simp] theorem State.setReq_hostMem : (s.setReq k x).hostMem = s.hostMem := rfl
@[simp] theorem State.setReq_mem : (s.setReq k x).mem = s.mem := rfl
@[simp] theorem State.setReq_chk : (s.setReq k x).chk = s.chk := rfl
@[simp] theorem State.setReq_freeCount : (s.setReq k x).freeCount = s.freeCount := rfl
@[simp] theorem State.setReq_pending : (s.setReq k x).pending = s.pending := rfl
end setReq

section dropReq
variable (s : State) (k : Nat)
@[simp] theorem State.dropReq_clk : (s.dropReq k).clk = s.clk := rfl
@[simp] theorem State.dropReq_pins : (s.dropReq k).pins = s.pins := rfl
@[simp] theorem State.dropReq_boot : (s.dropReq k).boot = s.boot := rfl
@[simp] theorem State.dropReq_bank : (s.dropReq k).bank = s.bank := rfl
@[simp] theorem State.dropReq_sets : (s.dropReq k).sets = s.sets := rfl
@[simp] theorem State.dropReq_ports : (s.dropReq k).ports = s.ports := rfl
@[simp] theorem State.dropReq_aff : (s.dropReq k).aff = s.aff := rfl
@[simp] theorem State.dropReq_reqs : (s.dropReq k).reqs = Tab.erase s.reqs k := rfl
@[simp] theorem State.dropReq_parts : (s.dropReq k).parts = s.parts := rfl
@[simp] theorem State.dropReq_nextId : (s.dropReq k).nextId = s.nextId := rfl
@[simp] theorem State.dropReq_leaves : (s.dropReq k).leaves = s.leaves := rfl
@[simp] theorem State.dropReq_prots : (s.dropReq k).prots = s.prots := rfl
@[simp] theorem State.dropReq_cares : (s.dropReq k).cares = s.cares := rfl
@[simp] theorem State.dropReq_arbs : (s.dropReq k).arbs = s.arbs := rfl
@[simp] theorem State.dropReq_sclk : (s.dropReq k).sclk = s.sclk := rfl
@[simp] theorem State.dropReq_heat : (s.dropReq k).heat = s.heat := rfl
@[simp] theorem State.dropReq_power : (s.dropReq k).power = s.power := rfl
@[simp] theorem State.dropReq_supply : (s.dropReq k).supply = s.supply := rfl
@[simp] theorem State.dropReq_chans : (s.dropReq k).chans = s.chans := rfl
@[simp] theorem State.dropReq_drrs : (s.dropReq k).drrs = s.drrs := rfl
@[simp] theorem State.dropReq_markers : (s.dropReq k).markers = s.markers := rfl
@[simp] theorem State.dropReq_debts : (s.dropReq k).debts = s.debts := rfl
@[simp] theorem State.dropReq_lake : (s.dropReq k).lake = s.lake := rfl
@[simp] theorem State.dropReq_feeders : (s.dropReq k).feeders = s.feeders := rfl
@[simp] theorem State.dropReq_pages : (s.dropReq k).pages = s.pages := rfl
@[simp] theorem State.dropReq_serviceq : (s.dropReq k).serviceq = s.serviceq := rfl
@[simp] theorem State.dropReq_tickets : (s.dropReq k).tickets = s.tickets := rfl
@[simp] theorem State.dropReq_hosts : (s.dropReq k).hosts = s.hosts := rfl
@[simp] theorem State.dropReq_tenants : (s.dropReq k).tenants = s.tenants := rfl
@[simp] theorem State.dropReq_cnt : (s.dropReq k).cnt = s.cnt := rfl
@[simp] theorem State.dropReq_trace : (s.dropReq k).trace = s.trace := rfl
@[simp] theorem State.dropReq_regs : (s.dropReq k).regs = s.regs := rfl
@[simp] theorem State.dropReq_stores : (s.dropReq k).stores = s.stores := rfl
@[simp] theorem State.dropReq_idle : (s.dropReq k).idle = s.idle := rfl
@[simp] theorem State.dropReq_xfer : (s.dropReq k).xfer = s.xfer := rfl
@[simp] theorem State.dropReq_hostMem : (s.dropReq k).hostMem = s.hostMem := rfl
@[simp] theorem State.dropReq_mem : (s.dropReq k).mem = s.mem := rfl
@[simp] theorem State.dropReq_chk : (s.dropReq k).chk = s.chk := rfl
@[simp] theorem State.dropReq_freeCount : (s.dropReq k).freeCount = s.freeCount := rfl
@[simp] theorem State.dropReq_pending : (s.dropReq k).pending = s.pending := rfl
end dropReq

section setPart
variable (s : State) (k : Nat) (x : Part)
@[simp] theorem State.setPart_clk : (s.setPart k x).clk = s.clk := rfl
@[simp] theorem State.setPart_pins : (s.setPart k x).pins = s.pins := rfl
@[simp] theorem State.setPart_boot : (s.setPart k x).boot = s.boot := rfl
@[simp] theorem State.setPart_bank : (s.setPart k x).bank = s.bank := rfl
@[simp] theorem State.setPart_sets : (s.setPart k x).sets = s.sets := rfl
@[simp] theorem State.setPart_ports : (s.setPart k x).ports = s.ports := rfl
@[simp] theorem State.setPart_aff : (s.setPart k x).aff = s.aff := rfl
@[simp] theorem State.setPart_reqs : (s.setPart k x).reqs = s.reqs := rfl
@[simp] theorem State.setPart_parts : (s.setPart k x).parts = Tab.put s.parts k x := rfl
@[simp] theorem State.setPart_nextId : (s.setPart k x).nextId = s.nextId := rfl
@[simp] theorem State.setPart_leaves : (s.setPart k x).leaves = s.leaves := rfl
@[simp] theorem State.setPart_prots : (s.setPart k x).prots = s.prots := rfl
@[simp] theorem State.setPart_cares : (s.setPart k x).cares = s.cares := rfl
@[simp] theorem State.setPart_arbs : (s.setPart k x).arbs = s.arbs := rfl
@[simp] theorem State.setPart_sclk : (s.setPart k x).sclk = s.sclk := rfl
@[simp] theorem State.setPart_heat : (s.setPart k x).heat = s.heat := rfl
@[simp] theorem State.setPart_power : (s.setPart k x).power = s.power := rfl
@[simp] theorem State.setPart_supply : (s.setPart k x).supply = s.supply := rfl
@[simp] theorem State.setPart_chans : (s.setPart k x).chans = s.chans := rfl
@[simp] theorem State.setPart_drrs : (s.setPart k x).drrs = s.drrs := rfl
@[simp] theorem State.setPart_markers : (s.setPart k x).markers = s.markers := rfl
@[simp] theorem State.setPart_debts : (s.setPart k x).debts = s.debts := rfl
@[simp] theorem State.setPart_lake : (s.setPart k x).lake = s.lake := rfl
@[simp] theorem State.setPart_feeders : (s.setPart k x).feeders = s.feeders := rfl
@[simp] theorem State.setPart_pages : (s.setPart k x).pages = s.pages := rfl
@[simp] theorem State.setPart_serviceq : (s.setPart k x).serviceq = s.serviceq := rfl
@[simp] theorem State.setPart_tickets : (s.setPart k x).tickets = s.tickets := rfl
@[simp] theorem State.setPart_hosts : (s.setPart k x).hosts = s.hosts := rfl
@[simp] theorem State.setPart_tenants : (s.setPart k x).tenants = s.tenants := rfl
@[simp] theorem State.setPart_cnt : (s.setPart k x).cnt = s.cnt := rfl
@[simp] theorem State.setPart_trace : (s.setPart k x).trace = s.trace := rfl
@[simp] theorem State.setPart_regs : (s.setPart k x).regs = s.regs := rfl
@[simp] theorem State.setPart_stores : (s.setPart k x).stores = s.stores := rfl
@[simp] theorem State.setPart_idle : (s.setPart k x).idle = s.idle := rfl
@[simp] theorem State.setPart_xfer : (s.setPart k x).xfer = s.xfer := rfl
@[simp] theorem State.setPart_hostMem : (s.setPart k x).hostMem = s.hostMem := rfl
@[simp] theorem State.setPart_mem : (s.setPart k x).mem = s.mem := rfl
@[simp] theorem State.setPart_chk : (s.setPart k x).chk = s.chk := rfl
@[simp] theorem State.setPart_freeCount : (s.setPart k x).freeCount = s.freeCount := rfl
@[simp] theorem State.setPart_pending : (s.setPart k x).pending = s.pending := rfl
end setPart

section dropPart
variable (s : State) (k : Nat)
@[simp] theorem State.dropPart_clk : (s.dropPart k).clk = s.clk := rfl
@[simp] theorem State.dropPart_pins : (s.dropPart k).pins = s.pins := rfl
@[simp] theorem State.dropPart_boot : (s.dropPart k).boot = s.boot := rfl
@[simp] theorem State.dropPart_bank : (s.dropPart k).bank = s.bank := rfl
@[simp] theorem State.dropPart_sets : (s.dropPart k).sets = s.sets := rfl
@[simp] theorem State.dropPart_ports : (s.dropPart k).ports = s.ports := rfl
@[simp] theorem State.dropPart_aff : (s.dropPart k).aff = s.aff := rfl
@[simp] theorem State.dropPart_reqs : (s.dropPart k).reqs = s.reqs := rfl
@[simp] theorem State.dropPart_parts : (s.dropPart k).parts = Tab.erase s.parts k := rfl
@[simp] theorem State.dropPart_nextId : (s.dropPart k).nextId = s.nextId := rfl
@[simp] theorem State.dropPart_leaves : (s.dropPart k).leaves = s.leaves := rfl
@[simp] theorem State.dropPart_prots : (s.dropPart k).prots = s.prots := rfl
@[simp] theorem State.dropPart_cares : (s.dropPart k).cares = s.cares := rfl
@[simp] theorem State.dropPart_arbs : (s.dropPart k).arbs = s.arbs := rfl
@[simp] theorem State.dropPart_sclk : (s.dropPart k).sclk = s.sclk := rfl
@[simp] theorem State.dropPart_heat : (s.dropPart k).heat = s.heat := rfl
@[simp] theorem State.dropPart_power : (s.dropPart k).power = s.power := rfl
@[simp] theorem State.dropPart_supply : (s.dropPart k).supply = s.supply := rfl
@[simp] theorem State.dropPart_chans : (s.dropPart k).chans = s.chans := rfl
@[simp] theorem State.dropPart_drrs : (s.dropPart k).drrs = s.drrs := rfl
@[simp] theorem State.dropPart_markers : (s.dropPart k).markers = s.markers := rfl
@[simp] theorem State.dropPart_debts : (s.dropPart k).debts = s.debts := rfl
@[simp] theorem State.dropPart_lake : (s.dropPart k).lake = s.lake := rfl
@[simp] theorem State.dropPart_feeders : (s.dropPart k).feeders = s.feeders := rfl
@[simp] theorem State.dropPart_pages : (s.dropPart k).pages = s.pages := rfl
@[simp] theorem State.dropPart_serviceq : (s.dropPart k).serviceq = s.serviceq := rfl
@[simp] theorem State.dropPart_tickets : (s.dropPart k).tickets = s.tickets := rfl
@[simp] theorem State.dropPart_hosts : (s.dropPart k).hosts = s.hosts := rfl
@[simp] theorem State.dropPart_tenants : (s.dropPart k).tenants = s.tenants := rfl
@[simp] theorem State.dropPart_cnt : (s.dropPart k).cnt = s.cnt := rfl
@[simp] theorem State.dropPart_trace : (s.dropPart k).trace = s.trace := rfl
@[simp] theorem State.dropPart_regs : (s.dropPart k).regs = s.regs := rfl
@[simp] theorem State.dropPart_stores : (s.dropPart k).stores = s.stores := rfl
@[simp] theorem State.dropPart_idle : (s.dropPart k).idle = s.idle := rfl
@[simp] theorem State.dropPart_xfer : (s.dropPart k).xfer = s.xfer := rfl
@[simp] theorem State.dropPart_hostMem : (s.dropPart k).hostMem = s.hostMem := rfl
@[simp] theorem State.dropPart_mem : (s.dropPart k).mem = s.mem := rfl
@[simp] theorem State.dropPart_chk : (s.dropPart k).chk = s.chk := rfl
@[simp] theorem State.dropPart_freeCount : (s.dropPart k).freeCount = s.freeCount := rfl
@[simp] theorem State.dropPart_pending : (s.dropPart k).pending = s.pending := rfl
end dropPart

section fresh
variable (s : State)
@[simp] theorem State.fresh_clk : (s.fresh).clk = s.clk := rfl
@[simp] theorem State.fresh_pins : (s.fresh).pins = s.pins := rfl
@[simp] theorem State.fresh_boot : (s.fresh).boot = s.boot := rfl
@[simp] theorem State.fresh_bank : (s.fresh).bank = s.bank := rfl
@[simp] theorem State.fresh_sets : (s.fresh).sets = s.sets := rfl
@[simp] theorem State.fresh_ports : (s.fresh).ports = s.ports := rfl
@[simp] theorem State.fresh_aff : (s.fresh).aff = s.aff := rfl
@[simp] theorem State.fresh_reqs : (s.fresh).reqs = s.reqs := rfl
@[simp] theorem State.fresh_parts : (s.fresh).parts = s.parts := rfl
@[simp] theorem State.fresh_nextId : (s.fresh).nextId = s.nextId := rfl
@[simp] theorem State.fresh_leaves : (s.fresh).leaves = s.leaves := rfl
@[simp] theorem State.fresh_prots : (s.fresh).prots = s.prots := rfl
@[simp] theorem State.fresh_cares : (s.fresh).cares = s.cares := rfl
@[simp] theorem State.fresh_arbs : (s.fresh).arbs = s.arbs := rfl
@[simp] theorem State.fresh_sclk : (s.fresh).sclk = s.sclk := rfl
@[simp] theorem State.fresh_heat : (s.fresh).heat = s.heat := rfl
@[simp] theorem State.fresh_power : (s.fresh).power = s.power := rfl
@[simp] theorem State.fresh_supply : (s.fresh).supply = s.supply := rfl
@[simp] theorem State.fresh_chans : (s.fresh).chans = s.chans := rfl
@[simp] theorem State.fresh_drrs : (s.fresh).drrs = s.drrs := rfl
@[simp] theorem State.fresh_markers : (s.fresh).markers = s.markers := rfl
@[simp] theorem State.fresh_debts : (s.fresh).debts = s.debts := rfl
@[simp] theorem State.fresh_lake : (s.fresh).lake = s.lake := rfl
@[simp] theorem State.fresh_feeders : (s.fresh).feeders = s.feeders := rfl
@[simp] theorem State.fresh_pages : (s.fresh).pages = s.pages := rfl
@[simp] theorem State.fresh_serviceq : (s.fresh).serviceq = s.serviceq := rfl
@[simp] theorem State.fresh_tickets : (s.fresh).tickets = s.tickets := rfl
@[simp] theorem State.fresh_hosts : (s.fresh).hosts = s.hosts := rfl
@[simp] theorem State.fresh_tenants : (s.fresh).tenants = s.tenants := rfl
@[simp] theorem State.fresh_cnt : (s.fresh).cnt = s.cnt := rfl
@[simp] theorem State.fresh_trace : (s.fresh).trace = s.trace := rfl
@[simp] theorem State.fresh_regs : (s.fresh).regs = s.regs := rfl
@[simp] theorem State.fresh_stores : (s.fresh).stores = s.stores := rfl
@[simp] theorem State.fresh_idle : (s.fresh).idle = s.idle := rfl
@[simp] theorem State.fresh_xfer : (s.fresh).xfer = s.xfer := rfl
@[simp] theorem State.fresh_hostMem : (s.fresh).hostMem = s.hostMem := rfl
@[simp] theorem State.fresh_mem : (s.fresh).mem = s.mem := rfl
@[simp] theorem State.fresh_chk : (s.fresh).chk = s.chk := rfl
@[simp] theorem State.fresh_freeCount : (s.fresh).freeCount = s.freeCount + 1 := rfl
@[simp] theorem State.fresh_pending : (s.fresh).pending = s.pending := rfl
end fresh

/-! ## Accessors after updates -/

@[simp] theorem State.setLeaf_port_same (s : State) (k : Nat) (x : Leaf) (j : Nat) : (s.setLeaf k x).port j = s.port j := rfl
@[simp] theorem State.setProt_port_same (s : State) (k : Nat) (x : RowProt) (j : Nat) : (s.setProt k x).port j = s.port j := rfl
@[simp] theorem State.setCare_port_same (s : State) (k : Nat) (x : Care) (j : Nat) : (s.setCare k x).port j = s.port j := rfl
@[simp] theorem State.setArb_port_same (s : State) (k : Nat) (x : Arb) (j : Nat) : (s.setArb k x).port j = s.port j := rfl
@[simp] theorem State.setSck_port_same (s : State) (k : Nat) (x : StackClk) (j : Nat) : (s.setSck k x).port j = s.port j := rfl
@[simp] theorem State.setHeat_port_same (s : State) (k : Nat) (x : Heat) (j : Nat) : (s.setHeat k x).port j = s.port j := rfl
@[simp] theorem State.setPow_port_same (s : State) (k : Nat) (x : Power) (j : Nat) : (s.setPow k x).port j = s.port j := rfl
@[simp] theorem State.setSup_port_same (s : State) (k : Nat) (x : Supply) (j : Nat) : (s.setSup k x).port j = s.port j := rfl
@[simp] theorem State.setChan_port_same (s : State) (k : Nat) (x : Chan) (j : Nat) : (s.setChan k x).port j = s.port j := rfl
@[simp] theorem State.setDrr_port_same (s : State) (k : Nat) (x : Drr) (j : Nat) : (s.setDrr k x).port j = s.port j := rfl
@[simp] theorem State.setFeeder_port_same (s : State) (k : Nat) (x : Feeder) (j : Nat) : (s.setFeeder k x).port j = s.port j := rfl
@[simp] theorem State.setPage_port_same (s : State) (k : Nat) (x : Page) (j : Nat) : (s.setPage k x).port j = s.port j := rfl
@[simp] theorem State.setHost_port_same (s : State) (k : Nat) (x : HostSt) (j : Nat) : (s.setHost k x).port j = s.port j := rfl
@[simp] theorem State.setTenSt_port_same (s : State) (k : Nat) (x : TenSt) (j : Nat) : (s.setTenSt k x).port j = s.port j := rfl
@[simp] theorem State.setBank_port_same (s : State) (b : Banked) (j : Nat) : (s.setBank b).port j = s.port j := rfl
@[simp] theorem State.setReq_port_same (s : State) (k : Nat) (x : Req) (j : Nat) : (s.setReq k x).port j = s.port j := rfl
@[simp] theorem State.dropReq_port_same (s : State) (k : Nat) (j : Nat) : (s.dropReq k).port j = s.port j := rfl
@[simp] theorem State.setPart_port_same (s : State) (k : Nat) (x : Part) (j : Nat) : (s.setPart k x).port j = s.port j := rfl
@[simp] theorem State.dropPart_port_same (s : State) (k : Nat) (j : Nat) : (s.dropPart k).port j = s.port j := rfl
@[simp] theorem State.fresh_port_same (s : State) (j : Nat) : (s.fresh).port j = s.port j := rfl

@[simp] theorem State.setPort_leaf_same (s : State) (k : Nat) (x : Port) (j : Nat) : (s.setPort k x).leaf j = s.leaf j := rfl
@[simp] theorem State.setProt_leaf_same (s : State) (k : Nat) (x : RowProt) (j : Nat) : (s.setProt k x).leaf j = s.leaf j := rfl
@[simp] theorem State.setCare_leaf_same (s : State) (k : Nat) (x : Care) (j : Nat) : (s.setCare k x).leaf j = s.leaf j := rfl
@[simp] theorem State.setArb_leaf_same (s : State) (k : Nat) (x : Arb) (j : Nat) : (s.setArb k x).leaf j = s.leaf j := rfl
@[simp] theorem State.setSck_leaf_same (s : State) (k : Nat) (x : StackClk) (j : Nat) : (s.setSck k x).leaf j = s.leaf j := rfl
@[simp] theorem State.setHeat_leaf_same (s : State) (k : Nat) (x : Heat) (j : Nat) : (s.setHeat k x).leaf j = s.leaf j := rfl
@[simp] theorem State.setPow_leaf_same (s : State) (k : Nat) (x : Power) (j : Nat) : (s.setPow k x).leaf j = s.leaf j := rfl
@[simp] theorem State.setSup_leaf_same (s : State) (k : Nat) (x : Supply) (j : Nat) : (s.setSup k x).leaf j = s.leaf j := rfl
@[simp] theorem State.setChan_leaf_same (s : State) (k : Nat) (x : Chan) (j : Nat) : (s.setChan k x).leaf j = s.leaf j := rfl
@[simp] theorem State.setDrr_leaf_same (s : State) (k : Nat) (x : Drr) (j : Nat) : (s.setDrr k x).leaf j = s.leaf j := rfl
@[simp] theorem State.setFeeder_leaf_same (s : State) (k : Nat) (x : Feeder) (j : Nat) : (s.setFeeder k x).leaf j = s.leaf j := rfl
@[simp] theorem State.setPage_leaf_same (s : State) (k : Nat) (x : Page) (j : Nat) : (s.setPage k x).leaf j = s.leaf j := rfl
@[simp] theorem State.setHost_leaf_same (s : State) (k : Nat) (x : HostSt) (j : Nat) : (s.setHost k x).leaf j = s.leaf j := rfl
@[simp] theorem State.setTenSt_leaf_same (s : State) (k : Nat) (x : TenSt) (j : Nat) : (s.setTenSt k x).leaf j = s.leaf j := rfl
@[simp] theorem State.setBank_leaf_same (s : State) (b : Banked) (j : Nat) : (s.setBank b).leaf j = s.leaf j := rfl
@[simp] theorem State.setReq_leaf_same (s : State) (k : Nat) (x : Req) (j : Nat) : (s.setReq k x).leaf j = s.leaf j := rfl
@[simp] theorem State.dropReq_leaf_same (s : State) (k : Nat) (j : Nat) : (s.dropReq k).leaf j = s.leaf j := rfl
@[simp] theorem State.setPart_leaf_same (s : State) (k : Nat) (x : Part) (j : Nat) : (s.setPart k x).leaf j = s.leaf j := rfl
@[simp] theorem State.dropPart_leaf_same (s : State) (k : Nat) (j : Nat) : (s.dropPart k).leaf j = s.leaf j := rfl
@[simp] theorem State.fresh_leaf_same (s : State) (j : Nat) : (s.fresh).leaf j = s.leaf j := rfl

@[simp] theorem State.setPort_prot_same (s : State) (k : Nat) (x : Port) (j : Nat) : (s.setPort k x).prot j = s.prot j := rfl
@[simp] theorem State.setLeaf_prot_same (s : State) (k : Nat) (x : Leaf) (j : Nat) : (s.setLeaf k x).prot j = s.prot j := rfl
@[simp] theorem State.setCare_prot_same (s : State) (k : Nat) (x : Care) (j : Nat) : (s.setCare k x).prot j = s.prot j := rfl
@[simp] theorem State.setArb_prot_same (s : State) (k : Nat) (x : Arb) (j : Nat) : (s.setArb k x).prot j = s.prot j := rfl
@[simp] theorem State.setSck_prot_same (s : State) (k : Nat) (x : StackClk) (j : Nat) : (s.setSck k x).prot j = s.prot j := rfl
@[simp] theorem State.setHeat_prot_same (s : State) (k : Nat) (x : Heat) (j : Nat) : (s.setHeat k x).prot j = s.prot j := rfl
@[simp] theorem State.setPow_prot_same (s : State) (k : Nat) (x : Power) (j : Nat) : (s.setPow k x).prot j = s.prot j := rfl
@[simp] theorem State.setSup_prot_same (s : State) (k : Nat) (x : Supply) (j : Nat) : (s.setSup k x).prot j = s.prot j := rfl
@[simp] theorem State.setChan_prot_same (s : State) (k : Nat) (x : Chan) (j : Nat) : (s.setChan k x).prot j = s.prot j := rfl
@[simp] theorem State.setDrr_prot_same (s : State) (k : Nat) (x : Drr) (j : Nat) : (s.setDrr k x).prot j = s.prot j := rfl
@[simp] theorem State.setFeeder_prot_same (s : State) (k : Nat) (x : Feeder) (j : Nat) : (s.setFeeder k x).prot j = s.prot j := rfl
@[simp] theorem State.setPage_prot_same (s : State) (k : Nat) (x : Page) (j : Nat) : (s.setPage k x).prot j = s.prot j := rfl
@[simp] theorem State.setHost_prot_same (s : State) (k : Nat) (x : HostSt) (j : Nat) : (s.setHost k x).prot j = s.prot j := rfl
@[simp] theorem State.setTenSt_prot_same (s : State) (k : Nat) (x : TenSt) (j : Nat) : (s.setTenSt k x).prot j = s.prot j := rfl
@[simp] theorem State.setBank_prot_same (s : State) (b : Banked) (j : Nat) : (s.setBank b).prot j = s.prot j := rfl
@[simp] theorem State.setReq_prot_same (s : State) (k : Nat) (x : Req) (j : Nat) : (s.setReq k x).prot j = s.prot j := rfl
@[simp] theorem State.dropReq_prot_same (s : State) (k : Nat) (j : Nat) : (s.dropReq k).prot j = s.prot j := rfl
@[simp] theorem State.setPart_prot_same (s : State) (k : Nat) (x : Part) (j : Nat) : (s.setPart k x).prot j = s.prot j := rfl
@[simp] theorem State.dropPart_prot_same (s : State) (k : Nat) (j : Nat) : (s.dropPart k).prot j = s.prot j := rfl
@[simp] theorem State.fresh_prot_same (s : State) (j : Nat) : (s.fresh).prot j = s.prot j := rfl

@[simp] theorem State.setPort_care_same (s : State) (k : Nat) (x : Port) (j : Nat) : (s.setPort k x).care j = s.care j := rfl
@[simp] theorem State.setLeaf_care_same (s : State) (k : Nat) (x : Leaf) (j : Nat) : (s.setLeaf k x).care j = s.care j := rfl
@[simp] theorem State.setProt_care_same (s : State) (k : Nat) (x : RowProt) (j : Nat) : (s.setProt k x).care j = s.care j := rfl
@[simp] theorem State.setArb_care_same (s : State) (k : Nat) (x : Arb) (j : Nat) : (s.setArb k x).care j = s.care j := rfl
@[simp] theorem State.setSck_care_same (s : State) (k : Nat) (x : StackClk) (j : Nat) : (s.setSck k x).care j = s.care j := rfl
@[simp] theorem State.setHeat_care_same (s : State) (k : Nat) (x : Heat) (j : Nat) : (s.setHeat k x).care j = s.care j := rfl
@[simp] theorem State.setPow_care_same (s : State) (k : Nat) (x : Power) (j : Nat) : (s.setPow k x).care j = s.care j := rfl
@[simp] theorem State.setSup_care_same (s : State) (k : Nat) (x : Supply) (j : Nat) : (s.setSup k x).care j = s.care j := rfl
@[simp] theorem State.setChan_care_same (s : State) (k : Nat) (x : Chan) (j : Nat) : (s.setChan k x).care j = s.care j := rfl
@[simp] theorem State.setDrr_care_same (s : State) (k : Nat) (x : Drr) (j : Nat) : (s.setDrr k x).care j = s.care j := rfl
@[simp] theorem State.setFeeder_care_same (s : State) (k : Nat) (x : Feeder) (j : Nat) : (s.setFeeder k x).care j = s.care j := rfl
@[simp] theorem State.setPage_care_same (s : State) (k : Nat) (x : Page) (j : Nat) : (s.setPage k x).care j = s.care j := rfl
@[simp] theorem State.setHost_care_same (s : State) (k : Nat) (x : HostSt) (j : Nat) : (s.setHost k x).care j = s.care j := rfl
@[simp] theorem State.setTenSt_care_same (s : State) (k : Nat) (x : TenSt) (j : Nat) : (s.setTenSt k x).care j = s.care j := rfl
@[simp] theorem State.setBank_care_same (s : State) (b : Banked) (j : Nat) : (s.setBank b).care j = s.care j := rfl
@[simp] theorem State.setReq_care_same (s : State) (k : Nat) (x : Req) (j : Nat) : (s.setReq k x).care j = s.care j := rfl
@[simp] theorem State.dropReq_care_same (s : State) (k : Nat) (j : Nat) : (s.dropReq k).care j = s.care j := rfl
@[simp] theorem State.setPart_care_same (s : State) (k : Nat) (x : Part) (j : Nat) : (s.setPart k x).care j = s.care j := rfl
@[simp] theorem State.dropPart_care_same (s : State) (k : Nat) (j : Nat) : (s.dropPart k).care j = s.care j := rfl
@[simp] theorem State.fresh_care_same (s : State) (j : Nat) : (s.fresh).care j = s.care j := rfl

@[simp] theorem State.setPort_arb_same (s : State) (k : Nat) (x : Port) (j : Nat) : (s.setPort k x).arb j = s.arb j := rfl
@[simp] theorem State.setLeaf_arb_same (s : State) (k : Nat) (x : Leaf) (j : Nat) : (s.setLeaf k x).arb j = s.arb j := rfl
@[simp] theorem State.setProt_arb_same (s : State) (k : Nat) (x : RowProt) (j : Nat) : (s.setProt k x).arb j = s.arb j := rfl
@[simp] theorem State.setCare_arb_same (s : State) (k : Nat) (x : Care) (j : Nat) : (s.setCare k x).arb j = s.arb j := rfl
@[simp] theorem State.setSck_arb_same (s : State) (k : Nat) (x : StackClk) (j : Nat) : (s.setSck k x).arb j = s.arb j := rfl
@[simp] theorem State.setHeat_arb_same (s : State) (k : Nat) (x : Heat) (j : Nat) : (s.setHeat k x).arb j = s.arb j := rfl
@[simp] theorem State.setPow_arb_same (s : State) (k : Nat) (x : Power) (j : Nat) : (s.setPow k x).arb j = s.arb j := rfl
@[simp] theorem State.setSup_arb_same (s : State) (k : Nat) (x : Supply) (j : Nat) : (s.setSup k x).arb j = s.arb j := rfl
@[simp] theorem State.setChan_arb_same (s : State) (k : Nat) (x : Chan) (j : Nat) : (s.setChan k x).arb j = s.arb j := rfl
@[simp] theorem State.setDrr_arb_same (s : State) (k : Nat) (x : Drr) (j : Nat) : (s.setDrr k x).arb j = s.arb j := rfl
@[simp] theorem State.setFeeder_arb_same (s : State) (k : Nat) (x : Feeder) (j : Nat) : (s.setFeeder k x).arb j = s.arb j := rfl
@[simp] theorem State.setPage_arb_same (s : State) (k : Nat) (x : Page) (j : Nat) : (s.setPage k x).arb j = s.arb j := rfl
@[simp] theorem State.setHost_arb_same (s : State) (k : Nat) (x : HostSt) (j : Nat) : (s.setHost k x).arb j = s.arb j := rfl
@[simp] theorem State.setTenSt_arb_same (s : State) (k : Nat) (x : TenSt) (j : Nat) : (s.setTenSt k x).arb j = s.arb j := rfl
@[simp] theorem State.setBank_arb_same (s : State) (b : Banked) (j : Nat) : (s.setBank b).arb j = s.arb j := rfl
@[simp] theorem State.setReq_arb_same (s : State) (k : Nat) (x : Req) (j : Nat) : (s.setReq k x).arb j = s.arb j := rfl
@[simp] theorem State.dropReq_arb_same (s : State) (k : Nat) (j : Nat) : (s.dropReq k).arb j = s.arb j := rfl
@[simp] theorem State.setPart_arb_same (s : State) (k : Nat) (x : Part) (j : Nat) : (s.setPart k x).arb j = s.arb j := rfl
@[simp] theorem State.dropPart_arb_same (s : State) (k : Nat) (j : Nat) : (s.dropPart k).arb j = s.arb j := rfl
@[simp] theorem State.fresh_arb_same (s : State) (j : Nat) : (s.fresh).arb j = s.arb j := rfl

@[simp] theorem State.setPort_sck_same (s : State) (k : Nat) (x : Port) (j : Nat) : (s.setPort k x).sck j = s.sck j := rfl
@[simp] theorem State.setLeaf_sck_same (s : State) (k : Nat) (x : Leaf) (j : Nat) : (s.setLeaf k x).sck j = s.sck j := rfl
@[simp] theorem State.setProt_sck_same (s : State) (k : Nat) (x : RowProt) (j : Nat) : (s.setProt k x).sck j = s.sck j := rfl
@[simp] theorem State.setCare_sck_same (s : State) (k : Nat) (x : Care) (j : Nat) : (s.setCare k x).sck j = s.sck j := rfl
@[simp] theorem State.setArb_sck_same (s : State) (k : Nat) (x : Arb) (j : Nat) : (s.setArb k x).sck j = s.sck j := rfl
@[simp] theorem State.setHeat_sck_same (s : State) (k : Nat) (x : Heat) (j : Nat) : (s.setHeat k x).sck j = s.sck j := rfl
@[simp] theorem State.setPow_sck_same (s : State) (k : Nat) (x : Power) (j : Nat) : (s.setPow k x).sck j = s.sck j := rfl
@[simp] theorem State.setSup_sck_same (s : State) (k : Nat) (x : Supply) (j : Nat) : (s.setSup k x).sck j = s.sck j := rfl
@[simp] theorem State.setChan_sck_same (s : State) (k : Nat) (x : Chan) (j : Nat) : (s.setChan k x).sck j = s.sck j := rfl
@[simp] theorem State.setDrr_sck_same (s : State) (k : Nat) (x : Drr) (j : Nat) : (s.setDrr k x).sck j = s.sck j := rfl
@[simp] theorem State.setFeeder_sck_same (s : State) (k : Nat) (x : Feeder) (j : Nat) : (s.setFeeder k x).sck j = s.sck j := rfl
@[simp] theorem State.setPage_sck_same (s : State) (k : Nat) (x : Page) (j : Nat) : (s.setPage k x).sck j = s.sck j := rfl
@[simp] theorem State.setHost_sck_same (s : State) (k : Nat) (x : HostSt) (j : Nat) : (s.setHost k x).sck j = s.sck j := rfl
@[simp] theorem State.setTenSt_sck_same (s : State) (k : Nat) (x : TenSt) (j : Nat) : (s.setTenSt k x).sck j = s.sck j := rfl
@[simp] theorem State.setBank_sck_same (s : State) (b : Banked) (j : Nat) : (s.setBank b).sck j = s.sck j := rfl
@[simp] theorem State.setReq_sck_same (s : State) (k : Nat) (x : Req) (j : Nat) : (s.setReq k x).sck j = s.sck j := rfl
@[simp] theorem State.dropReq_sck_same (s : State) (k : Nat) (j : Nat) : (s.dropReq k).sck j = s.sck j := rfl
@[simp] theorem State.setPart_sck_same (s : State) (k : Nat) (x : Part) (j : Nat) : (s.setPart k x).sck j = s.sck j := rfl
@[simp] theorem State.dropPart_sck_same (s : State) (k : Nat) (j : Nat) : (s.dropPart k).sck j = s.sck j := rfl
@[simp] theorem State.fresh_sck_same (s : State) (j : Nat) : (s.fresh).sck j = s.sck j := rfl

@[simp] theorem State.setPort_heatOf_same (s : State) (k : Nat) (x : Port) (j : Nat) : (s.setPort k x).heatOf j = s.heatOf j := rfl
@[simp] theorem State.setLeaf_heatOf_same (s : State) (k : Nat) (x : Leaf) (j : Nat) : (s.setLeaf k x).heatOf j = s.heatOf j := rfl
@[simp] theorem State.setProt_heatOf_same (s : State) (k : Nat) (x : RowProt) (j : Nat) : (s.setProt k x).heatOf j = s.heatOf j := rfl
@[simp] theorem State.setCare_heatOf_same (s : State) (k : Nat) (x : Care) (j : Nat) : (s.setCare k x).heatOf j = s.heatOf j := rfl
@[simp] theorem State.setArb_heatOf_same (s : State) (k : Nat) (x : Arb) (j : Nat) : (s.setArb k x).heatOf j = s.heatOf j := rfl
@[simp] theorem State.setSck_heatOf_same (s : State) (k : Nat) (x : StackClk) (j : Nat) : (s.setSck k x).heatOf j = s.heatOf j := rfl
@[simp] theorem State.setPow_heatOf_same (s : State) (k : Nat) (x : Power) (j : Nat) : (s.setPow k x).heatOf j = s.heatOf j := rfl
@[simp] theorem State.setSup_heatOf_same (s : State) (k : Nat) (x : Supply) (j : Nat) : (s.setSup k x).heatOf j = s.heatOf j := rfl
@[simp] theorem State.setChan_heatOf_same (s : State) (k : Nat) (x : Chan) (j : Nat) : (s.setChan k x).heatOf j = s.heatOf j := rfl
@[simp] theorem State.setDrr_heatOf_same (s : State) (k : Nat) (x : Drr) (j : Nat) : (s.setDrr k x).heatOf j = s.heatOf j := rfl
@[simp] theorem State.setFeeder_heatOf_same (s : State) (k : Nat) (x : Feeder) (j : Nat) : (s.setFeeder k x).heatOf j = s.heatOf j := rfl
@[simp] theorem State.setPage_heatOf_same (s : State) (k : Nat) (x : Page) (j : Nat) : (s.setPage k x).heatOf j = s.heatOf j := rfl
@[simp] theorem State.setHost_heatOf_same (s : State) (k : Nat) (x : HostSt) (j : Nat) : (s.setHost k x).heatOf j = s.heatOf j := rfl
@[simp] theorem State.setTenSt_heatOf_same (s : State) (k : Nat) (x : TenSt) (j : Nat) : (s.setTenSt k x).heatOf j = s.heatOf j := rfl
@[simp] theorem State.setBank_heatOf_same (s : State) (b : Banked) (j : Nat) : (s.setBank b).heatOf j = s.heatOf j := rfl
@[simp] theorem State.setReq_heatOf_same (s : State) (k : Nat) (x : Req) (j : Nat) : (s.setReq k x).heatOf j = s.heatOf j := rfl
@[simp] theorem State.dropReq_heatOf_same (s : State) (k : Nat) (j : Nat) : (s.dropReq k).heatOf j = s.heatOf j := rfl
@[simp] theorem State.setPart_heatOf_same (s : State) (k : Nat) (x : Part) (j : Nat) : (s.setPart k x).heatOf j = s.heatOf j := rfl
@[simp] theorem State.dropPart_heatOf_same (s : State) (k : Nat) (j : Nat) : (s.dropPart k).heatOf j = s.heatOf j := rfl
@[simp] theorem State.fresh_heatOf_same (s : State) (j : Nat) : (s.fresh).heatOf j = s.heatOf j := rfl

@[simp] theorem State.setPort_pow_same (s : State) (k : Nat) (x : Port) (j : Nat) : (s.setPort k x).pow j = s.pow j := rfl
@[simp] theorem State.setLeaf_pow_same (s : State) (k : Nat) (x : Leaf) (j : Nat) : (s.setLeaf k x).pow j = s.pow j := rfl
@[simp] theorem State.setProt_pow_same (s : State) (k : Nat) (x : RowProt) (j : Nat) : (s.setProt k x).pow j = s.pow j := rfl
@[simp] theorem State.setCare_pow_same (s : State) (k : Nat) (x : Care) (j : Nat) : (s.setCare k x).pow j = s.pow j := rfl
@[simp] theorem State.setArb_pow_same (s : State) (k : Nat) (x : Arb) (j : Nat) : (s.setArb k x).pow j = s.pow j := rfl
@[simp] theorem State.setSck_pow_same (s : State) (k : Nat) (x : StackClk) (j : Nat) : (s.setSck k x).pow j = s.pow j := rfl
@[simp] theorem State.setHeat_pow_same (s : State) (k : Nat) (x : Heat) (j : Nat) : (s.setHeat k x).pow j = s.pow j := rfl
@[simp] theorem State.setSup_pow_same (s : State) (k : Nat) (x : Supply) (j : Nat) : (s.setSup k x).pow j = s.pow j := rfl
@[simp] theorem State.setChan_pow_same (s : State) (k : Nat) (x : Chan) (j : Nat) : (s.setChan k x).pow j = s.pow j := rfl
@[simp] theorem State.setDrr_pow_same (s : State) (k : Nat) (x : Drr) (j : Nat) : (s.setDrr k x).pow j = s.pow j := rfl
@[simp] theorem State.setFeeder_pow_same (s : State) (k : Nat) (x : Feeder) (j : Nat) : (s.setFeeder k x).pow j = s.pow j := rfl
@[simp] theorem State.setPage_pow_same (s : State) (k : Nat) (x : Page) (j : Nat) : (s.setPage k x).pow j = s.pow j := rfl
@[simp] theorem State.setHost_pow_same (s : State) (k : Nat) (x : HostSt) (j : Nat) : (s.setHost k x).pow j = s.pow j := rfl
@[simp] theorem State.setTenSt_pow_same (s : State) (k : Nat) (x : TenSt) (j : Nat) : (s.setTenSt k x).pow j = s.pow j := rfl
@[simp] theorem State.setBank_pow_same (s : State) (b : Banked) (j : Nat) : (s.setBank b).pow j = s.pow j := rfl
@[simp] theorem State.setReq_pow_same (s : State) (k : Nat) (x : Req) (j : Nat) : (s.setReq k x).pow j = s.pow j := rfl
@[simp] theorem State.dropReq_pow_same (s : State) (k : Nat) (j : Nat) : (s.dropReq k).pow j = s.pow j := rfl
@[simp] theorem State.setPart_pow_same (s : State) (k : Nat) (x : Part) (j : Nat) : (s.setPart k x).pow j = s.pow j := rfl
@[simp] theorem State.dropPart_pow_same (s : State) (k : Nat) (j : Nat) : (s.dropPart k).pow j = s.pow j := rfl
@[simp] theorem State.fresh_pow_same (s : State) (j : Nat) : (s.fresh).pow j = s.pow j := rfl

@[simp] theorem State.setPort_sup_same (s : State) (k : Nat) (x : Port) (j : Nat) : (s.setPort k x).sup j = s.sup j := rfl
@[simp] theorem State.setLeaf_sup_same (s : State) (k : Nat) (x : Leaf) (j : Nat) : (s.setLeaf k x).sup j = s.sup j := rfl
@[simp] theorem State.setProt_sup_same (s : State) (k : Nat) (x : RowProt) (j : Nat) : (s.setProt k x).sup j = s.sup j := rfl
@[simp] theorem State.setCare_sup_same (s : State) (k : Nat) (x : Care) (j : Nat) : (s.setCare k x).sup j = s.sup j := rfl
@[simp] theorem State.setArb_sup_same (s : State) (k : Nat) (x : Arb) (j : Nat) : (s.setArb k x).sup j = s.sup j := rfl
@[simp] theorem State.setSck_sup_same (s : State) (k : Nat) (x : StackClk) (j : Nat) : (s.setSck k x).sup j = s.sup j := rfl
@[simp] theorem State.setHeat_sup_same (s : State) (k : Nat) (x : Heat) (j : Nat) : (s.setHeat k x).sup j = s.sup j := rfl
@[simp] theorem State.setPow_sup_same (s : State) (k : Nat) (x : Power) (j : Nat) : (s.setPow k x).sup j = s.sup j := rfl
@[simp] theorem State.setChan_sup_same (s : State) (k : Nat) (x : Chan) (j : Nat) : (s.setChan k x).sup j = s.sup j := rfl
@[simp] theorem State.setDrr_sup_same (s : State) (k : Nat) (x : Drr) (j : Nat) : (s.setDrr k x).sup j = s.sup j := rfl
@[simp] theorem State.setFeeder_sup_same (s : State) (k : Nat) (x : Feeder) (j : Nat) : (s.setFeeder k x).sup j = s.sup j := rfl
@[simp] theorem State.setPage_sup_same (s : State) (k : Nat) (x : Page) (j : Nat) : (s.setPage k x).sup j = s.sup j := rfl
@[simp] theorem State.setHost_sup_same (s : State) (k : Nat) (x : HostSt) (j : Nat) : (s.setHost k x).sup j = s.sup j := rfl
@[simp] theorem State.setTenSt_sup_same (s : State) (k : Nat) (x : TenSt) (j : Nat) : (s.setTenSt k x).sup j = s.sup j := rfl
@[simp] theorem State.setBank_sup_same (s : State) (b : Banked) (j : Nat) : (s.setBank b).sup j = s.sup j := rfl
@[simp] theorem State.setReq_sup_same (s : State) (k : Nat) (x : Req) (j : Nat) : (s.setReq k x).sup j = s.sup j := rfl
@[simp] theorem State.dropReq_sup_same (s : State) (k : Nat) (j : Nat) : (s.dropReq k).sup j = s.sup j := rfl
@[simp] theorem State.setPart_sup_same (s : State) (k : Nat) (x : Part) (j : Nat) : (s.setPart k x).sup j = s.sup j := rfl
@[simp] theorem State.dropPart_sup_same (s : State) (k : Nat) (j : Nat) : (s.dropPart k).sup j = s.sup j := rfl
@[simp] theorem State.fresh_sup_same (s : State) (j : Nat) : (s.fresh).sup j = s.sup j := rfl

@[simp] theorem State.setPort_chan_same (s : State) (k : Nat) (x : Port) (j : Nat) : (s.setPort k x).chan j = s.chan j := rfl
@[simp] theorem State.setLeaf_chan_same (s : State) (k : Nat) (x : Leaf) (j : Nat) : (s.setLeaf k x).chan j = s.chan j := rfl
@[simp] theorem State.setProt_chan_same (s : State) (k : Nat) (x : RowProt) (j : Nat) : (s.setProt k x).chan j = s.chan j := rfl
@[simp] theorem State.setCare_chan_same (s : State) (k : Nat) (x : Care) (j : Nat) : (s.setCare k x).chan j = s.chan j := rfl
@[simp] theorem State.setArb_chan_same (s : State) (k : Nat) (x : Arb) (j : Nat) : (s.setArb k x).chan j = s.chan j := rfl
@[simp] theorem State.setSck_chan_same (s : State) (k : Nat) (x : StackClk) (j : Nat) : (s.setSck k x).chan j = s.chan j := rfl
@[simp] theorem State.setHeat_chan_same (s : State) (k : Nat) (x : Heat) (j : Nat) : (s.setHeat k x).chan j = s.chan j := rfl
@[simp] theorem State.setPow_chan_same (s : State) (k : Nat) (x : Power) (j : Nat) : (s.setPow k x).chan j = s.chan j := rfl
@[simp] theorem State.setSup_chan_same (s : State) (k : Nat) (x : Supply) (j : Nat) : (s.setSup k x).chan j = s.chan j := rfl
@[simp] theorem State.setDrr_chan_same (s : State) (k : Nat) (x : Drr) (j : Nat) : (s.setDrr k x).chan j = s.chan j := rfl
@[simp] theorem State.setFeeder_chan_same (s : State) (k : Nat) (x : Feeder) (j : Nat) : (s.setFeeder k x).chan j = s.chan j := rfl
@[simp] theorem State.setPage_chan_same (s : State) (k : Nat) (x : Page) (j : Nat) : (s.setPage k x).chan j = s.chan j := rfl
@[simp] theorem State.setHost_chan_same (s : State) (k : Nat) (x : HostSt) (j : Nat) : (s.setHost k x).chan j = s.chan j := rfl
@[simp] theorem State.setTenSt_chan_same (s : State) (k : Nat) (x : TenSt) (j : Nat) : (s.setTenSt k x).chan j = s.chan j := rfl
@[simp] theorem State.setBank_chan_same (s : State) (b : Banked) (j : Nat) : (s.setBank b).chan j = s.chan j := rfl
@[simp] theorem State.setReq_chan_same (s : State) (k : Nat) (x : Req) (j : Nat) : (s.setReq k x).chan j = s.chan j := rfl
@[simp] theorem State.dropReq_chan_same (s : State) (k : Nat) (j : Nat) : (s.dropReq k).chan j = s.chan j := rfl
@[simp] theorem State.setPart_chan_same (s : State) (k : Nat) (x : Part) (j : Nat) : (s.setPart k x).chan j = s.chan j := rfl
@[simp] theorem State.dropPart_chan_same (s : State) (k : Nat) (j : Nat) : (s.dropPart k).chan j = s.chan j := rfl
@[simp] theorem State.fresh_chan_same (s : State) (j : Nat) : (s.fresh).chan j = s.chan j := rfl

@[simp] theorem State.setPort_drr_same (s : State) (k : Nat) (x : Port) (j : Nat) : (s.setPort k x).drr j = s.drr j := rfl
@[simp] theorem State.setLeaf_drr_same (s : State) (k : Nat) (x : Leaf) (j : Nat) : (s.setLeaf k x).drr j = s.drr j := rfl
@[simp] theorem State.setProt_drr_same (s : State) (k : Nat) (x : RowProt) (j : Nat) : (s.setProt k x).drr j = s.drr j := rfl
@[simp] theorem State.setCare_drr_same (s : State) (k : Nat) (x : Care) (j : Nat) : (s.setCare k x).drr j = s.drr j := rfl
@[simp] theorem State.setArb_drr_same (s : State) (k : Nat) (x : Arb) (j : Nat) : (s.setArb k x).drr j = s.drr j := rfl
@[simp] theorem State.setSck_drr_same (s : State) (k : Nat) (x : StackClk) (j : Nat) : (s.setSck k x).drr j = s.drr j := rfl
@[simp] theorem State.setHeat_drr_same (s : State) (k : Nat) (x : Heat) (j : Nat) : (s.setHeat k x).drr j = s.drr j := rfl
@[simp] theorem State.setPow_drr_same (s : State) (k : Nat) (x : Power) (j : Nat) : (s.setPow k x).drr j = s.drr j := rfl
@[simp] theorem State.setSup_drr_same (s : State) (k : Nat) (x : Supply) (j : Nat) : (s.setSup k x).drr j = s.drr j := rfl
@[simp] theorem State.setChan_drr_same (s : State) (k : Nat) (x : Chan) (j : Nat) : (s.setChan k x).drr j = s.drr j := rfl
@[simp] theorem State.setFeeder_drr_same (s : State) (k : Nat) (x : Feeder) (j : Nat) : (s.setFeeder k x).drr j = s.drr j := rfl
@[simp] theorem State.setPage_drr_same (s : State) (k : Nat) (x : Page) (j : Nat) : (s.setPage k x).drr j = s.drr j := rfl
@[simp] theorem State.setHost_drr_same (s : State) (k : Nat) (x : HostSt) (j : Nat) : (s.setHost k x).drr j = s.drr j := rfl
@[simp] theorem State.setTenSt_drr_same (s : State) (k : Nat) (x : TenSt) (j : Nat) : (s.setTenSt k x).drr j = s.drr j := rfl
@[simp] theorem State.setBank_drr_same (s : State) (b : Banked) (j : Nat) : (s.setBank b).drr j = s.drr j := rfl
@[simp] theorem State.setReq_drr_same (s : State) (k : Nat) (x : Req) (j : Nat) : (s.setReq k x).drr j = s.drr j := rfl
@[simp] theorem State.dropReq_drr_same (s : State) (k : Nat) (j : Nat) : (s.dropReq k).drr j = s.drr j := rfl
@[simp] theorem State.setPart_drr_same (s : State) (k : Nat) (x : Part) (j : Nat) : (s.setPart k x).drr j = s.drr j := rfl
@[simp] theorem State.dropPart_drr_same (s : State) (k : Nat) (j : Nat) : (s.dropPart k).drr j = s.drr j := rfl
@[simp] theorem State.fresh_drr_same (s : State) (j : Nat) : (s.fresh).drr j = s.drr j := rfl

@[simp] theorem State.setPort_feeder_same (s : State) (k : Nat) (x : Port) (j : Nat) : (s.setPort k x).feeder j = s.feeder j := rfl
@[simp] theorem State.setLeaf_feeder_same (s : State) (k : Nat) (x : Leaf) (j : Nat) : (s.setLeaf k x).feeder j = s.feeder j := rfl
@[simp] theorem State.setProt_feeder_same (s : State) (k : Nat) (x : RowProt) (j : Nat) : (s.setProt k x).feeder j = s.feeder j := rfl
@[simp] theorem State.setCare_feeder_same (s : State) (k : Nat) (x : Care) (j : Nat) : (s.setCare k x).feeder j = s.feeder j := rfl
@[simp] theorem State.setArb_feeder_same (s : State) (k : Nat) (x : Arb) (j : Nat) : (s.setArb k x).feeder j = s.feeder j := rfl
@[simp] theorem State.setSck_feeder_same (s : State) (k : Nat) (x : StackClk) (j : Nat) : (s.setSck k x).feeder j = s.feeder j := rfl
@[simp] theorem State.setHeat_feeder_same (s : State) (k : Nat) (x : Heat) (j : Nat) : (s.setHeat k x).feeder j = s.feeder j := rfl
@[simp] theorem State.setPow_feeder_same (s : State) (k : Nat) (x : Power) (j : Nat) : (s.setPow k x).feeder j = s.feeder j := rfl
@[simp] theorem State.setSup_feeder_same (s : State) (k : Nat) (x : Supply) (j : Nat) : (s.setSup k x).feeder j = s.feeder j := rfl
@[simp] theorem State.setChan_feeder_same (s : State) (k : Nat) (x : Chan) (j : Nat) : (s.setChan k x).feeder j = s.feeder j := rfl
@[simp] theorem State.setDrr_feeder_same (s : State) (k : Nat) (x : Drr) (j : Nat) : (s.setDrr k x).feeder j = s.feeder j := rfl
@[simp] theorem State.setPage_feeder_same (s : State) (k : Nat) (x : Page) (j : Nat) : (s.setPage k x).feeder j = s.feeder j := rfl
@[simp] theorem State.setHost_feeder_same (s : State) (k : Nat) (x : HostSt) (j : Nat) : (s.setHost k x).feeder j = s.feeder j := rfl
@[simp] theorem State.setTenSt_feeder_same (s : State) (k : Nat) (x : TenSt) (j : Nat) : (s.setTenSt k x).feeder j = s.feeder j := rfl
@[simp] theorem State.setBank_feeder_same (s : State) (b : Banked) (j : Nat) : (s.setBank b).feeder j = s.feeder j := rfl
@[simp] theorem State.setReq_feeder_same (s : State) (k : Nat) (x : Req) (j : Nat) : (s.setReq k x).feeder j = s.feeder j := rfl
@[simp] theorem State.dropReq_feeder_same (s : State) (k : Nat) (j : Nat) : (s.dropReq k).feeder j = s.feeder j := rfl
@[simp] theorem State.setPart_feeder_same (s : State) (k : Nat) (x : Part) (j : Nat) : (s.setPart k x).feeder j = s.feeder j := rfl
@[simp] theorem State.dropPart_feeder_same (s : State) (k : Nat) (j : Nat) : (s.dropPart k).feeder j = s.feeder j := rfl
@[simp] theorem State.fresh_feeder_same (s : State) (j : Nat) : (s.fresh).feeder j = s.feeder j := rfl

@[simp] theorem State.setPort_page_same (s : State) (k : Nat) (x : Port) (j : Nat) : (s.setPort k x).page j = s.page j := rfl
@[simp] theorem State.setLeaf_page_same (s : State) (k : Nat) (x : Leaf) (j : Nat) : (s.setLeaf k x).page j = s.page j := rfl
@[simp] theorem State.setProt_page_same (s : State) (k : Nat) (x : RowProt) (j : Nat) : (s.setProt k x).page j = s.page j := rfl
@[simp] theorem State.setCare_page_same (s : State) (k : Nat) (x : Care) (j : Nat) : (s.setCare k x).page j = s.page j := rfl
@[simp] theorem State.setArb_page_same (s : State) (k : Nat) (x : Arb) (j : Nat) : (s.setArb k x).page j = s.page j := rfl
@[simp] theorem State.setSck_page_same (s : State) (k : Nat) (x : StackClk) (j : Nat) : (s.setSck k x).page j = s.page j := rfl
@[simp] theorem State.setHeat_page_same (s : State) (k : Nat) (x : Heat) (j : Nat) : (s.setHeat k x).page j = s.page j := rfl
@[simp] theorem State.setPow_page_same (s : State) (k : Nat) (x : Power) (j : Nat) : (s.setPow k x).page j = s.page j := rfl
@[simp] theorem State.setSup_page_same (s : State) (k : Nat) (x : Supply) (j : Nat) : (s.setSup k x).page j = s.page j := rfl
@[simp] theorem State.setChan_page_same (s : State) (k : Nat) (x : Chan) (j : Nat) : (s.setChan k x).page j = s.page j := rfl
@[simp] theorem State.setDrr_page_same (s : State) (k : Nat) (x : Drr) (j : Nat) : (s.setDrr k x).page j = s.page j := rfl
@[simp] theorem State.setFeeder_page_same (s : State) (k : Nat) (x : Feeder) (j : Nat) : (s.setFeeder k x).page j = s.page j := rfl
@[simp] theorem State.setHost_page_same (s : State) (k : Nat) (x : HostSt) (j : Nat) : (s.setHost k x).page j = s.page j := rfl
@[simp] theorem State.setTenSt_page_same (s : State) (k : Nat) (x : TenSt) (j : Nat) : (s.setTenSt k x).page j = s.page j := rfl
@[simp] theorem State.setBank_page_same (s : State) (b : Banked) (j : Nat) : (s.setBank b).page j = s.page j := rfl
@[simp] theorem State.setReq_page_same (s : State) (k : Nat) (x : Req) (j : Nat) : (s.setReq k x).page j = s.page j := rfl
@[simp] theorem State.dropReq_page_same (s : State) (k : Nat) (j : Nat) : (s.dropReq k).page j = s.page j := rfl
@[simp] theorem State.setPart_page_same (s : State) (k : Nat) (x : Part) (j : Nat) : (s.setPart k x).page j = s.page j := rfl
@[simp] theorem State.dropPart_page_same (s : State) (k : Nat) (j : Nat) : (s.dropPart k).page j = s.page j := rfl
@[simp] theorem State.fresh_page_same (s : State) (j : Nat) : (s.fresh).page j = s.page j := rfl

@[simp] theorem State.setPort_host_same (s : State) (k : Nat) (x : Port) (j : Nat) : (s.setPort k x).host j = s.host j := rfl
@[simp] theorem State.setLeaf_host_same (s : State) (k : Nat) (x : Leaf) (j : Nat) : (s.setLeaf k x).host j = s.host j := rfl
@[simp] theorem State.setProt_host_same (s : State) (k : Nat) (x : RowProt) (j : Nat) : (s.setProt k x).host j = s.host j := rfl
@[simp] theorem State.setCare_host_same (s : State) (k : Nat) (x : Care) (j : Nat) : (s.setCare k x).host j = s.host j := rfl
@[simp] theorem State.setArb_host_same (s : State) (k : Nat) (x : Arb) (j : Nat) : (s.setArb k x).host j = s.host j := rfl
@[simp] theorem State.setSck_host_same (s : State) (k : Nat) (x : StackClk) (j : Nat) : (s.setSck k x).host j = s.host j := rfl
@[simp] theorem State.setHeat_host_same (s : State) (k : Nat) (x : Heat) (j : Nat) : (s.setHeat k x).host j = s.host j := rfl
@[simp] theorem State.setPow_host_same (s : State) (k : Nat) (x : Power) (j : Nat) : (s.setPow k x).host j = s.host j := rfl
@[simp] theorem State.setSup_host_same (s : State) (k : Nat) (x : Supply) (j : Nat) : (s.setSup k x).host j = s.host j := rfl
@[simp] theorem State.setChan_host_same (s : State) (k : Nat) (x : Chan) (j : Nat) : (s.setChan k x).host j = s.host j := rfl
@[simp] theorem State.setDrr_host_same (s : State) (k : Nat) (x : Drr) (j : Nat) : (s.setDrr k x).host j = s.host j := rfl
@[simp] theorem State.setFeeder_host_same (s : State) (k : Nat) (x : Feeder) (j : Nat) : (s.setFeeder k x).host j = s.host j := rfl
@[simp] theorem State.setPage_host_same (s : State) (k : Nat) (x : Page) (j : Nat) : (s.setPage k x).host j = s.host j := rfl
@[simp] theorem State.setTenSt_host_same (s : State) (k : Nat) (x : TenSt) (j : Nat) : (s.setTenSt k x).host j = s.host j := rfl
@[simp] theorem State.setBank_host_same (s : State) (b : Banked) (j : Nat) : (s.setBank b).host j = s.host j := rfl
@[simp] theorem State.setReq_host_same (s : State) (k : Nat) (x : Req) (j : Nat) : (s.setReq k x).host j = s.host j := rfl
@[simp] theorem State.dropReq_host_same (s : State) (k : Nat) (j : Nat) : (s.dropReq k).host j = s.host j := rfl
@[simp] theorem State.setPart_host_same (s : State) (k : Nat) (x : Part) (j : Nat) : (s.setPart k x).host j = s.host j := rfl
@[simp] theorem State.dropPart_host_same (s : State) (k : Nat) (j : Nat) : (s.dropPart k).host j = s.host j := rfl
@[simp] theorem State.fresh_host_same (s : State) (j : Nat) : (s.fresh).host j = s.host j := rfl

@[simp] theorem State.setPort_tenSt_same (s : State) (k : Nat) (x : Port) (j : Nat) : (s.setPort k x).tenSt j = s.tenSt j := rfl
@[simp] theorem State.setLeaf_tenSt_same (s : State) (k : Nat) (x : Leaf) (j : Nat) : (s.setLeaf k x).tenSt j = s.tenSt j := rfl
@[simp] theorem State.setProt_tenSt_same (s : State) (k : Nat) (x : RowProt) (j : Nat) : (s.setProt k x).tenSt j = s.tenSt j := rfl
@[simp] theorem State.setCare_tenSt_same (s : State) (k : Nat) (x : Care) (j : Nat) : (s.setCare k x).tenSt j = s.tenSt j := rfl
@[simp] theorem State.setArb_tenSt_same (s : State) (k : Nat) (x : Arb) (j : Nat) : (s.setArb k x).tenSt j = s.tenSt j := rfl
@[simp] theorem State.setSck_tenSt_same (s : State) (k : Nat) (x : StackClk) (j : Nat) : (s.setSck k x).tenSt j = s.tenSt j := rfl
@[simp] theorem State.setHeat_tenSt_same (s : State) (k : Nat) (x : Heat) (j : Nat) : (s.setHeat k x).tenSt j = s.tenSt j := rfl
@[simp] theorem State.setPow_tenSt_same (s : State) (k : Nat) (x : Power) (j : Nat) : (s.setPow k x).tenSt j = s.tenSt j := rfl
@[simp] theorem State.setSup_tenSt_same (s : State) (k : Nat) (x : Supply) (j : Nat) : (s.setSup k x).tenSt j = s.tenSt j := rfl
@[simp] theorem State.setChan_tenSt_same (s : State) (k : Nat) (x : Chan) (j : Nat) : (s.setChan k x).tenSt j = s.tenSt j := rfl
@[simp] theorem State.setDrr_tenSt_same (s : State) (k : Nat) (x : Drr) (j : Nat) : (s.setDrr k x).tenSt j = s.tenSt j := rfl
@[simp] theorem State.setFeeder_tenSt_same (s : State) (k : Nat) (x : Feeder) (j : Nat) : (s.setFeeder k x).tenSt j = s.tenSt j := rfl
@[simp] theorem State.setPage_tenSt_same (s : State) (k : Nat) (x : Page) (j : Nat) : (s.setPage k x).tenSt j = s.tenSt j := rfl
@[simp] theorem State.setHost_tenSt_same (s : State) (k : Nat) (x : HostSt) (j : Nat) : (s.setHost k x).tenSt j = s.tenSt j := rfl
@[simp] theorem State.setBank_tenSt_same (s : State) (b : Banked) (j : Nat) : (s.setBank b).tenSt j = s.tenSt j := rfl
@[simp] theorem State.setReq_tenSt_same (s : State) (k : Nat) (x : Req) (j : Nat) : (s.setReq k x).tenSt j = s.tenSt j := rfl
@[simp] theorem State.dropReq_tenSt_same (s : State) (k : Nat) (j : Nat) : (s.dropReq k).tenSt j = s.tenSt j := rfl
@[simp] theorem State.setPart_tenSt_same (s : State) (k : Nat) (x : Part) (j : Nat) : (s.setPart k x).tenSt j = s.tenSt j := rfl
@[simp] theorem State.dropPart_tenSt_same (s : State) (k : Nat) (j : Nat) : (s.dropPart k).tenSt j = s.tenSt j := rfl
@[simp] theorem State.fresh_tenSt_same (s : State) (j : Nat) : (s.fresh).tenSt j = s.tenSt j := rfl

/-! ## Reading what was written -/

theorem State.setPort_port_other (s : State) {k j : Nat} (x : Port) (h : j ≠ k) : (s.setPort k x).port j = s.port j :=
  Tab.get_set_other Port.reset s.ports x h

@[simp] theorem State.setPort_port_self (s : State) (k : Nat) (x : Port) : (s.setPort k x).port k = x :=
  Tab.get_set_self Port.reset s.ports k x

theorem State.setLeaf_leaf_other (s : State) {k j : Nat} (x : Leaf) (h : j ≠ k) : (s.setLeaf k x).leaf j = s.leaf j :=
  Tab.get_set_other Leaf.reset s.leaves x h

@[simp] theorem State.setLeaf_leaf_self (s : State) (k : Nat) (x : Leaf) : (s.setLeaf k x).leaf k = x :=
  Tab.get_set_self Leaf.reset s.leaves k x

theorem State.setProt_prot_other (s : State) {k j : Nat} (x : RowProt) (h : j ≠ k) : (s.setProt k x).prot j = s.prot j :=
  Tab.get_set_other RowProt.reset s.prots x h

@[simp] theorem State.setProt_prot_self (s : State) (k : Nat) (x : RowProt) : (s.setProt k x).prot k = x :=
  Tab.get_set_self RowProt.reset s.prots k x

theorem State.setCare_care_other (s : State) {k j : Nat} (x : Care) (h : j ≠ k) : (s.setCare k x).care j = s.care j :=
  Tab.get_set_other Care.reset s.cares x h

@[simp] theorem State.setCare_care_self (s : State) (k : Nat) (x : Care) : (s.setCare k x).care k = x :=
  Tab.get_set_self Care.reset s.cares k x

theorem State.setArb_arb_other (s : State) {k j : Nat} (x : Arb) (h : j ≠ k) : (s.setArb k x).arb j = s.arb j :=
  Tab.get_set_other Arb.reset s.arbs x h

@[simp] theorem State.setArb_arb_self (s : State) (k : Nat) (x : Arb) : (s.setArb k x).arb k = x :=
  Tab.get_set_self Arb.reset s.arbs k x

theorem State.setSck_sck_other (s : State) {k j : Nat} (x : StackClk) (h : j ≠ k) : (s.setSck k x).sck j = s.sck j :=
  Tab.get_set_other StackClk.reset s.sclk x h

@[simp] theorem State.setSck_sck_self (s : State) (k : Nat) (x : StackClk) : (s.setSck k x).sck k = x :=
  Tab.get_set_self StackClk.reset s.sclk k x

theorem State.setHeat_heatOf_other (s : State) {k j : Nat} (x : Heat) (h : j ≠ k) : (s.setHeat k x).heatOf j = s.heatOf j :=
  Tab.get_set_other Heat.reset s.heat x h

@[simp] theorem State.setHeat_heatOf_self (s : State) (k : Nat) (x : Heat) : (s.setHeat k x).heatOf k = x :=
  Tab.get_set_self Heat.reset s.heat k x

theorem State.setPow_pow_other (s : State) {k j : Nat} (x : Power) (h : j ≠ k) : (s.setPow k x).pow j = s.pow j :=
  Tab.get_set_other Power.reset s.power x h

@[simp] theorem State.setPow_pow_self (s : State) (k : Nat) (x : Power) : (s.setPow k x).pow k = x :=
  Tab.get_set_self Power.reset s.power k x

theorem State.setSup_sup_other (s : State) {k j : Nat} (x : Supply) (h : j ≠ k) : (s.setSup k x).sup j = s.sup j :=
  Tab.get_set_other Supply.reset s.supply x h

@[simp] theorem State.setSup_sup_self (s : State) (k : Nat) (x : Supply) : (s.setSup k x).sup k = x :=
  Tab.get_set_self Supply.reset s.supply k x

theorem State.setChan_chan_other (s : State) {k j : Nat} (x : Chan) (h : j ≠ k) : (s.setChan k x).chan j = s.chan j :=
  Tab.get_set_other Chan.reset s.chans x h

@[simp] theorem State.setChan_chan_self (s : State) (k : Nat) (x : Chan) : (s.setChan k x).chan k = x :=
  Tab.get_set_self Chan.reset s.chans k x

theorem State.setDrr_drr_other (s : State) {k j : Nat} (x : Drr) (h : j ≠ k) : (s.setDrr k x).drr j = s.drr j :=
  Tab.get_set_other Drr.reset s.drrs x h

@[simp] theorem State.setDrr_drr_self (s : State) (k : Nat) (x : Drr) : (s.setDrr k x).drr k = x :=
  Tab.get_set_self Drr.reset s.drrs k x

theorem State.setFeeder_feeder_other (s : State) {k j : Nat} (x : Feeder) (h : j ≠ k) : (s.setFeeder k x).feeder j = s.feeder j :=
  Tab.get_set_other Feeder.reset s.feeders x h

@[simp] theorem State.setFeeder_feeder_self (s : State) (k : Nat) (x : Feeder) : (s.setFeeder k x).feeder k = x :=
  Tab.get_set_self Feeder.reset s.feeders k x

theorem State.setPage_page_other (s : State) {k j : Nat} (x : Page) (h : j ≠ k) : (s.setPage k x).page j = s.page j :=
  Tab.get_set_other Page.reset s.pages x h

@[simp] theorem State.setPage_page_self (s : State) (k : Nat) (x : Page) : (s.setPage k x).page k = x :=
  Tab.get_set_self Page.reset s.pages k x

theorem State.setHost_host_other (s : State) {k j : Nat} (x : HostSt) (h : j ≠ k) : (s.setHost k x).host j = s.host j :=
  Tab.get_set_other HostSt.reset s.hosts x h

@[simp] theorem State.setHost_host_self (s : State) (k : Nat) (x : HostSt) : (s.setHost k x).host k = x :=
  Tab.get_set_self HostSt.reset s.hosts k x

theorem State.setTenSt_tenSt_other (s : State) {k j : Nat} (x : TenSt) (h : j ≠ k) : (s.setTenSt k x).tenSt j = s.tenSt j :=
  Tab.get_set_other TenSt.reset s.tenants x h

@[simp] theorem State.setTenSt_tenSt_self (s : State) (k : Nat) (x : TenSt) : (s.setTenSt k x).tenSt k = x :=
  Tab.get_set_self TenSt.reset s.tenants k x

@[simp] theorem State.setReq_req?_self (s : State) (k : Nat) (x : Req) : (s.setReq k x).req? k = some x :=
  Tab.find?_put_self s.reqs k x

theorem State.setReq_req?_other (s : State) {k j : Nat} (x : Req) (h : j ≠ k) : (s.setReq k x).req? j = s.req? j :=
  Tab.find?_put_other s.reqs x h

@[simp] theorem State.setPart_part?_self (s : State) (k : Nat) (x : Part) : (s.setPart k x).part? k = some x :=
  Tab.find?_put_self s.parts k x

theorem State.setPart_part?_other (s : State) {k j : Nat} (x : Part) (h : j ≠ k) : (s.setPart k x).part? j = s.part? j :=
  Tab.find?_put_other s.parts x h

end Sys2Proof.Machine
end

