-- ==== Sys2Proof/Tests/Slice0.lean ====
section
/-! SUPPORT. Tests: ill-formed terms, the spec's worked examples, and for every clause of a statement a state and operands
that meet its hypotheses together. -/

section

open Sys2Proof Sys2Proof.Machine

set_option Elab.async false
set_option linter.unusedVariables false

/-! ## A small machine in service

One HBM4 stack, stack 0, and the system stack 15, both powered and trained; tenant 3 of host 0 with one window of 1 GiB on
leaf 0; ports 5 and 136 live. -/

def t_slot : Slot :=
  { sized := true, signed := true, iver := 0x10000, svn := 1, raise := true, loadlen := 0x1000, caps := 0xFFFF, gens := 12,
    seq := 1, commit := true, revoked := false }
def t_dev : FlashDev :=
  { FlashDev.none with
    answers := true, sizeMiB := 16, eraseOk := true, slotA := t_slot }
def t_recs : FlashRecs :=
  { FlashRecs.none with
    trimValid := true, mapValid := true, serials := List.replicate 16 7, altSerials := List.replicate 16 0 }
def t_sup : Supply :=
  { Supply.reset with
    enable := true, good := true, goodAt := 2000, enableAt := 1000, disc := ⟨1, 0, 7, 4, 20, 4⟩, stype := 1,
    trained := true, quickDone := true, rstOutLow := false }
def t_sck : StackClk := { StackClk.reset with stc := 100000, pll := .locked, doms := 7 }
def t_up : State :=
  { State.reset with
    clk := { Clock.reset with ticks := 1000000, tb := 10000000 * 2 ^ 32, sheetStart := 10000000 }
    pins := { Pins.reset with porst := false, ready := true }
    boot := { Boot.reset with dev := t_dev, recs := t_recs, coreReset := false, firmware := true, loaded := some 0, seqAt := some 0, bkp := [] }
    supply := [(0, t_sup), (15, t_sup)]
    sclk := [(0, t_sck), (15, t_sck)]
    cares := [(0, { Care.reset with filled := true }), (1023, { Care.reset with filled := true })]
    bank := { Banked.reset with
      tenants := [(3, ⟨.active, 0, 1⟩)]
      quires := [(0, ⟨0, .active, false, false, 3, 0, 1, 5⟩)]
      windows := [(24, ⟨true, true, false, 0, 0, 0, 5⟩)] }
    ports := [(5, { Port.reset with live := true, hcred := 128, dcred := 256, rh := 32, rd := 32 }),
      (136, { Port.reset with live := true, hcred := 128, dcred := 256, rh := 32, rd := 32 })] }

/-- A request header (Table 1.2) with its parity. -/
def t_hdr (op addr len : Nat) : BitVec 128 :=
  let n := 3 + put 1 9 12 + put 8 21 4 + put op 25 5 + put addr 30 40 + put len 70 7 + put 42 77 10
  BitVec.ofNat 128 (n + put (hparOf (BitVec.ofNat 128 n)) 120 8)
/-- A full beat of zeros with good parity. -/
def t_beat : Beat := { data := 0, dvld := 0xFF, dmask := BitVec.ofNat 256 (2 ^ 256 - 1), dstain := 0, dpar := 0 }

/-- The state after a command. -/
def t_after (i : Instr) (s : State) : State := match exec i s with | .next t => t | _ => s

/-! ## Witnesses: The step -/

/-- The state after a step. -/
def t_stepped (s : State) : State := match step s with | .next t => t | _ => s
def t_front (i : Instr) : State := { t_up with pending := [i] }
def t_hot : State := { t_front .chipWarmReset with pins := { t_up.pins with thermtrip := true } }

theorem test_StepRunsTheFrontCommand_0 : ∃ (s : State) (c : Instr) (rest : List Instr),
    s.pending = c :: rest :=
  ⟨t_front .chipWarmReset, .chipWarmReset, [], rfl⟩

theorem test_EmptyQueueIsOneTick_0 : ∃ (s : State),
    s.pending = [] :=
  ⟨t_up, rfl⟩

theorem test_StepKeepsMemoryCanonical_0 : ∃ (s : State) (t : State),
    step s = .next t ∧
    Memory.wf s = true :=
  ⟨t_front .chipWarmReset, t_stepped (t_front .chipWarmReset), rfl, by decide +kernel⟩

theorem test_ThrottleLevelFollowsRequest_0 : ∃ (s : State) (t : State),
    step s = .next t ∧
    s.thrRule :=
  ⟨t_front .chipWarmReset, t_stepped (t_front .chipWarmReset), rfl, by unfold State.thrRule; decide +kernel⟩

theorem test_ReadyFallsOnlyWithCoreReset_0 : ∃ (s : State) (t : State),
    step s = .next t ∧
    s.pins.ready = true ∧
    t.pins.ready = false :=
  ⟨t_front .chipWarmReset, t_stepped (t_front .chipWarmReset), rfl, by decide +kernel⟩

theorem test_RecordsChangeOnlyAtABoundary_0 : ∃ (s : State) (t : State),
    step s = .next t :=
  ⟨t_front .chipWarmReset, t_stepped (t_front .chipWarmReset), rfl⟩

theorem test_ThermtripLatches_0 : ∃ (s : State) (t : State),
    step s = .next t ∧
    s.pins.thermtrip = true :=
  ⟨t_hot, t_stepped t_hot, rfl, by decide +kernel⟩

theorem test_CommandsTouchOnlyTheirParts_0 : ∃ (i : Instr) (s : State) (t : State),
    exec i s = .next t :=
  ⟨.chipWarmReset, t_up, t_after .chipWarmReset t_up, rfl⟩


/-! ## Witnesses: Ports and requests -/

/-- Tenant 3 with a region of OFP32 in sum mode over its window. -/
def t_accu : State :=
  { t_up with bank := { t_up.bank with regions := [(192, { Region.none with sfmt := 1, dfmt := 1, acc := true, valid := true })] } }
/-- Port 5 isolated. -/
def t_iso : State := t_up.setPort 5 { t_up.port 5 with isolated := true }
/-- Port 5 holds a response beat and its credits. -/
def t_rb : RespBeat :=
  { req := 0, tag := 42, resp := 0, last := true, ntf := false, nkind := 0, sid := 1, ten := 3, hasData := true, data := 0,
    dvld := 0xFF, dstain := 0, free := false }
def t_lane : State := t_up.setPort 5 { t_up.port 5 with lane := [t_rb] }
/-- Port 5 holds a beat without a credit for it, for longer than PWD_T. -/
def t_stuck : State := t_up.setPort 5 { t_up.port 5 with lane := [t_rb], rh := 0, timer := 100000 }
/-- Feeder port 0 with a stream of tenant 3 running from slot 2. -/
def t_fs : FeederSlot := { valid := true, ten := 3, tint := 8, aen := 15, saddr := 0, slen := 3, grate := 1 }
def t_fbank : State :=
  { t_up with bank := { t_up.bank with feedPorts := [(0, ⟨true, 0⟩)], feedSlots := [(2, t_fs)] } }
/-- The window of tenant 3 as a request keeps it. -/
def t_snap : MapSnap := { MapSnap.none with windows := [⟨true, true, false, 0, 0, 0, 5⟩] }
def t_stream : Stream :=
  { slot := 2, rec_ := t_fs, snap := t_snap, region := Region.none, regIdx := 64, skew := Skew.none, step := 0, tGo := 10000000, page := 0,
    issued := 0, buffer := List.replicate 16 (0, false, false), beats := 0, marks := [10001000], least := none }
def t_feed : State := t_fbank.setFeeder 0 { Feeder.reset with stream := some t_stream }
/-- A fill of gather 0 outstanding at Felt port 136. -/
def t_fill : Fill := { key := 0, since := 0, baddr := 0, ten := 3, sid := 1, data := [] }
def t_filling : State := t_up.setPort 136 { t_up.port 136 with fills := [(7, t_fill)] }
def t_gather : Gather :=
  { req := 0, prefetch := true, db := 0, ten := 3, sid := 1, tint := 8, port := 136, arrival := 0, target := 1000, addr := 0,
    snap := t_snap, step := 0, phase := .fills,
    desc := { out := true, ftsel := 0, rowBytes := 32, nidx := 1, idxAddr := 0, tbase := 0, trows := 1, ftBaddr := 0 },
    idx := [0], row := 1, asked := false, chunks := [], rowBuf := [], outBeats := [], oor := 0, errFills := 0,
    stRow := false, fillsOut := 1, seq := 0, loggedOor := false }
def t_gfill : State := { t_filling with lake := { t_filling.lake with gathers := [(0, t_gather)] } }
def t_settled : State := { t_up with aff := [(1, ⟨5, 0, false, 0⟩)] }
def t_flap : State := { t_up with aff := [(1, ⟨5, 136, true, 3⟩)] }

/-- A beat of one burst. -/
def t_mbeat : Beat := { t_beat with dvld := 1 }

theorem test_AcceptedRequestsAreRecorded_0_rd : ∃ (i : Instr) (s : State) (p : Nat) (hb : BitVec 128) (d : List Beat) (felt : Bool),
    i.request = some (p, hb, d, felt) ∧
    (s.port p).live = true ∧
    0 < (s.port p).hcred ∧
    d.length ≤ (s.port p).dcred ∧
    (s.port p).injectParity = false ∧
    hparOk hb = true ∧
    s.checkReq p (hdrOf hb) felt = none ∧
    s.laneFits p (hdrOf hb) d :=
  ⟨.rd 5 (t_hdr 0 0 7), t_up, 5, t_hdr 0 0 7, [], false, rfl, by refine ⟨?_, ?_, ?_, ?_, ?_, ?_, .inl ?_⟩ <;> first | decide +kernel | (unfold State.dataComplete; decide +kernel)⟩

theorem test_AcceptedRequestsAreRecorded_0_wr : ∃ (i : Instr) (s : State) (p : Nat) (hb : BitVec 128) (d : List Beat) (felt : Bool),
    i.request = some (p, hb, d, felt) ∧
    (s.port p).live = true ∧
    0 < (s.port p).hcred ∧
    d.length ≤ (s.port p).dcred ∧
    (s.port p).injectParity = false ∧
    hparOk hb = true ∧
    s.checkReq p (hdrOf hb) felt = none ∧
    s.laneFits p (hdrOf hb) d :=
  ⟨.wr 5 (t_hdr 1 0 7) [t_beat], t_up, 5, t_hdr 1 0 7, [t_beat], false, rfl, by refine ⟨?_, ?_, ?_, ?_, ?_, ?_, .inl ?_⟩ <;> first | decide +kernel | (unfold State.dataComplete; decide +kernel)⟩

theorem test_AcceptedRequestsAreRecorded_0_wrm : ∃ (i : Instr) (s : State) (p : Nat) (hb : BitVec 128) (d : List Beat) (felt : Bool),
    i.request = some (p, hb, d, felt) ∧
    (s.port p).live = true ∧
    0 < (s.port p).hcred ∧
    d.length ≤ (s.port p).dcred ∧
    (s.port p).injectParity = false ∧
    hparOk hb = true ∧
    s.checkReq p (hdrOf hb) felt = none ∧
    s.laneFits p (hdrOf hb) d :=
  ⟨.wrm 5 (t_hdr 2 0 7) [t_beat], t_up, 5, t_hdr 2 0 7, [t_beat], false, rfl, by refine ⟨?_, ?_, ?_, ?_, ?_, ?_, .inl ?_⟩ <;> first | decide +kernel | (unfold State.dataComplete; decide +kernel)⟩

theorem test_AcceptedRequestsAreRecorded_0_accu : ∃ (i : Instr) (s : State) (p : Nat) (hb : BitVec 128) (d : List Beat) (felt : Bool),
    i.request = some (p, hb, d, felt) ∧
    (s.port p).live = true ∧
    0 < (s.port p).hcred ∧
    d.length ≤ (s.port p).dcred ∧
    (s.port p).injectParity = false ∧
    hparOk hb = true ∧
    s.checkReq p (hdrOf hb) felt = none ∧
    s.laneFits p (hdrOf hb) d :=
  ⟨.accu 5 (t_hdr 3 0 7) [t_beat], t_accu, 5, t_hdr 3 0 7, [t_beat], false, rfl, by refine ⟨?_, ?_, ?_, ?_, ?_, ?_, .inl ?_⟩ <;> first | decide +kernel | (unfold State.dataComplete; decide +kernel)⟩

theorem test_AcceptedRequestsAreRecorded_0_acco : ∃ (i : Instr) (s : State) (p : Nat) (hb : BitVec 128) (d : List Beat) (felt : Bool),
    i.request = some (p, hb, d, felt) ∧
    (s.port p).live = true ∧
    0 < (s.port p).hcred ∧
    d.length ≤ (s.port p).dcred ∧
    (s.port p).injectParity = false ∧
    hparOk hb = true ∧
    s.checkReq p (hdrOf hb) felt = none ∧
    s.laneFits p (hdrOf hb) d :=
  ⟨.acco 5 (t_hdr 4 0 7) [t_beat], t_accu, 5, t_hdr 4 0 7, [t_beat], false, rfl, by refine ⟨?_, ?_, ?_, ?_, ?_, ?_, .inl ?_⟩ <;> first | decide +kernel | (unfold State.dataComplete; decide +kernel)⟩

theorem test_AcceptedRequestsAreRecorded_0_gath : ∃ (i : Instr) (s : State) (p : Nat) (hb : BitVec 128) (d : List Beat) (felt : Bool),
    i.request = some (p, hb, d, felt) ∧
    (s.port p).live = true ∧
    0 < (s.port p).hcred ∧
    d.length ≤ (s.port p).dcred ∧
    (s.port p).injectParity = false ∧
    hparOk hb = true ∧
    s.checkReq p (hdrOf hb) felt = none ∧
    s.laneFits p (hdrOf hb) d :=
  ⟨.gath 5 (t_hdr 5 0 0), t_up, 5, t_hdr 5 0 0, [], false, rfl, by refine ⟨?_, ?_, ?_, ?_, ?_, ?_, .inl ?_⟩ <;> first | decide +kernel | (unfold State.dataComplete; decide +kernel)⟩

theorem test_AcceptedRequestsAreRecorded_0_mark : ∃ (i : Instr) (s : State) (p : Nat) (hb : BitVec 128) (d : List Beat) (felt : Bool),
    i.request = some (p, hb, d, felt) ∧
    (s.port p).live = true ∧
    0 < (s.port p).hcred ∧
    d.length ≤ (s.port p).dcred ∧
    (s.port p).injectParity = false ∧
    hparOk hb = true ∧
    s.checkReq p (hdrOf hb) felt = none ∧
    s.laneFits p (hdrOf hb) d :=
  ⟨.mark 5 (t_hdr 6 3 0) [t_mbeat], t_up, 5, t_hdr 6 3 0, [t_mbeat], false, rfl, by refine ⟨?_, ?_, ?_, ?_, ?_, ?_, .inl ?_⟩ <;> first | decide +kernel | (unfold State.dataComplete; decide +kernel)⟩

theorem test_AcceptedRequestsAreRecorded_0_fence : ∃ (i : Instr) (s : State) (p : Nat) (hb : BitVec 128) (d : List Beat) (felt : Bool),
    i.request = some (p, hb, d, felt) ∧
    (s.port p).live = true ∧
    0 < (s.port p).hcred ∧
    d.length ≤ (s.port p).dcred ∧
    (s.port p).injectParity = false ∧
    hparOk hb = true ∧
    s.checkReq p (hdrOf hb) felt = none ∧
    s.laneFits p (hdrOf hb) d :=
  ⟨.fence 5 (t_hdr 7 0 0), t_up, 5, t_hdr 7 0 0, [], false, rfl, by refine ⟨?_, ?_, ?_, ?_, ?_, ?_, .inl ?_⟩ <;> first | decide +kernel | (unfold State.dataComplete; decide +kernel)⟩

theorem test_AcceptedRequestsAreRecorded_0_spill : ∃ (i : Instr) (s : State) (p : Nat) (hb : BitVec 128) (d : List Beat) (felt : Bool),
    i.request = some (p, hb, d, felt) ∧
    (s.port p).live = true ∧
    0 < (s.port p).hcred ∧
    d.length ≤ (s.port p).dcred ∧
    (s.port p).injectParity = false ∧
    hparOk hb = true ∧
    s.checkReq p (hdrOf hb) felt = none ∧
    s.laneFits p (hdrOf hb) d :=
  ⟨.feltSpill 0 (t_hdr 1 0 7) [t_beat], t_up, 136, t_hdr 1 0 7, [t_beat], true, rfl, by refine ⟨?_, ?_, ?_, ?_, ?_, ?_, .inl ?_⟩ <;> first | decide +kernel | (unfold State.dataComplete; decide +kernel)⟩

theorem test_AcceptedRequestsTeachAffinity_0 : ∃ (i : Instr) (s : State) (p : Nat) (hb : BitVec 128) (d : List Beat),
    i.request = some (p, hb, d, false) ∧
    p < 128 ∧
    (s.port p).live = true ∧
    (s.port p).isolated = false ∧
    0 < (s.port p).hcred ∧
    d.length ≤ (s.port p).dcred ∧
    (s.port p).injectParity = false ∧
    hparOk hb = true ∧
    s.pins.ready = true ∧
    (hdrOf hb).op < 8 ∧
    (hdrOf hb).malformed = false ∧
    s.laneFits p (hdrOf hb) d :=
  ⟨.wr 5 (t_hdr 1 0 7) [t_beat], t_up, 5, t_hdr 1 0 7, [t_beat], rfl, by refine ⟨?_, ?_, ?_, ?_, ?_, ?_, ?_, ?_, ?_, ?_, .inl ?_⟩ <;> first | decide +kernel | (unfold State.dataComplete; decide +kernel)⟩

theorem test_FailedChecksAreAnswered_0_unmapped : ∃ (i : Instr) (s : State) (p : Nat) (hb : BitVec 128) (d : List Beat) (felt : Bool) (resp : Nat),
    i.request = some (p, hb, d, felt) ∧
    (s.port p).live = true ∧
    (s.port p).injectParity = false ∧
    hparOk hb = true ∧
    ((s.port p).isolated = false → 0 < (s.port p).hcred ∧ d.length ≤ (s.port p).dcred) ∧
    s.checkReq p (hdrOf hb) felt = some resp :=
  ⟨.rd 5 (t_hdr 0 0x80000000 7), t_up, 5, t_hdr 0 0x80000000 7, [], false, 3, rfl, by decide +kernel⟩

theorem test_FailedChecksAreAnswered_0_isolated : ∃ (i : Instr) (s : State) (p : Nat) (hb : BitVec 128) (d : List Beat) (felt : Bool) (resp : Nat),
    i.request = some (p, hb, d, felt) ∧
    (s.port p).live = true ∧
    (s.port p).injectParity = false ∧
    hparOk hb = true ∧
    ((s.port p).isolated = false → 0 < (s.port p).hcred ∧ d.length ≤ (s.port p).dcred) ∧
    s.checkReq p (hdrOf hb) felt = some resp :=
  ⟨.rd 5 (t_hdr 0 0 7), t_iso, 5, t_hdr 0 0 7, [], false, 4, rfl, by decide +kernel⟩

theorem test_BadParityIsolates_0 : ∃ (i : Instr) (s : State) (p : Nat) (hb : BitVec 128) (d : List Beat) (felt : Bool),
    i.request = some (p, hb, d, felt) ∧
    (s.port p).live = true ∧
    (s.port p).isolated = false ∧
    0 < (s.port p).hcred ∧
    d.length ≤ (s.port p).dcred ∧
    hparOk hb = false :=
  ⟨.rd 5 0x1, t_up, 5, 1, [], false, rfl, by decide +kernel⟩

theorem test_PortEventsComplete_0 : ∃ (p : Fin 138) (n m : Nat) (s : State),
    (s.port p.val).live = true :=
  ⟨5, 1, 1, t_up, by decide +kernel⟩

theorem test_PortEventsComplete_1 : ∃ (p : Fin 138) (s : State) (b : RespBeat) (rest : List RespBeat),
    (s.port p.val).lane = b :: rest ∧
    (b.free = true ∨ ((s.port p.val).live = true ∧ 1 ≤ (s.port p.val).rh ∧ (b.hasData = true → 1 ≤ (s.port p.val).rd))) ∧
    s.outOfTurn p.val [] b = false :=
  ⟨5, t_lane, t_rb, [], by decide +kernel⟩

theorem test_PortEventsComplete_2 : ∃ (p : Fin 138) (s : State),
    (∀ b ∈ (s.port p.val).lane, b.free = false) ∧
    (s.port p.val).rh = 0 :=
  ⟨5, t_stuck, by decide +kernel⟩

theorem test_PortEventsComplete_4 : ∃ (p : Fin 138) (s : State),
    s.swapDue = false ∧
    s.watchdogRuns p.val = true ∧
    s.pwdT p.val ≤ (s.port p.val).timer :=
  ⟨5, t_stuck, by decide +kernel⟩

theorem test_PortEventsComplete_5 : ∃ (p : Fin 138) (s : State),
    (s.port p.val).live = false ∧
    s.boot.coreReset = false ∧
    (p.val < 128 ∨ 136 ≤ p.val) :=
  ⟨6, t_up, by decide +kernel⟩

theorem test_PortEventsComplete_6 : ∃ (p : Fin 138) (s : State),
    (s.port p.val).live = false ∧
    s.boot.coreReset = false ∧
    128 ≤ p.val ∧
    p.val < 136 :=
  ⟨128, t_up, by decide +kernel⟩

theorem test_FeederEventsComplete_0 : ∃ (f slot : Fin 8) (s : State),
    s.pins.ready = true ∧
    (s.feeder f.val).stream = none ∧
    (s.bank.feedSlot (f.val * 8 + slot.val)).valid = true ∧
    (s.bank.feedPort f.val).fen = true :=
  ⟨0, 2, t_fbank, by decide +kernel⟩

theorem test_FeederEventsComplete_1 : ∃ (f slot : Fin 8) (s : State),
    s.pins.ready = true ∧
    (s.feeder f.val).stream.isSome = true ∧
    (s.feeder f.val).reject < 0xFFFFFFFF :=
  ⟨0, 2, t_feed, by decide +kernel⟩

theorem test_FeederEventsComplete_2 : ∃ (f : Fin 8) (s : State) (x : Stream) (w : Window) (a : Nat),
    (s.feeder f.val).stream = some x ∧
    x.issued ≤ x.rec_.slen ∧
    x.buffer.length * 32 + (x.issued - x.page) * x.pageBytes + x.pageBytes ≤ 262144 ∧
    s.placeIn x.snap (x.rec_.saddr + 4096 * x.issued) = some (w, a) :=
  ⟨0, t_feed, t_stream, ⟨true, true, false, 0, 0, 0, 5⟩, 0, by decide +kernel⟩

theorem test_FeederEventsComplete_3 : ∃ (f : Fin 8) (rdy : BitVec 4) (s u : State) (x : Stream),
    u = State.feedPages 64 (s.setFeeder f.val { s.feeder f.val with rdy := rdy.toNat, out := none }) f.val ∧
    (u.feeder f.val).stream = some x ∧
    rdy.toNat &&& x.rec_.aen = x.rec_.aen ∧
    16 ≤ x.buffer.length :=
  ⟨0, 15, t_feed, State.feedPages 64 (t_feed.setFeeder 0 { t_feed.feeder 0 with rdy := 15, out := none }) 0, t_stream, rfl, by decide +kernel⟩

theorem test_FeederEventsComplete_4 : ∃ (f : Fin 8) (rdy : BitVec 4) (s u : State) (x : Stream),
    u = State.feedPages 64 (s.setFeeder f.val { s.feeder f.val with rdy := rdy.toNat, out := none }) f.val ∧
    (u.feeder f.val).stream = some x ∧
    rdy.toNat &&& x.rec_.aen ≠ x.rec_.aen :=
  ⟨0, 7, t_feed, State.feedPages 64 (t_feed.setFeeder 0 { t_feed.feeder 0 with rdy := 7, out := none }) 0, t_stream, rfl, by decide +kernel⟩

theorem test_FeederEventsComplete_5 : ∃ (f : Fin 8) (s : State) (x : Stream),
    (s.feeder f.val).stream = some x ∧
    s.pwdT (128 + f.val) ≤ (s.feeder f.val).stall :=
  ⟨0, t_feed.setFeeder 0 { t_feed.feeder 0 with stall := 100000 }, t_stream, by decide +kernel⟩

theorem test_FillsEnd_0 : ∃ (f : Fin 2) (tag : Fin 1024) (s : State) (x : Fill),
    Tab.find? (s.port (136 + f.val)).fills tag.val = some x ∧
    Tab.find? s.lake.gathers x.key = none :=
  ⟨0, 7, t_filling, t_fill, by decide +kernel⟩

theorem test_FillsEnd_1 : ∃ (f : Fin 2) (tag : Fin 1024) (s : State) (x : Fill) (g : Gather),
    Tab.find? (s.port (136 + f.val)).fills tag.val = some x ∧
    Tab.find? s.lake.gathers x.key = some g :=
  ⟨0, 7, t_gfill, t_fill, t_gather, by decide +kernel⟩

theorem test_FillsEnd_2 : ∃ (f : Fin 2) (tag : Fin 1024) (s : State) (x : Fill),
    Tab.find? (s.port (136 + f.val)).fills tag.val = some x ∧
    x.since + s.pwdT (136 + f.val) ≤ s.clk.ticks :=
  ⟨0, 7, t_filling, t_fill, by decide +kernel⟩

theorem test_RejectedFeedStartsCount_0_notReady : ∃ (s : State),
    s.pins.ready = false :=
  ⟨{ t_feed with pins := { t_feed.pins with ready := false } }, by decide +kernel⟩

theorem test_RejectedFeedStartsCount_0_running : ∃ (f : Fin 8) (s : State),
    s.pins.ready = true ∧
    (s.feeder f.val).stream.isSome = true :=
  ⟨0, t_feed, by decide +kernel⟩

theorem test_RejectedFeedStartsCount_0_empty : ∃ (f : Fin 8) (slot : Fin 8) (s : State),
    s.pins.ready = true ∧
    (s.bank.feedSlot (f.val * 8 + slot.val)).valid = false :=
  ⟨0, 3, t_feed, by decide +kernel⟩

theorem test_NotificationsFollowTheAffinity_0_settled : ∃ (s : State) (t : State) (kind : Nat) (sid : Nat) (ten : Nat) (body : List Nat),
    t = s.notify kind sid ten body ∧
    (∃ e, Tab.find? s.aff sid = some e ∧ e.flap = false) :=
  ⟨t_settled, t_settled.notify 3 1 3 [], 3, 1, 3, [], rfl, _, rfl, rfl⟩

theorem test_NotificationsFollowTheAffinity_0_flapping : ∃ (s : State) (t : State) (kind : Nat) (sid : Nat) (ten : Nat) (body : List Nat),
    t = s.notify kind sid ten body ∧
    (∃ e, Tab.find? s.aff sid = some e ∧ e.flap = true ∧ e.alt ≠ e.port) :=
  ⟨t_flap, t_flap.notify 3 1 3 [], 3, 1, 3, [], rfl, _, rfl, rfl, by decide⟩

theorem test_NotificationsFollowTheAffinity_0_dropped : ∃ (s : State) (t : State) (kind : Nat) (sid : Nat) (ten : Nat) (body : List Nat),
    t = s.notify kind sid ten body ∧
    Tab.find? s.aff sid = none ∧
    Tab.num s.cnt.global 8 + 1 < 2 ^ 48 ∧
    Tab.find? s.trace.rate 0 = none ∧
    512 ≤ s.ringFree 1 ∧
    s.bufferBytes + 64 ≤ 65536 :=
  ⟨t_up, t_up.notify 3 1 3 [], 3, 1, 3, [], rfl, by decide +kernel⟩

theorem test_FailedChecksAreAnswered_0_notReady : ∃ (i : Instr) (s : State) (p : Nat) (hb : BitVec 128) (d : List Beat) (felt : Bool) (resp : Nat),
    i.request = some (p, hb, d, felt) ∧
    (s.port p).live = true ∧
    (s.port p).injectParity = false ∧
    hparOk hb = true ∧
    ((s.port p).isolated = false → 0 < (s.port p).hcred ∧ d.length ≤ (s.port p).dcred) ∧
    s.checkReq p (hdrOf hb) felt = some resp :=
  ⟨.rd 5 (t_hdr 0 0 7), { t_up with pins := { t_up.pins with ready := false } }, 5, t_hdr 0 0 7, [], false, 5, rfl, by decide +kernel⟩

theorem test_FailedChecksAreAnswered_0_perm : ∃ (i : Instr) (s : State) (p : Nat) (hb : BitVec 128) (d : List Beat) (felt : Bool) (resp : Nat),
    i.request = some (p, hb, d, felt) ∧
    (s.port p).live = true ∧
    (s.port p).injectParity = false ∧
    hparOk hb = true ∧
    ((s.port p).isolated = false → 0 < (s.port p).hcred ∧ d.length ≤ (s.port p).dcred) ∧
    s.checkReq p (hdrOf hb) felt = some resp :=
  ⟨.accu 5 (t_hdr 3 0 7) [t_beat], t_up, 5, t_hdr 3 0 7, [t_beat], false, 2, rfl, by decide +kernel⟩


/-! ## Witnesses: Arbitration and leaves -/

/-! ## Traffic in flight -/

/-- A request of tenant 3 at port 5 and its part at stack 0. -/
def t_req (op : Nat) : Req :=
  { port := 5, tag := 42, sid := 1, ten := 3, tint := 8, op := op, addr := 0, len := 7, cidx := 0, ccnt := 0, arrival := 0,
    target := 1000, need := 256, beats := [t_beat], qbase := 0, qk := 0, a := 0,
    region := { Region.none with sfmt := 1, dfmt := 1, acc := true, valid := true }, regIdx := 0, skew := Skew.none,
    step := 0, charge := 256, colour := .green, got := [], formed := 0, stained := false, phase := .live, status := 0,
    traced := false, grantAt := 0, servedAt := 0, stack := 0, places := 0, ctx := 0, lvl := 0, snap := MapSnap.none }
def t_part (g : Stage) : Part :=
  { req := 1, stack := 0, stage := g, since := 0, pieces := [], left := 1, toServe := 0, lvl := 0, late := false, bridge := .none,
    xbar := .none, inQuire := false, inLake := false }
def t_piece : Piece := { leaf := 0, la := 0, nb := 8, words := [] }
def t_flow (op : Nat) (g : Stage) : State := { t_accu with reqs := [(1, t_req op)], parts := [(16, t_part g)], nextId := 2 }
def t_granule : State := { t_flow 1 .ready with parts := [(16, { t_part .ready with pieces := [t_piece] })] }
def t_cand (op : Nat) (g : Stage) : Cand := (16, t_part g, t_req op)

/-- An entry of leaf 0 for row 9 of bank 2. -/
def t_ent (wr : Bool) : Entry :=
  { id := 1, wr := wr, lake := false, bank := 2, row := 9, col := 0, la := 0, nb := 1, ten := 3, sid := 1, tint := 8,
    deadline := 200000, u1t := 190000, u2t := 195000, port := 5, urg := 0, haz := false,
    words := if wr then List.replicate 4 ⟨0x1234, 0xFF, false⟩ else [], raw := [], at_ := 0, src := .part 1 0 }
/-- Leaf 0 with that entry, its bank with a row open or none. -/
def t_leaf (wr : Bool) (row : Option Nat) : State :=
  t_up.setLeaf 0 { Leaf.reset with
    queue := [t_ent wr], writing := wr, banks := [(2, { Bank.reset with openRow := row })], tickOrigin := 120000000 }

/-- A read of leaf 0 on its way back. -/
def t_raw : List (Word64 × Byte) := List.replicate 4 (0, 0xFF)
def t_fly (src : Src) : State :=
  { t_up.setLeaf 0 { Leaf.reset with inflight := [{ t_ent false with raw := t_raw, src := src }] } with
    reqs := [(1, t_req 0)], parts := [(16, t_part .admitted)], nextId := 2 }
def t_job : AccuJob :=
  { stack := 0, leaf := 0, la := 0, nb := 1, req := 1, ten := 3, sid := 1, tint := 8, port := 5, arrival := 0, target := 1000,
    region := { Region.none with sfmt := 1, dfmt := 1, acc := true, valid := true }, regIdx := 0, step := 0, pageAddr := 0,
    first := 0, vals := [], old := none, asked := true, words := [] }
def t_tile : Tile :=
  { stack := 0, qbase := 0, qk := 0, a := 0, ten := 3, addr := 0, len := 7, ccnt := 1,
    region := { Region.none with sfmt := 1, dfmt := 1, acc := true, valid := true }, regIdx := 0, tmo := 100, elapsed := 0,
    m := 8, slots := 1, sum := [], next := 1, arrived := 1, parked := [], waiting := [], oldReady := false, got := [],
    sid := 1, step := 0, sid0 := none, step0 := none, tint := 8, port := 5, arrival := 0, target := 1000, timedOut := false }
def t_flyAccu : State := { t_fly (.accu 1) with lake := { Lake.reset with accus := [(1, t_job)] } }
def t_flyTile : State := { t_fly (.tile 1) with lake := { Lake.reset with tiles := [(1, t_tile)] } }

theorem test_ArbiterEventsComplete_0_accu : ∃ (k : Fin 16) (s : State) (c : Cand),
    s.partsAt k.val (fun g => g == .ready) = [c] ∧
    (∀ x ∈ s.parts, x.2.stack = k.val → ∀ since, x.2.stage ≠ .lakeHeld since) ∧
    s.stackRetries k.val = false ∧
    s.eligible k.val c = true ∧
    s.admissible k.val c = true ∧
    (s.arb k.val).rankPin = none ∧
    (s.arb k.val).waitPin = none ∧
    s.lakeCheck k.val c.2.1 c.2.2 = .pass ∧
    (c.2.2.op = 1 ∨ c.2.2.op = 2 ∨ c.2.2.op = 3 ∨ c.2.2.op = 4) ∧
    0 < lanePieces c.2.1 c.2.2 :=
  ⟨0, t_flow 3 .ready, t_cand 3 .ready, by decide +kernel, (by
    intro x hx _ since e
    have hp : ∀ x ∈ (t_flow 3 .ready).parts, x.2.stage = .ready := by decide +kernel
    rw [hp x hx] at e
    cases e), by decide +kernel⟩

theorem test_ArbiterEventsComplete_0_acco : ∃ (k : Fin 16) (s : State) (c : Cand),
    s.partsAt k.val (fun g => g == .ready) = [c] ∧
    (∀ x ∈ s.parts, x.2.stack = k.val → ∀ since, x.2.stage ≠ .lakeHeld since) ∧
    s.stackRetries k.val = false ∧
    s.eligible k.val c = true ∧
    s.admissible k.val c = true ∧
    (s.arb k.val).rankPin = none ∧
    (s.arb k.val).waitPin = none ∧
    s.lakeCheck k.val c.2.1 c.2.2 = .pass ∧
    (c.2.2.op = 1 ∨ c.2.2.op = 2 ∨ c.2.2.op = 3 ∨ c.2.2.op = 4) ∧
    0 < lanePieces c.2.1 c.2.2 :=
  ⟨0, t_flow 4 .ready, t_cand 4 .ready, by decide +kernel, (by
    intro x hx _ since e
    have hp : ∀ x ∈ (t_flow 4 .ready).parts, x.2.stage = .ready := by decide +kernel
    rw [hp x hx] at e
    cases e), by decide +kernel⟩

theorem test_ArbiterEventsComplete_0_wr : ∃ (k : Fin 16) (s : State) (c : Cand),
    s.partsAt k.val (fun g => g == .ready) = [c] ∧
    (∀ x ∈ s.parts, x.2.stack = k.val → ∀ since, x.2.stage ≠ .lakeHeld since) ∧
    s.stackRetries k.val = false ∧
    s.eligible k.val c = true ∧
    s.admissible k.val c = true ∧
    (s.arb k.val).rankPin = none ∧
    (s.arb k.val).waitPin = none ∧
    s.lakeCheck k.val c.2.1 c.2.2 = .pass ∧
    (c.2.2.op = 1 ∨ c.2.2.op = 2 ∨ c.2.2.op = 3 ∨ c.2.2.op = 4) ∧
    0 < lanePieces c.2.1 c.2.2 :=
  ⟨0, t_granule, (16, { t_part .ready with pieces := [t_piece] }, t_req 1), by decide +kernel, (by
    intro x hx _ since e
    have hp : ∀ x ∈ (t_granule).parts, x.2.stage = .ready := by decide +kernel
    rw [hp x hx] at e
    cases e), by decide +kernel⟩

theorem test_ArbiterEventsComplete_1 : ∃ (k : Fin 16) (s : State) (c : Cand),
    s.partsAt k.val (fun g => g == .ready) = [c] ∧
    (∀ x ∈ s.parts, x.2.stack = k.val → ∀ since, x.2.stage ≠ .lakeHeld since) ∧
    s.stackRetries k.val = false ∧
    s.eligible k.val c = true ∧
    s.admissible k.val c = true ∧
    (s.arb k.val).rankPin = none ∧
    (s.arb k.val).waitPin = none ∧
    s.lakeCheck k.val c.2.1 c.2.2 = .pass ∧
    c.2.2.op = 0 :=
  ⟨0, t_flow 0 .ready, t_cand 0 .ready, by decide +kernel, (by
    intro x hx _ since e
    have hp : ∀ x ∈ (t_flow 0 .ready).parts, x.2.stage = .ready := by decide +kernel
    rw [hp x hx] at e
    cases e), by decide +kernel⟩

theorem test_ArbiterEventsComplete_2_op1 : ∃ (k : Fin 16) (s : State) (key : Nat) (rest : List Nat) (p : Part) (r : Req),
    ((s.arb k.val).moved = key :: rest ∨ ((s.arb k.val).moved = [] ∧ s.moving k.val = [(key, p, r)] ∧ p.left = 1)) ∧
    s.part? key = some p ∧
    s.req? p.req = some r ∧
    r.answered = true ∧
    r.phase = .live ∧
    s.lake.gathers = [] ∧
    (r.op = 1 ∨ r.op = 2 ∨ r.op = 3 ∨ r.op = 4) ∧
    s.doorbellOf r = none :=
  ⟨0, t_flow 1 .granted, 16, [], t_part .granted, t_req 1, by decide +kernel⟩

theorem test_ArbiterEventsComplete_2_op2 : ∃ (k : Fin 16) (s : State) (key : Nat) (rest : List Nat) (p : Part) (r : Req),
    ((s.arb k.val).moved = key :: rest ∨ ((s.arb k.val).moved = [] ∧ s.moving k.val = [(key, p, r)] ∧ p.left = 1)) ∧
    s.part? key = some p ∧
    s.req? p.req = some r ∧
    r.answered = true ∧
    r.phase = .live ∧
    s.lake.gathers = [] ∧
    (r.op = 1 ∨ r.op = 2 ∨ r.op = 3 ∨ r.op = 4) ∧
    s.doorbellOf r = none :=
  ⟨0, t_flow 2 .granted, 16, [], t_part .granted, t_req 2, by decide +kernel⟩

theorem test_ArbiterEventsComplete_2_op3 : ∃ (k : Fin 16) (s : State) (key : Nat) (rest : List Nat) (p : Part) (r : Req),
    ((s.arb k.val).moved = key :: rest ∨ ((s.arb k.val).moved = [] ∧ s.moving k.val = [(key, p, r)] ∧ p.left = 1)) ∧
    s.part? key = some p ∧
    s.req? p.req = some r ∧
    r.answered = true ∧
    r.phase = .live ∧
    s.lake.gathers = [] ∧
    (r.op = 1 ∨ r.op = 2 ∨ r.op = 3 ∨ r.op = 4) ∧
    s.doorbellOf r = none :=
  ⟨0, t_flow 3 .granted, 16, [], t_part .granted, t_req 3, by decide +kernel⟩

theorem test_ArbiterEventsComplete_2_op4 : ∃ (k : Fin 16) (s : State) (key : Nat) (rest : List Nat) (p : Part) (r : Req),
    ((s.arb k.val).moved = key :: rest ∨ ((s.arb k.val).moved = [] ∧ s.moving k.val = [(key, p, r)] ∧ p.left = 1)) ∧
    s.part? key = some p ∧
    s.req? p.req = some r ∧
    r.answered = true ∧
    r.phase = .live ∧
    s.lake.gathers = [] ∧
    (r.op = 1 ∨ r.op = 2 ∨ r.op = 3 ∨ r.op = 4) ∧
    s.doorbellOf r = none :=
  ⟨0, t_flow 4 .granted, 16, [], t_part .granted, t_req 4, by decide +kernel⟩

theorem test_ArbiterEventsComplete_3 : ∃ (k : Fin 16) (s : State) (c : Cand),
    s.partsAt k.val (s.holdOver k.val) = [c] ∧
    s.part? c.1 = some c.2.1 ∧
    s.req? c.2.1.req = some c.2.2 ∧
    c.2.2.answered = true ∧
    c.2.2.phase = .live :=
  ⟨0, t_flow 1 (.lakeHeld 0), t_cand 1 (.lakeHeld 0), by decide +kernel⟩

theorem test_LeafEventsComplete_0_write : ∃ (l : Fin 1024) (s : State) (e : Entry),
    s.leafRuns l.val = true ∧
    s.escReady l.val = false ∧
    firstEntry columnBefore ((s.leaf l.val).queue.filter (s.columnOk l.val (s.leaf l.val))) = some e :=
  ⟨0, t_leaf true (some 9), t_ent true, by decide +kernel⟩

theorem test_LeafEventsComplete_0_read : ∃ (l : Fin 1024) (s : State) (e : Entry),
    s.leafRuns l.val = true ∧
    s.escReady l.val = false ∧
    firstEntry columnBefore ((s.leaf l.val).queue.filter (s.columnOk l.val (s.leaf l.val))) = some e :=
  ⟨0, t_leaf false (some 9), t_ent false, by decide +kernel⟩

theorem test_LeafEventsComplete_1 : ∃ (c : Fin 512) (s s1 : State) (x : RowCand) (rest : List RowCand) (leaf cls : Nat) (e : Entry),
    s1 = (s.claims (2 * c.val)).claims (2 * c.val + 1) ∧
    s1.classOne c.val = false ∧
    s1.chanCands c.val = x :: rest ∧
    rest.foldl (fun u v => if rowBefore (s1.chan c.val).rowLast v u then v else u) x = (leaf, e, cls) ∧
    ((s1.leaf leaf).bank e.bank).openRow = none :=
  ⟨0, t_leaf false none, ((t_leaf false none).claims 0).claims 1, (0, t_ent false, 3), [], 0, 3, t_ent false, by decide +kernel, rfl, by decide +kernel⟩

theorem test_LeafEventsComplete_2 : ∃ (c : Fin 512) (s s1 : State) (x : RowCand) (rest : List RowCand) (leaf cls : Nat) (e : Entry),
    s1 = (s.claims (2 * c.val)).claims (2 * c.val + 1) ∧
    s1.classOne c.val = false ∧
    s1.chanCands c.val = x :: rest ∧
    rest.foldl (fun u v => if rowBefore (s1.chan c.val).rowLast v u then v else u) x = (leaf, e, cls) ∧
    ((s1.leaf leaf).bank e.bank).openRow.isSome = true :=
  ⟨0, t_leaf false (some 8), ((t_leaf false (some 8)).claims 0).claims 1, (0, t_ent false, 3), [], 0, 3, t_ent false, by decide +kernel, rfl, by decide +kernel⟩

theorem test_LeafEventsComplete_3 : ∃ (l : Fin 1024) (s : State) (i : Nat) (b : Bank),
    s.classOne (channelOf l.val) = false ∧
    s.chanCands (channelOf l.val) = [] ∧
    s.idleRow l.val = some (i, b) ∧
    ((s.idleRow (if l.val % 2 = 0 then l.val + 1 else l.val - 1)).isSome = true →
      (s.chan (channelOf l.val)).rowLast.getD 1 ≠ l.val % 2) :=
  ⟨0, (t_leaf false (some 8)).setLeaf 0 { (t_leaf false (some 8)).leaf 0 with queue := [] }, 2,
    { Bank.reset with openRow := some 8 }, by decide +kernel⟩

theorem test_LeafEventsComplete_4 : ∃ (l : Fin 1024) (s : State),
    s.turns l.val = true ∧
    (s.leaf l.val).busFree ≤ s.now12 ∧
    (s.leaf l.val).turned = false :=
  ⟨0, t_leaf true none |>.setLeaf 0 { (t_leaf true none).leaf 0 with writing := false }, by decide +kernel⟩

theorem test_LeafEventsComplete_5 : ∃ (k : Fin 16) (s : State) (n : Nat),
    n = (s.now12 - (s.arb k.val).winAt) / (64 * s.qPeriod k.val) ∧
    n ≠ 0 :=
  ⟨0, t_up, (t_up.now12 - (t_up.arb 0).winAt) / (64 * t_up.qPeriod 0), by decide +kernel⟩

theorem test_ReadDataIsPassedOn_0 : ∃ (l : Fin 1024) (flips : List (BitVec 72)) (s : State) (e : Entry) (rest : List Entry) (req piece : Nat),
    (s.leaf l.val).inflight = e :: rest ∧
    e.src = .part req piece :=
  ⟨0, [], t_fly (.part 1 0), { t_ent false with raw := t_raw, src := .part 1 0 }, [], 1, 0, by decide +kernel⟩

theorem test_ReadDataIsPassedOn_1 : ∃ (l : Fin 1024) (flips : List (BitVec 72)) (s : State) (e : Entry) (rest : List Entry),
    (s.leaf l.val).inflight = e :: rest ∧
    e.src = .merge :=
  ⟨0, [], t_fly .merge, { t_ent false with raw := t_raw, src := .merge }, [], by decide +kernel⟩

theorem test_ReadDataIsPassedOn_2 : ∃ (l : Fin 1024) (flips : List (BitVec 72)) (s : State) (u : State) (e : Entry) (rest : List Entry) (job : Nat) (j : AccuJob),
    (s.leaf l.val).inflight = e :: rest ∧
    e.src = .accu job ∧
    u = (s.setLeaf l.val { s.leaf l.val with inflight := rest }).readWords l.val e.la (flipped e.raw flips) 1 0x1100 e.ten e.sid e.at_ true true ∧
    Tab.find? u.lake.accus job = some j :=
  ⟨0, [], t_flyAccu, ((t_flyAccu).setLeaf 0 { (t_flyAccu).leaf 0 with inflight := [] }).readWords 0 0 (flipped t_raw []) 1 0x1100 3 1 0 true true, { t_ent false with raw := t_raw, src := .accu 1 }, [], 1, t_job, by decide +kernel, rfl, rfl, by decide +kernel⟩

theorem test_ReadDataIsPassedOn_3 : ∃ (l : Fin 1024) (flips : List (BitVec 72)) (s : State) (u : State) (e : Entry) (rest : List Entry) (id : Nat) (x : Tile),
    (s.leaf l.val).inflight = e :: rest ∧
    e.src = .tile id ∧
    u = (s.setLeaf l.val { s.leaf l.val with inflight := rest }).readWords l.val e.la (flipped e.raw flips) 1 0x1100 e.ten e.sid e.at_ true true ∧
    Tab.find? u.lake.tiles id = some x :=
  ⟨0, [], t_flyTile, ((t_flyTile).setLeaf 0 { (t_flyTile).leaf 0 with inflight := [] }).readWords 0 0 (flipped t_raw []) 1 0x1100 3 1 0 true true, { t_ent false with raw := t_raw, src := .tile 1 }, [], 1, t_tile, by decide +kernel, rfl, rfl, by decide +kernel⟩

theorem test_ReadDataIsPassedOn_4_accu : ∃ (l : Fin 1024) (flips : List (BitVec 72)) (s u : State) (e : Entry) (rest : List Entry) (id : Nat),
    (s.leaf l.val).inflight = e :: rest ∧
    u = (s.setLeaf l.val { s.leaf l.val with inflight := rest }).readWords l.val e.la (flipped e.raw flips) 1 0x1100 e.ten
      e.sid e.at_ true true ∧
    (e.src = .accu id ∧ Tab.find? u.lake.accus id = none ∨ e.src = .tile id ∧ Tab.find? u.lake.tiles id = none) :=
  ⟨0, [], t_fly (.accu 1), ((t_fly (.accu 1)).setLeaf 0 { (t_fly (.accu 1)).leaf 0 with inflight := [] }).readWords 0 0 (flipped t_raw []) 1 0x1100 3 1 0 true true, { t_ent false with raw := t_raw, src := .accu 1 }, [], 1, by decide +kernel, rfl, by decide +kernel⟩

theorem test_ReadDataIsPassedOn_5 : ∃ (raw : List (Word64 × Byte)) (i : Nat) (d : Word64) (c : Byte),
    raw[i]? = some (d, c) :=
  ⟨[(0, 0xFF)], 0, 0, 0xFF, rfl⟩

theorem test_ColumnRunStoresOnlyItsWords_0 : ∃ (l : Fin 1024) (s : State) (e : Entry),
    s.leafRuns l.val = true ∧
    s.escReady l.val = false ∧
    firstEntry columnBefore ((s.leaf l.val).queue.filter (s.columnOk l.val (s.leaf l.val))) = some e :=
  ⟨0, t_leaf true (some 9), t_ent true, by decide +kernel⟩


/-! ## Witnesses: Leaf upkeep -/

/-! ## Refresh, maintenance and calibration -/

/-- Leaf 0 with bank 0 owing one refresh. -/
def t_owed : State := t_up.setLeaf 0 { Leaf.reset with banks := [(0, { Bank.reset with owed := 1 })] }
def t_later : State := { t_up with clk := { t_up.clk with tb := 100000000000000 * 2 ^ 32 } }
/-- Row protection of leaf 0 with one mitigation due for row 9 of bank 2. -/
def t_mit : State := t_up.setProt 0 { RowProt.reset with counts := [(4, ⟨2, 9, 1024⟩)], mits := [(2, 9)] }
def t_sweep : State := t_up.setProt 0 { RowProt.reset with sweep := [0], floor := 5 }
/-- Leaf 0 with a request raised. -/
def t_raise (m : MReq) : State := t_up.setCare 0 { t_up.care 0 with raised := [m] }
/-- No bank is refreshed ahead of its ticks. -/
def t_calm (s : State) : State := { s with bank := { s.bank with settings := [(0x4004 * 65536, 0)] } }
/-- Leaf 0 with a request holding the token. -/
def t_hold (m : MReq) : State := t_up.setCare 0 { t_up.care 0 with holder := some m }
/-- A repair map with one entry waits to be stored. -/
def t_store : NvStore :=
  { type_ := 2, ticket := 0, map := [⟨1, 0, 0, 0, 0, false, 0, 0, 5, 0, 1, 0, 0⟩], serials := List.replicate 16 7,
    altSerials := List.replicate 16 0, clearFull := false, base := [] }
def t_storing : State := { t_up with stores := [t_store] }
def t_base : NvStore := { t_store with type_ := 3, map := [], base := [1, 2] }
def t_basing : State := { t_up with stores := [t_base] }
/-- Channel 0 under RETRAIN with its token held on both leaves. -/
def t_train (x : Chan) : State :=
  let s := t_hold (plainReq .retrain 1 0)
  (s.setCare 1 { s.care 1 with holder := some (plainReq .retrain 1 0) }).setChan 0 x
def t_pass : PassRes := ⟨false, 64, 60, 40, 60, 44, 84, 10, 70⟩
def t_meas : ChanMeas := ⟨0, [⟨3, false, t_pass, t_pass, t_pass, t_pass, none⟩], ⟨40, 40, 40, 40⟩, ⟨40, 40, 40, 40⟩⟩
def t_corr : ChanCal := { ChanCal.reset with load := 2 }

theorem test_RefreshEventsComplete_0 : ∃ (l : Fin 1024) (s : State) (b : Nat) (c : Bank),
    s.leafUp l.val = true ∧
    s.banksOf l.val ≠ 0 ∧
    tickDue (s.leaf l.val).tickOrigin (s.tREFI (stackOf l.val)) (s.banksOf l.val) (s.leaf l.val).tickN ≤ s.now12 ∧
    b = (s.leaf l.val).tickN % s.banksOf l.val ∧
    c = (s.leaf l.val).bank b :=
  ⟨0, t_up, 0, Bank.reset, by decide +kernel⟩

theorem test_RefreshEventsComplete_1 : ∃ (c : Fin 512) (s : State) (x : Nat × Int × Nat × Nat) (rest : List (Nat × Int × Nat × Nat))
      (step bank leaf : Nat) (owed : Int) (up : List Nat) (b : Bank),
    (s.chan c.val).gap = false ∧
    up = [2 * c.val, 2 * c.val + 1].filter (fun l => s.leafUp l && decide (0 < s.banksOf l)) ∧
    up.flatMap (fun l => s.refreshCands l (!s.rowBusy c.val)) = x :: rest ∧
    rest.foldl (fun u v => if refreshBefore (s.chan c.val).rowLast v u then v else u) x = (step, owed, bank, leaf) ∧
    s.stepBefore c.val step = false ∧
    b = (s.leaf leaf).bank bank :=
  ⟨0, t_owed, (4, 1, 0, 0), (t_owed.refreshCands 0 true).tail ++ t_owed.refreshCands 1 true, 4, 0, 0, 1, [0, 1], { Bank.reset with owed := 1 }, by decide +kernel⟩

theorem test_RefreshEventsComplete_2 : ∃ (k : Fin 16) (s : State) (n d : Nat),
    n = s.now / (s.setting 0x4006 k.val * 1000000) - (s.sck k.val).lastAge / (s.setting 0x4006 k.val * 1000000) ∧
    n ≠ 0 ∧
    d = 2 ^ min n 14 :=
  ⟨0, t_later, t_later.now / (t_later.setting 0x4006 0 * 1000000), 2 ^ 14, by decide +kernel⟩

theorem test_RefreshEventsComplete_3 : ∃ (l : Fin 1024) (s : State) (bank row : Nat) (rest : List (Nat × Nat)) (ns : List Nat) (b : Bank),
    (s.prot l.val).mits = (bank, row) :: rest ∧
    s.leafUp l.val = true ∧
    (s.chan (channelOf l.val)).gap = false ∧
    s.stepBefore (channelOf l.val) 2 = false ∧
    s.otherFirst l.val 2 = false ∧
    b = (s.leaf l.val).bank bank ∧
    s.rowReady (stackOf l.val) b = true ∧
    ns = neighbours (s.geom (stackOf l.val)).rows (s.setting 0x4008 (stackOf l.val)) row :=
  ⟨0, t_mit, 2, 9, [], neighbours (t_mit.geom 0).rows (t_mit.setting 0x4008 0) 9, Bank.reset, by decide +kernel⟩

theorem test_RefreshEventsComplete_3_open : ∃ (l : Fin 1024) (s : State) (bank row : Nat) (rest : List (Nat × Nat)) (ns : List Nat) (b : Bank),
    (s.prot l.val).mits = (bank, row) :: rest ∧
    s.leafUp l.val = true ∧
    (s.chan (channelOf l.val)).gap = false ∧
    s.stepBefore (channelOf l.val) 2 = false ∧
    s.otherFirst l.val 2 = false ∧
    b = (s.leaf l.val).bank bank ∧
    s.rowReady (stackOf l.val) b = true ∧
    ns = neighbours (s.geom (stackOf l.val)).rows (s.setting 0x4008 (stackOf l.val)) row :=
  ⟨0, t_mit.setLeaf 0 { Leaf.reset with banks := [(2, { Bank.reset with openRow := some 4 })] }, 2, 9, [], neighbours (t_mit.geom 0).rows (t_mit.setting 0x4008 0) 9, { Bank.reset with openRow := some 4 }, by decide +kernel⟩

theorem test_RefreshEventsComplete_4 : ∃ (l : Fin 1024) (s : State) (i j : Nat) (is : List Nat) (b : Bank),
    s.leafUp l.val = true ∧
    (s.chan (channelOf l.val)).gap = false ∧
    s.stepBefore (channelOf l.val) 3 = false ∧
    (s.prot l.val).sweep.filter (fun i => (((s.leaf l.val).bank i).sweep || s.bankIdle l.val i) &&
      s.rowReady (stackOf l.val) ((s.leaf l.val).bank i)) = i :: is ∧
    is.foldl (fun a j => if ((s.leaf l.val).bank a).owed < ((s.leaf l.val).bank j).owed then j else a) i = j ∧
    b = (s.leaf l.val).bank j :=
  ⟨0, t_sweep, 0, 0, [], Bank.reset, by decide +kernel⟩

theorem test_RefreshEventsComplete_5 : ∃ (l : Fin 1024) (s : State),
    (s.prot l.val).sweep ≠ [] ∧
    (s.prot l.val).sweepAt + s.tREFI (stackOf l.val) ≤ s.now12 :=
  ⟨0, t_sweep, by decide +kernel⟩

theorem test_MaintenanceTakesAndReleasesTheToken_0_heal : ∃ (l : Fin 1024) (act : Fin 8) (s u : State) (a : Act) (m : MReq),
    actOf act.val = some a ∧
    s.keepsBack a = false ∧
    (s.care l.val).firstRaised s.keepsBack = some a ∧
    (s.care l.val).raised.find? (fun m => m.act == a) = some m ∧
    (∀ i ∈ m.leaves l.val, (s.care i).firstRaised s.keepsBack = some a) ∧
    u = (m.leaves l.val).foldl (fun s i => s.setCare i { s.care i with raised := (s.care i).raised.erase m }) s ∧
    (∀ i ∈ m.leaves l.val, (s.care i).holder = none) ∧
    u.overLimit l.val m = false :=
  ⟨0, 3, t_raise (healReq 2 9 0), [0].foldl (fun s i => s.setCare i { s.care i with raised := (s.care i).raised.erase (healReq 2 9 0) }) (t_raise (healReq 2 9 0)), .heal, healReq 2 9 0, by decide +kernel, by decide +kernel, by decide +kernel, by decide +kernel, by decide +kernel, rfl, by decide +kernel⟩

theorem test_MaintenanceTakesAndReleasesTheToken_0_zero : ∃ (l : Fin 1024) (act : Fin 8) (s u : State) (a : Act) (m : MReq),
    actOf act.val = some a ∧
    s.keepsBack a = false ∧
    (s.care l.val).firstRaised s.keepsBack = some a ∧
    (s.care l.val).raised.find? (fun m => m.act == a) = some m ∧
    (∀ i ∈ m.leaves l.val, (s.care i).firstRaised s.keepsBack = some a) ∧
    u = (m.leaves l.val).foldl (fun s i => s.setCare i { s.care i with raised := (s.care i).raised.erase m }) s ∧
    (∀ i ∈ m.leaves l.val, (s.care i).holder = none) ∧
    u.overLimit l.val m = false :=
  ⟨0, 5, t_raise (plainReq .zero 0 0), [0].foldl (fun s i => s.setCare i { s.care i with raised := (s.care i).raised.erase (plainReq .zero 0 0) }) (t_raise (plainReq .zero 0 0)), .zero, plainReq .zero 0 0, by decide +kernel, by decide +kernel, by decide +kernel, by decide +kernel, by decide +kernel, rfl, by decide +kernel⟩

theorem test_MaintenanceTakesAndReleasesTheToken_0_capture : ∃ (l : Fin 1024) (act : Fin 8) (s u : State) (a : Act) (m : MReq),
    actOf act.val = some a ∧
    s.keepsBack a = false ∧
    (s.care l.val).firstRaised s.keepsBack = some a ∧
    (s.care l.val).raised.find? (fun m => m.act == a) = some m ∧
    (∀ i ∈ m.leaves l.val, (s.care i).firstRaised s.keepsBack = some a) ∧
    u = (m.leaves l.val).foldl (fun s i => s.setCare i { s.care i with raised := (s.care i).raised.erase m }) s ∧
    (∀ i ∈ m.leaves l.val, (s.care i).holder = none) ∧
    u.overLimit l.val m = false :=
  ⟨0, 6, t_raise (plainReq .capture 0 0), [0].foldl (fun s i => s.setCare i { s.care i with raised := (s.care i).raised.erase (plainReq .capture 0 0) }) (t_raise (plainReq .capture 0 0)), .capture, plainReq .capture 0 0, by decide +kernel, by decide +kernel, by decide +kernel, by decide +kernel, by decide +kernel, rfl, by decide +kernel⟩

theorem test_MaintenanceTakesAndReleasesTheToken_1 : ∃ (l : Fin 1024) (act : Fin 8) (s : State),
    actOf act.val = some .scrub ∧
    s.keepsBack .scrub = false ∧
    (s.care l.val).firstRaised s.keepsBack = none ∧
    s.wantsScrub l.val = true ∧
    (s.care l.val).holder = none :=
  ⟨0, 1, t_up, by decide +kernel⟩

theorem test_MaintenanceTakesAndReleasesTheToken_2 : ∃ (l : Fin 1024) (act : Fin 8) (s : State) (a : Act),
    actOf act.val = some a ∧
    (s.care l.val).runs a = true ∧
    s.actDone l.val a = true ∧
    (∀ x ∈ s.cares, x.2.queue = []) :=
  ⟨0, 6, t_hold (plainReq .capture 0 0), .capture, by decide +kernel⟩

theorem test_ScrubAndRepairComplete_0 : ∃ (l : Fin 1024) (flips : List (BitVec 72)) (s : State),
    s.visitReady l.val = true ∧
    s.refreshWaits (channelOf l.val) = false ∧
    ((s.care l.val).esc = true ∨ s.idleMode l.val = true) ∧
    s.rowRoom l.val (s.rowLa l.val (s.care l.val).calBank (s.care l.val).calRow) = true :=
  ⟨0, [], t_calm (t_hold (plainReq .scrub 0 0)), by decide +kernel⟩

theorem test_ScrubAndRepairComplete_1 : ∃ (l : Fin 1024) (u : State),
    (u.care l.val).calBank + 1 < u.banksOf l.val :=
  ⟨0, t_up, by decide +kernel⟩

theorem test_ScrubAndRepairComplete_2 : ∃ (l : Fin 1024) (u : State),
    u.banksOf l.val ≤ (u.care l.val).calBank + 1 ∧
    (u.care l.val).calRow + 1 < (u.geom (stackOf l.val)).rows :=
  ⟨0, t_up.setCare 0 { t_up.care 0 with calBank := 63 }, by decide +kernel⟩

theorem test_ScrubAndRepairComplete_3 : ∃ (l : Fin 1024) (u : State),
    u.banksOf l.val ≤ (u.care l.val).calBank + 1 ∧
    (u.geom (stackOf l.val)).rows ≤ (u.care l.val).calRow + 1 :=
  ⟨0, t_up.setCare 0 { t_up.care 0 with calBank := 63, calRow := 2 ^ 20 }, by decide +kernel⟩

theorem test_ScrubAndRepairComplete_4 : ∃ (l : Fin 1024) (s : State),
    (s.care l.val).lapStart + s.setting 0x400E (stackOf l.val) * 3600000000000 ≤ s.now ∧
    (s.care l.val).esc = false ∧
    ((s.care l.val).every.any (fun m => m.act == .scrub)) = true ∧
    s.leafUp l.val = true ∧
    (s.leaf l.val).parked = false :=
  ⟨0, { t_hold (plainReq .scrub 0 0) with clk := { t_up.clk with tb := 100000000000000 * 2 ^ 32 } }, by decide +kernel⟩

theorem test_ScrubAndRepairComplete_5 : ∃ (l : Fin 1024) (flips : List (BitVec 72)) (s u : State) (m : MReq),
    (s.care l.val).runs .heal = true ∧
    s.leafUp l.val = true ∧
    (s.chan (channelOf l.val)).gap = false ∧
    s.stopping = false ∧
    ((s.care l.val).running ++ (s.care l.val).joined).find? (fun m => m.act == .heal && !m.done) = some m ∧
    s.stepBefore (channelOf l.val) 5 = false ∧
    s.rowFree l.val m.bank = true ∧
    s.rowRoom l.val (s.rowLa l.val m.bank m.row) = true ∧
    u = ((s.rowWon l.val).touchRow l.val m.bank m.row true).copyRow l.val m.bank m.row flips :=
  ⟨0, [], t_hold (healReq 2 9 0), (((t_hold (healReq 2 9 0)).rowWon 0).touchRow 0 2 9 true).copyRow 0 2 9 [], healReq 2 9 0, by decide +kernel, by decide +kernel, by decide +kernel, by decide +kernel, by decide +kernel, by decide +kernel, by decide +kernel, by decide +kernel, rfl⟩

theorem test_ScrubAndRepairComplete_6 : ∃ (l : Fin 1024) (flips : List (BitVec 72)) (spare : Fin 256) (s : State) (m : MReq),
    (s.care l.val).nextRepair false = some m ∧
    s.leafUp l.val = true ∧
    s.stopping = false ∧
    s.stepBefore (channelOf l.val) 5 = false ∧
    s.spareLeft l.val m.bank ≠ 0 :=
  ⟨0, [], 0, t_hold (repairReq 2 9 1 0), repairReq 2 9 1 0, by decide +kernel⟩

theorem test_ScrubAndRepairComplete_7 : ∃ (l : Fin 1024) (flips : List (BitVec 72)) (spare : Fin 256) (s : State) (m : MReq),
    (s.care l.val).nextRepair false = some m ∧
    s.leafUp l.val = true ∧
    s.stopping = false ∧
    s.stepBefore (channelOf l.val) 5 = false ∧
    s.spareLeft l.val m.bank = 0 :=
  ⟨0, [], 0, (t_hold (repairReq 2 9 1 0)).setSup 0 { t_sup with spareRows := [(2, 4)] }, repairReq 2 9 1 0, by decide +kernel⟩

theorem test_ScrubAndRepairComplete_8 : ∃ (c : Fin 512) (s : State) (m : MReq) (i : Fin 4),
    (s.care (2 * c.val)).nextRepair true = some m ∧
    s.leafUp (2 * c.val) = true ∧
    s.stopping = false ∧
    s.spareOk c.val (m.lane / 36) i.val = true :=
  ⟨0, t_hold (laneReq 3 1 0), laneReq 3 1 0, 0, by decide +kernel⟩

theorem test_ScrubAndRepairComplete_9 : ∃ (c : Fin 512) (s : State) (m : MReq),
    (s.care (2 * c.val)).nextRepair true = some m ∧
    s.leafUp (2 * c.val) = true ∧
    s.stopping = false :=
  ⟨0, t_hold (laneReq 3 1 0), laneReq 3 1 0, by decide +kernel⟩

theorem test_RecordsReachTheDevice_0 : ∃ (s : State) (x : NvStore),
    s.stores.find? (fun x => x.type_ == 2) = some x :=
  ⟨t_storing, t_store, by decide +kernel⟩

theorem test_RecordsReachTheDevice_1_map : ∃ (first second : Bool) (s : State) (x : NvStore) (rest : List NvStore),
    s.stores = x :: rest ∧
    (first || second) = true ∧
    (x.type_ = 2 ∨ x.type_ = 3) :=
  ⟨false, true, t_storing, t_store, [], by decide +kernel⟩

theorem test_RecordsReachTheDevice_1_baseline : ∃ (first second : Bool) (s : State) (x : NvStore) (rest : List NvStore),
    s.stores = x :: rest ∧
    (first || second) = true ∧
    (x.type_ = 2 ∨ x.type_ = 3) :=
  ⟨true, false, t_basing, t_base, [], by decide +kernel⟩

/-- Two valid records of a repair map, the newer in slot B across a wrap of SEQ. -/
def t_mapped : FlashDev :=
  { t_dev with mapA := packed 2 0xFFFFFFFF 5 [1, 2], mapB := packed 2 3 6 [3, 4] }
theorem test_RecordsReachTheDevice_3 : ∃ (d : FlashDev) (type_ : Nat),
    recValid (devRec d type_ 0) type_ = true ∧
    recValid (devRec d type_ 1) type_ = true :=
  ⟨t_mapped, 2, by decide +kernel⟩
/-- R385: SEQ_B - SEQ_A is signed, so the record written after the wrap is in use; A is on a tie. -/
theorem test_newest_record : devNewest t_mapped 2 = some 1 ∧ devNewest { t_mapped with mapB := t_mapped.mapA } 2 = some 0 ∧
    devNewest { t_mapped with mapB := { t_mapped.mapB with crc := 0 } } 2 = some 0 := by decide +kernel

theorem test_RecordsReachTheDevice_2 : ∃ (s : State) (x : NvStore) (rest : List NvStore),
    s.stores = x :: rest :=
  ⟨t_storing, t_store, [], by decide +kernel⟩

theorem test_CalibrationEventsComplete_0 : ∃ (c : Fin 512) (s : State) (r w n m : Nat),
    (s.chan c.val).retrain = some (r, w) ∧
    s.retraining c.val = true ∧
    (s.chan c.val).gap = false ∧
    s.stopping = false ∧
    r + w ≠ 0 ∧
    s.leafUp (2 * c.val) = true ∧
    s.leafUp (2 * c.val + 1) = true ∧
    s.stepBefore c.val 5 = false ∧
    stepPoints (s.stepLimit (c.val / 32)) r w = (n, m) :=
  ⟨0, t_train { Chan.reset with retrain := some (9, 5) }, 9, 5, 9, 5, by decide +kernel⟩

theorem test_CalibrationEventsComplete_1 : ∃ (c : Fin 512) (s : State) (r w n m at_ : Nat),
    (s.chan c.val).step = some (n, m, at_) ∧
    (s.chan c.val).retrain = some (r, w) ∧
    (s.forced c.val = true ∨ (s.heatOf (c.val / 32)).st = .tripped ∨ (s.sck (c.val / 32)).switching = true ∨
      (s.sck (c.val / 32)).pll ≠ .locked) :=
  ⟨0, (t_train { Chan.reset with retrain := some (9, 5), step := some (1, 1, 0), gap := true }).setLeaf 0 { Leaf.reset with banks := [(0, { Bank.reset with owed := 8 })] }, 9, 5, 1, 1, 0, by decide +kernel⟩

theorem test_CalibrationEventsComplete_2 : ∃ (c : Fin 512) (m : ChanMeas) (s : State),
    (s.chan c.val).retrain = some (0, 0) ∧
    (s.chan c.val).gap = false ∧
    s.retraining c.val = false ∧
    s.ownRoom 1 = true ∧
    m.lanes.any (fun l => (laneResult (s.setting 0x5801 0) (s.setting 0x5802 0)
      (measWv m l.lane) l).isSome) = true :=
  ⟨0, t_meas, t_up.setChan 0 { Chan.reset with retrain := some (0, 0) }, by decide +kernel⟩

theorem test_CalibrationEventsComplete_3 : ∃ (c : Fin 512) (s : State) (r : ChanCal),
    (s.chan c.val).corr = some r ∧
    (∀ l, l / 2 = c.val → (s.leaf l).busFree ≤ s.now12 ∧ ((s.care l).runs .repair = false ∨ s.actDone l .repair = true)) ∧
    (s.chan c.val).step = none ∧
    (r.optag = (s.sck (c.val / 32)).opcur → s.stepBefore c.val 5 = false) ∧
    (s.sck (c.val / 32)).pll = .locked ∧
    (s.sck (c.val / 32)).switching = false ∧
    s.channelAsleep c.val = false :=
  ⟨0, t_up.setChan 0 { Chan.reset with corr := some t_corr, pendingCorr := true }, t_corr, by decide +kernel, (by
    intro l h
    have h : l = 0 ∨ l = 1 := by simp only [show (0 : Fin 512).val = 0 from rfl] at h; omega
    rcases h with rfl | rfl <;> decide +kernel), by decide +kernel⟩

theorem test_CalibrationEventsComplete_4_data : ∃ (c : Fin 512) (lane : Fin 80) (mismatch : Bool) (s : State),
    (s.chan c.val).cal.untrained = false ∧
    s.channelAsleep c.val = false ∧
    (s.chan c.val).stale = false ∧
    (s.sup (c.val / 32)).trained = true ∧
    (72 ≤ lane.val → (Tab.find? (s.chan c.val).cal.spmap (lane.val - 72)).isSome = true) :=
  ⟨0, 3, false, t_up, by decide +kernel⟩

theorem test_CalibrationEventsComplete_4_spare : ∃ (c : Fin 512) (lane : Fin 80) (mismatch : Bool) (s : State),
    (s.chan c.val).cal.untrained = false ∧
    s.channelAsleep c.val = false ∧
    (s.chan c.val).stale = false ∧
    (s.sup (c.val / 32)).trained = true ∧
    (72 ≤ lane.val → (Tab.find? (s.chan c.val).cal.spmap (lane.val - 72)).isSome = true) :=
  ⟨0, 72, true, t_up.setChan 0 { Chan.reset with cal := { ChanCal.reset with spmap := [(0, 3)] } }, by decide +kernel⟩

theorem test_CalibrationEventsComplete_5 : ∃ (k : Fin 16) (s : State) (all pct : Nat),
    100000 ≤ s.clk.ticks - (s.pow k.val).loadAt ∧
    (s.sup k.val).trained = true ∧
    all = (s.clk.ticks - (s.pow k.val).loadAt) * 120 / s.qPeriod k.val * (s.geom k.val).leaves ∧
    pct = (if all = 0 then 0 else min 100 (100 * (s.slotsUsed k.val - (s.pow k.val).retired) / all)) :=
  ⟨0, t_up, 960000000, 0, by decide +kernel⟩

theorem test_CalibrationEventsComplete_6 : ∃ (c : Fin 512) (s u : State) (times : List Nat),
    times = (match (s.chan c.val).retrainEnd with
      | some x => if s.now < x + 1000000000 then s.now :: (s.chan c.val).parity else []
      | none => []) ∧
    u = s.setChan c.val { s.chan c.val with
      parity := times, parityAlarm := (s.chan c.val).parityAlarm || decide (3 ≤ times.length) } ∧
    (s.care (2 * c.val)).every.any (fun m => m.act == .retrain) = false ∧
    (u.chan c.val).retrain = none ∧
    (u.chan c.val).pendingCorr = false ∧
    (u.chan c.val).corr = none ∧
    (u.chan c.val).cal.untrained = false ∧
    (s.sck (c.val / 32)).asleep = false ∧
    (s.sck (c.val / 32)).sr.contains (c.val % 32) = false :=
  ⟨0, t_up, t_up.setChan 0 { t_up.chan 0 with parity := [], parityAlarm := (t_up.chan 0).parityAlarm || decide (3 ≤ ([] : List Nat).length) }, [], by decide +kernel, rfl, by decide +kernel⟩


/-! ## Witnesses: Lake -/

/-! ## Lake, shaping, power and heat -/

/-- A merge buffer entry of leaf 0. -/
def t_ment (full : Bool) : MergeEnt :=
  { la := 64, words := List.replicate 4 ⟨5, if full then 0xFF else 0x0F, false⟩, conv := 0, byConv := false, inject := 0,
    flip := 0, born := 0, closed := false, ten := 3, sid := 1, tint := 8, port := 5, arrival := 0, deadline := 0 }
def t_merge (full : Bool) : State := t_up.setCare 0 { t_up.care 0 with merge := [t_ment full] }
def t_accued : State :=
  { t_up with lake := { Lake.reset with accus := [(1, { t_job with old := some (List.replicate 4 ⟨0, false⟩) })] } }
/-- A tile whose one contribution has come and whose old values are read. -/
def t_due (ccnt : Nat) : Tile := { t_tile with ccnt := ccnt, oldReady := true, elapsed := 100000 }
def t_tiled (ccnt : Nat) : State := { t_up with lake := { Lake.reset with tiles := [(1, t_due ccnt)] } }
/-- Arming 0 of tenant 3 for step 0, the step registers at step 1. -/
def t_armed (cnt : Bool) (n : Nat) : State :=
  { t_up.setTenSt 3 { TenSt.reset with step0 := 1, step1 := 1 } with
    bank := { t_up.bank with armings := [(0, { Arming.none with valid := true, ten := 3, tcnt := cnt, ecount := n })] } }
/-- A policed tenant. -/
def t_pol : Policer := { Policer.default with pen := true, cir := 1000, pir := 2000 }
def t_policed : State := { t_up with bank := { t_up.bank with policers := [(3, t_pol)] } }
def t_debt (q : Option Nat) : Debt := { ten := 3, half := 0, tint := 8, quire := q, bytes := 64, at_ := 0 }
/-- A flow of tenant 3 in the stage of quire 0. -/
def t_sub : SubFlow := { tint := 8, deficit := 65536, visited := true }
def t_fl : Flow := { ten := 3, deficit := 65536, visited := true, subs := [t_sub], inner := [8], innerLeft := 1, leaving := false }
def t_drr : Drr := { occ := 0, flows := [t_fl], round := [3], left := 1 }
/-- A gate list on quire 0 that opens the tints of a mask. -/
def t_gated (m : Nat) : State :=
  { t_flow 1 .gated with
    bank := { (t_flow 1 .gated).bank with gates := [(0, ⟨0, false, [⟨m, 5000⟩, ⟨m, 5000⟩]⟩)] } }
/-- Stack 0 tripped, and below 90 degrees since tick 0, at tick 20,000,000. -/
def t_cool (held : Bool) : State :=
  { t_up.setHeat 0 { t_up.heatOf 0 with st := .tripped, cool := some 0, held := held } with
    clk := { t_up.clk with ticks := 20000000 } }
/-- A housekeeping round in which every diode reads 60 degrees, and one in which diode 0 reads 106. -/
def t_round (d0 : Int) : Round :=
  { adc := (List.range 64).map (fun i => some (if i = 0 then d0 else if i < 32 then 480 else 100)),
    readout := List.replicate 16 (some 480), thrAck := 2, aonError := 0 }

theorem test_LakeEventsComplete_0_full : ∃ (l : Fin 1024) (s : State) (m : MergeEnt),
    (s.care l.val).oldestEnt = some m ∧
    m.born + s.setting 0x400B (stackOf l.val) * 10 ≤ s.clk.ticks ∧
    s.stopping = false ∧
    2 ≤ s.freeOf (stackOf l.val) l.val :=
  ⟨0, t_merge true, t_ment true, by decide +kernel⟩

theorem test_LakeEventsComplete_0_part : ∃ (l : Fin 1024) (s : State) (m : MergeEnt),
    (s.care l.val).oldestEnt = some m ∧
    m.born + s.setting 0x400B (stackOf l.val) * 10 ≤ s.clk.ticks ∧
    s.stopping = false ∧
    2 ≤ s.freeOf (stackOf l.val) l.val :=
  ⟨0, t_merge false, t_ment false, by decide +kernel⟩

theorem test_LakeEventsComplete_1 : ∃ (k : Fin 16) (s : State) (id base q : Nat) (j : AccuJob) (fw : Fwd),
    Tab.first s.lake.accus (fun _ j => j.stack == k.val && j.old.isSome) = some (id, j) ∧
    s.accuResult j (j.old.getD []) = some (base, q, fw) ∧
    s.writeRoom base q fw = true :=
  ⟨0, t_accued, 1, 0, 0, { t_job with old := some (List.replicate 4 ⟨0, false⟩) }, (t_accued.accuResult { t_job with old := some (List.replicate 4 ⟨0, false⟩) } (List.replicate 4 ⟨0, false⟩)).elim ⟨[], 0, 0, [], []⟩ (fun x => x.2.2), by decide +kernel⟩

theorem test_LakeEventsComplete_2 : ∃ (k : Fin 16) (s : State) (id : Nat) (j : AccuJob),
    Tab.first s.lake.accus (fun _ j => j.stack == k.val && j.old.isSome) = some (id, j) ∧
    s.quireAt j.leaf = none :=
  ⟨0, t_accued.setBank { t_accued.bank with quires := [] }, 1, { t_job with old := some (List.replicate 4 ⟨0, false⟩) }, by decide +kernel⟩

theorem test_LakeEventsComplete_3 : ∃ (k : Fin 16) (s : State) (id : Nat) (x : Tile),
    Tab.first s.lake.tiles (fun _ t => t.stack == k.val && t.oldReady && !t.timedOut && decide (t.ccnt < t.next)) =
      some (id, x) ∧
    s.writeRoom x.qbase x.qk (x.result false) = true :=
  ⟨0, t_tiled 0, 1, t_due 0, by decide +kernel⟩

theorem test_LakeEventsComplete_4 : ∃ (k : Fin 16) (s u : State) (id : Nat) (x : Tile),
    u = s.expireTiles k.val ∧
    Tab.first u.lake.tiles (fun _ t => t.stack == k.val && t.timedOut && t.oldReady &&
      u.writeRoom t.qbase t.qk (t.result true)) = some (id, x) :=
  ⟨0, t_tiled 1, (t_tiled 1).expireTiles 0, 1, (t_due 1).expire, rfl, by decide +kernel⟩

theorem test_LakeEventsComplete_5 : ∃ (k : Fin 16) (s u : State),
    u = s.expireTiles k.val ∧
    Tab.first u.lake.tiles (fun _ t => t.stack == k.val && t.timedOut && t.oldReady &&
      u.writeRoom t.qbase t.qk (t.result true)) = none :=
  ⟨0, t_up, t_up.expireTiles 0, rfl, by decide +kernel⟩

theorem test_LakeEventsComplete_6 : ∃ (k : Fin 16) (s : State) (id : Nat) (x : Tile),
    Tab.find? s.lake.tiles id = some x ∧
    x.stack = k.val ∧
    x.timedOut = false ∧
    x.next ≤ x.ccnt ∧
    us x.tmo ≤ x.elapsed :=
  ⟨0, t_tiled 1, 1, t_due 1, by decide +kernel⟩

theorem test_LakeEventsComplete_7 : ∃ (a : Fin 16) (s : State) (r : Arming) (d : Digest),
    r = s.bank.arming a.val ∧
    r.valid = true ∧
    d = Tab.get Digest.reset s.lake.digests a.val ∧
    bitAt d.flags 0 = false ∧
    (s.tenSt r.ten).step0 % 2 ^ 32 ≠ r.step ∧
    (s.tenSt r.ten).step1 % 2 ^ 32 ≠ r.step ∧
    s.stepOpen r = false ∧
    (r.tcnt = true → d.count = r.ecount) :=
  ⟨0, t_armed false 0, (t_armed false 0).bank.arming 0, Digest.reset, rfl, by decide +kernel⟩

theorem test_LakeEventsComplete_8 : ∃ (a : Fin 16) (s : State) (r : Arming) (d : Digest),
    r = s.bank.arming a.val ∧
    r.valid = true ∧
    d = Tab.get Digest.reset s.lake.digests a.val ∧
    bitAt d.flags 0 = false ∧
    (s.tenSt r.ten).step0 % 2 ^ 32 ≠ r.step ∧
    (s.tenSt r.ten).step1 % 2 ^ 32 ≠ r.step ∧
    s.stepOpen r = false ∧
    r.tcnt = true ∧
    d.count ≠ r.ecount :=
  ⟨0, t_armed true 9, (t_armed true 9).bank.arming 0, Digest.reset, rfl, by decide +kernel⟩

theorem test_ShapingEventsComplete_0 : ∃ (half : Fin 2) (ten : Fin 512) (s : State) (p : Policer) (m : Marker),
    (∀ x ∈ s.parts, x.2.stage ≠ .redHeld) ∧
    p = s.bank.policer ten.val ∧
    m = s.marker ten.val half.val ∧
    (∀ x, m.oldRates = some x → x.1 ≠ s.clk.ticks) :=
  ⟨0, 3, t_policed, t_pol, Marker.reset, by decide +kernel⟩

theorem test_ShapingEventsComplete_1 : ∃ (s : State) (d : Debt) (rest : List Debt) (p : Policer) (m : Marker) (n tc tp : Int),
    s.debts = d :: rest ∧
    d.quire = none ∧
    p = s.bank.policer d.ten ∧
    p.pen = true ∧
    m = s.marker d.ten d.half ∧
    n = d.bytes * 16 ∧
    tc = min m.tc (max (-(burstShare p.cbs p.split d.half : Int)) (m.tc - n)) ∧
    tp = min m.tp (max (-(burstShare p.pbs p.split d.half : Int)) (m.tp - n)) :=
  ⟨{ t_policed with debts := [t_debt none] }, t_debt none, [], t_pol, Marker.reset, 1024, max (-(burstShare t_pol.cbs t_pol.split 0 : Int)) (0 - 1024), max (-(burstShare t_pol.pbs t_pol.split 0 : Int)) (0 - 1024), by decide +kernel⟩

theorem test_ShapingEventsComplete_2 : ∃ (s : State) (d : Debt) (rest : List Debt) (q : Nat) (f : Flow) (u : SubFlow) (c : Int),
    s.debts = d :: rest ∧
    d.quire = some q ∧
    (s.bank.policer d.ten).pen = false ∧
    (s.drr q).flow? d.ten = some f ∧
    f.subs.find? (fun u => u.tint == d.tint) = some u ∧
    c = -(s.ceiling d.ten : Int) :=
  ⟨{ t_up.setDrr 0 t_drr with debts := [t_debt (some 0)] }, t_debt (some 0), [], 0, t_fl, t_sub, -65536, by decide +kernel⟩

theorem test_ShapingEventsComplete_3 : ∃ (s : State) (d : Debt) (rest : List Debt) (q : Nat),
    s.debts = d :: rest ∧
    d.quire = some q ∧
    (s.bank.policer d.ten).pen = false ∧
    (s.drr q).flow? d.ten = none :=
  ⟨{ t_up with debts := [t_debt (some 0)] }, t_debt (some 0), [], 0, by decide +kernel⟩

theorem test_ShapingEventsComplete_4 : ∃ (q : Fin 1024) (s : State) (key : Nat) (p : Part) (r : Req),
    s.heldKeys (fun p r => p.stage == .gated && r.qbase == q.val) = [key] ∧
    s.part? key = some p ∧
    s.req? p.req = some r ∧
    s.gateOpen r.qbase r.qk r.tint (partCharge r) = true ∧
    s.stackRetries p.stack = false :=
  ⟨0, t_gated 0xFFFF, 16, t_part .gated, t_req 1, by decide +kernel⟩

theorem test_ShapingEventsComplete_5 : ∃ (q : Fin 1024) (s : State) (key : Nat) (p : Part) (r : Req),
    s.heldKeys (fun p r => p.stage == .gated && r.qbase == q.val) = [key] ∧
    s.part? key = some p ∧
    s.req? p.req = some r ∧
    s.gateOpen r.qbase r.qk r.tint (partCharge r) = false :=
  ⟨0, t_gated 0, 16, t_part .gated, t_req 1, by decide +kernel⟩

theorem test_ShapingEventsComplete_6 : ∃ (k : Fin 1088) (s : State) (key : Nat) (p : Part) (r : Req) (f : Flow),
    s.waitingAt k.val = [(key, p, r)] ∧
    s.part? key = some p ∧
    s.req? p.req = some r ∧
    r.op ≠ 34 ∧
    (s.drr k.val).occ < s.drrWindow k.val ∧
    (s.drr k.val).round = [r.ten] ∧
    f = s.flow (s.drr k.val) r.ten ∧
    (partCharge r : Int) ≤ f.deficit ∧
    f.deficit ≤ s.ceiling r.ten ∧
    (partCharge r : Int) ≤ (f.sub r.tint (s.ceiling r.ten)).deficit ∧
    (f.sub r.tint (s.ceiling r.ten)).deficit ≤ s.ceiling r.ten ∧
    s.stackRetries p.stack = false :=
  ⟨0, (t_flow 1 .quireDrr).setDrr 0 t_drr, 16, t_part .quireDrr, t_req 1, t_fl, by decide +kernel⟩

theorem test_PowerEventsComplete_0 : ∃ (s u : State) (n est total cap : Nat),
    s.pins.porst = false ∧
    s.regs.ladderNext ≤ s.clk.ticks ∧
    n = s.capWindows ∧
    n ≠ 0 ∧
    u = (List.range 16).foldl (fun s k => s.estimate k) s ∧
    est = ((List.range 16).map (fun k => (u.pow k).win.headD 0)).sum + s.regs.railPower * 1000000 ∧
    total = ((est :: (u.pow 16).win).take n).sum ∧
    cap = s.setting 0x520A 0 * 10000000 * n :=
  ⟨t_up, (List.range 16).foldl (fun s k => s.estimate k) t_up, t_up.capWindows, ((List.range 16).map (fun k => (((List.range 16).foldl (fun s k => s.estimate k) t_up).pow k).win.headD 0)).sum + t_up.regs.railPower * 1000000, (((((List.range 16).map (fun k => (((List.range 16).foldl (fun s k => s.estimate k) t_up).pow k).win.headD 0)).sum + t_up.regs.railPower * 1000000) :: (((List.range 16).foldl (fun s k => s.estimate k) t_up).pow 16).win).take t_up.capWindows).sum, t_up.setting 0x520A 0 * 10000000 * t_up.capWindows, by decide +kernel, by decide +kernel, rfl, by decide +kernel, rfl, rfl, rfl, rfl⟩

theorem test_PowerEventsComplete_1 : ∃ (k : Fin 16) (s : State),
    (s.pow k.val).stretch = false ∧
    (s.sup k.val).good = true :=
  ⟨0, t_up, by decide +kernel⟩

theorem test_PowerEventsComplete_2 : ∃ (k : Fin 16) (s u : State),
    (s.pow k.val).stretch = true ∧
    u = s.setPow k.val { s.pow k.val with stretch := false } :=
  ⟨0, t_up.setPow 0 { t_up.pow 0 with stretch := true }, (t_up.setPow 0 { t_up.pow 0 with stretch := true }).setPow 0 { (t_up.setPow 0 { t_up.pow 0 with stretch := true }).pow 0 with stretch := false }, by decide +kernel, rfl⟩

theorem test_PowerEventsComplete_3 : ∃ (k : Fin 16) (cycles : Fin 65) (s : State),
    (s.pow k.val).stretch = true :=
  ⟨0, 5, t_up.setPow 0 { t_up.pow 0 with stretch := true }, by decide +kernel⟩

theorem test_HeatEventsComplete_0 : ∃ (r : Round) (s : State),
    s.pins.porst = false ∧
    s.regs.roundNext ≤ s.clk.ticks :=
  ⟨t_round 480, t_up, by decide +kernel⟩

theorem test_HeatEventsComplete_1 : ∃ (k : Fin 16) (s : State) (at_ : Nat),
    (s.heatOf k.val).st = .tripped ∧
    (s.heatOf k.val).held = false ∧
    (s.heatOf k.val).cool = some at_ ∧
    at_ + ms 100 ≤ s.clk.ticks :=
  ⟨0, t_cool false, 0, by decide +kernel⟩

theorem test_HeatEventsComplete_2 : ∃ (k : Fin 16) (s : State),
    (s.heatOf k.val).held = true :=
  ⟨0, t_cool true, by decide +kernel⟩


/-! ## Witnesses: Clocks and sleep -/

/-! ## Sleep, clocks and operating points -/

/-- A stack's clocks, changed. -/
def t_clk (f : StackClk → StackClk) : State := t_up.setSck 0 (f t_sck)
/-- Quire 0 idle since a timebase of 5 ms. -/
def t_idle : State := { t_up with idle := [(0, 5000000)] }
/-- A stack of two trained channels, both leaves of channel 0 parked; channel 1 as `b` says. -/
def t_parked (b : List Nat) : State :=
  let s := ((t_clk (fun c => { c with sr := b })).setLeaf 0 { Leaf.reset with parked := true }).setLeaf 1
    { Leaf.reset with parked := true }
  { s with chans := ((List.range 30).map (fun c => (c + 2, { Chan.reset with cal := { ChanCal.reset with untrained := true } }))) }

theorem test_SleepEventsComplete_0 : ∃ (q : Fin 1024) (s : State),
    s.setting 0x5001 0 ≠ 0 ∧
    s.stopping = false ∧
    (s.sup (stackOf q.val)).trained = true ∧
    s.quireIdle q.val = true ∧
    (∃ since, Tab.find? s.idle q.val = some since ∧ since + s.setting 0x5001 0 * 1000 ≤ s.now) :=
  ⟨0, t_idle, by decide +kernel, by decide +kernel, by decide +kernel, by decide +kernel, 5000000, by decide +kernel⟩

theorem test_SleepEventsComplete_1_first : ∃ (c : Fin 512) (s : State) (k : Nat),
    k = c.val / 32 ∧
    (s.sup k).trained = true ∧
    (s.upChans k).contains (c.val % 32) = true ∧
    (s.sck k).pll = .locked ∧
    (s.sck k).switching = false ∧
    (s.sck k).asleep = false ∧
    (s.sck k).sr.contains (c.val % 32) = false ∧
    (∀ l, l / 2 = c.val → (s.leaf l).queue = [] ∧ (s.leaf l).inflight = [] ∧ (s.care l).merge = []) ∧
    ((s.heatOf k).st = .tripped ∨
      (∀ l, l / 2 = c.val → (s.leaf l).parked = true ∧ s.refreshQuiet l = true) ∧
      (s.chan c.val).gap = false ∧ s.retraining c.val = false ∧ s.setting 0x5002 k ≠ 0 ∧ s.stopping = false) :=
  ⟨0, t_parked [], 0, by decide +kernel, by decide +kernel, by decide +kernel, by decide +kernel, by decide +kernel, by decide +kernel, by decide +kernel, (by
    intro l h
    have h : l = 0 ∨ l = 1 := by simp only [show (0 : Fin 512).val = 0 from rfl] at h; omega
    rcases h with rfl | rfl <;> decide +kernel), .inr ⟨(by
    intro l h
    have h : l = 0 ∨ l = 1 := by simp only [show (0 : Fin 512).val = 0 from rfl] at h; omega
    rcases h with rfl | rfl <;> decide +kernel), by decide +kernel⟩⟩

theorem test_SleepEventsComplete_1_last : ∃ (c : Fin 512) (s : State) (k : Nat),
    k = c.val / 32 ∧
    (s.sup k).trained = true ∧
    (s.upChans k).contains (c.val % 32) = true ∧
    (s.sck k).pll = .locked ∧
    (s.sck k).switching = false ∧
    (s.sck k).asleep = false ∧
    (s.sck k).sr.contains (c.val % 32) = false ∧
    (∀ l, l / 2 = c.val → (s.leaf l).queue = [] ∧ (s.leaf l).inflight = [] ∧ (s.care l).merge = []) ∧
    ((s.heatOf k).st = .tripped ∨
      (∀ l, l / 2 = c.val → (s.leaf l).parked = true ∧ s.refreshQuiet l = true) ∧
      (s.chan c.val).gap = false ∧ s.retraining c.val = false ∧ s.setting 0x5002 k ≠ 0 ∧ s.stopping = false) :=
  ⟨0, t_parked [1], 0, by decide +kernel, by decide +kernel, by decide +kernel, by decide +kernel, by decide +kernel, by decide +kernel, by decide +kernel, (by
    intro l h
    have h : l = 0 ∨ l = 1 := by simp only [show (0 : Fin 512).val = 0 from rfl] at h; omega
    rcases h with rfl | rfl <;> decide +kernel), .inr ⟨(by
    intro l h
    have h : l = 0 ∨ l = 1 := by simp only [show (0 : Fin 512).val = 0 from rfl] at h; omega
    rcases h with rfl | rfl <;> decide +kernel), by decide +kernel⟩⟩

theorem test_SleepEventsComplete_2 : ∃ (k : Fin 16) (s : State) (c : StackClk),
    c = s.sck k.val ∧
    c.asleep = true ∧
    c.waking = false ∧
    c.doms ≠ 0 ∧
    s.stopping = false ∧
    s.setting 0x5002 k.val = 2 ∧
    c.phase = .none ∧
    (∀ x ∈ s.leaves, x.1 / 64 = k.val → x.2.queue = [] ∧ x.2.inflight = []) ∧
    c.asleepAt + s.setting 0x5003 k.val * 1000 ≤ s.clk.ticks :=
  ⟨0, { t_clk (fun c => { c with asleep := true, pll := .standby, sr := List.range 32, asleepAt := 0 }) with bank := { t_up.bank with settings := [(0x5002 * 65536, 2)] } }, { t_sck with asleep := true, pll := .standby, sr := List.range 32, asleepAt := 0 }, by decide +kernel⟩

theorem test_SleepEventsComplete_3 : ∃ (k : Fin 16) (s : State),
    (s.sck k.val).waking = true ∧
    (s.sck k.val).doms = 0 :=
  ⟨0, t_clk (fun c => { c with asleep := true, waking := true, doms := 0, missed := 2 }), by decide +kernel⟩

theorem test_SleepEventsComplete_4 : ∃ (k : Fin 16) (s : State),
    (s.sck k.val).waking = true ∧
    (s.sck k.val).doms ≠ 0 ∧
    s.clk.refLost = false ∧
    (s.sck k.val).switching = false ∧
    ((s.sck k.val).pll = .locking ∨ (s.sck k.val).pll = .locked) :=
  ⟨0, t_clk (fun c => { c with asleep := true, waking := true, pll := .locking }), by decide +kernel⟩

theorem test_SleepEventsComplete_5 : ∃ (k : Fin 16) (s : State),
    (s.sck k.val).waking = false ∧
    (s.sck k.val).asleep = true ∧
    (s.sck k.val).doms ≠ 0 ∧
    s.clk.refLost = false ∧
    (s.sck k.val).switching = false ∧
    (s.sck k.val).pll = .locking :=
  ⟨0, t_clk (fun c => { c with asleep := true, waking := false, pll := .locking }), by decide +kernel⟩

theorem test_ClockLossesComplete_0 : ∃ (k : Fin 16) (s : State),
    (s.sck k.val).pll = .locked ∧
    (s.sck k.val).asleep = false :=
  ⟨0, t_up, by decide +kernel⟩

theorem test_ClockLossesComplete_1_hold : ∃ (k : Fin 16) (s : State) (late : List Nat),
    (s.sck k.val).pll = .locking ∧
    late = (s.sck k.val).fails.filter (fun t => decide (s.now < t + 1000000000)) :=
  ⟨0, t_clk (fun c => { c with pll := .locking, waking := true, fails := [10000000, 9000000] }), [10000000, 9000000], by decide +kernel⟩

theorem test_ClockLossesComplete_1_retry : ∃ (k : Fin 16) (s : State) (late : List Nat),
    (s.sck k.val).pll = .locking ∧
    late = (s.sck k.val).fails.filter (fun t => decide (s.now < t + 1000000000)) :=
  ⟨0, t_clk (fun c => { c with pll := .locking, waking := true, fails := [9000000] }), [9000000], by decide +kernel⟩

theorem test_ClockLossesComplete_2 : ∃ s : State,
    s.clk.refLost = false :=
  ⟨t_up, by decide +kernel⟩

theorem test_ClockLossesComplete_3 : ∃ s : State,
    s.clk.refLost = true ∧
    s.clk.refLostAt + us 1000 ≤ s.clk.ticks :=
  ⟨{ t_up with clk := { t_up.clk with refLost := true } }, by decide +kernel⟩

theorem test_ClockLossesComplete_4 : ∃ s : State,
    s.clk.ntLock = true :=
  ⟨{ t_up with clk := { t_up.clk with ntLock := true, aligned := true } }, by decide +kernel⟩

theorem test_OperatingPointEventsComplete_0_economy : ∃ (k : Fin 16) (s : State) (rb : Bool) (pt : Nat),
    (s.sck k.val).phase = .switching rb ∧
    s.clk.refLost = false ∧
    (s.sck k.val).phaseAt ≤ s.clk.ticks ∧
    pt = (if rb then 0 else (s.sck k.val).optgt) :=
  ⟨0, t_clk (fun c => { c with phase := .switching false, optgt := 1, pll := .locking }), false, 1, by decide +kernel⟩

theorem test_OperatingPointEventsComplete_0_rollback : ∃ (k : Fin 16) (s : State) (rb : Bool) (pt : Nat),
    (s.sck k.val).phase = .switching rb ∧
    s.clk.refLost = false ∧
    (s.sck k.val).phaseAt ≤ s.clk.ticks ∧
    pt = (if rb then 0 else (s.sck k.val).optgt) :=
  ⟨0, t_clk (fun c => { c with phase := .switching true, optgt := 1, pll := .locking }), true, 0, by decide +kernel⟩

theorem test_OperatingPointEventsComplete_0_tripped : ∃ (k : Fin 16) (s : State) (rb : Bool) (pt : Nat),
    (s.sck k.val).phase = .switching rb ∧
    s.clk.refLost = false ∧
    (s.sck k.val).phaseAt ≤ s.clk.ticks ∧
    pt = (if rb then 0 else (s.sck k.val).optgt) :=
  ⟨0, (t_clk (fun c => { c with phase := .switching false, optgt := 1, pll := .locking })).setHeat 0 { t_up.heatOf 0 with st := .tripped }, false, 1, by decide +kernel⟩

theorem test_OperatingPointEventsComplete_1_rampUp : ∃ (k : Fin 16) (s : State) (c : StackClk),
    c = s.sck k.val ∧
    (c.phase = .rampUp ∨ c.phase = .rampDown) ∧
    c.withholdAck = true :=
  ⟨0, t_clk (fun c => { c with phase := .rampUp, withholdAck := true }), { t_sck with phase := .rampUp, withholdAck := true }, by decide +kernel⟩

theorem test_OperatingPointEventsComplete_1_rampDown : ∃ (k : Fin 16) (s : State) (c : StackClk),
    c = s.sck k.val ∧
    (c.phase = .rampUp ∨ c.phase = .rampDown) ∧
    c.withholdAck = true :=
  ⟨0, t_clk (fun c => { c with phase := .rampDown, withholdAck := true }), { t_sck with phase := .rampDown, withholdAck := true }, by decide +kernel⟩

theorem test_OperatingPointEventsComplete_2_ramp : ∃ (k : Fin 16) (s : State) (c : StackClk) (rb : Bool),
    c = s.sck k.val ∧
    c.phase = (if rb then .rollUp else .rampUp) ∧
    c.withholdAck = false ∧
    c.opcur ≠ 0 :=
  ⟨0, t_clk (fun c => { c with phase := .rampUp, opcur := 1 }), { t_sck with phase := .rampUp, opcur := 1 }, false, by decide +kernel⟩

theorem test_OperatingPointEventsComplete_2_roll : ∃ (k : Fin 16) (s : State) (c : StackClk) (rb : Bool),
    c = s.sck k.val ∧
    c.phase = (if rb then .rollUp else .rampUp) ∧
    c.withholdAck = false ∧
    c.opcur ≠ 0 :=
  ⟨0, t_clk (fun c => { c with phase := .rollUp, opcur := 1 }), { t_sck with phase := .rollUp, opcur := 1 }, true, by decide +kernel⟩

theorem test_OperatingPointEventsComplete_2_asleep : ∃ (k : Fin 16) (s : State) (c : StackClk) (rb : Bool),
    c = s.sck k.val ∧
    c.phase = (if rb then .rollUp else .rampUp) ∧
    c.withholdAck = false ∧
    c.opcur ≠ 0 :=
  ⟨0, t_clk (fun c => { c with phase := .rampUp, opcur := 1, asleep := true, pll := .standby }), { t_sck with phase := .rampUp, opcur := 1, asleep := true, pll := .standby }, false, by decide +kernel⟩

theorem test_OperatingPointEventsComplete_3_rampUp : ∃ (k : Fin 16) (s : State) (c : StackClk),
    c = s.sck k.val ∧
    (c.phase = .rampUp ∨ c.phase = .rollUp) ∧
    c.withholdAck = false ∧
    c.opcur = 0 :=
  ⟨0, t_clk (fun c => { c with phase := .rampUp, optgt := 1 }), { t_sck with phase := .rampUp, optgt := 1 }, by decide +kernel⟩

theorem test_OperatingPointEventsComplete_3_rollUp : ∃ (k : Fin 16) (s : State) (c : StackClk),
    c = s.sck k.val ∧
    (c.phase = .rampUp ∨ c.phase = .rollUp) ∧
    c.withholdAck = false ∧
    c.opcur = 0 :=
  ⟨0, t_clk (fun c => { c with phase := .rollUp, optgt := 1 }), { t_sck with phase := .rollUp, optgt := 1 }, by decide +kernel⟩

theorem test_OperatingPointEventsComplete_4_rampDown : ∃ (k : Fin 16) (s : State) (c : StackClk),
    c = s.sck k.val ∧
    (c.phase = .rampDown ∨ c.phase = .rollDown) ∧
    c.withholdAck = false :=
  ⟨0, t_clk (fun c => { c with phase := .rampDown, opcur := 1 }), { t_sck with phase := .rampDown, opcur := 1 }, by decide +kernel⟩

theorem test_OperatingPointEventsComplete_4_rollDown : ∃ (k : Fin 16) (s : State) (c : StackClk),
    c = s.sck k.val ∧
    (c.phase = .rampDown ∨ c.phase = .rollDown) ∧
    c.withholdAck = false :=
  ⟨0, t_clk (fun c => { c with phase := .rollDown, opcur := 1 }), { t_sck with phase := .rollDown, opcur := 1 }, by decide +kernel⟩

theorem test_OperatingPointEventsComplete_5_rampUp : ∃ (k : Fin 16) (s : State) (c : StackClk),
    c = s.sck k.val ∧
    (c.phase = .rampUp ∨ c.phase = .rampDown) ∧
    s.swapDue = false ∧
    c.phaseAt + us 200 ≤ s.clk.ticks :=
  ⟨0, t_clk (fun c => { c with phase := .rampUp, optgt := 1, opOld := 1 }), { t_sck with phase := .rampUp, optgt := 1, opOld := 1 }, by decide +kernel⟩

theorem test_OperatingPointEventsComplete_5_rampDown : ∃ (k : Fin 16) (s : State) (c : StackClk),
    c = s.sck k.val ∧
    (c.phase = .rampUp ∨ c.phase = .rampDown) ∧
    s.swapDue = false ∧
    c.phaseAt + us 200 ≤ s.clk.ticks :=
  ⟨0, t_clk (fun c => { c with phase := .rampDown, optgt := 1, opOld := 0 }), { t_sck with phase := .rampDown, optgt := 1, opOld := 0 }, by decide +kernel⟩

theorem test_OperatingPointEventsComplete_6_rollUp : ∃ (k : Fin 16) (s : State) (c : StackClk),
    c = s.sck k.val ∧
    (c.phase = .rollUp ∨ c.phase = .rollDown) ∧
    c.phaseAt + us 200 ≤ s.clk.ticks ∧
    c.pll ≠ .off :=
  ⟨0, t_clk (fun c => { c with phase := .rollUp }), { t_sck with phase := .rollUp }, by decide +kernel⟩

theorem test_OperatingPointEventsComplete_6_rollDown : ∃ (k : Fin 16) (s : State) (c : StackClk),
    c = s.sck k.val ∧
    (c.phase = .rollUp ∨ c.phase = .rollDown) ∧
    c.phaseAt + us 200 ≤ s.clk.ticks ∧
    c.pll ≠ .off :=
  ⟨0, t_clk (fun c => { c with phase := .rollDown }), { t_sck with phase := .rollDown }, by decide +kernel⟩


/-! ## Witnesses: Heat and power -/

/-! ## Sheets, quires, pages and hosts -/

/-- A committed set with one setting, which lands at the next boundary; another for much later. -/
def t_set (time : Nat) : ChangeSet :=
  { page := 3, items := [⟨.setting 0x4003 0 6, 4⟩], tickets := [], committed := true, commitTicket := 0, time := time,
    notBefore := 0, seq := 0 }
def t_sheet (aligned : Bool) (sets : List ChangeSet) : State :=
  { t_up with sets := sets, clk := { t_up.clk with sheetStart := 8000000, aligned := aligned, ntLock := true, ntHigh := 200000000 } }
def t_nt (tod : Nat) : NetTime := { tod := tod, lock := true, valid := true }
/-- Quire 0 in a life state, its leaf zeroing or not, its fill through. -/
def t_quire (st : LifeState) : State :=
  { t_up.setCare 0 { t_up.care 0 with holder := if st = .zeroing then some (plainReq .zero 0 0) else none, zeroAt := 2 ^ 31 } with
    bank := { t_up.bank with quires := [(0, ⟨0, st, false, false, 3, 0, 0, 5⟩)] },
    mem := [(8, 1), (2 ^ 31 + 8, 2)], chk := [(1, 0)] }
/-- Page 3 open, with two commands and three completions. -/
def t_page : Page :=
  { Page.reset with
    pstate := .opened, gen := 3, caps := 0xFFFF, cmdTail := 2, cplTail := 3, epoch := 1, tgenOpen := 1 }
def t_pages : State := t_up.setPage 3 t_page
/-- Host 0 watched since tick 0, late or lost. -/
def t_host (lost : Bool) : State :=
  { t_up.setHost 0 { HostSt.reset with watched := true, lost := lost, leaseOn := lost } with
    clk := { t_up.clk with ticks := 10 ^ 12 }, sets := [{ t_set 0 with committed := false }] }

theorem test_SheetEventsComplete_0_grid : ∃ (nt : NetTime) (s : State) (b : Nat) (start : Nat),
    b = s.nextBoundary ∧
    s.pins.porst = false ∧
    b ≤ s.now ∧
    start = (if !s.clk.aligned && nt.lock && s.clk.ntLock && nt.valid && decide (100000000 ≤ s.clk.ntHigh) then nt.tod else b) :=
  ⟨t_nt 1234567, t_sheet true [t_set 0, t_set (10 ^ 12)], (t_sheet true [t_set 0, t_set (10 ^ 12)]).nextBoundary, (t_sheet true [t_set 0, t_set (10 ^ 12)]).nextBoundary, rfl, by decide +kernel⟩

theorem test_SheetEventsComplete_0_step : ∃ (nt : NetTime) (s : State) (b : Nat) (start : Nat),
    b = s.nextBoundary ∧
    s.pins.porst = false ∧
    b ≤ s.now ∧
    start = (if !s.clk.aligned && nt.lock && s.clk.ntLock && nt.valid && decide (100000000 ≤ s.clk.ntHigh) then nt.tod else b) :=
  ⟨t_nt 1234567, t_sheet false [t_set 0, t_set (10 ^ 12)], (t_sheet false [t_set 0, t_set (10 ^ 12)]).nextBoundary, 1234567, rfl, by decide +kernel⟩

theorem test_SheetEventsComplete_1 : ∃ (s : State) (c : ChangeSet) (code : Nat) (inst : Nat) (v : Nat) (tk : Nat),
    s.pins.porst = false ∧
    s.nextBoundary ≤ s.now ∧
    s.clk.aligned = true ∧
    s.landing_ s.nextBoundary s.nextBoundary = [c] ∧
    c.items = [⟨.setting code inst v, tk⟩] :=
  ⟨t_sheet true [t_set 0, t_set (10 ^ 12)], t_set 0, 0x4003, 0, 6, 4, by decide +kernel⟩

theorem test_SheetEventsComplete_2_behind : ∃ (nt : NetTime) (s : State) (err : Int),
    s.clk.aligned = true ∧
    nt.lock = true ∧
    nt.valid = true ∧
    err = (nt.tod : Int) * 2 ^ 32 - s.clk.tb ∧
    (10000 * 2 ^ 32 < err ∨ err < -(10000 * 2 ^ 32)) :=
  ⟨t_nt 10011000, t_sheet true [], (11000 : Int) * 2 ^ 32, by decide +kernel⟩

theorem test_SheetEventsComplete_2_ahead : ∃ (nt : NetTime) (s : State) (err : Int),
    s.clk.aligned = true ∧
    nt.lock = true ∧
    nt.valid = true ∧
    err = (nt.tod : Int) * 2 ^ 32 - s.clk.tb ∧
    (10000 * 2 ^ 32 < err ∨ err < -(10000 * 2 ^ 32)) :=
  ⟨t_nt 9000000, t_sheet true [], (-1000000 : Int) * 2 ^ 32, by decide +kernel⟩

theorem test_QuireEventsComplete_0 : ∃ (q : Fin 1024) (s : State),
    (s.bank.quire q.val).qstate = .draining ∧
    s.quireDrained q.val = true :=
  ⟨0, t_quire .draining, by decide +kernel⟩

theorem test_QuireEventsComplete_1 : ∃ (q : Fin 1024) (s : State) (ls : List Nat),
    (s.bank.quire q.val).qstate = .zeroing ∧
    ls = s.membersOf q.val (s.bank.quire q.val).qk ∧
    (∀ l ∈ ls, (s.care l).runs .zero = true ∧ s.zeroDone l = true) :=
  ⟨0, t_quire .zeroing, [0], by decide +kernel⟩

/-- Leaf 0 in the middle of its fill, with the next run queued or not. -/
def t_zero : Entry :=
  { t_ent true with lake := true, la := 512, nb := 8, ten := 0xFFFE, words := zeroRun, src := .zero }
def t_zeroing (q : List Entry) : State :=
  let s := t_leaf true (some 9)
  (s.setLeaf 0 { s.leaf 0 with queue := q }).setCare 0
    { s.care 0 with zeroing := true, zeroAt := 512, holder := some (plainReq .zero 0 0) }

theorem test_QuireEventsComplete_2 : ∃ (leaf : Nat) (s : State),
    (s.care leaf).zeroing = true ∧
    (s.care leaf).runs .zero = true ∧
    s.zeroDone leaf = false ∧
    s.freeEntries leaf ≠ 0 ∧
    (∀ e ∈ (s.leaf leaf).queue, e.src ≠ .zero) ∧
    s.channelAsleep (channelOf leaf) = false :=
  ⟨0, t_zeroing [], by decide +kernel⟩

theorem test_QuireEventsComplete_3 : ∃ (l : Fin 1024) (s : State) (e : Entry),
    s.leafRuns l.val = true ∧
    s.escReady l.val = false ∧
    firstEntry columnBefore ((s.leaf l.val).queue.filter (s.columnOk l.val (s.leaf l.val))) = some e ∧
    Memory.wf s = true ∧
    e.src = .zero ∧
    e.wr = true ∧
    e.words = zeroRun ∧
    e.nb = 8 ∧
    e.raw = [] ∧
    e.la % 256 = 0 ∧
    e.la < 2 ^ 31 :=
  ⟨0, t_zeroing [t_zero], t_zero, by decide +kernel⟩

theorem test_PageWritesComplete_0_some : ∃ (page : Fin 521) (src : Fin 16) (v : BitVec 32) (s : State) (p : Page) (n : Nat),
    s.pins.porst = false ∧
    s.pageFull page.val src.val = true ∧
    s.pagesOff = false ∧
    p = s.page page.val ∧
    p.pstate ≠ .closed ∧
    n = v.toNat % 64 ∧
    ringUsed p.cmdTail p.cmdHead ≤ ringUsed n p.cmdHead ∧
    ringUsed n p.cmdHead ≤ 32 :=
  ⟨3, 0, 5, t_pages, t_page, 5, by decide +kernel⟩

theorem test_PageWritesComplete_0_full : ∃ (page : Fin 521) (src : Fin 16) (v : BitVec 32) (s : State) (p : Page) (n : Nat),
    s.pins.porst = false ∧
    s.pageFull page.val src.val = true ∧
    s.pagesOff = false ∧
    p = s.page page.val ∧
    p.pstate ≠ .closed ∧
    n = v.toNat % 64 ∧
    ringUsed p.cmdTail p.cmdHead ≤ ringUsed n p.cmdHead ∧
    ringUsed n p.cmdHead ≤ 32 :=
  ⟨3, 0, 32, t_pages, t_page, 32, by decide +kernel⟩

theorem test_PageWritesComplete_1_back : ∃ (page : Fin 521) (src : Fin 16) (v : BitVec 32) (s : State) (p : Page) (n : Nat),
    s.pins.porst = false ∧
    s.pageFull page.val src.val = true ∧
    s.pagesOff = false ∧
    p = s.page page.val ∧
    n = v.toNat % 64 ∧
    (ringUsed n p.cmdHead < ringUsed p.cmdTail p.cmdHead ∨ 32 < ringUsed n p.cmdHead) :=
  ⟨3, 0, 1, t_pages, t_page, 1, by decide +kernel⟩

theorem test_PageWritesComplete_1_over : ∃ (page : Fin 521) (src : Fin 16) (v : BitVec 32) (s : State) (p : Page) (n : Nat),
    s.pins.porst = false ∧
    s.pageFull page.val src.val = true ∧
    s.pagesOff = false ∧
    p = s.page page.val ∧
    n = v.toNat % 64 ∧
    (ringUsed n p.cmdHead < ringUsed p.cmdTail p.cmdHead ∨ 32 < ringUsed n p.cmdHead) :=
  ⟨3, 0, 33, t_pages, t_page, 33, by decide +kernel⟩

theorem test_PageWritesComplete_2 : ∃ (page : Fin 521) (src : Fin 16) (v : BitVec 32) (s : State) (p : Page) (n : Nat),
    s.pins.porst = false ∧
    s.pageFull page.val src.val = true ∧
    s.pagesOff = false ∧
    p = s.page page.val ∧
    p.pstate ≠ .closed ∧
    n = v.toNat % 64 ∧
    ringUsed p.cplTail n ≤ ringUsed p.cplTail p.cplHead :=
  ⟨3, 0, 2, t_pages, t_page, 2, by decide +kernel⟩

theorem test_PageWritesComplete_3 : ∃ (page : Fin 521) (src : Fin 16) (s : State),
    s.pins.porst = false ∧
    s.pageFull page.val src.val = false :=
  ⟨3, 1, t_pages, by decide +kernel⟩

theorem test_HostEventsComplete_0_link : ∃ (h : Fin 8) (i : Instr) (s : State),
    s.serving = true ∧
    (s.host h.val).lost = false ∧
    (i = .hostLinkDown h ∨ (i = .heartbeatTimeout h ∧ (s.host h.val).watched = true ∧
      (s.host h.val).beat + ms (10 * s.setting 0x6002 h.val) ≤ s.clk.ticks)) :=
  ⟨0, .hostLinkDown 0, t_host false, by decide +kernel, by decide +kernel, .inl rfl⟩

theorem test_HostEventsComplete_0_beat : ∃ (h : Fin 8) (i : Instr) (s : State),
    s.serving = true ∧
    (s.host h.val).lost = false ∧
    (i = .hostLinkDown h ∨ (i = .heartbeatTimeout h ∧ (s.host h.val).watched = true ∧
      (s.host h.val).beat + ms (10 * s.setting 0x6002 h.val) ≤ s.clk.ticks)) :=
  ⟨0, .heartbeatTimeout 0, t_host false, by decide +kernel, by decide +kernel, .inr ⟨rfl, by decide +kernel, by decide +kernel⟩⟩

theorem test_HostEventsComplete_1 : ∃ (h : Fin 8) (s : State),
    s.pins.porst = false ∧
    s.pagesOff = false :=
  ⟨0, t_host true, by decide +kernel⟩

theorem test_HostEventsComplete_2 : ∃ (h : Fin 8) (s : State),
    s.serving = true ∧
    (s.host h.val).lost = true :=
  ⟨0, t_host true, by decide +kernel⟩

theorem test_HostEventsComplete_3 : ∃ (h : Fin 8) (s : State),
    s.serving = true ∧
    (s.host h.val).lost = true ∧
    (s.host h.val).leaseOn = true ∧
    (s.host h.val).lostAt + ms (1000 * s.setting 0x6003 h.val) ≤ s.clk.ticks ∧
    s.leaseTenants h.val ≠ [] ∧
    (s.leaseTenants h.val).length ≤ 256 ∧
    s.ownRoom (s.leaseTenants h.val).length = true :=
  ⟨0, t_host true, by decide +kernel⟩


/-! ## Witnesses: Sheets, hosts and bring-up -/

/-! ## Resets and bring-up -/

def t_porst : State := State.reset
/-- A hand-over that started at tick 0 and should be over at tick 2,000,000. -/
def t_hand : State := { t_up with boot := { t_up.boot with pauseAt := some 0 }, clk := { t_up.clk with ticks := 3000000 } }
/-- A trial of slot A that began at time 0, at 70 s. -/
def t_trial (raise : Bool) : State :=
  { t_up with
    boot := { t_up.boot with
      bkp := [(1, 2)], trialAt := 0, dev := { t_dev with slotA := { t_slot with raise := raise } } }
    clk := { t_up.clk with tb := 70000000000 * 2 ^ 32 } }
/-- A block's drain, begun at tick 0, over or not. -/
def t_drain (b : Nat) (done : Bool) : State :=
  { t_up with boot := { t_up.boot with drains := [(b, 0, done)] }, regs := { t_up.regs with rstBusy := 2 ^ b } }
def t_mordant : State :=
  { t_up with
    boot := { t_up.boot with firmware := false, mordantRst := true, mrstAt := 0 }
    regs := { t_up.regs with rstBusy := 2 ^ 20 } }
/-- Supplies before and in bring-up. -/
def t_off : Supply := Supply.reset
def t_early : State := { t_up with supply := [] }
def t_sups (a b : Supply) : State := { t_up with supply := [(2, a), (3, b)] }
def t_on (at_ : Nat) : Supply := { Supply.reset with enable := true, enableAt := at_ }
def t_good (at_ : Nat) : Supply := { Supply.reset with enable := true, enableAt := at_, good := true, goodAt := at_ }
/-- Stack 2 settled and waiting for its training. -/
def t_wait (stype rate : Nat) (imported : Bool) : State :=
  t_up.setSup 2 { t_good 1000 with stype := stype, rate := rate, imported := imported, rstOutLow := false }
/-- Before DW_READY: every stack but 15 fenced; its leaves filled, or not. -/
def t_before (filled : Bool) : State :=
  { t_up with
    pins := { t_up.pins with ready := false }
    supply := (List.range 15).map (fun k => (k, { Supply.reset with fenced := true })) ++ [(15, t_sup)]
    cares := (List.range 64).map (fun i => (960 + i,
      { Care.reset with filled := filled || i != 63, lost := !filled && i == 63 })) }

theorem test_PowerOnComplete_1_silent : ∃ (dev : FlashDev) (s : State) (u : State),
    s.pins.porst = true ∧
    u = { s with pins := { s.pins with porst := false }, boot := { s.boot with dev := dev, coreReset := false } } :=
  ⟨{ t_dev with answers := false }, t_porst, { t_porst with pins := { t_porst.pins with porst := false }, boot := { t_porst.boot with dev := { t_dev with answers := false }, coreReset := false } }, by decide +kernel, rfl⟩

theorem test_PowerOnComplete_1_small : ∃ (dev : FlashDev) (s : State) (u : State),
    s.pins.porst = true ∧
    u = { s with pins := { s.pins with porst := false }, boot := { s.boot with dev := dev, coreReset := false } } :=
  ⟨{ t_dev with sizeMiB := 8 }, t_porst, { t_porst with pins := { t_porst.pins with porst := false }, boot := { t_porst.boot with dev := { t_dev with sizeMiB := 8 }, coreReset := false } }, by decide +kernel, rfl⟩

theorem test_PowerOnComplete_1_erase : ∃ (dev : FlashDev) (s : State) (u : State),
    s.pins.porst = true ∧
    u = { s with pins := { s.pins with porst := false }, boot := { s.boot with dev := dev, coreReset := false } } :=
  ⟨{ t_dev with eraseOk := false }, t_porst, { t_porst with pins := { t_porst.pins with porst := false }, boot := { t_porst.boot with dev := { t_dev with eraseOk := false }, coreReset := false } }, by decide +kernel, rfl⟩

theorem test_PowerOnComplete_1_slotless : ∃ (dev : FlashDev) (s : State) (u : State),
    s.pins.porst = true ∧
    u = { s with pins := { s.pins with porst := false }, boot := { s.boot with dev := dev, coreReset := false } } :=
  ⟨{ t_dev with slotA := Slot.erased }, t_porst, { t_porst with pins := { t_porst.pins with porst := false }, boot := { t_porst.boot with dev := { t_dev with slotA := Slot.erased }, coreReset := false } }, by decide +kernel, rfl⟩

theorem test_PowerOnComplete_1_boots : ∃ (dev : FlashDev) (s : State) (u : State),
    s.pins.porst = true ∧
    u = { s with pins := { s.pins with porst := false }, boot := { s.boot with dev := dev, coreReset := false } } :=
  ⟨t_dev, t_porst, { t_porst with pins := { t_porst.pins with porst := false }, boot := { t_porst.boot with dev := t_dev, coreReset := false } }, by decide +kernel, rfl⟩

theorem test_CoreResetsComplete_0_chip : ∃ (i : Instr) (s : State) (code : Nat),
    s.pins.porst = false ∧
    (i = .chipWarmReset ∧ code = 2 ∨ (∃ b, i = .criticalStateError b) ∧ code = 4 ∨ (∃ src v, i = .hostrstCore src v ∧ (s.ownerSrc src.val || s.debugSrc src.val) = true ∧ v.toNat / 2 ^ 24 = 0x5A ∧ v.toNat % 2 = 1 ∧ s.boot.coreReset = false) ∧ code = 3) :=
  ⟨.chipWarmReset, t_up, 2, by decide +kernel, .inl ⟨rfl, rfl⟩⟩

theorem test_CoreResetsComplete_0_critical : ∃ (i : Instr) (s : State) (code : Nat),
    s.pins.porst = false ∧
    (i = .chipWarmReset ∧ code = 2 ∨ (∃ b, i = .criticalStateError b) ∧ code = 4 ∨ (∃ src v, i = .hostrstCore src v ∧ (s.ownerSrc src.val || s.debugSrc src.val) = true ∧ v.toNat / 2 ^ 24 = 0x5A ∧ v.toNat % 2 = 1 ∧ s.boot.coreReset = false) ∧ code = 3) :=
  ⟨.criticalStateError true, t_up, 4, by decide +kernel, .inr (.inl ⟨⟨true, rfl⟩, rfl⟩)⟩

theorem test_CoreResetsComplete_0_host : ∃ (i : Instr) (s : State) (code : Nat),
    s.pins.porst = false ∧
    (i = .chipWarmReset ∧ code = 2 ∨ (∃ b, i = .criticalStateError b) ∧ code = 4 ∨ (∃ src v, i = .hostrstCore src v ∧ (s.ownerSrc src.val || s.debugSrc src.val) = true ∧ v.toNat / 2 ^ 24 = 0x5A ∧ v.toNat % 2 = 1 ∧ s.boot.coreReset = false) ∧ code = 3) :=
  ⟨.hostrstCore 0 0x5A000001, t_up, 3, by decide +kernel, .inr (.inr ⟨⟨0, 0x5A000001, rfl, by decide +kernel, by decide, by decide, by decide +kernel⟩, rfl⟩)⟩

theorem test_CoreResetsComplete_1 : ∃ (s : State),
    s.pins.porst = false ∧
    s.boot.coreReset = true ∧
    s.boot.fwAt + 128 ≤ s.clk.ticks :=
  ⟨t_after .chipWarmReset t_up |> fun s => { s with clk := { s.clk with ticks := s.clk.ticks + 200 } }, by decide +kernel⟩

theorem test_MordantResetsComplete_0_watchdog : ∃ (i : Instr) (s : State) (code : Nat),
    (i = .mordantWatchdogExpiry ∧ s.mordantUp = true ∧ code = 5 ∨ i = .handoverTimeout ∧ s.mordantUp = true ∧ (∃ at_, s.boot.pauseAt = some at_ ∧ at_ + ms 20 ≤ s.clk.ticks) ∧ code = 7 ∨ (∃ src v, i = .swrstMordant src v ∧ s.pins.porst = false ∧ s.boot.coreReset = false ∧ (s.ownerSrc src.val || s.debugSrc src.val) = true ∧ v.toNat = 0xA5100000 ∧ bitAt s.regs.rstBusy 20 = false) ∧ code = 6) :=
  ⟨.mordantWatchdogExpiry, t_up, 5, .inl ⟨rfl, by decide +kernel, rfl⟩⟩

theorem test_MordantResetsComplete_0_handover : ∃ (i : Instr) (s : State) (code : Nat),
    (i = .mordantWatchdogExpiry ∧ s.mordantUp = true ∧ code = 5 ∨ i = .handoverTimeout ∧ s.mordantUp = true ∧ (∃ at_, s.boot.pauseAt = some at_ ∧ at_ + ms 20 ≤ s.clk.ticks) ∧ code = 7 ∨ (∃ src v, i = .swrstMordant src v ∧ s.pins.porst = false ∧ s.boot.coreReset = false ∧ (s.ownerSrc src.val || s.debugSrc src.val) = true ∧ v.toNat = 0xA5100000 ∧ bitAt s.regs.rstBusy 20 = false) ∧ code = 6) :=
  ⟨.handoverTimeout, t_hand, 7, .inr (.inl ⟨rfl, by decide +kernel, ⟨0, by decide +kernel, by decide +kernel⟩, rfl⟩)⟩

theorem test_MordantResetsComplete_0_swrst : ∃ (i : Instr) (s : State) (code : Nat),
    (i = .mordantWatchdogExpiry ∧ s.mordantUp = true ∧ code = 5 ∨ i = .handoverTimeout ∧ s.mordantUp = true ∧ (∃ at_, s.boot.pauseAt = some at_ ∧ at_ + ms 20 ≤ s.clk.ticks) ∧ code = 7 ∨ (∃ src v, i = .swrstMordant src v ∧ s.pins.porst = false ∧ s.boot.coreReset = false ∧ (s.ownerSrc src.val || s.debugSrc src.val) = true ∧ v.toNat = 0xA5100000 ∧ bitAt s.regs.rstBusy 20 = false) ∧ code = 6) :=
  ⟨.swrstMordant 0 0xA5100000, t_up, 6, .inr (.inr ⟨⟨0, 0xA5100000, rfl, by decide +kernel, by decide +kernel, by decide +kernel, by decide, by decide +kernel⟩, rfl⟩)⟩

theorem test_MordantResetsComplete_1_raises : ∃ (s : State) (x : Slot),
    s.mordantUp = true ∧
    bitAt (Tab.num s.boot.bkp 1) 1 = true ∧
    s.boot.trialAt + 60000000000 ≤ s.now ∧
    x = s.slot (fld (Tab.num s.boot.bkp 1) 0 1) :=
  ⟨t_trial true, { t_slot with raise := true }, by decide +kernel⟩

theorem test_MordantResetsComplete_1_keeps : ∃ (s : State) (x : Slot),
    s.mordantUp = true ∧
    bitAt (Tab.num s.boot.bkp 1) 1 = true ∧
    s.boot.trialAt + 60000000000 ≤ s.now ∧
    x = s.slot (fld (Tab.num s.boot.bkp 1) 0 1) :=
  ⟨t_trial false, { t_slot with raise := false }, by decide +kernel⟩

theorem test_BlockResetsComplete_0_stack : ∃ (src : Fin 16) (v : BitVec 32) (i : Instr) (s : State),
    (i = .swrstStack src v ∨ i = .swrstLake src v ∨ i = .swrstXbar src v ∨ i = .swrstTrace src v) ∧
    s.pins.porst = false ∧
    s.boot.coreReset = false ∧
    (s.ownerSrc src.val || s.debugSrc src.val) = true ∧
    v.toNat / 2 ^ 24 = 0xA5 ∧
    bitAt v.toNat 20 = false ∧
    s.regs.rstBusy = 0 :=
  ⟨0, 0xA5000004, .swrstStack 0 0xA5000004, t_up, .inl rfl, by decide +kernel⟩

theorem test_BlockResetsComplete_0_lake : ∃ (src : Fin 16) (v : BitVec 32) (i : Instr) (s : State),
    (i = .swrstStack src v ∨ i = .swrstLake src v ∨ i = .swrstXbar src v ∨ i = .swrstTrace src v) ∧
    s.pins.porst = false ∧
    s.boot.coreReset = false ∧
    (s.ownerSrc src.val || s.debugSrc src.val) = true ∧
    v.toNat / 2 ^ 24 = 0xA5 ∧
    bitAt v.toNat 20 = false ∧
    s.regs.rstBusy = 0 :=
  ⟨0, 0xA5010000, .swrstLake 0 0xA5010000, t_up, .inr (.inl rfl), by decide +kernel⟩

theorem test_BlockResetsComplete_0_xbar : ∃ (src : Fin 16) (v : BitVec 32) (i : Instr) (s : State),
    (i = .swrstStack src v ∨ i = .swrstLake src v ∨ i = .swrstXbar src v ∨ i = .swrstTrace src v) ∧
    s.pins.porst = false ∧
    s.boot.coreReset = false ∧
    (s.ownerSrc src.val || s.debugSrc src.val) = true ∧
    v.toNat / 2 ^ 24 = 0xA5 ∧
    bitAt v.toNat 20 = false ∧
    s.regs.rstBusy = 0 :=
  ⟨0, 0xA5040000, .swrstXbar 0 0xA5040000, t_up, .inr (.inr (.inl rfl)), by decide +kernel⟩

theorem test_BlockResetsComplete_0_trace : ∃ (src : Fin 16) (v : BitVec 32) (i : Instr) (s : State),
    (i = .swrstStack src v ∨ i = .swrstLake src v ∨ i = .swrstXbar src v ∨ i = .swrstTrace src v) ∧
    s.pins.porst = false ∧
    s.boot.coreReset = false ∧
    (s.ownerSrc src.val || s.debugSrc src.val) = true ∧
    v.toNat / 2 ^ 24 = 0xA5 ∧
    bitAt v.toNat 20 = false ∧
    s.regs.rstBusy = 0 :=
  ⟨0, 0xA5200000, .swrstTrace 0 0xA5200000, t_up, .inr (.inr (.inr rfl)), by decide +kernel⟩

theorem test_BlockResetsComplete_1 : ∃ (src : Fin 16) (v : BitVec 32) (i : Instr) (s : State),
    (i = .swrstStack src v ∨ i = .swrstLake src v ∨ i = .swrstXbar src v ∨ i = .swrstMordant src v ∨ i = .swrstTrace src v) ∧
    s.pins.porst = false ∧
    (s.ownerSrc src.val || s.debugSrc src.val) = false :=
  ⟨1, 0xA5100000, .swrstMordant 1 0xA5100000, t_up, .inr (.inr (.inr (.inl rfl))), by decide +kernel⟩

theorem test_BlockResetsComplete_2_0 : ∃ (b : Fin 22) (s : State) (t0 : Nat),
    s.boot.drains.find? (fun (x, _, e) => x == b.val && !e) = some (b.val, t0, false) ∧
    (b.val < 16 → (s.sck b.val).phase = .none) ∧
    (s.blockDrained b.val = true ∨ t0 + us 20 ≤ s.clk.ticks) :=
  ⟨0, t_drain 0 false, 0, by decide +kernel⟩

theorem test_BlockResetsComplete_3_0 : ∃ (b : Fin 22) (s : State) (t0 : Nat),
    b.val ≠ 20 ∧
    s.boot.drains.find? (fun (x, _, e) => x == b.val && e) = some (b.val, t0, true) ∧
    t0 + 128 ≤ s.clk.ticks ∧
    (b.val < 16 → s.stackBack b.val = true) :=
  ⟨0, t_drain 0 true, 0, by decide +kernel⟩

theorem test_BlockResetsComplete_2_16 : ∃ (b : Fin 22) (s : State) (t0 : Nat),
    s.boot.drains.find? (fun (x, _, e) => x == b.val && !e) = some (b.val, t0, false) ∧
    (b.val < 16 → (s.sck b.val).phase = .none) ∧
    (s.blockDrained b.val = true ∨ t0 + us 20 ≤ s.clk.ticks) :=
  ⟨16, t_drain 16 false, 0, by decide +kernel⟩

theorem test_BlockResetsComplete_3_16 : ∃ (b : Fin 22) (s : State) (t0 : Nat),
    b.val ≠ 20 ∧
    s.boot.drains.find? (fun (x, _, e) => x == b.val && e) = some (b.val, t0, true) ∧
    t0 + 128 ≤ s.clk.ticks ∧
    (b.val < 16 → s.stackBack b.val = true) :=
  ⟨16, t_drain 16 true, 0, by decide +kernel⟩

theorem test_BlockResetsComplete_2_18 : ∃ (b : Fin 22) (s : State) (t0 : Nat),
    s.boot.drains.find? (fun (x, _, e) => x == b.val && !e) = some (b.val, t0, false) ∧
    (b.val < 16 → (s.sck b.val).phase = .none) ∧
    (s.blockDrained b.val = true ∨ t0 + us 20 ≤ s.clk.ticks) :=
  ⟨18, t_drain 18 false, 0, by decide +kernel⟩

theorem test_BlockResetsComplete_3_18 : ∃ (b : Fin 22) (s : State) (t0 : Nat),
    b.val ≠ 20 ∧
    s.boot.drains.find? (fun (x, _, e) => x == b.val && e) = some (b.val, t0, true) ∧
    t0 + 128 ≤ s.clk.ticks ∧
    (b.val < 16 → s.stackBack b.val = true) :=
  ⟨18, t_drain 18 true, 0, by decide +kernel⟩

theorem test_BlockResetsComplete_2_21 : ∃ (b : Fin 22) (s : State) (t0 : Nat),
    s.boot.drains.find? (fun (x, _, e) => x == b.val && !e) = some (b.val, t0, false) ∧
    (b.val < 16 → (s.sck b.val).phase = .none) ∧
    (s.blockDrained b.val = true ∨ t0 + us 20 ≤ s.clk.ticks) :=
  ⟨21, t_drain 21 false, 0, by decide +kernel⟩

theorem test_BlockResetsComplete_3_21 : ∃ (b : Fin 22) (s : State) (t0 : Nat),
    b.val ≠ 20 ∧
    s.boot.drains.find? (fun (x, _, e) => x == b.val && e) = some (b.val, t0, true) ∧
    t0 + 128 ≤ s.clk.ticks ∧
    (b.val < 16 → s.stackBack b.val = true) :=
  ⟨21, t_drain 21 true, 0, by decide +kernel⟩

theorem test_BlockResetsComplete_4 : ∃ (b : Fin 22) (s : State) (u : State),
    b.val = 20 ∧
    bitAt s.regs.rstBusy 20 = true ∧
    s.boot.mrstAt + 128 ≤ s.clk.ticks ∧
    u = s.bootRom (fld (Tab.num s.boot.bkp 0) 8 4) ∧
    u.boot.firmware = true :=
  ⟨20, t_mordant, t_mordant.bootRom 0, by decide, by decide +kernel, by decide +kernel, by decide +kernel, by decide +kernel⟩

theorem test_StackPowerComplete_0 : ∃ (k : Fin 16) (s : State) (p : Nat),
    s.boot.seqAt = some p ∧
    s.mordantUp = true ∧
    s.toPower k.val = true ∧
    (s.sup k.val).enable = false ∧
    (s.sup k.val).recoverAt = none ∧
    (s.sup (partner k.val)).recoverAt = none ∧
    p + ms k.val ≤ s.clk.ticks :=
  ⟨2, t_early, 0, by decide +kernel⟩

theorem test_StackPowerComplete_1 : ∃ (k : Fin 16) (s : State),
    (s.sup k.val).enable = true ∧
    (s.sup k.val).good = false ∧
    s.clk.ticks ≤ (s.sup k.val).enableAt + ms 2 :=
  ⟨2, t_sups (t_on 999000) t_off, by decide +kernel⟩

theorem test_StackPowerComplete_2_timeout : ∃ (k : Nat) (i : Instr) (s : State),
    ((∃ k' : Fin 16, k'.val = k ∧ i = .stackPgTimeout k') ∧ (s.sup k).enable = true ∧ (s.sup k).good = false ∧ (s.sup k).enableAt + ms 2 ≤ s.clk.ticks ∨ (∃ k' : Fin 16, k'.val = k ∧ i = .stackPgFall k') ∧ (s.sup k).enable = true ∧ (s.sup k).good = true ∨ (∃ p : Fin 8, k / 2 = p.val ∧ i = .stackOvercurrent p) ∧ (s.sup k).enable = true ∧ (s.settled k = false ∨ (s.sup (partner k)).enable = true ∧ s.settled (partner k) = false) ∧ ((s.sup (partner k)).enable = false ∨ (s.sup (partner k)).enableAt < (s.sup k).enableAt)) :=
  ⟨2, .stackPgTimeout 2, t_sups (t_on 1000) t_off, .inl ⟨⟨2, rfl, rfl⟩, by decide +kernel⟩⟩

theorem test_StackPowerComplete_2_fall : ∃ (k : Nat) (i : Instr) (s : State),
    ((∃ k' : Fin 16, k'.val = k ∧ i = .stackPgTimeout k') ∧ (s.sup k).enable = true ∧ (s.sup k).good = false ∧ (s.sup k).enableAt + ms 2 ≤ s.clk.ticks ∨ (∃ k' : Fin 16, k'.val = k ∧ i = .stackPgFall k') ∧ (s.sup k).enable = true ∧ (s.sup k).good = true ∨ (∃ p : Fin 8, k / 2 = p.val ∧ i = .stackOvercurrent p) ∧ (s.sup k).enable = true ∧ (s.settled k = false ∨ (s.sup (partner k)).enable = true ∧ s.settled (partner k) = false) ∧ ((s.sup (partner k)).enable = false ∨ (s.sup (partner k)).enableAt < (s.sup k).enableAt)) :=
  ⟨2, .stackPgFall 2, t_sups (t_good 1000) (t_on 1000), .inr (.inl ⟨⟨2, rfl, rfl⟩, by decide +kernel⟩)⟩

theorem test_StackPowerComplete_2_overcurrent : ∃ (k : Nat) (i : Instr) (s : State),
    ((∃ k' : Fin 16, k'.val = k ∧ i = .stackPgTimeout k') ∧ (s.sup k).enable = true ∧ (s.sup k).good = false ∧ (s.sup k).enableAt + ms 2 ≤ s.clk.ticks ∨ (∃ k' : Fin 16, k'.val = k ∧ i = .stackPgFall k') ∧ (s.sup k).enable = true ∧ (s.sup k).good = true ∨ (∃ p : Fin 8, k / 2 = p.val ∧ i = .stackOvercurrent p) ∧ (s.sup k).enable = true ∧ (s.settled k = false ∨ (s.sup (partner k)).enable = true ∧ s.settled (partner k) = false) ∧ ((s.sup (partner k)).enable = false ∨ (s.sup (partner k)).enableAt < (s.sup k).enableAt)) :=
  ⟨2, .stackOvercurrent 1, t_sups (t_on 999000) (t_good 998000), .inr (.inr ⟨⟨1, by decide, rfl⟩, by decide +kernel⟩)⟩

theorem test_StackPowerComplete_3 : ∃ (p : Fin 8) (s : State),
    (∀ k, k / 2 = p.val → (s.sup k).enable = true → s.settled k = true) :=
  ⟨1, t_sups (t_good 1000) (t_good 1000), by
    intro k h e
    have h : k = 2 ∨ k = 3 := by simp only [show (1 : Fin 8).val = 1 from rfl] at h; omega
    rcases h with rfl | rfl <;> decide +kernel⟩

theorem test_StackPowerComplete_4 : ∃ (p : Fin 8) (s : State) (a : Nat) (due : Nat),
    a / 2 = p.val ∧
    (s.sup a).recoverAt = some due ∧
    due ≤ s.clk.ticks ∧
    (s.sup (partner a)).recoverAt = none :=
  ⟨1, t_sups { t_off with recoverAt := some 5 } t_off, 2, 5, by decide +kernel⟩

theorem test_BringUpComplete_0 : ∃ (k : Fin 16) (m : List ChanMeas) (hard : List Nat) (s : State),
    s.mordantUp = true ∧
    s.boot.importWait = none ∧
    s.trainWaits k.val = true ∧
    ((List.range k.val).filter s.trainWaits).length + s.trainStacks.length < 4 ∧
    s.ownRoom 32 = true ∧
    (s.sup k.val).rate ≠ 4 ∧
    (s.sup k.val).stype ≠ 0 ∧
    (s.geom k.val).channels ≠ 0 :=
  ⟨2, [], [], t_wait 1 0 false, by decide +kernel⟩

theorem test_BringUpComplete_1_type : ∃ (k : Fin 16) (m : List ChanMeas) (hard : List Nat) (s : State),
    s.mordantUp = true ∧
    s.boot.importWait = none ∧
    s.trainWaits k.val = true ∧
    ((List.range k.val).filter s.trainWaits).length + s.trainStacks.length < 4 ∧
    s.ownRoom 32 = true ∧
    ((s.sup k.val).rate = 4 ∨ (s.sup k.val).stype = 0) :=
  ⟨2, [], [], t_wait 0 0 false, by decide +kernel⟩

theorem test_BringUpComplete_1_rate : ∃ (k : Fin 16) (m : List ChanMeas) (hard : List Nat) (s : State),
    s.mordantUp = true ∧
    s.boot.importWait = none ∧
    s.trainWaits k.val = true ∧
    ((List.range k.val).filter s.trainWaits).length + s.trainStacks.length < 4 ∧
    s.ownRoom 32 = true ∧
    ((s.sup k.val).rate = 4 ∨ (s.sup k.val).stype = 0) :=
  ⟨2, [], [], t_wait 1 4 false, by decide +kernel⟩

theorem test_BringUpComplete_2_over : ∃ (s : State) (w : Nat),
    s.boot.importWait = some w ∧
    s.mordantUp = true ∧
    (w ≤ s.clk.ticks ∨ ∀ k, k < 16 → s.toPower k = true → (s.sup k).good = true ∧
      ((s.sup k).imported = true ∨ s.importing k = true)) :=
  ⟨{ t_up with boot := { t_up.boot with importWait := some 5 } }, 5, by decide +kernel, by decide +kernel, .inl (by decide +kernel)⟩

theorem test_BringUpComplete_3 : ∃ (k : Fin 16) (bad hard : List Nat) (s : State),
    s.mordantUp = true ∧
    (s.sup k.val).imported = true ∧
    (s.sup k.val).quickDone = false ∧
    s.settled k.val = true ∧
    (s.sup k.val).rstOutLow = false :=
  ⟨2, [], [], t_wait 1 0 true, by decide +kernel⟩

theorem test_BringUpComplete_4 : ∃ (l : Fin 1024) (s : State),
    s.fillDue l.val = true :=
  ⟨1, t_up, by decide +kernel⟩

theorem test_BringUpComplete_5 : ∃ (s : State) (l : Nat),
    s.mordantUp = true ∧
    s.pins.ready = false ∧
    s.broughtUp = true ∧
    s.sysLeaf = some l ∧
    s.fillable l = true ∧
    (s.care l).filled = true ∧
    (s.ring 1).gap = none ∧
    (s.ring 2).gap = none :=
  ⟨t_before true, 1023, by decide +kernel⟩

theorem test_BringUpComplete_6 : ∃ s : State,
    s.mordantUp = true ∧
    s.pins.ready = false ∧
    s.broughtUp = true ∧
    (∀ l, s.sysLeaf = some l → s.fillable l = false ∨ (s.care l).filled = false) :=
  ⟨t_before false, by decide +kernel, by decide +kernel, by decide +kernel, (by
    intro l h
    have e : (t_before false).sysLeaf = some 1023 := by decide +kernel
    rw [e] at h
    cases h
    decide +kernel)⟩


/-! ## Witnesses: Records and registers -/

/-! ## Debug, records and registers -/

def t_rec : Rec := ⟨5, 0x12, 2, 0, 0, 0, 1, 1, 0, List.replicate 32 7, 1, 0⟩
def t_gap : Gap := { first := 1, last := 2, lost := 3, reason := 2, multi := false, src := 9, msec := none }
def t_tr (f : Trace → Trace) : State := { t_up with trace := f t_up.trace }
def t_sampler (cand : Option (List Nat)) : Sampler :=
  { sel := 2, ten := 3, period := 100, next := 200, pendingAt := some 0, value := 100, missed := 0, skid := 0, cand := cand }
/-- Ring 1 with 64 bytes to be read. -/
def t_ring : State := t_tr (fun t => { t with rings := [(0, { Ring.reset with wr := 64, tail := 64 }),
  (1, { Ring.reset with wr := 64, tail := 64 })] })

theorem test_DebugStopComplete_0 : ∃ (s : State),
    s.pins.porst = false :=
  ⟨t_up, by decide +kernel⟩

theorem test_DebugStopComplete_1_scan : ∃ (s : State),
    s.pins.latches = 0 :=
  ⟨{ t_tr (fun t => { t with scanBusy := true }) with pins := { t_up.pins with stopIn := true, stopped := true } }, by decide +kernel⟩

theorem test_DebugStopComplete_2 : ∃ (s : State),
    s.pins.latches ≠ 0 :=
  ⟨{ t_up with pins := { t_up.pins with stopIn := true, stopped := true, latches := 1 } }, by decide +kernel⟩

theorem test_RecordEventsComplete_0 : ∃ (s : State) (x : Rec) (rest : List Rec),
    s.trace.buffer = x :: rest ∧
    s.systemAwake = true ∧
    (x.at_ + ms 1 ≤ s.clk.ticks ∨ 4096 ≤ s.bufferBytes ∨ ∃ y ∈ s.trace.buffer, y.ring = 0 ∧ y.kind ≠ 0) :=
  ⟨t_tr (fun t => { t with buffer := [t_rec] }), t_rec, [], by decide +kernel, by decide +kernel, .inl (by decide +kernel)⟩

theorem test_RecordEventsComplete_1 : ∃ (r : Fin 3) (s : State) (g : Gap),
    (s.ring r.val).gap = some g ∧
    s.gapEnds r.val g = true :=
  ⟨1, t_tr (fun t => { t with rings := [(1, { Ring.reset with seq := 4, gap := some t_gap })] }), t_gap, by decide +kernel⟩

theorem test_RecordEventsComplete_2 : ∃ (s : State) (w : Nat),
    w = s.now / 100000 ∧
    w ≠ s.regs.winNum :=
  ⟨t_up, 100, by decide +kernel⟩

theorem test_RecordEventsComplete_3_cand : ∃ (u : Fin 16) (s : State) (x : Sampler),
    Tab.find? s.trace.samplers u.val = some x ∧
    x.cand = some [1, 2] :=
  ⟨0, t_tr (fun t => { t with samplers := [(0, t_sampler (some [1, 2]))] }), t_sampler (some [1, 2]), by decide +kernel⟩

theorem test_RecordEventsComplete_3_late : ∃ (u : Fin 16) (s : State) (x : Sampler),
    Tab.find? s.trace.samplers u.val = some x ∧
    x.cand = none ∧
    x.pendingAt = some 0 ∧
    0 + ms 1 ≤ s.clk.ticks :=
  ⟨0, t_tr (fun t => { t with samplers := [(0, t_sampler none)] }), t_sampler none, by decide +kernel⟩

theorem test_RecordEventsComplete_4_page : ∃ (s : State) (l : Nat),
    s.trace.apBusy = true ∧
    s.sysLeaf = some l :=
  ⟨t_tr (fun t => { t with apBusy := true, apSel := 0 }), 1023, by decide +kernel⟩

theorem test_RecordEventsComplete_4_beyond : ∃ (s : State) (l : Nat),
    s.trace.apBusy = true ∧
    s.sysLeaf = some l :=
  ⟨t_tr (fun t => { t with apBusy := true, apSel := 4 * areaPages 0 }), 1023, by decide +kernel⟩

theorem test_RecordEventsComplete_5_domain : ∃ (s : State),
    s.trace.scanBusy = true ∧
    (48 ≤ fld s.trace.scanCtl 0 6 ∨ (s.care (fld s.trace.scanCtl 6 10)).runs .scan = true) :=
  ⟨t_tr (fun t => { t with scanBusy := true, scanCtl := 48 }), by decide +kernel⟩

theorem test_RecordEventsComplete_5_leaf : ∃ (s : State),
    s.trace.scanBusy = true ∧
    (48 ≤ fld s.trace.scanCtl 0 6 ∨ (s.care (fld s.trace.scanCtl 6 10)).runs .scan = true) :=
  ⟨{ t_hold (plainReq .scan 0 0) with trace := { t_up.trace with scanBusy := true } }, by decide +kernel⟩

theorem test_RegisterRowsComplete_0 : ∃ (src : Fin 16) (v : BitVec 32) (s : State),
    s.pins.porst = false ∧
    s.boot.coreReset = false ∧
    src.val ≤ 8 ∧
    v.getLsbD 0 = true :=
  ⟨3, 1, t_up, by decide +kernel⟩

theorem test_RegisterRowsComplete_1_some : ∃ (r : Fin 3) (src : Fin 16) (v : BitVec 32) (s : State) (g : Ring) (d : Nat),
    s.pins.porst = false ∧
    s.boot.coreReset = false ∧
    s.debugRight src.val = true ∧
    g = s.ring r.val ∧
    d = (v.toNat + 2 ^ 32 - g.rd % 2 ^ 32) % 2 ^ 32 :=
  ⟨1, 0, 32, t_ring, { Ring.reset with wr := 64, tail := 64 }, 32, by decide +kernel⟩

theorem test_RegisterRowsComplete_1_alarms : ∃ (r : Fin 3) (src : Fin 16) (v : BitVec 32) (s : State) (g : Ring) (d : Nat),
    s.pins.porst = false ∧
    s.boot.coreReset = false ∧
    s.debugRight src.val = true ∧
    g = s.ring r.val ∧
    d = (v.toNat + 2 ^ 32 - g.rd % 2 ^ 32) % 2 ^ 32 :=
  ⟨0, 0, 32, t_ring, { Ring.reset with wr := 64, tail := 64 }, 32, by decide +kernel⟩

theorem test_RegisterRowsComplete_1_beyond : ∃ (r : Fin 3) (src : Fin 16) (v : BitVec 32) (s : State) (g : Ring) (d : Nat),
    s.pins.porst = false ∧
    s.boot.coreReset = false ∧
    s.debugRight src.val = true ∧
    g = s.ring r.val ∧
    d = (v.toNat + 2 ^ 32 - g.rd % 2 ^ 32) % 2 ^ 32 :=
  ⟨1, 0, 65, t_ring, { Ring.reset with wr := 64, tail := 64 }, 65, by decide +kernel⟩

theorem test_RegisterRowsComplete_2 : ∃ (src : Fin 16) (s : State),
    s.pins.porst = false ∧
    s.boot.coreReset = false ∧
    s.debugRight src.val = true :=
  ⟨0, t_up, by decide +kernel⟩

theorem test_RegisterRowsComplete_3_locked : ∃ (src : Fin 16) (v : BitVec 32) (s : State),
    s.pins.porst = false ∧
    s.boot.coreReset = false ∧
    s.debugRight src.val = true ∧
    v.getLsbD 16 = true ∧
    s.trace.scanBusy = false ∧
    s.trace.unlocked = false :=
  ⟨0, 0x10030, t_up, by decide +kernel⟩

theorem test_RegisterRowsComplete_3_running : ∃ (src : Fin 16) (v : BitVec 32) (s : State),
    s.pins.porst = false ∧
    s.boot.coreReset = false ∧
    s.debugRight src.val = true ∧
    v.getLsbD 16 = true ∧
    s.trace.scanBusy = false ∧
    s.trace.unlocked = true ∧
    s.pins.stopped = false :=
  ⟨0, 0x10030, t_tr (fun t => { t with unlocked := true }), by decide +kernel⟩

theorem test_RegisterRowsComplete_3_starts : ∃ (src : Fin 16) (v : BitVec 32) (s : State),
    s.pins.porst = false ∧
    s.boot.coreReset = false ∧
    s.debugRight src.val = true ∧
    v.getLsbD 16 = true ∧
    s.trace.scanBusy = false ∧
    s.trace.unlocked = true ∧
    s.pins.stopped = true ∧
    48 ≤ v.toNat % 64 ∧
    s.domainOn (v.toNat % 64) = true :=
  ⟨0, 0x10030, { t_tr (fun t => { t with unlocked := true }) with pins := { t_up.pins with stopIn := true, stopped := true } }, by decide +kernel⟩

theorem test_RegisterRowsComplete_4 : ∃ (src : Fin 16) (off : BitVec 25) (s : State) (ws : List Nat) (h : Hold),
    h = ⟨off.toNat, ws.getD 1 0, ws.getD 2 0, ws.getD 3 0⟩ ∧
    s.pins.porst = false ∧
    assigned off.toNat = true ∧
    s.readRight src.val off.toNat = true ∧
    s.pairRead off.toNat = some ws ∧
    s.heldBelow src.val off.toNat = false :=
  ⟨0, 0x24, t_up, [0, 0], ⟨0x24, 0, 0, 0⟩, by decide +kernel⟩

theorem test_RegisterWritesComplete_0 : ∃ (off : BitVec 25) (s : State),
    s.pins.porst = false ∧
    assigned off.toNat = false :=
  ⟨0x3C, t_up, by decide +kernel⟩

theorem test_RegisterWritesComplete_1 : ∃ (src : Fin 16) (off : BitVec 25) (s : State),
    s.pins.porst = false ∧
    assigned off.toNat = true ∧
    off.toNat ≠ 0x100 ∧
    off.toNat ≠ 0x104 ∧
    s.writeRight src.val off.toNat = false :=
  ⟨1, 0x44, t_up, by decide +kernel⟩

theorem test_RegisterWritesComplete_2_storage : ∃ (src : Fin 16) (off : BitVec 25) (s : State),
    s.pins.porst = false ∧
    assigned off.toNat = true ∧
    s.writeRight src.val off.toNat = true ∧
    (s.boot.coreReset = false ∨ aonOffset off.toNat = true) ∧
    0x28000 ≤ off.toNat ∧
    off.toNat < 0x2C000 :=
  ⟨0, 0x28004, t_up, by decide +kernel⟩

theorem test_RegisterWritesComplete_2_transfer : ∃ (src : Fin 16) (off : BitVec 25) (s : State),
    s.pins.porst = false ∧
    assigned off.toNat = true ∧
    s.writeRight src.val off.toNat = true ∧
    (s.boot.coreReset = false ∨ aonOffset off.toNat = true) ∧
    0x2C000 ≤ off.toNat ∧
    off.toNat < 0x30000 :=
  ⟨0, 0x2FFFC, t_up, by decide +kernel⟩

theorem test_RegisterWritesComplete_2_stain : ∃ (src : Fin 16) (off : BitVec 25) (s : State),
    s.pins.porst = false ∧
    assigned off.toNat = true ∧
    s.writeRight src.val off.toNat = true ∧
    (s.boot.coreReset = false ∨ aonOffset off.toNat = true) ∧
    off = 0x54 :=
  ⟨0, 0x54, t_up, by decide +kernel⟩

theorem test_RegisterWritesComplete_2_therm : ∃ (src : Fin 16) (off : BitVec 25) (s : State),
    s.pins.porst = false ∧
    assigned off.toNat = true ∧
    s.writeRight src.val off.toNat = true ∧
    (s.boot.coreReset = false ∨ aonOffset off.toNat = true) ∧
    off = 0x58 :=
  ⟨0, 0x58, t_up, by decide +kernel⟩

theorem test_RegisterWritesComplete_2_irq : ∃ (src : Fin 16) (off : BitVec 25) (s : State),
    s.pins.porst = false ∧
    assigned off.toNat = true ∧
    s.writeRight src.val off.toNat = true ∧
    (s.boot.coreReset = false ∨ aonOffset off.toNat = true) ∧
    off = 0x44 :=
  ⟨0, 0x44, t_up, by decide +kernel⟩

theorem test_RegisterWritesComplete_3 : ∃ (m : List Host.Cell) (i : Nat),
    Tab.rising m = true ∧
    i < 4 :=
  ⟨[], 3, by decide⟩


/-! ## Witnesses: Mailbox commands that stage -/

/-! ## Commands of a page -/

/-- A command entry of 64 bytes (Table 14.7), CTAG 77. -/
def t_entry (op flags target tgen : Nat) (args : List Nat) : List Nat :=
  leBytes 2 op ++ leBytes 2 flags ++ leBytes 4 77 ++ leBytes 2 target ++ leBytes 2 tgen ++ leBytes 4 0 ++
    (args ++ List.replicate 48 0).take 48
/-- Words of a run of bytes. -/
def t_words (l : List Nat) : Tab Nat := (List.range ((l.length + 3) / 4)).map (fun i => (i, ofLe ((l.drop (4 * i)).take 4)))
/-- A page opened as MMP-3 that has sent one command. -/
def t_sender (tgen : Nat) (e : List Nat) : Page :=
  { Page.reset with pstate := .opened, gen := 3, caps := 0xFFFF, tgenOpen := tgen, cmdTail := 1, ring := t_words e }
/-- The page is next in the service queue; host 0 is the owner. -/
def t_sent (s : State) (p : Nat) (e : List Nat) : State :=
  { s with bank := { s.bank with owner := some 0 }, pages := [(p, t_sender (if p < 512 then (s.bank.tenant p).tgen else 0) e)],
           serviceq := [p] }
def t_adm (op : Nat) (args : List Nat) : State := t_sent t_up 512 (t_entry op 0 0 0 args)
def t_own (op : Nat) (args : List Nat) : State := t_sent t_up 3 (t_entry op 0 0 0 args)
def t_for (op : Nat) (args : List Nat) : State := t_sent t_up 512 (t_entry op 0 3 1 args)
/-- A QALLOC of one leaf, and a filled leaf 1 that no quire holds. -/
def t_leafy : State :=
  let s := t_own 0x10 [0, 0, 0, 0, 4, 1, 0, 0, 0, 2]
  s.setCare 1 { s.care 1 with filled := true }
def t_head (s : State) (p : Nat) : Cmd := (s.page p).headCmd p
/-- The record of a record command, and a settings list of one entry. -/
def t_record (i : Nat) (r : List Nat) : List Nat := leBytes 2 i ++ List.replicate 6 0 ++ r
def t_list (code v : Nat) : List Nat := [1, 0, 0, 0, 0, 0, 0, 0] ++ leBytes 2 code ++ leBytes 2 0 ++ leBytes 4 v

/-- The checks that a command passes, as a Bool. -/
def t_fits (s : State) (m : MailRow) (a : Ans) : Bool :=
  match a with
  | .fail _ _ _ _ => false
  | .staged items _ t => (t.join m.page s.nextId items).isLeft
  | .ok _ _ => true
  | .wait _ => true
theorem t_fits_accepts {i : Instr} {s : State} {m : MailRow} {c : Cmd} (h : s.serves i m c)
    (hf : t_fits s m (s.replyTo m c) = true) : s.accepts i c := by
  refine ⟨m, h, ?_⟩
  revert hf
  cases s.replyTo m c <;> simp [t_fits]
def t_passes (i : Instr) (s : State) (c : Cmd) : Bool :=
  match i.mail with
  | none => false
  | some m => s.serving && s.headCommand == some (m.page, c) && c.opcode == m.op && m.sub c && t_fits s m (s.replyTo m c)
theorem t_accepts {i : Instr} {s : State} {c : Cmd} (h : t_passes i s c = true) : s.accepts i c := by
  unfold t_passes at h
  split at h
  · cases h
  · rename_i m hm
    simp only [Bool.and_eq_true, beq_iff_eq] at h
    obtain ⟨⟨⟨⟨h1, h2⟩, h3⟩, h4⟩, h5⟩ := h
    exact t_fits_accepts ⟨hm, h1, h2, h3, h4⟩ h5

/-- A region in sum mode, a doorbell of tenant 3, and policers as at reset. -/
def t_region : Region := { Region.none with valid := true, sfmt := 1, dfmt := 1, acc := true, wmark := true }
def t_bell : Doorbell := ⟨true, 3, 4096, 0, 8, 100, 0, 0, 8, 5⟩
def t_gate : State := t_sent t_up 512 (t_entry 0x24 2 0 0 (t_record 0 (leBytes 4 (1 + 10 * 128))))
def t_gates : State := t_gate.setPage 512 { t_gate.page 512 with bulk := t_words (leBytes 2 0xFFFF ++ leBytes 3 100 ++ [0, 0, 0]) }
/-- Host 1 has accepted the owner's part; tenant 9 is free; a second image is verified. -/
def t_fresh : State := { t_up with hosts := [(1, { HostSt.reset with accept := some 999999 })] }
def t_lostHost : State := { t_up with hosts := [(0, { HostSt.reset with lost := true })] }
def t_two : State := { t_up with boot := { t_up.boot with dev := { t_dev with slotB := t_slot } } }
/-- The quire has failed. -/
def t_failed : State := { t_up with bank := { t_up.bank with quires := [(0, ⟨0, .failed, false, false, 3, 0, 1, 5⟩)] } }
/-- A shared quire at base 2 that tenant 3 may join. -/
def t_shared : State :=
  { t_up with bank := { t_up.bank with quires := t_up.bank.quires ++ [(2, ⟨1, .active, true, false, 9, 0, 1, 7⟩)] } }
/-- A section of stack 0 (Table 12.11) before its CRC: sixteen channels as at reset, without spare lanes. -/
def t_section : Tab Byte :=
  ([(0, 69), (1, 67), (2, 87), (3, 68), (4, 1), (6, 4), (8, 7), (24, 36), (25, 18), (26, 16)] ++
    (List.range 16).flatMap (fun c => (List.range 8).map (fun i => (36 + 288 * c + i, 255)))).map
      (fun (a, v) => (a, BitVec.ofNat 8 v))
def t_crc : Nat := crc32c ((List.range 4640).map (fun i => (Tab.get 0 t_section i).toNat))
def t_rest (n : Nat) : Tab Byte := (List.range 4).map (fun j => (4640 + j, BitVec.ofNat 8 (n / 256 ^ j)))
/-- Before DW_READY, stack 0 (HBM4E, 16 channels) good and untrained, with its section in the transfer area. -/
def t_unready : State :=
  { t_up with
    pins := { t_up.pins with ready := false }
    supply := [(0, { t_sup with trained := false, disc := ⟨5, 0, 7, 4, 20, 4⟩, stype := 5 }), (15, t_sup)]
    xfer := t_section ++ t_rest t_crc }
def t_import : State := t_sent t_unready 512 (t_entry 0x5A 0 0 0 [0])

theorem t_find_append {α : Type} (a b : Tab α) (k : Nat) (h : ∀ x ∈ b, x.1 ≠ k) : Tab.find? (a ++ b) k = Tab.find? a k := by
  induction a with
  | nil =>
    induction b with
    | nil => rfl
    | cons x b ih =>
      have h1 := h x (List.mem_cons_self)
      have h2 := ih (fun y hy => h y (List.mem_cons_of_mem _ hy))
      simpa [Tab.find?, h1] using h2
  | cons x a ih => simp only [List.cons_append, Tab.find?, ih]
theorem t_crcByte_lt (r b : Nat) (hr : r < 2 ^ 32) (hb : b < 2 ^ 32) :
    (List.range 8).foldl (fun r _ => if r % 2 = 1 then (r / 2) ^^^ 0x82F63B78 else r / 2) (r ^^^ b) < 2 ^ 32 := by
  have step : ∀ x : Nat, x < 2 ^ 32 → (if x % 2 = 1 then (x / 2) ^^^ 0x82F63B78 else x / 2) < 2 ^ 32 := by
    intro x hx
    split
    · exact Nat.xor_lt_two_pow (by omega) (by decide)
    · omega
  generalize List.range 8 = l
  have h0 : r ^^^ b < 2 ^ 32 := Nat.xor_lt_two_pow hr hb
  generalize r ^^^ b = x at h0
  induction l generalizing x with
  | nil => exact h0
  | cons a l ih => exact ih _ (step x h0)
theorem t_crc32c_lt (l : List Nat) (h : ∀ b ∈ l, b < 2 ^ 32) : crc32c l < 2 ^ 32 := by
  refine Nat.xor_lt_two_pow ?_ (by decide)
  have h0 : (0xFFFFFFFF : Nat) < 2 ^ 32 := by decide
  generalize (0xFFFFFFFF : Nat) = x at h0 ⊢
  induction l generalizing x with
  | nil => exact h0
  | cons a l ih =>
    exact ih (fun b hb => h b (List.mem_cons_of_mem _ hb)) _ (t_crcByte_lt x a h0 (h a List.mem_cons_self))
theorem t_crc_lt : t_crc < 2 ^ 32 := by
  unfold t_crc
  refine t_crc32c_lt _ (fun b hb => ?_)
  obtain ⟨i, -, rfl⟩ := List.mem_map.1 hb
  exact Nat.lt_trans (Tab.get 0 t_section i).isLt (by decide)
theorem t_take (s : State) (h : s.xfer = t_unready.xfer) :
    crc32c ((s.getXfer 4644).take 4640) = t_crc := by
  unfold t_crc State.getXfer
  rw [← List.map_take, List.take_range, h]
  refine congrArg crc32c (List.map_congr_left fun i hi => ?_)
  have hi : i < 4640 := by simpa using hi
  show ((Tab.find? (t_section ++ _) i).getD 0).toNat = _
  rw [t_find_append]
  · rfl
  · intro x hx
    obtain ⟨j, -, rfl⟩ := List.mem_map.1 hx
    show 4640 + j ≠ i
    omega
theorem t_find_right {α : Type} (a b : Tab α) (k : Nat) (h : ∀ x ∈ a, x.1 ≠ k) : Tab.find? (a ++ b) k = Tab.find? b k := by
  induction a with
  | nil => rfl
  | cons x a ih =>
    have h1 := h x List.mem_cons_self
    have h2 := ih (fun y hy => h y (List.mem_cons_of_mem _ hy))
    simpa [Tab.find?, h1] using h2
theorem t_keys : ∀ x ∈ t_section, x.1 < 4640 := by decide +kernel
theorem t_byte (n j : Nat) (hj : Tab.find? (t_rest n) (4640 + j) = some (BitVec.ofNat 8 (n / 256 ^ j))) :
    (Tab.get (0 : Byte) (t_section ++ t_rest n) (4640 + j)).toNat = n / 256 ^ j % 256 := by
  unfold Tab.get
  rw [t_find_right _ _ _ (fun x hx => by have := t_keys x hx; omega), hj]
  rfl
theorem t_bytes (n : Nat) : [4640, 4641, 4642, 4643].map (fun i => (Tab.get (0 : Byte) (t_section ++ t_rest n) i).toNat) =
    (List.range 4).map (fun j => n / 256 ^ j % 256) := by
  have h0 := t_byte n 0 rfl
  have h1 := t_byte n 1 rfl
  have h2 := t_byte n 2 rfl
  have h3 := t_byte n 3 rfl
  simp only [List.map, List.range, List.range.loop]
  rw [← h0, ← h1, ← h2, ← h3]
theorem t_drop : ((List.range 4644).drop 4640).take 4 = [4640, 4641, 4642, 4643] := by
  rw [List.range_eq_range', List.drop_range']
  rfl
theorem t_xfer : t_unready.xfer = t_section ++ t_rest t_crc := rfl
theorem t_window (x : Tab Byte) (s : State) (h : s.xfer = x) : ((s.getXfer 4644).drop 4640).take 4 =
    [4640, 4641, 4642, 4643].map (fun i => (Tab.get (0 : Byte) x i).toNat) := by
  subst h
  unfold State.getXfer
  rw [← List.map_drop, ← List.map_take, t_drop]
theorem t_join4 (n : Nat) (h : n < 2 ^ 32) : ofLe ((List.range 4).map (fun j => n / 256 ^ j % 256)) = n := by
  simp only [ofLe, List.range, List.range.loop, List.map, List.foldr]
  omega
theorem t_tail (s : State) (h : s.xfer = t_unready.xfer) : ofLe (((s.getXfer 4644).drop 4640).take 4) = t_crc := by
  rw [t_window _ s (h.trans t_xfer), t_bytes, t_join4 _ t_crc_lt]
def t_taken : State := (t_import.take 512 (t_head t_import 512)).1
theorem t_sectionOk : t_taken.sectionBad 0 = false := by
  have hl : 32 + (t_taken.geom 0).channels * 288 + 4 = 4644 := by decide +kernel
  have hn : 4644 - 4 = 4640 := by decide
  unfold State.sectionBad
  simp only [hl, hn, t_tail t_taken rfl, t_take t_taken rfl, bne_self_eq_false]
  decide +kernel
theorem t_reply (s : State) (m : MailRow) (c : Cmd) (hc : (s.take m.page c).1.checkFirst c = none) (hs : c.strayTarget = false) :
    s.replyTo m c = m.body c (s.take m.page c).2 (s.take m.page c).1 := by
  unfold State.replyTo
  simp only [hc, hs, Bool.false_eq_true, if_false]
theorem t_accepts_import : t_import.accepts (.calImport 512) (t_head t_import 512) := by
  refine t_fits_accepts (m := ⟨512, 0x5A, anySub, calImportBody⟩) ⟨rfl, by decide +kernel⟩ ?_
  rw [t_reply _ _ _ (by decide +kernel) (by decide +kernel)]
  have hb : (t_head t_import 512).b 0 = 0 := by decide +kernel
  have hg := t_sectionOk
  unfold t_taken at hg
  unfold calImportBody
  simp only [hb, hg]
  decide +kernel
/-- An OPEN of a free tenant's page, and a page with an open change set. -/
def t_opener (p : Nat) : State :=
  let s := t_sent t_up p (t_entry 1 0 0 0 (List.replicate 32 0 ++ [3, 0, 0, 0, 0, 0, 0, 0] ++ leBytes 8 0xFFFF))
  s.setPage p { s.page p with pstate := .closed, gen := 0, caps := 0 }
def t_openSet : ChangeSet :=
  { page := 512, items := [⟨.profile 1, 4⟩], tickets := [4], committed := false, commitTicket := 0, time := 0, notBefore := 0,
    seq := 1 }

theorem test_RecordCommandsStage_0_region : ∃ (i : Instr) (p : Fin 521) (s : State) (c : Cmd) (w : Staged),
    s.accepts i c ∧
    (i = .regionSet p ∧ w = .region c.tenant c.index (Region.ofBits (c.record 16)) ∨ i = .tintSet p ∧ c.index ≠ 16 ∧ w = .tint c.index (Tint.ofBits (c.record 8)) ∨ i = .tintSet p ∧ c.index = 16 ∧ w = .markTints (c.b 8) (c.b 9) ∨ i = .portSet p ∧ w = .port c.index ⟨c.le 8 2, c.le 10 2, c.le 14 2, bitAt (c.b 12) 0⟩ ∨ i = .policerSet p ∧ w = .policer c.tenant (Policer.ofBits (c.record 16)) ∨ i = .profileLoad p ∧ w = .profile (c.b 0) ∨ i = .skewSet p ∧ w = .skew c.index (Skew.ofBits (c.record 4)) ∨ i = .feederPortSet p ∧ w = .feederPort c.index ⟨bitAt (c.record 4) 0, fld (c.record 4) 1 3⟩ ∨ i = .feederSlotSet p ∧ w = .feederSlot c.index (FeederSlot.ofBits (c.record 16)) ∨ i = .doorbellSet p ∧ w = .doorbell c.index (Doorbell.ofBits (c.record 24)) ∨ i = .tenantAssign p ∧ w = .tenantHost c.target (c.b 0) ∨ i = .ownerHandover p ∧ w = .owner (c.b 0) ∨ i = .adopt p ∧ w = .adopt c.target (c.b 0) ∨ i = .fwActivate p ∧ w = .handover (c.b 0) ∨ i = .qrelease p ∧ w = .quireRelease (c.le 0 2) ∨ i = .wunmap p ∧ w = .window c.tenant (c.b 5) Window.none) :=
  ⟨(.regionSet 3), 3, t_own 0x14 (t_record 0 (leBytes 16 t_region.toBits)), t_head (t_own 0x14 (t_record 0 (leBytes 16 t_region.toBits))) 3, (.region (t_head (t_own 0x14 (t_record 0 (leBytes 16 t_region.toBits))) 3).tenant (t_head (t_own 0x14 (t_record 0 (leBytes 16 t_region.toBits))) 3).index (Region.ofBits ((t_head (t_own 0x14 (t_record 0 (leBytes 16 t_region.toBits))) 3).record 16))), t_accepts (by decide +kernel), .inl ⟨rfl, rfl⟩⟩

theorem test_RecordCommandsStage_0_tint : ∃ (i : Instr) (p : Fin 521) (s : State) (c : Cmd) (w : Staged),
    s.accepts i c ∧
    (i = .regionSet p ∧ w = .region c.tenant c.index (Region.ofBits (c.record 16)) ∨ i = .tintSet p ∧ c.index ≠ 16 ∧ w = .tint c.index (Tint.ofBits (c.record 8)) ∨ i = .tintSet p ∧ c.index = 16 ∧ w = .markTints (c.b 8) (c.b 9) ∨ i = .portSet p ∧ w = .port c.index ⟨c.le 8 2, c.le 10 2, c.le 14 2, bitAt (c.b 12) 0⟩ ∨ i = .policerSet p ∧ w = .policer c.tenant (Policer.ofBits (c.record 16)) ∨ i = .profileLoad p ∧ w = .profile (c.b 0) ∨ i = .skewSet p ∧ w = .skew c.index (Skew.ofBits (c.record 4)) ∨ i = .feederPortSet p ∧ w = .feederPort c.index ⟨bitAt (c.record 4) 0, fld (c.record 4) 1 3⟩ ∨ i = .feederSlotSet p ∧ w = .feederSlot c.index (FeederSlot.ofBits (c.record 16)) ∨ i = .doorbellSet p ∧ w = .doorbell c.index (Doorbell.ofBits (c.record 24)) ∨ i = .tenantAssign p ∧ w = .tenantHost c.target (c.b 0) ∨ i = .ownerHandover p ∧ w = .owner (c.b 0) ∨ i = .adopt p ∧ w = .adopt c.target (c.b 0) ∨ i = .fwActivate p ∧ w = .handover (c.b 0) ∨ i = .qrelease p ∧ w = .quireRelease (c.le 0 2) ∨ i = .wunmap p ∧ w = .window c.tenant (c.b 5) Window.none) :=
  ⟨(.tintSet 512), 512, t_adm 0x20 (t_record 4 (leBytes 8 (Tint.toBits ⟨1, 1000, 0, 5, true, true⟩))), t_head (t_adm 0x20 (t_record 4 (leBytes 8 (Tint.toBits ⟨1, 1000, 0, 5, true, true⟩)))) 512, (.tint (t_head (t_adm 0x20 (t_record 4 (leBytes 8 (Tint.toBits ⟨1, 1000, 0, 5, true, true⟩)))) 512).index (Tint.ofBits ((t_head (t_adm 0x20 (t_record 4 (leBytes 8 (Tint.toBits ⟨1, 1000, 0, 5, true, true⟩)))) 512).record 8))), t_accepts (by decide +kernel), .inr (.inl ⟨rfl, by decide +kernel, rfl⟩)⟩

theorem test_RecordCommandsStage_0_marks : ∃ (i : Instr) (p : Fin 521) (s : State) (c : Cmd) (w : Staged),
    s.accepts i c ∧
    (i = .regionSet p ∧ w = .region c.tenant c.index (Region.ofBits (c.record 16)) ∨ i = .tintSet p ∧ c.index ≠ 16 ∧ w = .tint c.index (Tint.ofBits (c.record 8)) ∨ i = .tintSet p ∧ c.index = 16 ∧ w = .markTints (c.b 8) (c.b 9) ∨ i = .portSet p ∧ w = .port c.index ⟨c.le 8 2, c.le 10 2, c.le 14 2, bitAt (c.b 12) 0⟩ ∨ i = .policerSet p ∧ w = .policer c.tenant (Policer.ofBits (c.record 16)) ∨ i = .profileLoad p ∧ w = .profile (c.b 0) ∨ i = .skewSet p ∧ w = .skew c.index (Skew.ofBits (c.record 4)) ∨ i = .feederPortSet p ∧ w = .feederPort c.index ⟨bitAt (c.record 4) 0, fld (c.record 4) 1 3⟩ ∨ i = .feederSlotSet p ∧ w = .feederSlot c.index (FeederSlot.ofBits (c.record 16)) ∨ i = .doorbellSet p ∧ w = .doorbell c.index (Doorbell.ofBits (c.record 24)) ∨ i = .tenantAssign p ∧ w = .tenantHost c.target (c.b 0) ∨ i = .ownerHandover p ∧ w = .owner (c.b 0) ∨ i = .adopt p ∧ w = .adopt c.target (c.b 0) ∨ i = .fwActivate p ∧ w = .handover (c.b 0) ∨ i = .qrelease p ∧ w = .quireRelease (c.le 0 2) ∨ i = .wunmap p ∧ w = .window c.tenant (c.b 5) Window.none) :=
  ⟨(.tintSet 512), 512, t_adm 0x20 (t_record 16 [t_up.bank.redTint, t_up.bank.yelTint]), t_head (t_adm 0x20 (t_record 16 [t_up.bank.redTint, t_up.bank.yelTint])) 512, (.markTints ((t_head (t_adm 0x20 (t_record 16 [t_up.bank.redTint, t_up.bank.yelTint])) 512).b 8) ((t_head (t_adm 0x20 (t_record 16 [t_up.bank.redTint, t_up.bank.yelTint])) 512).b 9)), t_accepts (by decide +kernel), .inr (.inr (.inl ⟨rfl, by decide +kernel, rfl⟩))⟩

theorem test_RecordCommandsStage_0_port : ∃ (i : Instr) (p : Fin 521) (s : State) (c : Cmd) (w : Staged),
    s.accepts i c ∧
    (i = .regionSet p ∧ w = .region c.tenant c.index (Region.ofBits (c.record 16)) ∨ i = .tintSet p ∧ c.index ≠ 16 ∧ w = .tint c.index (Tint.ofBits (c.record 8)) ∨ i = .tintSet p ∧ c.index = 16 ∧ w = .markTints (c.b 8) (c.b 9) ∨ i = .portSet p ∧ w = .port c.index ⟨c.le 8 2, c.le 10 2, c.le 14 2, bitAt (c.b 12) 0⟩ ∨ i = .policerSet p ∧ w = .policer c.tenant (Policer.ofBits (c.record 16)) ∨ i = .profileLoad p ∧ w = .profile (c.b 0) ∨ i = .skewSet p ∧ w = .skew c.index (Skew.ofBits (c.record 4)) ∨ i = .feederPortSet p ∧ w = .feederPort c.index ⟨bitAt (c.record 4) 0, fld (c.record 4) 1 3⟩ ∨ i = .feederSlotSet p ∧ w = .feederSlot c.index (FeederSlot.ofBits (c.record 16)) ∨ i = .doorbellSet p ∧ w = .doorbell c.index (Doorbell.ofBits (c.record 24)) ∨ i = .tenantAssign p ∧ w = .tenantHost c.target (c.b 0) ∨ i = .ownerHandover p ∧ w = .owner (c.b 0) ∨ i = .adopt p ∧ w = .adopt c.target (c.b 0) ∨ i = .fwActivate p ∧ w = .handover (c.b 0) ∨ i = .qrelease p ∧ w = .quireRelease (c.le 0 2) ∨ i = .wunmap p ∧ w = .window c.tenant (c.b 5) Window.none) :=
  ⟨(.portSet 512), 512, t_adm 0x21 (t_record 4 [0, 0, 0, 0, 1, 0, 20, 0]), t_head (t_adm 0x21 (t_record 4 [0, 0, 0, 0, 1, 0, 20, 0])) 512, (.port (t_head (t_adm 0x21 (t_record 4 [0, 0, 0, 0, 1, 0, 20, 0])) 512).index ⟨(t_head (t_adm 0x21 (t_record 4 [0, 0, 0, 0, 1, 0, 20, 0])) 512).le 8 2, (t_head (t_adm 0x21 (t_record 4 [0, 0, 0, 0, 1, 0, 20, 0])) 512).le 10 2, (t_head (t_adm 0x21 (t_record 4 [0, 0, 0, 0, 1, 0, 20, 0])) 512).le 14 2, bitAt ((t_head (t_adm 0x21 (t_record 4 [0, 0, 0, 0, 1, 0, 20, 0])) 512).b 12) 0⟩), t_accepts (by decide +kernel), .inr (.inr (.inr (.inl ⟨rfl, rfl⟩)))⟩

theorem test_RecordCommandsStage_0_policer : ∃ (i : Instr) (p : Fin 521) (s : State) (c : Cmd) (w : Staged),
    s.accepts i c ∧
    (i = .regionSet p ∧ w = .region c.tenant c.index (Region.ofBits (c.record 16)) ∨ i = .tintSet p ∧ c.index ≠ 16 ∧ w = .tint c.index (Tint.ofBits (c.record 8)) ∨ i = .tintSet p ∧ c.index = 16 ∧ w = .markTints (c.b 8) (c.b 9) ∨ i = .portSet p ∧ w = .port c.index ⟨c.le 8 2, c.le 10 2, c.le 14 2, bitAt (c.b 12) 0⟩ ∨ i = .policerSet p ∧ w = .policer c.tenant (Policer.ofBits (c.record 16)) ∨ i = .profileLoad p ∧ w = .profile (c.b 0) ∨ i = .skewSet p ∧ w = .skew c.index (Skew.ofBits (c.record 4)) ∨ i = .feederPortSet p ∧ w = .feederPort c.index ⟨bitAt (c.record 4) 0, fld (c.record 4) 1 3⟩ ∨ i = .feederSlotSet p ∧ w = .feederSlot c.index (FeederSlot.ofBits (c.record 16)) ∨ i = .doorbellSet p ∧ w = .doorbell c.index (Doorbell.ofBits (c.record 24)) ∨ i = .tenantAssign p ∧ w = .tenantHost c.target (c.b 0) ∨ i = .ownerHandover p ∧ w = .owner (c.b 0) ∨ i = .adopt p ∧ w = .adopt c.target (c.b 0) ∨ i = .fwActivate p ∧ w = .handover (c.b 0) ∨ i = .qrelease p ∧ w = .quireRelease (c.le 0 2) ∨ i = .wunmap p ∧ w = .window c.tenant (c.b 5) Window.none) :=
  ⟨(.policerSet 512), 512, t_for 0x23 (t_record 0 (leBytes 16 Policer.default.toBits)), t_head (t_for 0x23 (t_record 0 (leBytes 16 Policer.default.toBits))) 512, (.policer (t_head (t_for 0x23 (t_record 0 (leBytes 16 Policer.default.toBits))) 512).tenant (Policer.ofBits ((t_head (t_for 0x23 (t_record 0 (leBytes 16 Policer.default.toBits))) 512).record 16))), t_accepts (by decide +kernel), .inr (.inr (.inr (.inr (.inl ⟨rfl, rfl⟩))))⟩

theorem test_RecordCommandsStage_0_profile : ∃ (i : Instr) (p : Fin 521) (s : State) (c : Cmd) (w : Staged),
    s.accepts i c ∧
    (i = .regionSet p ∧ w = .region c.tenant c.index (Region.ofBits (c.record 16)) ∨ i = .tintSet p ∧ c.index ≠ 16 ∧ w = .tint c.index (Tint.ofBits (c.record 8)) ∨ i = .tintSet p ∧ c.index = 16 ∧ w = .markTints (c.b 8) (c.b 9) ∨ i = .portSet p ∧ w = .port c.index ⟨c.le 8 2, c.le 10 2, c.le 14 2, bitAt (c.b 12) 0⟩ ∨ i = .policerSet p ∧ w = .policer c.tenant (Policer.ofBits (c.record 16)) ∨ i = .profileLoad p ∧ w = .profile (c.b 0) ∨ i = .skewSet p ∧ w = .skew c.index (Skew.ofBits (c.record 4)) ∨ i = .feederPortSet p ∧ w = .feederPort c.index ⟨bitAt (c.record 4) 0, fld (c.record 4) 1 3⟩ ∨ i = .feederSlotSet p ∧ w = .feederSlot c.index (FeederSlot.ofBits (c.record 16)) ∨ i = .doorbellSet p ∧ w = .doorbell c.index (Doorbell.ofBits (c.record 24)) ∨ i = .tenantAssign p ∧ w = .tenantHost c.target (c.b 0) ∨ i = .ownerHandover p ∧ w = .owner (c.b 0) ∨ i = .adopt p ∧ w = .adopt c.target (c.b 0) ∨ i = .fwActivate p ∧ w = .handover (c.b 0) ∨ i = .qrelease p ∧ w = .quireRelease (c.le 0 2) ∨ i = .wunmap p ∧ w = .window c.tenant (c.b 5) Window.none) :=
  ⟨(.profileLoad 512), 512, t_adm 0x25 [1], t_head (t_adm 0x25 [1]) 512, (.profile ((t_head (t_adm 0x25 [1]) 512).b 0)), t_accepts (by decide +kernel), .inr (.inr (.inr (.inr (.inr (.inl ⟨rfl, rfl⟩)))))⟩

theorem test_RecordCommandsStage_0_skew : ∃ (i : Instr) (p : Fin 521) (s : State) (c : Cmd) (w : Staged),
    s.accepts i c ∧
    (i = .regionSet p ∧ w = .region c.tenant c.index (Region.ofBits (c.record 16)) ∨ i = .tintSet p ∧ c.index ≠ 16 ∧ w = .tint c.index (Tint.ofBits (c.record 8)) ∨ i = .tintSet p ∧ c.index = 16 ∧ w = .markTints (c.b 8) (c.b 9) ∨ i = .portSet p ∧ w = .port c.index ⟨c.le 8 2, c.le 10 2, c.le 14 2, bitAt (c.b 12) 0⟩ ∨ i = .policerSet p ∧ w = .policer c.tenant (Policer.ofBits (c.record 16)) ∨ i = .profileLoad p ∧ w = .profile (c.b 0) ∨ i = .skewSet p ∧ w = .skew c.index (Skew.ofBits (c.record 4)) ∨ i = .feederPortSet p ∧ w = .feederPort c.index ⟨bitAt (c.record 4) 0, fld (c.record 4) 1 3⟩ ∨ i = .feederSlotSet p ∧ w = .feederSlot c.index (FeederSlot.ofBits (c.record 16)) ∨ i = .doorbellSet p ∧ w = .doorbell c.index (Doorbell.ofBits (c.record 24)) ∨ i = .tenantAssign p ∧ w = .tenantHost c.target (c.b 0) ∨ i = .ownerHandover p ∧ w = .owner (c.b 0) ∨ i = .adopt p ∧ w = .adopt c.target (c.b 0) ∨ i = .fwActivate p ∧ w = .handover (c.b 0) ∨ i = .qrelease p ∧ w = .quireRelease (c.le 0 2) ∨ i = .wunmap p ∧ w = .window c.tenant (c.b 5) Window.none) :=
  ⟨(.skewSet 512), 512, t_adm 0x30 (t_record 1 (leBytes 4 (Skew.toBits ⟨true, 4, 4, 3, true⟩))), t_head (t_adm 0x30 (t_record 1 (leBytes 4 (Skew.toBits ⟨true, 4, 4, 3, true⟩)))) 512, (.skew (t_head (t_adm 0x30 (t_record 1 (leBytes 4 (Skew.toBits ⟨true, 4, 4, 3, true⟩)))) 512).index (Skew.ofBits ((t_head (t_adm 0x30 (t_record 1 (leBytes 4 (Skew.toBits ⟨true, 4, 4, 3, true⟩)))) 512).record 4))), t_accepts (by decide +kernel), .inr (.inr (.inr (.inr (.inr (.inr (.inl ⟨rfl, rfl⟩))))))⟩

theorem test_RecordCommandsStage_0_feedport : ∃ (i : Instr) (p : Fin 521) (s : State) (c : Cmd) (w : Staged),
    s.accepts i c ∧
    (i = .regionSet p ∧ w = .region c.tenant c.index (Region.ofBits (c.record 16)) ∨ i = .tintSet p ∧ c.index ≠ 16 ∧ w = .tint c.index (Tint.ofBits (c.record 8)) ∨ i = .tintSet p ∧ c.index = 16 ∧ w = .markTints (c.b 8) (c.b 9) ∨ i = .portSet p ∧ w = .port c.index ⟨c.le 8 2, c.le 10 2, c.le 14 2, bitAt (c.b 12) 0⟩ ∨ i = .policerSet p ∧ w = .policer c.tenant (Policer.ofBits (c.record 16)) ∨ i = .profileLoad p ∧ w = .profile (c.b 0) ∨ i = .skewSet p ∧ w = .skew c.index (Skew.ofBits (c.record 4)) ∨ i = .feederPortSet p ∧ w = .feederPort c.index ⟨bitAt (c.record 4) 0, fld (c.record 4) 1 3⟩ ∨ i = .feederSlotSet p ∧ w = .feederSlot c.index (FeederSlot.ofBits (c.record 16)) ∨ i = .doorbellSet p ∧ w = .doorbell c.index (Doorbell.ofBits (c.record 24)) ∨ i = .tenantAssign p ∧ w = .tenantHost c.target (c.b 0) ∨ i = .ownerHandover p ∧ w = .owner (c.b 0) ∨ i = .adopt p ∧ w = .adopt c.target (c.b 0) ∨ i = .fwActivate p ∧ w = .handover (c.b 0) ∨ i = .qrelease p ∧ w = .quireRelease (c.le 0 2) ∨ i = .wunmap p ∧ w = .window c.tenant (c.b 5) Window.none) :=
  ⟨(.feederPortSet 512), 512, t_adm 0x32 (t_record 1 [1]), t_head (t_adm 0x32 (t_record 1 [1])) 512, (.feederPort (t_head (t_adm 0x32 (t_record 1 [1])) 512).index ⟨bitAt ((t_head (t_adm 0x32 (t_record 1 [1])) 512).record 4) 0, fld ((t_head (t_adm 0x32 (t_record 1 [1])) 512).record 4) 1 3⟩), t_accepts (by decide +kernel), .inr (.inr (.inr (.inr (.inr (.inr (.inr (.inl ⟨rfl, rfl⟩)))))))⟩

theorem test_RecordCommandsStage_0_feedslot : ∃ (i : Instr) (p : Fin 521) (s : State) (c : Cmd) (w : Staged),
    s.accepts i c ∧
    (i = .regionSet p ∧ w = .region c.tenant c.index (Region.ofBits (c.record 16)) ∨ i = .tintSet p ∧ c.index ≠ 16 ∧ w = .tint c.index (Tint.ofBits (c.record 8)) ∨ i = .tintSet p ∧ c.index = 16 ∧ w = .markTints (c.b 8) (c.b 9) ∨ i = .portSet p ∧ w = .port c.index ⟨c.le 8 2, c.le 10 2, c.le 14 2, bitAt (c.b 12) 0⟩ ∨ i = .policerSet p ∧ w = .policer c.tenant (Policer.ofBits (c.record 16)) ∨ i = .profileLoad p ∧ w = .profile (c.b 0) ∨ i = .skewSet p ∧ w = .skew c.index (Skew.ofBits (c.record 4)) ∨ i = .feederPortSet p ∧ w = .feederPort c.index ⟨bitAt (c.record 4) 0, fld (c.record 4) 1 3⟩ ∨ i = .feederSlotSet p ∧ w = .feederSlot c.index (FeederSlot.ofBits (c.record 16)) ∨ i = .doorbellSet p ∧ w = .doorbell c.index (Doorbell.ofBits (c.record 24)) ∨ i = .tenantAssign p ∧ w = .tenantHost c.target (c.b 0) ∨ i = .ownerHandover p ∧ w = .owner (c.b 0) ∨ i = .adopt p ∧ w = .adopt c.target (c.b 0) ∨ i = .fwActivate p ∧ w = .handover (c.b 0) ∨ i = .qrelease p ∧ w = .quireRelease (c.le 0 2) ∨ i = .wunmap p ∧ w = .window c.tenant (c.b 5) Window.none) :=
  ⟨(.feederSlotSet 512), 512, t_adm 0x33 (t_record 0 (leBytes 16 6)), t_head (t_adm 0x33 (t_record 0 (leBytes 16 6))) 512, (.feederSlot (t_head (t_adm 0x33 (t_record 0 (leBytes 16 6))) 512).index (FeederSlot.ofBits ((t_head (t_adm 0x33 (t_record 0 (leBytes 16 6))) 512).record 16))), t_accepts (by decide +kernel), .inr (.inr (.inr (.inr (.inr (.inr (.inr (.inr (.inl ⟨rfl, rfl⟩))))))))⟩

theorem test_RecordCommandsStage_0_doorbell : ∃ (i : Instr) (p : Fin 521) (s : State) (c : Cmd) (w : Staged),
    s.accepts i c ∧
    (i = .regionSet p ∧ w = .region c.tenant c.index (Region.ofBits (c.record 16)) ∨ i = .tintSet p ∧ c.index ≠ 16 ∧ w = .tint c.index (Tint.ofBits (c.record 8)) ∨ i = .tintSet p ∧ c.index = 16 ∧ w = .markTints (c.b 8) (c.b 9) ∨ i = .portSet p ∧ w = .port c.index ⟨c.le 8 2, c.le 10 2, c.le 14 2, bitAt (c.b 12) 0⟩ ∨ i = .policerSet p ∧ w = .policer c.tenant (Policer.ofBits (c.record 16)) ∨ i = .profileLoad p ∧ w = .profile (c.b 0) ∨ i = .skewSet p ∧ w = .skew c.index (Skew.ofBits (c.record 4)) ∨ i = .feederPortSet p ∧ w = .feederPort c.index ⟨bitAt (c.record 4) 0, fld (c.record 4) 1 3⟩ ∨ i = .feederSlotSet p ∧ w = .feederSlot c.index (FeederSlot.ofBits (c.record 16)) ∨ i = .doorbellSet p ∧ w = .doorbell c.index (Doorbell.ofBits (c.record 24)) ∨ i = .tenantAssign p ∧ w = .tenantHost c.target (c.b 0) ∨ i = .ownerHandover p ∧ w = .owner (c.b 0) ∨ i = .adopt p ∧ w = .adopt c.target (c.b 0) ∨ i = .fwActivate p ∧ w = .handover (c.b 0) ∨ i = .qrelease p ∧ w = .quireRelease (c.le 0 2) ∨ i = .wunmap p ∧ w = .window c.tenant (c.b 5) Window.none) :=
  ⟨(.doorbellSet 512), 512, t_adm 0x34 (t_record 1 (leBytes 24 t_bell.toBits)), t_head (t_adm 0x34 (t_record 1 (leBytes 24 t_bell.toBits))) 512, (.doorbell (t_head (t_adm 0x34 (t_record 1 (leBytes 24 t_bell.toBits))) 512).index (Doorbell.ofBits ((t_head (t_adm 0x34 (t_record 1 (leBytes 24 t_bell.toBits))) 512).record 24))), t_accepts (by decide +kernel), .inr (.inr (.inr (.inr (.inr (.inr (.inr (.inr (.inr (.inl ⟨rfl, rfl⟩)))))))))⟩

theorem test_RecordCommandsStage_0_assign : ∃ (i : Instr) (p : Fin 521) (s : State) (c : Cmd) (w : Staged),
    s.accepts i c ∧
    (i = .regionSet p ∧ w = .region c.tenant c.index (Region.ofBits (c.record 16)) ∨ i = .tintSet p ∧ c.index ≠ 16 ∧ w = .tint c.index (Tint.ofBits (c.record 8)) ∨ i = .tintSet p ∧ c.index = 16 ∧ w = .markTints (c.b 8) (c.b 9) ∨ i = .portSet p ∧ w = .port c.index ⟨c.le 8 2, c.le 10 2, c.le 14 2, bitAt (c.b 12) 0⟩ ∨ i = .policerSet p ∧ w = .policer c.tenant (Policer.ofBits (c.record 16)) ∨ i = .profileLoad p ∧ w = .profile (c.b 0) ∨ i = .skewSet p ∧ w = .skew c.index (Skew.ofBits (c.record 4)) ∨ i = .feederPortSet p ∧ w = .feederPort c.index ⟨bitAt (c.record 4) 0, fld (c.record 4) 1 3⟩ ∨ i = .feederSlotSet p ∧ w = .feederSlot c.index (FeederSlot.ofBits (c.record 16)) ∨ i = .doorbellSet p ∧ w = .doorbell c.index (Doorbell.ofBits (c.record 24)) ∨ i = .tenantAssign p ∧ w = .tenantHost c.target (c.b 0) ∨ i = .ownerHandover p ∧ w = .owner (c.b 0) ∨ i = .adopt p ∧ w = .adopt c.target (c.b 0) ∨ i = .fwActivate p ∧ w = .handover (c.b 0) ∨ i = .qrelease p ∧ w = .quireRelease (c.le 0 2) ∨ i = .wunmap p ∧ w = .window c.tenant (c.b 5) Window.none) :=
  ⟨(.tenantAssign 512), 512, t_sent t_up 512 (t_entry 0x61 0 9 0 [1]), t_head (t_sent t_up 512 (t_entry 0x61 0 9 0 [1])) 512, (.tenantHost (t_head (t_sent t_up 512 (t_entry 0x61 0 9 0 [1])) 512).target ((t_head (t_sent t_up 512 (t_entry 0x61 0 9 0 [1])) 512).b 0)), t_accepts (by decide +kernel), .inr (.inr (.inr (.inr (.inr (.inr (.inr (.inr (.inr (.inr (.inl ⟨rfl, rfl⟩))))))))))⟩

theorem test_RecordCommandsStage_0_owner : ∃ (i : Instr) (p : Fin 521) (s : State) (c : Cmd) (w : Staged),
    s.accepts i c ∧
    (i = .regionSet p ∧ w = .region c.tenant c.index (Region.ofBits (c.record 16)) ∨ i = .tintSet p ∧ c.index ≠ 16 ∧ w = .tint c.index (Tint.ofBits (c.record 8)) ∨ i = .tintSet p ∧ c.index = 16 ∧ w = .markTints (c.b 8) (c.b 9) ∨ i = .portSet p ∧ w = .port c.index ⟨c.le 8 2, c.le 10 2, c.le 14 2, bitAt (c.b 12) 0⟩ ∨ i = .policerSet p ∧ w = .policer c.tenant (Policer.ofBits (c.record 16)) ∨ i = .profileLoad p ∧ w = .profile (c.b 0) ∨ i = .skewSet p ∧ w = .skew c.index (Skew.ofBits (c.record 4)) ∨ i = .feederPortSet p ∧ w = .feederPort c.index ⟨bitAt (c.record 4) 0, fld (c.record 4) 1 3⟩ ∨ i = .feederSlotSet p ∧ w = .feederSlot c.index (FeederSlot.ofBits (c.record 16)) ∨ i = .doorbellSet p ∧ w = .doorbell c.index (Doorbell.ofBits (c.record 24)) ∨ i = .tenantAssign p ∧ w = .tenantHost c.target (c.b 0) ∨ i = .ownerHandover p ∧ w = .owner (c.b 0) ∨ i = .adopt p ∧ w = .adopt c.target (c.b 0) ∨ i = .fwActivate p ∧ w = .handover (c.b 0) ∨ i = .qrelease p ∧ w = .quireRelease (c.le 0 2) ∨ i = .wunmap p ∧ w = .window c.tenant (c.b 5) Window.none) :=
  ⟨(.ownerHandover 512), 512, t_sent t_fresh 512 (t_entry 0x62 0 0 0 [1]), t_head (t_sent t_fresh 512 (t_entry 0x62 0 0 0 [1])) 512, (.owner ((t_head (t_sent t_fresh 512 (t_entry 0x62 0 0 0 [1])) 512).b 0)), t_accepts (by decide +kernel), .inr (.inr (.inr (.inr (.inr (.inr (.inr (.inr (.inr (.inr (.inr (.inl ⟨rfl, rfl⟩)))))))))))⟩

theorem test_RecordCommandsStage_0_adopt : ∃ (i : Instr) (p : Fin 521) (s : State) (c : Cmd) (w : Staged),
    s.accepts i c ∧
    (i = .regionSet p ∧ w = .region c.tenant c.index (Region.ofBits (c.record 16)) ∨ i = .tintSet p ∧ c.index ≠ 16 ∧ w = .tint c.index (Tint.ofBits (c.record 8)) ∨ i = .tintSet p ∧ c.index = 16 ∧ w = .markTints (c.b 8) (c.b 9) ∨ i = .portSet p ∧ w = .port c.index ⟨c.le 8 2, c.le 10 2, c.le 14 2, bitAt (c.b 12) 0⟩ ∨ i = .policerSet p ∧ w = .policer c.tenant (Policer.ofBits (c.record 16)) ∨ i = .profileLoad p ∧ w = .profile (c.b 0) ∨ i = .skewSet p ∧ w = .skew c.index (Skew.ofBits (c.record 4)) ∨ i = .feederPortSet p ∧ w = .feederPort c.index ⟨bitAt (c.record 4) 0, fld (c.record 4) 1 3⟩ ∨ i = .feederSlotSet p ∧ w = .feederSlot c.index (FeederSlot.ofBits (c.record 16)) ∨ i = .doorbellSet p ∧ w = .doorbell c.index (Doorbell.ofBits (c.record 24)) ∨ i = .tenantAssign p ∧ w = .tenantHost c.target (c.b 0) ∨ i = .ownerHandover p ∧ w = .owner (c.b 0) ∨ i = .adopt p ∧ w = .adopt c.target (c.b 0) ∨ i = .fwActivate p ∧ w = .handover (c.b 0) ∨ i = .qrelease p ∧ w = .quireRelease (c.le 0 2) ∨ i = .wunmap p ∧ w = .window c.tenant (c.b 5) Window.none) :=
  ⟨(.adopt 512), 512, t_sent t_lostHost 512 (t_entry 0x64 0 3 1 [0]), t_head (t_sent t_lostHost 512 (t_entry 0x64 0 3 1 [0])) 512, (.adopt (t_head (t_sent t_lostHost 512 (t_entry 0x64 0 3 1 [0])) 512).target ((t_head (t_sent t_lostHost 512 (t_entry 0x64 0 3 1 [0])) 512).b 0)), t_accepts (by decide +kernel), .inr (.inr (.inr (.inr (.inr (.inr (.inr (.inr (.inr (.inr (.inr (.inr (.inl ⟨rfl, rfl⟩))))))))))))⟩

theorem test_RecordCommandsStage_0_activate : ∃ (i : Instr) (p : Fin 521) (s : State) (c : Cmd) (w : Staged),
    s.accepts i c ∧
    (i = .regionSet p ∧ w = .region c.tenant c.index (Region.ofBits (c.record 16)) ∨ i = .tintSet p ∧ c.index ≠ 16 ∧ w = .tint c.index (Tint.ofBits (c.record 8)) ∨ i = .tintSet p ∧ c.index = 16 ∧ w = .markTints (c.b 8) (c.b 9) ∨ i = .portSet p ∧ w = .port c.index ⟨c.le 8 2, c.le 10 2, c.le 14 2, bitAt (c.b 12) 0⟩ ∨ i = .policerSet p ∧ w = .policer c.tenant (Policer.ofBits (c.record 16)) ∨ i = .profileLoad p ∧ w = .profile (c.b 0) ∨ i = .skewSet p ∧ w = .skew c.index (Skew.ofBits (c.record 4)) ∨ i = .feederPortSet p ∧ w = .feederPort c.index ⟨bitAt (c.record 4) 0, fld (c.record 4) 1 3⟩ ∨ i = .feederSlotSet p ∧ w = .feederSlot c.index (FeederSlot.ofBits (c.record 16)) ∨ i = .doorbellSet p ∧ w = .doorbell c.index (Doorbell.ofBits (c.record 24)) ∨ i = .tenantAssign p ∧ w = .tenantHost c.target (c.b 0) ∨ i = .ownerHandover p ∧ w = .owner (c.b 0) ∨ i = .adopt p ∧ w = .adopt c.target (c.b 0) ∨ i = .fwActivate p ∧ w = .handover (c.b 0) ∨ i = .qrelease p ∧ w = .quireRelease (c.le 0 2) ∨ i = .wunmap p ∧ w = .window c.tenant (c.b 5) Window.none) :=
  ⟨(.fwActivate 512), 512, t_sent t_two 512 (t_entry 0x81 0 0 0 [1]), t_head (t_sent t_two 512 (t_entry 0x81 0 0 0 [1])) 512, (.handover ((t_head (t_sent t_two 512 (t_entry 0x81 0 0 0 [1])) 512).b 0)), t_accepts (by decide +kernel), .inr (.inr (.inr (.inr (.inr (.inr (.inr (.inr (.inr (.inr (.inr (.inr (.inr (.inl ⟨rfl, rfl⟩)))))))))))))⟩

theorem test_RecordCommandsStage_0_release : ∃ (i : Instr) (p : Fin 521) (s : State) (c : Cmd) (w : Staged),
    s.accepts i c ∧
    (i = .regionSet p ∧ w = .region c.tenant c.index (Region.ofBits (c.record 16)) ∨ i = .tintSet p ∧ c.index ≠ 16 ∧ w = .tint c.index (Tint.ofBits (c.record 8)) ∨ i = .tintSet p ∧ c.index = 16 ∧ w = .markTints (c.b 8) (c.b 9) ∨ i = .portSet p ∧ w = .port c.index ⟨c.le 8 2, c.le 10 2, c.le 14 2, bitAt (c.b 12) 0⟩ ∨ i = .policerSet p ∧ w = .policer c.tenant (Policer.ofBits (c.record 16)) ∨ i = .profileLoad p ∧ w = .profile (c.b 0) ∨ i = .skewSet p ∧ w = .skew c.index (Skew.ofBits (c.record 4)) ∨ i = .feederPortSet p ∧ w = .feederPort c.index ⟨bitAt (c.record 4) 0, fld (c.record 4) 1 3⟩ ∨ i = .feederSlotSet p ∧ w = .feederSlot c.index (FeederSlot.ofBits (c.record 16)) ∨ i = .doorbellSet p ∧ w = .doorbell c.index (Doorbell.ofBits (c.record 24)) ∨ i = .tenantAssign p ∧ w = .tenantHost c.target (c.b 0) ∨ i = .ownerHandover p ∧ w = .owner (c.b 0) ∨ i = .adopt p ∧ w = .adopt c.target (c.b 0) ∨ i = .fwActivate p ∧ w = .handover (c.b 0) ∨ i = .qrelease p ∧ w = .quireRelease (c.le 0 2) ∨ i = .wunmap p ∧ w = .window c.tenant (c.b 5) Window.none) :=
  ⟨(.qrelease 512), 512, t_sent t_failed 512 (t_entry 0x13 0 0 0 [0, 0, 5, 0]), t_head (t_sent t_failed 512 (t_entry 0x13 0 0 0 [0, 0, 5, 0])) 512, (.quireRelease ((t_head (t_sent t_failed 512 (t_entry 0x13 0 0 0 [0, 0, 5, 0])) 512).le 0 2)), t_accepts (by decide +kernel), .inr (.inr (.inr (.inr (.inr (.inr (.inr (.inr (.inr (.inr (.inr (.inr (.inr (.inr (.inl ⟨rfl, rfl⟩))))))))))))))⟩

theorem test_RecordCommandsStage_0_unmap : ∃ (i : Instr) (p : Fin 521) (s : State) (c : Cmd) (w : Staged),
    s.accepts i c ∧
    (i = .regionSet p ∧ w = .region c.tenant c.index (Region.ofBits (c.record 16)) ∨ i = .tintSet p ∧ c.index ≠ 16 ∧ w = .tint c.index (Tint.ofBits (c.record 8)) ∨ i = .tintSet p ∧ c.index = 16 ∧ w = .markTints (c.b 8) (c.b 9) ∨ i = .portSet p ∧ w = .port c.index ⟨c.le 8 2, c.le 10 2, c.le 14 2, bitAt (c.b 12) 0⟩ ∨ i = .policerSet p ∧ w = .policer c.tenant (Policer.ofBits (c.record 16)) ∨ i = .profileLoad p ∧ w = .profile (c.b 0) ∨ i = .skewSet p ∧ w = .skew c.index (Skew.ofBits (c.record 4)) ∨ i = .feederPortSet p ∧ w = .feederPort c.index ⟨bitAt (c.record 4) 0, fld (c.record 4) 1 3⟩ ∨ i = .feederSlotSet p ∧ w = .feederSlot c.index (FeederSlot.ofBits (c.record 16)) ∨ i = .doorbellSet p ∧ w = .doorbell c.index (Doorbell.ofBits (c.record 24)) ∨ i = .tenantAssign p ∧ w = .tenantHost c.target (c.b 0) ∨ i = .ownerHandover p ∧ w = .owner (c.b 0) ∨ i = .adopt p ∧ w = .adopt c.target (c.b 0) ∨ i = .fwActivate p ∧ w = .handover (c.b 0) ∨ i = .qrelease p ∧ w = .quireRelease (c.le 0 2) ∨ i = .wunmap p ∧ w = .window c.tenant (c.b 5) Window.none) :=
  ⟨(.wunmap 3), 3, t_own 0x12 [], t_head (t_own 0x12 []) 3, (.window (t_head (t_own 0x12 []) 3).tenant ((t_head (t_own 0x12 []) 3).b 5) Window.none), t_accepts (by decide +kernel), .inr (.inr (.inr (.inr (.inr (.inr (.inr (.inr (.inr (.inr (.inr (.inr (.inr (.inr (.inr (⟨rfl, rfl⟩)))))))))))))))⟩

theorem test_ListCommandsStage_0 : ∃ (p : Fin 521) (s : State) (c : Cmd),
    s.accepts (.gateSet p) c :=
  ⟨512, t_gates, t_head (t_gates) 512, t_accepts (by decide +kernel)⟩

theorem test_ListCommandsStage_1_free : ∃ (p : Fin 521) (s : State) (c : Cmd),
    s.accepts (.wmArm p) c :=
  ⟨512, t_adm 0x35 (t_record 0xFFFF []), t_head (t_adm 0x35 (t_record 0xFFFF [])) 512, t_accepts (by decide +kernel)⟩

theorem test_ListCommandsStage_1_index : ∃ (p : Fin 521) (s : State) (c : Cmd),
    s.accepts (.wmArm p) c :=
  ⟨512, t_adm 0x35 (t_record 5 []), t_head (t_adm 0x35 (t_record 5 [])) 512, t_accepts (by decide +kernel)⟩

theorem test_ListCommandsStage_2 : ∃ (p : Fin 521) (s : State) (c : Cmd),
    s.accepts (.oppointSet p) c :=
  ⟨512, t_adm 0x51 [1, 0, 1], t_head (t_adm 0x51 [1, 0, 1]) 512, t_accepts (by decide +kernel)⟩

theorem test_ListCommandsStage_3 : ∃ (p : Fin 521) (s : State) (c : Cmd),
    s.accepts (.calImport p) c :=
  ⟨512, t_import, t_head t_import 512, t_accepts_import⟩

theorem test_ListCommandsStage_4_sched : ∃ (i : Instr) (p : Fin 521) (s : State) (c : Cmd),
    s.accepts i c ∧
    (i = .schedSet p ∨ i = .sheetSet p ∨ i = .lakeSet p ∨ i = .maintSet p ∨ i = .powerSet p ∨ i = .thermalSet p ∨ i = .calibSet p ∨ i = .hostSet p) :=
  ⟨(.schedSet 512), 512, t_adm 0x26 (t_list 0x2605 20), t_head (t_adm 0x26 (t_list 0x2605 20)) 512, t_accepts (by decide +kernel), .inl rfl⟩

theorem test_ListCommandsStage_4_sheet : ∃ (i : Instr) (p : Fin 521) (s : State) (c : Cmd),
    s.accepts i c ∧
    (i = .schedSet p ∨ i = .sheetSet p ∨ i = .lakeSet p ∨ i = .maintSet p ∨ i = .powerSet p ∨ i = .thermalSet p ∨ i = .calibSet p ∨ i = .hostSet p) :=
  ⟨(.sheetSet 512), 512, t_adm 0x28 (t_list 0x2801 2000), t_head (t_adm 0x28 (t_list 0x2801 2000)) 512, t_accepts (by decide +kernel), .inr (.inl rfl)⟩

theorem test_ListCommandsStage_4_lake : ∃ (i : Instr) (p : Fin 521) (s : State) (c : Cmd),
    s.accepts i c ∧
    (i = .schedSet p ∨ i = .sheetSet p ∨ i = .lakeSet p ∨ i = .maintSet p ∨ i = .powerSet p ∨ i = .thermalSet p ∨ i = .calibSet p ∨ i = .hostSet p) :=
  ⟨(.lakeSet 512), 512, t_adm 0x31 (t_list 0x3101 50), t_head (t_adm 0x31 (t_list 0x3101 50)) 512, t_accepts (by decide +kernel), .inr (.inr (.inl rfl))⟩

theorem test_ListCommandsStage_4_maint : ∃ (i : Instr) (p : Fin 521) (s : State) (c : Cmd),
    s.accepts i c ∧
    (i = .schedSet p ∨ i = .sheetSet p ∨ i = .lakeSet p ∨ i = .maintSet p ∨ i = .powerSet p ∨ i = .thermalSet p ∨ i = .calibSet p ∨ i = .hostSet p) :=
  ⟨(.maintSet 512), 512, t_adm 0x40 (t_list 0x4005 4096), t_head (t_adm 0x40 (t_list 0x4005 4096)) 512, t_accepts (by decide +kernel), .inr (.inr (.inr (.inl rfl)))⟩

theorem test_ListCommandsStage_4_power : ∃ (i : Instr) (p : Fin 521) (s : State) (c : Cmd),
    s.accepts i c ∧
    (i = .schedSet p ∨ i = .sheetSet p ∨ i = .lakeSet p ∨ i = .maintSet p ∨ i = .powerSet p ∨ i = .thermalSet p ∨ i = .calibSet p ∨ i = .hostSet p) :=
  ⟨(.powerSet 512), 512, t_adm 0x50 (t_list 0x5001 60), t_head (t_adm 0x50 (t_list 0x5001 60)) 512, t_accepts (by decide +kernel), .inr (.inr (.inr (.inr (.inl rfl))))⟩

theorem test_ListCommandsStage_4_thermal : ∃ (i : Instr) (p : Fin 521) (s : State) (c : Cmd),
    s.accepts i c ∧
    (i = .schedSet p ∨ i = .sheetSet p ∨ i = .lakeSet p ∨ i = .maintSet p ∨ i = .powerSet p ∨ i = .thermalSet p ∨ i = .calibSet p ∨ i = .hostSet p) :=
  ⟨(.thermalSet 512), 512, t_adm 0x52 (t_list 0x5201 90), t_head (t_adm 0x52 (t_list 0x5201 90)) 512, t_accepts (by decide +kernel), .inr (.inr (.inr (.inr (.inr (.inl rfl)))))⟩

theorem test_ListCommandsStage_4_calib : ∃ (i : Instr) (p : Fin 521) (s : State) (c : Cmd),
    s.accepts i c ∧
    (i = .schedSet p ∨ i = .sheetSet p ∨ i = .lakeSet p ∨ i = .maintSet p ∨ i = .powerSet p ∨ i = .thermalSet p ∨ i = .calibSet p ∨ i = .hostSet p) :=
  ⟨(.calibSet 512), 512, t_adm 0x58 (t_list 0x5801 22), t_head (t_adm 0x58 (t_list 0x5801 22)) 512, t_accepts (by decide +kernel), .inr (.inr (.inr (.inr (.inr (.inr (.inl rfl))))))⟩

theorem test_ListCommandsStage_4_host : ∃ (i : Instr) (p : Fin 521) (s : State) (c : Cmd),
    s.accepts i c ∧
    (i = .schedSet p ∨ i = .sheetSet p ∨ i = .lakeSet p ∨ i = .maintSet p ∨ i = .powerSet p ∨ i = .thermalSet p ∨ i = .calibSet p ∨ i = .hostSet p) :=
  ⟨(.hostSet 512), 512, t_adm 0x60 (t_list 0x6002 50), t_head (t_adm 0x60 (t_list 0x6002 50)) 512, t_accepts (by decide +kernel), .inr (.inr (.inr (.inr (.inr (.inr (.inr (rfl)))))))⟩

theorem test_QuireCommandsStage_0 : ∃ (p : Fin 521) (s : State) (c : Cmd),
    s.accepts (.qalloc p) c :=
  ⟨3, t_leafy, t_head t_leafy 3, t_accepts (by decide +kernel)⟩

theorem test_QuireCommandsStage_1 : ∃ (p : Fin 521) (s : State) (c : Cmd) (q : QuireRec),
    s.accepts (.qjoin p) c ∧
    q = s.pendingBank.quire (c.le 0 2) :=
  ⟨3, t_sent t_shared 3 (t_entry 0x11 0 0 0 [2, 0, 7, 0, 0, 1, 0, 0, 0, 2]), t_head (t_sent t_shared 3 (t_entry 0x11 0 0 0 [2, 0, 7, 0, 0, 1, 0, 0, 0, 2])) 3, (t_sent t_shared 3 (t_entry 0x11 0 0 0 [2, 0, 7, 0, 0, 1, 0, 0, 0, 2])).pendingBank.quire 2, t_accepts (by decide +kernel), by decide +kernel⟩

theorem test_SessionCommandsComplete_0_tenant : ∃ (p : Fin 521) (s : State) (c : Cmd),
    s.accepts (.open_ p) c :=
  ⟨9, t_opener 9, t_head (t_opener 9) 9, t_accepts (by decide +kernel)⟩

theorem test_SessionCommandsComplete_0_host : ∃ (p : Fin 521) (s : State) (c : Cmd),
    s.accepts (.open_ p) c :=
  ⟨512, t_opener 512, t_head (t_opener 512) 512, t_accepts (by decide +kernel)⟩

theorem test_SessionCommandsComplete_1 : ∃ (p : Fin 521) (s : State) (c : Cmd),
    s.accepts (.close p) c ∧
    512 ≤ p.val :=
  ⟨512, t_adm 2 [], t_head (t_adm 2 []) 512, t_accepts (by decide +kernel), by decide⟩

theorem test_SessionCommandsComplete_2 : ∃ (p : Fin 521) (s : State) (c : Cmd),
    s.accepts (.close p) c ∧
    p.val < 512 ∧
    ((s.bank.tenant p.val).tstate = .active ∨ (s.bank.tenant p.val).tstate = .failed) ∧
    ((s.pendingBank.tenant p.val).tstate ≠ .free) ∧
    s.sets.any (fun x => x.committed && x.items.any (fun i => i.what == .tenantClose p.val)) = false :=
  ⟨3, t_own 2 [], t_head (t_own 2 []) 3, t_accepts (by decide +kernel), by decide, by decide +kernel, by decide +kernel, rfl⟩

theorem test_SessionCommandsComplete_3 : ∃ (p : Fin 521) (s : State) (c : Cmd),
    s.accepts (.commit p) c :=
  ⟨512, { t_adm 3 [] with sets := [t_openSet] }, t_head ({ t_adm 3 [] with sets := [t_openSet] }) 512, t_accepts (by decide +kernel)⟩

theorem test_SessionCommandsComplete_4 : ∃ (p : Fin 521) (s : State) (c : Cmd),
    s.accepts (.discard p) c :=
  ⟨512, { t_adm 4 [] with sets := [t_openSet] }, t_head ({ t_adm 4 [] with sets := [t_openSet] }) 512, t_accepts (by decide +kernel)⟩


/-! ## Witnesses: Mailbox commands that act -/

/-- A page of another command: what a check of R462 refuses, answered with its status, ARGPOS and step. -/
def t_refused (s : State) (m : MailRow) (c : Cmd) : Nat × Nat × Nat :=
  match s.replyTo m c with
  | .fail st pos step _ => (st, pos, step)
  | _ => (0, 0, 0)
def t_flows : State := { t_up with aff := [(1, ⟨5, 0, false, 0⟩), (2, ⟨5, 0, false, 0⟩)] }
def t_code : State := { t_up with trace := { t_up.trace with code := some (99, 900000) } }
def t_held : State := t_up.setHeat 0 { Heat.reset with held := true, temp := some 700, st := .tripped }
def t_fence : State := { t_up with supply := [(0, { t_sup with fenced := true }), (15, t_sup)] }

theorem test_RefusedCommandsAnswer_0 : ∃ (i : Instr) (s : State) (m : MailRow) (c : Cmd) (st : Nat) (pos : Nat) (step : Nat) (bulk : Option (List Nat)),
    s.serves i m c ∧
    s.replyTo m c = .fail st pos step bulk ∧
    c.opcode ≠ 1 :=
  ⟨.profileLoad 512, t_adm 0x25 [7], ⟨512, 0x25, anySub, profileLoadBody⟩, t_head (t_adm 0x25 [7]) 512, stBadArg, 0, 6, none, ⟨rfl, by decide +kernel⟩, rfl, by decide +kernel⟩

theorem test_ReadingCommandsAnswer_0 : ∃ (p : Fin 521) (s : State) (c : Cmd),
    s.accepts (.stateRead p) c :=
  ⟨3, t_own 5 [1, 1, 3, 0], t_head (t_own 5 [1, 1, 3, 0]) 3, t_accepts (by decide +kernel)⟩

theorem test_ReadingCommandsAnswer_1_tenant : ∃ (p : Fin 521) (s : State) (c : Cmd) (ten : Nat → Nat) (chip : Nat → Nat),
    s.accepts (.energyRead p) c ∧
    (∀ n, ten n = Tab.num s.cnt.tenant (c.tenant * 64 + n)) ∧
    (∀ n, chip n = Tab.num s.cnt.global n) :=
  ⟨512, t_for 0x71 [0], t_head (t_for 0x71 [0]) 512, fun n => Tab.num (t_for 0x71 [0]).cnt.tenant ((t_head (t_for 0x71 [0]) 512).tenant * 64 + n), fun n => Tab.num (t_for 0x71 [0]).cnt.global n, t_accepts (by decide +kernel), fun _ => rfl, fun _ => rfl⟩

theorem test_ReadingCommandsAnswer_1_chip : ∃ (p : Fin 521) (s : State) (c : Cmd) (ten : Nat → Nat) (chip : Nat → Nat),
    s.accepts (.energyRead p) c ∧
    (∀ n, ten n = Tab.num s.cnt.tenant (c.tenant * 64 + n)) ∧
    (∀ n, chip n = Tab.num s.cnt.global n) :=
  ⟨512, t_adm 0x71 [1], t_head (t_adm 0x71 [1]) 512, fun n => Tab.num (t_adm 0x71 [1]).cnt.tenant ((t_head (t_adm 0x71 [1]) 512).tenant * 64 + n), fun n => Tab.num (t_adm 0x71 [1]).cnt.global n, t_accepts (by decide +kernel), fun _ => rfl, fun _ => rfl⟩

theorem test_ReadingCommandsAnswer_2 : ∃ (p : Fin 521) (s : State) (c : Cmd) (es : List MapEntry),
    s.accepts (.repairRead p) c ∧
    es = (s.curMap.1.drop (c.le 4 2)).take 992 :=
  ⟨512, t_adm 0x42 [5], t_head (t_adm 0x42 [5]) 512, ((t_adm 0x42 [5]).curMap.1.drop ((t_head (t_adm 0x42 [5]) 512).le 4 2)).take 992, t_accepts (by decide +kernel), rfl⟩

theorem test_ReadingCommandsAnswer_3 : ∃ (p : Fin 521) (s : State) (c : Cmd),
    s.accepts (.calExport p) c :=
  ⟨512, t_adm 0x59 [0], t_head (t_adm 0x59 [0]) 512, t_accepts (by decide +kernel)⟩

theorem test_ImmediateCommandsAct_0 : ∃ (p : Fin 521) (s : State) (c : Cmd),
    s.accepts (.affinityReset p) c :=
  ⟨512, t_sent t_flows 512 (t_entry 0x22 0 0 0 [1]), t_head (t_sent t_flows 512 (t_entry 0x22 0 0 0 [1])) 512, t_accepts (by decide +kernel)⟩

theorem test_ImmediateCommandsAct_1 : ∃ (p : Fin 521) (s : State) (c : Cmd),
    s.accepts (.dumpFree p) c :=
  ⟨512, t_adm 0x36 [], t_head (t_adm 0x36 []) 512, t_accepts (by decide +kernel)⟩

theorem test_ImmediateCommandsAct_2 : ∃ (p : Fin 521) (s : State) (c : Cmd),
    s.accepts (.ownerAccept p) c :=
  ⟨512, t_adm 0x63 [], t_head (t_adm 0x63 []) 512, t_accepts (by decide +kernel)⟩

theorem test_ImmediateCommandsAct_3_allow : ∃ (i : Instr) (p : Fin 521) (s : State) (c : Cmd) (x : TenSt) (on : Bool),
    s.accepts i c ∧
    (i = .cntAllowUmap p ∧ x = { s.tenSt c.tenant with umap := true } ∨ i = .cntRevokeUmap p ∧ x = { s.tenSt c.tenant with umap := false } ∨ i = .dbgGrantRights p ∧ x = { s.tenSt c.tenant with debugRights := true } ∨ i = .dbgRevokeRights p ∧ x = { s.tenSt c.tenant with debugRights := false } ∨ on = bitAt (c.b 1) 0 ∧ i = .subscribeAdd p ∧ x = { s.tenSt c.tenant with subs := if on && !(s.tenSt c.tenant).subs.contains (c.le 2 2) then (s.tenSt c.tenant).subs ++ [c.le 2 2] else (s.tenSt c.tenant).subs } ∨ on = bitAt (c.b 1) 0 ∧ i = .subscribeRemove p ∧ x = { s.tenSt c.tenant with subs := if on then (s.tenSt c.tenant).subs.filter (fun n => n != c.le 2 2) else (s.tenSt c.tenant).subs }) :=
  ⟨(.cntAllowUmap 512), 512, t_for 0x70 [1], t_head (t_for 0x70 [1]) 512, { ((t_for 0x70 [1]).tenSt (t_head (t_for 0x70 [1]) 512).tenant) with umap := true }, false, t_accepts (by decide +kernel), .inl ⟨rfl, rfl⟩⟩

theorem test_ImmediateCommandsAct_3_revoke : ∃ (i : Instr) (p : Fin 521) (s : State) (c : Cmd) (x : TenSt) (on : Bool),
    s.accepts i c ∧
    (i = .cntAllowUmap p ∧ x = { s.tenSt c.tenant with umap := true } ∨ i = .cntRevokeUmap p ∧ x = { s.tenSt c.tenant with umap := false } ∨ i = .dbgGrantRights p ∧ x = { s.tenSt c.tenant with debugRights := true } ∨ i = .dbgRevokeRights p ∧ x = { s.tenSt c.tenant with debugRights := false } ∨ on = bitAt (c.b 1) 0 ∧ i = .subscribeAdd p ∧ x = { s.tenSt c.tenant with subs := if on && !(s.tenSt c.tenant).subs.contains (c.le 2 2) then (s.tenSt c.tenant).subs ++ [c.le 2 2] else (s.tenSt c.tenant).subs } ∨ on = bitAt (c.b 1) 0 ∧ i = .subscribeRemove p ∧ x = { s.tenSt c.tenant with subs := if on then (s.tenSt c.tenant).subs.filter (fun n => n != c.le 2 2) else (s.tenSt c.tenant).subs }) :=
  ⟨(.cntRevokeUmap 512), 512, t_for 0x70 [2], t_head (t_for 0x70 [2]) 512, { ((t_for 0x70 [2]).tenSt (t_head (t_for 0x70 [2]) 512).tenant) with umap := false }, false, t_accepts (by decide +kernel), .inr (.inl ⟨rfl, rfl⟩)⟩

theorem test_ImmediateCommandsAct_3_grant : ∃ (i : Instr) (p : Fin 521) (s : State) (c : Cmd) (x : TenSt) (on : Bool),
    s.accepts i c ∧
    (i = .cntAllowUmap p ∧ x = { s.tenSt c.tenant with umap := true } ∨ i = .cntRevokeUmap p ∧ x = { s.tenSt c.tenant with umap := false } ∨ i = .dbgGrantRights p ∧ x = { s.tenSt c.tenant with debugRights := true } ∨ i = .dbgRevokeRights p ∧ x = { s.tenSt c.tenant with debugRights := false } ∨ on = bitAt (c.b 1) 0 ∧ i = .subscribeAdd p ∧ x = { s.tenSt c.tenant with subs := if on && !(s.tenSt c.tenant).subs.contains (c.le 2 2) then (s.tenSt c.tenant).subs ++ [c.le 2 2] else (s.tenSt c.tenant).subs } ∨ on = bitAt (c.b 1) 0 ∧ i = .subscribeRemove p ∧ x = { s.tenSt c.tenant with subs := if on then (s.tenSt c.tenant).subs.filter (fun n => n != c.le 2 2) else (s.tenSt c.tenant).subs }) :=
  ⟨(.dbgGrantRights 512), 512, t_for 0x91 [2], t_head (t_for 0x91 [2]) 512, { ((t_for 0x91 [2]).tenSt (t_head (t_for 0x91 [2]) 512).tenant) with debugRights := true }, false, t_accepts (by decide +kernel), .inr (.inr (.inl ⟨rfl, rfl⟩))⟩

theorem test_ImmediateCommandsAct_3_rerights : ∃ (i : Instr) (p : Fin 521) (s : State) (c : Cmd) (x : TenSt) (on : Bool),
    s.accepts i c ∧
    (i = .cntAllowUmap p ∧ x = { s.tenSt c.tenant with umap := true } ∨ i = .cntRevokeUmap p ∧ x = { s.tenSt c.tenant with umap := false } ∨ i = .dbgGrantRights p ∧ x = { s.tenSt c.tenant with debugRights := true } ∨ i = .dbgRevokeRights p ∧ x = { s.tenSt c.tenant with debugRights := false } ∨ on = bitAt (c.b 1) 0 ∧ i = .subscribeAdd p ∧ x = { s.tenSt c.tenant with subs := if on && !(s.tenSt c.tenant).subs.contains (c.le 2 2) then (s.tenSt c.tenant).subs ++ [c.le 2 2] else (s.tenSt c.tenant).subs } ∨ on = bitAt (c.b 1) 0 ∧ i = .subscribeRemove p ∧ x = { s.tenSt c.tenant with subs := if on then (s.tenSt c.tenant).subs.filter (fun n => n != c.le 2 2) else (s.tenSt c.tenant).subs }) :=
  ⟨(.dbgRevokeRights 512), 512, t_for 0x91 [3], t_head (t_for 0x91 [3]) 512, { ((t_for 0x91 [3]).tenSt (t_head (t_for 0x91 [3]) 512).tenant) with debugRights := false }, false, t_accepts (by decide +kernel), .inr (.inr (.inr (.inl ⟨rfl, rfl⟩)))⟩

theorem test_ImmediateCommandsAct_3_sub : ∃ (i : Instr) (p : Fin 521) (s : State) (c : Cmd) (x : TenSt) (on : Bool),
    s.accepts i c ∧
    (i = .cntAllowUmap p ∧ x = { s.tenSt c.tenant with umap := true } ∨ i = .cntRevokeUmap p ∧ x = { s.tenSt c.tenant with umap := false } ∨ i = .dbgGrantRights p ∧ x = { s.tenSt c.tenant with debugRights := true } ∨ i = .dbgRevokeRights p ∧ x = { s.tenSt c.tenant with debugRights := false } ∨ on = bitAt (c.b 1) 0 ∧ i = .subscribeAdd p ∧ x = { s.tenSt c.tenant with subs := if on && !(s.tenSt c.tenant).subs.contains (c.le 2 2) then (s.tenSt c.tenant).subs ++ [c.le 2 2] else (s.tenSt c.tenant).subs } ∨ on = bitAt (c.b 1) 0 ∧ i = .subscribeRemove p ∧ x = { s.tenSt c.tenant with subs := if on then (s.tenSt c.tenant).subs.filter (fun n => n != c.le 2 2) else (s.tenSt c.tenant).subs }) :=
  ⟨(.subscribeAdd 3), 3, t_own 0x72 [1, 1, 5, 0], t_head (t_own 0x72 [1, 1, 5, 0]) 3, { ((t_own 0x72 [1, 1, 5, 0]).tenSt (t_head (t_own 0x72 [1, 1, 5, 0]) 3).tenant) with subs := if true && !((t_own 0x72 [1, 1, 5, 0]).tenSt (t_head (t_own 0x72 [1, 1, 5, 0]) 3).tenant).subs.contains ((t_head (t_own 0x72 [1, 1, 5, 0]) 3).le 2 2) then ((t_own 0x72 [1, 1, 5, 0]).tenSt (t_head (t_own 0x72 [1, 1, 5, 0]) 3).tenant).subs ++ [(t_head (t_own 0x72 [1, 1, 5, 0]) 3).le 2 2] else ((t_own 0x72 [1, 1, 5, 0]).tenSt (t_head (t_own 0x72 [1, 1, 5, 0]) 3).tenant).subs }, true, t_accepts (by decide +kernel), .inr (.inr (.inr (.inr (.inl ⟨by decide +kernel, rfl, rfl⟩))))⟩

theorem test_ImmediateCommandsAct_3_unsub : ∃ (i : Instr) (p : Fin 521) (s : State) (c : Cmd) (x : TenSt) (on : Bool),
    s.accepts i c ∧
    (i = .cntAllowUmap p ∧ x = { s.tenSt c.tenant with umap := true } ∨ i = .cntRevokeUmap p ∧ x = { s.tenSt c.tenant with umap := false } ∨ i = .dbgGrantRights p ∧ x = { s.tenSt c.tenant with debugRights := true } ∨ i = .dbgRevokeRights p ∧ x = { s.tenSt c.tenant with debugRights := false } ∨ on = bitAt (c.b 1) 0 ∧ i = .subscribeAdd p ∧ x = { s.tenSt c.tenant with subs := if on && !(s.tenSt c.tenant).subs.contains (c.le 2 2) then (s.tenSt c.tenant).subs ++ [c.le 2 2] else (s.tenSt c.tenant).subs } ∨ on = bitAt (c.b 1) 0 ∧ i = .subscribeRemove p ∧ x = { s.tenSt c.tenant with subs := if on then (s.tenSt c.tenant).subs.filter (fun n => n != c.le 2 2) else (s.tenSt c.tenant).subs }) :=
  ⟨(.subscribeRemove 3), 3, t_own 0x72 [0, 1, 5, 0], t_head (t_own 0x72 [0, 1, 5, 0]) 3, { ((t_own 0x72 [0, 1, 5, 0]).tenSt (t_head (t_own 0x72 [0, 1, 5, 0]) 3).tenant) with subs := if true then ((t_own 0x72 [0, 1, 5, 0]).tenSt (t_head (t_own 0x72 [0, 1, 5, 0]) 3).tenant).subs.filter (fun n => n != (t_head (t_own 0x72 [0, 1, 5, 0]) 3).le 2 2) else ((t_own 0x72 [0, 1, 5, 0]).tenSt (t_head (t_own 0x72 [0, 1, 5, 0]) 3).tenant).subs }, true, t_accepts (by decide +kernel), .inr (.inr (.inr (.inr (.inr (⟨by decide +kernel, rfl, rfl⟩)))))⟩

theorem test_ImmediateCommandsAct_4 : ∃ (p : Fin 521) (s : State) (c : Cmd),
    s.accepts (.cntArmSampling p) c :=
  ⟨512, t_for 0x70 ([3, 0] ++ leBytes 2 4 ++ List.replicate 4 0 ++ leBytes 6 256), t_head (t_for 0x70 ([3, 0] ++ leBytes 2 4 ++ List.replicate 4 0 ++ leBytes 6 256)) 512, t_accepts (by decide +kernel)⟩

theorem test_ImmediateCommandsAct_5 : ∃ (p : Fin 521) (s : State) (c : Cmd),
    s.accepts (.cntDisarmSampling p) c :=
  ⟨512, t_for 0x70 ([4, 0] ++ leBytes 2 4), t_head (t_for 0x70 ([4, 0] ++ leBytes 2 4)) 512, t_accepts (by decide +kernel)⟩

theorem test_ImmediateCommandsAct_6 : ∃ (p : Fin 521) (s : State) (c : Cmd),
    s.accepts (.dbgIssueCode p) c :=
  ⟨512, t_adm 0x91 [1], t_head (t_adm 0x91 [1]) 512, t_accepts (by decide +kernel)⟩

theorem test_ImmediateCommandsAct_7_right : ∃ (p : Fin 521) (s : State) (c : Cmd) (code : Nat) (at_ : Nat),
    s.accepts (.dbgUnlock p) c ∧
    s.trace.code = some (code, at_) ∧
    s.clk.ticks ≤ at_ + ms 10000 :=
  ⟨520, t_sent t_code 520 (t_entry 0x92 0 0 0 [99]), t_head (t_sent t_code 520 (t_entry 0x92 0 0 0 [99])) 520, 99, 900000, t_accepts (by decide +kernel), rfl, by decide +kernel⟩

theorem test_ImmediateCommandsAct_7_wrong : ∃ (p : Fin 521) (s : State) (c : Cmd) (code : Nat) (at_ : Nat),
    s.accepts (.dbgUnlock p) c ∧
    s.trace.code = some (code, at_) ∧
    s.clk.ticks ≤ at_ + ms 10000 :=
  ⟨520, t_sent t_code 520 (t_entry 0x92 0 0 0 [98]), t_head (t_sent t_code 520 (t_entry 0x92 0 0 0 [98])) 520, 99, 900000, t_accepts (by decide +kernel), rfl, by decide +kernel⟩

theorem test_ImmediateCommandsAct_8 : ∃ (p : Fin 521) (s : State) (c : Cmd),
    s.accepts (.dbgResume p) c :=
  ⟨512, t_adm 0x93 [], t_head (t_adm 0x93 []) 512, t_accepts (by decide +kernel)⟩

theorem test_WorkCommandsAsk_0_scrub : ∃ (i : Instr) (p : Fin 521) (s : State) (c : Cmd) (m : MReq),
    s.accepts i c ∧
    (i = .maintReqScrub p ∧ m = plainReq .scrub 4 s.nextId ∨ i = .maintReqHeal p ∧ m = healReq (c.flatBank s) (c.le 4 2) s.nextId ∨ i = .maintReqRepairRow p ∧ m = repairReq (c.flatBank s) (c.le 4 2) 4 s.nextId ∨ i = .maintReqRepairLane p ∧ m = laneReq (c.le 2 2 % 2 * 36 + c.b 7) 4 s.nextId ∨ i = .maintReqCapture p ∧ m = plainReq .capture 4 s.nextId) :=
  ⟨(.maintReqScrub 512), 512, t_adm 0x41 [1], t_head (t_adm 0x41 [1]) 512, (plainReq .scrub 4 (t_adm 0x41 [1]).nextId), t_accepts (by decide +kernel), .inl ⟨rfl, rfl⟩⟩

theorem test_WorkCommandsAsk_0_heal : ∃ (i : Instr) (p : Fin 521) (s : State) (c : Cmd) (m : MReq),
    s.accepts i c ∧
    (i = .maintReqScrub p ∧ m = plainReq .scrub 4 s.nextId ∨ i = .maintReqHeal p ∧ m = healReq (c.flatBank s) (c.le 4 2) s.nextId ∨ i = .maintReqRepairRow p ∧ m = repairReq (c.flatBank s) (c.le 4 2) 4 s.nextId ∨ i = .maintReqRepairLane p ∧ m = laneReq (c.le 2 2 % 2 * 36 + c.b 7) 4 s.nextId ∨ i = .maintReqCapture p ∧ m = plainReq .capture 4 s.nextId) :=
  ⟨(.maintReqHeal 512), 512, t_adm 0x41 [3, 0, 0, 0, 5], t_head (t_adm 0x41 [3, 0, 0, 0, 5]) 512, (healReq ((t_head (t_adm 0x41 [3, 0, 0, 0, 5]) 512).flatBank (t_adm 0x41 [3, 0, 0, 0, 5])) ((t_head (t_adm 0x41 [3, 0, 0, 0, 5]) 512).le 4 2) (t_adm 0x41 [3, 0, 0, 0, 5]).nextId), t_accepts (by decide +kernel), .inr (.inl ⟨rfl, rfl⟩)⟩

theorem test_WorkCommandsAsk_0_row : ∃ (i : Instr) (p : Fin 521) (s : State) (c : Cmd) (m : MReq),
    s.accepts i c ∧
    (i = .maintReqScrub p ∧ m = plainReq .scrub 4 s.nextId ∨ i = .maintReqHeal p ∧ m = healReq (c.flatBank s) (c.le 4 2) s.nextId ∨ i = .maintReqRepairRow p ∧ m = repairReq (c.flatBank s) (c.le 4 2) 4 s.nextId ∨ i = .maintReqRepairLane p ∧ m = laneReq (c.le 2 2 % 2 * 36 + c.b 7) 4 s.nextId ∨ i = .maintReqCapture p ∧ m = plainReq .capture 4 s.nextId) :=
  ⟨(.maintReqRepairRow 512), 512, t_adm 0x41 [4, 0, 0, 0, 5], t_head (t_adm 0x41 [4, 0, 0, 0, 5]) 512, (repairReq ((t_head (t_adm 0x41 [4, 0, 0, 0, 5]) 512).flatBank (t_adm 0x41 [4, 0, 0, 0, 5])) ((t_head (t_adm 0x41 [4, 0, 0, 0, 5]) 512).le 4 2) 4 (t_adm 0x41 [4, 0, 0, 0, 5]).nextId), t_accepts (by decide +kernel), .inr (.inr (.inl ⟨rfl, rfl⟩))⟩

theorem test_WorkCommandsAsk_0_lane : ∃ (i : Instr) (p : Fin 521) (s : State) (c : Cmd) (m : MReq),
    s.accepts i c ∧
    (i = .maintReqScrub p ∧ m = plainReq .scrub 4 s.nextId ∨ i = .maintReqHeal p ∧ m = healReq (c.flatBank s) (c.le 4 2) s.nextId ∨ i = .maintReqRepairRow p ∧ m = repairReq (c.flatBank s) (c.le 4 2) 4 s.nextId ∨ i = .maintReqRepairLane p ∧ m = laneReq (c.le 2 2 % 2 * 36 + c.b 7) 4 s.nextId ∨ i = .maintReqCapture p ∧ m = plainReq .capture 4 s.nextId) :=
  ⟨(.maintReqRepairLane 512), 512, t_adm 0x41 [4, 1, 0, 0, 0, 0, 0, 35], t_head (t_adm 0x41 [4, 1, 0, 0, 0, 0, 0, 35]) 512, (laneReq ((t_head (t_adm 0x41 [4, 1, 0, 0, 0, 0, 0, 35]) 512).le 2 2 % 2 * 36 + (t_head (t_adm 0x41 [4, 1, 0, 0, 0, 0, 0, 35]) 512).b 7) 4 (t_adm 0x41 [4, 1, 0, 0, 0, 0, 0, 35]).nextId), t_accepts (by decide +kernel), .inr (.inr (.inr (.inl ⟨rfl, rfl⟩)))⟩

theorem test_WorkCommandsAsk_0_capture : ∃ (i : Instr) (p : Fin 521) (s : State) (c : Cmd) (m : MReq),
    s.accepts i c ∧
    (i = .maintReqScrub p ∧ m = plainReq .scrub 4 s.nextId ∨ i = .maintReqHeal p ∧ m = healReq (c.flatBank s) (c.le 4 2) s.nextId ∨ i = .maintReqRepairRow p ∧ m = repairReq (c.flatBank s) (c.le 4 2) 4 s.nextId ∨ i = .maintReqRepairLane p ∧ m = laneReq (c.le 2 2 % 2 * 36 + c.b 7) 4 s.nextId ∨ i = .maintReqCapture p ∧ m = plainReq .capture 4 s.nextId) :=
  ⟨(.maintReqCapture 512), 512, t_adm 0x41 [6], t_head (t_adm 0x41 [6]) 512, (plainReq .capture 4 (t_adm 0x41 [6]).nextId), t_accepts (by decide +kernel), .inr (.inr (.inr (.inr (⟨rfl, rfl⟩))))⟩

theorem test_WorkCommandsAsk_1_promote : ∃ (i : Instr) (p : Fin 521) (s : State) (c : Cmd) (map : List MapEntry) (ser : List Nat) (alt : List Nat) (clear : Bool) (k : Nat),
    s.accepts i c ∧
    k = c.b 2 ∧
    (i = .repairPromote p ∧ map = s.curMap.1.map (fun e => if e.kind = 1 ∧ bitAt (c.le 2 2) e.stack = true then { e with kind := 3 } else e) ∧ (ser, alt) = s.curMap.2 ∧ clear = false ∨ i = .repairCompact p ∧ map = s.compacted ∧ (ser, alt) = s.curMap.2 ∧ clear = true ∨ i = .repairClearStack p ∧ map = s.curMap.1.filter (fun e => e.stack != k) ∧ ser = withSerial s.curMap.2.1 k 0 ∧ alt = withSerial s.curMap.2.2 k 0 ∧ clear = false ∨ i = .repairReserial p ∧ map = s.curMap.1.map (fun e => if e.stack = k then { e with alt := false } else e) ∧ ser = withSerial s.curMap.2.1 k (s.sup k).disc.serial ∧ alt = withSerial s.curMap.2.2 k 0 ∧ clear = false) :=
  ⟨(.repairPromote 512), 512, t_adm 0x42 [1, 0, 1], t_head (t_adm 0x42 [1, 0, 1]) 512, ((t_adm 0x42 [1, 0, 1]).curMap.1.map (fun e => if e.kind = 1 ∧ bitAt ((t_head (t_adm 0x42 [1, 0, 1]) 512).le 2 2) e.stack = true then { e with kind := 3 } else e)), ((t_adm 0x42 [1, 0, 1]).curMap.2.1), ((t_adm 0x42 [1, 0, 1]).curMap.2.2), false, ((t_head (t_adm 0x42 [1, 0, 1]) 512).b 2), t_accepts (by decide +kernel), rfl, .inl ⟨rfl, rfl, rfl, rfl⟩⟩

theorem test_WorkCommandsAsk_1_compact : ∃ (i : Instr) (p : Fin 521) (s : State) (c : Cmd) (map : List MapEntry) (ser : List Nat) (alt : List Nat) (clear : Bool) (k : Nat),
    s.accepts i c ∧
    k = c.b 2 ∧
    (i = .repairPromote p ∧ map = s.curMap.1.map (fun e => if e.kind = 1 ∧ bitAt (c.le 2 2) e.stack = true then { e with kind := 3 } else e) ∧ (ser, alt) = s.curMap.2 ∧ clear = false ∨ i = .repairCompact p ∧ map = s.compacted ∧ (ser, alt) = s.curMap.2 ∧ clear = true ∨ i = .repairClearStack p ∧ map = s.curMap.1.filter (fun e => e.stack != k) ∧ ser = withSerial s.curMap.2.1 k 0 ∧ alt = withSerial s.curMap.2.2 k 0 ∧ clear = false ∨ i = .repairReserial p ∧ map = s.curMap.1.map (fun e => if e.stack = k then { e with alt := false } else e) ∧ ser = withSerial s.curMap.2.1 k (s.sup k).disc.serial ∧ alt = withSerial s.curMap.2.2 k 0 ∧ clear = false) :=
  ⟨(.repairCompact 512), 512, t_adm 0x42 [2], t_head (t_adm 0x42 [2]) 512, ((t_adm 0x42 [2]).compacted), ((t_adm 0x42 [2]).curMap.2.1), ((t_adm 0x42 [2]).curMap.2.2), true, ((t_head (t_adm 0x42 [2]) 512).b 2), t_accepts (by decide +kernel), rfl, .inr (.inl ⟨rfl, rfl, rfl, rfl⟩)⟩

theorem test_WorkCommandsAsk_1_clear : ∃ (i : Instr) (p : Fin 521) (s : State) (c : Cmd) (map : List MapEntry) (ser : List Nat) (alt : List Nat) (clear : Bool) (k : Nat),
    s.accepts i c ∧
    k = c.b 2 ∧
    (i = .repairPromote p ∧ map = s.curMap.1.map (fun e => if e.kind = 1 ∧ bitAt (c.le 2 2) e.stack = true then { e with kind := 3 } else e) ∧ (ser, alt) = s.curMap.2 ∧ clear = false ∨ i = .repairCompact p ∧ map = s.compacted ∧ (ser, alt) = s.curMap.2 ∧ clear = true ∨ i = .repairClearStack p ∧ map = s.curMap.1.filter (fun e => e.stack != k) ∧ ser = withSerial s.curMap.2.1 k 0 ∧ alt = withSerial s.curMap.2.2 k 0 ∧ clear = false ∨ i = .repairReserial p ∧ map = s.curMap.1.map (fun e => if e.stack = k then { e with alt := false } else e) ∧ ser = withSerial s.curMap.2.1 k (s.sup k).disc.serial ∧ alt = withSerial s.curMap.2.2 k 0 ∧ clear = false) :=
  ⟨(.repairClearStack 512), 512, t_adm 0x42 [3, 0, 1], t_head (t_adm 0x42 [3, 0, 1]) 512, ((t_adm 0x42 [3, 0, 1]).curMap.1.filter (fun e => e.stack != (t_head (t_adm 0x42 [3, 0, 1]) 512).b 2)), (withSerial (t_adm 0x42 [3, 0, 1]).curMap.2.1 ((t_head (t_adm 0x42 [3, 0, 1]) 512).b 2) 0), (withSerial (t_adm 0x42 [3, 0, 1]).curMap.2.2 ((t_head (t_adm 0x42 [3, 0, 1]) 512).b 2) 0), false, ((t_head (t_adm 0x42 [3, 0, 1]) 512).b 2), t_accepts (by decide +kernel), rfl, .inr (.inr (.inl ⟨rfl, rfl, rfl, rfl, rfl⟩))⟩

theorem test_WorkCommandsAsk_1_reserial : ∃ (i : Instr) (p : Fin 521) (s : State) (c : Cmd) (map : List MapEntry) (ser : List Nat) (alt : List Nat) (clear : Bool) (k : Nat),
    s.accepts i c ∧
    k = c.b 2 ∧
    (i = .repairPromote p ∧ map = s.curMap.1.map (fun e => if e.kind = 1 ∧ bitAt (c.le 2 2) e.stack = true then { e with kind := 3 } else e) ∧ (ser, alt) = s.curMap.2 ∧ clear = false ∨ i = .repairCompact p ∧ map = s.compacted ∧ (ser, alt) = s.curMap.2 ∧ clear = true ∨ i = .repairClearStack p ∧ map = s.curMap.1.filter (fun e => e.stack != k) ∧ ser = withSerial s.curMap.2.1 k 0 ∧ alt = withSerial s.curMap.2.2 k 0 ∧ clear = false ∨ i = .repairReserial p ∧ map = s.curMap.1.map (fun e => if e.stack = k then { e with alt := false } else e) ∧ ser = withSerial s.curMap.2.1 k (s.sup k).disc.serial ∧ alt = withSerial s.curMap.2.2 k 0 ∧ clear = false) :=
  ⟨(.repairReserial 512), 512, t_adm 0x42 [4, 0, 1], t_head (t_adm 0x42 [4, 0, 1]) 512, ((t_adm 0x42 [4, 0, 1]).curMap.1.map (fun e => if e.stack = (t_head (t_adm 0x42 [4, 0, 1]) 512).b 2 then { e with alt := false } else e)), (withSerial (t_adm 0x42 [4, 0, 1]).curMap.2.1 ((t_head (t_adm 0x42 [4, 0, 1]) 512).b 2) ((t_adm 0x42 [4, 0, 1]).sup ((t_head (t_adm 0x42 [4, 0, 1]) 512).b 2)).disc.serial), (withSerial (t_adm 0x42 [4, 0, 1]).curMap.2.2 ((t_head (t_adm 0x42 [4, 0, 1]) 512).b 2) 0), false, ((t_head (t_adm 0x42 [4, 0, 1]) 512).b 2), t_accepts (by decide +kernel), rfl, .inr (.inr (.inr (⟨rfl, rfl, rfl, rfl, rfl⟩)))⟩

theorem test_WorkCommandsAsk_2 : ∃ (p : Fin 521) (s : State) (c : Cmd),
    s.accepts (.calBaseline p) c :=
  ⟨512, t_adm 0x5C [], t_head (t_adm 0x5C []) 512, t_accepts (by decide +kernel)⟩

theorem test_WorkCommandsAsk_3 : ∃ (p : Fin 521) (s : State) (c : Cmd),
    s.accepts (.calRetrain p) c :=
  ⟨512, t_adm 0x5B [0, 0, 0, 0, 3], t_head (t_adm 0x5B [0, 0, 0, 0, 3]) 512, t_accepts (by decide +kernel)⟩

theorem test_WorkCommandsAsk_4 : ∃ (p : Fin 521) (signed : Bool) (s : State) (c : Cmd) (n : Nat),
    s.accepts (.fwStage p signed) c ∧
    n = 1 - s.boot.loaded.getD 0 :=
  ⟨512, true, t_adm 0x80 (leBytes 4 0 ++ leBytes 2 64 ++ [1]), t_head (t_adm 0x80 (leBytes 4 0 ++ leBytes 2 64 ++ [1])) 512, 1, t_accepts (by decide +kernel), rfl⟩

theorem test_StackCommandsAct_0 : ∃ (p : Fin 521) (s : State) (c : Cmd),
    s.accepts (.thermalRelease p) c :=
  ⟨512, t_sent t_held 512 (t_entry 0x53 0 0 0 [1]), t_head (t_sent t_held 512 (t_entry 0x53 0 0 0 [1])) 512, t_accepts (by decide +kernel)⟩

theorem test_StackCommandsAct_1 : ∃ (p : Fin 521) (s : State) (c : Cmd),
    s.accepts (.stackFence p) c :=
  ⟨512, t_adm 0x54 [1, 15, 1], t_head (t_adm 0x54 [1, 15, 1]) 512, t_accepts (by decide +kernel)⟩

theorem test_StackCommandsAct_2 : ∃ (p : Fin 521) (s : State) (c : Cmd),
    s.accepts (.stackFenceClear p) c :=
  ⟨512, t_sent t_fence 512 (t_entry 0x54 0 0 0 [2]), t_head (t_sent t_fence 512 (t_entry 0x54 0 0 0 [2])) 512, t_accepts (by decide +kernel)⟩

theorem test_InjectionCommandsAct_0_one : ∃ (i : Instr) (p : Fin 521) (s : State) (c : Cmd) (leaf : Nat) (la : Nat) (inject : Nat) (flip : Nat),
    s.accepts i c ∧
    leaf = c.le 2 2 ∧
    la = c.le 4 4 ∧
    (i = .faultInjectFlipOne p ∧ inject = la / 8 % 4 + 1 ∧ flip = 2 ^ c.b 8 ∨ i = .faultInjectFlipTwo p ∧ inject = la / 8 % 4 + 1 ∧ flip = 2 ^ c.b 8 + 2 ^ c.b 9 ∨ i = .faultInjectStain p ∧ inject = 0 ∧ flip = 0) :=
  ⟨(.faultInjectFlipOne 512), 512, t_adm 0x90 [1, 1, 0, 0, 8, 0, 0, 0, 71], t_head (t_adm 0x90 [1, 1, 0, 0, 8, 0, 0, 0, 71]) 512, 0, 8, 2, 2 ^ 71, t_accepts (by decide +kernel), by decide +kernel, by decide +kernel, .inl ⟨rfl, by decide +kernel, by decide +kernel⟩⟩

theorem test_InjectionCommandsAct_0_two : ∃ (i : Instr) (p : Fin 521) (s : State) (c : Cmd) (leaf : Nat) (la : Nat) (inject : Nat) (flip : Nat),
    s.accepts i c ∧
    leaf = c.le 2 2 ∧
    la = c.le 4 4 ∧
    (i = .faultInjectFlipOne p ∧ inject = la / 8 % 4 + 1 ∧ flip = 2 ^ c.b 8 ∨ i = .faultInjectFlipTwo p ∧ inject = la / 8 % 4 + 1 ∧ flip = 2 ^ c.b 8 + 2 ^ c.b 9 ∨ i = .faultInjectStain p ∧ inject = 0 ∧ flip = 0) :=
  ⟨(.faultInjectFlipTwo 512), 512, t_adm 0x90 [2, 1, 0, 0, 8, 0, 0, 0, 3, 4], t_head (t_adm 0x90 [2, 1, 0, 0, 8, 0, 0, 0, 3, 4]) 512, 0, 8, 2, 24, t_accepts (by decide +kernel), by decide +kernel, by decide +kernel, .inr (.inl ⟨rfl, by decide +kernel, by decide +kernel⟩)⟩

theorem test_InjectionCommandsAct_0_stain : ∃ (i : Instr) (p : Fin 521) (s : State) (c : Cmd) (leaf : Nat) (la : Nat) (inject : Nat) (flip : Nat),
    s.accepts i c ∧
    leaf = c.le 2 2 ∧
    la = c.le 4 4 ∧
    (i = .faultInjectFlipOne p ∧ inject = la / 8 % 4 + 1 ∧ flip = 2 ^ c.b 8 ∨ i = .faultInjectFlipTwo p ∧ inject = la / 8 % 4 + 1 ∧ flip = 2 ^ c.b 8 + 2 ^ c.b 9 ∨ i = .faultInjectStain p ∧ inject = 0 ∧ flip = 0) :=
  ⟨(.faultInjectStain 512), 512, t_adm 0x90 [3, 1, 0, 0, 8], t_head (t_adm 0x90 [3, 1, 0, 0, 8]) 512, 0, 8, 0, 0, t_accepts (by decide +kernel), by decide +kernel, by decide +kernel, .inr (.inr (⟨rfl, by decide +kernel, by decide +kernel⟩))⟩

theorem test_InjectionCommandsAct_1 : ∃ (p : Fin 521) (s : State) (c : Cmd) (v : Nat) (k : Nat),
    s.accepts (.faultInjectTempOffset p) c ∧
    v = c.le 12 2 ∧
    k = c.le 2 2 :=
  ⟨512, t_adm 0x90 ([4, 1] ++ List.replicate 8 0 ++ [3, 0, 0xF8, 0xFF]), t_head (t_adm 0x90 ([4, 1] ++ List.replicate 8 0 ++ [3, 0, 0xF8, 0xFF])) 512, 0xFFF8, 0, t_accepts (by decide +kernel), by decide +kernel, by decide +kernel⟩

theorem test_InjectionCommandsAct_2 : ∃ (p : Fin 521) (s : State) (c : Cmd) (k : Nat),
    s.accepts (.faultInjectWithholdAck p) c ∧
    k = c.le 2 2 :=
  ⟨512, t_adm 0x90 [5, 1, 15], t_head (t_adm 0x90 [5, 1, 15]) 512, 15, t_accepts (by decide +kernel), by decide +kernel⟩

theorem test_InjectionCommandsAct_3 : ∃ (p : Fin 521) (s : State) (c : Cmd) (k : Nat),
    s.accepts (.faultInjectHeaderParity p) c ∧
    k = c.le 2 2 :=
  ⟨512, t_adm 0x90 [6, 1, 5], t_head (t_adm 0x90 [6, 1, 5]) 512, 5, t_accepts (by decide +kernel), by decide +kernel⟩

theorem test_InjectionCommandsAct_4 : ∃ (p : Fin 521) (s : State) (c : Cmd) (h : Nat),
    s.accepts (.faultInjectHostLost p) c ∧
    h = c.le 2 2 ∧
    (s.host h).lost = false :=
  ⟨512, t_adm 0x90 [7, 1, 5], t_head (t_adm 0x90 [7, 1, 5]) 512, 5, t_accepts (by decide +kernel), by decide +kernel, by decide +kernel⟩


/-! ## Well-formedness: an ill-formed term for each check -/

def t_measured : PassRes := ⟨false, 40, 64, 20, 40, 30, 50, 44, 84⟩
def t_lane8 : LaneMeas := ⟨8, false, t_measured, t_measured, t_measured, t_measured, none⟩
def t_wv : WvrefMeas := ⟨9, 9, 9, 9⟩
def t_conv : Round := ⟨List.replicate 64 none, List.replicate 16 none, 0, 0⟩

theorem test_wellFormed : [Instr.wr 5 0 [t_beat], .readDataArrival 0 [], .retrainDone 0 ⟨0, [t_lane8], t_wv, t_wv⟩,
    .stackTraining 0 [⟨0, [t_lane8], t_wv, t_wv⟩] [1, 2], .quickCheck 0 false [255] [], .housekeepingRound t_conv,
    .stackPowerGood 0 ⟨7, 4, 1, 4, 20, 0⟩, .powerOnRelease t_dev, .sheetBoundary ⟨2 ^ 64 - 1, true, true⟩,
    .registerWrite 0 0x104 0].all Instr.wellFormed = true := by decide +kernel
theorem test_illFormed_beats : (Instr.wr 5 0 (List.replicate 179 t_beat)).wellFormed = false := by decide +kernel
theorem test_illFormed_fill : (Instr.wr 5 0 [{ t_beat with dvld := 5 }]).wellFormed = false := by decide +kernel
theorem test_illFormed_short : (Instr.wr 5 0 [{ t_beat with dvld := 1 }, t_beat]).wellFormed = false := by decide +kernel
theorem test_illFormed_flips : [Instr.readDataArrival 0 (List.replicate 33 0), .calenderVisit 0 (List.replicate 129 0)].any
    Instr.wellFormed = false := by decide +kernel
theorem test_illFormed_lane : [Instr.retrainDone 0 ⟨0, [{ t_lane8 with lane := 80 }], t_wv, t_wv⟩,
    .retrainDone 0 ⟨0, [{ t_lane8 with first := { t_measured with dly := 128 } }], t_wv, t_wv⟩,
    .retrainDone 0 ⟨0, [t_lane8, t_lane8], t_wv, t_wv⟩, .retrainDone 0 ⟨32, [], t_wv, t_wv⟩,
    .stackTraining 0 [] [1, 1], .quickCheck 0 false [256] []].any Instr.wellFormed = false := by decide +kernel
theorem test_illFormed_report : [Instr.housekeepingRound { t_conv with adc := [] }, .housekeepingRound { t_conv with readout := [] },
    .stackPowerGood 0 ⟨8, 0, 0, 0, 0, 0⟩, .stackPowerGood 0 ⟨1, 5, 0, 0, 0, 0⟩, .stackPowerGood 0 ⟨1, 0, 0, 5, 0, 0⟩,
    .powerOnRelease { t_dev with trimA := { RecSlot.erased with header := [] } }, .sheetBoundary ⟨2 ^ 64, true, true⟩, .registerWrite 0 0x105 0,
    .loWordRead 0 2].any Instr.wellFormed = false := by decide +kernel

/-! ## The spec's own worked examples -/

/-- The worked header of the port protocol: ACCO of tenant 37. -/
theorem test_worked_header : hdrOf 0x06000000E2879FC06000040008654A25 = ⟨37, 0x2A5, 3, 4, 0x0180001000, 127, 0x3C, 5, 7, 0⟩ ∧
    hparOk 0x06000000E2879FC06000040008654A25 = true := by decide +kernel
/-- The read of the shared base at quire (64, 6): leaf 120, LA, column, row and issued bank. -/
theorem test_worked_address : leafOf 0x9ABCD340 64 6 64 = 120 ∧ leafLocal 0x9ABCD340 6 = 0x026AF340 ∧
    locOf (geomOf 1) 0x026AF340 = ⟨22, 0, 618, 26⟩ ∧ (locOf (geomOf 1) 0x026AF340).group = 2 := by decide +kernel
/-- The E2M1 block of 13.75, 2.625, -0.3125 and 5.0: scale 0x80 and codes 7, 3, 8 and 4. -/
theorem test_worked_block : let vs : List Dyad := [.fin false 55 (-2), .fin false 21 (-3), .fin true 5 (-4), .fin false 5 0]
    let r := mxEncode 7 ((vs ++ List.replicate 28 Dyad.zero).map (fun v => (v, false))) .rne (fun _ => Key.none)
    r.1 = 0x80 ∧ (r.2.take 5).map (fun e => e.bits) = [7, 3, 8, 4, 0] := by decide +kernel
/-- A sparse E2M1 page stores 11,392 parameters and delivers 22,784 B of BF16. -/
theorem test_worked_page : { Region.none with valid := true, sfmt := 7, dfmt := 2, sparse := true : Region }.delivered 4096 = 22784 := by
  decide +kernel
/-- The package cap of 800 W and its window of 1 ms are staged by one THERMAL_SET. -/
theorem test_worked_settings :
    ((t_after (.thermalSet 512) (t_adm 0x52 ([2, 0, 0, 0, 0, 0, 0, 0] ++ [0x0A, 0x52, 0, 0, 0x20, 3, 0, 0] ++
      [0x0C, 0x52, 0, 0, 10, 0, 0, 0]))).openSet 512).map (fun x => x.items.map (fun i => i.what)) =
    some [.setting 0x520A 0 800, .setting 0x520C 0 10] := by decide +kernel
/-- The HBM3E-class 12-high quire (512, 7): leaf 733, LA, and stack ID 1, bank 15, row 17,075, column 14. -/
theorem test_worked_hbm3e : leafOf 0x1456789AC0 512 7 32 = 733 ∧ leafLocal 0x1456789AC0 7 = 0x28ACF1C0 ∧
    locOf (geomOf 6) 0x28ACF1C0 = ⟨15, 1, 17075, 14⟩ := by decide +kernel
/-- The transition sheet from 300 us after 7,000,000 us ends at 7,000,500 us. -/
theorem test_worked_grid : gridAt (7000000000 + 300000) 300000 0 = 7000500000 := by decide +kernel
/-- Lane DQ13 of the retrain: RXDLY 41, RXVREF 52, and its quality word 0x08C130A7. -/
theorem test_worked_lane : (agree 20 8 false false ⟨false, 41, 52, 39, 25, 22, 60, 40, 64⟩ ⟨false, 42, 52, 39, 24, 23, 61, 41, 64⟩).map
    (fun l => (l.dly, l.vref, l.word false 20 false)) = some (41, 52, 0x08C130A7) := by decide +kernel
/-- Row 130 of a skewed BF16 region: position 0 carries element 2, position 126 element 0. -/
theorem test_worked_skew : skewed ⟨true, 7, 7, 1, false⟩ 8 2048 256 = 258 ∧ skewed ⟨true, 7, 7, 1, false⟩ 8 2048 382 = 256 := by
  decide +kernel
/-- Data bit 17 has the column 0x32. -/
theorem test_worked_column : hashWord 0x20000 = 0x32 := by decide +kernel
/-- The ordered tile folds to 0.0; the arrival order of ACCU gives 2.0. -/
theorem test_worked_fold : ([1, 1].foldl (fun a _ => fl32Add a (.fin false 1 0)) (fl32Add (.fin true (2 ^ 24) 0) (.fin false (2 ^ 24) 0))) =
    .fin false 8388608 (-22) ∧ fl32Add (fl32Add (.fin false (2 ^ 24) 0) (.fin false 1 0)) (.fin true (2 ^ 24) 0) = .fin false 0 0 := by
  decide +kernel

end
end

/-! # What every command and every tick keep -/

namespace Sys2Proof
open Machine

/-- The commands that may end in a core reset or PORST_N (R47, R487): those that may lower DW_READY. A register write counts
where it names HOSTRST. -/
def Instr.resetsCore : Instr → Bool
  | .powerOnReset | .chipWarmReset | .criticalStateError _ | .hostrstCore _ _ => true
  | .registerWrite _ off _ => off.toNat == 0x104
  | _ => false

/-- The commands that may change the records of the active bank: those that reset the core, and a sheet boundary (R222). -/
def Instr.changesBank : Instr → Bool
  | .sheetBoundary _ => true
  | i => i.resetsCore

end Sys2Proof

namespace Sys2Proof.Machine

/-- A register write keeps what its row says; only one at HOSTRST may reset the core. -/
theorem registerWrite_kept (s : State) (src : Fin 16) (off : BitVec 25) (v : BitVec 32) :
    KeptO (off.toNat == 0x104) (off.toNat == 0x104) (maskOf (Instr.registerWrite src off v).touches) s
      (execRegisterWrite src off v s) := by
  dsimp only [Instr.touches]
  by_cases e : off.toNat = 0x104
  · rw [e]; exact execRegisterWrite_kept (by decide) (.refl s) src off v
  · rw [beq_false_of_ne e]
    unfold execRegisterWrite
    refine KeptO.ite (.next (.refl s)) (KeptO.ite (.next (State.accErr_kept (by decide) (.refl s) ..)) (KeptO.ite ?_ ?_))
    · exact State.swrst_kept (by decide) (.refl s) ..
    · rw [if_neg e]
      exact State.regWrite_kept (by decide) (.refl s) fun _ h => State.writeReg_kept (by decide) h ..

/-- Every command but PORST_N keeps the rules, and every part of the state outside its list. -/
theorem exec_kept (i : Instr) (hi : i ≠ .powerOnReset) (s : State) :
    KeptO i.resetsCore i.changesBank (maskOf i.touches) s (exec i s) := by
  cases i <;> dsimp only [Instr.touches]
  case rd p h => exact execRd_kept (by decide) (.refl s) p h
  case wr p h d => exact execWr_kept (by decide) (.refl s) p h d
  case wrm p h d => exact execWrm_kept (by decide) (.refl s) p h d
  case accu p h d => exact execAccu_kept (by decide) (.refl s) p h d
  case acco p h d => exact execAcco_kept (by decide) (.refl s) p h d
  case gath p h => exact execGath_kept (by decide) (.refl s) p h
  case mark p h d => exact execMark_kept (by decide) (.refl s) p h d
  case fence p h => exact execFence_kept (by decide) (.refl s) p h
  case feltSpill f h d => exact execFeltSpill_kept (by decide) (.refl s) f h d
  case feltFillAck f tag ok => exact execFeltFillAck_kept (by decide) (.refl s) f tag ok
  case feltFillAckTimeout f tag => exact execFeltFillAckTimeout_kept (by decide) (.refl s) f tag
  case responseCreditReturn p hdrs beats => exact execResponseCreditReturn_kept (by decide) (.refl s) p hdrs beats
  case responseBeatSend p => exact execResponseBeatSend_kept (by decide) (.refl s) p
  case urgLevelChange p lvl => exact execUrgLevelChange_kept (by decide) (.refl s) p lvl
  case fdGo f slot => exact execFdGo_kept (by decide) (.refl s) f slot
  case feederPageReadIssue f => exact execFeederPageReadIssue_kept (by decide) (.refl s) f
  case feederBeat f rdy => exact execFeederBeat_kept (by decide) (.refl s) f rdy
  case feederStallTimeout f => exact execFeederStallTimeout_kept (by decide) (.refl s) f
  case portWatchdogExpiry p => exact execPortWatchdogExpiry_kept (by decide) (.refl s) p
  case portEdgeResetRelease p => exact execPortEdgeResetRelease_kept (by decide) (.refl s) p
  case partGrant k => exact execPartGrant_kept (by decide) (.refl s) k
  case grantComplete k => exact execGrantComplete_kept (by decide) (.refl s) k
  case lakeHoldTimeout k => exact execLakeHoldTimeout_kept (by decide) (.refl s) k
  case urgencyCrossing k => exact execUrgencyCrossing_kept (by decide) (.refl s) k
  case deadlineSweep k => exact execDeadlineSweep_kept (by decide) (.refl s) k
  case columnRun l => exact execColumnRun_kept (by decide) (.refl s) l
  case rowCommand c => exact execRowCommand_kept (by decide) (.refl s) c
  case idleClose l => exact execIdleClose_kept (by decide) (.refl s) l
  case directionTurn l => exact execDirectionTurn_kept (by decide) (.refl s) l
  case budgetWindow k => exact execBudgetWindow_kept (by decide) (.refl s) k
  case readDataArrival l flips => exact execReadDataArrival_kept (by decide) (.refl s) l flips
  case refreshTick l => exact execRefreshTick_kept (by decide) (.refl s) l
  case refpbIssue c => exact execRefpbIssue_kept (by decide) (.refl s) c
  case rowCounterAgeing k => exact execRowCounterAgeing_kept (by decide) (.refl s) k
  case mitigation l => exact execMitigation_kept (by decide) (.refl s) l
  case spillSweep l => exact execSpillSweep_kept (by decide) (.refl s) l
  case spillSweepForce l => exact execSpillSweepForce_kept (by decide) (.refl s) l
  case maintenanceStart l act => exact execMaintenanceStart_kept (by decide) (.refl s) l act
  case maintenanceEnd l act => exact execMaintenanceEnd_kept (by decide) (.refl s) l act
  case retrainStep c => exact execRetrainStep_kept (by decide) (.refl s) c
  case retrainStepAbandon c => exact execRetrainStepAbandon_kept (by decide) (.refl s) c
  case retrainDone c m => exact execRetrainDone_kept (by decide) (.refl s) c m
  case calibrationApply c => exact execCalibrationApply_kept (by decide) (.refl s) c
  case marginEvaluation c lane mismatch => exact execMarginEvaluation_kept (by decide) (.refl s) c lane mismatch
  case loadWindow k => exact execLoadWindow_kept (by decide) (.refl s) k
  case calenderVisit l flips => exact execCalenderVisit_kept (by decide) (.refl s) l flips
  case calenderEscalate l => exact execCalenderEscalate_kept (by decide) (.refl s) l
  case heal l flips => exact execHeal_kept (by decide) (.refl s) l flips
  case rowRepair l flips spare => exact execRowRepair_kept (by decide) (.refl s) l flips spare
  case laneRepair c spare => exact execLaneRepair_kept (by decide) (.refl s) c spare
  case repairMapStore => exact execRepairMapStore_kept (by decide) (.refl s)
  case nvRecordStore first second => exact execNvRecordStore_kept (by decide) (.refl s) first second
  case mergeEntryTimeout l => exact execMergeEntryTimeout_kept (by decide) (.refl s) l
  case accuUpdate k => exact execAccuUpdate_kept (by decide) (.refl s) k
  case accoTileRetire k => exact execAccoTileRetire_kept (by decide) (.refl s) k
  case accoTileTimeout k => exact execAccoTileTimeout_kept (by decide) (.refl s) k
  case watermarkClose a => exact execWatermarkClose_kept (by decide) (.refl s) a
  case markerRefill half t => exact execMarkerRefill_kept (by decide) (.refl s) half t
  case debtCharge => exact execDebtCharge_kept (by decide) (.refl s)
  case gateRelease q => exact execGateRelease_kept (by decide) (.refl s) q
  case drrRelease stage => exact execDrrRelease_kept (by decide) (.refl s) stage
  case powerLadderStep => exact execPowerLadderStep_kept (by decide) (.refl s)
  case housekeepingRound r => exact execHousekeepingRound_kept (by decide) (.refl s) r
  case thermalRestart k => exact execThermalRestart_kept (by decide) (.refl s) k
  case droop k => exact execDroop_kept (by decide) (.refl s) k
  case droopLong k => exact execDroopLong_kept (by decide) (.refl s) k
  case quirePark q => exact execQuirePark_kept (by decide) (.refl s) q
  case selfRefreshEntry c => exact execSelfRefreshEntry_kept (by decide) (.refl s) c
  case domainGateOff k => exact execDomainGateOff_kept (by decide) (.refl s) k
  case domainPowerGood k => exact execDomainPowerGood_kept (by decide) (.refl s) k
  case pllLocked k => exact execPllLocked_kept (by decide) (.refl s) k
  case pllLockLoss k relockFailed => exact execPllLockLoss_kept (by decide) (.refl s) k relockFailed
  case refClkLoss => exact execRefClkLoss_kept (by decide) (.refl s)
  case refClkRestored => exact execRefClkRestored_kept (by decide) (.refl s)
  case ntLockLoss => exact execNtLockLoss_kept (by decide) (.refl s)
  case frequencySwitchEnd k => exact execFrequencySwitchEnd_kept (by decide) (.refl s) k
  case regulatorAck k => exact execRegulatorAck_kept (by decide) (.refl s) k
  case regulatorAckTimeout k => exact execRegulatorAckTimeout_kept (by decide) (.refl s) k
  case rollbackAckTimeout k => exact execRollbackAckTimeout_kept (by decide) (.refl s) k
  case sheetBoundary nt => exact execSheetBoundary_kept (by decide) (.refl s) nt
  case quireDrainEnd q => exact execQuireDrainEnd_kept (by decide) (.refl s) q
  case zeroFillEnd q => exact execZeroFillEnd_kept (by decide) (.refl s) q
  case mbCmdTailWrite page src v => exact execMbCmdTailWrite_kept (by decide) (.refl s) page src v
  case mbCplHeadWrite page src v => exact execMbCplHeadWrite_kept (by decide) (.refl s) page src v
  case mbLeaseWrite h src => exact execMbLeaseWrite_kept (by decide) (.refl s) h src
  case heartbeatTimeout h => exact execHeartbeatTimeout_kept (by decide) (.refl s) h
  case hostLinkDown h => exact execHostLinkDown_kept (by decide) (.refl s) h
  case hostLinkUp h => exact execHostLinkUp_kept (by decide) (.refl s) h
  case leaseExpiry h => exact execLeaseExpiry_kept (by decide) (.refl s) h
  case handoverTimeout => exact execHandoverTimeout_kept (by decide) (.refl s)
  case mordantWatchdogExpiry => exact execMordantWatchdogExpiry_kept (by decide) (.refl s)
  case trialEnd => exact execTrialEnd_kept (by decide) (.refl s)
  case criticalStateError aonSequencer => exact execCriticalStateError_kept (by decide) (.refl s) aonSequencer
  case powerOnReset => exact absurd rfl hi
  case powerOnRelease dev => exact execPowerOnRelease_kept (by decide) (.refl s) dev
  case chipWarmReset => exact execChipWarmReset_kept (by decide) (.refl s)
  case coreResetRelease => exact execCoreResetRelease_kept (by decide) (.refl s)
  case stackPowerEnable k => exact execStackPowerEnable_kept (by decide) (.refl s) k
  case stackPowerGood k disc => exact execStackPowerGood_kept (by decide) (.refl s) k disc
  case stackPgTimeout k => exact execStackPgTimeout_kept (by decide) (.refl s) k
  case stackPgFall k => exact execStackPgFall_kept (by decide) (.refl s) k
  case stackOvercurrent pair => exact execStackOvercurrent_kept (by decide) (.refl s) pair
  case pairFaultRecovery pair => exact execPairFaultRecovery_kept (by decide) (.refl s) pair
  case stackTraining k m hardFails => exact execStackTraining_kept (by decide) (.refl s) k m hardFails
  case importWaitEnd => exact execImportWaitEnd_kept (by decide) (.refl s)
  case quickCheck k laneFailed badSpares hardFails => exact execQuickCheck_kept (by decide) (.refl s) k laneFailed badSpares hardFails
  case initialFill l => exact execInitialFill_kept (by decide) (.refl s) l
  case dwReadyRise => exact execDwReadyRise_kept (by decide) (.refl s)
  case blockResetDrainEnd b => exact execBlockResetDrainEnd_kept (by decide) (.refl s) b
  case blockReturnToService b => exact execBlockReturnToService_kept (by decide) (.refl s) b
  case debugStop => exact execDebugStop_kept (by decide) (.refl s)
  case debugStopEnd => exact execDebugStopEnd_kept (by decide) (.refl s)
  case recordMove => exact execRecordMove_kept (by decide) (.refl s)
  case gapRecordWrite ring => exact execGapRecordWrite_kept (by decide) (.refl s) ring
  case portWindowStart => exact execPortWindowStart_kept (by decide) (.refl s)
  case sampleTaken u => exact execSampleTaken_kept (by decide) (.refl s) u
  case sampleTimeout u => exact execSampleTimeout_kept (by decide) (.refl s) u
  case apertureReady => exact execApertureReady_kept (by decide) (.refl s)
  case scanDone => exact execScanDone_kept (by decide) (.refl s)
  case open_ page => exact execOpen_kept (by decide) (.refl s) page
  case close page => exact execClose_kept (by decide) (.refl s) page
  case commit page => exact execCommit_kept (by decide) (.refl s) page
  case discard page => exact execDiscard_kept (by decide) (.refl s) page
  case stateRead page => exact execStateRead_kept (by decide) (.refl s) page
  case qalloc page => exact execQalloc_kept (by decide) (.refl s) page
  case qjoin page => exact execQjoin_kept (by decide) (.refl s) page
  case wunmap page => exact execWunmap_kept (by decide) (.refl s) page
  case qrelease page => exact execQrelease_kept (by decide) (.refl s) page
  case regionSet page => exact execRegionSet_kept (by decide) (.refl s) page
  case tintSet page => exact execTintSet_kept (by decide) (.refl s) page
  case portSet page => exact execPortSet_kept (by decide) (.refl s) page
  case affinityReset page => exact execAffinityReset_kept (by decide) (.refl s) page
  case policerSet page => exact execPolicerSet_kept (by decide) (.refl s) page
  case gateSet page => exact execGateSet_kept (by decide) (.refl s) page
  case profileLoad page => exact execProfileLoad_kept (by decide) (.refl s) page
  case schedSet page => exact execSchedSet_kept (by decide) (.refl s) page
  case sheetSet page => exact execSheetSet_kept (by decide) (.refl s) page
  case skewSet page => exact execSkewSet_kept (by decide) (.refl s) page
  case lakeSet page => exact execLakeSet_kept (by decide) (.refl s) page
  case feederPortSet page => exact execFeederPortSet_kept (by decide) (.refl s) page
  case feederSlotSet page => exact execFeederSlotSet_kept (by decide) (.refl s) page
  case doorbellSet page => exact execDoorbellSet_kept (by decide) (.refl s) page
  case wmArm page => exact execWmArm_kept (by decide) (.refl s) page
  case dumpFree page => exact execDumpFree_kept (by decide) (.refl s) page
  case maintSet page => exact execMaintSet_kept (by decide) (.refl s) page
  case maintReqScrub page => exact execMaintReqScrub_kept (by decide) (.refl s) page
  case maintReqHeal page => exact execMaintReqHeal_kept (by decide) (.refl s) page
  case maintReqRepairRow page => exact execMaintReqRepairRow_kept (by decide) (.refl s) page
  case maintReqRepairLane page => exact execMaintReqRepairLane_kept (by decide) (.refl s) page
  case maintReqCapture page => exact execMaintReqCapture_kept (by decide) (.refl s) page
  case repairPromote page => exact execRepairPromote_kept (by decide) (.refl s) page
  case repairCompact page => exact execRepairCompact_kept (by decide) (.refl s) page
  case repairClearStack page => exact execRepairClearStack_kept (by decide) (.refl s) page
  case repairReserial page => exact execRepairReserial_kept (by decide) (.refl s) page
  case repairRead page => exact execRepairRead_kept (by decide) (.refl s) page
  case powerSet page => exact execPowerSet_kept (by decide) (.refl s) page
  case oppointSet page => exact execOppointSet_kept (by decide) (.refl s) page
  case thermalSet page => exact execThermalSet_kept (by decide) (.refl s) page
  case thermalRelease page => exact execThermalRelease_kept (by decide) (.refl s) page
  case stackFence page => exact execStackFence_kept (by decide) (.refl s) page
  case stackFenceClear page => exact execStackFenceClear_kept (by decide) (.refl s) page
  case calibSet page => exact execCalibSet_kept (by decide) (.refl s) page
  case calExport page => exact execCalExport_kept (by decide) (.refl s) page
  case calImport page => exact execCalImport_kept (by decide) (.refl s) page
  case calRetrain page => exact execCalRetrain_kept (by decide) (.refl s) page
  case calBaseline page => exact execCalBaseline_kept (by decide) (.refl s) page
  case hostSet page => exact execHostSet_kept (by decide) (.refl s) page
  case tenantAssign page => exact execTenantAssign_kept (by decide) (.refl s) page
  case ownerHandover page => exact execOwnerHandover_kept (by decide) (.refl s) page
  case ownerAccept page => exact execOwnerAccept_kept (by decide) (.refl s) page
  case adopt page => exact execAdopt_kept (by decide) (.refl s) page
  case cntAllowUmap page => exact execCntAllowUmap_kept (by decide) (.refl s) page
  case cntRevokeUmap page => exact execCntRevokeUmap_kept (by decide) (.refl s) page
  case cntArmSampling page => exact execCntArmSampling_kept (by decide) (.refl s) page
  case cntDisarmSampling page => exact execCntDisarmSampling_kept (by decide) (.refl s) page
  case energyRead page => exact execEnergyRead_kept (by decide) (.refl s) page
  case subscribeAdd page => exact execSubscribeAdd_kept (by decide) (.refl s) page
  case subscribeRemove page => exact execSubscribeRemove_kept (by decide) (.refl s) page
  case fwStage page signed => exact execFwStage_kept (by decide) (.refl s) page signed
  case fwActivate page => exact execFwActivate_kept (by decide) (.refl s) page
  case faultInjectFlipOne page => exact execFaultInjectFlipOne_kept (by decide) (.refl s) page
  case faultInjectFlipTwo page => exact execFaultInjectFlipTwo_kept (by decide) (.refl s) page
  case faultInjectStain page => exact execFaultInjectStain_kept (by decide) (.refl s) page
  case faultInjectTempOffset page => exact execFaultInjectTempOffset_kept (by decide) (.refl s) page
  case faultInjectWithholdAck page => exact execFaultInjectWithholdAck_kept (by decide) (.refl s) page
  case faultInjectHeaderParity page => exact execFaultInjectHeaderParity_kept (by decide) (.refl s) page
  case faultInjectHostLost page => exact execFaultInjectHostLost_kept (by decide) (.refl s) page
  case dbgIssueCode page => exact execDbgIssueCode_kept (by decide) (.refl s) page
  case dbgGrantRights page => exact execDbgGrantRights_kept (by decide) (.refl s) page
  case dbgRevokeRights page => exact execDbgRevokeRights_kept (by decide) (.refl s) page
  case dbgUnlock page => exact execDbgUnlock_kept (by decide) (.refl s) page
  case dbgResume page => exact execDbgResume_kept (by decide) (.refl s) page
  case swrstStack src v => exact execSwrstStack_kept (by decide) (.refl s) src v
  case swrstLake src v => exact execSwrstLake_kept (by decide) (.refl s) src v
  case swrstXbar src v => exact execSwrstXbar_kept (by decide) (.refl s) src v
  case swrstMordant src v => exact execSwrstMordant_kept (by decide) (.refl s) src v
  case swrstTrace src v => exact execSwrstTrace_kept (by decide) (.refl s) src v
  case hostrstCore src v => exact execHostrstCore_kept (by decide) (.refl s) src v
  case tbSnap src v => exact execTbSnap_kept (by decide) (.refl s) src v
  case ringRdWrite ring src v => exact execRingRdWrite_kept (by decide) (.refl s) ring src v
  case ringApSelWrite src v => exact execRingApSelWrite_kept (by decide) (.refl s) src v
  case scanCtlStart src v => exact execScanCtlStart_kept (by decide) (.refl s) src v
  case registerWrite src off v => exact registerWrite_kept s src off v
  case caParityError c => exact execCaParityError_kept (by decide) (.refl s) c
  case droopEnd k cycles => exact execDroopEnd_kept (by decide) (.refl s) k cycles
  case timebaseErrorLimit nt => exact execTimebaseErrorLimit_kept (by decide) (.refl s) nt
  case loWordRead src off => exact execLoWordRead_kept (by decide) (.refl s) src off

end Sys2Proof.Machine

/-! # Steps -/

namespace Sys2Proof.Machine

/-- A step runs the command at the front of the queue, or is a tick where the queue is empty. -/
theorem step_cases {s t : State} (h : step s = .next t) :
    (s.pending = [] ∧ t = tick s) ∨ ∃ c rest, s.pending = c :: rest ∧ exec c { s with pending := rest } = .next t := by
  unfold step at h
  split at h
  case h_1 e => exact .inl ⟨e, (Host.Outcome.next.inj h).symm⟩
  case h_2 c rest e => exact .inr ⟨c, rest, e, h⟩

/-- What a command that is not PORST_N keeps of the state it runs on, from its next state. -/
theorem exec_next_kept {i : Instr} (hi : i ≠ .powerOnReset) {s t : State} (h : exec i s = .next t) :
    Kept i.resetsCore i.changesBank (maskOf i.touches) s t := by
  have k := exec_kept i hi s
  rw [h] at k
  exact k

/-- A tick leaves the pins as they are. -/
theorem tick_pins (s : State) : (tick s).pins = s.pins :=
  (tick_kept (w := 0x277c6523d) (by decide) (.refl s)).frame .pins (by decide)

/-- PORST_N puts the pins at their reset values. -/
theorem powerOnReset_pins {s t : State} (h : exec .powerOnReset s = .next t) :
    t.pins = Pins.reset := by
  have e : execPowerOnReset s = .next t := h
  unfold execPowerOnReset at e
  cases e
  rfl

/-- R41 holds across every step: each command and each tick keeps the rule. -/
theorem step_keeps_thrRule {s t : State} (h : step s = .next t) (hs : s.thrRule) : t.thrRule := by
  obtain ⟨-, rfl⟩ | ⟨c, rest, -, h⟩ := step_cases h
  · unfold State.thrRule; rw [tick_pins]; exact hs
  · by_cases hc : c = .powerOnReset
    · subst hc
      unfold State.thrRule; rw [powerOnReset_pins h]; intro _; rfl
    · exact (exec_next_kept hc h).thr hs

/-- The level differs from one step to the next only where it is not 0 before or after, so where the request is high. -/
theorem thrLevel_change {s t : State} (hs : s.thrRule) (ht : t.thrRule) (h : t.pins.thrLevel ≠ s.pins.thrLevel) :
    s.pins.thrReq = true ∨ t.pins.thrReq = true := by
  by_contra hn
  simp only [not_or, Bool.not_eq_true] at hn
  exact h ((ht hn.2).trans (hs hn.1).symm)

/-- A command that lowers DW_READY is one of those that may reset the core. -/
theorem resetsCore_of_ready_falls {i : Instr} {s t : State} (h : exec i s = .next t) (hs : s.pins.ready = true)
    (ht : t.pins.ready = false) : i.resetsCore = true := by
  by_cases hi : i = .powerOnReset
  · rw [hi]; rfl
  · by_contra hr
    have := (exec_next_kept hi h).ready (Bool.not_eq_true _ ▸ hr) hs
    rw [ht] at this
    cases this

/-! # The whole machine -/

/-- Settles O5: every step keeps the rule of R41, and two levels that meet it differ only with the request high. -/
theorem throttleLevelFollowsRequest : Obligations.ThrottleLevelFollowsRequest := by
  unfold Obligations.ThrottleLevelFollowsRequest
  intro s t h hs
  have ht := step_keeps_thrRule h hs
  exact ⟨ht, thrLevel_change hs ht⟩

/-- Settles O7: a tick keeps the pins, and of the commands only those that may reset the core lower DW_READY. -/
theorem readyFallsOnlyWithCoreReset : Obligations.ReadyFallsOnlyWithCoreReset := by
  unfold Obligations.ReadyFallsOnlyWithCoreReset
  intro s t h hs ht
  obtain ⟨-, rfl⟩ | ⟨c, rest, hq, h⟩ := step_cases h
  · rw [tick_pins, hs] at ht; cases ht
  · refine ⟨c, rest, hq, ?_⟩
    have hr := resetsCore_of_ready_falls h hs ht
    unfold Instr.resetsCore at hr
    split at hr <;> simp_all

/-- Settles O6: at reset every memory is empty and both throttle pins are low. -/
theorem resetMeetsTheRules : Obligations.ResetMeetsTheRules := by
  unfold Obligations.ResetMeetsTheRules
  exact ⟨by decide, fun _ => rfl⟩

end Sys2Proof.Machine

/-! # Parts that the shared operations leave as they were -/

namespace Sys2Proof.Machine

/-- A part outside the mask is as it was. -/
theorem Kept.same {w : Nat} {s t : State} (h : Kept false false w s t) (f : Field) (hf : w.testBit f.bit = false := by decide) :
    f.same s t :=
  h.frame f hf

section
variable (s : State)

@[simp] theorem State.note_ports (cause cls num : Nat) (args : List (Nat × Nat)) : (s.note cause cls num args).ports = s.ports :=
  (State.note_kept (Nat.or_self _) (.refl s) cause cls num args).same .ports
@[simp] theorem State.note_lake (cause cls num : Nat) (args : List (Nat × Nat)) : (s.note cause cls num args).lake = s.lake :=
  (State.note_kept (Nat.or_self _) (.refl s) cause cls num args).same .lake
@[simp] theorem State.note_feeders (cause cls num : Nat) (args : List (Nat × Nat)) :
    (s.note cause cls num args).feeders = s.feeders :=
  (State.note_kept (Nat.or_self _) (.refl s) cause cls num args).same .feeders
@[simp] theorem State.note_bank (cause cls num : Nat) (args : List (Nat × Nat)) : (s.note cause cls num args).bank = s.bank :=
  (State.note_kept (Nat.or_self _) (.refl s) cause cls num args).same .bank
@[simp] theorem State.freeUnpaced_feeders (f n : Nat) : (s.freeUnpaced f n).feeders = s.feeders :=
  (State.freeUnpaced_kept (Nat.or_self _) (.refl s) f n).same .feeders
@[simp] theorem State.endStream_bank (f : Nat) : (s.endStream f).bank = s.bank :=
  (State.endStream_kept (Nat.or_self _) (.refl s) f).same .bank
@[simp] theorem State.dropFeed_feeders (f : Nat) : (s.dropFeed f).feeders = s.feeders :=
  (State.dropFeed_kept (Nat.or_self _) (.refl s) f).same .feeders
@[simp] theorem State.cntT_reqs (t i n : Nat) : (s.cntT t i n).reqs = s.reqs := rfl
@[simp] theorem State.drrFree_ports (k n : Nat) : (s.drrFree k n).ports = s.ports := rfl
@[simp] theorem State.drrFree_lake (k n : Nat) : (s.drrFree k n).lake = s.lake := rfl
@[simp] theorem State.cntG_feeders (i n : Nat) : (s.cntG i n).feeders = s.feeders := rfl
@[simp] theorem State.cntG_ports (i n : Nat) : (s.cntG i n).ports = s.ports := rfl

end

/-- The port tables being equal, so are the ports. -/
theorem State.port_congr {s t : State} (h : t.ports = s.ports) (p : Nat) : t.port p = s.port p :=
  congrArg (fun x => Tab.get Port.reset x p) h

/-- The feeder tables being equal, so are the feeders. -/
theorem State.feeder_congr {s t : State} (h : t.feeders = s.feeders) (f : Nat) : t.feeder f = s.feeder f :=
  congrArg (fun x => Tab.get Feeder.reset x f) h

@[simp] theorem State.freeUnpaced_feeder (s : State) (f n g : Nat) : (s.freeUnpaced f n).feeder g = s.feeder g :=
  State.feeder_congr (s.freeUnpaced_feeders f n) g

@[simp] theorem State.cntG_feeder (s : State) (i n g : Nat) : (s.cntG i n).feeder g = s.feeder g := rfl

end Sys2Proof.Machine

/-! # Feeder streams -/

namespace Sys2Proof.Machine

/-! ## FD_GO (R33, R274) -/

/-- Not ready, an FD_GO changes nothing (Table 1.8). -/
theorem fdGo_unready {s : State} (f slot : Fin 8) (h : s.pins.ready = false) : exec (.fdGo f slot) s = .next s := by
  show execFdGo f slot s = _
  simp [execFdGo, h]

/-- An FD_GO for a running port or an empty slot only counts, up to the counter's end. -/
theorem fdGo_rejected {s : State} (f slot : Fin 8) (h : s.pins.ready = true)
    (hr : (s.feeder f.val).stream.isSome = true ∨ (s.bank.feedSlot (f.val * 8 + slot.val)).valid = false) :
    exec (.fdGo f slot) s = .next (s.setFeeder f.val { s.feeder f.val with
      reject := min 0xFFFFFFFF ((s.feeder f.val).reject + 1) }) := by
  show execFdGo f slot s = _
  have e : ((s.feeder f.val).stream.isSome || !(s.bank.feedSlot (f.val * 8 + slot.val)).valid) = true := by
    rcases hr with hr | hr <;> simp [hr]
  simp [execFdGo, h, e]

/-- The stream that FD_GO starts: with the slot record, the region and the step number in force. -/
def State.newStream (s : State) (f slot : Nat) : Stream :=
  let r := s.bank.feedSlot (f * 8 + slot)
  let i := regionOf s.bank r.ten r.saddr
  let g := regionAt s.bank r.ten i
  { slot := slot, rec_ := r, snap := s.snapOf r.ten, region := g, regIdx := i, skew := s.skewOf g,
    step := if portHalf (128 + f) = 0 then (s.tenSt r.ten).step0 else (s.tenSt r.ten).step1, tGo := s.now, page := 0,
    issued := 0, buffer := [], beats := 0, marks := [r.grate * (s.now + 1000 : Nat)], least := none }

/-- An FD_GO for a valid slot of an enabled port that runs no stream starts one. -/
theorem fdGo_starts {s : State} (f slot : Fin 8) (h : s.pins.ready = true) (hn : (s.feeder f.val).stream = none)
    (hv : (s.bank.feedSlot (f.val * 8 + slot.val)).valid = true) (he : (s.bank.feedPort f.val).fen = true) :
    exec (.fdGo f slot) s = .next (s.setFeeder f.val { s.feeder f.val with
      stream := some (s.newStream f.val slot.val), stall := 0 }) := by
  show execFdGo f slot s = _
  simp [execFdGo, h, hn, hv, he, State.newStream]

/-- Settles O18. -/
theorem rejectedFeedStartsCount : Obligations.RejectedFeedStartsCount := by
  unfold Obligations.RejectedFeedStartsCount
  intro f slot s
  refine ⟨fdGo_unready f slot, fun h hr => ⟨_, fdGo_rejected f slot h hr, ?_, ?_, ?_⟩⟩
  · simp
  · rw [State.setFeeder_feeder_self]
    show min _ _ = _
    split <;> omega
  · exact fun g hg => State.setFeeder_feeder_other s _ hg

end Sys2Proof.Machine

/-! # Requests on their way: what the stages keep of each -/

namespace Sys2Proof.Machine

/-! ## Tables -/

theorem Tab.mem_of_find? {α : Type} {t : Tab α} {k : Nat} {a : α} (h : Tab.find? t k = Option.some a) : (k, a) ∈ t := by
  induction t with
  | nil => cases h
  | cons p t ih =>
    obtain ⟨i, b⟩ := p
    simp only [Tab.find?] at h
    split at h
    · next e => cases h; rw [e]; exact List.mem_cons_self ..
    · exact List.mem_cons_of_mem _ (ih h)

@[simp] theorem Tab.find?_mapVals {α β : Type} (t : Tab α) (f : Nat → α → β) (k : Nat) :
    Tab.find? (Tab.mapVals t f) k = (Tab.find? t k).map (f k) := by
  induction t with
  | nil => rfl
  | cons p t ih =>
    obtain ⟨i, b⟩ := p
    simp only [Tab.mapVals, List.map_cons, Tab.find?] at ih ⊢
    split
    · next e => rw [e]; rfl
    · exact ih

/-! ## The relation -/

/-- A request is as it was but for what the path decides of it: its colour and tint, its phase and status, and what it was
launched with. -/
def Req.follows (q r : Req) : Prop :=
  q = { r with tint := q.tint, target := q.target, colour := q.colour, phase := q.phase, status := q.status,
               step := q.step, places := q.places }

theorem Req.follows_refl (r : Req) : r.follows r := rfl

theorem Req.follows_trans {a b c : Req} (h : c.follows b) (k : b.follows a) : c.follows a := by
  unfold Req.follows at *
  rw [k] at h
  exact h

/-- Every request is still there, and every request there was there before: none is lost, none is new, and none starts to wait
for data. -/
structure ReqsKept (s t : State) : Prop where
  still : ∀ id r, s.req? id = some r → ∃ q, t.req? id = some q ∧ q.follows r
  old : ∀ id q, (id, q) ∈ t.reqs → ∃ r, (id, r) ∈ s.reqs ∧ q.follows r ∧ (q.phase = .dataOpen → r.phase = .dataOpen)

theorem ReqsKept.of_eq {s t : State} (h : t.reqs = s.reqs) : ReqsKept s t where
  still id r hr := ⟨r, by unfold State.req? at *; rw [h]; exact hr, r.follows_refl⟩
  old id q hq := ⟨q, h ▸ hq, q.follows_refl, fun e => e⟩

theorem ReqsKept.refl (s : State) : ReqsKept s s := .of_eq rfl

theorem ReqsKept.trans {s t u : State} (h : ReqsKept s t) (k : ReqsKept t u) : ReqsKept s u where
  still id r hr := by
    obtain ⟨q, hq, hf⟩ := h.still id r hr
    obtain ⟨p, hp, hg⟩ := k.still id q hq
    exact ⟨p, hp, Req.follows_trans hg hf⟩
  old id q hq := by
    obtain ⟨r, hr, hf, hd⟩ := k.old id q hq
    obtain ⟨p, hp, hg, he⟩ := h.old id r hr
    exact ⟨p, hp, Req.follows_trans hf hg, he ∘ hd⟩

/-- One operation more that writes no request. -/
theorem ReqsKept.more {s t u : State} (h : ReqsKept s t) (e : u.reqs = t.reqs) : ReqsKept s u := h.trans (.of_eq e)

/-- One operation before that writes no request. -/
theorem ReqsKept.after {s t u : State} (k : ReqsKept t u) (e : t.reqs = s.reqs) : ReqsKept s u := (ReqsKept.of_eq e).trans k

/-- One step before. -/
theorem ReqsKept.before {s t u : State} (k : ReqsKept t u) (h : ReqsKept s t) : ReqsKept s u := h.trans k

theorem ReqsKept.ite {s t u : State} {c : Prop} [Decidable c] (h : ReqsKept s t) (k : ReqsKept s u) :
    ReqsKept s (if c then t else u) := by
  split
  · exact h
  · exact k

/-- A request is written again as one that follows it. -/
theorem ReqsKept.setReq {s t : State} {id : Nat} {r q : Req} (e : t.reqs = s.reqs) (h : s.req? id = some r) (hf : q.follows r)
    (hd : q.phase = .dataOpen → r.phase = .dataOpen) : ReqsKept s (t.setReq id q) where
  still j x hx := by
    unfold State.req? at h hx
    by_cases hj : j = id
    · subst hj
      rw [h] at hx; cases hx
      exact ⟨q, t.setReq_req?_self j q, hf⟩
    · exact ⟨x, (Tab.find?_put_other t.reqs q hj).trans (e ▸ hx), x.follows_refl⟩
  old j x hx := by
    obtain hx | hx := Tab.mem_put hx
    · exact ⟨x, e ▸ hx, x.follows_refl, fun e => e⟩
    · cases hx; exact ⟨r, Tab.mem_of_find? h, hf, hd⟩

/-! ## Through the shared operations -/

theorem State.countAnswer_reqs (s : State) (r : Req) (resp : Nat) : (s.countAnswer r resp).reqs = s.reqs :=
  (State.countAnswer_kept (Nat.or_self _) (.refl s) r resp).same .reqs

theorem State.answer_reqsKept (s : State) (id resp : Nat) (free : Bool) : ReqsKept s (s.answer id resp free) := by
  unfold State.answer
  split
  · exact .refl s
  · next r h =>
    split
    · exact .refl s
    · refine .more (.setReq rfl h (q := { r with phase := .done, status := resp }) rfl (by simp)) ?_
      exact State.countAnswer_reqs _ _ _

theorem ReqsKept.foldl {α : Type} {f : State → α → State} (hf : ∀ s a, ReqsKept s (f s a)) (l : List α) :
    ∀ s, ReqsKept s (l.foldl f s) := by
  induction l with
  | nil => exact .refl
  | cons a t ih => exact fun s => (hf s a).trans (ih _)

theorem State.fences_reqsKept (s : State) (p : Nat) : ReqsKept s (s.fences p) := by
  unfold State.fences
  exact .foldl (fun x a => .ite (x.answer_reqsKept _ _ _) (.refl x)) _ s

/-! ## Through the stages -/

theorem State.drrRefund_reqs (s : State) (k ten tint charge : Nat) : (s.drrRefund k ten tint charge).reqs = s.reqs := rfl

theorem State.refuse_reqsKept (s : State) (key resp : Nat) : ReqsKept s (s.refuse key resp) := by
  unfold State.refuse
  split
  · exact .refl s
  · split
    · exact .refl s
    · refine .trans (.of_eq ?_) (State.answer_reqsKept _ _ _ _)
      refine Eq.trans ((State.returnCredits_kept (Nat.or_self _) (.refl _) _ _ _).same .reqs) ?_
      refine Eq.trans ((State.withdraw_kept (Nat.or_self _) (.refl _) _).same .reqs) ?_
      refine Eq.trans ((State.refundMarker_kept (Nat.or_self _) (.refl _) _).same .reqs) ?_
      simp only [apply_ite State.reqs, State.drrRefund_reqs, ite_self]

theorem State.enterReady_reqsKept (s : State) (key : Nat) : ReqsKept s (s.enterReady key) := by
  unfold State.enterReady
  split
  · exact .refl s
  · dsimp only
    split
    · split
      · split
        · exact (State.refuse_reqsKept _ _ _).after rfl
        · exact .of_eq rfl
      · exact .of_eq rfl
    · exact .of_eq rfl

theorem State.drrTake_reqs {s t : State} {k ten tint charge : Nat} {behind : Bool}
    (h : s.drrTake k ten tint charge behind = some t) : t.reqs = s.reqs :=
  (State.drrTake_kept (Nat.or_self _) (.refl s) h).same .reqs

/-- Waiting at a stage keeps the requests, and so does passing it where what comes next does. -/
theorem State.stageOr_reqsKept (s : State) (key : Nat) (st : Stage) (k : Nat) (pass : Part → Part) {next : State → State}
    (hn : ∀ x, ReqsKept x (next x)) : ReqsKept s (s.stageOr key st k pass next) := by
  unfold State.stageOr
  split
  · exact .refl s
  · split
    · exact .refl s
    · dsimp only
      split
      · next x h => exact (hn _).after (show x.reqs = s.reqs from State.drrTake_reqs h)
      · exact .of_eq rfl

theorem State.enterLake_reqsKept (s : State) (key : Nat) : ReqsKept s (s.enterLake key) := by
  unfold State.enterLake
  split
  · exact .refl s
  · split
    · exact .refl s
    · split
      · exact s.stageOr_reqsKept _ _ _ _ fun x => x.enterReady_reqsKept key
      · exact s.enterReady_reqsKept key

theorem State.freeBridge_reqs (s : State) (key : Nat) (r : Req) (p : Part) : (s.freeBridge key r p).reqs = s.reqs :=
  (State.freeBridge_kept (Nat.or_self _) (.refl s) key r p).same .reqs

theorem State.enterXbar_reqsKept (s : State) (key : Nat) : ReqsKept s (s.enterXbar key) := by
  unfold State.enterXbar
  split
  · exact .refl s
  · split
    · exact .refl s
    · split
      · exact (State.enterLake_reqsKept _ _).after (State.freeBridge_reqs _ _ _ _)
      · exact s.stageOr_reqsKept _ _ _ _ fun x => (State.enterLake_reqsKept _ _).after (State.freeBridge_reqs _ _ _ _)

theorem State.enterBridge_reqsKept (s : State) (key : Nat) : ReqsKept s (s.enterBridge key) := by
  unfold State.enterBridge
  split
  · exact .refl s
  · split
    · exact .refl s
    · split
      · exact s.enterXbar_reqsKept key
      · split
        · exact (State.enterXbar_reqsKept _ _).after rfl
        · exact s.stageOr_reqsKept _ _ _ _ fun x => x.enterXbar_reqsKept key

theorem State.enterPort_reqsKept (s : State) (key : Nat) : ReqsKept s (s.enterPort key) := by
  unfold State.enterPort
  split
  · exact .refl s
  · split
    · exact .refl s
    · split
      · exact s.stageOr_reqsKept _ _ _ _ fun x => x.enterBridge_reqsKept key
      · split
        · exact s.stageOr_reqsKept _ _ _ _ fun x => x.enterBridge_reqsKept key
        · exact s.enterBridge_reqsKept key

theorem State.enterQuire_reqsKept (s : State) (key : Nat) : ReqsKept s (s.enterQuire key) := by
  unfold State.enterQuire
  split
  · exact .refl s
  · split
    · exact .refl s
    · split
      · exact s.stageOr_reqsKept _ _ _ _ fun x => x.enterPort_reqsKept key
      · exact s.enterPort_reqsKept key

theorem State.enterGate_reqsKept (s : State) (key : Nat) : ReqsKept s (s.enterGate key) := by
  unfold State.enterGate
  split
  · exact .refl s
  · split
    · exact .refl s
    · split
      · exact s.enterQuire_reqsKept key
      · exact .of_eq rfl

/-- The marker colours a request and may change its tint; it neither loses one nor brings one. -/
theorem State.mark_reqsKept (s : State) (key : Nat) (again : Bool) : ReqsKept s (s.mark key again) := by
  unfold State.mark
  split
  · exact .refl s
  · split
    · exact .refl s
    · next r h =>
      dsimp only
      generalize colourOf (s.bank.policer r.ten).alg (s.marker r.ten (portHalf r.port)) (r.charge * 16 : Nat)
        (if (s.bank.policer r.ten).caware then (s.bank.tint r.tint).pcol else 0) = cm
      refine .ite ((State.enterGate_reqsKept _ _).before ?_) (.ite (.ite (.of_eq rfl) (.of_eq rfl))
        (.ite ((State.refuse_reqsKept _ _ _).before ?_) ((State.enterGate_reqsKept _ _).before ?_)))
      all_goals exact .setReq rfl h rfl fun e => e

end Sys2Proof.Machine

/-! # Feeder ports and fills -/

namespace Sys2Proof.Machine

/-! ## Page reads (R275) -/

/-- Whether a page's delivery has come within 64 KiB of what GRATE gives by now (R276). -/
def State.paced (s : State) (x : Stream) : Bool :=
  decide (x.issued * x.pageBytes + x.pageBytes ≤ x.rec_.grate * (s.now - x.tGo) + 65536)

/-- The stored bursts of a stream's next page, as pieces. -/
def State.pagePieces (s : State) (x : Stream) (w : Window) (a : Nat) : List Piece :=
  s.readPieces w.qbase w.qk a (readBursts x.region (x.rec_.saddr + 4096 * x.issued) 4096)

/-- The stack of a page. -/
def State.pageStack (s : State) (w : Window) (a : Nat) : Nat :=
  stackOf (leafOf a w.qbase w.qk (s.geom (stackOf w.qbase)).leaves)

/-- The read of a stream's next page, as a request of its feeder port. -/
def State.pageReq (s : State) (f : Nat) (x : Stream) (w : Window) (a : Nat) : Req :=
  { port := 128 + f, tag := 0, sid := 0, ten := x.rec_.ten, tint := x.rec_.tint, op := 32,
    addr := x.rec_.saddr + 4096 * x.issued, len := 127, cidx := 0, ccnt := (!s.paced x).toNat, arrival := s.now,
    target := max 64 (x.tGo + 1000 + x.issued * x.pageBytes / x.rec_.grate - 500 - s.now),
    need := x.pageBytes, beats := [], qbase := w.qbase, qk := w.qk, a := a, region := x.region,
    regIdx := x.regIdx, skew := x.skew, step := x.step, charge := x.pageBytes, colour := .green, got := [],
    formed := 0, stained := false, phase := .live, status := 0, traced := false, grantAt := 0, servedAt := 0,
    stack := s.pageStack w a, places := ((s.pagePieces x w a).map (fun y => y.nb)).sum, ctx := f, lvl := 0,
    snap := MapSnap.none }

/-- The part of a page read. -/
def State.pagePart (s : State) (x : Stream) (w : Window) (a : Nat) : Part :=
  { req := s.nextId, stack := s.pageStack w a, stage := .ready, since := s.clk.ticks, pieces := s.pagePieces x w a,
    left := 0, toServe := (s.pagePieces x w a).length, lvl := 0, late := false, bridge := .none, xbar := .none,
    inQuire := false, inLake := false }

/-- The state with the next page's read in its tables. -/
def State.withPageRead (s : State) (f : Nat) (x : Stream) (w : Window) (a : Nat) : State :=
  (((({ s with nextId := s.nextId + 1 }).setReq s.nextId (s.pageReq f x w a)).setPart
    (partKey s.nextId (s.pageStack w a)) (s.pagePart x w a)).setFeeder f { s.feeder f with
      stream := some { x with issued := x.issued + 1 } }).cntT x.rec_.ten 37 1

/-- The next page of a stream is read where the feed buffer has room for it: it meets its quire's sleep and goes to the gate. -/
theorem feederPageReadIssue_reads {s : State} (f : Fin 8) {x : Stream} {w : Window} {a : Nat}
    (hx : (s.feeder f.val).stream = some x) (hi : x.issued ≤ x.rec_.slen)
    (hb : x.buffer.length * 32 + (x.issued - x.page) * x.pageBytes + x.pageBytes ≤ 262144)
    (hp : s.placeIn x.snap (x.rec_.saddr + 4096 * x.issued) = some (w, a)) :
    exec (.feederPageReadIssue f) s = .next (((s.withPageRead f.val x w a).meetSleep (s.pageStack w a) x.rec_.ten
      ((s.pagePieces x w a).map (fun y => y.leaf))).enterGate (partKey s.nextId (s.pageStack w a))) := by
  have e1 : ¬ (decide (x.issued > x.rec_.slen) || decide (x.buffer.length * 32 + (x.issued - x.page) * x.pageBytes +
      x.pageBytes > 262144)) = true := by simp; omega
  show execFeederPageReadIssue f s = _
  unfold execFeederPageReadIssue
  dsimp only
  rw [hx]
  dsimp only
  rw [if_neg e1, hp]
  rfl

/-- On its way to its stack a request neither leaves the table nor changes what it asks for. -/
theorem State.meetSleep_enterGate (u : State) (sk ten key : Nat) (ls : List Nat) :
    ((u.meetSleep sk ten ls).enterGate key).nextId = u.nextId ∧ ((u.meetSleep sk ten ls).enterGate key).feeders = u.feeders ∧
      ReqsKept u ((u.meetSleep sk ten ls).enterGate key) := by
  have h := State.meetSleep_kept (r := false) (b := false) (Nat.or_self _) (.refl u) sk ten ls
  have g := State.enterGate_kept (r := false) (b := false) (Nat.or_self _) (.refl (u.meetSleep sk ten ls)) key
  exact ⟨(g.same .nextId).trans (h.same .nextId), (g.same .feeders).trans (h.same .feeders),
    (State.enterGate_reqsKept _ _).after (h.same .reqs)⟩

/-! ## Beats (R32, R274) -/

/-- Judging a stream's rate changes only what it measures by. -/
theorem Stream.judge_eq (x : Stream) (v : Int) :
    (x.judge v).1 = { x with marks := (x.judge v).1.marks, least := (x.judge v).1.least } := by
  unfold Stream.judge
  generalize (if x.marks.length < 128 then (x.marks, x.least) else _ : List Int × Option Int) = m
  obtain ⟨marks, least⟩ := m
  dsimp only
  split_ifs <;> rfl

theorem State.feedBeat_feeder (s : State) (f : Nat) (x : Stream) :
    ∃ y n, (s.feedBeat f x).feeder f = { s.feeder f with
        stall := 0, lateCnt := n, out := some x.drive, stream := if x.drive.eos then none else some y } ∧
      y.buffer = x.buffer.drop 16 ∧ y.beats = x.beats + 1 := by
  unfold State.feedBeat
  dsimp only
  rw [State.setFeeder_feeder_self, State.cntG_feeder, State.freeUnpaced_feeder]
  refine ⟨_, _, rfl, ?_, ?_⟩ <;> rw [Stream.judge_eq]

/-- FD_RDY is sampled, and the pages that have come go into the feed buffer. -/
def State.sampled (s : State) (f : Nat) (rdy : BitVec 4) : State :=
  State.feedPages 64 (s.setFeeder f { s.feeder f with rdy := rdy.toNat, out := none }) f

theorem feederBeat_advances {s : State} (f : Fin 8) (rdy : BitVec 4) {x : Stream}
    (hx : ((s.sampled f.val rdy).feeder f.val).stream = some x) (ha : rdy.toNat &&& x.rec_.aen = x.rec_.aen)
    (hl : 16 ≤ x.buffer.length) :
    exec (.feederBeat f rdy) s = .next ((s.sampled f.val rdy).feedBeat f.val x) := by
  show execFeederBeat f rdy s = _
  unfold execFeederBeat
  dsimp only
  rw [show State.feedPages 64 _ f.val = s.sampled f.val rdy from rfl, hx]
  dsimp only
  rw [if_neg (not_not.mpr ha), if_neg (by omega)]

theorem feederBeat_waits {s : State} (f : Fin 8) (rdy : BitVec 4) {x : Stream}
    (hx : ((s.sampled f.val rdy).feeder f.val).stream = some x) (ha : rdy.toNat &&& x.rec_.aen ≠ x.rec_.aen) :
    exec (.feederBeat f rdy) s = .next ((s.sampled f.val rdy).setFeeder f.val { (s.sampled f.val rdy).feeder f.val with
      stream := some ((s.sampled f.val rdy).unjudged x) }) := by
  show execFeederBeat f rdy s = _
  unfold execFeederBeat
  dsimp only
  rw [show State.feedPages 64 _ f.val = s.sampled f.val rdy from rfl, hx]
  dsimp only
  rw [if_pos ha]

/-! ## Stalls (R189) -/

/-- The end of a stream empties its port's feeder. -/
theorem State.endStream_feeders (s : State) (f : Nat) :
    (s.endStream f).feeders = (s.setFeeder f { s.feeder f with stream := none, stall := 0, out := none }).feeders := by
  unfold State.endStream
  dsimp only
  rw [State.dropFeed_feeders]
  split
  · rw [State.freeUnpaced_feeder, State.setFeeder_feeders, State.setFeeder_feeders, State.freeUnpaced_feeders]
  · rfl

theorem feederStallTimeout_ends {s : State} (f : Fin 8) {x : Stream} (hx : (s.feeder f.val).stream = some x)
    (ht : s.pwdT (128 + f.val) ≤ (s.feeder f.val).stall) :
    exec (.feederStallTimeout f) s = .next (((s.setBank { s.bank with
      feedSlots := Tab.set FeederSlot.none s.bank.feedSlots (f.val * 8 + x.slot) FeederSlot.none }).endStream f.val).note
        0x02 4 f.val [(1, x.slot)]) := by
  show execFeederStallTimeout f s = _
  unfold execFeederStallTimeout
  dsimp only
  rw [hx]
  dsimp only
  rw [if_neg (by omega)]

/-- Settles O16: each event of a feeder port by the lemma of its own. -/
theorem feederEventsComplete : Obligations.FeederEventsComplete := by
  unfold Obligations.FeederEventsComplete
  refine ⟨?starts, ?rejected, ?read, ?beat, ?waits, ?stall⟩
  case starts =>
    intro f slot s h hn hv he
    refine ⟨_, fdGo_starts f slot h hn hv he, s.newStream f.val slot.val, ?_, rfl, rfl, rfl, rfl, rfl, rfl⟩
    rw [State.setFeeder_feeder_self]
  case rejected =>
    intro f slot s h hr hc
    rw [fdGo_rejected f slot h (.inl hr), Nat.min_eq_right (by omega)]
  case read =>
    intro f s x w a hx hi hb hp
    obtain ⟨kn, kf, kr⟩ := (s.withPageRead f.val x w a).meetSleep_enterGate (s.pageStack w a) x.rec_.ten
      (partKey s.nextId (s.pageStack w a)) ((s.pagePieces x w a).map (fun y => y.leaf))
    obtain ⟨r, hr, fr⟩ := kr.still s.nextId (s.pageReq f.val x w a) (Tab.find?_put_self _ _ _)
    exact ⟨_, feederPageReadIssue_reads f hx hi hb hp, kn, kf, r, hr, congrArg Req.port fr, congrArg Req.ten fr,
      congrArg Req.addr fr, congrArg Req.need fr⟩
  case beat =>
    intro f rdy s u x hu hx ha hl
    subst hu
    obtain ⟨y, n, e, hb, hn⟩ := (s.sampled f.val rdy).feedBeat_feeder f.val x
    refine ⟨_, feederBeat_advances f rdy hx ha hl, ?_⟩
    dsimp only
    rw [e]
    refine ⟨rfl, ⟨x.drive, rfl, rfl, by simp [Stream.drive], by simp [Stream.drive]⟩, ?_⟩
    split
    · next h => simp [Stream.drive, h]
    · next h => exact ⟨y, by simp [Stream.drive, h], hb, hn⟩
  case waits =>
    intro f rdy s u x hu hx ha
    subst hu
    exact ⟨_, feederBeat_waits f rdy hx ha, (s.sampled f.val rdy).unjudged x, rfl, rfl, rfl⟩
  case stall =>
    intro f s x hx ht
    refine ⟨_, feederStallTimeout_ends f hx ht, ?_, ?_⟩
    · rw [State.note_feeders, State.endStream_feeders]; rfl
    · rw [State.note_bank, State.endStream_bank]; rfl

/-! ## Fills (R36, R189) -/

/-- What ends a fill before its gather is looked at: the tag and its window bytes are free, and an ERR is logged. -/
def State.fillEnded (s : State) (f tag : Nat) (x : Fill) (ok : Bool) : State :=
  let s := (s.setPort (136 + f) { s.port (136 + f) with fills := Tab.erase (s.port (136 + f)).fills tag }).drrFree (1072 + f)
    (32 * x.data.length)
  if ok then s else s.note 0x44 5 f [(2, x.ten), (2, x.sid)]

@[simp] theorem State.fillEnded_lake (s : State) (f tag : Nat) (x : Fill) (ok : Bool) :
    (s.fillEnded f tag x ok).lake = s.lake := by
  unfold State.fillEnded
  cases ok <;> simp

@[simp] theorem State.fillEnded_ports (s : State) (f tag : Nat) (x : Fill) (ok : Bool) : (s.fillEnded f tag x ok).ports =
    (s.setPort (136 + f) { s.port (136 + f) with fills := Tab.erase (s.port (136 + f)).fills tag }).ports := by
  unfold State.fillEnded
  cases ok <;> simp

theorem State.endFill_of_none {s : State} {f tag : Nat} {x : Fill} {ok : Bool} (h : Tab.find? s.lake.gathers x.key = none) :
    s.endFill f tag x ok = s.fillEnded f tag x ok := by
  show (match Tab.find? (s.fillEnded f tag x ok).lake.gathers x.key with | none => _ | some _ => _) = _
  rw [State.fillEnded_lake, h]
  rfl

/-- A gather's fill ends: the gather counts it, and every gather goes on. -/
theorem State.endFill_of_some {s : State} {f tag : Nat} {x : Fill} {ok : Bool} {g : Gather}
    (h : Tab.find? s.lake.gathers x.key = some g) :
    s.endFill f tag x ok =
      let u := (s.fillEnded f tag x ok).setGather x.key { g with
        fillsOut := g.fillsOut - 1, errFills := g.errFills + (!ok).toNat }
      u.lake.gathers.foldl (fun v (k, _) => State.gatherGo 65537 v k) u := by
  show (match Tab.find? (s.fillEnded f tag x ok).lake.gathers x.key with | none => _ | some _ => _) = _
  rw [State.fillEnded_lake, h]
  rfl

theorem feltFillAck_ends {s : State} (f : Fin 2) (tag : Fin 1024) (ok : Bool) {x : Fill}
    (h : Tab.find? (s.port (136 + f.val)).fills tag.val = some x) :
    exec (.feltFillAck f tag ok) s = .next (s.endFill f.val tag.val x ok) := by
  show execFeltFillAck f tag ok s = _
  unfold execFeltFillAck
  rw [h]

/-- Settles O17. -/
theorem fillsEnd : Obligations.FillsEnd := by
  unfold Obligations.FillsEnd
  refine ⟨?alone, ?gather, ?late⟩
  case alone =>
    intro f tag ok s x hx hg
    exact ⟨_, feltFillAck_ends f tag ok hx, by rw [State.endFill_of_none hg]; simp⟩
  case gather =>
    intro f tag ok s x g hx hg
    refine ⟨_, feltFillAck_ends f tag ok hx, (s.fillEnded f.val tag.val x ok).setGather x.key { g with
        fillsOut := g.fillsOut - 1, errFills := g.errFills + (!ok).toNat }, ?_, ?_, State.endFill_of_some hg⟩
    · unfold State.setGather; rw [State.fillEnded_lake]
    · exact State.fillEnded_ports ..
  case late =>
    intro f tag s x hx ht
    rw [feltFillAck_ends f tag false hx]
    show execFeltFillAckTimeout f tag s = _
    unfold execFeltFillAckTimeout
    rw [hx]
    exact if_neg (by omega)

end Sys2Proof.Machine

/-! # Notifications (R30) -/

namespace Sys2Proof.Machine

@[simp] theorem State.pushLane_port_self (s : State) (p : Nat) (b : RespBeat) :
    (s.pushLane p b).port p = { s.port p with lane := (s.port p).lane ++ [b] } :=
  s.setPort_port_self p _

theorem State.pushLane_port_other (s : State) {p j : Nat} (b : RespBeat) (h : j ≠ p) : (s.pushLane p b).port j = s.port j :=
  s.setPort_port_other _ h

theorem State.notify_settled {s : State} {kind sid ten : Nat} {body : List Nat} {e : Aff} (h : Tab.find? s.aff sid = some e)
    (hf : e.flap = false) : s.notify kind sid ten body = s.pushLane e.port (ntfBeat kind sid ten body) := by
  unfold State.notify
  rw [h]
  simp [hf]

theorem State.notify_flapping {s : State} {kind sid ten : Nat} {body : List Nat} {e : Aff} (h : Tab.find? s.aff sid = some e)
    (hf : e.flap = true) : s.notify kind sid ten body =
      (s.pushLane e.port (ntfBeat kind sid ten body)).pushLane e.alt (ntfBeat kind sid ten body) := by
  unfold State.notify
  rw [h]
  simp [hf]

theorem State.notify_dropped {s : State} {kind sid ten : Nat} {body : List Nat} (h : Tab.find? s.aff sid = none) :
    s.notify kind sid ten body = (s.cntG 8 1).note 0x43 0 0 [(2, sid), (1, kind)] := by
  unfold State.notify
  rw [h]

/-! ## Log records -/

/-- A global counter counts only what is added to its own index. -/
theorem State.cntG_num_other (s : State) {i j : Nat} (n : Nat) (h : j ≠ i) :
    Tab.num (s.cntG i n).cnt.global j = Tab.num s.cnt.global j :=
  Tab.get_set_other 0 s.cnt.global _ h

theorem State.cntG_num_self (s : State) {i : Nat} (n : Nat) (hc : chainedG.contains i = false)
    (h : Tab.num s.cnt.global i + n < 2 ^ 48) : Tab.num (s.cntG i n).cnt.global i = Tab.num s.cnt.global i + n := by
  have e : Tab.num (s.cntG i n).cnt.global i = (Tab.num s.cnt.global i + n) % (if chainedG.contains i then 2 ^ 96 else 2 ^ 48) :=
    Tab.get_set_self 0 s.cnt.global i _
  rw [e, hc]
  exact Nat.mod_eq_of_lt h

@[simp] theorem State.appendRec_cnt (s : State) (r : Nat) (x : Rec) : (s.appendRec r x).cnt = s.cnt :=
  (State.appendRec_kept (Nat.or_self _) (.refl s) r x).same .cnt

/-- A log record is dropped for its rate, dropped for want of room, or written. -/
theorem State.logRec_cases (s : State) (x : Rec) : s.logRec x = s.dropRec x 1 ∨ ∃ rate,
    s.logRec x = ({ s with trace := { s.trace with rate := rate } }).dropRec x 2 ∨
    s.logRec x = (({ s with trace := { s.trace with rate := rate } }).appendRec 1 x).cntG 10 1 := by
  unfold State.logRec
  generalize Tab.get (0, 0) s.trace.rate x.srcKey = mn
  obtain ⟨m, n⟩ := mn
  dsimp only
  generalize (if m = s.now / 1000000 then n else 0) = n
  split
  · exact .inl rfl
  · right
    split
    · exact ⟨_, .inl rfl⟩
    · exact ⟨_, .inr rfl⟩

theorem State.dropRec_num (s : State) (x : Rec) (n : Nat) {j : Nat} (h13 : j ≠ 13) (h14 : j ≠ 14) :
    Tab.num (s.dropRec x n).cnt.global j = Tab.num s.cnt.global j :=
  s.cntG_num_other (i := if x.ring = 1 then 13 else 14) 1 (by split <;> assumption)

/-- A log record counts as written or as dropped, at the indexes 10, 13 and 14, and nowhere else. -/
theorem State.logRec_num (s : State) (x : Rec) {j : Nat} (h10 : j ≠ 10) (h13 : j ≠ 13) (h14 : j ≠ 14) :
    Tab.num (s.logRec x).cnt.global j = Tab.num s.cnt.global j := by
  obtain e | ⟨rate, e | e⟩ := s.logRec_cases x <;> rw [e]
  · exact s.dropRec_num x 1 h13 h14
  · exact State.dropRec_num _ x 2 h13 h14
  · rw [State.cntG_num_other _ _ h10, State.appendRec_cnt]

/-- The newest record of the buffer is the one just written. -/
theorem State.appendRec_last (s : State) (r : Nat) (x : Rec) :
    (s.appendRec r x).trace.buffer.getLast? = some { x with seq := (s.ring r).seq + 1, ring := r, at_ := s.clk.ticks } := by
  unfold State.appendRec
  dsimp only
  generalize (if x.len * 32 > ringSize r - (s.ring r).tail % ringSize r then _ else 0 : Nat) = pad
  by_cases hr : r = 0 <;> by_cases hp : pad = 0 <;> simp [hr, hp]

/-- A log record whose source has written none in its millisecond is written where the ring and the buffer have room. -/
theorem State.logRec_written {s : State} {x : Rec} (hr : Tab.find? s.trace.rate x.srcKey = none) (hf : 512 ≤ s.ringFree 1)
    (hb : s.bufferBytes + x.len * 32 ≤ 65536) :
    ∃ r, (s.logRec x).trace.buffer.getLast? = some r ∧ r.ring = 1 ∧ r.kind = x.kind ∧ r.body = x.body := by
  have e1 : ¬ (if (Tab.get (0, 0) s.trace.rate x.srcKey).1 = s.now / 1000000 then
      (Tab.get (0, 0) s.trace.rate x.srcKey).2 else 0) ≥ 32 := by
    unfold Tab.get; rw [hr]; simp
  unfold State.logRec
  dsimp only
  rw [if_neg e1, if_neg (by
    show ¬ ((decide (s.ringFree 1 < 512) || decide (s.bufferBytes + x.len * 32 > 65536)) = true)
    simp; omega)]
  exact ⟨_, State.appendRec_last _ 1 x, rfl, rfl, rfl⟩

/-- The body of a NOTE record (R533). -/
def State.noteBody (s : State) (cause num : Nat) (args : List (Nat × Nat)) : List Nat :=
  (leBytes 8 s.now ++ leBytes 2 cause ++ leBytes 2 num ++ (args.flatMap (fun (n, v) => leBytes n v)) ++
    List.replicate 20 0).take 32

/-- A NOTE of a cause from 0x40 on is a log record. -/
theorem State.note_eq_logRec (s : State) {cause : Nat} (cls num : Nat) (args : List (Nat × Nat)) (h : ¬ cause < 0x40) :
    s.note cause cls num args = s.logRec (s.mkRec 0x12 1 cls num 2 (s.noteBody cause num args)) := by
  unfold State.note
  rw [if_neg h]
  rfl

/-- A NOTE carries its cause behind its time. -/
theorem State.noteBody_cause (s : State) (cause num : Nat) (args : List (Nat × Nat)) :
    ((s.noteBody cause num args).drop 8).take 2 = leBytes 2 cause := by
  simp [State.noteBody, leBytes, List.range, List.range.loop]

/-- A NOTE of a source that has written none in its millisecond is written where the log has room. -/
theorem State.note_written {s : State} {cause : Nat} {cls num : Nat} {args : List (Nat × Nat)} (h : ¬ cause < 0x40)
    (hr : Tab.find? s.trace.rate (cls * 4096 + num) = none) (hf : 512 ≤ s.ringFree 1) (hb : s.bufferBytes + 64 ≤ 65536) :
    ∃ r, (s.note cause cls num args).trace.buffer.getLast? = some r ∧ r.ring = 1 ∧ r.kind = 0x12 ∧
      (r.body.drop 8).take 2 = leBytes 2 cause := by
  rw [State.note_eq_logRec _ _ _ _ h]
  obtain ⟨r, hlast, hring, hkind, hbody⟩ :=
    State.logRec_written (s := s) (x := s.mkRec 0x12 1 cls num 2 (s.noteBody cause num args)) hr hf hb
  exact ⟨r, hlast, hring, hkind, by rw [hbody]; exact s.noteBody_cause _ _ _⟩

/-- Settles O19: by the entry of the SID. -/
theorem notificationsFollowTheAffinity : Obligations.NotificationsFollowTheAffinity := by
  unfold Obligations.NotificationsFollowTheAffinity
  rintro s t kind sid ten body rfl
  refine ⟨?settled, ?flapping, ?none⟩
  case settled =>
    intro e h hf
    rw [State.notify_settled h hf]
    exact ⟨by simp, fun p hp => s.pushLane_port_other _ hp⟩
  case flapping =>
    intro e h hf ha
    rw [State.notify_flapping h hf]
    refine ⟨?_, ?_, fun p hp hq => ?_⟩
    · rw [State.pushLane_port_other _ _ ha.symm]; simp
    · rw [State.pushLane_port_self, State.pushLane_port_other _ _ ha]
    · rw [State.pushLane_port_other _ _ hq, State.pushLane_port_other _ _ hp]
  case none =>
    intro h
    rw [State.notify_dropped h]
    refine ⟨by simp, fun hn => ?_, fun hr hf hb => ?_⟩
    · rw [State.note_eq_logRec _ _ _ _ (by decide), State.logRec_num _ _ (by decide) (by decide) (by decide)]
      exact s.cntG_num_self 1 rfl hn
    · exact State.note_written (s := s.cntG 8 1) (by decide) hr hf hb

end Sys2Proof.Machine

/-! # Debug stop (R43, R544, R545, R549) -/

namespace Sys2Proof.Machine

theorem debugStop_halts {s : State} (h : s.pins.porst = false) : exec .debugStop s =
    .next { s with pins := { s.pins with stopIn := true, stopped := s.pins.stopped || s.pins.ready } } := by
  show execDebugStop s = _
  simp [execDebugStop, h]

/-- Checking again what a stop kept from starting touches neither the pins nor the trace. -/
theorem State.rechecks_kept (l : Tab Care) (s : State) :
    Kept false false 0x57600 s (l.foldl (fun s (x : Nat × Care) => State.recheck 9 s x.1) s) :=
  Kept.foldl (fun _ a h => State.recheck_kept _ (by decide) h a.1) l s (.refl s)

/-- A stop in force goes on. -/
theorem State.stopEnds_stopping {s : State} (h : s.stopping = true) : s.stopEnds = s := by
  unfold State.stopEnds
  rw [if_pos h]

/-- A stop that nothing holds any more ends: DW_DBG_STOPPED falls, and a running scan is aborted with code 4. -/
theorem State.stopEnds_clear {s : State} (h : s.stopping = false) :
    s.stopEnds.pins = { s.pins with stopped := false } ∧ s.stopEnds.trace =
      if s.trace.scanBusy then { s.trace with scanBusy := false, scanErr := true, scanCode := 4 } else s.trace := by
  have k := State.rechecks_kept s.cares (({ s with pins := { s.pins with stopped := false } }).scanAbort 4)
  have e : s.stopEnds = s.cares.foldl (fun s (x : Nat × Care) => State.recheck 9 s x.1)
      (({ s with pins := { s.pins with stopped := false } }).scanAbort 4) := by
    unfold State.stopEnds State.scanAbort
    rw [h]
    dsimp only
    cases s.trace.scanBusy <;> rfl
  rw [e]
  refine ⟨(k.same .pins).trans ?_, (k.same .trace).trans ?_⟩ <;> unfold State.scanAbort <;> dsimp only <;> split <;> rfl

/-- Settles O47. -/
theorem debugStopComplete : Obligations.DebugStopComplete := by
  unfold Obligations.DebugStopComplete
  refine ⟨fun s h => debugStop_halts h, fun s h => ?_, fun s h => ?_⟩
  · exact ⟨_, rfl, State.stopEnds_clear (s := { s with pins := { s.pins with stopIn := false } }) (by simp [State.stopping, h])⟩
  · show Host.Outcome.next _ = _
    rw [State.stopEnds_stopping (by simp [State.stopping, h])]

end Sys2Proof.Machine

/-! # Mailbox pages: what serving commands keeps of them (R434, R437, R438) -/

namespace Sys2Proof.Machine

/-- The completion ring holds entry e at slot i, behind its head and before its tail. -/
def Page.holds (p : Page) (i : Nat) (e : Cpl) : Prop :=
  p.cplHead < 64 ∧ ringUsed p.cplTail p.cplHead ≤ 32 ∧
    ∃ a, a < ringUsed p.cplTail p.cplHead ∧ i = (p.cplHead + a) % 32 ∧ Tab.find? p.cplRing i = some e

/-- What Mordant's service of a page keeps: the pointers the host writes, its error flag, and the entries the ring holds. -/
structure Page.Served (p q : Page) : Prop where
  cmdTail : q.cmdTail = p.cmdTail
  cplHead : q.cplHead = p.cplHead
  tailErr : q.tailErr = p.tailErr
  held : ∀ i e, p.holds i e → q.holds i e

namespace Page.Served

theorem refl (p : Page) : p.Served p := ⟨rfl, rfl, rfl, fun _ _ h => h⟩

theorem trans {p q r : Page} (h : p.Served q) (g : q.Served r) : p.Served r :=
  ⟨g.cmdTail.trans h.cmdTail, g.cplHead.trans h.cplHead, g.tailErr.trans h.tailErr, fun i e x => g.held i e (h.held i e x)⟩

end Page.Served

/-- A completion is written behind the last entry where the ring has room: the ring holds it and what it held. -/
theorem Page.write_holds {p : Page} (c : Cpl) (hh : p.cplHead < 64) (hr : ringUsed p.cplTail p.cplHead < 32) :
    (p.write c).holds (p.cplTail % 32) c ∧ ∀ i e, p.holds i e → (p.write c).holds i e := by
  have ht : ringUsed (p.write c).cplTail (p.write c).cplHead = ringUsed p.cplTail p.cplHead + 1 := by
    show ((p.cplTail + 1) % 64 + 64 - p.cplHead) % 64 = _
    unfold ringUsed at hr ⊢
    omega
  refine ⟨⟨hh, by omega, ringUsed p.cplTail p.cplHead, by omega, ?_, Tab.find?_put_self _ _ _⟩, ?_⟩
  · show _ = (p.cplHead + _) % 32
    unfold ringUsed at hr ⊢
    omega
  · rintro i e ⟨_, _, a, ha, rfl, hf⟩
    refine ⟨hh, by omega, a, by omega, rfl, (Tab.find?_put_other _ _ ?_).trans hf⟩
    unfold ringUsed at hr ha
    omega

theorem Page.Served.write {p q : Page} (h : p.Served q) (c : Cpl) (hr : ringUsed q.cplTail q.cplHead < 32) :
    p.Served (q.write c) :=
  h.trans ⟨rfl, rfl, rfl, fun i e h => (Page.write_holds c h.1 hr).2 i e h⟩

/-- Counters, the command ring's head and what waits for a page are free to change. -/
theorem Page.Served.pending (p : Page) (head owed lost : Nat) (w : List Cpl) (ev : List Event) :
    p.Served { p with cmdHead := head, owed := owed, waiting := w, events := ev, lostCount := lost } :=
  ⟨rfl, rfl, rfl, fun _ _ h => h⟩

/-- What waits is written behind what the ring holds. -/
theorem Page.pump_served (n : Nat) : ∀ p : Page, p.Served (Page.pump n p) := by
  induction n with
  | zero => exact fun p => .refl p
  | succ n ih =>
    intro p
    unfold Page.pump
    split
    · exact .refl p
    next hroom =>
      have hr : ringUsed p.cplTail p.cplHead < 32 := by
        simp only [Bool.or_eq_true, decide_eq_true_eq, not_or] at hroom
        omega
      split
      next c rest _ => exact ((Page.Served.pending p p.cmdHead p.owed p.lostCount rest p.events).write c hr).trans (ih _)
      · split
        next e rest _ =>
          exact ((Page.Served.pending p p.cmdHead p.owed p.lostCount p.waiting rest).write (p.eventCpl e) hr).trans (ih _)
        · split
          · exact .refl p
          · exact ((Page.Served.pending p p.cmdHead p.owed 0 p.waiting p.events).write _ hr).trans (ih _)

/-- A completion that alone waits for a ring with room is the next entry. -/
theorem Page.pump_answers {p : Page} {c : Cpl} (n : Nat) (hf : p.pstate ≠ .frozen) (hh : p.cplHead < 64)
    (hr : ringUsed p.cplTail p.cplHead < 32) :
    (Page.pump (n + 1) { p with waiting := [c] }).holds (p.cplTail % 32) c := by
  unfold Page.pump
  rw [if_neg (by simp [hf, hr])]
  exact (Page.pump_served n _).held _ _ (Page.write_holds (p := { p with waiting := [] }) c hh hr).1

/-! ## The machine's pages -/

/-- Every page is served. -/
def State.PagesServed (s t : State) : Prop := ∀ j, (s.page j).Served (t.page j)

theorem State.PagesServed.refl (s : State) : s.PagesServed s := fun j => .refl (s.page j)

theorem State.PagesServed.trans {s t u : State} (h : s.PagesServed t) (g : t.PagesServed u) : s.PagesServed u :=
  fun j => (h j).trans (g j)

theorem State.PagesServed.of_eq {s t : State} (h : t.pages = s.pages) : s.PagesServed t := by
  intro j
  unfold State.page
  rw [h]
  exact .refl _

theorem State.setPage_served {s : State} {k : Nat} {x : Page} (h : (s.page k).Served x) : s.PagesServed (s.setPage k x) := by
  intro j
  by_cases e : j = k
  · subst e; rw [State.setPage_page_self]; exact h
  · rw [State.setPage_page_other _ _ e]; exact .refl _

theorem State.pumpPage_served (s : State) (p : Nat) : s.PagesServed (s.pumpPage p) :=
  State.setPage_served (Page.pump_served 64 _)

@[simp] theorem State.queueService_pages (s : State) (p : Nat) : (s.queueService p).pages = s.pages := by
  unfold State.queueService
  dsimp only
  split <;> rfl

theorem State.complete_served (s : State) (t : Ticket) (st sheet : Nat) (fin : Bool) (result : List Nat)
    (bulk : Option (List Nat)) : s.PagesServed (s.complete t st sheet fin result bulk) := by
  unfold State.complete
  dsimp only
  split
  · exact .refl s
  · exact (State.setPage_served (.pending _ _ _ _ _ _)).trans (State.pumpPage_served _ _)

@[simp] theorem State.claimEnds_pages (s : State) (t : Ticket) : (s.claimEnds t).pages = s.pages := by
  unfold State.claimEnds
  split <;> rfl

/-- The state in which a ticket's final completion is written. -/
def State.finishing (s : State) (tk : Nat) (t : Ticket) : State := ({ s with tickets := Tab.erase s.tickets tk }).claimEnds t

@[simp] theorem State.finishing_pages (s : State) (tk : Nat) (t : Ticket) : (s.finishing tk t).pages = s.pages :=
  State.claimEnds_pages _ t

theorem State.finish_some {s : State} {tk : Nat} {t : Ticket} (h : Tab.find? s.tickets tk = some t) (st : Nat)
    (result : List Nat) (bulk : Option (List Nat)) : s.finish tk st result bulk =
      ((((s.finishing tk t).complete t st 0 true result bulk).setPage t.page
        { ((s.finishing tk t).complete t st 0 true result bulk).page t.page with
          owed := (((s.finishing tk t).complete t st 0 true result bulk).page t.page).owed - 1 }).queueService t.page) := by
  unfold State.finish
  rw [h]
  rfl

/-- What follows a ticket's completion. -/
theorem State.finish_completed {s : State} {tk : Nat} {t : Ticket} (h : Tab.find? s.tickets tk = some t) (st : Nat)
    (result : List Nat) (bulk : Option (List Nat)) :
    ((s.finishing tk t).complete t st 0 true result bulk).PagesServed (s.finish tk st result bulk) := by
  rw [State.finish_some h]
  exact (State.setPage_served (.pending _ _ _ _ _ _)).trans (.of_eq (State.queueService_pages _ _))

theorem State.finish_served (s : State) (tk st : Nat) (result : List Nat) (bulk : Option (List Nat)) :
    s.PagesServed (s.finish tk st result bulk) := by
  cases h : Tab.find? s.tickets tk with
  | none => unfold State.finish; rw [h]; exact .refl s
  | some t =>
    have h1 : s.PagesServed (s.finishing tk t) := .of_eq (s.finishing_pages tk t)
    exact (h1.trans ((s.finishing tk t).complete_served t st 0 true result bulk)).trans (State.finish_completed h _ _ _)

theorem State.take_pages (s : State) (page : Nat) (c : Cmd) : (s.take page c).1.pages = (s.setPage page { s.page page with
    cmdHead := ((s.page page).cmdHead + 1) % 64, owed := (s.page page).owed + 1 }).pages := rfl

theorem State.take_served (s : State) (page : Nat) (c : Cmd) : s.PagesServed (s.take page c).1 :=
  .trans (State.setPage_served (.pending _ _ _ _ _ _)) (.of_eq (s.take_pages page c))

/-- A page's head command is taken, answered by its row, and the page queued again. -/
theorem State.serveWith_eq (s : State) (m : MailRow) : s.serveWith m.page m.body =
    ((s.take m.page ((s.page m.page).headCmd m.page)).1.settle s.nextId
      (s.replyTo m ((s.page m.page).headCmd m.page))).queueService m.page := rfl

/-- A row that only fails answers by a failure. -/
theorem State.replyTo_fails {s : State} {m : MailRow} {st pos step : Nat} (hb : m.body = fun _ _ _ => .fail st pos step none)
    (c : Cmd) : ∃ st pos step, s.replyTo m c = .fail st pos step none := by
  unfold State.replyTo
  rw [hb]
  dsimp only
  split
  · exact ⟨_, _, _, rfl⟩
  · split <;> exact ⟨_, _, _, rfl⟩

/-- A page whose command can only fail is served. -/
theorem State.serveWith_fail_served (s : State) (page st pos step : Nat) :
    s.PagesServed (s.serveWith page (fun _ _ _ => .fail st pos step none)) := by
  let m : MailRow := ⟨page, 0, anySub, fun _ _ _ => .fail st pos step none⟩
  have e := s.serveWith_eq m
  obtain ⟨st', pos', step', h⟩ := State.replyTo_fails (s := s) (m := m) rfl ((s.page m.page).headCmd m.page)
  rw [h] at e
  rw [show s.serveWith page _ = _ from e]
  exact ((s.take_served _ _).trans (State.finish_served _ _ _ _ _)).trans (.of_eq (State.queueService_pages _ _))

theorem State.skipUnknown_served (n : Nat) : ∀ s : State, s.PagesServed (s.skipUnknown n) := by
  induction n with
  | zero => exact fun s => .refl s
  | succ n ih =>
    intro s
    unfold State.skipUnknown
    split
    · exact .refl s
    · split
      · exact .refl s
      · split
        · exact .refl s
        · exact (State.serveWith_fail_served s _ _ _ _).trans (ih _)

/-! ## Writes of the pages' pointers -/

@[simp] theorem State.wakeCores_page (s : State) (j : Nat) : s.wakeCores.page j = s.page j := by
  unfold State.wakeCores
  split <;> rfl

theorem State.wakeCores_setPage (s : State) (k : Nat) (x : Page) :
    (s.wakeCores.setPage k x).pages = (s.setPage k x).pages ∧ (s.wakeCores.setPage k x).serviceq = s.serviceq := by
  unfold State.wakeCores
  split <;> exact ⟨rfl, rfl⟩

theorem State.pageWrite_taken {s : State} {page src off : Nat} {right : Bool} {f : State → State} (hp : s.pins.porst = false)
    (hr : right = true) (ho : s.pagesOff = false) : s.pageWrite page src off right f = .next (f s) := by
  unfold State.pageWrite
  rw [if_neg (by simp [hp]), if_neg (by simp [hr, ho])]

theorem State.pageWrite_refused {s : State} {page src off : Nat} {right : Bool} {f : State → State} (hp : s.pins.porst = false)
    (hr : right = false) : s.pageWrite page src off right f = .next (s.accErr src (pageOffset page + off) true false) := by
  unfold State.pageWrite
  rw [if_neg (by simp [hp]), if_pos (by simp [hr])]

theorem State.writeTail_taken {s : State} {page v : Nat} (h1 : ringUsed (s.page page).cmdTail (s.page page).cmdHead ≤
    ringUsed v (s.page page).cmdHead) (h2 : ringUsed v (s.page page).cmdHead ≤ 32) :
    ((s.writeTail page v).page page).cmdTail = v ∧ ((s.writeTail page v).page page).tailErr = (s.page page).tailErr := by
  unfold State.writeTail
  dsimp only
  rw [if_pos (by simp [h1, h2])]
  have h : (s.setPage page { s.page page with cmdTail := v }).PagesServed
      (((s.setPage page { s.page page with cmdTail := v }).queueService page).skipUnknown 1024) :=
    State.PagesServed.trans (.of_eq (State.queueService_pages _ _)) (State.skipUnknown_served _ _)
  refine ⟨(h page).cmdTail.trans ?_, (h page).tailErr.trans ?_⟩ <;> rw [State.setPage_page_self]

theorem State.writeTail_error {s : State} {page v : Nat} (h : ringUsed v (s.page page).cmdHead <
    ringUsed (s.page page).cmdTail (s.page page).cmdHead ∨ 32 < ringUsed v (s.page page).cmdHead) :
    s.writeTail page v = s.setPage page { s.page page with tailErr := true } := by
  unfold State.writeTail
  dsimp only
  rw [if_neg (by simp only [Bool.and_eq_true, decide_eq_true_eq]; omega)]

theorem State.writeHead_taken {s : State} {page v : Nat} (h : ringUsed (s.page page).cplTail v ≤
    ringUsed (s.page page).cplTail (s.page page).cplHead) : ((s.writeHead page v).page page).cplHead = v := by
  unfold State.writeHead
  dsimp only
  rw [if_pos h]
  have h : (s.setPage page { s.page page with cplHead := v }).PagesServed
      ((((s.setPage page { s.page page with cplHead := v }).pumpPage page).queueService page).skipUnknown 1024) :=
    ((State.pumpPage_served _ page).trans (.of_eq (State.queueService_pages _ _))).trans (State.skipUnknown_served _ _)
  rw [(h page).cplHead, State.setPage_page_self]

/-- A tail write goes through the page's rights. -/
theorem exec_mbCmdTailWrite (page : Fin 521) (src : Fin 16) (v : BitVec 32) (s : State) :
    exec (.mbCmdTailWrite page src v) s = s.pageWrite page.val src.val 0xC00 (s.pageFull page.val src.val)
      (fun s => s.wakeCores.writeTail page.val (v.toNat % 64)) := rfl

/-- A head write goes through the page's rights. -/
theorem exec_mbCplHeadWrite (page : Fin 521) (src : Fin 16) (v : BitVec 32) (s : State) :
    exec (.mbCplHeadWrite page src v) s = s.pageWrite page.val src.val 0xC0C (s.pageFull page.val src.val)
      (fun s => s.writeHead page.val (v.toNat % 64)) := rfl

/-- Settles O39. -/
theorem pageWritesComplete : Obligations.PageWritesComplete := by
  unfold Obligations.PageWritesComplete
  refine ⟨?tail, ?error, ?head, ?denied⟩
  case tail =>
    rintro page src v s p n hp hr ho rfl _ rfl h1 h2
    refine ⟨_, (exec_mbCmdTailWrite page src v s).trans (State.pageWrite_taken hp hr ho), ?_⟩
    obtain ⟨ht, he⟩ := State.writeTail_taken (s := s.wakeCores) (page := page.val) (v := v.toNat % 64)
      (by rw [State.wakeCores_page]; exact h1) (by rw [State.wakeCores_page]; exact h2)
    exact ⟨ht, he.trans (by rw [State.wakeCores_page])⟩
  case error =>
    rintro page src v s p n hp hr ho rfl rfl h
    refine ⟨_, (exec_mbCmdTailWrite page src v s).trans (State.pageWrite_taken hp hr ho), ?_⟩
    rw [State.writeTail_error (by rw [State.wakeCores_page]; exact h), State.wakeCores_page]
    exact s.wakeCores_setPage page.val _
  case head =>
    rintro page src v s p n hp hr ho rfl _ rfl h
    exact ⟨_, (exec_mbCplHeadWrite page src v s).trans (State.pageWrite_taken hp hr ho), State.writeHead_taken h⟩
  case denied =>
    intro page src v s hp hr
    exact ⟨(exec_mbCmdTailWrite page src v s).trans (State.pageWrite_refused hp hr),
      (exec_mbCplHeadWrite page src v s).trans (State.pageWrite_refused hp hr)⟩

end Sys2Proof.Machine

/-! # Mailbox commands that are accepted (R437, R462) -/

namespace Sys2Proof.Machine

/-- An answer that is no failure. -/
def Ans.succeeds (a : Ans) : Prop := ∀ st pos step bulk, a ≠ .fail st pos step bulk

/-- Checks that some follow-up passes let it through. -/
theorem chain_succeeds {l : List (Bool × Nat × Nat × Nat)} {a : Ans} (h : (chain l a).succeeds) :
    chain l a = a ∧ l.find? (fun x => x.1) = none := by
  unfold chain at h ⊢
  split
  next e => exact absurd (by rw [e]) (h _ _ _ _)
  next e => exact ⟨rfl, e⟩

/-- The head of the service queue is the head command of its page, which may be taken. -/
theorem State.headCommand_some {s : State} {p : Nat} {c : Cmd} (h : s.headCommand = some (p, c)) :
    c = (s.page p).headCmd p ∧ (s.page p).takeable = true := by
  unfold State.headCommand at h
  split at h
  next q e =>
    cases h
    exact ⟨rfl, List.find?_some (p := fun p => (s.page p).takeable) e⟩
  next => exact nomatch h

/-- The state in which a mailbox row's body runs: its command is taken. -/
def State.taken (s : State) (m : MailRow) (c : Cmd) : State := (s.take m.page c).1

/-- What serving an accepted command does: the row's body answers, and its page goes on. -/
theorem State.accepts_exec {s : State} {i : Instr} {c : Cmd} {m : MailRow} (hi : i.mail = some m)
    (he : exec i s = s.serve m.page m.op m.sub m.body) (h : s.accepts i c) :
    s.serves i m c ∧ (m.body c s.nextId (s.taken m c)).succeeds ∧
      exec i s = .next ((((s.taken m c).settle s.nextId (m.body c s.nextId (s.taken m c))).queueService m.page).skipUnknown 1024) := by
  obtain ⟨m', hs, ha⟩ := h
  have hm : m' = m := Option.some.inj (hs.1.symm.trans hi)
  subst hm
  have hok : (s.replyTo m' c).succeeds := by
    rintro st pos step bulk e
    rw [e] at ha
    exact ha
  have hb : s.replyTo m' c = m'.body c s.nextId (s.taken m' c) := by
    unfold State.replyTo at hok ⊢
    dsimp only at hok ⊢
    split
    next e => rw [e] at hok; exact absurd rfl (hok _ _ _ _)
    next e =>
      rw [e] at hok
      split
      next e' => simp only [e', if_true] at hok; exact absurd rfl (hok _ _ _ _)
      next => rfl
  refine ⟨hs, hb ▸ hok, ?_⟩
  obtain ⟨_, hserving, hhead, hop, hsub⟩ := hs
  have hserve : s.serve m'.page m'.op m'.sub m'.body = .next ((s.serveWith m'.page m'.body).skipUnknown 1024) := by
    unfold State.serve
    rw [hhead]
    simp [hserving, hop, hsub]
  have hc : (s.page m'.page).headCmd m'.page = c := (State.headCommand_some hhead).1.symm
  rw [he, hserve, State.serveWith_eq, hc, hb]
  rfl

/-- The ticket a command is taken under. -/
def Cmd.ticket (c : Cmd) (page : Nat) : Ticket :=
  { page := page, ctag := c.ctag, opcode := c.opcode % 65536, mmp2 := if c.opcode = 1 then c.b 32 == 2 else c.mmp2,
    cirq := bitAt c.flags 0, result := 0, left := 0, fail := 0, mask := 0 }

theorem State.taken_ticket (s : State) (m : MailRow) (c : Cmd) :
    Tab.find? (s.taken m c).tickets s.nextId = some (c.ticket m.page) :=
  Tab.find?_put_self _ _ _

theorem State.taken_page (s : State) (m : MailRow) (c : Cmd) : (s.taken m c).page m.page =
    { s.page m.page with cmdHead := ((s.page m.page).cmdHead + 1) % 64, owed := (s.page m.page).owed + 1 } :=
  State.setPage_page_self s m.page _

/-- A page's ring takes a completion at once: the page is live, nothing waits for the ring, and it has room. -/
structure Page.Ready (p : Page) : Prop where
  live : p.pstate ≠ .frozen
  none : p.waiting = []
  head : p.cplHead < 64
  room : ringUsed p.cplTail p.cplHead < 32

/-- The final completion of a ticket on a page that is ready for it is the next entry of the page's ring. -/
theorem State.finish_answers {s : State} {tk : Nat} {t : Ticket} (h : Tab.find? s.tickets tk = some t)
    (hp : (s.page t.page).Ready) (st : Nat) (result : List Nat) (bulk : Option (List Nat)) :
    ∃ e, ((s.finish tk st result bulk).page t.page).holds ((s.page t.page).cplTail % 32) e ∧ e.event = false ∧
      e.bits = cplBits t.mmp2 t.ctag t.opcode st 0 true false bulk.isSome result := by
  have hpage : (s.finishing tk t).page t.page = s.page t.page := by unfold State.page; rw [State.finishing_pages]
  have hc : ∃ e, (((s.finishing tk t).complete t st 0 true result bulk).page t.page).holds ((s.page t.page).cplTail % 32) e ∧
      e.event = false ∧ e.bits = cplBits t.mmp2 t.ctag t.opcode st 0 true false bulk.isSome result := by
    unfold State.complete State.pumpPage
    dsimp only
    rw [hpage, if_neg hp.live, hp.none, State.setPage_page_self, State.setPage_page_self]
    exact ⟨_, Page.pump_answers 63 hp.live hp.head hp.room, rfl, rfl⟩
  obtain ⟨e, hheld, hrest⟩ := hc
  exact ⟨e, (State.finish_completed h st result bulk t.page).held _ _ hheld, hrest⟩

/-- A page with a command that may be taken, and nothing waiting, stays ready for its completion. -/
theorem State.taken_ready {s : State} {m : MailRow} (c : Cmd) (h : (s.page m.page).takeable = true)
    (hw : (s.page m.page).waiting = []) (hh : (s.page m.page).cplHead < 64) : ((s.taken m c).page m.page).Ready := by
  simp only [Page.takeable, Bool.and_eq_true, bne_iff_ne, decide_eq_true_eq] at h
  obtain ⟨⟨⟨hf, _⟩, _⟩, hroom⟩ := h
  rw [s.taken_page]
  have hr : ringUsed (s.page m.page).cplTail (s.page m.page).cplHead < 32 := by omega
  exact ⟨hf, hw, hh, hr⟩

/-- An accepted command that its row's body answers OK, with a result and a state: the state is kept but for pages, tickets,
counts and queues, and a body that leaves pages and tickets alone has its result in the page's ring. -/
theorem State.accepts_ok {s v : State} {i : Instr} {c : Cmd} {m : MailRow} {r : List Nat} (hi : i.mail = some m)
    (he : exec i s = s.serve m.page m.op m.sub m.body) (h : s.accepts i c)
    (hb : m.body c s.nextId (s.taken m c) = .ok r v) :
    ∃ t, exec i s = .next t ∧ Kept false false 0x27000204 v t ∧ (v.pages = (s.taken m c).pages →
      v.tickets = (s.taken m c).tickets → m.op ≠ 1 → s.answeredOk t m.page c r) := by
  obtain ⟨⟨_, _, hhead, hop', _⟩, _, hx⟩ := s.accepts_exec hi he h
  obtain ⟨_, htake⟩ := State.headCommand_some hhead
  rw [hb] at hx
  have hk : Kept false false 0x27000204 v ((v.settle s.nextId (.ok r v)).queueService m.page) :=
    State.queueService_kept (by decide) (State.settle_kept (by decide) (.refl v) _ (a := .ok r v) (.refl v)) m.page
  refine ⟨_, hx, State.skipUnknown_kept _ (by decide) hk, fun hp ht hop hw hh => ?_⟩
  have hpage : v.page m.page = (s.taken m c).page m.page := by unfold State.page; rw [hp]
  have hticket : Tab.find? v.tickets s.nextId = some (c.ticket m.page) := by rw [ht]; exact s.taken_ticket m c
  have hmmp : (c.ticket m.page).mmp2 = c.mmp2 := if_neg (by rw [hop']; exact hop)
  have hfin : (s.taken m c).settle s.nextId (.ok r v) = v.finish s.nextId stOk (resultOf c.mmp2 r).1 (resultOf c.mmp2 r).2 := by
    unfold State.settle
    dsimp only
    rw [hticket]
    dsimp only
    rw [hmmp]
  obtain ⟨e, hheld, hevent, hbits⟩ := State.finish_answers hticket (hpage ▸ s.taken_ready c htake hw hh) stOk
    (resultOf c.mmp2 r).1 (resultOf c.mmp2 r).2
  have hslot : (v.page (c.ticket m.page).page).cplTail = (s.page m.page).cplTail := by
    rw [show (c.ticket m.page).page = m.page from rfl, hpage, s.taken_page]
  rw [hslot] at hheld
  have hs : (v.finish s.nextId stOk (resultOf c.mmp2 r).1 (resultOf c.mmp2 r).2).PagesServed
      ((State.queueService ((s.taken m c).settle s.nextId (.ok r v)) m.page).skipUnknown 1024) := by
    rw [hfin]
    exact .trans (.of_eq (State.queueService_pages _ _)) (State.skipUnknown_served _ _)
  obtain ⟨_, _, _, _, _, hfind⟩ := (hs m.page).held _ _ hheld
  exact ⟨e, hfind, hevent, by rw [hbits, hmmp]; rfl⟩

/-- An accepted command whose row's body completes it itself. -/
theorem State.accepts_wait {s v : State} {i : Instr} {c : Cmd} {m : MailRow} (hi : i.mail = some m)
    (he : exec i s = s.serve m.page m.op m.sub m.body) (h : s.accepts i c)
    (hb : m.body c s.nextId (s.taken m c) = .wait v) : ∃ t, exec i s = .next t ∧ Kept false false 0x27000204 v t := by
  obtain ⟨_, _, hx⟩ := s.accepts_exec hi he h
  rw [hb] at hx
  exact ⟨_, hx, State.skipUnknown_kept _ (by decide) (State.queueService_kept (by decide) (.refl v) m.page)⟩

/-- A row whose checks come first answers as what follows them. -/
theorem State.accepts_chain {s v : State} {i : Instr} {c : Cmd} {m : MailRow} {r : List Nat} {l : List (Bool × Nat × Nat × Nat)}
    (hi : i.mail = some m) (he : exec i s = s.serve m.page m.op m.sub m.body) (h : s.accepts i c)
    (hb : m.body c s.nextId (s.taken m c) = chain l (.ok r v)) :
    ∃ t, exec i s = .next t ∧ Kept false false 0x27000204 v t ∧ (v.pages = (s.taken m c).pages →
      v.tickets = (s.taken m c).tickets → m.op ≠ 1 → s.answeredOk t m.page c r) := by
  obtain ⟨_, hok, _⟩ := s.accepts_exec hi he h
  rw [hb] at hok
  exact s.accepts_ok hi he h (hb.trans (chain_succeeds hok).1)

end Sys2Proof.Machine

/-! # Commands that act at once (R31, R312, R449, R523, R527, R528, R482, R486, R544, R546, R547) -/

namespace Sys2Proof.Machine

theorem affinityReset_acts {p : Fin 521} {s : State} {c : Cmd} (h : s.accepts (.affinityReset p) c) :
    Completes (.affinityReset p) s fun t =>
      s.answeredOk t p.val c [] ∧ t.aff = if c.le 0 2 = 0xFFFF then [] else Tab.erase s.aff (c.le 0 2) := by
  obtain ⟨t, ht, hk, ha⟩ := s.accepts_chain (i := .affinityReset p) rfl rfl h rfl
  exact ⟨t, ht, ha rfl rfl (by simp), hk.same .aff⟩

theorem dumpFree_acts {p : Fin 521} {s : State} {c : Cmd} (h : s.accepts (.dumpFree p) c) :
    Completes (.dumpFree p) s fun t =>
      s.answeredOk t p.val c (leBytes 8 s.lake.dumpAt) ∧ t.lake = { s.lake with dumpAt := 0 } := by
  obtain ⟨t, ht, hk, ha⟩ := s.accepts_chain (i := .dumpFree p) rfl rfl h rfl
  exact ⟨t, ht, ha rfl rfl (by simp), hk.same .lake⟩

theorem ownerAccept_acts {p : Fin 521} {s : State} {c : Cmd} (h : s.accepts (.ownerAccept p) c) :
    Completes (.ownerAccept p) s fun t => s.answeredOk t p.val c [] ∧
      t.hosts = (s.setHost c.hostNum { s.host c.hostNum with accept := some s.clk.ticks }).hosts := by
  obtain ⟨t, ht, hk, ha⟩ := s.accepts_chain (i := .ownerAccept p) rfl rfl h rfl
  exact ⟨t, ht, ha rfl rfl (by simp), hk.same .hosts⟩

/-- A row that sets a tenant's state once its checks pass. -/
theorem State.accepts_tenant {s : State} {i : Instr} {c : Cmd} {m : MailRow} {r : List Nat} {l : List (Bool × Nat × Nat × Nat)}
    {x : TenSt} (h : s.accepts i c) (hi : i.mail = some m) (he : exec i s = s.serve m.page m.op m.sub m.body)
    (hb : m.body c s.nextId (s.taken m c) = chain l (.ok r ((s.taken m c).setTenSt c.tenant x))) :
    Completes i s fun t => t.tenants = (s.setTenSt c.tenant x).tenants := by
  obtain ⟨t, ht, hk, _⟩ := s.accepts_chain hi he h hb
  exact ⟨t, ht, hk.same .tenants⟩

/-- The streams a tenant subscribes to after SUBSCRIBE. -/
def Cmd.subscribed (c : Cmd) (add : Bool) (x : TenSt) : TenSt :=
  { x with subs := if !bitAt (c.b 1) 0 then x.subs else if !add then x.subs.filter (fun i => i != c.le 2 2)
    else if x.subs.contains (c.le 2 2) then x.subs else x.subs ++ [c.le 2 2] }

theorem Cmd.subscribed_add (c : Cmd) (x : TenSt) : c.subscribed true x = { x with
    subs := if bitAt (c.b 1) 0 && !x.subs.contains (c.le 2 2) then x.subs ++ [c.le 2 2] else x.subs } := by
  unfold Cmd.subscribed
  cases bitAt (c.b 1) 0 <;> cases x.subs.contains (c.le 2 2) <;> rfl

theorem Cmd.subscribed_remove (c : Cmd) (x : TenSt) : c.subscribed false x = { x with
    subs := if bitAt (c.b 1) 0 then x.subs.filter (fun n => n != c.le 2 2) else x.subs } := by
  unfold Cmd.subscribed
  cases bitAt (c.b 1) 0 <;> rfl

/-- The machine with a sampling unit set. -/
def State.putSampler (s : State) (n : Nat) (u : Sampler) : State :=
  { s with trace := { s.trace with samplers := Tab.put s.trace.samplers n u } }

/-- A counter's armed unit counts that counter for that tenant. -/
theorem State.unitOf_some {s : State} {sel ten j : Nat} {u : Sampler} (h : s.unitOf sel ten = some (j, u)) :
    u.sel = sel ∧ u.ten = ten := by
  have := List.find?_some h
  simpa using this

/-- Arming a counter that has a unit sets the unit's period. -/
theorem armBody_armed {c : Cmd} {tk : Nat} {s : State} {j : Nat} {u : Sampler} (h : s.unitOf (c.le 2 2) c.sampleTen = some (j, u)) :
    ∃ l, armBody c tk s = chain l (.ok [] (s.putSampler j { u with period := c.le 8 6 })) := by
  unfold armBody
  dsimp only
  rw [h]
  exact ⟨_, rfl⟩

/-- Arming a counter without a unit takes the first free one. -/
theorem armBody_free {c : Cmd} {tk : Nat} {s : State} (h : s.unitOf (c.le 2 2) c.sampleTen = none)
    (hok : (armBody c tk s).succeeds) : ∃ n u, armBody c tk s = .ok [] (s.putSampler n u) ∧ u.sel = c.le 2 2 ∧
      u.ten = c.sampleTen ∧ u.period = c.le 8 6 ∧ n < 16 ∧ Tab.find? s.trace.samplers n = none ∧ u.pendingAt = none := by
  unfold armBody at hok ⊢
  dsimp only at hok ⊢
  obtain ⟨he, hc⟩ := chain_succeeds hok
  rw [he, h]
  have hsome : ((List.range 16).find? (fun i => (Tab.find? s.trace.samplers i).isNone)).isNone = false := by
    have := List.find?_eq_none.mp hc _ (List.mem_cons_of_mem _ (List.mem_cons_of_mem _ (List.mem_cons_of_mem _
      (List.mem_cons_of_mem _ (List.mem_singleton_self _)))))
    simpa [h] using this
  cases hf : (List.range 16).find? (fun i => (Tab.find? s.trace.samplers i).isNone) with
  | none => rw [hf] at hsome; cases hsome
  | some n =>
    refine ⟨n, _, rfl, rfl, rfl, rfl, ?_, ?_, rfl⟩
    · simpa using List.mem_of_find?_eq_some hf
    · simpa using List.find?_some hf

/-- CNT_ARM_SAMPLING (R527, R528). -/
theorem cntArmSampling_acts {p : Fin 521} {s : State} {c : Cmd} (h : s.accepts (.cntArmSampling p) c) :
    Completes (.cntArmSampling p) s fun t =>
      ∃ n u, t.trace.samplers = Tab.put s.trace.samplers n u ∧ u.sel = c.le 2 2 ∧ u.ten = c.sampleTen ∧
        u.period = c.le 8 6 ∧ match s.unitOf (c.le 2 2) c.sampleTen with
          | some (j, v) => n = j ∧ u = { v with period := c.le 8 6 }
          | none => n < 16 ∧ Tab.find? s.trace.samplers n = none ∧ u.pendingAt = none := by
  have hm : (Instr.cntArmSampling p).mail = some ⟨p.val, 0x70, subIs 3, armBody⟩ := rfl
  cases hu : s.unitOf (c.le 2 2) c.sampleTen with
  | some x =>
    obtain ⟨j, v⟩ := x
    obtain ⟨l, hb⟩ := armBody_armed (tk := s.nextId) (s := s.taken ⟨p.val, 0x70, subIs 3, armBody⟩ c) hu
    obtain ⟨t, ht, hk, _⟩ := s.accepts_chain hm rfl h hb
    obtain ⟨hsel, hten⟩ := State.unitOf_some hu
    exact ⟨t, ht, j, _, congrArg Trace.samplers (hk.same .trace), hsel, hten, rfl, rfl, rfl⟩
  | none =>
    obtain ⟨_, hok, _⟩ := s.accepts_exec hm rfl h
    obtain ⟨n, u, hb, hsel, hten, hperiod, hfree⟩ := armBody_free (c := c) (tk := s.nextId)
      (s := s.taken ⟨p.val, 0x70, subIs 3, armBody⟩ c) hu hok
    obtain ⟨t, ht, hk, _⟩ := s.accepts_ok hm rfl h hb
    exact ⟨t, ht, n, u, congrArg Trace.samplers (hk.same .trace), hsel, hten, hperiod, hfree⟩

/-- CNT_DISARM_SAMPLING (R527). -/
theorem cntDisarmSampling_acts {p : Fin 521} {s : State} {c : Cmd} (h : s.accepts (.cntDisarmSampling p) c) :
    Completes (.cntDisarmSampling p) s fun t =>
      t.trace.samplers = s.trace.samplers.filter (fun x => !(x.2.sel == c.le 2 2 && x.2.ten == c.sampleTen)) := by
  obtain ⟨t, ht, hk, _⟩ := s.accepts_chain (i := .cntDisarmSampling p) rfl rfl h rfl
  exact ⟨t, ht, congrArg Trace.samplers (hk.same .trace)⟩

/-- DBG_ISSUE_CODE (R546). -/
theorem dbgIssueCode_acts {p : Fin 521} {s : State} {c : Cmd} (h : s.accepts (.dbgIssueCode p) c) :
    Completes (.dbgIssueCode p) s fun t =>
      t.trace.code = some ((Config.freeWord s.freeCount).toNat, s.clk.ticks) ∧ t.trace.tries = 0 ∧
        s.answeredOk t p.val c (leBytes 8 (Config.freeWord s.freeCount).toNat) := by
  obtain ⟨t, ht, hk, ha⟩ := s.accepts_chain (i := .dbgIssueCode p) rfl rfl h rfl
  have htrace := hk.same .trace
  exact ⟨t, ht, congrArg Trace.code htrace, congrArg Trace.tries htrace, ha rfl rfl (by simp)⟩

/-- The live code of a debug session (R546). -/
theorem dbgUnlockBody_live {c : Cmd} {tk : Nat} {s : State} {code at_ : Nat} (h : s.trace.code = some (code, at_))
    (hl : s.clk.ticks ≤ at_ + ms 10000) : dbgUnlockBody c tk s = chain [c.stray [(0, 8)]] (if c.le 0 8 = code then
        .ok [] { s with trace := { s.trace with unlocked := true, code := none, tries := 0 } }
      else .wait (({ s with trace := { s.trace with tries := if s.trace.tries + 1 = 3 then 0 else s.trace.tries + 1,
                                                    code := if s.trace.tries + 1 = 3 then none else s.trace.code } }).finish
        tk stDenied (failResult 0xFFFF 7) none)) := by
  unfold dbgUnlockBody
  rw [h]
  simp [Option.filter, hl]

/-- DBG_UNLOCK with a live code: the code unlocks; each other one counts, and the third ends the session (R486, R546, R547). -/
theorem dbgUnlock_acts {p : Fin 521} {s : State} {c : Cmd} {code at_ : Nat} (h : s.accepts (.dbgUnlock p) c)
    (hc : s.trace.code = some (code, at_)) (hl : s.clk.ticks ≤ at_ + ms 10000) : Completes (.dbgUnlock p) s fun t =>
      if c.le 0 8 = code then t.trace.unlocked = true ∧ t.trace.code = none ∧ t.trace.tries = 0
      else t.trace.unlocked = s.trace.unlocked ∧
        (s.trace.tries ≠ 2 → t.trace.tries = s.trace.tries + 1 ∧ t.trace.code = s.trace.code) ∧
        (s.trace.tries = 2 → t.trace.tries = 0 ∧ t.trace.code = none) := by
  have hm : (Instr.dbgUnlock p).mail = some ⟨p.val, 0x92, anySub, dbgUnlockBody⟩ := rfl
  obtain ⟨_, hok, _⟩ := s.accepts_exec hm rfl h
  have hb := dbgUnlockBody_live (c := c) (tk := s.nextId) (s := s.taken ⟨p.val, 0x92, anySub, dbgUnlockBody⟩ c) hc hl
  have hb' := hb.trans (chain_succeeds (hb ▸ hok)).1
  split at hb'
  next heq =>
    obtain ⟨t, ht, hk, _⟩ := s.accepts_ok hm rfl h hb'
    refine ⟨t, ht, ?_⟩
    dsimp only
    rw [if_pos heq, show t.trace = _ from hk.same .trace]
    exact ⟨rfl, rfl, rfl⟩
  next hne =>
    obtain ⟨t, ht, hk⟩ := s.accepts_wait hm rfl h hb'
    refine ⟨t, ht, ?_⟩
    have htrace : t.trace = { s.trace with tries := if s.trace.tries + 1 = 3 then 0 else s.trace.tries + 1,
                                           code := if s.trace.tries + 1 = 3 then none else s.trace.code } :=
      (hk.same .trace).trans ((State.finish_kept (Nat.or_self _) (.refl _) s.nextId stDenied _ none).same .trace)
    dsimp only
    rw [if_neg hne, htrace]
    refine ⟨rfl, fun h2 => ?_, fun h2 => ?_⟩
    · simp [h2]
    · simp [h2]

/-- DBG_RESUME clears every latch, and the stop ends unless its pin still holds it (R544). -/
theorem dbgResume_acts {p : Fin 521} {s : State} {c : Cmd} (h : s.accepts (.dbgResume p) c) :
    Completes (.dbgResume p) s fun t =>
      t.pins = if s.pins.stopIn then { s.pins with latches := 0 } else { s.pins with latches := 0, stopped := false } := by
  obtain ⟨t, ht, hk, _⟩ := s.accepts_chain (i := .dbgResume p) rfl rfl h rfl
  refine ⟨t, ht, (hk.same .pins).trans ?_⟩
  cases hs : s.pins.stopIn with
  | true => rw [State.stopEnds_stopping (by simp [State.stopping, State.taken, State.take, State.cntG, State.setPage, hs])]; rfl
  | false => rw [(State.stopEnds_clear (by simp [State.stopping, State.taken, State.take, State.cntG, State.setPage, hs])).1]; rfl

/-- Settles O57, row by row. -/
theorem immediateCommandsAct : Obligations.ImmediateCommandsAct := by
  unfold Obligations.ImmediateCommandsAct
  refine ⟨fun _ _ _ => affinityReset_acts, fun _ _ _ => dumpFree_acts, fun _ _ _ => ownerAccept_acts, ?tenants,
    fun _ _ _ => cntArmSampling_acts, fun _ _ _ => cntDisarmSampling_acts, fun _ _ _ => dbgIssueCode_acts,
    fun _ _ _ _ _ => dbgUnlock_acts, fun _ _ _ => dbgResume_acts⟩
  rintro i p s c x on h (⟨rfl, rfl⟩ | ⟨rfl, rfl⟩ | ⟨rfl, rfl⟩ | ⟨rfl, rfl⟩ | ⟨rfl, rfl, rfl⟩ | ⟨rfl, rfl, rfl⟩)
  · exact s.accepts_tenant h rfl rfl rfl
  · exact s.accepts_tenant h rfl rfl rfl
  · exact s.accepts_tenant h rfl rfl rfl
  · exact s.accepts_tenant h rfl rfl rfl
  · rw [← Cmd.subscribed_add]
    exact s.accepts_tenant h rfl rfl rfl
  · rw [← Cmd.subscribed_remove]
    exact s.accepts_tenant h rfl rfl rfl

end Sys2Proof.Machine

/-! # Register writes (R8, R38, R522, R550, R553-R555) -/

namespace Sys2Proof.Machine

/-- A write to a reserved offset. -/
theorem registerWrite_reserved {src : Fin 16} {off : BitVec 25} {v : BitVec 32} {s : State} (hp : s.pins.porst = false)
    (ha : assigned off.toNat = false) : exec (.registerWrite src off v) s = .next (s.accErr src.val off.toNat true true) := by
  show execRegisterWrite src off v s = _
  unfold execRegisterWrite
  dsimp only
  rw [if_neg (by simp [hp]), if_pos (by simp [ha])]

/-- A write to an assigned offset, but for the two reset registers, goes through its rights. -/
theorem registerWrite_assigned {src : Fin 16} {off : BitVec 25} {v : BitVec 32} {s : State} (hp : s.pins.porst = false)
    (ha : assigned off.toNat = true) (h0 : off.toNat ≠ 0x100) (h1 : off.toNat ≠ 0x104) : exec (.registerWrite src off v) s =
      s.regWrite src.val off.toNat (s.writeRight src.val off.toNat) (fun s => s.writeReg src.val off.toNat v.toNat) := by
  show execRegisterWrite src off v s = _
  unfold execRegisterWrite
  dsimp only
  rw [if_neg (by simp [hp]), if_neg (by simp [ha]), if_neg h0, if_neg h1]

theorem State.regWrite_refused {s : State} {src off : Nat} {right : Bool} {f : State → State} (hp : s.pins.porst = false)
    (hr : right = false) : s.regWrite src off right f = .next (s.accErr src off true false) := by
  unfold State.regWrite
  rw [if_neg (by simp [hp]), if_pos (by simp [hr])]

theorem State.regWrite_taken {s : State} {src off : Nat} {right : Bool} {f : State → State} (hp : s.pins.porst = false)
    (hr : right = true) (ho : s.boot.coreReset = false ∨ aonOffset off = true) : s.regWrite src off right f = .next (f s) := by
  unfold State.regWrite
  rw [if_neg (by simp [hp]), if_neg (by obtain h | h := ho <;> simp [hr, h])]

/-- A word of host storage. -/
theorem State.writeReg_hostMem (s : State) (src v : Nat) {off : Nat} (h1 : 0x28000 ≤ off) (h2 : off < 0x2C000) :
    s.writeReg src off v = { s with hostMem := putWordCells s.hostMem (off - 0x28000) v } := by
  unfold State.writeReg
  rw [if_neg (by omega), if_neg (by omega), if_neg (by omega), if_pos h2]

/-- A word of the transfer area. -/
theorem State.writeReg_xfer (s : State) (src v : Nat) {off : Nat} (h1 : 0x2C000 ≤ off) (h2 : off < 0x30000) :
    s.writeReg src off v = { s with xfer := putWordCells s.xfer (off - 0x2C000) v } := by
  unfold State.writeReg
  rw [if_neg (by omega), if_neg (by omega), if_neg (by omega), if_neg (by omega), if_pos h2]

/-- Four cells written are the four bytes of the word. -/
theorem putWordCells_get (m : List Host.Cell) (o v : Nat) {i : Nat} (h : i < 4) :
    Tab.get (0 : Byte) (putWordCells m o v) (o + i) = BitVec.ofNat 8 (v / 256 ^ i) := by
  have hw : putWordCells m o v = Tab.set 0 (Tab.set 0 (Tab.set 0 (Tab.set 0 m (o + 0) (BitVec.ofNat 8 (v / 256 ^ 0))) (o + 1)
      (BitVec.ofNat 8 (v / 256 ^ 1))) (o + 2) (BitVec.ofNat 8 (v / 256 ^ 2))) (o + 3) (BitVec.ofNat 8 (v / 256 ^ 3)) := rfl
  have hother : ∀ {j k : Nat} (t : List Host.Cell) (a : Byte), j < k → Tab.get (0 : Byte) (Tab.set 0 t (o + k) a) (o + j) =
      Tab.get 0 t (o + j) := fun t a hjk => Tab.get_set_other 0 t a (by omega)
  rw [hw]
  match i, h with
  | 0, _ => rw [hother _ _ (by decide), hother _ _ (by decide), hother _ _ (by decide), Tab.get_set_self]
  | 1, _ => rw [hother _ _ (by decide), hother _ _ (by decide), Tab.get_set_self]
  | 2, _ => rw [hother _ _ (by decide), Tab.get_set_self]
  | 3, _ => rw [Tab.get_set_self]

/-- Settles O50. -/
theorem registerWritesComplete : Obligations.RegisterWritesComplete := by
  unfold Obligations.RegisterWritesComplete
  refine ⟨fun src off v s hp ha => registerWrite_reserved hp ha, fun src off v s hp ha h0 h1 hr => ?_,
    fun src off v s hp ha hr ho => ?_, fun m o v i _ hi => putWordCells_get m o v hi⟩
  · rw [registerWrite_assigned hp ha h0 h1, State.regWrite_refused hp hr]
  · have htaken (h0 : off.toNat ≠ 0x100) (h1 : off.toNat ≠ 0x104) :
        exec (.registerWrite src off v) s = .next (s.writeReg src.val off.toNat v.toNat) :=
      (registerWrite_assigned hp ha h0 h1).trans (State.regWrite_taken hp hr ho)
    refine ⟨fun h1 h2 => ?_, fun h1 h2 => ?_, ?_, ?_, ?_⟩
    · rw [htaken (by omega) (by omega), State.writeReg_hostMem s _ _ h1 h2]
    · rw [htaken (by omega) (by omega), State.writeReg_xfer s _ _ h1 h2]
    · rintro rfl
      exact htaken (by decide) (by decide)
    · rintro rfl
      exact htaken (by decide) (by decide)
    · rintro rfl
      exact htaken (by decide) (by decide)

end Sys2Proof.Machine

/-! # Self-refresh and the PLLs (R140, R141, R149) -/

namespace Sys2Proof.Machine

theorem State.sck_congr {s t : State} (h : t.sclk = s.sclk) (j : Nat) : t.sck j = s.sck j := by
  unfold State.sck
  rw [h]

/-- The trained channels of a stack are what its calibration and its supply say. -/
theorem State.upChans_congr {s t : State} (hs : t.supply = s.supply) (hc : t.chans = s.chans) (k : Nat) :
    t.upChans k = s.upChans k := by
  unfold State.upChans State.geom State.sup State.chan
  rw [hs, hc]

/-- A stack that settles sleeps with its PLL in standby, or is as it was. -/
theorem State.settleSleep_cases (s : State) (k : Nat) : s.settleSleep k = s ∨
    s.settleSleep k = s.setSck k { s.sck k with
      asleep := true, asleepAt := s.clk.ticks, waking := false,
      pll := if (s.sck k).switching then (s.sck k).pll else .standby } := by
  unfold State.settleSleep
  dsimp only
  split
  · exact .inr rfl
  · exact .inl rfl

theorem State.closeChannels_sclk (s : State) (k : Nat) (cs : List Nat) :
    (cs.foldl (fun s c => (s.closeBanks (k * 64 + 2 * c)).closeBanks (k * 64 + 2 * c + 1)) s).sclk = s.sclk :=
  (Kept.foldl (r := false) (b := false) (w := 0x400) (fun _ _ h => State.closeBanks_kept (by decide)
    (State.closeBanks_kept (by decide) h _) _) cs s (.refl s)).same .sclk

/-- Channels that enter self-refresh are in it, and the PLL stays or goes to standby; no other stack's clock changes. -/
theorem State.enterSR_sck (s : State) (k : Nat) (cs : List Nat) :
    (∀ j, j ≠ k → (s.enterSR k cs).sck j = s.sck j) ∧ (∀ x ∈ cs, x ∈ ((s.enterSR k cs).sck k).sr) ∧
      (((s.enterSR k cs).sck k).pll = (s.sck k).pll ∨ ((s.enterSR k cs).sck k).pll = .standby) := by
  unfold State.enterSR
  dsimp only
  have hu := s.closeChannels_sclk k cs
  generalize cs.foldl (fun s c => (s.closeBanks (k * 64 + 2 * c)).closeBanks (k * 64 + 2 * c + 1)) s = u at hu ⊢
  have hj := State.sck_congr hu
  have hmem : ∀ x ∈ cs, x ∈ (u.sck k).sr ++ cs.filter (fun x => !(u.sck k).sr.contains x) := by
    intro x hx
    by_cases h : x ∈ (u.sck k).sr <;> simp [h, hx]
  generalize hv : u.setSck k { u.sck k with sr := (u.sck k).sr ++ cs.filter (fun x => !(u.sck k).sr.contains x) } = v
  have hvk : v.sck k = { u.sck k with sr := (u.sck k).sr ++ cs.filter (fun x => !(u.sck k).sr.contains x) } := by
    rw [← hv, State.setSck_sck_self]
  have hvj : ∀ j, j ≠ k → v.sck j = s.sck j := fun j h => by rw [← hv, State.setSck_sck_other _ _ h, hj]
  have hvp : (v.sck k).pll = (s.sck k).pll := by rw [hvk, ← hj]
  obtain e | e := v.settleSleep_cases k <;> rw [e]
  · exact ⟨hvj, by rw [hvk]; exact hmem, .inl hvp⟩
  · refine ⟨fun j h => by rw [State.setSck_sck_other _ _ h, hvj j h], ?_, ?_⟩ <;> rw [State.setSck_sck_self]
    · rw [hvk]; exact hmem
    · dsimp only
      split
      · exact .inl hvp
      · exact .inr rfl

/-- A stack put to sleep: its trained channels are in self-refresh and its PLL in standby, unless it was off; no other
stack's clock changes. -/
theorem State.sleepAll_sck (s : State) (k : Nat) :
    (∀ j, j ≠ k → (s.sleepAll k).sck j = s.sck j) ∧ (∀ x ∈ s.upChans k, x ∈ ((s.sleepAll k).sck k).sr) ∧
      ((s.sck k).pll ≠ .off → ((s.sleepAll k).sck k).pll = .standby) := by
  obtain ⟨hj, hsr, hpll⟩ := s.enterSR_sck k (s.upChans k)
  unfold State.sleepAll
  refine ⟨fun j h => (State.setSck_sck_other _ _ h).trans (hj j h), ?_, fun hoff => ?_⟩ <;> rw [State.setSck_sck_self]
  · exact hsr
  · have : ((s.enterSR k (s.upChans k)).sck k).pll ≠ .off := by
      obtain e | e := hpll <;> rw [e]
      · exact hoff
      · decide
    simp [this]

/-! ## Waking -/

/-- What a wake keeps of a stack's clock: the reference it lost, and a PLL that locks. -/
def StackClk.Wakes (c d : StackClk) : Prop := d.lostRef = c.lostRef ∧ (c.pll = .locking → d.pll = .locking)

theorem StackClk.Wakes.refl (c : StackClk) : c.Wakes c := ⟨rfl, id⟩

theorem StackClk.Wakes.trans {c d e : StackClk} (h : c.Wakes d) (g : d.Wakes e) : c.Wakes e :=
  ⟨g.1.trans h.1, fun x => g.2 (h.2 x)⟩

/-- Channels that leave self-refresh leave the stack's PLL alone. -/
theorem State.exitSR_wakes (s : State) (k : Nat) (cs : List Nat) (j : Nat) : (s.sck j).Wakes ((s.exitSR k cs).sck j) := by
  unfold State.exitSR
  dsimp only
  generalize hu : State.freshRows _ k cs = u
  have hs : u.sclk = s.sclk := by
    rw [← hu]
    refine (State.freshRows_kept (r := false) (b := false) (w := 0x52400) (by decide) (Kept.foldl (fun _ c h =>
      Kept.foldl (fun _ i h => ?_) [0, 1] _ h) cs s (.refl s)) k cs).same .sclk
    exact State.spend_kept (by decide) (State.setArb_kept (by decide) (State.freshBanks_kept (by decide) h _ _ _) _ _) _ _ _ _
  have hj := State.sck_congr hs
  by_cases e : j = k
  · subst e
    rw [State.setSck_sck_self, ← hj]
    exact ⟨rfl, id⟩
  · rw [State.setSck_sck_other _ _ e, hj]
    exact .refl _

theorem State.rewake_wakes (s : State) (k j : Nat) : (s.sck j).Wakes ((s.rewake k).sck j) := by
  unfold State.rewake
  split
  · unfold State.wakeStack
    dsimp only
    split
    · exact .refl _
    · split
      · exact .refl _
      · split
        · split
          · exact s.exitSR_wakes k _ j
          · exact .refl _
        · by_cases e : j = k
          · subst e
            rw [State.setSck_sck_self]
            exact ⟨rfl, fun h => by simp [h]⟩
          · rw [State.setSck_sck_other _ _ e]
            exact .refl _
  · exact .refl _

theorem State.rewakes_wakes (l : List Nat) (j : Nat) : ∀ s : State, (s.sck j).Wakes ((l.foldl State.rewake s).sck j) := by
  induction l with
  | nil => exact fun s => .refl _
  | cons k l ih => exact fun s => (s.rewake_wakes k j).trans (ih _)

/-! ## Losses -/

/-- A locked PLL that loses lock (R141). -/
def State.pllLost (s : State) (k : Nat) : State :=
  let u := (s.note 0x05 1 k [(1, (s.sck k).fails.length)]).sleepAll k
  u.setSck k { u.sck k with waking := true, pll := .locking }

theorem pllLockLoss_lost {k : Fin 16} {s : State} (hp : (s.sck k.val).pll = .locked) (ha : (s.sck k.val).asleep = false) :
    exec (.pllLockLoss k false) s = .next (s.pllLost k.val) := by
  show execPllLockLoss k false s = _
  unfold execPllLockLoss
  dsimp only
  rw [if_pos (by simp), if_pos (by simp [hp, ha])]
  rfl

/-- A relock that fails is counted with those of the last second; the third holds the PLL (R141). -/
theorem pllLockLoss_failed {k : Fin 16} {s : State} {late : List Nat} (hp : (s.sck k.val).pll = .locking)
    (hl : late = (s.sck k.val).fails.filter (fun t => decide (s.now < t + 1000000000))) :
    exec (.pllLockLoss k true) s = .next (if late.length < 2 then s.setSck k.val { s.sck k.val with fails := s.now :: late }
      else (s.setSck k.val { s.sck k.val with fails := s.now :: late, pllHold := true, waking := false, pll := .standby }).note
        0x05 1 k.val [(1, 3)]) := by
  subst hl
  show execPllLockLoss k true s = _
  unfold execPllLockLoss
  dsimp only
  rw [if_neg (by simp [hp])]
  split
  next h => simp [hp] at h
  · simp only [List.length_cons]
    split
    next h => rw [if_pos (by omega)]
    next h => rw [if_neg (by omega)]

theorem State.note_sck (s : State) (cause cls num : Nat) (args : List (Nat × Nat)) (j : Nat) :
    (s.note cause cls num args).sck j = s.sck j :=
  State.sck_congr ((State.note_kept (Nat.or_self _) (.refl s) cause cls num args).same .sclk) j

theorem State.note_upChans (s : State) (cause cls num : Nat) (args : List (Nat × Nat)) (k : Nat) :
    (s.note cause cls num args).upChans k = s.upChans k :=
  let h := State.note_kept (Nat.or_self _) (.refl s) cause cls num args
  State.upChans_congr (h.same .supply) (h.same .chans) k

theorem State.sleepAll_upChans (s : State) (k j : Nat) : (s.sleepAll k).upChans j = s.upChans j :=
  let h := State.sleepAll_kept (Nat.or_self _) (.refl s) k
  State.upChans_congr (h.same .supply) (h.same .chans) j

/-- One stack loses its reference (R140). -/
def State.loseRef (s : State) (k : Nat) : State :=
  if (s.sck k).pll == .locked then (s.sleepAll k).setSck k { (s.sleepAll k).sck k with lostRef := true } else s

theorem refClkLoss_lost {s : State} (h : s.clk.refLost = false) : exec .refClkLoss s = .next ((List.range 16).foldl State.loseRef
    { s.note 0x04 0 0 [] with clk := { (s.note 0x04 0 0 []).clk with
      refLost := true, refLostAt := (s.note 0x04 0 0 []).clk.ticks, incLast := (s.note 0x04 0 0 []).clk.inc } }) := by
  show execRefClkLoss s = _
  unfold execRefClkLoss
  rw [if_neg (by simp [h])]
  rfl

/-- A stack that lost its reference: its PLL in standby, its channels cs in self-refresh. -/
def StackClk.RefLost (c : StackClk) (cs : List Nat) : Prop := c.pll = .standby ∧ c.lostRef = true ∧ ∀ x ∈ cs, x ∈ c.sr

theorem State.loseRef_upChans (s : State) (k j : Nat) : (s.loseRef k).upChans j = s.upChans j := by
  unfold State.loseRef
  split
  · exact s.sleepAll_upChans k j
  · rfl

theorem State.loseRef_other (s : State) {k j : Nat} (h : j ≠ k) : (s.loseRef k).sck j = s.sck j := by
  unfold State.loseRef
  split
  · rw [State.setSck_sck_other _ _ h, (s.sleepAll_sck k).1 j h]
  · rfl

theorem State.loseRef_self {s : State} {k : Nat} (h : (s.sck k).pll = .locked) :
    ((s.loseRef k).sck k).RefLost (s.upChans k) := by
  obtain ⟨_, hsr, hpll⟩ := s.sleepAll_sck k
  unfold State.loseRef
  rw [if_pos (by simp [h]), State.setSck_sck_self]
  exact ⟨hpll (by simp [h]), rfl, hsr⟩

/-- A stack that lost its reference is not visited again. -/
theorem State.loseRef_lost {s : State} {k j : Nat} {cs : List Nat} (h : (s.sck j).RefLost cs) :
    ((s.loseRef k).sck j).RefLost cs := by
  by_cases e : j = k
  · subst e
    unfold State.loseRef
    rw [if_neg (by simp [h.1])]
    exact h
  · rw [s.loseRef_other e]
    exact h

theorem State.loseRefs_lost {j : Nat} {cs : List Nat} (l : List Nat) : ∀ s : State, (s.sck j).RefLost cs →
    ((l.foldl State.loseRef s).sck j).RefLost cs := by
  induction l with
  | nil => exact fun s h => h
  | cons k l ih => exact fun s h => ih _ (State.loseRef_lost h)

/-- Every stack visited with a locked PLL loses its reference. -/
theorem State.loseRefs_locked {j : Nat} (l : List Nat) : ∀ s : State, j ∈ l → (s.sck j).pll = .locked →
    ((l.foldl State.loseRef s).sck j).RefLost (s.upChans j) := by
  induction l with
  | nil => exact fun s h => nomatch h
  | cons k l ih =>
    intro s hj hp
    by_cases e : j = k
    · subst e
      exact State.loseRefs_lost l _ (State.loseRef_self hp)
    · have := ih (s.loseRef k) (by simpa [e] using hj) (by rw [s.loseRef_other e]; exact hp)
      rwa [s.loseRef_upChans] at this

theorem State.loseRefs_clk (l : List Nat) (s : State) : (l.foldl State.loseRef s).clk = s.clk := by
  refine (Kept.foldl (r := false) (b := false) (w := 0x4400) (fun s k h => ?_) l s (.refl s)).same .clk
  unfold State.loseRef
  split
  · exact State.setSck_kept (by decide) (State.sleepAll_kept (by decide) h k) _ _
  · exact h

/-- REF_CLK runs again at a stack: a PLL that lost it relocks (R140). -/
def StackClk.refBack (c : StackClk) : StackClk :=
  if c.lostRef then { c with lostRef := false, pll := if c.pll == .standby && c.doms != 0 then .locking else c.pll } else c

theorem refClkRestored_runs {s : State} (h : s.clk.refLost = true) (ht : s.clk.refLostAt + us 1000 ≤ s.clk.ticks) :
    exec .refClkRestored s = .next ((List.range 16).foldl State.rewake
      { s with clk := { s.clk with refLost := false }, sclk := Tab.mapVals s.sclk (fun _ c => c.refBack) }) := by
  show execRefClkRestored s = _
  unfold execRefClkRestored
  rw [if_neg (by simp [h]; omega)]
  rfl

theorem State.refBack_sck (s : State) (k : Nat) (clk : Clock) :
    ({ s with clk := clk, sclk := Tab.mapVals s.sclk (fun _ c => c.refBack) } : State).sck k = (s.sck k).refBack := by
  unfold State.sck Tab.get
  dsimp only
  rw [Tab.find?_mapVals]
  cases Tab.find? s.sclk k <;> rfl

/-- Settles O35. -/
theorem clockLossesComplete : Obligations.ClockLossesComplete := by
  unfold Obligations.ClockLossesComplete
  refine ⟨?lost, ?failed, ?refLost, ?refBack, ?ntLock⟩
  case lost =>
    intro k s hp ha
    refine ⟨_, pllLockLoss_lost hp ha, ?_⟩
    unfold State.pllLost
    dsimp only
    rw [State.setSck_sck_self]
    refine ⟨rfl, rfl, fun x hx => (State.sleepAll_sck _ _).2.1 x ?_⟩
    rw [State.note_upChans]
    exact hx
  case failed =>
    intro k s late hp hl
    refine ⟨_, pllLockLoss_failed hp hl, ?_⟩
    by_cases h : late.length < 2
    · rw [if_pos h]
      dsimp only
      rw [State.setSck_sck_self]
      exact ⟨rfl, fun h2 => absurd h (by omega), fun _ => ⟨hp, rfl⟩⟩
    · rw [if_neg h]
      dsimp only
      rw [State.note_sck, State.setSck_sck_self]
      exact ⟨rfl, fun _ => ⟨rfl, rfl, rfl⟩, fun h2 => absurd h2 h⟩
  case refLost =>
    intro s h
    have hclk : (s.note 0x04 0 0 []).clk = s.clk := (State.note_kept (Nat.or_self _) (.refl s) 0x04 0 0 []).same .clk
    refine ⟨_, refClkLoss_lost h, ?_, fun k hk hp => ?_⟩
    · rw [State.loseRefs_clk, hclk]
    · obtain ⟨hpll, hlost, hsr⟩ := State.loseRefs_locked (j := k) (List.range 16) { s.note 0x04 0 0 [] with
        clk := { (s.note 0x04 0 0 []).clk with
          refLost := true, refLostAt := (s.note 0x04 0 0 []).clk.ticks, incLast := (s.note 0x04 0 0 []).clk.inc } }
        (List.mem_range.mpr hk) ((congrArg StackClk.pll (s.note_sck 0x04 0 0 [] k)).trans hp)
      have hup : (s.note 0x04 0 0 []).upChans k = s.upChans k := s.note_upChans 0x04 0 0 [] k
      exact ⟨hpll, hlost, fun x hx => hsr x (hup.symm ▸ hx : x ∈ (s.note 0x04 0 0 []).upChans k)⟩
  case refBack =>
    intro s h ht
    refine ⟨_, refClkRestored_runs h ht, ?_, fun k _ hl => ?_⟩
    · exact (Kept.foldl (r := false) (b := false) (w := 0x56400) (fun _ k h => State.rewake_kept (by decide) h k) _ _
        (.refl _)).same .clk
    · obtain ⟨hlost, hlock⟩ := State.rewakes_wakes (List.range 16) k
        { s with clk := { s.clk with refLost := false }, sclk := Tab.mapVals s.sclk (fun _ c => c.refBack) }
      rw [State.refBack_sck] at hlost hlock
      refine ⟨hlost.trans ?_, fun hp hd => hlock ?_⟩ <;> unfold StackClk.refBack <;> rw [if_pos hl]
      simp [hp, hd]
  case ntLock =>
    intro s h
    refine ⟨({ s with clk := { s.clk with ntLock := false, aligned := false } }).note 0x03 0 0 [], ?_, ?_⟩
    · show execNtLockLoss s = _
      unfold execNtLockLoss
      rw [if_neg (by simp [h])]
    · exact (State.note_kept (Nat.or_self _) (.refl _) 0x03 0 0 []).same .clk

end Sys2Proof.Machine

/-! # Core resets (R47, R487, R490-R492, R496) -/

namespace Sys2Proof.Machine

/-! ## Requests that end -/

theorem State.endGather_none {s : State} (h : s.lake.gathers = []) (id : Nat) : s.endGather id = s := by
  unfold State.endGather
  rw [h]
  rfl

/-- Without a gather, the end of an outstanding request gives back what its part holds, and answers it. -/
theorem State.endRequest_cases {s : State} (hg : s.lake.gathers = []) (id : Nat) (q : Req) :
    (s.endRequest id q).1 = s ∨ ∃ u, Kept false false 0x821a0 s u ∧ (s.endRequest id q).1 = u.answer id 4 true := by
  unfold State.endRequest
  dsimp only
  have hplaces : ∀ n, Kept false false 0x821a0 s (if q.op == 0 then s.freePlaces q.stack q.port n else s) := by
    intro n
    split
    · exact State.freePlaces_kept (by decide) (.refl s) _ _ _
    · exact .refl s
  have hwithdraw : Kept false false 0x821a0 s (s.withdraw (partKey id q.stack)) :=
    State.withdraw_kept (by decide) (.refl s) _
  split
  · exact .inl rfl
  · exact .inl rfl
  · exact .inr ⟨s, .refl s, rfl⟩
  · split
    · right
      generalize hu : State.setReq _ id _ = u
      have hk : Kept false false 0x821a0 s u := by
        rw [← hu]
        refine State.setReq_kept (by decide) (State.setPort_kept (by decide) ?_ _ _) _ _
        split
        · exact hplaces _
        · split
          · exact hplaces _
          · exact hwithdraw
      exact ⟨u, hk, by rw [State.endGather_none ((congrArg Lake.gathers (hk.same .lake)).trans hg)]⟩
    · exact .inr ⟨_, hwithdraw, rfl⟩

/-- Without a gather, the end of an outstanding request changes requests, parts, ports, counts, places and the crossbar's
rounds: no stored word. -/
theorem State.endRequest_quiet {s : State} (hg : s.lake.gathers = []) (id : Nat) (q : Req) :
    Kept false false 0xa00821a0 s (s.endRequest id q).1 := by
  obtain e | ⟨u, hk, e⟩ := State.endRequest_cases hg id q <;> rw [e]
  · exact .refl s
  · exact State.answer_kept (by decide) (Kept.more (by decide) (.refl s) hk) id 4 true

theorem State.endAll_quiet {s : State} (hg : s.lake.gathers = []) : Kept false false 0xa00821a0 s s.endAll := by
  unfold State.endAll
  refine Kept.foldl (fun u x h => ?_) s.reqs s (.refl s)
  obtain ⟨id, r⟩ := x
  dsimp only
  split
  · exact h.more (Nat.or_self _) (State.endRequest_quiet ((congrArg Lake.gathers (h.same .lake)).trans hg) id r)
  · exact h

/-! ## Bit fields of the backup registers -/

theorem State.setBkp_bkp (s : State) (reg lo n v : Nat) : Tab.num (s.setBkp reg lo n v).boot.bkp reg =
    Tab.num s.boot.bkp reg - put (fld (Tab.num s.boot.bkp reg) lo n) lo n + put v lo n :=
  Tab.get_set_self 0 s.boot.bkp reg _

theorem State.setBkp_dev (s : State) (reg lo n v : Nat) : (s.setBkp reg lo n v).boot.dev = s.boot.dev := rfl

theorem State.countReset_dev (s : State) (code : Nat) : (s.countReset code).boot.dev = s.boot.dev := by
  unfold State.countReset
  rw [State.setBkp_dev, State.setBkp_dev]

/-- LASTRST records the source of a reset (Table 16.4). -/
theorem State.countReset_lastrst (s : State) {code : Nat} (h : code < 16) :
    fld (Tab.num (s.countReset code).boot.bkp 0) 8 4 = code := by
  unfold State.countReset
  dsimp only
  rw [State.setBkp_bkp, State.setBkp_bkp]
  generalize Tab.num s.boot.bkp 0 = b
  generalize min (fld b 32 32 + 1) 0xFFFFFFFF = n
  simp only [fld, put, Nat.reducePow]
  omega

/-- BOOTFAIL stands beside LASTRST. -/
theorem State.setBkp_bootFail_lastrst (s : State) (v : Nat) :
    fld (Tab.num (s.setBkp 0 0 8 v).boot.bkp 0) 8 4 = fld (Tab.num s.boot.bkp 0) 8 4 := by
  rw [State.setBkp_bkp]
  generalize Tab.num s.boot.bkp 0 = b
  simp only [fld, put, Nat.reducePow]
  omega

/-! ## The reset and its release -/

/-- What a core reset leaves of a state. -/
structure State.CoreReset (s : State) (code : Nat) (t : State) : Prop where
  ready : t.pins.ready = false
  coreReset : t.boot.coreReset = true
  firmware : t.boot.firmware = false
  reqs : t.reqs = []
  parts : t.parts = []
  sets : t.sets = []
  tickets : t.tickets = []
  stores : t.stores = []
  xfer : t.xfer = s.xfer
  words : s.pins.ready = false ∨ s.lake.gathers = [] → t.mem = s.mem ∧ t.chk = s.chk
  tb : t.clk.tb = s.clk.tb
  ticks : t.clk.ticks = s.clk.ticks
  heat : t.heat = s.heat
  dev : t.boot.dev = s.boot.dev
  supply : t.supply = s.supply.map (fun x => (x.1, x.2.kept))
  lastrst : fld (Tab.num t.boot.bkp 0) 8 4 = code

theorem State.coreReset_clears (s : State) {code : Nat} (hc : code < 16) : s.CoreReset code (s.coreReset code) := by
  unfold State.coreReset
  dsimp only
  generalize hu : (if s.pins.ready = true then s.endAll else s) = u
  have hk : Kept false false 0x30e05d67a4 s u := by
    rw [← hu]
    split
    · exact State.endAll_kept (by decide) (.refl s)
    · exact .refl s
  have hdev : u.boot.dev = s.boot.dev := by
    rw [← hu]
    split
    · exact congrArg Boot.dev ((State.endAll_kept (Nat.or_self _) (.refl s)).same .boot)
    · rfl
  have hwords : s.pins.ready = false ∨ s.lake.gathers = [] → u.mem = s.mem ∧ u.chk = s.chk := by
    rintro (h | h) <;> rw [← hu]
    · simp [h]
    · split
      · exact ⟨(State.endAll_quiet h).same .mem, (State.endAll_quiet h).same .chk⟩
      · exact ⟨rfl, rfl⟩
  have hlast : fld (Tab.num (u.countReset code).boot.bkp 0) 8 4 = code := u.countReset_lastrst hc
  have hcount : Kept false false 0x4 u (u.countReset code) := State.countReset_kept (Nat.or_self _) (.refl u) code
  have hv : Kept false false 0x30e05d67a4 s (u.countReset code) := State.countReset_kept (by decide) hk code
  have hdev : (u.countReset code).boot.dev = s.boot.dev := (u.countReset_dev code).trans hdev
  rw [← show (u.countReset code).mem = u.mem from hcount.same .mem,
    ← show (u.countReset code).chk = u.chk from hcount.same .chk] at hwords
  obtain ⟨v, hcounted⟩ : ∃ v, v = u.countReset code := ⟨_, rfl⟩
  rw [← hcounted] at hlast hdev hv hwords ⊢
  have hclk : v.clk = s.clk := hv.same .clk
  have hsupply : v.supply = s.supply := hv.same .supply
  exact {
    ready := rfl, coreReset := rfl, firmware := rfl, reqs := rfl, parts := rfl, sets := rfl, tickets := rfl, stores := rfl
    xfer := hv.same .xfer
    words := hwords
    tb := by rw [← hclk]
    ticks := by rw [← hclk]
    heat := hv.same .heat
    dev := hdev
    supply := by rw [← hsupply]; rfl
    lastrst := hlast }

/-- CHIP_WRST_N does not undo a reset. -/
theorem State.CoreReset.chipRst {s u : State} {code : Nat} (h : s.CoreReset code u) (c : Bool) :
    s.CoreReset code { u with pins := { u.pins with chipRst := c } } :=
  { h with }

/-- The count of critical errors and the registers do not undo a reset. -/
theorem State.CoreReset.critOnce {s u : State} {code : Nat} (h : s.CoreReset code u) (c : Bool) (regs : Regs) :
    s.CoreReset code { u with boot := { u.boot with critOnce := c }, regs := regs } :=
  { h with }

/-- BOOTFAIL does not undo a reset. -/
theorem State.CoreReset.bootFail {s u : State} {code : Nat} (h : s.CoreReset code u) (v : Nat) :
    s.CoreReset code (u.setBkp 0 0 8 v) :=
  { h with lastrst := (u.setBkp_bootFail_lastrst v).trans h.lastrst }

theorem chipWarmReset_resets {s : State} (hp : s.pins.porst = false) :
    Completes .chipWarmReset s fun t => s.CoreReset 2 t ∧ t.pins.chipRst = true := by
  have h := s.coreReset_clears (code := 2) (by decide)
  have hexec : exec .chipWarmReset s = execChipWarmReset s := rfl
  unfold execChipWarmReset at hexec
  rw [if_neg (by simp [hp])] at hexec
  dsimp only at hexec
  refine ⟨_, hexec, ?_⟩
  exact ⟨h.chipRst true, rfl⟩

theorem criticalStateError_resets {b : Bool} {s : State} (hp : s.pins.porst = false) :
    Completes (.criticalStateError b) s fun t => s.CoreReset 4 t := by
  have h := s.coreReset_clears (code := 4) (by decide)
  have hexec : exec (.criticalStateError b) s = execCriticalStateError b s := rfl
  unfold execCriticalStateError at hexec
  rw [if_neg (by simp [hp])] at hexec
  dsimp only at hexec
  refine ⟨_, hexec, ?_⟩
  split
  · exact (h.critOnce _ _).bootFail 6
  · exact h.critOnce _ _

theorem hostrstCore_resets {src : Fin 16} {v : BitVec 32} {s : State} (hp : s.pins.porst = false)
    (hr : (s.ownerSrc src.val || s.debugSrc src.val) = true) (hkey : v.toNat / 2 ^ 24 = 0x5A) (hcore : v.toNat % 2 = 1)
    (hup : s.boot.coreReset = false) : Completes (.hostrstCore src v) s fun t => s.CoreReset 3 t := by
  have hk : fld v.toNat 24 8 = 0x5A := by simp only [fld, hkey]; decide
  have hb : bitAt v.toNat 0 = true := by simp [bitAt, fld, hcore]
  refine ⟨s.coreReset 3, ?_, s.coreReset_clears (by decide)⟩
  show s.hostrst src.val v.toNat = _
  unfold State.hostrst
  rw [State.regWrite_taken hp (by rw [hr, hk]; decide) (.inl hup), if_pos hb]

/-- A boot keeps the pins of the core reset and DW_READY, and starts no core reset. -/
structure State.SameReset (s t : State) : Prop where
  coreReset : t.boot.coreReset = s.boot.coreReset
  chipRst : t.pins.chipRst = s.pins.chipRst
  ready : t.pins.ready = s.pins.ready

theorem State.SameReset.trans {s t u : State} (h : s.SameReset t) (g : t.SameReset u) : s.SameReset u :=
  ⟨g.coreReset.trans h.coreReset, g.chipRst.trans h.chipRst, g.ready.trans h.ready⟩

theorem State.SameReset.of_kept {w : Nat} {s t : State} (h : Kept false false w s t) (hb : w.testBit Field.boot.bit = false)
    (hp : w.testBit Field.pins.bit = false) : s.SameReset t :=
  ⟨congrArg Boot.coreReset (h.same .boot hb), congrArg Pins.chipRst (h.same .pins hp), congrArg Pins.ready (h.same .pins hp)⟩

theorem State.setBkp_sameReset (s : State) (reg lo n v : Nat) : s.SameReset (s.setBkp reg lo n v) := ⟨rfl, rfl, rfl⟩

theorem State.note_sameReset (s : State) (cause cls num : Nat) (args : List (Nat × Nat)) :
    s.SameReset (s.note cause cls num args) :=
  .of_kept (State.note_kept (Nat.or_self _) (.refl s) cause cls num args) (by decide) (by decide)

theorem State.SameReset.ite {s t u : State} {p : Prop} [Decidable p] (h : s.SameReset t) (g : s.SameReset u) :
    s.SameReset (if p then t else u) := by
  split <;> assumption

theorem State.mirrorCopied_sameReset (s : State) (l : List Rec) : s.SameReset (l.foldl (fun s x =>
    { s.appendRec 0 x with trace := { (s.appendRec 0 x).trace with mirror := (s.appendRec 0 x).trace.mirror.drop 1 ++
      [((s.appendRec 0 x).trace.newest.map (fun (r, _) => r)).getD x] } }) s) :=
  .of_kept (w := 0x40000000) (Kept.foldl (fun _ _ h => Kept.upd_trace (by decide) (State.appendRec_kept (by decide) h _ _)) l s
    (.refl s)) (by decide) (by decide)

theorem State.serialsChecked_sameReset (s : State) (l : List Nat) :
    s.SameReset (l.foldl (fun s k => if (s.sup k).good && !(s.sup k).fenced then s.checkSerial k else s) s) := by
  refine .of_kept (w := 0x3160000000) (Kept.foldl (fun u k h => ?_) l s (.refl s)) (by decide) (by decide)
  split
  · exact State.checkSerial_kept (by decide) h k
  · exact h

theorem State.startUp_sameReset (s : State) : s.SameReset s.startUp := by
  unfold State.startUp
  dsimp only
  have h1 := s.mirrorCopied_sameReset s.trace.mirror
  revert h1
  generalize List.foldl _ s s.trace.mirror = s1
  intro h1
  have h2 : s.SameReset { s1 with boot := { s1.boot with recs := devRead s1.boot.dev } } := ⟨h1.1, h1.2, h1.3⟩
  have h3 : ∀ u, s.SameReset u → s.SameReset (if u.boot.recs.trimValid then u else u.note 0x0D 0 0 [(1, 1), (1, 2)]) :=
    fun u h => .ite h (h.trans (u.note_sameReset _ _ _ _))
  have h4 : ∀ u, s.SameReset u → s.SameReset (if u.boot.recs.mapValid then u else u.note 0x0D 0 0 [(1, 2), (1, 3)]) :=
    fun u h => .ite h (h.trans (u.note_sameReset _ _ _ _))
  refine State.SameReset.trans ?_ (State.serialsChecked_sameReset _ _)
  have h5 := h4 _ (h3 _ h2)
  exact ⟨h5.1, h5.2, h5.3⟩

/-- An image that is loaded. -/
theorem State.SameReset.load {s u : State} (h : s.SameReset u) (i at_ : Nat) (trace : Trace) : s.SameReset { u with
    boot := { u.boot with firmware := true, loaded := some i, trialAt := at_ }, trace := trace,
    pins := { u.pins with qspiReleased := false } } := ⟨h.1, h.2, h.3⟩

theorem State.bootStop_sameReset (s : State) (code : Nat) : s.SameReset (s.bootStop code) := ⟨rfl, rfl, rfl⟩

theorem State.fallBack_sameReset (s : State) (code : Nat) : s.SameReset (s.fallBack code) := by
  unfold State.fallBack
  dsimp only
  refine .ite (.trans ?_ (State.note_sameReset _ _ _ _ _)) (s.setBkp_sameReset _ _ _ _)
  exact ⟨rfl, rfl, rfl⟩

theorem State.bootRom_sameReset (s : State) (code : Nat) : s.SameReset (s.bootRom code) := by
  unfold State.bootRom
  dsimp only
  refine .ite (s.bootStop_sameReset 1) (.ite (s.bootStop_sameReset 2) ?_)
  have hf := s.fallBack_sameReset code
  split
  · exact hf.trans (State.bootStop_sameReset _ 3)
  · have hb : ∀ {u : State} (reg lo n v : Nat), s.SameReset u → s.SameReset (u.setBkp reg lo n v) :=
      fun reg lo n v h => h.trans (State.setBkp_sameReset _ reg lo n v)
    have hload (a b c d : Nat) := (hb 0 0 8 0 (hb 1 32 32 d (hb 1 16 16 c (hb 1 1 1 b (hb 1 0 1 a hf))))).load
    exact .ite (hload _ _ _ _ _ _ _) (.trans (hload _ _ _ _ _ _ _) (State.startUp_sameReset _))

theorem coreResetRelease_releases {s : State} (hp : s.pins.porst = false) (hr : s.boot.coreReset = true)
    (ht : s.boot.fwAt + 128 ≤ s.clk.ticks) : Completes .coreResetRelease s fun t =>
      t.boot.coreReset = false ∧ t.pins.chipRst = false ∧ t.pins.ready = s.pins.ready := by
  have hexec : exec .coreResetRelease s = execCoreResetRelease s := rfl
  unfold execCoreResetRelease at hexec
  rw [if_neg (by simp [hp, hr]; omega)] at hexec
  dsimp only at hexec
  refine ⟨_, hexec, ?_⟩
  split
  · exact ⟨rfl, rfl, rfl⟩
  · obtain ⟨hcore, hchip, hready⟩ := State.bootRom_sameReset
      { s with pins := { s.pins with chipRst := false }, boot := { s.boot with coreReset := false } }
      (fld (Tab.num s.boot.bkp 0) 8 4)
    exact ⟨hcore, hchip, hready⟩

/-- Settles O42. -/
theorem coreResetsComplete : Obligations.CoreResetsComplete := by
  unfold Obligations.CoreResetsComplete
  refine ⟨fun i s code hp hi => ?_, fun s hp hr ht => coreResetRelease_releases hp hr ht⟩
  have hall : ∃ t, exec i s = .next t ∧ s.CoreReset code t ∧ (t.pins.chipRst = true ∨ code ≠ 2) := by
    obtain ⟨rfl, rfl⟩ | ⟨⟨b, rfl⟩, rfl⟩ | ⟨⟨src, v, rfl, hr, hkey, hcore, hup⟩, rfl⟩ := hi
    · obtain ⟨t, ht, hreset, hchip⟩ := chipWarmReset_resets hp
      exact ⟨t, ht, hreset, .inl hchip⟩
    · obtain ⟨t, ht, hreset⟩ := criticalStateError_resets (b := b) hp
      exact ⟨t, ht, hreset, .inr (by decide)⟩
    · obtain ⟨t, ht, hreset⟩ := hostrstCore_resets hp hr hkey hcore hup
      exact ⟨t, ht, hreset, .inr (by decide)⟩
  obtain ⟨t, ht, h, hchip⟩ := hall
  exact ⟨t, ht, h.ready, h.coreReset, h.firmware, h.reqs, h.parts, h.sets, h.tickets, h.stores, h.xfer, h.words, h.tb, h.ticks,
    h.heat, h.dev, h.supply, h.lastrst, hchip⟩

end Sys2Proof.Machine

/-! # Bring-up (R47, R79, R335, R361-R368, R391, R392, R500) -/

namespace Sys2Proof.Machine

theorem State.sup_congr {s t : State} (h : t.supply = s.supply) (k : Nat) : t.sup k = s.sup k := by
  unfold State.sup
  rw [h]

/-! ## Sets of Mordant's own -/

/-- Up to 256 records of Mordant's own are one committed change set. -/
theorem State.ownSet_one (s : State) {ws : List Staged} (h0 : ws ≠ []) (h : ws.length ≤ 256) :
    ∃ x, (s.ownSet ws).sets = s.sets ++ [x] ∧ x.committed = true ∧ x.items.map (fun i => i.what) = ws := by
  have hlen : (ws.length + 255) / 256 = 1 := by
    have := List.length_pos_iff.mpr h0
    omega
  unfold State.ownSet
  rw [hlen]
  exact ⟨_, rfl, rfl, by simp [List.take_of_length_le h, Function.comp_def]⟩

/-! ## Training -/

/-- The measurements of a channel; an unmeasured one has none. -/
def measOf (m : List ChanMeas) (c : Nat) : ChanMeas :=
  (m.find? (fun (x : ChanMeas) => x.chan == c)).getD ⟨c, [], ⟨0, 2, 0, 2⟩, ⟨0, 2, 0, 2⟩⟩

/-- Conditions under which the training of a stack may end (R364, R392). -/
structure State.TrainingEnds (s : State) (k : Nat) : Prop where
  up : s.mordantUp = true
  noImport : s.boot.importWait = none
  waits : s.trainWaits k = true
  turn : ((List.range k).filter s.trainWaits).length + s.trainStacks.length < 4
  room : s.ownRoom 32 = true

theorem State.TrainingEnds.unblocked {s : State} {k : Nat} (h : s.TrainingEnds k) :
    ¬ (!s.mordantUp || s.boot.importWait.isSome || !s.trainWaits k ||
      decide (4 ≤ ((List.range k).filter s.trainWaits).length + s.trainStacks.length) || !s.ownRoom 32) = true := by
  have := h.turn
  simp [h.up, h.noImport, h.waits, h.room]
  omega

/-- What training gives for each channel of a stack. -/
def State.trainResults (s : State) (k : Nat) (m : List ChanMeas) : List (Nat × ChanCal × List (Nat × Nat) × List Nat) :=
  (List.range (s.geom k).channels).map (fun c => (c, (s.loadLost k).trainChan k c (measOf m c)))

/-- What training writes before it commits: records, the repair map and lost leaves. -/
def State.trainWrites (s : State) (k : Nat) (hard : List Nat) (res : List (Nat × ChanCal × List (Nat × Nat) × List Nat)) :
    State :=
  (res.foldl (fun s (c, cal, new, _) =>
    let ch := k * 32 + c
    let lost := (s.care (2 * ch)).lost && (s.care (2 * ch + 1)).lost
    let s := if cal.untrained && !lost then (s.note 0x0C 2 (2 * ch) [(1, c), (1, 1)]).maint 6 k else s
    let s := new.foldl (fun s (n, i) => s.addMap (laneEntry ch n 2 i)) s
    s.baseCheck k c cal) (s.loadLost k)).applyMap k hard

theorem State.trainWrites_sets (s : State) (k : Nat) (hard : List Nat)
    (res : List (Nat × ChanCal × List (Nat × Nat) × List Nat)) : (s.trainWrites k hard res).sets = s.sets := by
  refine (State.applyMap_kept (r := false) (b := false) (w := 0x31e0021000) (by decide) (Kept.foldl (fun u x h => ?_) res _
    (State.loadLost_kept (by decide) (.refl s) k)) k hard).same .sets
  obtain ⟨c, cal, new, _⟩ := x
  refine State.baseCheck_kept (by decide) (Kept.foldl (fun v y g => State.addMap_kept (by decide) g _) new _ ?_) _ _ _
  split
  · exact State.maint_kept (by decide) (State.note_kept (by decide) h _ _ _ _) _ _
  · exact h

/-- The training of a supported stack writes its records and commits its calibrations. -/
theorem stackTraining_exec {k : Fin 16} {m : List ChanMeas} {hard : List Nat} {s : State} (h : s.TrainingEnds k.val)
    (hrate : (s.sup k.val).rate ≠ 4) (htype : (s.sup k.val).stype ≠ 0) : ∃ bad, exec (.stackTraining k m hard) s =
      .next (((s.trainWrites k.val hard (s.trainResults k.val m)).setSup k.val
        { (s.trainWrites k.val hard (s.trainResults k.val m)).sup k.val with training := true, badSpares := bad }).ownSet
          ((s.trainResults k.val m).map (fun (c, cal, _, _) => Staged.cal (k.val * 32 + c) cal false))) := by
  have hexec : exec (.stackTraining k m hard) s = execStackTraining k m hard s := rfl
  have hgeom : (s.loadLost k.val).geom k.val = s.geom k.val := by
    unfold State.geom
    rw [State.sup_congr ((State.loadLost_kept (Nat.or_self _) (.refl s) k.val).same .supply)]
  unfold execStackTraining at hexec
  dsimp only at hexec
  rw [if_neg h.unblocked, if_neg (by simp [hrate, htype]), hgeom] at hexec
  exact ⟨_, hexec⟩

theorem geomOf_channels (ty : Nat) : (geomOf ty).channels ≤ 32 := by
  unfold geomOf
  split <;> decide

/-- Training of a supported stack commits a calibration for each of its channels (R361-R368). -/
theorem stackTraining_commits {k : Fin 16} {m : List ChanMeas} {hard : List Nat} {s : State} (h : s.TrainingEnds k.val)
    (hrate : (s.sup k.val).rate ≠ 4) (htype : (s.sup k.val).stype ≠ 0) (hchan : (s.geom k.val).channels ≠ 0) :
    Completes (.stackTraining k m hard) s fun t => (t.sup k.val).training = true ∧
      ∃ x, t.sets = s.sets ++ [x] ∧ x.committed = true ∧
        x.items.map (fun i => i.what) = (List.range (s.geom k.val).channels).map (fun c => Staged.cal (k.val * 32 + c)
          ((s.loadLost k.val).trainChan k.val c (measOf m c)).1 false) := by
  obtain ⟨bad, hexec⟩ := stackTraining_exec (m := m) (hard := hard) h hrate htype
  have hlen : (s.trainResults k.val m).length = (s.geom k.val).channels := by simp [State.trainResults]
  have hmax : (s.geom k.val).channels ≤ 32 := geomOf_channels _
  refine ⟨_, hexec, ?_, ?_⟩
  · rw [State.sup_congr ((State.ownSet_kept (Nat.or_self _) (.refl _) _).same .supply), State.setSup_sup_self]
  · obtain ⟨x, hsets, hcommitted, hitems⟩ := State.ownSet_one ((s.trainWrites k.val hard (s.trainResults k.val m)).setSup k.val
      { (s.trainWrites k.val hard (s.trainResults k.val m)).sup k.val with training := true, badSpares := bad })
      (ws := (s.trainResults k.val m).map (fun (c, cal, _, _) => Staged.cal (k.val * 32 + c) cal false))
      (by rw [← List.length_pos_iff, List.length_map, hlen]; omega) (by rw [List.length_map, hlen]; omega)
    refine ⟨x, ?_, hcommitted, ?_⟩
    · rw [hsets, State.setSup_sets, State.trainWrites_sets]
    · rw [hitems, State.trainResults, List.map_map]
      rfl

/-! ## A stack that comes into service -/

/-- The trained channels of a stack are what its calibrations and its type say. -/
theorem State.upChans_of_stype {s t : State} {k : Nat} (hs : (t.sup k).stype = (s.sup k).stype) (hc : t.chans = s.chans) :
    t.upChans k = s.upChans k := by
  unfold State.upChans State.geom State.chan
  rw [hs, hc]

/-- The supply of a stack as it comes into service. -/
theorem State.stackUp_sup (s : State) (k : Nat) : ((s.stackUp k).sup k).quickDone = true ∧
    ((s.stackUp k).sup k).trained = !(s.upChans k).isEmpty ∧ ((s.stackUp k).sup k).badSpares = (s.sup k).badSpares := by
  have hfinish : ∀ (u : State) (tk st : Nat) (l : List Nat), (u.finish tk st l none).sup k = u.sup k := fun u tk st l =>
    State.sup_congr ((State.finish_kept (Nat.or_self _) (.refl u) tk st l none).same .supply) k
  unfold State.stackUp
  dsimp only
  split
  · rw [hfinish, State.setSup_sup_self, State.setSup_sup_self]
    exact ⟨rfl, rfl, rfl⟩
  · generalize hu : State.afterTraining _ k _ = u
    have hs : u.sup k = { s.sup k with training := false, trained := !(s.upChans k).isEmpty, quickDone := true } := by
      rw [← hu]
      refine (State.sup_congr ((State.afterTraining_kept (Nat.or_self _) (.refl _) k _).same .supply) k).trans ?_
      exact State.setSup_sup_self s k _
    split
    · rw [hfinish, State.setSup_sup_self, hs]
      exact ⟨rfl, rfl, rfl⟩
    · rw [hs]
      exact ⟨rfl, rfl, rfl⟩

/-- A stack without a trained channel comes into service with its channels as they are. -/
theorem State.stackUp_chans {s : State} {k : Nat} (h : s.upChans k = []) : (s.stackUp k).chans = s.chans := by
  unfold State.stackUp
  dsimp only
  rw [if_pos (by rw [h]; rfl)]
  exact (State.finish_kept (Nat.or_self _) (.refl _) _ _ _ _).same .chans

/-- Channels left untrained. -/
def State.leaveUntrained (s : State) (l : List Nat) : State :=
  l.foldl (fun s c => s.setChan c { s.chan c with cal := { (s.chan c).cal with untrained := true } }) s

theorem State.leaveUntrained_supply (s : State) (l : List Nat) : (s.leaveUntrained l).supply = s.supply :=
  (Kept.foldl (r := false) (b := false) (w := 0x40000) (fun _ _ h => State.setChan_kept (by decide) h _ _) l s (.refl s)).same
    .supply

/-- A channel that is untrained stays so. -/
theorem State.leaveUntrained_keeps (l : List Nat) {j : Nat} : ∀ {s : State}, (s.chan j).cal.untrained = true →
    ((s.leaveUntrained l).chan j).cal.untrained = true := by
  induction l with
  | nil => exact fun h => h
  | cons c l ih =>
    intro s h
    refine ih (s := s.setChan c _) ?_
    by_cases e : j = c
    · rw [e, State.setChan_chan_self]
    · rw [State.setChan_chan_other _ _ e]; exact h

theorem State.leaveUntrained_mem (l : List Nat) {j : Nat} : ∀ {s : State}, j ∈ l →
    ((s.leaveUntrained l).chan j).cal.untrained = true := by
  induction l with
  | nil => exact fun h => nomatch h
  | cons c l ih =>
    intro s h
    by_cases e : j = c
    · refine State.leaveUntrained_keeps l (s := s.setChan c _) ?_
      rw [e, State.setChan_chan_self]
    · exact ih (s := s.setChan c _) (by simpa [e] using h)

theorem State.leaveUntrained_upChans (s : State) (k : Nat) : (s.leaveUntrained (s.chansOf k)).upChans k = [] := by
  have hgeom : (s.leaveUntrained (s.chansOf k)).geom k = s.geom k := by
    unfold State.geom
    rw [State.sup_congr (s.leaveUntrained_supply _)]
  unfold State.upChans
  rw [hgeom, List.filter_eq_nil_iff]
  intro c hc
  have hmem : k * 32 + c ∈ s.chansOf k := List.mem_map.mpr ⟨c, hc, rfl⟩
  rw [State.leaveUntrained_mem _ hmem]
  decide

/-- A stack of an unsupported type or rate stays untrained (R79). -/
theorem stackTraining_unsupported {k : Fin 16} {m : List ChanMeas} {hard : List Nat} {s : State} (h : s.TrainingEnds k.val)
    (hu : (s.sup k.val).rate = 4 ∨ (s.sup k.val).stype = 0) : Completes (.stackTraining k m hard) s fun t =>
      (t.sup k.val).quickDone = true ∧ (t.sup k.val).trained = false ∧
        ∀ c ∈ s.chansOf k.val, (t.chan c).cal.untrained = true := by
  have hexec : exec (.stackTraining k m hard) s = execStackTraining k m hard s := rfl
  unfold execStackTraining at hexec
  dsimp only at hexec
  rw [if_neg h.unblocked, if_pos (by simpa using hu)] at hexec
  have hup := s.leaveUntrained_upChans k.val
  obtain ⟨hquick, htrained, _⟩ := (s.leaveUntrained (s.chansOf k.val)).stackUp_sup k.val
  refine ⟨_, hexec, hquick, htrained.trans (by rw [hup]; rfl), fun c hc => ?_⟩
  have hchan : ((s.leaveUntrained (s.chansOf k.val)).stackUp k.val).chan c = (s.leaveUntrained (s.chansOf k.val)).chan c := by
    unfold State.chan
    rw [State.stackUp_chans hup]
  exact (congrArg (fun x : Chan => x.cal.untrained) hchan).trans (State.leaveUntrained_mem _ hc)

/-! ## Imports -/

/-- The import wait ends when it is over or every stack has its section (R392). -/
theorem importWaitEnd_ends {s : State} {w : Nat} (hw : s.boot.importWait = some w) (hup : s.mordantUp = true)
    (h : w ≤ s.clk.ticks ∨ ∀ k, k < 16 → s.toPower k = true → (s.sup k).good = true ∧
      ((s.sup k).imported = true ∨ s.importing k = true)) :
    exec .importWaitEnd s = .next { s with boot := { s.boot with importWait := none } } := by
  show execImportWaitEnd s = _
  unfold execImportWaitEnd
  rw [hw]
  dsimp only
  rw [if_pos]
  rw [hup, Bool.true_and, Bool.or_eq_true, decide_eq_true_eq, List.all_eq_true]
  refine h.imp id fun hall k hk => ?_
  rw [List.mem_filter, List.mem_range] at hk
  obtain ⟨hgood, hdone⟩ := hall k hk.1 hk.2
  simpa [hgood] using hdone

/-- Steps that keep a stack's type keep it together. -/
theorem State.foldl_stype {α : Type} {f : State → α → State} {k : Nat} (hf : ∀ u a, ((f u a).sup k).stype = (u.sup k).stype)
    (l : List α) : ∀ s, ((l.foldl f s).sup k).stype = (s.sup k).stype := by
  induction l with
  | nil => exact fun s => rfl
  | cons a l ih => exact fun s => (ih _).trans (hf s a)

/-- Rows that the map gives to spares count against their bank; the stack's type stays. -/
theorem State.applyMap_stype (s : State) (k : Nat) (fails : List Nat) : ((s.applyMap k fails).sup k).stype = (s.sup k).stype := by
  unfold State.applyMap
  dsimp only
  refine (State.foldl_stype (fun u e => ?track) _ _).trans ((State.foldl_stype (fun u e => ?rows) _ _).trans
    ((State.foldl_stype (fun u e => ?notes) _ _).trans ?store))
  case track => split <;> rfl
  case rows => rw [State.setSup_sup_self]
  case notes => rw [State.sup_congr ((State.note_kept (Nat.or_self _) (.refl u) _ _ _ _).same .supply)]
  case store => split <;> rfl

theorem State.importEnds_supply (s : State) (k st : Nat) : (s.importEnds k st).supply = s.supply :=
  (State.importEnds_kept (Nat.or_self _) (.refl s) k st).same .supply

/-- Conditions under which the quick check of an imported stack ends (R391). -/
structure State.QuickEnds (s : State) (k : Nat) : Prop where
  up : s.mordantUp = true
  imported : (s.sup k).imported = true
  notDone : (s.sup k).quickDone = false
  settled : s.settled k = true
  out : (s.sup k).rstOutLow = false

theorem State.QuickEnds.unblocked {s : State} {k : Nat} (h : s.QuickEnds k) : ¬ (!s.mordantUp || !(s.sup k).imported ||
    (s.sup k).quickDone || !s.settled k || (s.sup k).rstOutLow) = true := by
  simp [h.up, h.imported, h.notDone, h.settled, h.out]

/-- A quick check rejects a stack with a failed lane or of an unsupported type or rate. -/
theorem quickCheck_rejects {k : Fin 16} {lane : Bool} {bad hard : List Nat} {s : State} (h : s.QuickEnds k.val)
    (hr : lane = true ∨ (s.sup k.val).rate = 4 ∨ (s.sup k.val).stype = 0) : Completes (.quickCheck k lane bad hard) s fun t =>
      t.supply = (s.setSup k.val { s.sup k.val with imported := false }).supply := by
  have hexec : exec (.quickCheck k lane bad hard) s = execQuickCheck k lane bad hard s := rfl
  unfold execQuickCheck at hexec
  dsimp only at hexec
  rw [if_neg h.unblocked, if_pos (by obtain h | h | h := hr <;> simp [h])] at hexec
  exact ⟨_, hexec, State.importEnds_supply _ _ _⟩

/-- A quick check without a fault brings the stack into service. -/
theorem quickCheck_accepts {k : Fin 16} {bad hard : List Nat} {s : State} (h : s.QuickEnds k.val)
    (hrate : (s.sup k.val).rate ≠ 4) (htype : (s.sup k.val).stype ≠ 0) : Completes (.quickCheck k false bad hard) s fun t =>
      (t.sup k.val).quickDone = true ∧ (t.sup k.val).trained = !(s.upChans k.val).isEmpty ∧ (t.sup k.val).badSpares = bad := by
  have hexec : exec (.quickCheck k false bad hard) s = execQuickCheck k false bad hard s := rfl
  unfold execQuickCheck at hexec
  dsimp only at hexec
  rw [if_neg h.unblocked, if_neg (by simp [hrate, htype])] at hexec
  refine ⟨_, hexec, ?_⟩
  dsimp only
  rw [State.sup_congr (State.importEnds_supply _ _ _)]
  have hload : Kept false false 0x1000 s (s.loadLost k.val) := State.loadLost_kept (Nat.or_self _) (.refl s) k.val
  have hstype : (((s.loadLost k.val).applyMap k.val hard).sup k.val).stype = (s.sup k.val).stype :=
    (State.applyMap_stype _ _ _).trans (by rw [State.sup_congr (hload.same .supply)])
  have hup : (((s.loadLost k.val).applyMap k.val hard).setSup k.val
      { ((s.loadLost k.val).applyMap k.val hard).sup k.val with badSpares := bad }).upChans k.val = s.upChans k.val := by
    refine State.upChans_of_stype ?_ ?_
    · rw [State.setSup_sup_self]
      exact hstype
    · exact ((State.applyMap_kept (Nat.or_self _) (.refl _) k.val hard).same .chans).trans (hload.same .chans)
  obtain ⟨hquick, htrained, hspares⟩ := State.stackUp_sup (((s.loadLost k.val).applyMap k.val hard).setSup k.val
      { ((s.loadLost k.val).applyMap k.val hard).sup k.val with badSpares := bad }) k.val
  rw [hup] at htrained
  rw [State.setSup_sup_self] at hspares
  exact ⟨hquick, htrained, hspares⟩

/-! ## Fills and DW_READY -/

theorem State.fillLeaf_filled (s : State) (l : Nat) : ((s.fillLeaf l).care l).filled = true := by
  have h : (s.fillLeaf l).cares = (s.leafFilled l).cares :=
    ((State.chargeFill_kept (Nat.or_self _) (.refl _) l).same .cares)
  unfold State.care
  rw [h]
  exact congrArg Care.filled (State.setCare_care_self s l _)

/-- A filled leaf reads as zeros; no other leaf's word changes. -/
theorem State.fillLeaf_storedWord (s : State) (l leaf : Nat) {la : Nat} (h : la < 2 ^ 31) :
    (s.fillLeaf l).storedWord leaf la = if leaf = l then (0, 0xFF) else s.storedWord leaf la :=
  zeroLeaf_storedWord (s.leafFilled l) l leaf h

theorem State.quireAt_congr {s t : State} (hb : t.bank = s.bank) (hs : t.supply = s.supply) (l : Nat) :
    t.quireAt l = s.quireAt l := by
  unfold State.quireAt State.membersOf State.geom State.sup
  rw [hb, hs]

theorem State.storedWord_congr {s t : State} (hm : t.mem = s.mem) (hc : t.chk = s.chk) (leaf la : Nat) :
    t.storedWord leaf la = s.storedWord leaf la := by
  unfold State.storedWord
  rw [hm, hc]

theorem State.parkLeaf_parked (s : State) (l : Nat) : ((s.parkLeaf l).leaf l).parked = true :=
  congrArg Leaf.parked (State.setLeaf_leaf_self (s.closeBanks l) l _)

/-- A leaf that is filled parks where no quire holds it (R147). -/
def State.filledLeaf (s : State) (l : Nat) : State :=
  if ((s.fillLeaf l).quireAt l).isNone && (s.fillLeaf l).sysLeaf != some l then (s.fillLeaf l).parkLeaf l else s.fillLeaf l

theorem State.filledLeaf_kept (s : State) (l : Nat) : Kept false false 0x400 (s.fillLeaf l) (s.filledLeaf l) := by
  unfold State.filledLeaf
  split
  · exact State.parkLeaf_kept (Nat.or_self _) (.refl _) l
  · exact .refl _

theorem State.filledLeaf_parked {s : State} {l : Nat} (hq : s.quireAt l = none) (hsys : s.sysLeaf ≠ some l) :
    ((s.filledLeaf l).leaf l).parked = true := by
  have hk : Kept false false 0x3000011000 s (s.fillLeaf l) := State.fillLeaf_kept (Nat.or_self _) (.refl s) l
  have hs : (s.fillLeaf l).sysLeaf = s.sysLeaf := by
    unfold State.sysLeaf
    rw [State.sup_congr (hk.same .supply)]
  unfold State.filledLeaf
  rw [State.quireAt_congr (hk.same .bank) (hk.same .supply), hs, hq, if_pos (by simpa using hsys)]
  exact State.parkLeaf_parked _ l

/-- A due fill ends, and with a stack's last one the clearing of the stack. -/
theorem initialFill_exec {l : Fin 1024} {s : State} (h : s.fillDue l.val = true) :
    ∃ t, exec (.initialFill l) s = .next t ∧ Kept false false 0x7020004 (s.filledLeaf l.val) t := by
  have hexec : exec (.initialFill l) s = if (s.sup (stackOf l.val)).clearTicket != 0 &&
        ((s.filledLeaf l.val).unfilled (stackOf l.val)).isEmpty then
      .next (((s.filledLeaf l.val).setSup (stackOf l.val) { (s.filledLeaf l.val).sup (stackOf l.val) with
        clearTicket := 0 }).finish (s.sup (stackOf l.val)).clearTicket stOk [] none)
      else .next (s.filledLeaf l.val) := by
    show execInitialFill l s = _
    unfold execInitialFill
    dsimp only
    rw [if_neg (by simp [h])]
    rfl
  split at hexec
  · exact ⟨_, hexec, State.finish_kept (by decide) (State.setSup_kept (by decide) (.refl _) _ _) _ _ _ _⟩
  · exact ⟨_, hexec, .refl _⟩

/-- A due fill (R147, R335). -/
theorem initialFill_fills {l : Fin 1024} {s : State} (h : s.fillDue l.val = true) : Completes (.initialFill l) s fun t =>
    (t.care l.val).filled = true ∧ (s.quireAt l.val = none → s.sysLeaf ≠ some l.val → (t.leaf l.val).parked = true) ∧
      ∀ leaf la, la < 2 ^ 31 → t.storedWord leaf la = if leaf = l.val then (0, 0xFF) else s.storedWord leaf la := by
  obtain ⟨t, ht, hk⟩ := initialFill_exec h
  have hp := s.filledLeaf_kept l.val
  refine ⟨t, ht, ?_, fun hq hsys => ?_, fun leaf la hla => ?_⟩
  · have hcares : t.cares = (s.fillLeaf l.val).cares := (hk.same .cares).trans (hp.same .cares)
    unfold State.care
    rw [hcares]
    exact s.fillLeaf_filled l.val
  · have hleaves : t.leaves = (s.filledLeaf l.val).leaves := hk.same .leaves
    unfold State.leaf
    rw [hleaves]
    exact State.filledLeaf_parked hq hsys
  · rw [State.storedWord_congr ((hk.same .mem).trans (hp.same .mem)) ((hk.same .chk).trans (hp.same .chk))]
    exact s.fillLeaf_storedWord l.val leaf hla

/-- DW_READY rises with a filled system leaf. -/
theorem dwReadyRise_rises {s : State} {l : Nat} (hup : s.mordantUp = true) (hr : s.pins.ready = false) (hb : s.broughtUp = true)
    (hl : s.sysLeaf = some l) (hf : s.fillable l = true) (hc : (s.care l).filled = true) (h1 : (s.ring 1).gap = none)
    (h2 : (s.ring 2).gap = none) :
    Completes .dwReadyRise s fun t => t.pins = { s.pins with ready := true, stopped := s.stopping } := by
  have hexec : exec .dwReadyRise s = execDwReadyRise s := rfl
  unfold execDwReadyRise at hexec
  dsimp only at hexec
  rw [if_neg (by simp [hup, hr, hb]), if_neg (by simp [hl, hf, hc]), if_neg (by simp [h1, h2])] at hexec
  exact ⟨_, hexec, rfl⟩

/-- Without a filled system leaf the bring-up stops at BOOTFAIL 5. -/
theorem dwReadyRise_stops {s : State} (hup : s.mordantUp = true) (hr : s.pins.ready = false) (hb : s.broughtUp = true)
    (hl : ∀ l, s.sysLeaf = some l → s.fillable l = false ∨ (s.care l).filled = false) :
    Completes .dwReadyRise s fun t => t.pins = s.pins ∧ t.bootFail = 5 := by
  have hexec : exec .dwReadyRise s = execDwReadyRise s := rfl
  unfold execDwReadyRise at hexec
  dsimp only at hexec
  have hstop : exec .dwReadyRise s = .next (s.setBkp 0 0 8 5) := by
    rw [if_neg (by simp [hup, hr, hb])] at hexec
    cases hsys : s.sysLeaf with
    | none => rwa [if_pos (by simp [hsys])] at hexec
    | some l => rwa [if_pos (by obtain e | e := hl l hsys <;> simp [hsys, e])] at hexec
  refine ⟨_, hstop, rfl, ?_⟩
  unfold State.bootFail
  rw [State.setBkp_bkp]
  simp only [fld, put, Nat.reducePow]
  omega

/-- Settles O46. -/
theorem bringUpComplete : Obligations.BringUpComplete := by
  unfold Obligations.BringUpComplete
  refine ⟨?commits, ?unsupported, ?wait, ?quick, fun l s h => initialFill_fills h,
    fun s l hup hr hb hl hf hc h1 h2 => dwReadyRise_rises hup hr hb hl hf hc h1 h2,
    fun s hup hr hb hl => dwReadyRise_stops hup hr hb hl⟩
  case commits =>
    intro k m hard s hup hi hw ht hroom hrate htype hchan
    exact stackTraining_commits ⟨hup, hi, hw, ht, hroom⟩ hrate htype hchan
  case unsupported =>
    intro k m hard s hup hi hw ht hroom hu
    exact stackTraining_unsupported ⟨hup, hi, hw, ht, hroom⟩ hu
  case wait =>
    intro s w hw hup h
    exact importWaitEnd_ends hw hup h
  case quick =>
    intro k bad hard s hup hi hq hs ho
    have h : s.QuickEnds k.val := ⟨hup, hi, hq, hs, ho⟩
    exact ⟨fun lane hr => quickCheck_rejects h hr, fun hrate htype => quickCheck_accepts h hrate htype⟩

end Sys2Proof.Machine

/-! # Requests at a port edge: what arrives and what is recorded (R10, R17, R21-R23) -/

namespace Sys2Proof.Machine

theorem Tab.put_put {α : Type} (t : Tab α) (k : Nat) (a b : α) : Tab.put (Tab.put t k a) k b = Tab.put t k b := by
  induction t with
  | nil => simp [Tab.put]
  | cons p t ih =>
    obtain ⟨i, c⟩ := p
    simp only [Tab.put]
    by_cases h : k < i
    · simp [h, Tab.put]
    · by_cases e : k = i
      · simp [e, Tab.put]
      · simp [h, e, Tab.put, ih]

theorem Tab.mem_put_self {α : Type} (t : Tab α) (k : Nat) (a : α) : (k, a) ∈ Tab.put t k a :=
  Tab.mem_of_find? (Tab.find?_put_self t k a)

/-! ## Windows of the ports -/

/-- A port with its window counts aside. -/
def Port.SameBut (p q : Port) : Prop := q = { p with windows := q.windows }

@[simp] theorem Port.SameBut.refl (p : Port) : p.SameBut p := rfl

theorem Port.SameBut.trans {p q r : Port} (h : p.SameBut q) (g : q.SameBut r) : p.SameBut r := by
  unfold Port.SameBut at *
  rw [h] at g
  exact g

/-- Counting in a window changes window counts alone. -/
theorem State.startWindows_parts (s : State) : ∃ ps rs, s.startWindows = { s with ports := ps, regs := rs } ∧
    rs.isoEvt = s.regs.isoEvt ∧ ∀ j, (s.port j).SameBut (s.startWindows.port j) := by
  unfold State.startWindows
  dsimp only
  split
  · exact ⟨s.ports, s.regs, rfl, rfl, fun j => .refl _⟩
  · refine ⟨_, _, rfl, rfl, fun j => ?_⟩
    unfold State.port Tab.get
    dsimp only
    rw [Tab.find?_mapVals]
    cases Tab.find? s.ports j <;> rfl

theorem State.window_parts (s : State) (p q n : Nat) : ∃ ps rs, s.window p q n = { s with ports := ps, regs := rs } ∧
    rs.isoEvt = s.regs.isoEvt ∧ ∀ j, (s.port j).SameBut ((s.window p q n).port j) := by
  obtain ⟨ps, rs, he, hiso, hport⟩ := s.startWindows_parts
  unfold State.window
  dsimp only
  split
  · refine ⟨_, rs, by rw [he]; rfl, hiso, fun j => ?_⟩
    by_cases e : j = p
    · rw [e, State.setPort_port_self]
      exact (hport p).trans rfl
    · rw [State.setPort_port_other _ _ e]
      exact hport j
  · exact ⟨ps, rs, he, hiso, hport⟩

/-! ## The header's arrival -/

/-- The header passes the checks up to the fifth of R21. -/
def State.pastFive (s : State) (p : Nat) (h : Hdr) (felt : Bool) : Bool :=
  !(s.port p).isolated && s.pins.ready && decide (h.op < 8) && !h.malformed && !(felt && h.op != 1 && h.op != 2)

/-- A header is counted, and past the fifth check teaches the stream-affinity table. -/
def State.arrived (s : State) (p : Nat) (h : Hdr) (felt : Bool) : State :=
  let odd := h.rsv != 0 || (h.op != 3 && h.op != 4 && (h.cidx != 0 || h.ccnt != 0))
  let u := (if odd then s.setPort p { s.port p with protoNote := min 0xFFFFFFFF ((s.port p).protoNote + 1) } else s).window p 0 1
  let past5 := !(s.port p).isolated && u.pins.ready && decide (h.op < 8) && !h.malformed && !(felt && h.op != 1 && h.op != 2)
  if past5 && p < 128 then { u with aff := learn u.aff h.sid p } else u

/-- The header's arrival writes ports, window numbers and the affinity table alone. -/
theorem State.arrived_parts (s : State) (p : Nat) (h : Hdr) (felt : Bool) : ∃ ps rs,
    s.arrived p h felt = { s with ports := ps, regs := rs, aff := if s.pastFive p h felt && p < 128 then learn s.aff h.sid p else s.aff } ∧
      ((s.arrived p h felt).port p).lane = (s.port p).lane ∧ ((s.arrived p h felt).port p).isolated = (s.port p).isolated := by
  unfold State.arrived
  dsimp only
  generalize hu : (if (h.rsv != 0 || (h.op != 3 && h.op != 4 && (h.cidx != 0 || h.ccnt != 0))) = true then
    s.setPort p { s.port p with protoNote := min 0xFFFFFFFF ((s.port p).protoNote + 1) } else s) = u
  have hparts : ∃ ps, u = { s with ports := ps } ∧ (u.port p).lane = (s.port p).lane ∧
      (u.port p).isolated = (s.port p).isolated := by
    rw [← hu]
    split
    · exact ⟨_, rfl, by rw [State.setPort_port_self], by rw [State.setPort_port_self]⟩
    · exact ⟨s.ports, rfl, rfl, rfl⟩
  obtain ⟨ps, he, hlane, hiso⟩ := hparts
  obtain ⟨ps', rs, hw, _, hport⟩ := u.window_parts p 0 1
  have hl : ((u.window p 0 1).port p).lane = (s.port p).lane := by rw [hport p]; exact hlane
  have hi : ((u.window p 0 1).port p).isolated = (s.port p).isolated := by rw [hport p]; exact hiso
  have hpins : (u.window p 0 1).pins.ready = s.pins.ready := by rw [hw, he]
  rw [hpins]
  unfold State.pastFive
  split
  · exact ⟨ps', rs, by rw [hw, he], hl, hi⟩
  · exact ⟨ps', rs, by rw [hw, he], hl, hi⟩

theorem State.arrived_reqs (s : State) (p : Nat) (h : Hdr) (felt : Bool) : (s.arrived p h felt).reqs = s.reqs := by
  obtain ⟨ps, rs, e, _⟩ := s.arrived_parts p h felt
  rw [e]

theorem State.arrived_nextId (s : State) (p : Nat) (h : Hdr) (felt : Bool) : (s.arrived p h felt).nextId = s.nextId := by
  obtain ⟨ps, rs, e, _⟩ := s.arrived_parts p h felt
  rw [e]

theorem State.arrived_aff (s : State) (p : Nat) (h : Hdr) (felt : Bool) :
    (s.arrived p h felt).aff = if s.pastFive p h felt && p < 128 then learn s.aff h.sid p else s.aff := by
  obtain ⟨ps, rs, e, _⟩ := s.arrived_parts p h felt
  rw [e]

/-- The arrival decides no check. -/
theorem State.arrived_checkReq (s : State) (p : Nat) (h : Hdr) (felt : Bool) :
    (s.arrived p h felt).checkReq p h felt = s.checkReq p h felt := by
  obtain ⟨ps, rs, e, _, hiso⟩ := s.arrived_parts p h felt
  unfold State.checkReq
  rw [hiso, e]
  rfl

/-- The arrival changes nothing of the record of a request that passes. -/
theorem State.arrived_passedReq (s : State) (p : Nat) (h : Hdr) (felt : Bool) (n : Nat) :
    ({ s.arrived p h felt with nextId := n } : State).passedReq p h = s.passedReq p h := by
  obtain ⟨ps, rs, e, _⟩ := s.arrived_parts p h felt
  rw [e]
  rfl

/-! ## What becomes of a header -/

/-- A header that its port takes: the port is live, an isolated one needs no credits, and no parity error is injected. -/
structure State.Takes (s : State) (p : Nat) (hb : BitVec 128) (d : List Beat) : Prop where
  live : (s.port p).live = true
  credits : (s.port p).isolated = false → 0 < (s.port p).hcred ∧ d.length ≤ (s.port p).dcred
  inject : (s.port p).injectParity = false
  parity : hparOk hb = true

theorem State.Takes.creditsOk {s : State} {p : Nat} {hb : BitVec 128} {d : List Beat} (h : s.Takes p hb d) :
    ¬ (!(s.port p).live || (!(s.port p).isolated && (decide ((s.port p).hcred = 0) || decide ((s.port p).dcred < d.length)))) = true := by
  cases hi : (s.port p).isolated with
  | true => simp [h.live]
  | false =>
    obtain ⟨h1, h2⟩ := h.credits hi
    simp [h.live]
    omega

/-- A header that is taken is counted and checked. -/
theorem State.accept_arrived {s : State} {p : Nat} {hb : BitVec 128} {d : List Beat} (felt : Bool) (h : s.Takes p hb d) :
    s.accept p hb d felt = match s.checkReq p (hdrOf hb) felt with
      | some resp =>
        let u := ((s.arrived p (hdrOf hb) felt).answerEdge p (hdrOf hb) resp (s.port p).isolated).firstOfSheet (hdrOf hb) resp
        if (s.port p).isolated then u else u.feedOlder p d
      | none => (s.arrived p (hdrOf hb) felt).accepted p (hdrOf hb) d := by
  unfold State.accept
  dsimp only
  rw [if_neg h.creditsOk, if_neg (by simp [h.parity, h.inject])]
  rw [← s.arrived_checkReq p (hdrOf hb) felt]
  rfl

/-- A header that is answered with a failure at once. -/
def State.turnedDown (s : State) (p : Nat) (h : Hdr) (felt : Bool) (resp : Nat) : State :=
  ((s.arrived p h felt).answerEdge p h resp (s.port p).isolated).firstOfSheet h resp

theorem State.accept_turnedDown {s : State} {p : Nat} {hb : BitVec 128} {d : List Beat} {felt : Bool} {resp : Nat}
    (h : s.Takes p hb d) (hc : s.checkReq p (hdrOf hb) felt = some resp) : s.accept p hb d felt =
      if (s.port p).isolated then s.turnedDown p (hdrOf hb) felt resp
      else (s.turnedDown p (hdrOf hb) felt resp).feedOlder p d := by
  rw [State.accept_arrived felt h, hc]
  rfl

theorem State.accept_accepted {s : State} {p : Nat} {hb : BitVec 128} {d : List Beat} {felt : Bool}
    (h : s.Takes p hb d) (hc : s.checkReq p (hdrOf hb) felt = none) :
    s.accept p hb d felt = (s.arrived p (hdrOf hb) felt).accepted p (hdrOf hb) d := by
  rw [State.accept_arrived felt h, hc]

/-- The rows of requests are headers with their data at a fabric or a Felt port. -/
theorem exec_request {i : Instr} {p : Nat} {hb : BitVec 128} {d : List Beat} {felt : Bool}
    (hi : i.request = some (p, hb, d, felt)) (s : State) :
    exec i s = .next (s.accept p hb d felt) ∧ (p < 128 ∨ 136 ≤ p) := by
  unfold Instr.request at hi
  split at hi
  case h_1 q h | h_2 q h | h_3 q h => cases hi; exact ⟨rfl, .inl q.isLt⟩
  case h_4 q h d' | h_5 q h d' | h_6 q h d' | h_7 q h d' | h_8 q h d' => cases hi; exact ⟨rfl, .inl q.isLt⟩
  case h_9 f h d' => cases hi; exact ⟨rfl, .inr (by omega)⟩
  all_goals cases hi

end Sys2Proof.Machine

/-! # Requests that fail a check (R10, R17, R21) -/

namespace Sys2Proof.Machine

/-- The single header that answers a request without data. -/
def answerBeat (id : Nat) (r : Req) (resp : Nat) (free : Bool) : RespBeat :=
  { req := id, tag := r.tag, resp := resp, last := true, ntf := false, nkind := 0, sid := r.sid, ten := r.ten,
    hasData := false, data := 0, dvld := 0, dstain := 0, free := free }

/-- An outstanding request that is answered ends with one header on its port's lane. -/
theorem State.answer_live {s : State} {id : Nat} {r : Req} (h : s.req? id = some r) (hp : r.phase ≠ .done)
    (ha : r.answered = true) (resp : Nat) (free : Bool) : s.answer id resp free =
      ((s.setReq id { r with phase := .done, status := resp }).pushLane r.port (answerBeat id r resp free)).countAnswer r resp := by
  unfold State.answer
  rw [h]
  dsimp only
  rw [if_neg (by simp [hp, ha])]
  rfl

@[simp] theorem State.cntT_port (s : State) (t i n j : Nat) : (s.cntT t i n).port j = s.port j := rfl

@[simp] theorem State.cntG_port (s : State) (i n j : Nat) : (s.cntG i n).port j = s.port j := rfl

/-- Counting an answer changes window counts of the ports alone. -/
theorem State.countAnswer_port (s : State) (r : Req) (resp j : Nat) : (s.port j).SameBut ((s.countAnswer r resp).port j) := by
  unfold State.countAnswer
  dsimp only
  split
  · have hc : (if resp = 1 then s.cntT r.ten 20 1 else s).port j = s.port j := by split <;> rfl
    generalize (if resp = 1 then s.cntT r.ten 20 1 else s) = u at hc
    rw [← hc]
    split
    case h_2 | h_3 => split <;> simp
    all_goals simp
  · obtain ⟨_, _, _, _, hport⟩ := (s.cntT r.ten (14 + resp) 1).window_parts r.port 3 1
    exact hport j

/-- The record of a request that is answered at the edge. -/
theorem State.bareReq_answered {s : State} {p : Nat} {h : Hdr} (hp : p < 128 ∨ 136 ≤ p) (ho : h.op < 32) :
    (s.bareReq p h).answered = true := by
  show (decide (h.op < 32) && (decide (p < 128) || decide (136 ≤ p))) = true
  simpa [ho] using hp

theorem hdrOf_op (hb : BitVec 128) : (hdrOf hb).op < 32 := Nat.mod_lt _ (by decide)

/-- A request answered at the edge leaves its record, ended, and one header on the lane. -/
theorem State.answerEdge_parts {s : State} {p : Nat} {h : Hdr} (hp : p < 128 ∨ 136 ≤ p) (ho : h.op < 32) (resp : Nat) (free : Bool) :
    (s.answerEdge p h resp free).reqs = Tab.put s.reqs s.nextId { s.bareReq p h with phase := .done, status := resp } ∧
      ((s.answerEdge p h resp free).port p).lane = (s.port p).lane ++ [answerBeat s.nextId (s.bareReq p h) resp free] := by
  unfold State.answerEdge
  dsimp only
  rw [State.answer_live (r := s.bareReq p h) (State.setReq_req?_self _ _ _) (by simp [State.bareReq])
    (State.bareReq_answered hp ho)]
  refine ⟨?_, ?_⟩
  · rw [State.countAnswer_reqs]
    exact Tab.put_put _ _ _ _
  · rw [State.countAnswer_port _ _ _ p]
    exact congrArg Port.lane (State.pushLane_port_self _ p _)

theorem State.firstOfSheet_reqs (s : State) (h : Hdr) (resp : Nat) : (s.firstOfSheet h resp).reqs = s.reqs :=
  (State.firstOfSheet_kept (Nat.or_self _) (.refl s) h resp).same .reqs

theorem State.firstOfSheet_port (s : State) (h : Hdr) (resp j : Nat) : (s.firstOfSheet h resp).port j = s.port j :=
  State.port_congr ((State.firstOfSheet_kept (Nat.or_self _) (.refl s) h resp).same .ports) j

/-- What a failed check leaves: one record that waits for nothing, and one header on the lane. -/
theorem State.turnedDown_parts {s : State} {p : Nat} {h : Hdr} (hp : p < 128 ∨ 136 ≤ p) (ho : h.op < 32) (felt : Bool) (resp : Nat) :
    (∃ r, (s.turnedDown p h felt resp).reqs = Tab.put s.reqs s.nextId r ∧ r.phase = .done) ∧
      ∃ b, ((s.turnedDown p h felt resp).port p).lane = (s.port p).lane ++ [b] ∧ b.resp = resp ∧ b.tag = h.tag ∧
        b.last = true ∧ b.hasData = false ∧ b.sid = h.sid ∧ b.ten = h.ten := by
  obtain ⟨hreqs, hlane⟩ := State.answerEdge_parts (s := s.arrived p h felt) hp ho resp (s.port p).isolated
  obtain ⟨_, _, _, hl, _⟩ := s.arrived_parts p h felt
  unfold State.turnedDown
  rw [State.firstOfSheet_reqs, hreqs, State.arrived_reqs, State.arrived_nextId, State.firstOfSheet_port, hlane, hl]
  exact ⟨⟨_, rfl, rfl⟩, _, rfl, rfl, rfl, rfl, rfl, rfl, rfl⟩

theorem State.turnedDown_aff (s : State) (p : Nat) (h : Hdr) (felt : Bool) (resp : Nat) :
    (s.turnedDown p h felt resp).aff = (s.arrived p h felt).aff := by
  unfold State.turnedDown State.answerEdge
  dsimp only
  exact ((State.firstOfSheet_kept (Nat.or_self _) (.refl _) h resp).same .aff).trans
    ((State.answer_kept (Nat.or_self _) (.refl _) _ resp _).same .aff)

/-! ## Beats for older requests -/

theorem State.laneMissing_of_none {s : State} {p : Nat} (h : ∀ x ∈ s.reqs, x.2.port = p → x.2.phase ≠ .dataOpen) :
    s.laneMissing p = 0 := by
  have hk : Tab.keep s.reqs (fun _ r => r.port == p && r.phase == .dataOpen) = [] := by
    rw [Tab.keep, List.filter_eq_nil_iff]
    intro x hx
    simpa using h x hx
  unfold State.laneMissing
  rw [hk]
  rfl

theorem State.openReq_none {s : State} {p : Nat} (h : s.openReq p = none) :
    ∀ x ∈ s.reqs, x.2.port = p → x.2.phase ≠ .dataOpen := by
  intro x hx hp
  have := List.find?_eq_none.mp h x hx
  simpa [hp] using this

theorem State.feedOlder_nothing {s : State} {p : Nat} {d : List Beat} (h : d = [] ∨ s.laneMissing p = 0) :
    s.feedOlder p d = s := by
  unfold State.feedOlder
  dsimp only
  rw [if_pos]
  obtain rfl | h := h
  · rw [List.take_nil]; rfl
  · rw [h]; rfl

/-- A failed request's beats find no older request that lacks any. -/
theorem State.turnedDown_feedOlder {s : State} {p : Nat} {h : Hdr} {d : List Beat} (hp : p < 128 ∨ 136 ≤ p) (ho : h.op < 32)
    (felt : Bool) (resp : Nat) (hd : d = [] ∨ s.openReq p = none) :
    (s.turnedDown p h felt resp).feedOlder p d = s.turnedDown p h felt resp := by
  obtain ⟨⟨r, hreqs, hdone⟩, _⟩ := State.turnedDown_parts (s := s) hp ho felt resp
  refine State.feedOlder_nothing (hd.imp id fun hnone => State.laneMissing_of_none fun x hx hport => ?_)
  rw [hreqs] at hx
  obtain hx | rfl := Tab.mem_put hx
  · exact State.openReq_none hnone x hx hport
  · rw [hdone]; decide

/-- Settles O13. -/
theorem failedChecksAreAnswered : Obligations.FailedChecksAreAnswered := by
  unfold Obligations.FailedChecksAreAnswered
  intro i s p hb d felt resp hi hlive hinj hpar hcred hcheck
  obtain ⟨hexec, hp⟩ := exec_request hi s
  have htakes : s.Takes p hb d := ⟨hlive, hcred, hinj, hpar⟩
  rw [State.accept_turnedDown htakes hcheck] at hexec
  obtain ⟨_, b, hlane, hresp, htag, hlast, hdata, hsid, hten⟩ :=
    State.turnedDown_parts (s := s) (h := hdrOf hb) hp (hdrOf_op hb) felt resp
  refine ⟨_, hexec, _, b, hlane, hresp, htag, hlast, hdata, hsid, hten, rfl, fun hnone => ?_⟩
  split
  · rfl
  next hiso => exact State.turnedDown_feedOlder hp (hdrOf_op hb) felt resp (hnone.resolve_left hiso)

end Sys2Proof.Machine

/-! # Requests that pass (R10, R21, R23, R29, R255) -/

namespace Sys2Proof.Machine

/-! ## A request with all its data -/

/-- A request that goes on its way stands recorded, live, as it was but for what the path decides. -/
theorem State.launch_reqsKept (s : State) (id : Nat) (r : Req) :
    ∃ q, q.follows r ∧ q.phase = .live ∧ ReqsKept (s.setReq id q) (s.launch id r) := by
  unfold State.launch
  dsimp only
  generalize (if r.op = 0 then _ else 0 : Nat) = places
  refine ⟨{ r with places := places, phase := .live }, rfl, rfl, (State.mark_reqsKept _ _ _).before (.of_eq ?_)⟩
  exact (State.meetSleep_kept (Nat.or_self _) (.refl _) _ _ _).same .reqs

theorem State.dataDone_reqsKept (s : State) (id : Nat) {r : Req} (hr : r.phase = .live) :
    ∃ q, q.follows r ∧ q.phase = .live ∧ ReqsKept (s.setReq id q) (s.dataDone id r) := by
  unfold State.dataDone
  dsimp only
  split
  · refine ⟨r, rfl, hr, (State.fences_reqsKept _ _).before (.of_eq ?_)⟩
    exact (State.returnCredits_kept (Nat.or_self _) (.refl _) _ _ _).same .reqs
  · generalize hu : (if (decide (r.op = 6) && decide (r.addr % 16 = 3)) = true then
      s.setStep r.ten (portHalf r.port) _ else s) = u
    have hreqs : u.reqs = s.reqs := by rw [← hu]; split <;> rfl
    obtain ⟨q, hf, hp, hk⟩ := u.launch_reqsKept id { r with step := if r.op = 6 then u.stepOf r.ten r.port else r.step }
    exact ⟨q, Req.follows_trans hf rfl, hp, hk.after (congrArg (fun l => Tab.put l id q) hreqs)⟩

/-! ## The data lane of a port -/

theorem State.feedLane_nil_none {s : State} {p : Nat} (h : s.openReq p = none) (n : Nat) : s.feedLane n p [] = s := by
  cases n with
  | zero => rfl
  | succ n =>
    unfold State.feedLane
    rw [h]
    rfl

/-- Without a beat, an open request that lacks one goes on waiting. -/
theorem State.feedLane_nil_lacks {s : State} {p id : Nat} {r : Req} (h : s.openReq p = some (id, r))
    (hl : r.beats.length < r.wantBeats) (n : Nat) : s.feedLane (n + 1) p [] = s.setReq id r := by
  unfold State.feedLane
  rw [h]
  have hr : ({ r with beats := r.beats ++ ([] : List Beat).take (r.wantBeats - r.beats.length) } : Req) = r := by
    simp
  dsimp only
  rw [if_pos (by simpa [Req.wantBeats] using hl), hr]

/-- Beats that are all an open request asks for send it on its way. -/
theorem State.feedLane_complete {s : State} {p id : Nat} {r : Req} {d : List Beat} (h : s.openReq p = some (id, r))
    (hb : r.beats = []) (hlen : d.length = r.wantBeats) (hlast : lastDvldOk d (r.need / 32) = true) (n : Nat) :
    s.feedLane (n + 1) p d = (s.dataDone id { r with beats := d, phase := .live }).feedLane n p [] := by
  conv_lhs => unfold State.feedLane
  rw [h]
  have hr : r.beats ++ d.take (r.wantBeats - r.beats.length) = d := by rw [hb, ← hlen]; simp
  have hd : d.drop (r.wantBeats - r.beats.length) = [] := by rw [hb, ← hlen]; simp
  dsimp only
  have hwhole : ¬ (r.beats ++ d.take (r.wantBeats - r.beats.length)).length < r.wantBeats := by rw [hr]; omega
  rw [if_neg (by exact hwhole), hr, hd, if_neg (by simp [hlast])]

/-- The one open request of a port is found. -/
theorem State.openReq_some {s : State} {p id : Nat} {r : Req} (hm : (id, r) ∈ s.reqs) (hp : r.port = p)
    (hd : r.phase = .dataOpen) (honly : ∀ x ∈ s.reqs, x.2.port = p → x.2.phase = .dataOpen → x = (id, r)) :
    s.openReq p = some (id, r) := by
  cases h : s.openReq p with
  | none => exact absurd hd (State.openReq_none h (id, r) hm hp)
  | some x =>
    have hx := List.mem_of_find?_eq_some h
    have hq : (x.2.port == p && x.2.phase == .dataOpen) = true := List.find?_some (p := fun x : Nat × Req =>
      x.2.port == p && x.2.phase == .dataOpen) h
    simp only [Bool.and_eq_true, beq_iff_eq] at hq
    rw [honly x hx hq.1 hq.2]

theorem State.openReq_mem {s : State} {p : Nat} {x : Nat × Req} (h : s.openReq p = some x) :
    x ∈ s.reqs ∧ x.2.port = p ∧ x.2.phase = .dataOpen := by
  have hq : (x.2.port == p && x.2.phase == .dataOpen) = true := List.find?_some (p := fun x : Nat × Req =>
    x.2.port == p && x.2.phase == .dataOpen) h
  simp only [Bool.and_eq_true, beq_iff_eq] at hq
  exact ⟨List.mem_of_find?_eq_some h, hq⟩

/-! ## The record of a new request -/

/-- Under an identity stands a request that follows r, and neither the next identity nor the affinity table has changed. -/
structure State.Recorded (s : State) (id : Nat) (r : Req) (t : State) : Prop where
  found : ∃ q, t.req? id = some q ∧ q.follows r
  nextId : t.nextId = s.nextId
  aff : t.aff = s.aff

/-- Every open request of a port is older than an identity and lacks a beat. -/
def State.olderLack (s : State) (p id : Nat) : Prop :=
  ∀ x ∈ s.reqs, x.2.port = p → x.2.phase = .dataOpen → x.1 < id ∧ x.2.beats.length < x.2.wantBeats

theorem State.olderLack_of_none {s : State} {p : Nat} (h : s.openReq p = none) (id : Nat) : s.olderLack p id :=
  fun x hx hp hd => absurd hd (State.openReq_none h x hx hp)

theorem State.dataDone_recorded (s : State) (id : Nat) {r : Req} (hr : r.phase = .live) : s.Recorded id r (s.dataDone id r) := by
  obtain ⟨q, hf, _, hk⟩ := s.dataDone_reqsKept id hr
  obtain ⟨q', hq', hf'⟩ := hk.still id q (State.setReq_req?_self _ _ _)
  have hd := State.dataDone_kept (r := false) (b := false) (Nat.or_self _) (.refl s) id r
  exact ⟨⟨q', hq', Req.follows_trans hf' hf⟩, hd.same .nextId, hd.same .aff⟩

/-- A request that has all its data is open no more, and each open one follows another that was open; `l` lists those. -/
theorem State.dataDone_open {s : State} {p id : Nat} {r : Req} {l : Tab Req} (hl : ∀ q, Tab.put s.reqs id q = Tab.put l id q)
    (hr : r.phase = .live) {x : Nat × Req} (hx : (s.dataDone id r).openReq p = some x) :
    ∃ y, (x.1, y) ∈ l ∧ y.port = p ∧ y.phase = .dataOpen ∧ x.2.follows y := by
  obtain ⟨hm, hp, hd⟩ := State.openReq_mem hx
  obtain ⟨q, _, hlive, hk⟩ := s.dataDone_reqsKept id hr
  obtain ⟨y, hy, hf, hphase⟩ := hk.old x.1 x.2 hm
  have hput : (x.1, y) ∈ Tab.put l id q := by rw [← hl q]; exact hy
  obtain hy | hy := Tab.mem_put hput
  · refine ⟨y, hy, ?_, hphase hd, hf⟩
    rw [← hp, hf]
  · cases hy
    rw [hlive] at hphase
    exact nomatch hphase hd

/-- A request without beats of its own leaves the data lane to the older ones. -/
theorem State.dataDone_feedLane {s : State} {p id : Nat} {r : Req} (hr : r.phase = .live) (hopen : s.olderLack p id) (n : Nat) :
    s.Recorded id r ((s.dataDone id r).feedLane (n + 1) p []) := by
  have h := s.dataDone_recorded id hr
  cases ho : (s.dataDone id r).openReq p with
  | none => rwa [State.feedLane_nil_none ho]
  | some x =>
    obtain ⟨y, hy, hport, hphase, hf⟩ := State.dataDone_open (fun _ => rfl) hr ho
    obtain ⟨hid, hlack⟩ := hopen (x.1, y) hy hport hphase
    have hl : x.2.beats.length < x.2.wantBeats := by rw [hf]; exact hlack
    rw [State.feedLane_nil_lacks ho hl]
    obtain ⟨q, hq, hqf⟩ := h.found
    exact ⟨⟨q, (Tab.find?_put_other _ _ (Nat.ne_of_gt hid)).trans hq, hqf⟩, h.nextId, h.aff⟩

/-- A request whose data is complete takes a free data lane at once. -/
theorem State.setReq_feedLane_complete {s : State} {p id : Nat} {r : Req} {d : List Beat} (hp : r.port = p) (hb : r.beats = [])
    (hnone : s.openReq p = none) (hlen : d.length = r.wantBeats) (hlast : lastDvldOk d (r.need / 32) = true) (n : Nat) :
    s.Recorded id { r with beats := d, phase := .live } ((s.setReq id { r with phase := .dataOpen }).feedLane (n + 2) p d) := by
  have hopen : (s.setReq id { r with phase := .dataOpen }).openReq p = some (id, { r with phase := .dataOpen }) := by
    refine State.openReq_some (Tab.mem_put_self _ _ _) hp rfl fun x hx hport hphase => ?_
    obtain hx | hx := Tab.mem_put hx
    · exact absurd hphase (State.openReq_none hnone x hx hport)
    · exact hx
  rw [State.feedLane_complete hopen hb hlen hlast]
  have h := (s.setReq id { r with phase := .dataOpen }).dataDone_recorded id (r := { r with beats := d, phase := .live }) rfl
  rw [State.feedLane_nil_none]
  · exact ⟨h.found, h.nextId, h.aff⟩
  · cases ho : State.openReq _ p with
    | none => rfl
    | some x =>
      obtain ⟨y, hy, hport, hphase, _⟩ := State.dataDone_open (l := s.reqs) (fun q => Tab.put_put _ _ _ q) rfl ho
      exact absurd hphase (State.openReq_none hnone _ hy hport)

/-- A request that lacks its data waits behind the older ones that lack theirs. -/
theorem State.setReq_feedLane_waits {s : State} {p id : Nat} {r : Req} (hb : r.beats = []) (hopen : s.olderLack p id)
    (hwant : 0 < r.wantBeats) (n : Nat) :
    s.Recorded id { r with phase := .dataOpen } ((s.setReq id { r with phase := .dataOpen }).feedLane (n + 1) p []) := by
  cases ho : (s.setReq id { r with phase := .dataOpen }).openReq p with
  | none =>
    rw [State.feedLane_nil_none ho]
    exact ⟨⟨_, State.setReq_req?_self _ _ _, rfl⟩, rfl, rfl⟩
  | some x =>
    obtain ⟨hm, hport, hphase⟩ := State.openReq_mem ho
    obtain hm | rfl := Tab.mem_put hm
    · obtain ⟨hid, hlack⟩ := hopen x hm hport hphase
      rw [State.feedLane_nil_lacks (r := x.2) ho hlack]
      exact ⟨⟨_, (Tab.find?_put_other _ _ (Nat.ne_of_gt hid)).trans (State.setReq_req?_self _ _ _), rfl⟩, rfl, rfl⟩
    · rw [State.feedLane_nil_lacks ho (by rw [hb]; exact hwant)]
      exact ⟨⟨_, State.setReq_req?_self _ _ _, rfl⟩, rfl, rfl⟩

/-! ## Acceptance -/

/-- What the record of a request that has passed takes from its header, its port and the clock. -/
theorem State.passedReq_fields (s : State) (p : Nat) (h : Hdr) : (s.passedReq p h).port = p ∧ (s.passedReq p h).op = h.op ∧
    (s.passedReq p h).ten = h.ten ∧ (s.passedReq p h).sid = h.sid ∧ (s.passedReq p h).tag = h.tag ∧
    (s.passedReq p h).addr = h.addr ∧ (s.passedReq p h).len = h.len ∧ (s.passedReq p h).arrival = s.now ∧
    (s.passedReq p h).beats = [] ∧ (s.passedReq p h).phase = .live := by
  unfold State.passedReq
  exact ⟨rfl, rfl, rfl, rfl, rfl, rfl, rfl, rfl, rfl, rfl⟩

/-- What an accepted request finds: its identity is taken, and counters, records and its port's credits are written; then its
record, or its work, is handed on and its beats take the data lane. -/
theorem State.accepted_start (s : State) (p : Nat) (h : Hdr) (d : List Beat) : ∃ (x : State) (traced : Bool),
    x.reqs = s.reqs ∧ x.nextId = s.nextId + 1 ∧ x.aff = s.aff ∧ ∀ r,
      r = { ({ s with nextId := s.nextId + 1 } : State).passedReq p h with traced := traced } →
      ∃ n, s.accepted p h d = if writeType h.op then (x.setReq s.nextId { r with phase := .dataOpen }).feedLane (n + 2) p d
        else (x.dataDone s.nextId r).feedLane (n + 1) p d := by
  unfold State.accepted
  dsimp only
  generalize hu : State.window _ p 1 _ = u
  have hk : Kept false false 0xc0000220 s u := by
    rw [← hu]
    exact State.window_kept (by decide) (State.takeCredits_kept (by decide) (State.samplePoint_kept (by decide)
      (State.samplePoint_kept (by decide) (State.filters_kept (by decide) (Kept.upd_nextId (by decide) (.refl s)) _ _)
        _ _ _) _ _ _) _ _ _) _ _ _
  have hn : u.nextId = s.nextId + 1 := by
    rw [← hu]
    refine (State.window_kept (r := false) (b := false) (w := 0xc0000020) (by decide) (State.takeCredits_kept (by decide)
      (State.samplePoint_kept (by decide) (State.samplePoint_kept (by decide) (State.filters_kept (by decide) (.refl _) _ _)
        _ _ _) _ _ _) _ _ _) _ _ _).same .nextId
  refine ⟨u, (({ s with nextId := s.nextId + 1 } : State).filters h.ten h.sid).2, hk.same .reqs, hn, hk.same .aff, ?_⟩
  rintro r rfl
  by_cases hw : writeType h.op = true
  · simp only [if_pos hw]
    obtain ⟨n, hlen⟩ := Nat.exists_eq_succ_of_ne_zero (Nat.ne_of_gt (List.length_pos_of_mem
      (Tab.mem_put_self u.reqs s.nextId { ({ s with nextId := s.nextId + 1 } : State).passedReq p h with
        traced := (({ s with nextId := s.nextId + 1 } : State).filters h.ten h.sid).2, phase := .dataOpen })))
    exact ⟨n, congrArg (fun m => State.feedLane (m + 1) _ p d) hlen⟩
  · simp only [if_neg hw]
    exact ⟨_, rfl⟩

/-- A record of a request with its header's fields, its data and its arrival time. -/
structure Req.Records (r : Req) (p : Nat) (h : Hdr) (d : List Beat) (now : Nat) : Prop where
  port : r.port = p
  op : r.op = h.op
  ten : r.ten = h.ten
  sid : r.sid = h.sid
  tag : r.tag = h.tag
  addr : r.addr = h.addr
  len : r.len = h.len
  beats : r.beats = d
  arrival : r.arrival = now

/-- A request that follows a record records the same. -/
theorem Req.Records.follow {q r : Req} {p : Nat} {h : Hdr} {d : List Beat} {now : Nat} (hr : r.Records p h d now)
    (hf : q.follows r) : q.Records p h d now := by
  rw [hf]
  exact { hr with }

/-- A request that passes, with a free data lane and its data complete, or behind requests that lack theirs, is recorded. -/
theorem State.accepted_records {s : State} {p : Nat} {h : Hdr} {d : List Beat} (hfits : s.laneFits p h d) :
    (∃ q, (s.accepted p h d).req? s.nextId = some q ∧ q.Records p h d s.now) ∧ (s.accepted p h d).nextId = s.nextId + 1 ∧
      (s.accepted p h d).aff = s.aff := by
  obtain ⟨x, traced, hreqs, hnext, haff, hacc⟩ := s.accepted_start p h d
  generalize hr : ({ ({ s with nextId := s.nextId + 1 } : State).passedReq p h with traced := traced } : Req) = r at hacc
  obtain ⟨n, hacc⟩ := hacc r rfl
  obtain ⟨hport, hop, hten, hsid, htag, haddr, hlen, harr, hbeats, hphase⟩ :=
    State.passedReq_fields ({ s with nextId := s.nextId + 1 } : State) p h
  have hrec : ∀ ph : ReqPhase, ({ r with beats := d, phase := ph } : Req).Records p h d s.now := by
    intro ph
    rw [← hr]
    exact ⟨hport, hop, hten, hsid, htag, haddr, hlen, rfl, harr⟩
  have hrb : r.beats = [] := by rw [← hr]; exact hbeats
  have hrp : r.port = p := by rw [← hr]; exact hport
  have hlive : r.phase = .live := by rw [← hr]; exact hphase
  have hneed : r.need = (s.passedReq p h).need := by rw [← hr]; rfl
  have hdone : ∀ ph : ReqPhase, ∀ t, x.Recorded s.nextId { r with beats := d, phase := ph } t →
      (∃ q, t.req? s.nextId = some q ∧ q.Records p h d s.now) ∧ t.nextId = s.nextId + 1 ∧ t.aff = s.aff := by
    rintro ph t ⟨⟨q, hq, hf⟩, hn, ha⟩
    exact ⟨⟨q, hq, (hrec ph).follow hf⟩, hn.trans hnext, ha.trans haff⟩
  have hopenx : x.openReq p = s.openReq p := by unfold State.openReq; rw [hreqs]
  have hlack : d = [] → (∀ y ∈ s.reqs, y.2.port = p → y.2.phase = .dataOpen → y.1 < s.nextId ∧ y.2.beats.length < y.2.wantBeats) →
      ¬ writeType h.op = true →
      (∃ q, (s.accepted p h d).req? s.nextId = some q ∧ q.Records p h d s.now) ∧ (s.accepted p h d).nextId = s.nextId + 1 ∧
        (s.accepted p h d).aff = s.aff := by
    rintro rfl ho hw
    rw [hacc, if_neg hw]
    refine hdone .live _ ?_
    have hsame : ({ r with beats := [], phase := .live } : Req) = r := by rw [← hrb, ← hlive]
    rw [hsame]
    exact State.dataDone_feedLane hlive (by unfold State.olderLack; rw [hreqs]; exact ho) n
  obtain ⟨hnone, hcount, hlast⟩ | ⟨rfl, ho, hwant⟩ := hfits
  · by_cases hw : writeType h.op = true
    · rw [hacc, if_pos hw]
      rw [if_pos hw] at hcount
      exact hdone .live _ (State.setReq_feedLane_complete hrp hrb (hopenx.trans hnone) (by rw [hcount, Req.wantBeats, hneed])
        (by rw [hneed]; exact hlast hw) n)
    · rw [if_neg hw] at hcount
      exact hlack (List.length_eq_zero_iff.mp hcount) (State.olderLack_of_none hnone _) hw
  · by_cases hw : writeType h.op = true
    · rw [hacc, if_pos hw]
      have h := State.setReq_feedLane_waits (s := x) (p := p) (id := s.nextId) hrb
        (by unfold State.olderLack; rw [hreqs]; exact ho) (by rw [Req.wantBeats, hneed]; exact hwant hw) (n + 1)
      refine hdone .dataOpen _ ?_
      have hsame : ({ r with beats := [], phase := .dataOpen } : Req) = { r with phase := .dataOpen } := by rw [← hrb]
      rw [hsame]
      exact h
    · exact hlack rfl ho hw

theorem State.arrived_laneFits {s : State} {p : Nat} {h : Hdr} {d : List Beat} (felt : Bool) (hf : s.laneFits p h d) :
    (s.arrived p h felt).laneFits p h d := by
  have hp : (s.arrived p h felt).passedReq p h = s.passedReq p h :=
    s.arrived_passedReq p h felt (s.arrived p h felt).nextId
  unfold State.laneFits State.dataComplete State.openReq at *
  rw [hp, State.arrived_reqs, State.arrived_nextId]
  exact hf

/-- Settles O11. -/
theorem acceptedRequestsAreRecorded : Obligations.AcceptedRequestsAreRecorded := by
  unfold Obligations.AcceptedRequestsAreRecorded
  intro i s p hb d felt hi hlive hh hd hinj hpar hcheck hfits
  obtain ⟨hexec, _⟩ := exec_request hi s
  rw [State.accept_accepted ⟨hlive, fun _ => ⟨hh, hd⟩, hinj, hpar⟩ hcheck] at hexec
  obtain ⟨⟨q, hq, hrec⟩, hnext, _⟩ := State.accepted_records (State.arrived_laneFits felt hfits)
  rw [State.arrived_nextId] at hq hnext
  have hnow : (s.arrived p (hdrOf hb) felt).now = s.now := by
    obtain ⟨_, _, e, _⟩ := s.arrived_parts p (hdrOf hb) felt
    rw [e]
    rfl
  exact ⟨_, hexec, hnext, q, hq, hrec.port, hrec.op, hrec.ten, hrec.sid, hrec.tag, hrec.addr, hrec.len, hrec.beats,
    hrec.arrival.trans hnow⟩

/-- Settles O12. -/
theorem acceptedRequestsTeachAffinity : Obligations.AcceptedRequestsTeachAffinity := by
  unfold Obligations.AcceptedRequestsTeachAffinity
  intro i s p hb d hi hp hlive hiso hh hd hinj hpar hready hop hform hfits
  obtain ⟨hexec, hport⟩ := exec_request hi s
  have htakes : s.Takes p hb d := ⟨hlive, fun _ => ⟨hh, hd⟩, hinj, hpar⟩
  have haff : (s.arrived p (hdrOf hb) false).aff = learn s.aff (hdrOf hb).sid p := by
    rw [State.arrived_aff, if_pos (by simp [State.pastFive, hiso, hready, hop, hform, hp])]
  refine ⟨_, hexec, ?_⟩
  rw [← haff]
  cases hc : s.checkReq p (hdrOf hb) false with
  | none =>
    rw [State.accept_accepted htakes hc]
    exact (State.accepted_records (State.arrived_laneFits false hfits)).2.2
  | some resp =>
    have hnothing : d = [] ∨ s.openReq p = none := hfits.elim (fun x => .inr x.1) (fun x => .inl x.1)
    rw [State.accept_turnedDown htakes hc, if_neg (by simp [hiso]), State.turnedDown_feedOlder hport (hdrOf_op hb) _ _ hnothing]
    exact s.turnedDown_aff p (hdrOf hb) false resp

end Sys2Proof.Machine

/-! # Isolation (R22, R31, R186, R188, R558) -/

namespace Sys2Proof.Machine

@[simp] theorem State.cntT_regs (s : State) (t i n : Nat) : (s.cntT t i n).regs = s.regs := rfl

@[simp] theorem State.cntG_regs (s : State) (i n : Nat) : (s.cntG i n).regs = s.regs := rfl

theorem State.countAnswer_isoEvt (s : State) (r : Req) (resp : Nat) : (s.countAnswer r resp).regs.isoEvt = s.regs.isoEvt := by
  unfold State.countAnswer
  dsimp only
  split
  · have hc : (if resp = 1 then s.cntT r.ten 20 1 else s).regs = s.regs := by split <;> rfl
    generalize (if resp = 1 then s.cntT r.ten 20 1 else s) = u at hc
    rw [← hc]
    split
    case h_2 | h_3 => split <;> simp
    all_goals simp
  · obtain ⟨_, _, e, hiso, _⟩ := (s.cntT r.ten (14 + resp) 1).window_parts r.port 3 1
    rw [e]
    exact hiso

theorem State.answer_isoEvt (s : State) (id resp : Nat) (free : Bool) : (s.answer id resp free).regs.isoEvt = s.regs.isoEvt := by
  unfold State.answer
  split
  · rfl
  · split
    · rfl
    · exact State.countAnswer_isoEvt _ _ _

theorem State.endRequest_isoEvt {s : State} (hg : s.lake.gathers = []) (id : Nat) (q : Req) :
    (s.endRequest id q).1.regs.isoEvt = s.regs.isoEvt := by
  obtain e | ⟨u, hk, e⟩ := State.endRequest_cases hg id q <;> rw [e]
  rw [State.answer_isoEvt]
  exact congrArg Regs.isoEvt (hk.same .regs)

/-- One request of an isolated port ends; the ones ended are counted. -/
def endOne (acc : State × Nat) (x : Nat × Req) : State × Nat :=
  ((acc.1.endRequest x.1 x.2).1, acc.2 + (acc.1.endRequest x.1 x.2).2.toNat)

theorem endOne_kept (l : List (Nat × Req)) (s : State) : Kept false false 0x30e05d67a0 s (l.foldl endOne (s, 0)).1 :=
  Kept.foldl1 (fun _ x h => State.endRequest_kept (Nat.or_self _) h x.1 x.2) l (s, 0) (.refl s)

/-- Without a gather, ending requests takes no identity and sets no isolation event. -/
theorem endOne_quiet (l : List (Nat × Req)) : ∀ acc : State × Nat, acc.1.lake.gathers = [] →
    (l.foldl endOne acc).1.nextId = acc.1.nextId ∧ (l.foldl endOne acc).1.regs.isoEvt = acc.1.regs.isoEvt := by
  induction l with
  | nil => exact fun acc _ => ⟨rfl, rfl⟩
  | cons x l ih =>
    intro acc hg
    have hk := State.endRequest_quiet hg x.1 x.2
    obtain ⟨hn, he⟩ := ih (endOne acc x) ((congrArg Lake.gathers (hk.same .lake)).trans hg)
    exact ⟨hn.trans (hk.same .nextId), he.trans (State.endRequest_isoEvt hg x.1 x.2)⟩

/-- The requests of a port that its isolation ends. -/
def State.mine (s : State) (p : Nat) : List (Nat × Req) := s.reqs.filter (fun (_, r) => r.port == p && r.answered)

/-- A port that is isolated for a fault: its requests end, its credits are withdrawn, its entries leave the affinity table, its
event is set, and the isolation is counted and recorded. -/
theorem State.isolate_eq {s : State} {p reason : Nat} (hi : (s.port p).isolated = false) (hr : reason ≠ 0) :
    ∃ (u : State) (n : Nat), ((s.mine p).foldl endOne (s, 0)) = (u, n) ∧ s.isolate p reason =
      (({ u.setPort p { u.port p with isolated := true, hcred := 0, dcred := 0, timer := 0 } with
        aff := forget u.aff p,
        regs := { u.regs with isoEvt := u.regs.isoEvt ||| 2 ^ (if p < 128 then p else 128 + (p - 136)) } } : State).cntG 16 1).note
          0x01 (if p < 128 then 3 else 5) (if p < 128 then p else p - 136) [(1, reason), (2, n)] := by
  refine ⟨_, _, rfl, ?_⟩
  unfold State.isolate
  rw [if_neg (by simp [hi])]
  dsimp only
  rw [if_neg hr, if_neg hr]
  rfl

theorem State.isolate_parts {s : State} {p reason : Nat} (hi : (s.port p).isolated = false) (hr : reason ≠ 0) :
    ((s.isolate p reason).port p).isolated = true ∧ ((s.isolate p reason).port p).hcred = 0 ∧
      ((s.isolate p reason).port p).dcred = 0 ∧ (s.isolate p reason).aff = forget s.aff p ∧
      (s.lake.gathers = [] → (s.isolate p reason).nextId = s.nextId ∧ (s.isolate p reason).regs.isoEvt =
        s.regs.isoEvt ||| 2 ^ (if p < 128 then p else 128 + (p - 136))) := by
  obtain ⟨u, n, hu, he⟩ := State.isolate_eq hi hr
  have hk : Kept false false 0x30e05d67a0 s u := by
    have := endOne_kept (s.mine p) s
    rwa [hu] at this
  rw [he]
  generalize hv : State.cntG _ 16 1 = v
  have hnote : Kept false false 0x3060000000 v (v.note 0x01 (if p < 128 then 3 else 5) (if p < 128 then p else p - 136)
    [(1, reason), (2, n)]) := State.note_kept (Nat.or_self _) (.refl v) _ _ _ _
  have hport : v.port p = { u.port p with isolated := true, hcred := 0, dcred := 0, timer := 0 } := by
    rw [← hv]
    exact State.setPort_port_self u p _
  have haff : v.aff = forget u.aff p := by rw [← hv]; rfl
  have hregs : v.regs.isoEvt = u.regs.isoEvt ||| 2 ^ (if p < 128 then p else 128 + (p - 136)) := by rw [← hv]; rfl
  have hnext : v.nextId = u.nextId := by rw [← hv]; rfl
  have huaff : u.aff = s.aff := hk.same .aff
  rw [State.port_congr (hnote.same .ports) p, hport]
  refine ⟨rfl, rfl, rfl, (hnote.same .aff).trans (by rw [haff, huaff]), fun hg => ?_⟩
  obtain ⟨hn, hiso⟩ := endOne_quiet (s.mine p) (s, 0) hg
  rw [hu] at hn hiso
  exact ⟨(hnote.same .nextId).trans (hnext.trans hn), (congrArg Regs.isoEvt (hnote.same .regs)).trans (by rw [hregs, hiso])⟩

/-- Settles O14. -/
theorem badParityIsolates : Obligations.BadParityIsolates := by
  unfold Obligations.BadParityIsolates
  intro i s p hb d felt hi hlive hiso hh hd hpar
  obtain ⟨hexec, _⟩ := exec_request hi s
  have haccept : s.accept p hb d felt = (s.setPort p { s.port p with injectParity := false }).isolate p 1 := by
    unfold State.accept
    dsimp only
    rw [if_neg (by simp [hlive, hiso]; omega), if_pos (by simp [hpar])]
  rw [haccept] at hexec
  exact ⟨_, hexec, State.isolate_parts (s := s.setPort p { s.port p with injectParity := false })
    (by rw [State.setPort_port_self]; exact hiso) (by decide)⟩

end Sys2Proof.Machine

/-! # Port events (R17, R24-R26, R28, R185, R186, R188) -/

namespace Sys2Proof.Machine

/-! ## Answers on a lane -/

/-- A port whose lane has only grown, its window counts aside. -/
def Port.LaneGrown (p q : Port) : Prop := ∃ l, q = { p with lane := p.lane ++ l, windows := q.windows }

theorem Port.LaneGrown.refl (p : Port) : p.LaneGrown p := ⟨[], by rw [List.append_nil]⟩

theorem Port.LaneGrown.trans {p q r : Port} (h : p.LaneGrown q) (g : q.LaneGrown r) : p.LaneGrown r := by
  obtain ⟨l, h⟩ := h
  obtain ⟨m, g⟩ := g
  refine ⟨l ++ m, ?_⟩
  rw [h] at g
  rw [← List.append_assoc]
  exact g

theorem Port.SameBut.grown {p q : Port} (h : p.SameBut q) : p.LaneGrown q := ⟨[], by rw [List.append_nil]; exact h⟩

/-- Every port's lane has only grown. -/
def State.LanesGrown (s t : State) : Prop := ∀ j, (s.port j).LaneGrown (t.port j)

theorem State.LanesGrown.refl (s : State) : s.LanesGrown s := fun _ => .refl _

theorem State.LanesGrown.trans {s t u : State} (h : s.LanesGrown t) (g : t.LanesGrown u) : s.LanesGrown u :=
  fun j => (h j).trans (g j)

theorem State.LanesGrown.of_eq {s t : State} (h : t.ports = s.ports) : s.LanesGrown t := by
  intro j
  rw [State.port_congr h]
  exact .refl _

theorem State.pushLane_lanesGrown (s : State) (p : Nat) (b : RespBeat) : s.LanesGrown (s.pushLane p b) := by
  intro j
  by_cases e : j = p
  · rw [e, State.pushLane_port_self]
    exact ⟨[b], rfl⟩
  · rw [State.pushLane_port_other _ _ e]
    exact .refl _

theorem State.answer_lanesGrown (s : State) (id resp : Nat) (free : Bool) : s.LanesGrown (s.answer id resp free) := by
  unfold State.answer
  split
  · exact .refl s
  · split
    · exact .refl s
    · exact .trans (.trans (.of_eq rfl) (State.pushLane_lanesGrown _ _ _)) fun j => (State.countAnswer_port _ _ _ j).grown

theorem State.LanesGrown.foldl {α : Type} {f : State → α → State} (hf : ∀ (s : State) (a : α), s.LanesGrown (f s a)) (l : List α) :
    ∀ s : State, s.LanesGrown (l.foldl f s) := by
  induction l with
  | nil => exact .refl
  | cons a t ih => exact fun s => (hf s a).trans (ih _)

theorem State.LanesGrown.ite {s t u : State} {c : Prop} [Decidable c] (h : s.LanesGrown t) (k : s.LanesGrown u) :
    s.LanesGrown (if c then t else u) := by
  split <;> assumption

theorem State.fences_lanesGrown (s : State) (p : Nat) : s.LanesGrown (s.fences p) := by
  unfold State.fences
  exact .foldl (fun u x => .ite (u.answer_lanesGrown _ _ _) (.refl u)) _ s

/-! ## Beats -/

/-- A port whose first beat leaves: the rest of its lane, the beat, and the credits it takes. -/
def Port.sent (q : Port) (b : RespBeat) (rest : List RespBeat) : Port :=
  { q with lane := rest, out := [b], rh := if b.free then q.rh else q.rh - 1,
           rd := if b.hasData && !b.free then q.rd - 1 else q.rd }

/-- What follows a beat that leaves only lengthens lanes. -/
theorem State.sendBeat_lanesGrown (s : State) (p : Nat) (b : RespBeat) (rest : List RespBeat) :
    (s.setPort p ((s.port p).sent b rest)).LanesGrown (s.sendBeat p b rest) := by
  unfold State.sendBeat
  dsimp only
  generalize hu : State.window _ p 2 _ = u
  have h1 : (s.setPort p ((s.port p).sent b rest)).LanesGrown u := by
    rw [← hu]
    obtain ⟨_, _, _, _, hport⟩ := State.window_parts (s.setPort p ((s.port p).sent b rest)) p 2
      (if b.hasData then 32 * ((List.range 8).filter (fun j => bitAt b.dvld.toNat j)).length else 0)
    exact fun j => (hport j).grown
  refine h1.trans ?_
  split
  · exact .refl u
  next r hr =>
    have h2 : ∀ n, u.LanesGrown (if r.op = 0 && b.hasData && !b.free then u.freePlaces r.stack p n else u) := fun n =>
      .ite (.of_eq ((State.freePlaces_kept (Nat.or_self _) (.refl u) _ _ _).same .ports)) (.refl u)
    have h3 : ∀ v : State, v.LanesGrown (if r.traced then v.reqtrace r else v) := fun v =>
      .ite (.of_eq ((State.reqtrace_kept (Nat.or_self _) (.refl v) _).same .ports)) (.refl v)
    have h4 : ∀ v : State, v.LanesGrown (if (v.part? (partKey b.req r.stack)).isSome then
        v.setReq b.req { r with phase := .discarded } else v.dropReq b.req) := fun v => .ite (.of_eq rfl) (.of_eq rfl)
    exact .ite ((((h2 _).trans (h3 _)).trans (h4 _)).trans (State.fences_lanesGrown _ p)) (h2 _)

theorem State.responseBeatSend_sends {s : State} {p : Fin 138} {b : RespBeat} {rest : List RespBeat}
    (hl : (s.port p.val).lane = b :: rest) (hc : b.free = true ∨ ((s.port p.val).live = true ∧ 1 ≤ (s.port p.val).rh ∧
      (b.hasData = true → 1 ≤ (s.port p.val).rd))) (ho : s.outOfTurn p.val [] b = false) :
    exec (.responseBeatSend p) s = .next (s.sendBeat p.val b rest) := by
  have hmay : s.maySend p.val [] b = true := by
    unfold State.maySend
    dsimp only
    rw [ho]
    obtain hf | ⟨hlive, hrh, hrd⟩ := hc
    · simp [hf]
    · cases hd : b.hasData with
      | false => simp [hlive, hrh]
      | true => simp [hlive, hrh, hrd hd]
  have hnext : s.nextBeat p.val [] (s.port p.val).lane = some (b, rest) := by
    rw [hl, State.nextBeat, if_pos hmay]
    rfl
  show execResponseBeatSend p s = _
  unfold execResponseBeatSend
  rw [hnext]

/-- Without response credits no beat leaves but a closing header. -/
theorem State.nextBeat_none {s : State} {p : Nat} (hrh : (s.port p).rh = 0) (l : List RespBeat) :
    ∀ before, (∀ b ∈ l, b.free = false) → s.nextBeat p before l = none := by
  induction l with
  | nil => exact fun _ _ => rfl
  | cons b l ih =>
    intro before hf
    rw [State.nextBeat, if_neg (by simp [State.maySend, hrh, hf b (List.mem_cons_self ..)])]
    exact ih _ fun x hx => hf x (List.mem_cons_of_mem _ hx)

/-! ## Urgency -/

theorem State.claims_queue (s : State) (i j : Nat) : ((s.claims i).leaf j).queue = (s.leaf j).queue := by
  unfold State.claims
  dsimp only
  by_cases e : j = i
  · rw [e, State.setLeaf_leaf_self]
  · rw [State.setLeaf_leaf_other _ _ e]

theorem State.claimsAll_queue (l : List (Nat × Leaf)) (j : Nat) : ∀ s : State,
    ((l.foldl (fun s (x : Nat × Leaf) => s.claims x.1) s).leaf j).queue = (s.leaf j).queue := by
  induction l with
  | nil => exact fun _ => rfl
  | cons x l ih => exact fun s => (ih _).trans (s.claims_queue x.1 j)

/-- A port's entries in a leaf, raised to the level the port drives. -/
def State.raise (s : State) (p leaf : Nat) (l : Leaf) : Leaf :=
  { l with queue := l.queue.map (fun e => if e.port = p then { e with urg := s.urgOf (s.sck (stackOf leaf)).stc e } else e) }

/-- An entry of a port is at least as urgent as the port. -/
theorem State.raise_urg {s : State} {p leaf : Nat} {l : Leaf} {e : Entry} (hp : p < 128) (he : e ∈ (s.raise p leaf l).queue)
    (hport : e.port = p) : (s.port p).urg ≤ e.urg := by
  obtain ⟨x, _, rfl⟩ := List.mem_map.mp he
  by_cases hx : x.port = p
  · rw [if_pos hx]
    unfold State.urgOf
    dsimp only
    rw [if_pos (by omega), hx]
    exact Nat.le_max_right _ _
  · rw [if_neg hx] at hport
    exact absurd hport hx

theorem urgLevelChange_raises (p : Fin 128) (lvl : Fin 4) (s : State) : Completes (.urgLevelChange p lvl) s fun t =>
    t.ports = (s.setPort p.val { s.port p.val with urg := lvl.val }).ports ∧
      ∀ leaf e, e ∈ (t.leaf leaf).queue → e.port = p.val → (t.port p.val).urg ≤ e.urg := by
  generalize hu : s.setPort p.val { s.port p.val with urg := lvl.val } = u
  have hexec : exec (.urgLevelChange p lvl) s = .next ((u.leaves.filter (fun x => x.2.queue.any (fun e => e.port = p.val))).foldl
      (fun s (x : Nat × Leaf) => s.claims x.1) { u with leaves := Tab.mapVals u.leaves (u.raise p.val) }) := by
    rw [← hu]
    rfl
  have hk : Kept false false 0x400 { u with leaves := Tab.mapVals u.leaves (u.raise p.val) }
      ((u.leaves.filter (fun x => x.2.queue.any (fun e => e.port = p.val))).foldl
        (fun s (x : Nat × Leaf) => s.claims x.1) { u with leaves := Tab.mapVals u.leaves (u.raise p.val) }) :=
    Kept.foldl (fun _ x h => State.claims_kept (Nat.or_self _) h x.1) _ _ (.refl _)
  refine ⟨_, hexec, hk.same .ports, fun leaf e he hport => ?_⟩
  rw [State.claimsAll_queue] at he
  rw [State.port_congr (hk.same .ports) p.val]
  have hleaf : ({ u with leaves := Tab.mapVals u.leaves (u.raise p.val) } : State).leaf leaf =
      ((Tab.find? u.leaves leaf).map (u.raise p.val leaf)).getD Leaf.reset := by
    unfold State.leaf Tab.get
    dsimp only
    rw [Tab.find?_mapVals]
  rw [hleaf] at he
  cases hf : Tab.find? u.leaves leaf with
  | none =>
    rw [hf] at he
    exact nomatch he
  | some l =>
    rw [hf] at he
    exact State.raise_urg p.isLt he hport

/-- Settles O15. -/
theorem portEventsComplete : Obligations.PortEventsComplete := by
  unfold Obligations.PortEventsComplete
  refine ⟨?credits, ?sends, ?blocked, urgLevelChange_raises, ?watchdog, ?edge, ?feeder⟩
  case credits =>
    intro p n m s h
    show execResponseCreditReturn p n m s = _
    unfold execResponseCreditReturn
    dsimp only
    rw [if_neg (by simp [h])]
  case sends =>
    intro p s b rest hl hc ho
    refine ⟨_, State.responseBeatSend_sends hl hc ho, ?_⟩
    obtain ⟨l, hgrown⟩ := s.sendBeat_lanesGrown p.val b rest p.val
    rw [State.setPort_port_self] at hgrown
    rw [hgrown]
    refine ⟨⟨l, rfl⟩, rfl, ?_, ?_⟩
    · show (if b.free then _ else _ : Nat) = _
      split <;> rfl
    · show (if b.hasData && !b.free then _ else _ : Nat) = _
      split <;> rfl
  case blocked =>
    intro p s hf hrh
    show execResponseBeatSend p s = _
    unfold execResponseBeatSend
    rw [State.nextBeat_none hrh _ _ hf]
  case watchdog =>
    intro p s hd hw ht
    have hi : (s.port p.val).isolated = false := by
      simp only [State.watchdogRuns, Bool.and_eq_true, Bool.not_eq_true'] at hw
      exact hw.1.2
    refine ⟨_, ?_, (State.isolate_parts (reason := if s.laneOpen p.val then 2 else 3) hi (by split <;> decide)).1⟩
    show execPortWatchdogExpiry p s = _
    unfold execPortWatchdogExpiry
    rw [if_pos (by simp [hd, hw, ht])]
  case edge =>
    intro p s hl hr hp
    refine ⟨s.setPort p.val (s.port p.val).released, ?_, ?_⟩
    · show execPortEdgeResetRelease p s = _
      unfold execPortEdgeResetRelease
      dsimp only
      rw [if_neg (by simp [hl, hr]), if_neg (by simp; omega)]
    · dsimp only
      rw [State.setPort_port_self]
      exact ⟨rfl, rfl, rfl, rfl, rfl⟩
  case feeder =>
    intro p s hl hr h1 h2
    show execPortEdgeResetRelease p s = _
    unfold execPortEdgeResetRelease
    dsimp only
    rw [if_neg (by simp [hl, hr]), if_pos (by simp [h1, h2])]

end Sys2Proof.Machine

/-! # The fixed mapping of addresses (R53) -/

namespace Sys2Proof.Machine

theorem memberIndex_lt (a k : Nat) : memberIndex a k < 2 ^ k := Nat.mod_lt _ (Nat.two_pow_pos k)

theorem memberIndex_testBit (a : Nat) {k j : Nat} (h : j < k) :
    (memberIndex a k).testBit j = (a.testBit (8 + j) ^^ a.testBit (20 + j)) := by
  have h8 : (a / 256).testBit j = a.testBit (8 + j) := by
    rw [show 256 = 2 ^ 8 from rfl, Nat.testBit_div_two_pow, Nat.add_comm]
  have h20 : (a / 2 ^ 20).testBit j = a.testBit (20 + j) := by rw [Nat.testBit_div_two_pow, Nat.add_comm]
  rw [memberIndex, Nat.testBit_mod_two_pow, Nat.testBit_xor, h8, h20, decide_eq_true h, Bool.true_and]

/-- The address within a granule is below the leaf-local granule number. -/
theorem leafLocal_testBit (a k j : Nat) :
    (leafLocal a k).testBit j = if j < 8 then (a % 256).testBit j else (a / 2 ^ (8 + k)).testBit (j - 8) := by
  rw [leafLocal, Nat.mul_comm, show 256 = 2 ^ 8 from rfl, Nat.testBit_two_pow_mul_add _ (Nat.mod_lt _ (by decide))]

theorem leafLocal_testBit_low (a k : Nat) {j : Nat} (h : j < 8) : (leafLocal a k).testBit j = a.testBit j := by
  rw [leafLocal_testBit, if_pos h, show 256 = 2 ^ 8 from rfl, Nat.testBit_mod_two_pow, decide_eq_true h, Bool.true_and]

theorem leafLocal_testBit_high (a k j : Nat) : (leafLocal a k).testBit (8 + j) = a.testBit (8 + k + j) := by
  rw [leafLocal_testBit, if_neg (by omega), Nat.testBit_div_two_pow]
  congr 1
  omega

theorem leafLocal_zero (a : Nat) : leafLocal a 0 = a := by
  rw [leafLocal]
  omega

/-- An address is its granule number on its leaf, its interleave bits and its place in the granule. -/
theorem quireRel_parts (a k : Nat) : a / 2 ^ (8 + k) * 2 ^ (8 + k) + a / 256 % 2 ^ k * 256 + a % 256 = a := by
  have hmod : a % 2 ^ (8 + k) = a / 256 % 2 ^ k * 256 + a % 256 := by
    rw [Nat.pow_add, Nat.mod_mul, Nat.mul_comm, Nat.add_comm]
  rw [Nat.add_assoc, ← hmod, Nat.mul_comm, Nat.div_add_mod]

/-- For a legal k, the address bits from 20 up are bits of the granule number on the leaf: the interleave bits end below
them. -/
theorem div_two_pow_twenty {k : Nat} (hk : k ≤ 10) (x : Nat) : x / 2 ^ 20 = x / 2 ^ (8 + k) / 2 ^ (12 - k) := by
  rw [Nat.div_div_eq_div_mul, ← Nat.pow_add]
  congr 2
  omega

/-- One step of `quireRel` finds the interleave bits, whatever interleave bits it starts from. -/
theorem memberIndex_xor_high (a : Nat) {k il : Nat} (hk : k ≤ 10) (hil : il < 2 ^ k) :
    (memberIndex a k ^^^ (a / 2 ^ (8 + k) * 2 ^ (8 + k) + il * 256) / 2 ^ 20) % 2 ^ k = a / 256 % 2 ^ k := by
  have hlow : il * 256 < 2 ^ (8 + k) := by rw [Nat.pow_add]; omega
  have hhigh : (a / 2 ^ (8 + k) * 2 ^ (8 + k) + il * 256) / 2 ^ 20 = a / 2 ^ 20 := by
    rw [div_two_pow_twenty hk, div_two_pow_twenty hk a, Nat.mul_comm, Nat.mul_add_div (Nat.two_pow_pos _),
      Nat.div_eq_of_lt hlow, Nat.add_zero]
  rw [hhigh, memberIndex, Nat.xor_mod_two_pow, Nat.mod_mod, ← Nat.xor_mod_two_pow, Nat.xor_assoc, Nat.xor_self, Nat.xor_zero]

/-- R53 loses nothing. -/
theorem quireRel_leafLocal (a : Nat) {k : Nat} (hk : k ≤ 10) : quireRel (leafLocal a k) (memberIndex a k) k = a := by
  have hhi : leafLocal a k / 256 = a / 2 ^ (8 + k) := by rw [leafLocal]; omega
  have hlo : leafLocal a k % 256 = a % 256 := by rw [leafLocal]; omega
  have hfold : (List.range 11).foldl (fun il _ =>
      (memberIndex a k ^^^ (a / 2 ^ (8 + k) * 2 ^ (8 + k) + il * 256) / 2 ^ 20) % 2 ^ k) 0 = a / 256 % 2 ^ k := by
    rw [show List.range 11 = 0 :: List.range' 1 10 from rfl, List.foldl_cons, memberIndex_xor_high a hk (Nat.two_pow_pos k)]
    exact List.foldl_fixed' (fun _ => memberIndex_xor_high a hk (Nat.mod_lt _ (Nat.two_pow_pos k))) _
  unfold quireRel
  dsimp only
  rw [hhi, hlo, hfold]
  exact quireRel_parts a k

/-- Settles O20, bit by bit; the way back finds the interleave bits, as they end below bit 20. -/
theorem addressesMapToLeaves : Obligations.AddressesMapToLeaves := by
  unfold Obligations.AddressesMapToLeaves
  exact fun a _ k _ => ⟨memberIndex_lt a k, fun _ => memberIndex_testBit a, rfl, fun _ => leafLocal_testBit_low a k,
    leafLocal_testBit_high a k, Nat.mod_one _, leafLocal_zero a, quireRel_leafLocal a⟩

end Sys2Proof.Machine

/-! # Commands that stage (R224-R227, R462) -/

namespace Sys2Proof.Machine

/-! ## Items that join a page's open set -/

/-- A set that is open for a page. -/
def ChangeSet.openFor (c : ChangeSet) (page : Nat) : Bool := !c.committed && c.page == page

theorem ChangeSet.openFor_eq (c : ChangeSet) (page : Nat) : c.openFor page = !(c.committed || c.page != page) := by
  simp [ChangeSet.openFor, bne]

theorem State.openSet_openFor {s : State} {page : Nat} {c : ChangeSet} (h : s.openSet page = some c) :
    c.openFor page = true :=
  List.find?_some (p := fun c : ChangeSet => c.openFor page) h

/-- Behind the sets that are not open for a page, an open one is the page's. -/
theorem State.openSet_append {s : State} {l : List ChangeSet} {page : Nat} {c : ChangeSet} (hc : c.openFor page = true)
    (hs : s.sets = l.filter (fun x => x.committed || x.page != page) ++ [c]) : s.openSet page = some c := by
  have hnone : (l.filter (fun x => x.committed || x.page != page)).find? (fun x => x.openFor page) = none := by
    rw [List.find?_eq_none]
    intro x hx
    rw [ChangeSet.openFor_eq, (List.mem_filter.mp hx).2]
    decide
  show s.sets.find? (fun x => x.openFor page) = some c
  rw [hs, List.find?_append, hnone, Option.none_or]
  exact List.find?_cons_of_pos hc

/-- Items that join end their page's open set. -/
theorem State.join_hasStaged {s t : State} {page tk : Nat} {items : List (Staged × Nat)}
    (h : s.join page tk items = .inl t) : t.hasStaged page tk (items.map Prod.fst) := by
  unfold State.join at h
  dsimp only at h
  split at h
  · exact nomatch h
  · split at h
    · exact nomatch h
    · cases h
      refine ⟨_, State.openSet_append ?_ rfl, ?_⟩
      · cases ho : s.openSet page with
        | none => simp [ChangeSet.openFor]
        | some c =>
          have hc := State.openSet_openFor ho
          exact hc
      · simp only [List.map_map]
        exact List.suffix_append _ _

theorem State.hasStaged_congr {s t : State} {page tk : Nat} {items : List Staged} (h : t.sets = s.sets)
    (hs : s.hasStaged page tk items) : t.hasStaged page tk items := by
  unfold State.hasStaged State.openSet at hs ⊢
  rw [h]
  exact hs

/-! ## A row that stages -/

/-- Either a check that every command has fails, or the row's body answers. -/
theorem State.replyTo_cases (s : State) (m : MailRow) (c : Cmd) :
    (∃ st pos step, s.replyTo m c = .fail st pos step none) ∨ s.replyTo m c = m.body c s.nextId (s.taken m c) := by
  unfold State.replyTo
  dsimp only
  split
  · exact .inl ⟨_, _, _, rfl⟩
  · split
    · exact .inl ⟨_, _, _, rfl⟩
    · exact .inr rfl

/-- Items an accepted command stages join its page's open set. -/
theorem State.accepts_joins {s v : State} {i : Instr} {c : Cmd} {m : MailRow} {items : List (Staged × Nat)} {r : List Nat}
    (hi : i.mail = some m) (h : s.accepts i c) (hb : m.body c s.nextId (s.taken m c) = .staged items r v) :
    ∃ u, v.join m.page s.nextId items = .inl u := by
  obtain ⟨m', hs, ha⟩ := h
  have hm : m' = m := Option.some.inj (hs.1.symm.trans hi)
  subst hm
  obtain ⟨st, pos, step, hr⟩ | hr := s.replyTo_cases m' c
  · rw [hr] at ha
    exact ha.elim
  · rw [hr, hb] at ha
    exact (Sum.isLeft_iff).mp ha

/-- An accepted command whose row's body stages items: they end its page's open set, and all else is as the body left it but
for pages, tickets, counts and queues. -/
theorem State.accepts_staged {s v : State} {i : Instr} {c : Cmd} {m : MailRow} {items : List (Staged × Nat)} {r : List Nat}
    (hi : i.mail = some m) (he : exec i s = s.serve m.page m.op m.sub m.body) (h : s.accepts i c)
    (hb : m.body c s.nextId (s.taken m c) = .staged items r v) (ht : v.tickets = (s.taken m c).tickets) :
    ∃ t, exec i s = .next t ∧ t.hasStaged m.page s.nextId (items.map Prod.fst) ∧ Kept false false 0x27000214 v t := by
  obtain ⟨_, _, hx⟩ := s.accepts_exec hi he h
  obtain ⟨u, hu⟩ := s.accepts_joins hi h hb
  rw [hb] at hx
  have hticket : Tab.find? v.tickets s.nextId = some (c.ticket m.page) := by rw [ht]; exact s.taken_ticket m c
  have hsettle : Kept false false 0x27000204 u ((s.taken m c).settle s.nextId (.staged items r v)) := by
    unfold State.settle
    dsimp only
    rw [hticket]
    dsimp only
    rw [show (c.ticket m.page).page = m.page from rfl, hu]
    exact .ite (Kept.upd_tickets (by decide) (.refl u)) (State.complete_kept (by decide) (Kept.upd_tickets (by decide) (.refl u)) _ _ _ _ _ _)
  have hk : Kept false false 0x27000204 u _ :=
    State.skipUnknown_kept 1024 (by decide) (State.queueService_kept (by decide) hsettle m.page)
  refine ⟨_, hx, State.hasStaged_congr (hk.same .sets) (State.join_hasStaged hu), ?_⟩
  refine Kept.more (d := 0x27000204) (by decide) ?_ hk
  unfold State.join at hu
  dsimp only at hu
  split at hu
  · exact nomatch hu
  · split at hu
    · exact nomatch hu
    · cases hu
      exact Kept.upd_sets (by decide) (.refl v)

/-! ## QALLOC (R62-R64, R569) -/

/-- The better of the candidate so far and another (R569). -/
def State.better (s : State) (held : List Nat) (k : Nat) (acc : Option (Nat × Nat)) (b : Nat) : Option (Nat × Nat) :=
  match acc with
  | none => some (b, s.freeAround held b k)
  | some (_, m) => if m < s.freeAround held b k then some (b, s.freeAround held b k) else acc

theorem State.better_cases (s : State) (held : List Nat) (k : Nat) (acc : Option (Nat × Nat)) (b : Nat) :
    s.better held k acc b = acc ∨ (s.better held k acc b).map Prod.fst = some b := by
  unfold State.better
  split
  · exact .inr rfl
  · split
    · exact .inr rfl
    · exact .inl rfl

theorem State.foldl_better (s : State) (held : List Nat) (k : Nat) (l : List Nat) : ∀ acc : Option (Nat × Nat),
    l.foldl (s.better held k) acc = acc ∨ ∃ b ∈ l, (l.foldl (s.better held k) acc).map Prod.fst = some b := by
  induction l with
  | nil => exact fun _ => .inl rfl
  | cons a l ih =>
    intro acc
    obtain h | ⟨b, hb, h⟩ := ih (s.better held k acc a)
    · rw [List.foldl_cons, h]
      exact (s.better_cases held k acc a).imp_right fun e => ⟨a, List.mem_cons_self .., e⟩
    · exact .inr ⟨b, List.mem_cons_of_mem _ hb, h⟩

/-- The base taken is one of the candidates. -/
theorem State.bestBase_mem {s : State} {held cands : List Nat} {k base : Nat} (h : s.bestBase held cands k = some base) :
    base ∈ cands := by
  have h : (cands.foldl (s.better held k) none).map Prod.fst = some base := h
  obtain e | ⟨b, hb, e⟩ := s.foldl_better held k cands none
  · rw [e] at h
    exact nomatch h
  · rw [e] at h
    exact Option.some.inj h ▸ hb

/-- The quire map entry that QALLOC reserves, and the window it maps. -/
def Cmd.newQuire (c : Cmd) (b : Banked) (base : Nat) : QuireRec :=
  { qk := c.b 0, qstate := .active, shared := bitAt (c.b 4) 0, xhost := bitAt (c.b 4) 1, creator := c.tenant,
    qhost := (b.tenant c.tenant).host, nshare := 0, qgen := (b.quire base).qgen }
def Cmd.newWindow (c : Cmd) (b : Banked) (base : Nat) : Window :=
  { valid := true, write := bitAt (c.b 4) 2, shared := bitAt (c.b 4) 0, qbase := base, qk := c.b 0, wbase := c.le 8 4,
    qgen := (b.quire base).qgen }

/-- A base that QALLOC may take: legal, as PLACE asks, and clear of the leaves that quires hold (R62-R64). -/
structure State.Allocatable (s : State) (c : Cmd) (base : Nat) : Prop where
  legal : s.legalQuire base (c.b 0) = true
  place : base ∈ s.placeBases (c.b 1) (c.le 2 2) (c.b 0)
  clear : ∀ l ∈ s.membersOf base (c.b 0), l ∉ s.leavesHeld s.pendingBank (fun _ => true)

theorem qallocBody_staged {c : Cmd} {tk : Nat} {s : State} (h : (qallocBody c tk s).succeeds) : ∃ base r,
    s.Allocatable c base ∧ qallocBody c tk s = .staged [(.quireNew base (c.newQuire s.pendingBank base), 0xFFFF),
      (.window c.tenant (c.b 5) (c.newWindow s.pendingBank base), 0xFFFF)] r s := by
  unfold qallocBody at h ⊢
  dsimp only at h ⊢
  have hnext := (chain_succeeds h).1
  rw [hnext] at h ⊢
  split
  next e =>
    simp only [e] at h
    split at h
    · exact absurd rfl (h _ _ _ _)
    · exact absurd rfl (h _ _ _ _)
  next base e =>
    refine ⟨base, _, ?_, rfl⟩
    obtain ⟨hopen, _⟩ := List.mem_filter.mp (State.bestBase_mem e)
    obtain ⟨hplace, hclear⟩ := List.mem_filter.mp hopen
    obtain ⟨_, hlegal⟩ := List.mem_filter.mp hplace
    simp only [Bool.and_eq_true] at hlegal hclear
    refine ⟨hlegal.1, hplace, fun l hl hheld => ?_⟩
    simp only [Bool.not_eq_true', List.any_eq_false, List.contains_iff_mem] at hclear
    exact hclear.1 l hl hheld

theorem qalloc_stages {p : Fin 521} {s : State} {c : Cmd} (h : s.accepts (.qalloc p) c) :
    Completes (.qalloc p) s fun t => ∃ base, s.Allocatable c base ∧ t.hasStaged p.val s.nextId
      [.quireNew base (c.newQuire s.pendingBank base), .window c.tenant (c.b 5) (c.newWindow s.pendingBank base)] := by
  have hm : (Instr.qalloc p).mail = some ⟨p.val, 0x10, anySub, qallocBody⟩ := rfl
  obtain ⟨_, hok, _⟩ := s.accepts_exec hm rfl h
  obtain ⟨base, r, ha, hb⟩ := qallocBody_staged (tk := s.nextId) hok
  obtain ⟨t, ht, hst, _⟩ := s.accepts_staged hm rfl h hb rfl
  exact ⟨t, ht, base, ⟨ha.legal, ha.place, ha.clear⟩, hst⟩

/-! ## QJOIN (R58, R59, R69, R474) -/

/-- A quire that QJOIN may map: of the generation named, shared, and with room for one sharer more. -/
structure State.Joinable (s : State) (c : Cmd) (q : QuireRec) : Prop where
  gen : q.qgen = c.le 2 2
  shared : q.shared = true
  room : s.sharersMost c.page (c.le 0 2) < 64

theorem qjoinBody_staged {c : Cmd} {tk : Nat} {s : State} {q : QuireRec} (hq : q = s.pendingBank.quire (c.le 0 2))
    (h : (qjoinBody c tk s).succeeds) : s.Joinable c q ∧ ∃ r, qjoinBody c tk s = .staged [(.window c.tenant (c.b 5)
      ⟨true, c.b 4 == 4, true, c.le 0 2, q.qk, c.le 8 4, q.qgen⟩, 0xFFFF)] r s := by
  unfold qjoinBody at h ⊢
  dsimp only at h ⊢
  rw [← hq] at h ⊢
  obtain ⟨hnext, hchecks⟩ := chain_succeeds h
  simp only [List.find?_eq_none, List.forall_mem_cons, argIs, stateIs] at hchecks
  obtain ⟨_, _, _, _, _, _, _, _, hgen, hshared, _, hroom, _⟩ := hchecks
  refine ⟨⟨by simpa using hgen, ?_, by simpa using hroom⟩, _, hnext⟩
  cases hs : q.shared with
  | true => rfl
  | false => exact absurd (by simp [hs]) hshared

theorem qjoin_stages {p : Fin 521} {s : State} {c : Cmd} {q : QuireRec} (h : s.accepts (.qjoin p) c)
    (hq : q = s.pendingBank.quire (c.le 0 2)) : Completes (.qjoin p) s fun t => s.Joinable c q ∧
      t.hasStaged p.val s.nextId [.window c.tenant (c.b 5) ⟨true, c.b 4 == 4, true, c.le 0 2, q.qk, c.le 8 4, q.qgen⟩] := by
  have hm : (Instr.qjoin p).mail = some ⟨p.val, 0x11, anySub, qjoinBody⟩ := rfl
  obtain ⟨_, hok, _⟩ := s.accepts_exec hm rfl h
  obtain ⟨hj, r, hb⟩ := qjoinBody_staged (tk := s.nextId) (s := s.taken ⟨p.val, 0x11, anySub, qjoinBody⟩ c) hq hok
  obtain ⟨t, ht, hst, _⟩ := s.accepts_staged hm rfl h hb rfl
  exact ⟨t, ht, ⟨hj.gen, hj.shared, hj.room⟩, hst⟩

/-- The command served is one of the page it is served on. -/
theorem Page.headCmd_page (p : Page) (page : Nat) : (p.headCmd page).page = page := by
  unfold Page.headCmd
  dsimp only
  split <;> rfl

theorem State.accepts_page {s : State} {i : Instr} {c : Cmd} {m : MailRow} (hi : i.mail = some m) (h : s.accepts i c) :
    c.page = m.page := by
  obtain ⟨m', ⟨hm, _, hhead, _⟩, _⟩ := h
  rw [(State.headCommand_some hhead).1, Page.headCmd_page, Option.some.inj (hm.symm.trans hi)]

/-- Settles O53: the row's body stages the two items of the base it found, or the window of the quire named. -/
theorem quireCommandsStage : Obligations.QuireCommandsStage := by
  unfold Obligations.QuireCommandsStage
  refine ⟨fun p s c h => ?alloc, fun p s c q h hq => ?join⟩
  case alloc =>
    obtain ⟨t, ht, base, ha, hst⟩ := qalloc_stages h
    exact ⟨t, ht, base, _, _, hst, ha.legal, ha.place, ha.clear, rfl, rfl, rfl, rfl, rfl, rfl⟩
  case join =>
    obtain ⟨t, ht, hj, hst⟩ := qjoin_stages h hq
    have hpage : c.page = p.val := State.accepts_page rfl h
    exact ⟨t, ht, hj.gen, hj.shared, hpage ▸ hj.room, hst⟩

end Sys2Proof.Machine

/-! # Quires on their way to FREE (R66-R68, R105, R147, R334, R343) -/

namespace Sys2Proof.Machine

/-! ## Folds over the states -/

/-- What each step of a fold gives its element, and no step takes from another, every element has at the end. -/
theorem State.foldl_establishes {α : Type} {f : State → α → State} {P : α → State → Prop} (hself : ∀ s a, P a (f s a))
    (hkeep : ∀ s a b, P b s → P b (f s a)) (l : List α) : ∀ s, ∀ b ∈ l, P b (l.foldl f s) := by
  induction l with
  | nil => exact fun _ _ h => nomatch h
  | cons a l ih =>
    intro s b hb
    obtain rfl | hb := List.mem_cons.mp hb
    · exact List.foldlRecOn l f (hself s b) fun u hu a _ => hkeep u a b hu
    · exact ih _ b hb

/-! ## The care tables, being equal or kept -/

theorem State.care_congr {s t : State} (h : t.cares = s.cares) (l : Nat) : t.care l = s.care l :=
  congrArg (fun x => Tab.get Care.reset x l) h

theorem State.leaf_congr {s t : State} (h : t.leaves = s.leaves) (l : Nat) : t.leaf l = s.leaf l :=
  congrArg (fun x => Tab.get Leaf.reset x l) h

/-- A leaf's fill is as far as it was, and its error tracker as it was. -/
structure Care.FillKept (c d : Care) : Prop where
  filled : d.filled = c.filled
  zeroAt : d.zeroAt = c.zeroAt
  track : d.track = c.track

theorem Care.FillKept.trans {c d e : Care} (h : c.FillKept d) (g : d.FillKept e) : c.FillKept e :=
  ⟨g.filled.trans h.filled, g.zeroAt.trans h.zeroAt, g.track.trans h.track⟩

/-- The same of every leaf. -/
structure State.FillsKept (s t : State) : Prop where
  at_leaf : ∀ l, (s.care l).FillKept (t.care l)

namespace State.FillsKept

theorem of_eq {s t : State} (h : t.cares = s.cares) : s.FillsKept t := by
  refine ⟨fun l => ?_⟩
  rw [State.care_congr h]
  exact ⟨rfl, rfl, rfl⟩

theorem refl (s : State) : s.FillsKept s := .of_eq rfl

theorem trans {s t u : State} (h : s.FillsKept t) (g : t.FillsKept u) : s.FillsKept u :=
  ⟨fun l => (h.at_leaf l).trans (g.at_leaf l)⟩

theorem ite {s t u : State} {c : Prop} [Decidable c] (h : s.FillsKept t) (g : s.FillsKept u) : s.FillsKept (if c then t else u) := by
  split
  · exact h
  · exact g

theorem setCare {s t : State} {l : Nat} {x : Care} (h : s.FillsKept t) (hx : (t.care l).FillKept x) :
    s.FillsKept (t.setCare l x) := by
  refine h.trans ⟨fun j => ?_⟩
  by_cases hj : j = l
  · rw [hj, State.setCare_care_self]
    exact hx
  · rw [State.setCare_care_other _ _ hj]
    exact ⟨rfl, rfl, rfl⟩

theorem foldl {α : Type} {s : State} {f : State → α → State} (hf : ∀ (u : State) (a : α), s.FillsKept u → s.FillsKept (f u a))
    (l : List α) {t : State} (h : s.FillsKept t) : s.FillsKept (l.foldl f t) :=
  List.foldlRecOn l f h fun u hu a _ => hf u a hu

/-! ## Entries and merge entries -/

section
variable {s t : State} (h : s.FillsKept t)
include h

/-- One operation more that writes no care record. -/
theorem more {u : State} (e : u.cares = t.cares) : s.FillsKept u := h.trans (.of_eq e)

theorem setLake (x : Lake) : s.FillsKept { t with lake := x } := h.more rfl

theorem setChan (c : Nat) (x : Chan) : s.FillsKept (t.setChan c x) := h.more rfl

theorem pushEntry (l : Nat) (e : Entry) : s.FillsKept (t.pushEntry l e) :=
  h.more ((State.pushEntry_kept (Nat.or_self _) (.refl t) l e).same .cares)

theorem flushEnt (l : Nat) (m : MergeEnt) : s.FillsKept (t.flushEnt l m) := by
  have hset : ∀ ms, s.FillsKept (t.setCare l { t.care l with merge := ms }) := fun ms => h.setCare ⟨rfl, rfl, rfl⟩
  unfold State.flushEnt
  dsimp only
  exact .ite ((hset _).pushEntry _ _) (((hset _).pushEntry _ _).pushEntry _ _)

theorem closeFor (l : Nat) (las : List Nat) : s.FillsKept (t.closeFor l las) := by
  refine .foldl (fun u la hu => ?_) las h
  split
  · exact hu
  · exact hu.flushEnt l _

theorem closeAll (l : Nat) : s.FillsKept (t.closeAll l) := by
  unfold State.closeAll
  exact .foldl (fun u m hu => .ite hu (hu.flushEnt l m)) _ h

theorem enqueue (l : Nat) (e : Entry) : s.FillsKept (t.enqueue l e) := (h.closeFor l _).pushEntry l e

theorem askAccu : s.FillsKept t.askAccu := by
  unfold State.askAccu
  refine .foldl (fun u x hu => ?_) _ h
  obtain ⟨id, j⟩ := x
  dsimp only
  split
  · exact hu
  · exact (hu.setLake _).enqueue _ _

theorem feedZero (l : Nat) : s.FillsKept (t.feedZero l) :=
  h.more ((State.feedZero_kept (Nat.or_self _) (.refl t) l).same .cares)

end

end State.FillsKept

/-! ## Maintenance tokens -/

theorem Care.place_fillKept (c : Care) (m : MReq) (f : Fit) : c.FillKept (c.place m f) := by
  unfold Care.place
  cases f with
  | take | ride | join => dsimp only; split <;> exact ⟨rfl, rfl, rfl⟩
  | absorb | pause | queue => exact ⟨rfl, rfl, rfl⟩

theorem Care.release_fillKept (c : Care) (a : Act) : c.FillKept (c.release a) := by
  unfold Care.release
  dsimp only
  split <;> split <;> exact ⟨rfl, rfl, rfl⟩

namespace State.FillsKept

section
variable {s t : State} (h : s.FillsKept t)
include h

theorem placeReq (l : Nat) (m : MReq) (f : Fit) : s.FillsKept (t.placeReq l m f) := by
  unfold State.placeReq
  have hplaced : s.FillsKept ((m.leaves l).foldl (fun s l => s.setCare l ((s.care l).place m f)) t) :=
    .foldl (fun u l hu => hu.setCare (Care.place_fillKept _ m f)) _ h
  generalize (m.leaves l).foldl (fun s l => s.setCare l ((s.care l).place m f)) t = u at hplaced ⊢
  dsimp only
  split
  · exact .ite (hplaced.setChan _ _) hplaced
  · refine .ite hplaced (hplaced.setCare ?_)
    split <;> exact ⟨rfl, rfl, rfl⟩
  · exact .ite hplaced ((hplaced.closeAll l).feedZero l)
  · exact hplaced

theorem endReq (m : MReq) : s.FillsKept (t.endReq m) :=
  h.more ((State.endReq_kept (Nat.or_self _) (.refl t) m).same .cares)

theorem parkLeaf (l : Nat) : s.FillsKept (t.parkLeaf l) :=
  h.more ((State.parkLeaf_kept (Nat.or_self _) (.refl t) l).same .cares)

end

theorem recheck (n : Nat) {s : State} : ∀ {t : State}, s.FillsKept t → ∀ l, s.FillsKept (State.recheck n t l) := by
  induction n with
  | zero => exact fun h _ => h
  | succ n ih =>
    intro t h l
    unfold State.recheck
    dsimp only
    split
    · exact h
    · refine .ite h (ih (.placeReq (.foldl (fun u j hu => ?_) _ h) _ _ _) _)
      exact hu.setCare ⟨rfl, rfl, rfl⟩

theorem endAct {s t : State} (h : s.FillsKept t) (l : Nat) (a : Act) : s.FillsKept (t.endAct l a) := by
  unfold State.endAct
  dsimp only
  refine .foldl (fun u x hu => hu.recheck 1 x.1) _ (.foldl (fun u j hu => hu.recheck 9 j) _ ?_)
  have hended : s.FillsKept ((t.actReqs l a ++ if a == Act.zero then (t.care l).absorbed else []).foldl (fun s m => s.endReq m)
      ((t.actLeaves l a).foldl (fun s l => s.setCare l ((s.care l).release a)) t)) :=
    .foldl (fun u m hu => hu.endReq m) _ (.foldl (fun u j hu => hu.setCare (Care.release_fillKept _ a)) _ h)
  exact .ite (hended.setChan _ _) hended

end State.FillsKept

/-! ## Tenants on their way to FREE leave the quires -/

theorem State.closeTickets_bank (s : State) (t : Nat) : (s.closeTickets t).bank = s.bank :=
  (State.closeTickets_kept (Nat.or_self _) (.refl s) t).same .bank

theorem State.freeTenant_quires (s : State) (t : Nat) : (s.freeTenant t).bank.quires = s.bank.quires := by
  unfold State.freeTenant
  dsimp only
  rw [State.closeTickets_bank]
  rfl

theorem ite_quires {c : Prop} [Decidable c] {s t : State} {q : Tab QuireRec} (hs : s.bank.quires = q) (ht : t.bank.quires = q) :
    (if c then s else t).bank.quires = q := by
  split
  · exact hs
  · exact ht

theorem State.settleTenants_quires (s : State) : s.settleTenants.bank.quires = s.bank.quires :=
  List.foldlRecOn (motive := fun u : State => u.bank.quires = s.bank.quires) _ _ rfl fun _ hu _ _ =>
    ite_quires ((State.freeTenant_quires _ _).trans (ite_quires hu hu)) (ite_quires hu hu)

/-! ## The end of a drain (R66, R67) -/

/-- A leaf of a quire that enters ZEROING asks for its ZERO activity. -/
def State.askZero (s : State) (l : Nat) : State :=
  (s.setCare l { s.care l with zeroing := true, zeroAt := 0, filled := false }).request l (plainReq .zero 0 0)

/-- A leaf has asked for its ZERO activity. -/
def Care.zeroAsked (c : Care) : Prop :=
  c.zeroing = true ∧ c.filled = false ∧ c.raised.any (fun m => m.act == .zero) = true

theorem State.askZero_care_self (s : State) (l : Nat) : ((s.askZero l).care l).zeroAsked := by
  unfold State.askZero State.request
  simp only [show (plainReq .zero 0 0).leaves l = [l] from rfl, List.foldl_cons, List.foldl_nil, State.setCare_care_self]
  exact ⟨rfl, rfl, by simp [plainReq]⟩

theorem State.askZero_care_other (s : State) {l j : Nat} (h : j ≠ l) : (s.askZero l).care j = s.care j := by
  unfold State.askZero State.request
  simp only [show (plainReq .zero 0 0).leaves l = [l] from rfl, List.foldl_cons, List.foldl_nil,
    State.setCare_care_other _ _ h]

theorem State.startZero_asks (s : State) (q : Nat) :
    ∀ l ∈ s.membersOf q (s.bank.quire q).qk, ((s.startZero q).care l).zeroAsked := by
  refine State.foldl_establishes (f := State.askZero) (P := fun l u => (u.care l).zeroAsked) State.askZero_care_self
    (fun u a b hb => ?_) _ _
  by_cases h : b = a
  · exact h ▸ u.askZero_care_self a
  · exact (u.askZero_care_other h) ▸ hb

theorem State.startZero_bank (s : State) (q : Nat) :
    (s.startZero q).bank = s.bank.setQuire q { s.bank.quire q with qstate := .zeroing } := by
  have hk : Kept false false 0x1000 (s.setBank (s.bank.setQuire q { s.bank.quire q with qstate := .zeroing })) (s.startZero q) :=
    Kept.foldl (fun u l h => State.request_kept (by decide) (State.setCare_kept (by decide) h _ _) _ _) _ _ (.refl _)
  exact hk.same .bank

theorem quireDrainEnd_starts {q : Fin 1024} {s : State} (hs : (s.bank.quire q.val).qstate = .draining)
    (hd : s.quireDrained q.val = true) : Completes (.quireDrainEnd q) s fun t =>
      t.bank.quires = (s.bank.setQuire q.val { s.bank.quire q.val with qstate := .zeroing }).quires ∧
      ∀ l ∈ s.membersOf q.val (s.bank.quire q.val).qk, (t.care l).zeroAsked := by
  refine ⟨(s.startZero q.val).settleTenants, ?_, ?_, fun l hl => ?_⟩
  · show execQuireDrainEnd q s = _
    unfold execQuireDrainEnd
    rw [if_pos (by simp [hs, hd])]
  · rw [State.settleTenants_quires, State.startZero_bank]
  · rw [State.care_congr ((State.settleTenants_kept (Nat.or_self _) (.refl (s.startZero q.val))).same .cares)]
    exact s.startZero_asks q.val l hl

/-! ## The end of a zero-fill (R67, R147, R343) -/

/-- The fill of a member leaf is over: its activity ends and it parks. -/
def State.fillOver (s : State) (l : Nat) : State := ((s.leafFilled l).endAct l .zero).parkLeaf l

/-- A leaf is filled, and its error tracker healed. -/
def Care.healed (c : Care) : Prop := c.filled = true ∧ ∀ x ∈ c.track, x.2.healed = true ∧ x.2.queued = false

theorem Care.FillKept.healed {c d : Care} (h : c.FillKept d) (hc : c.healed) : d.healed := by
  unfold Care.healed
  rw [h.filled, h.track]
  exact hc

theorem State.leafFilled_healed (s : State) (l : Nat) : ((s.leafFilled l).care l).healed := by
  unfold State.leafFilled
  dsimp only
  rw [State.setCare_care_self]
  refine ⟨rfl, fun x hx => ?_⟩
  obtain ⟨_, _, rfl⟩ := List.mem_map.mp hx
  exact ⟨rfl, rfl⟩

theorem State.leafFilled_fillOver (s : State) (l : Nat) : (s.leafFilled l).FillsKept (s.fillOver l) :=
  ((State.FillsKept.refl _).endAct l .zero).parkLeaf l

theorem State.fillOver_healed (s : State) (l : Nat) : ((s.fillOver l).care l).healed :=
  ((s.leafFilled_fillOver l).at_leaf l).healed (s.leafFilled_healed l)

theorem State.fillOver_keeps {s : State} (l : Nat) {j : Nat} (h : (s.care j).healed) : ((s.fillOver l).care j).healed := by
  by_cases hj : j = l
  · subst hj
    exact s.fillOver_healed j
  · refine ((s.leafFilled_fillOver l).at_leaf j).healed ?_
    unfold State.leafFilled
    dsimp only
    rw [State.setCare_care_other _ _ hj]
    exact h

theorem State.fillsOver_kept (s : State) (ls : List Nat) : Kept false false 0x7057604 s (ls.foldl State.fillOver s) :=
  Kept.foldl (fun _ l h => State.parkLeaf_kept (by decide) (State.endAct_kept (by decide)
    (State.leafFilled_kept (by decide) h l) l .zero) l) ls s (.refl s)

theorem zeroFillEnd_frees {q : Fin 1024} {s : State} {ls : List Nat} (hs : (s.bank.quire q.val).qstate = .zeroing)
    (hls : ls = s.membersOf q.val (s.bank.quire q.val).qk)
    (hd : ∀ l ∈ ls, (s.care l).runs .zero = true ∧ s.zeroDone l = true) : Completes (.zeroFillEnd q) s fun t =>
      t.bank.quires = (s.bank.setQuire q.val { QuireRec.none with qgen := ((s.bank.quire q.val).qgen + 1) % 65536 }).quires ∧
      (ls = [q.val] → (t.leaf q.val).parked = true) ∧ (∀ l ∈ ls, (t.care l).healed) ∧ t.mem = s.mem ∧ t.chk = s.chk := by
  have hk := s.fillsOver_kept ls
  have hexec : exec (.zeroFillEnd q) s = .next (((ls.foldl State.fillOver s).setBank ((ls.foldl State.fillOver s).bank.setQuire
      q.val { QuireRec.none with qgen := ((s.bank.quire q.val).qgen + 1) % 65536 })).settleTenants) := by
    have hall : (ls.all fun l => (s.care l).runs .zero && s.zeroDone l) = true :=
      List.all_eq_true.mpr fun l hl => by rw [(hd l hl).1, (hd l hl).2]; rfl
    show execZeroFillEnd q s = _
    unfold execZeroFillEnd
    dsimp only
    rw [← hls, if_neg (by rw [hs, hall]; decide)]
    rfl
  generalize hu : ls.foldl State.fillOver s = u at hk hexec
  have ht := State.settleTenants_kept (r := false) (b := false) (Nat.or_self _) (.refl (u.setBank (u.bank.setQuire
    q.val { QuireRec.none with qgen := ((s.bank.quire q.val).qgen + 1) % 65536 })))
  refine ⟨_, hexec, ?_, fun h1 => ?_, fun l hl => ?_, (ht.same .mem).trans (hk.same .mem), (ht.same .chk).trans (hk.same .chk)⟩
  · rw [State.settleTenants_quires, show u.bank = s.bank from hk.same .bank]
    rfl
  · rw [State.leaf_congr (ht.same .leaves), State.setBank_leaf_same, ← hu, h1]
    exact State.parkLeaf_parked _ _
  · rw [State.care_congr (ht.same .cares), State.setBank_care_same, ← hu]
    exact State.foldl_establishes (f := State.fillOver) (P := fun l u => (u.care l).healed) State.fillOver_healed
      (fun u a _ => u.fillOver_keeps a) ls s l hl

/-! ## The runs of a zero-fill (R105, R334) -/

/-- On a channel that is awake an entry is queued as its leaf's youngest, and may claim its bank. -/
theorem State.pushEntry_awake {s : State} {l : Nat} (e : Entry) (h : s.channelAsleep (channelOf l) = false) :
    ∃ (u : State) (q : List Entry) (x : Entry), s.pushEntry l e = u.claims l ∧ (u.leaf l).queue = q ++ [x] ∧
      x = { e with id := x.id, haz := x.haz, urg := x.urg } := by
  refine ⟨_, _, _, if_neg fun hs => ?awake, congrArg Leaf.queue (State.setLeaf_leaf_self s l _), rfl⟩
  case awake =>
    have hs : s.channelAsleep (channelOf l) = true := hs
    rw [h] at hs
    exact nomatch hs

theorem State.pushEntry_last {s : State} {l : Nat} (e : Entry) (h : s.channelAsleep (channelOf l) = false) :
    ∃ x, ((s.pushEntry l e).leaf l).queue.getLast? = some x ∧ x = { e with id := x.id, haz := x.haz, urg := x.urg } := by
  obtain ⟨u, q, x, hu, hq, hx⟩ := s.pushEntry_awake e h
  exact ⟨x, by rw [hu, State.claims_queue, hq, List.getLast?_concat], hx⟩

theorem State.feedZero_queues {s : State} {l : Nat} (hz : (s.care l).zeroing = true) (hr : (s.care l).runs .zero = true)
    (hd : s.zeroDone l = false) (hf : s.freeEntries l ≠ 0) (hq : ∀ e ∈ (s.leaf l).queue, e.src ≠ .zero) :
    s.feedZero l = s.pushEntry l (s.mkEntry l (s.care l).zeroAt 8 true true .zero zeroRun 0xFFFE 0 0 s.now 1000000000 255) := by
  have hnone : ((s.leaf l).queue.any fun e => e.src == .zero) = false :=
    List.any_eq_false.mpr fun e he => by simpa using hq e he
  unfold State.feedZero
  dsimp only
  rw [if_neg (by simp [hz, hr, hd, hf, hnone])]

/-- n words from a leaf-local address on, stored as zeros with valid check bits. -/
def State.storeZeros (s : State) (l la n : Nat) : State :=
  (List.range n).foldl (fun s i => s.storeWord l (la + 8 * i) 0 0xFF) s

theorem State.storeZeros_succ (s : State) (l la n : Nat) :
    s.storeZeros l la (n + 1) = (s.storeZeros l la n).storeWord l (la + 8 * n) 0 0xFF := by
  unfold State.storeZeros
  rw [List.range_succ, List.foldl_append]
  rfl

theorem State.storeZeros_wf {s : State} (h : Memory.wf s = true) (l la n : Nat) : Memory.wf (s.storeZeros l la n) = true :=
  List.foldlRecOn (motive := fun u => Memory.wf u = true) _ _ h fun _ hu _ _ => storeWord_wf hu _ _ _ _

/-- An address reads the word it lies in. -/
theorem State.storedWord_word (s : State) (l : Nat) {la la' : Nat} (h : la / 8 = la' / 8) : s.storedWord l la = s.storedWord l la' := by
  unfold State.storedWord
  rw [h]

theorem State.storeZeros_storedWord {s : State} (h : Memory.wf s = true) (l : Nat) {la : Nat} (h8 : la % 8 = 0) (leaf : Nat) {a : Nat}
    (ha : a < 2 ^ 31) (n : Nat) (hla : la + 8 * n ≤ 2 ^ 31) : (s.storeZeros l la n).storedWord leaf a =
      if leaf = l ∧ la ≤ a ∧ a < la + 8 * n then (0, 0xFF) else s.storedWord leaf a := by
  induction n with
  | zero => rw [if_neg (by omega)]; rfl
  | succ n ih =>
    rw [State.storeZeros_succ]
    by_cases hw : leaf = l ∧ a / 8 = (la + 8 * n) / 8
    · rw [if_pos (by omega), hw.1, State.storedWord_word _ l hw.2]
      exact storeWord_storedWord_self (State.storeZeros_wf h l la n) _ _ _ _
    · rw [storeWord_storedWord_other _ _ _ (by omega) ha hw, ih (by omega)]
      congr 1
      rw [eq_iff_iff]
      omega

theorem checkByte_zero : checkByte 0#64 false = 0xFF#8 := by decide

/-- A zero-filled run stores 32 such words (R334). -/
theorem State.storeRun_zeroRun (s : State) (l la : Nat) : s.storeRun l la zeroRun [] = s.storeZeros l la 32 := by
  unfold State.storeRun State.storeZeros
  rw [show zeroRun.zipIdx = (List.range 32).map (fun i => ((⟨0, 0xFF, false⟩ : SWord), i)) from rfl, List.foldl_map]
  refine congrArg (fun f => (List.range 32).foldl f s) (funext₂ fun u i => ?_)
  simp [checkByte_zero]

theorem State.serveEntry_zero {s : State} {l : Nat} {e : Entry} (h : e.src = .zero) : s.serveEntry l e = s := by
  unfold State.serveEntry
  rw [h]

/-- A write run stores its words, notes the progress of a fill, and goes on to what may follow it on its leaf. -/
theorem State.run_write {s : State} {l : Nat} {e : Entry} (hw : e.wr = true) : ∃ (u : State) (c : Care),
    Kept false false 0x20010400 s u ∧ s.run l e = (((((u.storeRun l e.la e.words e.raw).setCare l
      (if e.src = .zero then { c with zeroAt := e.la + 32 * e.nb } else c)).serveEntry l e).claims l).feedZero l).askAccu := by
  unfold State.run
  dsimp only
  simp only [hw, if_true]
  refine ⟨_, _, ?_, rfl⟩
  exact State.spend_kept (by decide) (State.slotCount_kept (by decide) (State.setLeaf_kept (by decide) (.refl s) _ _) _ _ _) _ _ _ _

/-- What may follow a run of a zero-fill leaves the fill's progress and the memory as the run left them. -/
theorem State.afterZero_keeps (v : State) (l : Nat) : v.FillsKept ((v.claims l).feedZero l).askAccu ∧
    Kept false false 0x457600 v ((v.claims l).feedZero l).askAccu :=
  ⟨((State.FillsKept.of_eq ((State.claims_kept (Nat.or_self _) (.refl v) l).same .cares)).feedZero l).askAccu,
    State.askAccu_kept (by decide) (State.feedZero_kept (by decide) (State.claims_kept (by decide) (.refl v) l) l)⟩

theorem columnRun_zeroes {l : Fin 1024} {s : State} {e : Entry} (hr : s.leafRuns l.val = true) (he : s.escReady l.val = false)
    (hfirst : firstEntry columnBefore ((s.leaf l.val).queue.filter (s.columnOk l.val (s.leaf l.val))) = some e)
    (hwf : Memory.wf s = true) (hsrc : e.src = .zero) (hw : e.wr = true) (hwords : e.words = zeroRun) (hnb : e.nb = 8)
    (hraw : e.raw = []) (h256 : e.la % 256 = 0) (hla : e.la < 2 ^ 31) : Completes (.columnRun l) s fun t =>
      (t.care l.val).zeroAt = e.la + 256 ∧ ∀ leaf la, la < 2 ^ 31 → t.storedWord leaf la =
        if leaf = l.val ∧ e.la ≤ la ∧ la < e.la + 256 then (0, 0xFF) else s.storedWord leaf la := by
  refine ⟨s.run l.val e, ?_, ?_⟩
  · show execColumnRun l s = _
    unfold execColumnRun
    dsimp only
    rw [if_neg (by simp [hr, he]), hfirst]
  · obtain ⟨u, c, hk, hrun⟩ := s.run_write (l := l.val) hw
    rw [State.serveEntry_zero hsrc, if_pos hsrc, hwords, hraw, hnb, State.storeRun_zeroRun] at hrun
    obtain ⟨hfill, hkept⟩ := State.afterZero_keeps ((u.storeZeros l.val e.la 32).setCare l.val { c with zeroAt := e.la + 32 * 8 }) l.val
    rw [← hrun] at hfill hkept
    refine ⟨?_, fun leaf a ha => ?_⟩
    · rw [(hfill.at_leaf l.val).zeroAt, State.setCare_care_self]
    · rw [State.storedWord_congr (hkept.same .mem) (hkept.same .chk),
        State.storedWord_congr (State.setCare_mem _ _ _) (State.setCare_chk _ _ _),
        State.storeZeros_storedWord (hk.mem hwf) l.val (by omega) leaf ha 32 (by omega),
        State.storedWord_congr (hk.same .mem) (hk.same .chk)]

/-- Settles O38, event by event. -/
theorem quireEventsComplete : Obligations.QuireEventsComplete := by
  unfold Obligations.QuireEventsComplete
  refine ⟨fun q s => quireDrainEnd_starts, fun q s ls => zeroFillEnd_frees, fun l s hz hr hd hf hq ha => ?run,
    fun l s e => columnRun_zeroes⟩
  case run =>
    obtain ⟨x, hx, hxe⟩ := s.pushEntry_last (s.mkEntry l (s.care l).zeroAt 8 true true .zero zeroRun 0xFFFE 0 0 s.now 1000000000 255) ha
    rw [State.feedZero_queues hz hr hd hf hq]
    exact ⟨x, hx, by rw [hxe]; exact ⟨rfl, rfl, rfl, rfl, rfl, rfl⟩⟩

end Sys2Proof.Machine

/-! # Leaves: what tables, banks and claims leave of them -/

namespace Sys2Proof.Machine

/-! ## Mapped tables -/

/-- A mapped table with a default: what is listed is mapped, and nothing else is listed. -/
theorem Tab.get_mapVals {α : Type} (d : α) (t : Tab α) (f : Nat → α → α) (k : Nat) :
    Tab.get d (Tab.mapVals t f) k = if (Tab.find? t k).isSome then f k (Tab.get d t k) else d := by
  unfold Tab.get
  rw [Tab.find?_mapVals]
  cases Tab.find? t k <;> rfl

/-- A map that keeps the default is seen at every index. -/
theorem Tab.get_mapVals_default {α : Type} {d : α} {f : Nat → α → α} {k : Nat} (h : f k d = d) (t : Tab α) :
    Tab.get d (Tab.mapVals t f) k = f k (Tab.get d t k) := by
  rw [Tab.get_mapVals]
  unfold Tab.get
  cases Tab.find? t k with
  | none => exact h.symm
  | some _ => rfl

/-! ## Banks -/

@[simp] theorem Leaf.setBank_bank_self (l : Leaf) (b : Nat) (x : Bank) : (l.setBank b x).bank b = x :=
  Tab.get_set_self Bank.reset l.banks b x

theorem Leaf.setBank_bank_other (l : Leaf) {b i : Nat} (x : Bank) (h : i ≠ b) : (l.setBank b x).bank i = l.bank i :=
  Tab.get_set_other Bank.reset l.banks x h

@[simp] theorem State.noteActs_bank (s : State) (k : Nat) (l : Leaf) (xs : List (Nat × Nat)) (b : Nat) :
    (s.noteActs k l xs).bank b = l.bank b := rfl

/-! ## Claims (R95) -/

/-- A leaf is as it was but for the claims on its banks. -/
structure Leaf.Claimed (l m : Leaf) : Prop where
  rest : m = { l with banks := m.banks }
  bank : ∀ b, ∃ c, m.bank b = { l.bank b with claim := c }

theorem Leaf.Claimed.refl (l : Leaf) : l.Claimed l := ⟨rfl, fun _ => ⟨_, rfl⟩⟩

theorem State.claims_leaf_other (s : State) {i j : Nat} (h : j ≠ i) : (s.claims i).leaf j = s.leaf j :=
  State.setLeaf_leaf_other s _ h

theorem State.claims_claimed (s : State) (i : Nat) : (s.leaf i).Claimed ((s.claims i).leaf i) := by
  unfold State.claims
  dsimp only
  rw [State.setLeaf_leaf_self]
  refine ⟨rfl, ?_⟩
  refine List.foldlRecOn (motive := fun t : Tab Bank => ∀ b, ∃ c, Tab.get Bank.reset t b =
    { (s.leaf i).bank b with claim := c }) _ _ (fun b => ⟨_, rfl⟩) fun t ht e _ b => ?_
  dsimp only
  split
  · by_cases hb : b = e.bank
    · obtain ⟨c, hc⟩ := ht e.bank
      exact ⟨some e.id, by rw [hb, Tab.get_set_self, hc]⟩
    · rw [Tab.get_set_other _ _ _ hb]
      exact ht b
  · exact ht b

end Sys2Proof.Machine

/-! # Column runs (R90-R92) -/

namespace Sys2Proof.Machine

/-! ## What a run stores -/

/-- The key of a word is a multiple of 8. -/
theorem cellKey_word (leaf la : Nat) : cellKey leaf (la / 8 * 8) = 8 * (leaf * 2 ^ 28 + la / 8) := by
  unfold cellKey
  ring

/-- The cells of two words that do not start at the same key are apart. -/
theorem cellKey_apart {leaf la l a i j : Nat} (h : cellKey leaf (la / 8 * 8) ≠ cellKey l (a / 8 * 8)) (hi : i < 8)
    (hj : j < 8) : cellKey leaf (la / 8 * 8) + i ≠ cellKey l (a / 8 * 8) + j := by
  rw [cellKey_word, cellKey_word] at h ⊢
  omega

/-- Storing a word leaves every word whose cells are not its own. -/
theorem State.storeWord_storedWord_frame (s : State) {leaf la l a : Nat} (d : Word64) (c : Byte)
    (h : cellKey leaf (la / 8 * 8) ≠ cellKey l (a / 8 * 8)) :
    (s.storeWord l a d c).storedWord leaf la = s.storedWord leaf la := by
  rw [storedWord_eq, storedWord_eq, storeWord_chk, 
    Tab.get_set_other _ _ _ (by rw [cellKey_word, cellKey_word] at h ⊢; omega)]
  refine congrArg (fun n => (BitVec.ofNat 64 n, _)) (bytesVal_congr fun i hi => congrArg BitVec.toNat ?_)
  rw [storeWord_mem]
  exact get_foldl_set_other _ _ _ _ (fun j hj => cellKey_apart h hi (List.mem_range.mp hj)) _

/-- A run leaves every word that is not one of its own. -/
theorem State.storeRun_storedWord_frame (s : State) {leaf la l a : Nat} {ws : List SWord} (flips : List (Word64 × Byte))
    (h : ∀ i, i < ws.length → cellKey leaf (la / 8 * 8) ≠ cellKey l ((a + 8 * i) / 8 * 8)) :
    (s.storeRun l a ws flips).storedWord leaf la = s.storedWord leaf la := by
  unfold State.storeRun
  refine List.foldlRecOn (motive := fun t : State => t.storedWord leaf la = s.storedWord leaf la) _ _ rfl fun t ht x hx => ?_
  dsimp only
  split
  · exact ht
  · rw [State.storeWord_storedWord_frame _ _ _ (h x.2 (List.snd_lt_of_mem_zipIdx hx)), ht]

/-- What a run stores depends on the cells alone. -/
theorem State.storeRun_cells {s t : State} (hm : t.mem = s.mem) (hc : t.chk = s.chk) (l a : Nat) (ws : List SWord)
    (flips : List (Word64 × Byte)) :
    (t.storeRun l a ws flips).mem = (s.storeRun l a ws flips).mem ∧
      (t.storeRun l a ws flips).chk = (s.storeRun l a ws flips).chk := by
  unfold State.storeRun
  induction ws.zipIdx generalizing s t with
  | nil => exact ⟨hm, hc⟩
  | cons x _ ih =>
    refine ih ?_ ?_
    all_goals
      dsimp only
      split
    · exact hm
    · simp only [storeWord_mem, hm]
    · exact hc
    · simp only [storeWord_chk, hc]

/-! ## The run -/

/-- A run up to the move of its data, with its leaf as it leaves it. -/
def State.moved (s : State) (l : Nat) (e : Entry) (x : Leaf) : State :=
  let u := ((s.setLeaf l x).slotCount l 0 e.nb).spend l (if e.wr then 2 else 1) e.nb e.ten
  if e.wr then u.storeRun l e.la e.words e.raw else u

/-- A leaf behind a run of one of its entries. -/
structure State.RunLeaf (s : State) (l : Nat) (e : Entry) (x : Leaf) : Prop where
  queue : x.queue = (s.leaf l).queue.filter (fun y => y.id != e.id)
  busFree : x.busFree = s.now12 + e.nb * s.qPeriod (stackOf l)
  inflight : e.wr = false → x.inflight = (s.leaf l).inflight ++ [{ e with raw := s.takeRun l e.la e.nb, at_ := s.now }]

/-- The order of a run: data, Calender's and a fill's progress, the part it serves, claims, and what may follow it. -/
theorem State.run_eq (s : State) (l : Nat) (e : Entry) : ∃ (x : Leaf) (c : Care), s.RunLeaf l e x ∧
    s.run l e = (((((s.moved l e x).setCare l c).serveEntry l e).claims l).feedZero l).askAccu := by
  unfold State.run State.moved
  dsimp only
  refine ⟨_, _, ⟨?_, ?_, ?_⟩, rfl⟩
  all_goals cases e.wr <;> simp [Leaf.setBank]

/-- Behind the leaf's record a run's data move touches the cells, a counter and the stack's energy. -/
theorem State.moved_kept (s : State) (l : Nat) (e : Entry) (x : Leaf) :
    Kept false false 0x3020010000 (s.setLeaf l x) (s.moved l e x) := by
  unfold State.moved
  dsimp only
  have h (kind : Nat) : Kept false false 0x3020010000 (s.setLeaf l x)
      (((s.setLeaf l x).slotCount l 0 e.nb).spend l kind e.nb e.ten) :=
    State.spend_kept (by decide) (State.slotCount_kept (by decide) (.refl _) _ _ _) _ _ _ _
  exact .ite (State.storeRun_kept (by decide) (h _) _ _ _ _) (h _)

theorem State.moved_leaf (s : State) (l : Nat) (e : Entry) (x : Leaf) : (s.moved l e x).leaf l = x := by
  rw [State.leaf_congr ((s.moved_kept l e x).same .leaves), State.setLeaf_leaf_self]

/-- A move with data stores it; a read's leaves every cell. -/
theorem State.moved_cells (s : State) (l : Nat) (e : Entry) (x : Leaf) :
    if e.wr then (s.moved l e x).mem = (s.storeRun l e.la e.words e.raw).mem ∧
      (s.moved l e x).chk = (s.storeRun l e.la e.words e.raw).chk
    else (s.moved l e x).mem = s.mem ∧ (s.moved l e x).chk = s.chk := by
  unfold State.moved
  dsimp only
  generalize hu : ((s.setLeaf l x).slotCount l 0 e.nb).spend l (if e.wr then 2 else 1) e.nb e.ten = u
  have h : Kept false false 0x20010400 s u := hu ▸ State.spend_kept (by decide)
    (State.slotCount_kept (by decide) (State.setLeaf_kept (by decide) (.refl s) _ _) _ _ _) _ _ _ _
  split
  · exact State.storeRun_cells (h.same .mem) (h.same .chk) _ _ _ _
  · exact ⟨h.same .mem, h.same .chk⟩

/-- COLUMN_RUN with its outcome: the leaf behind the run, what may follow it, and the cells. -/
theorem columnRun_runs {l : Fin 1024} {s : State} {e : Entry} (hr : s.leafRuns l.val = true) (he : s.escReady l.val = false)
    (hfirst : firstEntry columnBefore ((s.leaf l.val).queue.filter (s.columnOk l.val (s.leaf l.val))) = some e) :
    Completes (.columnRun l) s fun t => ∃ (u : State) (x : Leaf), t = (u.feedZero l.val).askAccu ∧
      s.RunLeaf l.val e x ∧ x.Claimed (u.leaf l.val) ∧
      if e.wr then t.mem = (s.storeRun l.val e.la e.words e.raw).mem ∧ t.chk = (s.storeRun l.val e.la e.words e.raw).chk
      else t.mem = s.mem ∧ t.chk = s.chk := by
  obtain ⟨x, c, hx, hrun⟩ := s.run_eq l.val e
  have hserve : Kept false false 0x60001180 (s.moved l.val e x) (((s.moved l.val e x).setCare l.val c).serveEntry l.val e) :=
    State.serveEntry_kept (by decide) (State.setCare_kept (by decide) (.refl _) _ _) _ _
  have hrest : Kept false false 0x60457780 (s.moved l.val e x) (s.run l.val e) := hrun ▸
    State.askAccu_kept (by decide) (State.feedZero_kept (by decide) (State.claims_kept (by decide)
      (State.serveEntry_kept (by decide) (State.setCare_kept (by decide) (.refl _) _ _) _ _) _) _)
  refine ⟨s.run l.val e, ?_, _, x, hrun, hx, ?_, ?_⟩
  · show execColumnRun l s = _
    unfold execColumnRun
    dsimp only
    rw [if_neg (by simp [hr, he]), hfirst]
  · have h := State.claims_claimed (((s.moved l.val e x).setCare l.val c).serveEntry l.val e) l.val
    rwa [State.leaf_congr (hserve.same .leaves), State.moved_leaf] at h
  · rw [show (s.run l.val e).mem = _ from hrest.same .mem, show (s.run l.val e).chk = _ from hrest.same .chk]
    exact s.moved_cells l.val e x

/-- Settles O24: a run's words are all that it stores, and a word whose cells are none of theirs reads as before. -/
theorem columnRunStoresOnlyItsWords : Obligations.ColumnRunStoresOnlyItsWords := by
  unfold Obligations.ColumnRunStoresOnlyItsWords
  intro l s e hr he hfirst
  obtain ⟨t, ht, _, _, _, _, _, hcells⟩ := columnRun_runs hr he hfirst
  refine ⟨t, ht, fun leaf la h => ?_⟩
  cases hw : e.wr with
  | true =>
    rw [if_pos hw] at hcells
    rw [State.storedWord_congr hcells.1 hcells.2]
    exact s.storeRun_storedWord_frame e.raw (h hw)
  | false =>
    rw [if_neg (by simp [hw])] at hcells
    exact State.storedWord_congr hcells.1 hcells.2 leaf la

end Sys2Proof.Machine

/-! # The row picker (R90, R93, R95) -/

namespace Sys2Proof.Machine

/-- A bank of an entry whose row is about to open: the entry's own claim on it has ended. -/
def Bank.unclaimed (b : Bank) (e : Entry) : Bank := if b.claim = some e.id then { b with claim := none } else b

/-- The ACT of an entry's row and what it is charged. -/
def State.openFor (s : State) (leaf : Nat) (e : Entry) : State :=
  ((((s.setLeaf leaf ((s.leaf leaf).setBank e.bank (((s.leaf leaf).bank e.bank).unclaimed e))).actRow leaf e.bank e.row).chargeAct
    leaf e).claims leaf)

theorem rowCommand_exec {c : Fin 512} {s s1 : State} {x : RowCand} {rest : List RowCand} {leaf cls : Nat} {e : Entry}
    (h1 : s1 = (s.claims (2 * c.val)).claims (2 * c.val + 1)) (hone : s1.classOne c.val = false)
    (hc : s1.chanCands c.val = x :: rest)
    (hwin : rest.foldl (fun u v => if rowBefore (s1.chan c.val).rowLast v u then v else u) x = (leaf, e, cls)) :
    exec (.rowCommand c) s = .next
      (if ((s1.leaf leaf).bank e.bank).openRow.isSome then
        (s1.setChan c.val { s1.chan c.val with rowLast := some (leaf % 2) }).preRow leaf e.bank
      else (s1.setChan c.val { s1.chan c.val with rowLast := some (leaf % 2) }).openFor leaf e) := by
  show execRowCommand c s = _
  unfold execRowCommand
  dsimp only
  rw [← h1, hone, if_neg Bool.false_ne_true, hc]
  dsimp only
  rw [hwin]
  split
  · next h => exact congrArg _ (if_pos h).symm
  · next h => exact congrArg _ (if_neg h).symm

/-- An ACT opens its row now. -/
theorem State.openFor_bank (s : State) (leaf : Nat) (e : Entry) :
    (((s.openFor leaf e).leaf leaf).bank e.bank).openRow = some e.row ∧
      (((s.openFor leaf e).leaf leaf).bank e.bank).tAct = s.now12 := by
  generalize hv : s.setLeaf leaf ((s.leaf leaf).setBank e.bank (((s.leaf leaf).bank e.bank).unclaimed e)) = v
  obtain ⟨c, hc⟩ := (State.claims_claimed ((v.actRow leaf e.bank e.row).chargeAct leaf e) leaf).bank e.bank
  have hleaf : ((v.actRow leaf e.bank e.row).chargeAct leaf e).leaf leaf = _ :=
    (State.leaf_congr ((State.chargeAct_kept (w := 0x20216800) (by decide) (State.rowCount_kept (by decide) (.refl _) _ _ _) _
      _).same .leaves) leaf).trans (State.setLeaf_leaf_self v leaf _)
  have hopen : s.openFor leaf e = ((v.actRow leaf e.bank e.row).chargeAct leaf e).claims leaf := by rw [← hv]; rfl
  rw [hopen, hc, hleaf, State.noteActs_bank, Leaf.setBank_bank_self, ← hv]
  exact ⟨rfl, rfl⟩

theorem State.openFor_chans (s : State) (leaf : Nat) (e : Entry) : (s.openFor leaf e).chans = s.chans :=
  (State.claims_kept (w := 0x20216c00) (by decide) (State.chargeAct_kept (by decide) (State.actRow_kept (by decide)
    (State.setLeaf_kept (by decide) (.refl s) _ _) _ _ _) _ _) _).same .chans

/-- An idle row is closed where nothing of a higher class is ready and the other leaf's turn is not first. -/
theorem idleClose_closes {l : Fin 1024} {s : State} {i : Nat} {b : Bank} (hone : s.classOne (channelOf l.val) = false)
    (hc : s.chanCands (channelOf l.val) = []) (hi : s.idleRow l.val = some (i, b))
    (hturn : (s.idleRow (if l.val % 2 = 0 then l.val + 1 else l.val - 1)).isSome = true →
      (s.chan (channelOf l.val)).rowLast.getD 1 ≠ l.val % 2) :
    exec (.idleClose l) s = .next ((s.preRow l.val i).setChan (channelOf l.val)
      { s.chan (channelOf l.val) with rowLast := some (l.val % 2) }) := by
  show execIdleClose l s = _
  unfold execIdleClose
  dsimp only
  rw [if_neg (by simpa [hone, hc] using hturn), hi]

/-! ## Windows (R100-R104) -/

/-- A window that is over: the arbiter's accounts and every leaf's slots start afresh. -/
theorem budgetWindow_ends {k : Fin 16} {s : State} {n : Nat}
    (hn : n = (s.now12 - (s.arb k.val).winAt) / (64 * s.qPeriod k.val)) (h0 : n ≠ 0) :
    exec (.budgetWindow k) s = .next { s.setArb k.val { s.arb k.val with
      acts := 0, debt := (if n = 1 then (s.arb k.val).acts - s.actBudget k.val else 0),
      cap := max (s.heatOf k.val).lt (s.pow k.val).lp,
      winAt := (s.arb k.val).winAt + n * (64 * s.qPeriod k.val) } with
      leaves := Tab.mapVals s.leaves (fun i l =>
        if i / 64 = k.val then { l with slots := if n = 1 then l.slotsNext else 0, slotsNext := 0 } else l) } := by
  show execBudgetWindow k s = _
  unfold execBudgetWindow
  dsimp only
  rw [← hn, if_neg h0]
  rfl

/-- Settles O22, event by event. -/
theorem leafEventsComplete : Obligations.LeafEventsComplete := by
  unfold Obligations.LeafEventsComplete
  refine ⟨fun l s e hr he hfirst => ?run, fun c s s1 x rest leaf cls e h1 hone hc hwin hopen => ?act,
    fun c s s1 x rest leaf cls e h1 hone hc hwin hopen => ?pre, fun l s i b hone hc hi hturn => ?idle,
    fun l s ht hb hd => ?turn, fun k s n hn h0 => ?window⟩
  case run =>
    obtain ⟨t, ht, u, x, htu, hx, hclaim, hcells⟩ := columnRun_runs hr he hfirst
    have hrest := hclaim.rest
    refine ⟨t, ht, u, htu, (congrArg Leaf.queue hrest).trans hx.queue, (congrArg Leaf.busFree hrest).trans hx.busFree, ?_⟩
    split at hcells
    · next hw => rw [if_pos hw]; exact hcells
    · next hw =>
      rw [if_neg hw]
      exact ⟨hcells.1, hcells.2, (congrArg Leaf.inflight hrest).trans (hx.inflight (Bool.not_eq_true _ ▸ hw))⟩
  case act =>
    have hexec := rowCommand_exec h1 hone hc hwin
    rw [if_neg (by simp [hopen])] at hexec
    obtain ⟨hrow, hact⟩ := State.openFor_bank (s1.setChan c.val { s1.chan c.val with rowLast := some (leaf % 2) }) leaf e
    exact ⟨_, hexec, hrow, hact.trans (by rw [h1]; rfl), State.openFor_chans _ _ _⟩
  case pre =>
    have hexec := rowCommand_exec h1 hone hc hwin
    rw [if_pos hopen] at hexec
    exact ⟨_, hexec, rfl, rfl⟩
  case idle => exact ⟨_, idleClose_closes hone hc hi hturn, rfl, rfl⟩
  case turn =>
    show execDirectionTurn l s = _
    unfold execDirectionTurn
    dsimp only
    rw [if_pos (by simp [ht, hb, hd])]
  case window =>
    refine ⟨_, budgetWindow_ends hn h0, rfl, fun leaf hl => ?_, fun leaf hl => ?_⟩
    · unfold State.leaf
      rw [Tab.get_mapVals_default (by simp [hl, Leaf.reset]), if_pos hl]
      exact ⟨rfl, rfl⟩
    · unfold State.leaf
      rw [Tab.get_mapVals_default (by rw [if_neg hl]), if_neg hl]

end Sys2Proof.Machine

/-! # Refresh and row protection (R109-R127, R145) -/

namespace Sys2Proof.Machine

/-! ## Ticks (R109, R110, R118, R119) -/

theorem Leaf.reanchor_banks (l : Leaf) (nb t t' : Nat) : (l.reanchor nb t t').banks = l.banks := by
  unfold Leaf.reanchor
  dsimp only
  split <;> rfl

theorem Leaf.reanchor_tickN {l : Leaf} (h : l.tickN ≠ 0) (nb t t' : Nat) :
    (l.reanchor nb t t').tickN = (l.tickN - 1) % nb + 1 := by
  unfold Leaf.reanchor
  dsimp only
  rw [if_neg h]

/-- A change of the rate re-anchors every listed leaf of its stack. -/
theorem State.applyRate_leaf (s : State) (k l : Nat) : ∃ t t', (s.applyRate k).leaf l =
    if (s.sck k).ref2x ≠ (s.sck k).ref2xNext ∧ (Tab.find? s.leaves l).isSome ∧ l / 64 = k then
      (s.leaf l).reanchor (s.geom k).banks t t' else s.leaf l := by
  by_cases h : (s.sck k).ref2x = (s.sck k).ref2xNext
  · refine ⟨0, 0, ?_⟩
    unfold State.applyRate
    rw [if_pos (by simp [h]), if_neg fun c => c.1 h]
  · refine ⟨s.tREFI k, (s.setSck k { s.sck k with ref2x := (s.sck k).ref2xNext }).tREFI k, ?_⟩
    have hleaves : (s.applyRate k).leaves = Tab.mapVals s.leaves (fun i l => if i / 64 = k then l.reanchor (s.geom k).banks
        (s.tREFI k) ((s.setSck k { s.sck k with ref2x := (s.sck k).ref2xNext }).tREFI k) else l) := by
      unfold State.applyRate
      rw [if_neg (by simp [h])]
      rfl
    unfold State.leaf
    rw [hleaves, Tab.get_mapVals]
    unfold Tab.get
    cases Tab.find? s.leaves l <;> simp [h]

theorem State.applyRate_banks (s : State) (k l : Nat) : ((s.applyRate k).leaf l).banks = (s.leaf l).banks := by
  obtain ⟨t, t', h⟩ := s.applyRate_leaf k l
  rw [h]
  split
  · exact Leaf.reanchor_banks _ _ _ _
  · rfl

theorem State.applyRate_tickN (s : State) {l : Nat} (hl : (s.leaf l).tickN ≠ 0) :
    ((s.applyRate (stackOf l)).leaf l).tickN = if (s.sck (stackOf l)).ref2x = (s.sck (stackOf l)).ref2xNext then (s.leaf l).tickN
      else ((s.leaf l).tickN - 1) % (s.geom (stackOf l)).banks + 1 := by
  obtain ⟨t, t', h⟩ := s.applyRate_leaf (stackOf l) l
  have hlisted : (Tab.find? s.leaves l).isSome = true := by
    by_contra hn
    refine hl ?_
    unfold State.leaf Tab.get
    rw [Option.not_isSome_iff_eq_none.mp hn]
    rfl
  rw [h]
  by_cases hr : (s.sck (stackOf l)).ref2x = (s.sck (stackOf l)).ref2xNext
  · rw [if_pos hr, if_neg fun c => c.1 hr]
  · rw [if_neg hr, if_pos ⟨hr, hlisted, rfl⟩, Leaf.reanchor_tickN hl]

/-- A leaf's tick: its bank owes one more, to 8, and the next tick is the next bank's. -/
def State.ticked (s : State) (l b : Nat) (c : Bank) : State :=
  s.setLeaf l { (s.leaf l).setBank b { c with owed := min 8 (c.owed + 1) } with tickN := (s.leaf l).tickN + 1 }

/-- A due tick raises an alarm where its bank's bound is broken, and a rate asked for takes effect. -/
theorem refreshTick_ticks {l : Fin 1024} {s : State} {b : Nat} {c : Bank} (hup : s.leafUp l.val = true)
    (hnb : s.banksOf l.val ≠ 0)
    (hdue : tickDue (s.leaf l.val).tickOrigin (s.tREFI (stackOf l.val)) (s.banksOf l.val) (s.leaf l.val).tickN ≤ s.now12)
    (hb : b = (s.leaf l.val).tickN % s.banksOf l.val) (hc : c = (s.leaf l.val).bank b) :
    exec (.refreshTick l) s = .next ((if c.owed ≥ 8 then (s.ticked l.val b c).note 0x13 2 l.val [(1, b)] else
      s.ticked l.val b c).applyRate (stackOf l.val)) := by
  have howed : min 8 (c.owed + 1) = if c.owed ≥ 8 then 8 else c.owed + 1 := by split <;> omega
  show execRefreshTick l s = _
  unfold execRefreshTick State.ticked
  dsimp only
  rw [if_neg (by simp [hup, hnb]), if_neg (by omega), ← hb, ← hc, howed]

theorem refreshTick_owes {l : Fin 1024} {s : State} {b : Nat} {c : Bank} (hup : s.leafUp l.val = true)
    (hnb : s.banksOf l.val ≠ 0)
    (hdue : tickDue (s.leaf l.val).tickOrigin (s.tREFI (stackOf l.val)) (s.banksOf l.val) (s.leaf l.val).tickN ≤ s.now12)
    (hb : b = (s.leaf l.val).tickN % s.banksOf l.val) (hc : c = (s.leaf l.val).bank b) :
    Completes (.refreshTick l) s fun t =>
      (t.leaf l.val).banks = ((s.leaf l.val).setBank b { c with owed := min 8 (c.owed + 1) }).banks ∧
      (∀ i, i ≠ l.val → (t.leaf i).banks = (s.leaf i).banks) ∧
      (t.leaf l.val).tickN = (if (s.sck (stackOf l.val)).ref2x = (s.sck (stackOf l.val)).ref2xNext
        then (s.leaf l.val).tickN + 1 else (s.leaf l.val).tickN % (s.geom (stackOf l.val)).banks + 1) := by
  have hexec := refreshTick_ticks hup hnb hdue hb hc
  generalize hu : (if c.owed ≥ 8 then (s.ticked l.val b c).note 0x13 2 l.val [(1, b)] else s.ticked l.val b c) = u at hexec
  have hk : Kept false false 0x3060000000 (s.ticked l.val b c) u :=
    hu ▸ .ite (State.note_kept (by decide) (.refl _) _ _ _ _) (.refl _)
  have hleaf := State.leaf_congr (hk.same .leaves)
  have hself := (hleaf l.val).trans (State.setLeaf_leaf_self _ _ _)
  refine ⟨_, hexec, ?_, fun i hi => ?_, ?_⟩
  · rw [State.applyRate_banks, hself]
  · rw [State.applyRate_banks, hleaf]
    exact congrArg Leaf.banks (State.setLeaf_leaf_other s _ hi)
  · rw [State.applyRate_tickN u (by rw [hself]; exact Nat.succ_ne_zero _), hself, State.sck_congr (hk.same .sclk)]
    unfold State.geom
    rw [State.sup_congr (hk.same .supply)]
    rfl

/-! ## Refresh-class commands (R111-R117, R125-R127) -/

/-- The PRE of a refresh-class command closes its bank and clears its page history; nothing else of any leaf changes. -/
theorem State.wonPre_closes (s : State) (leaf bank : Nat) : ((s.rowWon leaf).refreshPre leaf bank).prots = s.prots ∧
    (((s.rowWon leaf).refreshPre leaf bank).leaf leaf).bank bank =
      { (s.leaf leaf).bank bank with openRow := none, tPre := s.now12, hist := 0, lastRow := none } ∧
    (∀ i, i ≠ bank → (((s.rowWon leaf).refreshPre leaf bank).leaf leaf).bank i = (s.leaf leaf).bank i) ∧
    ∀ i, i ≠ leaf → ((s.rowWon leaf).refreshPre leaf bank).leaf i = s.leaf i := by
  unfold State.refreshPre State.preRow
  dsimp only
  simp only [State.setLeaf_leaf_self, Leaf.setBank_bank_self]
  refine ⟨rfl, rfl, fun i hi => ?_, fun i hi => ?_⟩
  · rw [Leaf.setBank_bank_other _ _ hi, Leaf.setBank_bank_other _ _ hi]
    rfl
  · rw [State.setLeaf_leaf_other _ _ hi, State.setLeaf_leaf_other _ _ hi]
    rfl

/-- A leaf's record as a refresh-class command leaves it, its charge, and the claims behind it. -/
def State.refreshed (s : State) (l : Nat) (x : Leaf) (acts : Nat) : State := ((s.setLeaf l x).chargeRefresh l acts 1).claims l

theorem State.refreshed_kept (s : State) (l : Nat) (x : Leaf) (acts : Nat) :
    Kept false false 0x12400 s (s.refreshed l x acts) :=
  State.claims_kept (by decide) (State.chargeRefresh_kept (by decide) (State.setLeaf_kept (by decide) (.refl s) _ _) _ _ _) _

theorem State.chargeRefresh_leaf (s : State) (l acts refs i : Nat) : (s.chargeRefresh l acts refs).leaf i = s.leaf i :=
  State.leaf_congr ((State.chargeRefresh_kept (Nat.or_self _) (.refl s) l acts refs).same .leaves) i

theorem State.refreshed_claimed (s : State) (l : Nat) (x : Leaf) (acts : Nat) : x.Claimed ((s.refreshed l x acts).leaf l) := by
  have h := ((s.setLeaf l x).chargeRefresh l acts 1).claims_claimed l
  rwa [State.chargeRefresh_leaf, State.setLeaf_leaf_self] at h

theorem State.refreshed_leaf_other (s : State) {l i : Nat} (x : Leaf) (acts : Nat) (h : i ≠ l) :
    (s.refreshed l x acts).leaf i = s.leaf i := by
  unfold State.refreshed
  rw [State.claims_leaf_other _ h, State.chargeRefresh_leaf, State.setLeaf_leaf_other _ _ h]

/-- The channel's first candidate: its bank is closed, or it gets its REFpb. -/
theorem refpbIssue_exec {c : Fin 512} {s : State} {x : Nat × Int × Nat × Nat} {rest : List (Nat × Int × Nat × Nat)}
    {step bank leaf : Nat} {owed : Int} {up : List Nat} {b : Bank} (hgap : (s.chan c.val).gap = false)
    (hup : up = [2 * c.val, 2 * c.val + 1].filter (fun l => s.leafUp l && decide (0 < s.banksOf l)))
    (hcands : up.flatMap (fun l => s.refreshCands l (!s.rowBusy c.val)) = x :: rest)
    (hwin : rest.foldl (fun u v => if refreshBefore (s.chan c.val).rowLast v u then v else u) x = (step, owed, bank, leaf))
    (hstep : s.stepBefore c.val step = false) (hb : b = (s.leaf leaf).bank bank) :
    exec (.refpbIssue c) s = .next (if b.openRow.isSome then (s.rowWon leaf).refreshPre leaf bank
      else (s.rowWon leaf).refreshed leaf ((s.leaf leaf).setBank bank
        { b with owed := max (-8) (b.owed - 1), tRef := s.now12 + s.tRFCpb (stackOf leaf) }) 0) := by
  show execRefpbIssue c s = _
  unfold execRefpbIssue
  dsimp only
  rw [hgap, if_neg Bool.false_ne_true, ← hup, hcands]
  dsimp only
  rw [hwin]
  dsimp only
  rw [hstep, if_neg Bool.false_ne_true, hb]
  split
  · next h => exact congrArg _ (if_pos h).symm
  · next h => exact congrArg _ (if_neg h).symm

/-! ## Ageing (R122, R145) -/

/-- A stack's clock once n multiples of RP_AGE have passed. -/
def StackClk.aged (c : StackClk) (age n at_ : Nat) : StackClk :=
  { c with lastAge := at_ / age * age, missed := if c.doms = 0 then c.missed + n else c.missed }

/-- The ageing that is due, where some is. -/
theorem State.ageDue_eq {k : Nat} {s : State} {n age : Nat} (ha : age = s.setting 0x4006 k * 1000000)
    (hn : n = s.now / age - (s.sck k).lastAge / age) (h0 : n ≠ 0) : s.ageDue k none =
      if (s.sck k).doms = 0 then s.setSck k ((s.sck k).aged age n s.now)
      else (s.setSck k ((s.sck k).aged age n s.now)).ageStack k n none := by
  have hdue : s.agesDue k = n := by
    unfold State.agesDue
    rw [← ha, ← hn]
  unfold State.ageDue
  rw [hdue, if_neg h0, ← ha]
  rfl
/-- Ageing a leaf's table with no ACT in the same QCLK halves what it holds n times. -/
theorem RowProt.age_eq (p : RowProt) (n : Nat) : p.age n none = { p with
    counts := (p.counts.map (fun e => (e.1, { e.2 with cnt := e.2.cnt / 2 ^ min n 14 }))).filter (fun e => e.2.cnt != 0)
    floor := p.floor / 2 ^ min n 14 } := by
  simp [RowProt.age, Tab.keep, Tab.mapVals]

theorem rowCounterAgeing_ages {k : Fin 16} {s : State} {n d : Nat}
    (hn : n = s.now / (s.setting 0x4006 k.val * 1000000) - (s.sck k.val).lastAge / (s.setting 0x4006 k.val * 1000000))
    (h0 : n ≠ 0) (hd : d = 2 ^ min n 14) : Completes (.rowCounterAgeing k) s fun t =>
      t.sclk = (s.setSck k.val { s.sck k.val with
        lastAge := s.now / (s.setting 0x4006 k.val * 1000000) * (s.setting 0x4006 k.val * 1000000),
        missed := if (s.sck k.val).doms = 0 then (s.sck k.val).missed + n else (s.sck k.val).missed }).sclk ∧
      t.prots = if (s.sck k.val).doms = 0 then s.prots else
        (s.prots.map (fun x => if x.1 / 64 = k.val then (x.1, { x.2 with
            counts := (x.2.counts.map (fun e => (e.1, { e.2 with cnt := e.2.cnt / d }))).filter (fun e => e.2.cnt != 0),
            floor := x.2.floor / d }) else x)).filter (fun x => x.2 != RowProt.reset) := by
  refine ⟨s.ageDue k.val none, rfl, ?_⟩
  have hdue := State.ageDue_eq rfl hn h0
  generalize s.setting 0x4006 k.val * 1000000 = age at hdue ⊢
  rw [hdue]
  split
  · next h => exact ⟨by rw [StackClk.aged, if_pos h], rfl⟩
  · next h =>
    refine ⟨by rw [StackClk.aged, if_neg h]; rfl, congrArg (List.filter _) (List.map_congr_left fun x _ => ?_)⟩
    dsimp only
    rw [RowProt.age_eq, hd]
    split <;> rfl

/-! ## Mitigations (R125, R126) -/

/-- What lets a leaf's oldest mitigation take its turn. -/
structure State.MitigationDue (s : State) (l bank row : Nat) (rest : List (Nat × Nat)) : Prop where
  mits : (s.prot l).mits = (bank, row) :: rest
  up : s.leafUp l = true
  gap : (s.chan (channelOf l)).gap = false
  step : s.stepBefore (channelOf l) 2 = false
  turn : s.otherFirst l 2 = false
  ready : s.rowReady (stackOf l) ((s.leaf l).bank bank) = true

theorem mitigation_closes {l : Fin 1024} {s : State} {bank row : Nat} {rest : List (Nat × Nat)}
    (h : s.MitigationDue l.val bank row rest) (hopen : ((s.leaf l.val).bank bank).openRow.isSome = true) :
    exec (.mitigation l) s = .next ((s.rowWon l.val).refreshPre l.val bank) := by
  show execMitigation l s = _
  unfold execMitigation
  dsimp only
  rw [h.mits]
  dsimp only
  rw [if_neg (by simp [h.up, h.gap, h.step, h.turn, h.ready]), if_pos hopen]

/-- A leaf after the ACTs of a row's neighbours, one every tRC, and the RFMpb of their bank behind them. -/
def State.mitigatedLeaf (s : State) (l bank n : Nat) : Leaf :=
  let k := stackOf l
  let tRC := s.cyc k 72 60
  let b := (s.leaf l).bank bank
  s.noteActs k ((s.leaf l).setBank bank { b with
    tAct := if n = 0 then b.tAct else s.now12 + n * tRC - tRC, tRef := s.now12 + n * tRC + s.tRFCpb k })
    ((List.range n).map (fun i => (s.now12 + i * tRC, bank % 4)))

/-- A leaf's table without a row and its mitigation. -/
def RowProt.without (p : RowProt) (bank row : Nat) (rest : List (Nat × Nat)) : RowProt :=
  { p with mits := rest, counts := p.counts.filter (fun e => !(e.2.bank == bank && e.2.row == row)) }

theorem mitigation_activates {l : Fin 1024} {s : State} {bank row : Nat} {rest : List (Nat × Nat)} {ns : List Nat}
    (h : s.MitigationDue l.val bank row rest) (hopen : ((s.leaf l.val).bank bank).openRow = none)
    (hns : ns = neighbours (s.geom (stackOf l.val)).rows (s.setting 0x4008 (stackOf l.val)) row)
    (hfit : ∀ i, i < ns.length →
      s.actFits (stackOf l.val) (s.leaf l.val) bank (s.now12 + i * s.cyc (stackOf l.val) 72 60) = true) :
    exec (.mitigation l) s = .next (((s.rowWon l.val).setProt l.val ((s.prot l.val).without bank row rest)).refreshed l.val
      (s.mitigatedLeaf l.val bank ns.length) ns.length) := by
  have hall : ((List.range ns.length).map (fun i => s.now12 + i * s.cyc (stackOf l.val) 72 60)).all
      (s.actFits (stackOf l.val) (s.leaf l.val) bank) = true := by
    simpa using hfit
  show execMitigation l s = _
  unfold execMitigation
  dsimp only
  rw [h.mits]
  dsimp only
  rw [if_neg (by simp [h.up, h.gap, h.step, h.turn, h.ready]), if_neg (by simp [hopen]), ← hns, hall, if_neg (by simp)]
  unfold State.mitigatedLeaf
  simp only [List.map_map, Function.comp_def, List.isEmpty_iff_length_eq_zero]
  rfl

/-! ## Sweeps (R116, R127) -/

/-- What lets a leaf's spill sweep take its turn, and the bank it takes: the first of most debt among those that can. -/
structure State.SweepDue (s : State) (l j : Nat) : Prop where
  up : s.leafUp l = true
  gap : (s.chan (channelOf l)).gap = false
  step : s.stepBefore (channelOf l) 3 = false
  pick : ∃ i is, (s.prot l).sweep.filter (fun i => (((s.leaf l).bank i).sweep || s.bankIdle l i) &&
      s.rowReady (stackOf l) ((s.leaf l).bank i)) = i :: is ∧
    is.foldl (fun a j => if ((s.leaf l).bank a).owed < ((s.leaf l).bank j).owed then j else a) i = j

/-- A bank behind its RFMpb of a sweep. -/
def State.sweptLeaf (s : State) (l j : Nat) : Leaf :=
  (s.leaf l).setBank j { (s.leaf l).bank j with tRef := s.now12 + s.tRFCpb (stackOf l), sweep := false }

/-- A bank's turn in a sweep: it is closed, or it gets its RFMpb and leaves the sweep, which ends with its last bank. -/
theorem spillSweep_exec {l : Fin 1024} {s : State} {j : Nat} (h : s.SweepDue l.val j) :
    exec (.spillSweep l) s = .next (if ((s.leaf l.val).bank j).openRow.isSome then (s.rowWon l.val).refreshPre l.val j
      else if ((s.prot l.val).sweep.filter (fun x => x != j)).isEmpty then
        (((((s.rowWon l.val).refreshed l.val (s.sweptLeaf l.val j) 0).setProt l.val
          { s.prot l.val with sweep := [], floor := 0 }).tally (stackOf l.val) 0x1048 1 true).note 0x46 2 l.val [])
      else ((s.rowWon l.val).refreshed l.val (s.sweptLeaf l.val j) 0).setProt l.val
        { s.prot l.val with sweep := (s.prot l.val).sweep.filter (fun x => x != j) }) := by
  obtain ⟨i, is, hcands, hbest⟩ := h.pick
  show execSpillSweep l s = _
  unfold execSpillSweep
  dsimp only
  rw [if_neg (by simp [h.up, h.gap, h.step]), hcands]
  dsimp only
  rw [hbest]
  split
  · rfl
  · split <;> rfl

theorem spillSweep_sweeps {l : Fin 1024} {s : State} {j : Nat} (h : s.SweepDue l.val j)
    (hopen : ((s.leaf l.val).bank j).openRow = none) : Completes (.spillSweep l) s fun t =>
      ((t.leaf l.val).bank j).tRef = s.now12 + s.tRFCpb (stackOf l.val) ∧
      t.prots = (s.setProt l.val { s.prot l.val with
        sweep := (s.prot l.val).sweep.filter (fun x => x != j)
        floor := if (s.prot l.val).sweep.filter (fun x => x != j) = [] then 0 else (s.prot l.val).floor }).prots := by
  have hexec := spillSweep_exec h
  rw [if_neg (by simp [hopen])] at hexec
  generalize hu : (s.rowWon l.val).refreshed l.val (s.sweptLeaf l.val j) 0 = u at hexec
  have hprots : u.prots = s.prots := hu ▸ ((s.rowWon l.val).refreshed_kept l.val (s.sweptLeaf l.val j) 0).same .prots
  have hbank : ((u.leaf l.val).bank j).tRef = s.now12 + s.tRFCpb (stackOf l.val) := by
    obtain ⟨c, hc⟩ := ((s.rowWon l.val).refreshed_claimed l.val (s.sweptLeaf l.val j) 0).bank j
    rw [← hu, hc, State.sweptLeaf, Leaf.setBank_bank_self]
  split at hexec
  · next hlast =>
    have hnil := List.isEmpty_iff.mp hlast
    have hk : Kept false false 0x3060000000 (u.setProt l.val { s.prot l.val with sweep := [], floor := 0 })
        (((u.setProt l.val { s.prot l.val with sweep := [], floor := 0 }).tally (stackOf l.val) 0x1048 1 true).note 0x46 2
          l.val []) :=
      State.note_kept (by decide) (State.tally_kept (by decide) (.refl _) _ _ _ _) _ _ _ _
    refine ⟨_, hexec, ?_, ?_⟩
    · rw [State.leaf_congr (hk.same .leaves)]
      exact hbank
    · rw [show _ = _ from hk.same .prots, hnil, if_pos rfl]
      exact congrArg (fun x => Tab.set RowProt.reset x l.val _) hprots
  · next hlast =>
    have hnil : ¬ (s.prot l.val).sweep.filter (fun x => x != j) = [] := fun e => hlast (List.isEmpty_iff.mpr e)
    refine ⟨_, hexec, hbank, ?_⟩
    rw [if_neg hnil]
    exact congrArg (fun x => Tab.set RowProt.reset x l.val _) hprots

/-- A leaf whose sweep claims banks. -/
def Leaf.sweeping (l : Leaf) (is : List Nat) : Leaf := is.foldl (fun x i => x.setBank i { x.bank i with sweep := true }) l

/-- A bank that its sweep claims, or claimed before, is claimed. -/
theorem Leaf.sweeping_bank (is : List Nat) : ∀ (l : Leaf) (i : Nat), i ∈ is ∨ (l.bank i).sweep = true →
    ((l.sweeping is).bank i).sweep = true := by
  induction is with
  | nil => exact fun l i h => h.resolve_left (List.not_mem_nil)
  | cons a is ih =>
    intro l i h
    refine ih _ i ?_
    by_cases e : i = a
    · exact .inr (by rw [e, Leaf.setBank_bank_self])
    · rw [Leaf.setBank_bank_other _ _ e]
      exact h.imp_left fun h => (List.mem_cons.mp h).resolve_left e

theorem spillSweepForce_claims {l : Fin 1024} {s : State} (hs : (s.prot l.val).sweep ≠ [])
    (hlate : (s.prot l.val).sweepAt + s.tREFI (stackOf l.val) ≤ s.now12) : Completes (.spillSweepForce l) s fun t =>
      t.prots = s.prots ∧ ∀ i ∈ (s.prot l.val).sweep, ((t.leaf l.val).bank i).sweep = true := by
  refine ⟨s.setLeaf l.val ((s.leaf l.val).sweeping (s.prot l.val).sweep), ?_, rfl, fun i hi => ?_⟩
  · show execSpillSweepForce l s = _
    unfold execSpillSweepForce
    dsimp only
    rw [if_neg (by simp [hs, hlate])]
    rfl
  · rw [State.setLeaf_leaf_self]
    exact Leaf.sweeping_bank _ (s.leaf l.val) i (.inl hi)

/-- Settles O25, event by event. -/
theorem refreshEventsComplete : Obligations.RefreshEventsComplete := by
  unfold Obligations.RefreshEventsComplete
  refine ⟨fun l s b c => refreshTick_owes, fun c s x rest step bank leaf owed up b hgap hup hcands hwin hstep hb => ?refpb,
    fun k s n d => rowCounterAgeing_ages, fun l s bank row rest ns b hmits hup hgap hstep hturn hb hready hns => ?mitigation,
    fun l s i j is b hup hgap hstep hcands hbest hb => ?sweep, fun l s => spillSweepForce_claims⟩
  case refpb =>
    have hexec := refpbIssue_exec hgap hup hcands hwin hstep hb
    refine ⟨fun hopen => ?_, fun hopen => ?_⟩
    · rw [if_neg (by simp [hopen])] at hexec
      obtain ⟨c, hc⟩ := (State.refreshed_claimed (s.rowWon leaf) leaf ((s.leaf leaf).setBank bank
        { b with owed := max (-8) (b.owed - 1), tRef := s.now12 + s.tRFCpb (stackOf leaf) }) 0).bank bank
      rw [Leaf.setBank_bank_self] at hc
      exact ⟨_, hexec, congrArg Bank.owed hc, congrArg Bank.tRef hc, fun i hi => State.refreshed_leaf_other _ _ _ hi⟩
    · rw [if_pos hopen] at hexec
      exact ⟨_, hexec, hb ▸ s.wonPre_closes leaf bank⟩
  case mitigation =>
    have hdue : s.MitigationDue l.val bank row rest := ⟨hmits, hup, hgap, hstep, hturn, hb ▸ hready⟩
    refine ⟨fun hopen => ⟨_, mitigation_closes hdue (hb ▸ hopen), hb ▸ s.wonPre_closes l.val bank⟩,
      fun hopen hfit => ?_⟩
    have hclaim := State.refreshed_claimed ((s.rowWon l.val).setProt l.val ((s.prot l.val).without bank row rest)) l.val
      (s.mitigatedLeaf l.val bank ns.length) ns.length
    refine ⟨_, mitigation_activates hdue (hb ▸ hopen) hns hfit, ?_, ?_, fun i hi => ?_⟩
    · exact (State.refreshed_kept _ _ _ _).same .prots
    · obtain ⟨c, hc⟩ := hclaim.bank bank
      rw [hc, State.mitigatedLeaf, State.noteActs_bank, Leaf.setBank_bank_self]
    · rw [hclaim.rest]
      exact List.mem_append_left _ (List.mem_map.mpr ⟨i, List.mem_range.mpr hi, rfl⟩)
  case sweep =>
    have hdue : s.SweepDue l.val j := ⟨hup, hgap, hstep, i, is, hcands, hbest⟩
    refine ⟨fun hopen => ?_, fun hopen => spillSweep_sweeps hdue (hb ▸ hopen)⟩
    have hexec := spillSweep_exec hdue
    rw [if_pos (hb ▸ hopen)] at hexec
    exact ⟨_, hexec, hb ▸ s.wonPre_closes l.val j⟩

end Sys2Proof.Machine

/-! # The stack ingress arbiter (R169-R180, R279, R280) -/

namespace Sys2Proof.Machine

theorem State.req?_congr {s t : State} (h : t.reqs = s.reqs) (id : Nat) : t.req? id = s.req? id :=
  congrArg (fun x => Tab.find? x id) h

theorem State.part?_congr {s t : State} (h : t.parts = s.parts) (key : Nat) : t.part? key = s.part? key :=
  congrArg (fun x => Tab.find? x key) h

/-! ## Answers -/

/-- An outstanding request that is answered is done, with its response. -/
theorem State.answer_req? {s : State} {id : Nat} {r : Req} (h : s.req? id = some r) (hp : r.phase ≠ .done)
    (ha : r.answered = true) (resp : Nat) (free : Bool) :
    (s.answer id resp free).req? id = some { r with phase := .done, status := resp } := by
  rw [State.answer_live h hp ha, State.req?_congr (State.countAnswer_reqs _ r resp)]
  exact State.setReq_req?_self s id _

/-- A refused part ends its request with the refusal. -/
theorem State.refuse_req? {s : State} {key : Nat} {p : Part} {r : Req} (hpart : s.part? key = some p) (hr : s.req? p.req = some r)
    (hp : r.phase ≠ .done) (ha : r.answered = true) (resp : Nat) :
    (s.refuse key resp).req? p.req = some { r with phase := .done, status := resp } := by
  unfold State.refuse
  rw [hpart]
  dsimp only
  rw [hr]
  dsimp only
  refine State.answer_req? ((State.req?_congr ?_ p.req).trans hr) hp ha resp false
  refine ((State.returnCredits_kept (Nat.or_self _) (.refl _) _ _ _).same .reqs).trans ?_
  refine ((State.withdraw_kept (Nat.or_self _) (.refl _) _).same .reqs).trans ?_
  refine ((State.refundMarker_kept (Nat.or_self _) (.refl _) _).same .reqs).trans ?_
  simp only [apply_ite State.reqs, State.drrRefund_reqs, ite_self]

/-! ## Admission (R174, R179) -/

theorem State.doorbellOf_congr {s t : State} (h : t.bank = s.bank) (r : Req) : t.doorbellOf r = s.doorbellOf r := by
  unfold State.doorbellOf
  rw [h]

/-- The forward pass of a write that triggers no doorbell leaves every request. -/
theorem State.forwardEffects_kept_noDoorbell {s : State} {r : Req} (h : s.doorbellOf r = none) (p : Part) :
    Kept false false 0x70e0400022 s (s.forwardEffects p r) := by
  unfold State.forwardEffects
  dsimp only
  generalize hu : List.foldl _ _ (forwardWrite r.region r.ten r.regIdx r.step r.addr r.a r.bytes (r.op == 2) r.beats).parity = u
  have hcnt (n m : Nat) : Kept false false 0x70e0400022 s ((s.cntT r.ten 35 n).cntT r.ten 36 m) :=
    State.cntT_kept (by decide) (State.cntT_kept (by decide) (.refl s) _ _ _) _ _ _
  have hk : Kept false false 0x70e0400022 s u := hu ▸ Kept.foldl
    (fun _ _ h => State.stainEvent_kept (by decide) h _ _ _ _ _ _ _) _ _
    (.ite (State.digest_kept (by decide) (hcnt _ _) _ _ _ _ _) (hcnt _ _))
  rw [State.doorbellOf_congr (hk.same .bank), h]
  exact hk

/-- A part on its way from its grant to its answer: what its operation hands on to Lake, and whether it is served. -/
def State.handOn (s : State) (key : Nat) (p : Part) (r : Req) : State :=
  if r.op = 3 then ((s.servedPart p.req r).dropPart key).acceptAccu p.stack r p.req
  else if r.op = 4 then ((s.servedPart p.req r).dropPart key).acceptAcco p.stack r
  else if p.pieces.all Piece.narrow then (s.servedPart p.req r).dropPart key
  else s

theorem State.handOn_req? {s : State} {p : Part} {r : Req} (h : s.req? p.req = some r) (key : Nat) :
    ∃ at_, (s.handOn key p r).req? p.req = some { r with servedAt := at_ } := by
  have hserved : ((s.servedPart p.req r).dropPart key).req? p.req = some { r with servedAt := s.now } :=
    State.setReq_req?_self _ p.req _
  unfold State.handOn
  split
  · exact ⟨_, (State.req?_congr ((State.acceptAccu_kept (Nat.or_self _) (.refl _) _ _ _).same .reqs) _).trans hserved⟩
  · split
    · exact ⟨_, (State.req?_congr ((State.acceptAcco_kept (Nat.or_self _) (.refl _) _ _).same .reqs) _).trans hserved⟩
    · split
      · exact ⟨_, hserved⟩
      · exact ⟨_, h⟩

/-- The pieces of an admitted part go to their leaves, and its credits return. -/
def State.queued (s : State) (p : Part) (r : Req) : State :=
  if r.answered then (s.queuePieces p r).returnCredits r.port 1 r.dataBeats else s.queuePieces p r

theorem State.queued_kept (s : State) (p : Part) (r : Req) : Kept false false 0x57620 s (s.queued p r) := by
  have h : Kept false false 0x57620 s (s.queuePieces p r) := State.queuePieces_kept (by decide) (.refl s) p r
  exact .ite (State.returnCredits_kept (by decide) h _ _ _) h

theorem State.queued_part? (s : State) (key : Nat) (y p : Part) (r : Req) : ((s.setPart key y).queued p r).part? key = some y :=
  (State.part?_congr ((State.queued_kept _ p r).same .parts) key).trans (State.setPart_part?_self s key y)

/-- A part with data of its own is admitted: its request is answered OK behind all that leaves the requests. -/
theorem State.admitPart_answers {s : State} {key : Nat} {p : Part} {r : Req} (hpart : s.part? key = some p)
    (hr : s.req? p.req = some r) (hop : r.op = 1 ∨ r.op = 2 ∨ r.op = 3 ∨ r.op = 4) (hdb : s.doorbellOf r = none) :
    ∃ u : State, u.reqs = s.reqs ∧ s.admitPart key = (u.handOn key p r).answer p.req 0 false := by
  have hfwd : Kept false false 0x70e04d7722 s (if r.op = 1 || r.op = 2 then s.forwardEffects p r else s) :=
    .ite ((Kept.refl s).more (by decide) (State.forwardEffects_kept_noDoorbell hdb p)) (.refl s)
  have hpar := Kept.ite (c := (r.op = 3 || r.op = 4) = true) (State.payloadParity_kept (by decide) hfwd r) hfwd
  have hqueued (x : Part) : Kept false false 0x70e04d7722 s _ :=
    (State.setPart_kept (by decide) (State.freeStages_kept (by decide) hpar key) key x).more (by decide) (State.queued_kept _ p r)
  unfold State.admitPart
  rw [hpart]
  dsimp only
  rw [hr]
  dsimp only
  rw [if_neg (c := (decide (r.op = 32) || decide (r.op = 33)) = true) (by simp; omega), if_neg (c := r.op = 33) (by omega)]
  generalize hu : (if r.answered then _ else _ : State) = u
  refine ⟨u, ?_, ?_⟩
  · rw [← hu]
    exact (hqueued _).same .reqs
  · unfold State.handOn
    obtain h | h | h | h := hop <;> simp [h]

/-- A read is admitted: its part waits for its entries to run. -/
theorem State.admitPart_read {s : State} {key : Nat} {p : Part} {r : Req} (hpart : s.part? key = some p)
    (hr : s.req? p.req = some r) (hop : r.op = 0) : ∃ y, (s.admitPart key).part? key = some y ∧ y.stage = .admitted := by
  unfold State.admitPart
  rw [hpart]
  dsimp only
  rw [hr]
  simp only [hop]
  exact ⟨_, State.queued_part? _ key _ p r, rfl⟩

/-! ## Grants (R172-R174, R177, R279) -/

/-- No part of a stack in a stage. -/
theorem State.partsAt_nil {s : State} {k : Nat} {f : Stage → Bool}
    (h : ∀ x ∈ s.parts, x.2.stack = k → f x.2.stage = false) : s.partsAt k f = [] := by
  refine List.filterMap_eq_nil_iff.mpr fun x hx => if_neg ?_
  simp only [Bool.and_eq_true, beq_iff_eq]
  rintro ⟨hk, hf⟩
  rw [h x hx hk] at hf
  exact Bool.false_ne_true hf

/-- A part's record as its grant leaves it: its pieces wait for the write lanes. -/
def State.grantedPart (s : State) (p : Part) (r : Req) : Part :=
  { p with stage := .granted, since := s.clk.ticks, left := lanePieces p r }

/-- A grant up to its part's record: it counts as no slot of the arbiter's. -/
theorem State.grant_eq (s : State) (k : Nat) (c : Cand) : ∃ (u : State) (at_ : Nat), (u.arb k).count = (s.arb k).count ∧
    u.clk = s.clk ∧ u.req? c.2.1.req = some { c.2.2 with grantAt := at_ } ∧ s.grant k c =
      if c.2.2.op == 0 || c.2.2.op == 5 || c.2.2.op == 6 || decide (32 ≤ c.2.2.op) || lanePieces c.2.1 c.2.2 == 0 then
        (u.setPart c.1 (u.grantedPart c.2.1 c.2.2)).admitPart c.1
      else u.setPart c.1 (u.grantedPart c.2.1 c.2.2) := by
  obtain ⟨key, p, r⟩ := c
  have hs : Kept false false 0x60000000 s ((s.cntG (32 + r.tint) 1).samplePoint 2 k r) :=
    State.samplePoint_kept (by decide) (State.cntG_kept (by decide) (.refl s) _ _) _ _ _
  have hb (v : State) (q : Req) : Kept false false 0x20000000 v (v.bridgeBytes q k (256 * q.dataBeats) true) :=
    State.bridgeBytes_kept (by decide) (.refl v) _ _ _ _
  refine ⟨_, if r.grantAt = 0 then ((s.cntG (32 + r.tint) 1).samplePoint 2 k r).now else r.grantAt, ?count, ?clk, ?req, rfl⟩
  case count =>
    refine (congrArg (fun x => (Tab.get Arb.reset x k).count) ((hb _ _).same .arbs)).trans ?_
    refine (congrArg Arb.count (State.setArb_arb_self _ k _)).trans ?_
    exact congrArg (fun x => (Tab.get Arb.reset x k).count) (hs.same .arbs)
  case clk => exact ((hb _ _).same .clk).trans (hs.same .clk)
  case req => exact (State.req?_congr ((hb _ _).same .reqs) p.req).trans (State.setReq_req?_self _ p.req _)

/-- A part with data waits for its lanes. -/
theorem State.grant_waits {s : State} {k : Nat} {c : Cand} (hop : c.2.2.op = 1 ∨ c.2.2.op = 2 ∨ c.2.2.op = 3 ∨ c.2.2.op = 4)
    (hl : 0 < lanePieces c.2.1 c.2.2) : ((s.grant k c).arb k).count = (s.arb k).count ∧
      (s.grant k c).part? c.1 = some (s.grantedPart c.2.1 c.2.2) := by
  obtain ⟨u, at_, hcount, hclk, hreq, hgrant⟩ := s.grant_eq k c
  rw [if_neg (by simp; omega)] at hgrant
  rw [hgrant, State.setPart_part?_self, State.grantedPart, hclk]
  exact ⟨hcount, rfl⟩

/-- A read is admitted at once. -/
theorem State.grant_read {s : State} {k : Nat} {c : Cand} (hop : c.2.2.op = 0) :
    ∃ y, (s.grant k c).part? c.1 = some y ∧ y.stage = .admitted := by
  obtain ⟨u, at_, hcount, hclk, hreq, hgrant⟩ := s.grant_eq k c
  rw [if_pos (by simp [hop])] at hgrant
  rw [hgrant]
  exact State.admitPart_read (State.setPart_part?_self u c.1 _) hreq hop

/-- Where Lake lets a part pass, its would-be grant is one; the pins it held are dropped. -/
theorem State.tryGrant_pass {s : State} {k : Nat} {c : Cand} (h : s.lakeCheck k c.2.1 c.2.2 = .pass) :
    ∃ u : State, s.tryGrant k c = (u, true) ∧ u.parts = (s.grant k c).parts ∧
      (u.arb k).count = ((s.grant k c).arb k).count := by
  obtain ⟨key, p, r⟩ := c
  unfold State.tryGrant
  dsimp only at h ⊢
  rw [h]
  refine ⟨_, rfl, rfl, ?_⟩
  rw [State.setArb_arb_self]
  simp only [apply_ite Arb.count, ite_self]

/-- The arbiter's count of slots after one more. -/
def State.nextSlot (s : State) (k : Nat) : State := s.setArb k { s.arb k with count := (s.arb k).count + 1 }

/-- The waiter's slot is past. -/
def State.firstSlot (s : State) (k : Nat) : State := s.setArb k { s.arb k with count := 0 }

/-- Where its one candidate is admissible, nothing is pinned and Lake lets it pass, the arbiter grants it in its next slot. -/
theorem State.arbitrate_one {s : State} {k : Nat} {c : Cand} (hparts : s.partsAt k (fun g => g == .ready) = [c])
    (helig : s.eligible k c = true) (hadm : s.admissible k c = true) (hrank : (s.arb k).rankPin = none)
    (hwait : (s.arb k).waitPin = none) (hcheck : s.lakeCheck k c.2.1 c.2.2 = .pass) (n : Nat) :
    State.arbitrate (n + 1) s k = if (s.arb k).count + 1 = s.setting 0x2605 k then ((s.tryGrant k c).1).firstSlot k
      else ((s.nextSlot k).tryGrant k c).1 := by
  obtain ⟨u, hu, -⟩ := State.tryGrant_pass hcheck
  obtain ⟨v, hv, -⟩ := State.tryGrant_pass (s := s.nextSlot k) (k := k) (c := c) hcheck
  have hslot : s.setArb k { s.arb k with count := (s.arb k).count + 1 } = s.nextSlot k := rfl
  unfold State.arbitrate
  dsimp only at hslot ⊢
  simp only [hslot]
  simp only [hparts, hrank, hwait, helig, List.filter_cons, List.filter_nil]
  -- a scavenger's part or not, late or not, it is first in every order: no other stands beside it
  cases hscav : s.scav c.2.2 <;> cases hlate : s.isLate c.2.2 <;>
    simp [hscav, hlate, hu, hv, firstBy, hadm, State.firstSlot]

/-- What lets a stack's arbiter grant its one candidate: no part of it is held, nothing is pinned, and Lake lets it pass. -/
structure State.Grants (s : State) (k : Nat) (c : Cand) : Prop where
  parts : s.partsAt k (fun g => g == .ready) = [c]
  held : ∀ x ∈ s.parts, x.2.stack = k → ∀ since, x.2.stage ≠ .lakeHeld since
  retries : s.stackRetries k = false
  elig : s.eligible k c = true
  adm : s.admissible k c = true
  rank : (s.arb k).rankPin = none
  wait : (s.arb k).waitPin = none
  check : s.lakeCheck k c.2.1 c.2.2 = .pass

/-- With no part held and no RETRY, nothing is tested again. -/
theorem State.retest_quiet {s : State} {k : Nat}
    (hheld : ∀ x ∈ s.parts, x.2.stack = k → ∀ since, x.2.stage ≠ .lakeHeld since)
    (hr : s.stackRetries k = false) : s.retest k = s := by
  unfold State.retest
  rw [State.partsAt_nil fun x hx hk => ?none]
  · simp [hr]
  case none =>
    split
    · next since h => exact absurd h (hheld x hx hk since)
    · rfl

/-- An admissible candidate with no other beside it is not pinned. -/
theorem State.pinTop_one {s : State} {k : Nat} {c : Cand} (hparts : s.partsAt k (fun g => g == .ready) = [c])
    (hadm : s.admissible k c = true) : s.pinTop k = s := by
  unfold State.pinTop
  rw [hparts]
  cases h : s.eligible k c && !s.scav c.2.2 <;> simp [h, firstBy, hadm]

/-- A grant of the one candidate, in the state that counts its slot: it is granted there, or with the count set back where the
slot is the waiter's. -/
theorem partGrant_grants {k : Fin 16} {s : State} {c : Cand} (h : s.Grants k.val c) :
    ∃ t v : State, exec (.partGrant k) s = .next t ∧ t.parts = (v.grant k.val c).parts ∧ v.clk = s.clk ∧
    ((s.arb k.val).count + 1 ≠ s.setting 0x2605 k.val →
      (t.arb k.val).count = ((v.grant k.val c).arb k.val).count ∧ (v.arb k.val).count = (s.arb k.val).count + 1) := by
  have hexec : exec (.partGrant k) s = .next (State.arbitrate (15 + 1) ((s.retest k.val).pinTop k.val) k.val) := rfl
  rw [State.retest_quiet h.held h.retries, State.pinTop_one h.parts h.adm,
    State.arbitrate_one h.parts h.elig h.adm h.rank h.wait h.check] at hexec
  split at hexec
  · next hslot =>
    obtain ⟨u, hu, hparts, -⟩ := State.tryGrant_pass h.check
    rw [hu] at hexec
    exact ⟨_, s, hexec, hparts, rfl, fun hn => absurd hslot hn⟩
  · obtain ⟨u, hu, hparts, hcount⟩ := State.tryGrant_pass (s := s.nextSlot k.val) (k := k.val) (c := c) h.check
    rw [hu] at hexec
    exact ⟨_, s.nextSlot k.val, hexec, hparts, rfl, fun _ =>
      ⟨hcount, congrArg Arb.count (State.setArb_arb_self s k.val _)⟩⟩

/-! ## The end of a grant (R174, R179) -/

/-- A part that has moved its last piece waits for no lane. -/
theorem State.runLanes_moved {s : State} {k : Nat} (h : (s.arb k).moved.isEmpty = false) (n : Nat) :
    State.runLanes n s k = s := by
  cases n with
  | zero => rfl
  | succ n => rw [State.runLanes, if_neg (by simp [h])]

/-- The one part with a piece left moves it in the next FCLK, and is the only one that has moved its last. -/
theorem State.runLanes_last {s : State} {k key : Nat} {p : Part} {r : Req} (hm : s.moving k = [(key, p, r)])
    (hnone : (s.arb k).moved = []) (hl : p.left = 1) : ∃ u : State, State.runLanes 1 s k = u ∧ (u.arb k).moved = [key] ∧
      u.part? key = some { p with left := 0 } ∧ u.reqs = s.reqs ∧ u.bank = s.bank := by
  refine ⟨_, rfl, ?_⟩
  rw [State.runLanes, if_pos (by rw [hnone]; rfl), State.runLanes, hm, State.laneRound]
  simp only [firstBy, List.foldl_nil, List.filter_cons, List.filter_nil, bne_self_eq_false, Bool.false_eq_true, if_false, hl]
  unfold State.laneRound
  simp [firstBy, hnone]

/-- The write lanes leave the requests and the part that is done at the front. -/
theorem State.runLanes_done {s : State} {k key : Nat} {rest : List Nat} {p : Part} {r : Req}
    (h : (s.arb k).moved = key :: rest ∨ ((s.arb k).moved = [] ∧ s.moving k = [(key, p, r)] ∧ p.left = 1))
    (hp : s.part? key = some p) : ∃ (u : State) (q : Part) (l : List Nat),
      State.runLanes ((s.moving k).map (fun c => c.2.1.left)).sum s k = u ∧ (u.arb k).moved = key :: l ∧
      u.part? key = some q ∧ q.req = p.req ∧ u.reqs = s.reqs ∧ u.bank = s.bank := by
  obtain h | ⟨hnone, hm, hl⟩ := h
  · exact ⟨s, p, rest, State.runLanes_moved (by rw [h]; rfl) _, h, hp, rfl, rfl, rfl⟩
  · obtain ⟨u, hu, hmoved, hpart, hreqs, hbank⟩ := State.runLanes_last hm hnone hl
    refine ⟨u, _, [], ?_, hmoved, hpart, rfl, hreqs, hbank⟩
    rw [hm, ← hu]
    simp [hl]

theorem grantComplete_answers {k : Fin 16} {s : State} {key : Nat} {rest : List Nat} {p : Part} {r : Req}
    (h : (s.arb k.val).moved = key :: rest ∨ ((s.arb k.val).moved = [] ∧ s.moving k.val = [(key, p, r)] ∧ p.left = 1))
    (hp : s.part? key = some p) (hr : s.req? p.req = some r) (ha : r.answered = true) (hlive : r.phase = .live)
    (hop : r.op = 1 ∨ r.op = 2 ∨ r.op = 3 ∨ r.op = 4) (hdb : s.doorbellOf r = none) :
    Completes (.grantComplete k) s fun t => ∃ u, t.req? p.req = some u ∧ u.phase = .done ∧ u.status = 0 := by
  obtain ⟨u, q, l, hu, hmoved, hq, hqreq, hreqs, hbank⟩ := State.runLanes_done h hp
  rw [← hqreq] at hr ⊢
  have hur : u.req? q.req = some r := (State.req?_congr hreqs _).trans hr
  obtain ⟨v, hv, hadmit⟩ := State.admitPart_answers (s := u.setArb k.val { u.arb k.val with moved := l }) hq hur hop
    ((State.doorbellOf_congr hbank r).trans hdb)
  obtain ⟨at_, hserved⟩ := State.handOn_req? ((State.req?_congr hv _).trans hur) key
  refine ⟨(v.handOn key q r).answer q.req 0 false, ?_, _, State.answer_req? hserved (by simp [hlive]) ha 0 false, rfl, rfl⟩
  show execGrantComplete k s = _
  unfold execGrantComplete
  dsimp only
  rw [hu, hmoved]
  exact congrArg _ hadmit

/-! ## Holds (R280) -/

theorem lakeHoldTimeout_retries {k : Fin 16} {s : State} {c : Cand} (hc : s.partsAt k.val (s.holdOver k.val) = [c])
    (hp : s.part? c.1 = some c.2.1) (hr : s.req? c.2.1.req = some c.2.2) (ha : c.2.2.answered = true)
    (hlive : c.2.2.phase = .live) :
    Completes (.lakeHoldTimeout k) s fun t => ∃ r, t.req? c.2.1.req = some r ∧ r.phase = .done ∧ r.status = 5 := by
  refine ⟨(s.cntT c.2.2.ten 53 1).refuse c.1 5, ?_, _, State.refuse_req? (s := s.cntT c.2.2.ten 53 1) hp hr
    (by simp [hlive]) ha 5, rfl, rfl⟩
  show Host.Outcome.next ((s.partsAt k.val (s.holdOver k.val)).foldl _ s) = _
  rw [hc]
  rfl

/-! ## Urgency levels (R95, R170) -/

/-- The levels of a leaf's entries, brought up to a stack's time, with the claims behind them. -/
def State.levelled (s : State) (stc i : Nat) : State :=
  (s.setLeaf i { s.leaf i with queue := (s.leaf i).queue.map (fun e => { e with urg := s.urgOf stc e }) }).claims i

theorem State.levelled_queue (s : State) (stc i j : Nat) : ((s.levelled stc i).leaf j).queue =
    if j = i then (s.leaf i).queue.map (fun e => { e with urg := s.urgOf stc e }) else (s.leaf j).queue := by
  unfold State.levelled
  rw [State.claims_queue]
  split
  · next e => rw [e, State.setLeaf_leaf_self]
  · next e => rw [State.setLeaf_leaf_other _ _ e]

/-- Every entry of a leaf stands at the level of a time. -/
def State.LeafLevelled (s : State) (stc i : Nat) : Prop := ∀ e ∈ (s.leaf i).queue, e.urg = s.urgOf stc e

theorem State.levelled_self (s : State) (stc i : Nat) : (s.levelled stc i).LeafLevelled stc i := by
  intro e he
  rw [State.levelled_queue, if_pos rfl] at he
  obtain ⟨x, -, rfl⟩ := List.mem_map.mp he
  rfl

theorem State.levelled_keeps {s : State} {stc i j : Nat} (h : s.LeafLevelled stc j) : (s.levelled stc i).LeafLevelled stc j := by
  by_cases e : j = i
  · rw [e]
    exact s.levelled_self stc i
  · intro x hx
    rw [State.levelled_queue, if_neg e] at hx
    exact h x hx

/-- Levelling the listed leaves of a stack levels each of its leaves. -/
theorem State.levelled_all (s : State) (k stc : Nat) {j : Nat} (hj : j / 64 = k) :
    ((s.leaves.filter (fun (i, l) => i / 64 == k && !l.queue.isEmpty)).foldl
      (fun u x => u.levelled stc x.1) s).LeafLevelled stc j := by
  by_cases hq : (s.leaf j).queue = []
  · refine List.foldlRecOn (motive := fun u : State => u.LeafLevelled stc j) _ _ ?_ fun u hu x _ => State.levelled_keeps hu
    intro e he
    rw [hq] at he
    exact absurd he List.not_mem_nil
  · refine State.foldl_establishes (P := fun x u => u.LeafLevelled stc x.1) (fun u x => u.levelled_self stc x.1)
      (fun u x y h => State.levelled_keeps h) _ s (j, s.leaf j) (List.mem_filter.mpr ⟨?listed, ?mine⟩)
    case listed =>
      unfold State.leaf Tab.get at hq ⊢
      cases hf : Tab.find? s.leaves j with
      | none => rw [hf] at hq; exact absurd rfl hq
      | some l => exact Tab.mem_of_find? hf
    case mine => simp [hj, hq]

theorem State.urgOf_congr {s t : State} (h : t.ports = s.ports) (stc : Nat) (e : Entry) : t.urgOf stc e = s.urgOf stc e := by
  unfold State.urgOf
  rw [State.port_congr h]

theorem urgencyCrossing_levels (k : Fin 16) (s : State) : Completes (.urgencyCrossing k) s fun t =>
    ∀ leaf e, leaf / 64 = k.val → e ∈ (t.leaf leaf).queue → e.urg = s.urgOf (s.sck k.val).stc e := by
  refine ⟨_, rfl, fun leaf e hl he => ?_⟩
  generalize hu : List.foldl _ s (s.leaves.filter (fun (i, l) => i / 64 == k.val && !l.queue.isEmpty)) = u at he
  have hports : Kept false false 0x400 s u := hu ▸ Kept.foldl
    (fun _ _ h => State.claims_kept (by decide) (State.setLeaf_kept (by decide) h _ _) _) _ _ (.refl s)
  have hk (ps : List Cand) (rs : List (Nat × Req)) : Kept false false 0x30e0002180 u
      (rs.foldl (fun s (id, r) => s.crossOpen k.val id r)
        (ps.foldl (fun s (key, p, r) => if r.op = 34 then s else s.crossPart k.val key p r) u)) :=
    Kept.foldl (fun _ _ h => State.crossOpen_kept (by decide) h _ _ _) _ _
      (Kept.foldl (fun _ _ h => .ite h (State.crossPart_kept (by decide) h _ _ _ _)) _ _ (.refl u))
  have hlevel : u.LeafLevelled (s.sck k.val).stc leaf := hu ▸ s.levelled_all k.val (s.sck k.val).stc hl
  rw [State.leaf_congr ((hk _ _).same .leaves)] at he
  exact (hlevel e he).trans (State.urgOf_congr (hports.same .ports) _ _)

/-! ## Held values (R169) -/

theorem diff32_sweepValue (stc v : Nat) : diff32 stc (sweepValue stc v) ≤ 2 ^ 30 := by
  unfold sweepValue
  split
  · unfold diff32
    dsimp only
    split <;> omega
  · omega

theorem State.ahead_sweepTime (s : State) (v : Nat) : -(2 ^ 30) ≤ s.ahead (s.sweepTime v) := by
  unfold State.sweepTime
  split
  · unfold State.ahead diff32
    dsimp only
    split <;> omega
  · omega

theorem deadlineSweep_sweeps (k : Fin 16) (s : State) : Completes (.deadlineSweep k) s fun t =>
    (∀ leaf, leaf / 64 ≠ k.val → t.leaf leaf = s.leaf leaf) ∧
    (∀ leaf e, leaf / 64 = k.val → e ∈ (t.leaf leaf).queue → diff32 (s.sck k.val).stc e.deadline ≤ 2 ^ 30 ∧
      diff32 (s.sck k.val).stc e.u1t ≤ 2 ^ 30 ∧ diff32 (s.sck k.val).stc e.u2t ≤ 2 ^ 30) ∧
    ∀ id r, t.req? id = some r → r.stack = k.val → -(2 ^ 30) ≤ s.ahead r.arrival := by
  refine ⟨_, rfl, fun leaf hl => ?other, fun leaf e hl he => ?entries, fun id r hr hk => ?requests⟩
  case other =>
    unfold State.leaf
    rw [Tab.get_mapVals_default (by rw [if_neg hl]), if_neg hl]
  case entries =>
    unfold State.leaf at he
    rw [Tab.get_mapVals_default (by rw [if_pos hl]; rfl), if_pos hl] at he
    obtain ⟨x, -, rfl⟩ := List.mem_map.mp he
    exact ⟨diff32_sweepValue _ _, diff32_sweepValue _ _, diff32_sweepValue _ _⟩
  case requests =>
    unfold State.req? at hr
    rw [Tab.find?_mapVals] at hr
    obtain ⟨q, -, hq⟩ := Option.map_eq_some_iff.mp hr
    split at hq
    · rw [← hq]
      exact s.ahead_sweepTime q.arrival
    · next hn => exact absurd (hq ▸ hk) hn

/-- Settles O21, event by event. -/
theorem arbiterEventsComplete : Obligations.ArbiterEventsComplete := by
  unfold Obligations.ArbiterEventsComplete
  refine ⟨fun k s c hparts hheld hr helig hadm hrank hwait hcheck hop hl => ?grant,
    fun k s c hparts hheld hr helig hadm hrank hwait hcheck hop => ?read,
    fun k s key rest p r h hp hr ha hlive _ hop hdb => grantComplete_answers h hp hr ha hlive hop hdb,
    fun k s c => lakeHoldTimeout_retries, urgencyCrossing_levels, deadlineSweep_sweeps⟩
  case grant =>
    obtain ⟨t, v, hexec, hparts, hclk, hcount⟩ := partGrant_grants ⟨hparts, hheld, hr, helig, hadm, hrank, hwait, hcheck⟩
    obtain ⟨hsame, hpart⟩ := State.grant_waits (s := v) (k := k.val) hop hl
    refine ⟨t, hexec, fun hn => ?_, ?_⟩
    · rw [(hcount hn).1, hsame, (hcount hn).2]
    · rw [State.part?_congr hparts, hpart, State.grantedPart, hclk]
  case read =>
    obtain ⟨t, v, hexec, hparts, -, -⟩ := partGrant_grants ⟨hparts, hheld, hr, helig, hadm, hrank, hwait, hcheck⟩
    obtain ⟨y, hy, hstage⟩ := State.grant_read (s := v) (k := k.val) hop
    exact ⟨t, hexec, y, (State.part?_congr hparts c.1).trans hy, hstage⟩

end Sys2Proof.Machine

/-! # Maintenance tokens (R128-R133, R336) -/

namespace Sys2Proof.Machine

/-! ## The leaves of a request -/

theorem MReq.leaves_cases (m : MReq) (l : Nat) : m.leaves l = [l] ∨ m.leaves l = [l / 2 * 2, l / 2 * 2 + 1] := by
  unfold MReq.leaves
  split
  · exact .inr rfl
  · exact .inl rfl

theorem MReq.leaves_nodup (m : MReq) (l : Nat) : (m.leaves l).Nodup := by
  obtain h | h := m.leaves_cases l <;> simp [h]

theorem MReq.self_mem_leaves (m : MReq) (l : Nat) : l ∈ m.leaves l := by
  obtain h | h := m.leaves_cases l <;> rw [h]
  · exact List.mem_singleton_self l
  · simp only [List.mem_cons, List.not_mem_nil, or_false]
    omega

/-- A change made once to each leaf of a list without repeats is seen at those leaves, and at no other. -/
theorem State.foldl_setCare_care (f : Care → Care) {ls : List Nat} (h : ls.Nodup) (s : State) (j : Nat) :
    (ls.foldl (fun s i => s.setCare i (f (s.care i))) s).care j = if j ∈ ls then f (s.care j) else s.care j := by
  induction ls generalizing s with
  | nil => simp
  | cons i ls ih =>
    obtain ⟨hi, hls⟩ := List.nodup_cons.mp h
    rw [List.foldl_cons, ih hls]
    by_cases hj : j = i
    · subst hj
      simp [hi]
    · simp [State.setCare_care_other _ _ hj, hj]

/-! ## What a merge buffer's flushes leave of a leaf's care -/

/-- Every leaf's care is as it was but for its merge entries. -/
def State.OnlyMerges (s t : State) : Prop := ∀ l, t.care l = { s.care l with merge := (t.care l).merge }

namespace State.OnlyMerges

theorem of_eq {s t : State} (h : t.cares = s.cares) : s.OnlyMerges t := fun l => by rw [State.care_congr h]

theorem trans {s t u : State} (h : s.OnlyMerges t) (g : t.OnlyMerges u) : s.OnlyMerges u := fun l => by
  rw [g l, h l]

theorem setMerge (s : State) (l : Nat) (ms : List MergeEnt) : s.OnlyMerges (s.setCare l { s.care l with merge := ms }) := fun j => by
  by_cases h : j = l
  · rw [h, State.setCare_care_self]
  · rw [State.setCare_care_other _ _ h]

theorem pushEntry (s : State) (l : Nat) (e : Entry) : s.OnlyMerges (s.pushEntry l e) :=
  of_eq ((State.pushEntry_kept (Nat.or_self _) (.refl s) l e).same .cares)

theorem flushEnt (s : State) (l : Nat) (m : MergeEnt) : s.OnlyMerges (s.flushEnt l m) := by
  unfold State.flushEnt
  dsimp only
  split
  · exact (setMerge s l _).trans (pushEntry _ _ _)
  · exact ((setMerge s l _).trans (pushEntry _ _ _)).trans (pushEntry _ _ _)

theorem closeAll (s : State) (l : Nat) : s.OnlyMerges (s.closeAll l) := by
  unfold State.closeAll
  refine List.foldlRecOn (motive := fun u => s.OnlyMerges u) _ _ (of_eq rfl) fun u hu m _ => ?_
  split
  · exact hu
  · exact hu.trans (flushEnt u l m)

theorem feedZero (s : State) (l : Nat) : s.OnlyMerges (s.feedZero l) :=
  of_eq ((State.feedZero_kept (Nat.or_self _) (.refl s) l).same .cares)

end State.OnlyMerges

/-! ## Taking a free token (R128, R131, R133) -/

/-- A leaf's token and the requests raised on it are as they were. -/
structure Care.SameToken (c d : Care) : Prop where
  holder : d.holder = c.holder
  raised : d.raised = c.raised

theorem State.OnlyMerges.sameToken {s t : State} (h : s.OnlyMerges t) (l : Nat) : (s.care l).SameToken (t.care l) := by
  rw [h l]
  exact ⟨rfl, rfl⟩

theorem Care.fit_of_free {c : Care} (h : c.holder = none) (a : Act) : c.fit a = .take := by
  unfold Care.fit
  rw [h]
  rfl

theorem Care.place_of_free {c : Care} (h : c.holder = none) (m : MReq) : c.place m .take = { c with holder := some m } := by
  unfold Care.place
  rw [h]
  rfl

/-- A request whose leaves' tokens are all free takes them, unless a limit holds it. -/
theorem State.fitOf_of_free {s : State} {l : Nat} {m : MReq} (hfree : ∀ i ∈ m.leaves l, (s.care i).holder = none)
    (hlim : s.overLimit l m = false) : s.fitOf l m = .take := by
  have hfit : (m.leaves l).foldl (fun (f : Fit) i => f.max ((s.care i).fit m.act)) .take = .take :=
    List.foldlRecOn (motive := fun f => f = Fit.take) _ _ rfl fun f hf i hi => by
      rw [hf, Care.fit_of_free (hfree i hi)]
      rfl
  unfold State.fitOf
  rw [hfit, hlim]
  rfl

/-- What a request starts, once it holds its tokens, leaves them to it. -/
theorem State.placeReq_sameToken (s : State) (l : Nat) (m : MReq) (f : Fit) (j : Nat) :
    (((m.leaves l).foldl (fun s i => s.setCare i ((s.care i).place m f)) s).care j).SameToken ((s.placeReq l m f).care j) := by
  unfold State.placeReq
  generalize (m.leaves l).foldl (fun s i => s.setCare i ((s.care i).place m f)) s = u
  dsimp only
  have hu : (u.care j).SameToken (u.care j) := ⟨rfl, rfl⟩
  split
  case h_1 => split <;> exact hu
  case h_2 =>
    split
    · exact hu
    · by_cases hj : j = l
      · rw [hj, State.setCare_care_self]
        split <;> exact ⟨rfl, rfl⟩
      · rw [State.setCare_care_other _ _ hj]
        exact hu
  case h_3 =>
    split
    · exact hu
    · exact ((State.OnlyMerges.closeAll u l).trans (.feedZero _ l)).sameToken j
  case h_4 => exact hu

/-- A request that finds the tokens of its leaves free, within the limits, takes them. -/
theorem State.checkMReq_takes {s : State} {l : Nat} {m : MReq} (hfree : ∀ i ∈ m.leaves l, (s.care i).holder = none)
    (hlim : s.overLimit l m = false) : ∀ i ∈ m.leaves l,
      ((s.checkMReq l m).care i).holder = some m ∧ ((s.checkMReq l m).care i).raised = (s.care i).raised := by
  intro i hi
  have hcheck : s.checkMReq l m = (s.placeReq l m .take).ticketQueued m.ticket := by
    unfold State.checkMReq
    rw [State.fitOf_of_free hfree hlim]
    rfl
  have hcare : (s.checkMReq l m).care i = (s.placeReq l m .take).care i := by
    rw [hcheck]
    exact State.care_congr ((State.ticketQueued_kept (Nat.or_self _) (.refl _) m.ticket).same .cares) i
  have hsame := s.placeReq_sameToken l m .take i
  rw [State.foldl_setCare_care (fun c => c.place m .take) (m.leaves_nodup l), if_pos hi, Care.place_of_free (hfree i hi)] at hsame
  rw [hcare]
  exact ⟨hsame.holder, hsame.raised⟩

/-- Take a request off the raised ones of its leaves. -/
def State.lower (s : State) (l : Nat) (m : MReq) : State :=
  (m.leaves l).foldl (fun s i => s.setCare i { s.care i with raised := (s.care i).raised.erase m }) s

theorem State.lower_care (s : State) {l : Nat} {m : MReq} {i : Nat} (hi : i ∈ m.leaves l) :
    (s.lower l m).care i = { s.care i with raised := (s.care i).raised.erase m } := by
  unfold State.lower
  rw [State.foldl_setCare_care (fun c => { c with raised := c.raised.erase m }) (m.leaves_nodup l), if_pos hi]

theorem maintenanceStart_takes {l : Fin 1024} {act : Fin 8} {s : State} {a : Act} {m : MReq} (ha : actOf act.val = some a)
    (hk : s.keepsBack a = false) (hm : (s.care l.val).raised.find? (fun m => m.act == a) = some m)
    (hfirst : ∀ i ∈ m.leaves l.val, (s.care i).firstRaised s.keepsBack = some a)
    (hfree : ∀ i ∈ m.leaves l.val, (s.care i).holder = none) (hlim : (s.lower l.val m).overLimit l.val m = false) :
    Completes (.maintenanceStart l act) s fun t => ∀ i ∈ m.leaves l.val,
      (t.care i).holder = some m ∧ (t.care i).raised = (s.care i).raised.erase m := by
  have hnone : ((m.leaves l.val).any fun i => (s.care i).firstRaised s.keepsBack != some a) = false :=
    List.any_eq_false.mpr fun i hi => by simp [hfirst i hi]
  have hexec : exec (.maintenanceStart l act) s = .next ((s.lower l.val m).checkMReq l.val m) := by
    show execMaintenanceStart l act s = _
    unfold execMaintenanceStart
    dsimp only
    rw [ha, Option.filter_some_pos (by simp [hk])]
    dsimp only
    rw [hfirst _ (m.self_mem_leaves l.val)]
    dsimp only
    rw [if_neg (by simp), hm]
    dsimp only
    rw [hnone]
    rfl
  refine ⟨_, hexec, fun i hi => ?_⟩
  have htakes := State.checkMReq_takes (s := s.lower l.val m) (l := l.val) (m := m)
    (fun j hj => by rw [s.lower_care hj]; exact hfree j hj) hlim i hi
  rwa [s.lower_care hi] at htakes

/-- Calender's own SCRUB, which no limit of R133 holds back, takes a free token (R336). -/
theorem maintenanceStart_scrubs {l : Fin 1024} {act : Fin 8} {s : State} (ha : actOf act.val = some .scrub)
    (hk : s.keepsBack .scrub = false) (hnone : (s.care l.val).firstRaised s.keepsBack = none)
    (hw : s.wantsScrub l.val = true) (hfree : (s.care l.val).holder = none) :
    Completes (.maintenanceStart l act) s fun t => (t.care l.val).holder = some (plainReq .scrub 0 0) := by
  refine ⟨s.checkMReq l.val (plainReq .scrub 0 0), ?_, ?_⟩
  · show execMaintenanceStart l act s = _
    unfold execMaintenanceStart
    simp [ha, Option.filter, hk, hnone, hw]
  · refine (State.checkMReq_takes (fun i hi => ?_) rfl l.val (MReq.self_mem_leaves _ _)).1
    rwa [List.mem_singleton.mp hi]

/-! ## The end of an activity (R129, R130) -/

/-- A leaf's care without an activity, and without what the activity had paused. -/
def Care.without (c : Care) (a : Act) : Care :=
  { c with holder := c.holder.filter (fun m => m.act != a), riders := c.riders.filter (fun m => m.act != a)
           joined := c.joined.filter (fun m => m.act != a), absorbed := if a == Act.zero then [] else c.absorbed
           paused := c.paused.filter (fun x => x.1 != a) }

/-- What an activity had paused. -/
def Care.pausedBy (c : Care) (a : Act) : List MReq := (c.paused.filter (fun x => x.1 == a)).map (fun x => x.2)

/-- Paused requests run again: the first takes a token that is free, and the others ride. -/
def Care.resume (c : Care) (back : List MReq) : Care :=
  match c.holder, back with
  | none, m :: rest => { c with holder := some m, riders := c.riders ++ rest }
  | some _, ms => { c with riders := c.riders ++ ms }
  | none, [] => c

/-- The oldest rider takes a token that is free. -/
def Care.promote (c : Care) : Care :=
  match c.holder, c.riders with
  | none, m :: rest => { c with holder := some m, riders := rest }
  | _, _ => c

theorem Care.release_eq (c : Care) (a : Act) : c.release a = ((c.without a).resume (c.pausedBy a)).promote := rfl

theorem Care.mem_pausedBy {c : Care} {a : Act} {m : MReq} : m ∈ c.pausedBy a ↔ (a, m) ∈ c.paused := by
  simp [Care.pausedBy]

theorem Care.mem_without_running {c : Care} {a : Act} {m : MReq} :
    m ∈ (c.without a).running ↔ m ∈ c.running ∧ m.act ≠ a := by
  simp [Care.without, Care.running, Option.filter_eq_some_iff, or_and_right]

theorem Care.mem_resume_running {c : Care} {back : List MReq} {m : MReq} :
    m ∈ (c.resume back).running ↔ m ∈ c.running ∨ m ∈ back := by
  unfold Care.resume Care.running
  split
  case h_1 x rest h => simp [h, or_left_comm]
  case h_2 x h => simp [h, or_assoc]
  case h_3 h => simp

theorem Care.mem_promote_running {c : Care} {m : MReq} : m ∈ c.promote.running ↔ m ∈ c.running := by
  unfold Care.promote Care.running
  split
  case h_1 x rest hholder hriders => simp [hholder, hriders]
  case h_2 => exact Iff.rfl

/-- A token that stays free has no riders. -/
theorem Care.promote_riders_of_free {c : Care} (h : c.promote.holder = none) : c.promote.riders = [] := by
  unfold Care.promote at h ⊢
  cases hh : c.holder with
  | some x => simp [hh] at h
  | none =>
    cases hr : c.riders with
    | nil => simp [hr]
    | cons x rest => simp [hh, hr] at h

/-- What runs on a leaf after an activity's release: what ran there beside it, and what it had paused. -/
theorem Care.mem_release_running {c : Care} {a : Act} {m : MReq} :
    m ∈ (c.release a).running ↔ (m ∈ c.running ∧ m.act ≠ a) ∨ (a, m) ∈ c.paused := by
  rw [Care.release_eq, Care.mem_promote_running, Care.mem_resume_running, Care.mem_without_running, Care.mem_pausedBy]

theorem Care.release_joined (c : Care) (a : Act) : (c.release a).joined = c.joined.filter (fun m => m.act != a) := by
  unfold Care.release
  dsimp only
  split <;> split <;> rfl

theorem Care.release_queue (c : Care) (a : Act) : (c.release a).queue = c.queue := by
  unfold Care.release
  dsimp only
  split <;> split <;> rfl

/-- An activity's release leaves nothing of it, resumes what it had paused, and leaves no rider without a holder. -/
theorem Care.release_resumes (c : Care) (a : Act) :
    (∀ m ∈ (c.release a).running, m.act ≠ a ∨ (a, m) ∈ c.paused) ∧ (∀ m ∈ (c.release a).joined, m.act ≠ a) ∧
    (∀ m, (a, m) ∈ c.paused → m ∈ (c.release a).running) ∧ (∀ m ∈ c.riders, m.act ≠ a → m ∈ (c.release a).running) ∧
    ((c.release a).holder = none → (c.release a).riders = []) := by
  refine ⟨fun m hm => ?_, fun m hm => ?_, fun m hm => ?_, fun m hm ha => ?_, Care.promote_riders_of_free⟩
  · exact (Care.mem_release_running.mp hm).imp_left And.right
  · rw [Care.release_joined] at hm
    simpa using (List.mem_filter.mp hm).2
  · exact Care.mem_release_running.mpr (.inr hm)
  · exact Care.mem_release_running.mpr (.inl ⟨List.mem_append_right _ hm, ha⟩)

/-- No request waits in any leaf's queue. -/
def State.NoQueues (s : State) : Prop := ∀ l, (s.care l).queue = []

theorem State.NoQueues.of_mem {s : State} (h : ∀ x ∈ s.cares, x.2.queue = []) : s.NoQueues := fun l => by
  unfold State.care Tab.get
  cases hf : Tab.find? s.cares l with
  | none => rfl
  | some c => exact h _ (Tab.mem_of_find? hf)

theorem State.NoQueues.congr {s t : State} (h : s.NoQueues) (hc : t.cares = s.cares) : t.NoQueues := fun l => by
  rw [State.care_congr hc]
  exact h l

theorem State.NoQueues.release {s : State} (h : s.NoQueues) (l : Nat) (a : Act) :
    (s.setCare l ((s.care l).release a)).NoQueues := fun j => by
  by_cases hj : j = l
  · rw [hj, State.setCare_care_self, Care.release_queue]
    exact h l
  · rw [State.setCare_care_other _ _ hj]
    exact h j

/-- Where no queue holds a request, checking a head again changes nothing. -/
theorem State.NoQueues.recheck {s : State} (h : s.NoQueues) (n l : Nat) : State.recheck n s l = s := by
  cases n with
  | zero => rfl
  | succ n =>
    unfold State.recheck
    rw [h l]

/-- Without a queued request, the end of an activity leaves of the care records what the releases make of them. -/
theorem State.endAct_cares {s : State} (h : s.NoQueues) (l : Nat) (a : Act) : (s.endAct l a).cares =
    ((s.actLeaves l a).foldl (fun u i => u.setCare i ((u.care i).release a)) s).cares := by
  unfold State.endAct
  dsimp only
  have hreleased : ((s.actLeaves l a).foldl (fun u i => u.setCare i ((u.care i).release a)) s).NoQueues :=
    List.foldlRecOn (motive := State.NoQueues) _ _ h fun u hu i _ => hu.release i a
  generalize (s.actLeaves l a).foldl (fun u i => u.setCare i ((u.care i).release a)) s = u at hreleased ⊢
  generalize s.actReqs l a ++ (if a == Act.zero then (s.care l).absorbed else []) = gone
  have hended : (gone.foldl (fun s m => s.endReq m) u).cares = u.cares :=
    List.foldlRecOn (motive := fun v : State => v.cares = u.cares) _ _ rfl fun v hv m _ =>
      ((State.endReq_kept (Nat.or_self _) (.refl v) m).same .cares).trans hv
  generalize gone.foldl (fun s m => s.endReq m) u = v at hended ⊢
  generalize hw : (if a == Act.retrain then _ else v) = w
  have hcares : w.cares = u.cares := by
    rw [← hw, ← hended]
    split <;> rfl
  have hqueues := hreleased.congr hcares
  rw [List.foldl_fixed' (fun i => hqueues.recheck 9 i), List.foldl_fixed' (fun x => hqueues.recheck 1 x.1), hcares]

theorem maintenanceEnd_releases {l : Fin 1024} {act : Fin 8} {s : State} {a : Act} (ha : actOf act.val = some a)
    (hr : (s.care l.val).runs a = true) (hd : s.actDone l.val a = true) (hq : ∀ x ∈ s.cares, x.2.queue = []) :
    Completes (.maintenanceEnd l act) s fun t =>
      t.cares = ((s.actLeaves l.val a).foldl (fun u i => u.setCare i ((u.care i).release a)) s).cares := by
  refine ⟨s.endAct l.val a, ?_, State.endAct_cares (.of_mem hq) l.val a⟩
  show execMaintenanceEnd l act s = _
  unfold execMaintenanceEnd
  rw [ha]
  exact if_pos (by rw [hr, hd]; rfl)

/-- Settles O26, clause by clause. -/
theorem maintenanceTakesAndReleasesTheToken : Obligations.MaintenanceTakesAndReleasesTheToken := by
  unfold Obligations.MaintenanceTakesAndReleasesTheToken
  refine ⟨fun l act s u a m ha hk _ hm hfirst hu hfree hlim => ?takes, fun l act s => maintenanceStart_scrubs,
    fun l act s a => maintenanceEnd_releases, Care.release_resumes⟩
  case takes =>
    subst hu
    exact maintenanceStart_takes ha hk hm hfirst hfree hlim

end Sys2Proof.Machine

/-! # Calibration in service (R135, R136, R369-R380) -/

namespace Sys2Proof.Machine

theorem State.chan_congr {s t : State} (h : t.chans = s.chans) (c : Nat) : t.chan c = s.chan c :=
  congrArg (fun x => Tab.get Chan.reset x c) h

/-! ## Triggers of a RETRAIN (Table 12.4, R371) -/

/-- Both leaves of a channel are asked for its RETRAIN. -/
theorem retrainReq_leaves (cause tk c : Nat) : (plainReq .retrain cause tk).leaves (2 * c) = [2 * c, 2 * c + 1] := by
  show [2 * c / 2 * 2, 2 * c / 2 * 2 + 1] = _
  rw [Nat.mul_div_cancel_left c (by decide), Nat.mul_comm]

/-- A request is raised behind the others on each of its leaves. -/
theorem State.request_care (s : State) {l i : Nat} {m : MReq} (hi : i ∈ m.leaves l) :
    (s.request l m).care i = { s.care i with raised := (s.care i).raised ++ [m] } := by
  unfold State.request
  rw [State.foldl_setCare_care (fun c => { c with raised := c.raised ++ [m] }) (m.leaves_nodup l), if_pos hi]

theorem State.request_chans (s : State) (l : Nat) (m : MReq) : (s.request l m).chans = s.chans :=
  (State.request_kept (Nat.or_self _) (.refl s) l m).same .chans

/-- A channel that takes a RETRAIN request: awake and trained, without a RETRAIN or a correction under way (R371). -/
structure State.RetrainFree (s : State) (c : Nat) : Prop where
  idle : (s.care (2 * c)).every.any (fun m => m.act == .retrain) = false
  notRunning : (s.chan c).retrain = none
  notPending : (s.chan c).pendingCorr = false
  notCorrecting : (s.chan c).corr = none
  trained : (s.chan c).cal.untrained = false
  awake : (s.sck (c / 32)).asleep = false
  refreshed : (s.sck (c / 32)).sr.contains (c % 32) = false

/-- The channel's record as a trigger that is taken leaves it. -/
def Chan.triggered (x : Chan) (cause tk : Nat) : Chan :=
  { x with lastCause := cause, retrainTickets := if tk = 0 then x.retrainTickets else x.retrainTickets ++ [tk] }

theorem State.RetrainFree.request_eq {s : State} {c : Nat} (h : s.RetrainFree c) (cause tk : Nat) :
    s.requestRetrain c cause tk =
      (s.setChan c ((s.chan c).triggered cause tk)).request (2 * c) (plainReq .retrain cause 0) := by
  have hbusy : ((s.care (2 * c)).every.any (fun m => m.act == .retrain) || (s.chan c).retrain.isSome ||
      (s.chan c).pendingCorr || (s.chan c).corr.isSome) = false := by
    rw [h.idle, h.notRunning, h.notPending, h.notCorrecting]
    rfl
  have haway : ((s.sck (c / 32)).asleep || (s.sck (c / 32)).sr.contains (c % 32) || (s.chan c).cal.untrained) = false := by
    rw [h.awake, h.refreshed, h.trained]
    rfl
  unfold State.requestRetrain
  dsimp only
  rw [hbusy, haway]
  rfl

/-- A trigger that is taken: its cause and ticket are noted, and both leaves are asked for a RETRAIN. -/
theorem State.RetrainFree.asks {s : State} {c : Nat} (h : s.RetrainFree c) (cause tk : Nat) :
    (s.requestRetrain c cause tk).chan c = (s.chan c).triggered cause tk ∧
    ∀ i ∈ [2 * c, 2 * c + 1],
      ((s.requestRetrain c cause tk).care i).raised = (s.care i).raised ++ [plainReq .retrain cause 0] := by
  rw [h.request_eq]
  refine ⟨?_, fun i hi => ?_⟩
  · rw [State.chan_congr (State.request_chans _ _ _), State.setChan_chan_self]
  · rw [State.request_care _ (by rwa [retrainReq_leaves]), State.setChan_care_same]

/-- A trigger changes nothing of any channel but its last cause and the owner's tickets. -/
theorem State.requestRetrain_chan (s : State) (c cause tk j : Nat) : ∃ lc ts,
    (s.requestRetrain c cause tk).chan j = { s.chan j with lastCause := lc, retrainTickets := ts } := by
  have hset : ∀ lc ts, ∃ lc' ts', (s.setChan c { s.chan c with lastCause := lc, retrainTickets := ts }).chan j =
      { s.chan j with lastCause := lc', retrainTickets := ts' } := fun lc ts => by
    by_cases hj : j = c
    · exact ⟨lc, ts, by rw [hj, State.setChan_chan_self]⟩
    · exact ⟨_, _, State.setChan_chan_other s _ hj⟩
  unfold State.requestRetrain
  dsimp only
  split
  · exact ⟨_, _, rfl⟩
  · split
    · exact hset _ _
    · rw [State.chan_congr (State.request_chans _ _ _)]
      exact hset _ _

/-! ## Gaps stay open -/

/-- A gap is open in every channel in which it was. -/
def State.SameGaps (s t : State) : Prop := ∀ c, (t.chan c).gap = (s.chan c).gap

namespace State.SameGaps

theorem of_eq {s t : State} (h : t.chans = s.chans) : s.SameGaps t := fun c => by rw [State.chan_congr h]

theorem refl (s : State) : s.SameGaps s := fun _ => rfl

theorem trans {s t u : State} (h : s.SameGaps t) (g : t.SameGaps u) : s.SameGaps u := fun c => (g c).trans (h c)

/-- One operation more that writes no channel record. -/
theorem more {s t u : State} (h : s.SameGaps t) (e : u.chans = t.chans) : s.SameGaps u := h.trans (of_eq e)

/-- One operation before that writes no channel record. -/
theorem after {s t u : State} (g : t.SameGaps u) (e : t.chans = s.chans) : s.SameGaps u := (of_eq e).trans g

theorem ite {s t u : State} {p : Prop} [Decidable p] (h : s.SameGaps t) (g : s.SameGaps u) : s.SameGaps (if p then t else u) := by
  split
  · exact h
  · exact g

theorem setChan {s : State} {c : Nat} {x : Chan} (h : x.gap = (s.chan c).gap) : s.SameGaps (s.setChan c x) := fun j => by
  by_cases hj : j = c
  · rw [hj, State.setChan_chan_self, h]
  · rw [State.setChan_chan_other _ _ hj]

theorem foldl {α : Type} {f : State → α → State} (hf : ∀ (u : State) (a : α), u.SameGaps (f u a)) (l : List α) (s : State) :
    s.SameGaps (l.foldl f s) :=
  List.foldlRecOn (motive := s.SameGaps) l f (refl s) fun u hu a _ => hu.trans (hf u a)

theorem freshRows (s : State) (k : Nat) (cs : List Nat) : s.SameGaps (s.freshRows k cs) := by
  unfold State.freshRows
  refine foldl (fun u c => setChan ?_) cs s
  rfl

theorem exitSR (s : State) (k : Nat) (cs : List Nat) : s.SameGaps (s.exitSR k cs) := by
  unfold State.exitSR
  dsimp only
  refine ((foldl (fun u c => foldl (fun v i => of_eq ?_) _ u) cs s).trans (freshRows _ k cs)).more rfl
  exact (State.spend_kept (r := false) (b := false) (w := 0x12400) (by decide) (State.setArb_kept (by decide)
    (State.freshBanks_kept (by decide) (.refl v) _ _ _) _ _) _ _ _ _).same .chans

theorem wakeStack (s : State) (k : Nat) : s.SameGaps (s.wakeStack k) := by
  unfold State.wakeStack
  exact ite (refl s) (ite (refl s) (ite (ite (exitSR s k _) (refl s)) (of_eq rfl)))

theorem claims (s : State) (l : Nat) : s.SameGaps (s.claims l) :=
  of_eq ((State.claims_kept (Nat.or_self _) (.refl s) l).same .chans)

theorem pushEntry (s : State) (l : Nat) (e : Entry) : s.SameGaps (s.pushEntry l e) := by
  unfold State.pushEntry
  dsimp only
  refine ite (trans (after (claims _ l) ?_) (wakeStack _ _)) (after (claims _ l) ?_) <;> rfl

theorem flushEnt (s : State) (l : Nat) (m : MergeEnt) : s.SameGaps (s.flushEnt l m) := by
  unfold State.flushEnt
  dsimp only
  refine ite (after (pushEntry _ _ _) ?_) (trans (after (pushEntry _ _ _) ?_) (pushEntry _ _ _)) <;> rfl

theorem closeFor (s : State) (l : Nat) (las : List Nat) : s.SameGaps (s.closeFor l las) := by
  refine foldl (fun u la => ?_) las s
  split
  · exact refl u
  · exact flushEnt u l _

theorem requestRetrain (s : State) (c cause tk : Nat) : s.SameGaps (s.requestRetrain c cause tk) := fun j => by
  obtain ⟨lc, ts, h⟩ := s.requestRetrain_chan c cause tk j
  rw [h]

theorem ueSighting (s : State) (l key : Nat) : s.SameGaps (s.ueSighting l key) := by
  unfold State.ueSighting
  dsimp only
  refine ite (trans (trans (setChan ?_) (setChan ?_)) (requestRetrain _ _ _ _)) (setChan ?_) <;> rfl

/-- A maintenance read of words: neither tracked nor converted. -/
theorem readWords (s : State) (l la : Nat) (raw : List (Word64 × Byte)) (cause count ten sid tRead : Nat) :
    s.SameGaps (s.readWords l la raw cause count ten sid tRead false false) := by
  unfold State.readWords
  dsimp only
  refine trans (foldl (fun u x => ?word) _ s) (foldl (fun u b => ?burst) _ _)
  case word =>
    split
    · exact of_eq rfl
    · exact ite (trans (ueSighting u l _) (of_eq ((State.leafLost_kept (Nat.or_self _) (.refl _) l).same .chans)))
        (ueSighting u l _)
    · exact refl u
  case burst =>
    split
    · exact refl u
    · exact of_eq ((State.stainEvent_kept (Nat.or_self _) (.refl u) _ _ _ _ _ _ _).same .chans)

theorem copyRow (s : State) (l flat row : Nat) (flips : List (BitVec 72)) : s.SameGaps (s.copyRow l flat row flips) := by
  unfold State.copyRow
  dsimp only
  generalize hu : State.readWords _ _ _ _ _ _ _ _ _ _ _ = u
  refine more (t := u) (hu ▸ (closeFor s l _).trans (readWords _ _ _ _ _ _ _ _ _)) ?_
  exact (State.spend_kept (r := false) (b := false) (w := 0x3000010000) (by decide) (State.spend_kept (by decide)
    (State.spend_kept (by decide) (State.storeWords_kept (by decide) (.refl u) _ _ _) _ _ _ _) _ _ _ _) _ _ _ _).same .chans

theorem trainRows (s : State) (c : Nat) : s.SameGaps (s.trainRows c) := by
  unfold State.trainRows
  refine foldl (fun u l => ?_) _ s
  dsimp only
  refine ((copyRow _ _ _ _ _).after ?_).more ((State.maintSlots_kept (Nat.or_self _) (.refl _) _ _).same .chans)
  exact (State.rowCount_kept (Nat.or_self _) (.refl u) _ _ _).same .chans

end State.SameGaps

theorem State.openGap_gap (s : State) (c : Nat) : ((s.openGap c).chan c).gap = true := by
  unfold State.openGap
  dsimp only
  rw [State.setChan_chan_self]

/-! ## Retrain steps (R135, R136, R374, R376) -/

/-- A channel with its gap open, and its training rows saved where write points are measured. -/
def State.gapOpened (s : State) (c m : Nat) : State := if m = 0 then s.openGap c else (s.openGap c).trainRows c

theorem State.gapOpened_gap (s : State) (c m : Nat) : ((s.gapOpened c m).chan c).gap = true := by
  unfold State.gapOpened
  split
  · exact s.openGap_gap c
  · rw [State.SameGaps.trainRows _ c c]
    exact s.openGap_gap c

theorem retrainStep_opens {c : Fin 512} {s : State} {r w n m : Nat} (hr : (s.chan c.val).retrain = some (r, w))
    (hrun : s.retraining c.val = true) (hgap : (s.chan c.val).gap = false) (hstop : s.stopping = false) (h0 : r + w ≠ 0)
    (hup : s.leafUp (2 * c.val) = true) (hup' : s.leafUp (2 * c.val + 1) = true) (hstep : s.stepBefore c.val 5 = false)
    (hp : stepPoints (s.stepLimit (c.val / 32)) r w = (n, m)) : Completes (.retrainStep c) s fun t =>
      (t.chan c.val).retrain = some (r - n, w - m) ∧ (t.chan c.val).gap = true ∧
      (t.chan c.val).step = some (n, m, ((t.chan c.val).gapAt + 119) / 120 + stepTicks n m) ∧ (t.chan c.val).stale = true := by
  have hexec : exec (.retrainStep c) s = .next ((s.gapOpened c.val m).setChan c.val { (s.gapOpened c.val m).chan c.val with
      retrain := some (r - n, w - m)
      step := some (n, m, (((s.gapOpened c.val m).chan c.val).gapAt + 119) / 120 + stepTicks n m), stale := true
      loadTag := if ((s.gapOpened c.val m).chan c.val).stale then ((s.gapOpened c.val m).chan c.val).loadTag
        else ((s.gapOpened c.val m).pow (c.val / 32)).loadPct }) := by
    show execRetrainStep c s = _
    unfold execRetrainStep
    dsimp only
    rw [hr]
    dsimp only
    rw [if_neg (by simp [hrun, hgap, hstop, hup, hup', hstep]; omega), hp]
    rfl
  refine ⟨_, hexec, ?_⟩
  dsimp only
  rw [State.setChan_chan_self]
  exact ⟨rfl, s.gapOpened_gap c.val m, rfl, rfl⟩

theorem retrainStepAbandon_gives_back {c : Fin 512} {s : State} {r w n m at_ : Nat}
    (hs : (s.chan c.val).step = some (n, m, at_)) (hr : (s.chan c.val).retrain = some (r, w))
    (h : s.forced c.val = true ∨ (s.heatOf (c.val / 32)).st = .tripped ∨ (s.sck (c.val / 32)).switching = true ∨
      (s.sck (c.val / 32)).pll ≠ .locked) :
    exec (.retrainStepAbandon c) s = .next (s.setChan c.val { s.chan c.val with
      retrain := some (r + n, w + m), step := none, gap := false }) := by
  show execRetrainStepAbandon c s = _
  unfold execRetrainStepAbandon
  dsimp only
  rw [hs, hr]
  dsimp only
  rw [if_neg]
  obtain h | h | h | h := h <;> simp [h]

/-! ## Results and the apply (R378-R380) -/

/-- One record of Mordant's own is a committed set by itself. -/
theorem State.ownSet_single (s : State) (w : Staged) :
    ∃ x, (s.ownSet [w]).sets = s.sets ++ [x] ∧ x.committed = true ∧ x.items = [⟨w, 0⟩] := by
  have hlen : ([w].length + 255) / 256 = 1 := by simp
  unfold State.ownSet
  rw [hlen]
  exact ⟨_, rfl, rfl, by simp⟩

/-- The correction that the agreed results of a RETRAIN make of a channel's calibration. -/
def State.correction (s : State) (c : Nat) (m : ChanMeas) : ChanCal :=
  let op := (s.sck (c / 32)).opcur
  { ((s.chan c).active op).take (s.setting 0x5801 0) (s.setting 0x5802 0) m with
    temp := s.tempTag (c / 32), load := (s.chan c).loadTag, optag := op, vdd := (s.pow (c / 32)).vdd }

/-- A channel's record while its correction waits to be written. -/
def Chan.correcting (x : Chan) : Chan := { x with retrain := none, step := none, pendingCorr := true, stale := true }

theorem retrainDone_exec {c : Fin 512} {m : ChanMeas} {s : State} (hr : (s.chan c.val).retrain = some (0, 0))
    (hgap : (s.chan c.val).gap = false) (hrun : s.retraining c.val = false) (hroom : s.ownRoom 1 = true)
    (hany : m.lanes.any (fun l => (laneResult (s.setting 0x5801 0) (s.setting 0x5802 0) (measWv m l.lane) l).isSome) = true) :
    ∃ u, exec (.retrainDone c m) s = .next (u.ownSet [.cal c.val (s.correction c.val m) false]) ∧
      Kept false false 0x3060001000 (s.setChan c.val (s.chan c.val).correcting) u := by
  have hexec : exec (.retrainDone c m) s = execRetrainDone c m s := rfl
  unfold execRetrainDone at hexec
  dsimp only at hexec
  rw [if_neg (by simp [hr, hgap, hrun, hroom]), hany, if_pos rfl] at hexec
  refine ⟨_, hexec, ?_⟩
  refine Kept.foldl (fun v n h => State.request_kept (by decide) h _ _) _ _ ?_
  exact .ite (State.note_kept (by decide) (.refl _) _ _ _ _) (.refl _)

theorem retrainDone_commits {c : Fin 512} {m : ChanMeas} {s : State} (hr : (s.chan c.val).retrain = some (0, 0))
    (hgap : (s.chan c.val).gap = false) (hrun : s.retraining c.val = false) (hroom : s.ownRoom 1 = true)
    (hany : m.lanes.any (fun l => (laneResult (s.setting 0x5801 0) (s.setting 0x5802 0) (measWv m l.lane) l).isSome) = true) :
    Completes (.retrainDone c m) s fun t => (t.chan c.val).retrain = none ∧ (t.chan c.val).pendingCorr = true ∧
      ∃ x new, t.sets = s.sets ++ [x] ∧ x.committed = true ∧ x.items = [⟨.cal c.val new false, 0⟩] ∧
        new.optag = (s.sck (c.val / 32)).opcur ∧ new.load = (s.chan c.val).loadTag := by
  obtain ⟨u, hexec, hk⟩ := retrainDone_exec hr hgap hrun hroom hany
  obtain ⟨x, hsets, hcommitted, hitems⟩ := u.ownSet_single (.cal c.val (s.correction c.val m) false)
  have hchan : ∀ ws, (u.ownSet ws).chan c.val = (s.chan c.val).correcting := fun ws => by
    rw [State.chan_congr ((State.ownSet_kept (Nat.or_self _) (.refl u) ws).same .chans), State.chan_congr (hk.same .chans),
      State.setChan_chan_self]
  refine ⟨_, hexec, by rw [hchan]; rfl, by rw [hchan]; rfl, x, s.correction c.val m, ?_, hcommitted, hitems, rfl, rfl⟩
  rw [hsets, show u.sets = s.sets from hk.same .sets]

/-- The owner's tickets of a channel's RETRAIN complete, and the channel has none left. -/
theorem State.retrainOver_chan (s : State) (c : Nat) (ok : Bool) :
    (s.retrainOver c ok).chan c = { s.chan c with retrainTickets := [] } := by
  have hk : Kept false false 0x7000004 (s.setChan c { s.chan c with retrainTickets := [] }) (s.retrainOver c ok) := by
    refine Kept.foldl (fun u tk h => ?_) _ _ (.refl _)
    split
    · exact h
    · exact .ite (State.finish_kept (by decide) (Kept.upd_tickets (by decide) h) _ _ _ _) (Kept.upd_tickets (by decide) h)
  rw [State.chan_congr (hk.same .chans), State.setChan_chan_self]

/-- What lets a channel's correction be written (R379, R380). -/
structure State.ApplyDue (s : State) (c : Nat) (r : ChanCal) : Prop where
  corr : (s.chan c).corr = some r
  quiet : ∀ l, l / 2 = c → (s.leaf l).busFree ≤ s.now12 ∧ ((s.care l).runs .repair = false ∨ s.actDone l .repair = true)
  step : (s.chan c).step = none
  turn : r.optag = (s.sck (c / 32)).opcur → s.stepBefore c 5 = false
  locked : (s.sck (c / 32)).pll = .locked
  steady : (s.sck (c / 32)).switching = false
  awake : s.channelAsleep c = false

theorem State.ApplyDue.unbusy {s : State} {c : Nat} {r : ChanCal} (h : s.ApplyDue c r) : ([2 * c, 2 * c + 1].any fun l =>
    decide (s.now12 < (s.leaf l).busFree) || ((s.care l).runs .repair && !s.actDone l .repair)) = false := by
  refine List.any_eq_false.mpr fun l hl => ?_
  have hl : l / 2 = c := by
    simp only [List.mem_cons, List.not_mem_nil, or_false] at hl
    omega
  obtain ⟨hfree, hrepair⟩ := h.quiet l hl
  obtain hrepair | hrepair := hrepair <;> simp [hrepair, hfree]

/-- A channel's record with its correction written and nothing of it left. -/
def Chan.corrected (x : Chan) : Chan :=
  { x with corr := none, pendingCorr := false, stale := false, gap := false, apply := false, loadOnce := false }

theorem calibrationApply_writes {c : Fin 512} {s : State} {r : ChanCal} (h : s.ApplyDue c.val r) :
    Completes (.calibrationApply c) s fun t =>
      (if r.optag = 1 then (t.chan c.val).eco = some r else (t.chan c.val).cal = r) ∧ (t.chan c.val).gap = false ∧
      (t.chan c.val).corr = none ∧ (t.chan c.val).pendingCorr = false ∧ (t.chan c.val).stale = false := by
  have hexec : ∃ u : State, exec (.calibrationApply c) s = .next (((u.putCal c.val r).setChan c.val
      ((u.putCal c.val r).chan c.val).corrected).retrainOver c.val true) := by
    have hturn : (decide (r.optag = (s.sck (c.val / 32)).opcur) && s.stepBefore c.val 5) = false := by
      simpa using h.turn
    refine ⟨if r.optag = (s.sck (c.val / 32)).opcur then s.openGap c.val else s, ?_⟩
    show execCalibrationApply c s = _
    unfold execCalibrationApply
    dsimp only
    rw [h.corr]
    dsimp only
    rw [h.unbusy, hturn, if_neg (by simp [h.step, h.locked, h.steady, h.awake])]
    rfl
  obtain ⟨u, hexec⟩ := hexec
  refine ⟨_, hexec, ?_⟩
  dsimp only
  rw [State.retrainOver_chan, State.setChan_chan_self]
  refine ⟨?_, rfl, rfl, rfl, rfl⟩
  unfold State.putCal
  dsimp only
  rw [State.setChan_chan_self]
  split <;> rfl

/-! ## Margins, load windows and parity errors (R369-R371, R373) -/

theorem marginEvaluation_probes {c : Fin 512} {lane : Fin 80} {mismatch : Bool} {s : State}
    (ht : (s.chan c.val).cal.untrained = false) (ha : s.channelAsleep c.val = false) (hs : (s.chan c.val).stale = false)
    (hk : (s.sup (c.val / 32)).trained = true)
    (hspare : 72 ≤ lane.val → (Tab.find? (s.chan c.val).cal.spmap (lane.val - 72)).isSome = true) :
    Completes (.marginEvaluation c lane mismatch) s fun t => (t.chan c.val).margins =
      Tab.put (s.chan c.val).margins lane.val ((Tab.get Margin.reset (s.chan c.val).margins lane.val).probe mismatch
        (s.setting 0x5803 0) (s.setting 0x5804 0)) := by
  have hlane : (decide (72 ≤ lane.val) && !(Tab.find? (s.chan c.val).cal.spmap (lane.val - 72)).isSome) = false := by
    simpa using hspare
  have hexec : exec (.marginEvaluation c lane mismatch) s = execMarginEvaluation c lane mismatch s := rfl
  unfold execMarginEvaluation at hexec
  dsimp only at hexec
  rw [ht, ha, hs, hk, hlane, if_neg (by decide)] at hexec
  refine ⟨_, hexec, ?_⟩
  split
  · obtain ⟨lc, ts, h⟩ := State.requestRetrain_chan (s.setChan c.val _) c.val 2 0 c.val
    rw [h, State.setChan_chan_self]
  · rw [State.setChan_chan_self]

theorem loadWindow_judges {k : Fin 16} {s : State} {all pct : Nat} (hlate : 100000 ≤ s.clk.ticks - (s.pow k.val).loadAt)
    (ht : (s.sup k.val).trained = true)
    (hall : all = (s.clk.ticks - (s.pow k.val).loadAt) * 120 / s.qPeriod k.val * (s.geom k.val).leaves)
    (hpct : pct = (if all = 0 then 0 else min 100 (100 * (s.slotsUsed k.val - (s.pow k.val).retired) / all))) :
    Completes (.loadWindow k) s fun t => t.power = (s.setPow k.val { s.pow k.val with
      retired := s.slotsUsed k.val, loadAt := s.clk.ticks, loadPct := pct,
      highRun := if s.setting 0x5806 0 != 0 && decide (s.setting 0x5806 0 ≤ pct) then min 100 ((s.pow k.val).highRun + 1)
        else 0 }).power := by
  have hexec : exec (.loadWindow k) s = execLoadWindow k s := rfl
  unfold execLoadWindow at hexec
  dsimp only at hexec
  rw [if_neg (by simp [hlate, ht]), ← hall, ← hpct] at hexec
  generalize (if (s.setting 0x5806 0 != 0 && decide (s.setting 0x5806 0 ≤ pct)) = true then min 100 ((s.pow k.val).highRun + 1)
    else 0) = run at hexec ⊢
  split at hexec
  · exact ⟨_, hexec, rfl⟩
  · refine ⟨_, hexec, ?_⟩
    have hk : ∀ (l : List Nat) (f : State → Nat → Bool) (v : State), Kept false false 0x41000 v (l.foldl (fun s c =>
        if f s c then (s.setChan c { s.chan c with loadOnce := true }).requestRetrain c 3 0 else s) v) := fun l f v =>
      Kept.foldl (fun u c h => .ite (State.requestRetrain_kept (by decide) (State.setChan_kept (by decide) h _ _) _ _ _) h) l v
        (.refl v)
    exact (hk _ _ _).same .power

/-- A channel's record with the times of its parity errors (R373). -/
def Chan.parityErrors (x : Chan) (times : List Nat) : Chan :=
  { x with parity := times, parityAlarm := x.parityAlarm || decide (3 ≤ times.length) }

/-- Times of a channel's parity errors with one more: it and the others within 1 s of the end of a RETRAIN. -/
def State.errorTimes (s : State) (x : Chan) : List Nat :=
  let near := match x.retrainEnd with | some t => decide (s.now < t + 1000000000) | none => false
  if near then s.now :: x.parity else []

/-- The state in which a parity error asks for a RETRAIN. -/
def State.parityNoted (s : State) (c : Nat) (times : List Nat) : State :=
  let u := (s.note 0x07 2 (2 * c) [(1, c % 32), (1, 1)]).setChan c ((s.chan c).parityErrors times)
  if times.length = 3 && !(s.chan c).parityAlarm then u.note 0x07 2 (2 * c) [(1, c % 32), (1, 2)] else u

theorem State.parityNoted_kept (s : State) (c : Nat) (times : List Nat) :
    Kept false false 0x3060040000 s (s.parityNoted c times) := by
  have hset : Kept false false 0x3060040000 s ((s.note 0x07 2 (2 * c) [(1, c % 32), (1, 1)]).setChan c
      ((s.chan c).parityErrors times)) :=
    State.setChan_kept (by decide) (State.note_kept (by decide) (.refl s) _ _ _ _) _ _
  exact .ite (State.note_kept (by decide) hset _ _ _ _) hset

theorem State.parityNoted_chan (s : State) (c : Nat) (times : List Nat) :
    (s.parityNoted c times).chan c = (s.chan c).parityErrors times := by
  unfold State.parityNoted
  dsimp only
  split
  · rw [State.chan_congr ((State.note_kept (Nat.or_self _) (.refl _) _ _ _ _).same .chans), State.setChan_chan_self]
  · exact State.setChan_chan_self _ _ _

theorem caParityError_exec (c : Fin 512) (s : State) : exec (.caParityError c) s =
    .next ((s.parityNoted c.val (s.errorTimes (s.chan c.val))).requestRetrain c.val 4 0) := by
  have hclk : (s.note 0x07 2 (2 * c.val) [(1, c.val % 32), (1, 1)]).clk = s.clk :=
    (State.note_kept (Nat.or_self _) (.refl s) _ _ _ _).same .clk
  have htimes : (s.note 0x07 2 (2 * c.val) [(1, c.val % 32), (1, 1)]).errorTimes (s.chan c.val) = s.errorTimes (s.chan c.val) := by
    unfold State.errorTimes State.now
    rw [hclk]
  rw [← htimes]
  rfl

/-- Settles O29, event by event. -/
theorem calibrationEventsComplete : Obligations.CalibrationEventsComplete := by
  unfold Obligations.CalibrationEventsComplete
  refine ⟨fun c s r w n m => retrainStep_opens, fun c s r w n m at_ => retrainStepAbandon_gives_back,
    fun c m s => retrainDone_commits, fun c s r hcorr hquiet hstep hturn hlocked hsteady hawake =>
      calibrationApply_writes ⟨hcorr, hquiet, hstep, hturn, hlocked, hsteady, hawake⟩,
    fun c lane mismatch s => marginEvaluation_probes, fun k s all pct => loadWindow_judges,
    fun c s u times ht hu hidle hr hp hc htr ha hsr => ?parity⟩
  case parity =>
    subst hu
    have htimes : s.errorTimes (s.chan c.val) = times := by
      rw [ht, State.errorTimes]
      cases (s.chan c.val).retrainEnd <;> simp
    have hexec := htimes ▸ caParityError_exec c s
    have hk := s.parityNoted_kept c.val times
    have hchan := s.parityNoted_chan c.val times
    generalize s.parityNoted c.val times = v at hexec hk hchan
    have hcare : ∀ i, v.care i = s.care i := State.care_congr (hk.same .cares)
    rw [State.setChan_chan_self] at hr hp hc htr
    have hfree : v.RetrainFree c.val := ⟨by rwa [hcare], by rwa [hchan], by rwa [hchan], by rwa [hchan], by rwa [hchan],
      by rwa [State.sck_congr (hk.same .sclk)], by rwa [State.sck_congr (hk.same .sclk)]⟩
    obtain ⟨hasked, hraised⟩ := hfree.asks 4 0
    refine ⟨_, hexec, ?_, ?_, ?_, ?_⟩
    · rw [hasked, Chan.triggered]
    · rw [hasked, hchan, State.setChan_chan_self]
      rfl
    · rw [hraised _ (by simp), hcare]
    · rw [hraised _ (by simp), hcare]

end Sys2Proof.Machine

/-! # Commands that ask for work (Table 12.4) -/

namespace Sys2Proof.Machine

/-- Stack 0 is trained and awake; the owner's page has sent a CAL_RETRAIN of its channel 0, and the next ticket is number 0. -/
def ticketZero : State :=
  { State.reset with
    nextId := 0
    boot := { Boot.reset with coreReset := false, firmware := true }
    supply := [(0, { Supply.reset with stype := 1, trained := true })]
    bank := { Banked.reset with owner := some 0 }
    pages := [(512, { Page.reset with pstate := .opened, gen := 3, caps := 0xFFFF, cmdTail := 1, ring := [(0, 0x5B), (5, 1)] })]
    serviceq := [512] }

/-- The command at the head of the owner's page. -/
def ticketZeroCmd : Cmd := (ticketZero.page 512).headCmd 512

theorem ticketZero_accepts : ticketZero.accepts (.calRetrain 512) ticketZeroCmd := by
  refine ⟨⟨512, 0x5B, anySub, calRetrainBody⟩, ⟨rfl, by decide +kernel, by decide +kernel, by decide +kernel, rfl⟩, ?_⟩
  have hwaits : (match ticketZero.replyTo ⟨512, 0x5B, anySub, calRetrainBody⟩ ticketZeroCmd with
    | .wait _ => true
    | _ => false) = true := by decide +kernel
  cases h : ticketZero.replyTo ⟨512, 0x5B, anySub, calRetrainBody⟩ ticketZeroCmd with
  | wait _ => trivial
  | fail _ _ _ _ | ok _ _ | staged _ _ _ => rw [h] at hwaits; exact nomatch hwaits

/-- The tickets that wait for the RETRAIN of channel 0 once a command is executed. -/
def ticketsAfter (o : Host.Outcome State Fault Refusal) : List Nat :=
  match o with
  | .next t => (t.chan 0).retrainTickets
  | _ => []

/-- A trigger notes no ticket of number 0: channel 0 has none after the command. -/
theorem ticketZero_notes_none : ticketsAfter (exec (.calRetrain 512) ticketZero) = [] := by decide +kernel

/-- Refutes O58: its clause on CAL_RETRAIN takes any state, and where the next ticket is number 0, which stands for no ticket,
the channel's RETRAIN is asked for without the command's ticket. -/
theorem not_workCommandsAsk : ¬ Obligations.WorkCommandsAsk := by
  unfold Obligations.WorkCommandsAsk
  rintro ⟨-, -, -, hretrain, -⟩
  obtain ⟨t, hexec, hchans⟩ := hretrain 512 ticketZero ticketZeroCmd ticketZero_accepts
  obtain ⟨-, hticket, -⟩ := hchans 0 0 (by decide) (by decide +kernel) (by decide +kernel) (by decide +kernel) (by decide +kernel)
    (by decide +kernel) (by decide +kernel) (by decide +kernel) (by decide +kernel) (by decide +kernel) (by decide +kernel)
  have hnone := ticketZero_notes_none
  rw [hexec] at hnone
  rw [show (t.chan 0).retrainTickets = [] from hnone] at hticket
  exact nomatch hticket

end Sys2Proof.Machine

/-! # Sleep and waking (R144, R145, R147-R149, R330, R405) -/

namespace Sys2Proof.Machine

/-! ## Parking (R147) -/

theorem State.parkLeaf_other (s : State) {l j : Nat} (h : j ≠ l) : (s.parkLeaf l).leaf j = s.leaf j :=
  (State.setLeaf_leaf_other _ _ h).trans (State.setLeaf_leaf_other s _ h)

theorem State.parkLeaf_keeps {s : State} (l : Nat) {j : Nat} (h : (s.leaf j).parked = true) :
    ((s.parkLeaf l).leaf j).parked = true := by
  by_cases e : j = l
  · subst e
    exact s.parkLeaf_parked j
  · rw [s.parkLeaf_other e]
    exact h

theorem State.parkLeaves_parked (s : State) (ls : List Nat) : ∀ l ∈ ls, ((ls.foldl State.parkLeaf s).leaf l).parked = true :=
  State.foldl_establishes (P := fun l u => (u.leaf l).parked = true) State.parkLeaf_parked (fun _ l _ h => State.parkLeaf_keeps l h)
    ls s

theorem State.parkLeaves_other (s : State) {ls : List Nat} {j : Nat} (h : j ∉ ls) : (ls.foldl State.parkLeaf s).leaf j = s.leaf j :=
  List.foldlRecOn (motive := fun u => u.leaf j = s.leaf j) ls State.parkLeaf rfl fun u hu _ hl =>
    (u.parkLeaf_other (ne_of_mem_of_not_mem hl h).symm).trans hu

/-- A quire that has been idle long enough parks its leaves. -/
theorem quirePark_parks {q : Fin 1024} {s : State} {since : Nat} (hon : s.setting 0x5001 0 ≠ 0) (hstop : s.stopping = false)
    (htrained : (s.sup (stackOf q.val)).trained = true) (hidle : s.quireIdle q.val = true)
    (hsince : Tab.find? s.idle q.val = some since) (hlong : since + s.setting 0x5001 0 * 1000 ≤ s.now) :
    exec (.quirePark q) s = .next ((s.parkLeaves q.val).foldl State.parkLeaf s) := by
  show execQuirePark q s = _
  unfold execQuirePark
  dsimp only
  rw [if_neg (by simp [hon, hstop, htrained, hidle, hsince, hlong])]

/-! ## Self-refresh (R148, R149, R330, R405) -/

/-- A stack's clock as the stack falls asleep with its PLL in standby (R149). -/
def StackClk.slept (c : StackClk) (at_ : Nat) : StackClk :=
  { c with asleep := true, asleepAt := at_, waking := false, pll := .standby }

/-- A stack awake outside a frequency switch falls asleep with the last of its trained channels. -/
theorem State.settleSleep_sck {s : State} {k : Nat} (ha : (s.sck k).asleep = false) (hsw : (s.sck k).switching = false) :
    (s.settleSleep k).sck k = if ∀ x ∈ s.upChans k, x ∈ (s.sck k).sr then (s.sck k).slept s.clk.ticks else s.sck k := by
  have hall : ((s.upChans k).all (fun x => (s.sck k).sr.contains x) && !(s.sck k).asleep) = true ↔
      ∀ x ∈ s.upChans k, x ∈ (s.sck k).sr := by simp [ha]
  unfold State.settleSleep
  dsimp only
  by_cases h : ∀ x ∈ s.upChans k, x ∈ (s.sck k).sr
  · rw [if_pos (hall.mpr h), if_pos h, State.setSck_sck_self, hsw]
    rfl
  · rw [if_neg (mt hall.mp h), if_neg h]

theorem State.closeChannels_kept (s : State) (k : Nat) (cs : List Nat) : Kept false false 0x400 s
    (cs.foldl (fun s c => (s.closeBanks (k * 64 + 2 * c)).closeBanks (k * 64 + 2 * c + 1)) s) :=
  Kept.foldl (fun _ _ h => State.closeBanks_kept (by decide) (State.closeBanks_kept (by decide) h _) _) cs s (.refl s)

/-- One more channel of a stack awake enters self-refresh, and the stack sleeps with its last trained one. -/
theorem State.enterSR_one {s : State} {k c : Nat} (hc : c ∉ (s.sck k).sr) (ha : (s.sck k).asleep = false)
    (hsw : (s.sck k).switching = false) : (s.enterSR k [c]).sck k =
      if ∀ x ∈ s.upChans k, x ∈ (s.sck k).sr ++ [c] then { s.sck k with sr := (s.sck k).sr ++ [c] }.slept s.clk.ticks
      else { s.sck k with sr := (s.sck k).sr ++ [c] } := by
  have hk := s.closeChannels_kept k [c]
  unfold State.enterSR
  dsimp only
  generalize [c].foldl _ s = u at hk ⊢
  have hnew : [c].filter (fun x => !(s.sck k).sr.contains x) = [c] := by simp [hc]
  rw [State.sck_congr (hk.same .sclk), hnew, State.settleSleep_sck] <;> rw [State.setSck_sck_self]
  · rw [show (u.setSck k { s.sck k with sr := (s.sck k).sr ++ [c] }).upChans k = s.upChans k from
      State.upChans_congr (hk.same .supply) (hk.same .chans) k]
    rw [show (u.setSck k { s.sck k with sr := (s.sck k).sr ++ [c] }).clk = s.clk from hk.same .clk]
  · exact ha
  · exact hsw

theorem State.enterSR_leaves (s : State) (k : Nat) (cs : List Nat) : (s.enterSR k cs).leaves =
    (cs.foldl (fun s c => (s.closeBanks (k * 64 + 2 * c)).closeBanks (k * 64 + 2 * c + 1)) s).leaves :=
  (State.settleSleep_kept (by decide) (State.setSck_kept (w := 0x4000) (by decide) (.refl _) _ _) k).same .leaves

/-- What lets a channel into self-refresh: it is one of its stack's trained channels, the stack awake and outside a frequency
switch, and its leaves hold nothing; and its leaves are parked and quiet, or its stack tripped. -/
structure State.MayRest (s : State) (c : Nat) : Prop where
  trained : (s.sup (c / 32)).trained = true
  up : (s.upChans (c / 32)).contains (c % 32) = true
  locked : (s.sck (c / 32)).pll = .locked
  steady : (s.sck (c / 32)).switching = false
  awake : (s.sck (c / 32)).asleep = false
  active : (s.sck (c / 32)).sr.contains (c % 32) = false
  drained : ∀ l, l / 2 = c → (s.leaf l).queue = [] ∧ (s.leaf l).inflight = [] ∧ (s.care l).merge = []
  due : (s.heatOf (c / 32)).st = .tripped ∨ (∀ l, l / 2 = c → (s.leaf l).parked = true ∧ s.refreshQuiet l = true) ∧
    (s.chan c).gap = false ∧ s.retraining c = false ∧ s.setting 0x5002 (c / 32) ≠ 0 ∧ s.stopping = false

theorem selfRefreshEntry_enters {c : Fin 512} {s : State} (h : s.MayRest c.val) :
    exec (.selfRefreshEntry c) s = .next (s.enterSR (c.val / 32) [c.val % 32]) := by
  obtain ⟨htrained, hup, hlocked, hsteady, hawake, hactive, hdrained, hdue⟩ := h
  obtain ⟨hq0, hf0, hm0⟩ := hdrained (2 * c.val) (by omega)
  obtain ⟨hq1, hf1, hm1⟩ := hdrained (2 * c.val + 1) (by omega)
  show execSelfRefreshEntry c s = _
  unfold execSelfRefreshEntry
  dsimp only
  rw [if_neg, if_neg (by simp [hm0, hm1])]
  obtain htrip | ⟨hquiet, hgap, hretrain, hon, hstop⟩ := hdue
  · simp only [htrained, hup, hlocked, hsteady, hawake, hactive, htrip, hq0, hf0, hq1, hf1, List.all_cons, List.all_nil]
    simp
  · obtain ⟨hp0, hr0⟩ := hquiet (2 * c.val) (by omega)
    obtain ⟨hp1, hr1⟩ := hquiet (2 * c.val + 1) (by omega)
    simp only [htrained, hup, hlocked, hsteady, hawake, hactive, hq0, hf0, hq1, hf1, hp0, hr0, hp1, hr1, hgap, hretrain, hstop,
      Nat.pos_of_ne_zero hon, List.all_cons, List.all_nil]
    simp

/-- The channel's banks close, and its stack sleeps with its last trained channel. -/
theorem selfRefreshEntry_rests {c : Fin 512} {s : State} (h : s.MayRest c.val) : Completes (.selfRefreshEntry c) s fun t =>
    (t.sck (c.val / 32)).sr = (s.sck (c.val / 32)).sr ++ [c.val % 32] ∧
      t.leaves = ((s.closeBanks (2 * c.val)).closeBanks (2 * c.val + 1)).leaves ∧
      ((t.sck (c.val / 32)).asleep = true ↔ ∀ x ∈ s.upChans (c.val / 32), x = c.val % 32 ∨ x ∈ (s.sck (c.val / 32)).sr) ∧
      ((t.sck (c.val / 32)).asleep = true → (t.sck (c.val / 32)).pll = .standby ∧
        (t.sck (c.val / 32)).asleepAt = s.clk.ticks) := by
  have hsck := State.enterSR_one (k := c.val / 32) (c := c.val % 32) (by simpa using h.active) h.awake h.steady
  have hall : (∀ x ∈ s.upChans (c.val / 32), x ∈ (s.sck (c.val / 32)).sr ++ [c.val % 32]) ↔
      ∀ x ∈ s.upChans (c.val / 32), x = c.val % 32 ∨ x ∈ (s.sck (c.val / 32)).sr := by simp [or_comm]
  refine ⟨_, selfRefreshEntry_enters h, ?_, ?_, ?_⟩
  · rw [hsck]
    split <;> rfl
  · rw [State.enterSR_leaves, List.foldl_cons, List.foldl_nil,
      show c.val / 32 * 64 + 2 * (c.val % 32) = 2 * c.val by omega]
  · rw [hsck]
    split
    · next hlast => exact ⟨⟨fun _ => hall.mp hlast, fun _ => rfl⟩, fun _ => ⟨rfl, rfl⟩⟩
    · next hlast =>
      have hawake : { s.sck (c.val / 32) with sr := (s.sck (c.val / 32)).sr ++ [c.val % 32] }.asleep = false := h.awake
      rw [hawake]
      exact ⟨⟨fun e => (nomatch e), fun e => absurd (hall.mpr e) hlast⟩, fun e => (nomatch e)⟩

/-! ## Gating (R144, R145, R149) -/

theorem domainGateOff_gates {k : Fin 16} {s : State} (ha : (s.sck k.val).asleep = true) (hw : (s.sck k.val).waking = false)
    (hd : (s.sck k.val).doms ≠ 0) (hstop : s.stopping = false) (hmode : s.setting 0x5002 k.val = 2)
    (hph : (s.sck k.val).phase = .none)
    (hdrained : ∀ x ∈ s.leaves, x.1 / 64 = k.val → x.2.queue = [] ∧ x.2.inflight = [])
    (hlong : (s.sck k.val).asleepAt + s.setting 0x5003 k.val * 1000 ≤ s.clk.ticks) :
    exec (.domainGateOff k) s = .next (s.gateOff k.val) := by
  have hall : (s.leaves.all fun x => x.1 / 64 != k.val || (x.2.queue.isEmpty && x.2.inflight.isEmpty)) = true := by
    refine List.all_eq_true.mpr fun x hx => ?_
    by_cases hxk : x.1 / 64 = k.val
    · obtain ⟨hq, hf⟩ := hdrained x hx hxk
      simp [hq, hf]
    · simp [hxk]
  show execDomainGateOff k s = _
  unfold execDomainGateOff
  dsimp only
  rw [hall, if_pos (by simp [ha, hw, hd, hstop, hmode, hph, hlong])]

/-- A stack whose domains are off counts the ageing that is due, and no row counter falls (R145). -/
theorem State.ageDue_gated {s : State} {k : Nat} (h : (s.sck k).doms = 0) :
    ((s.ageDue k none).sck k).missed = (s.sck k).missed + s.agesDue k ∧ (s.ageDue k none).prots = s.prots := by
  by_cases h0 : s.agesDue k = 0
  · have hsame : s.ageDue k none = s := by
      unfold State.ageDue
      rw [h0]
      rfl
    rw [hsame, h0]
    exact ⟨rfl, rfl⟩
  · rw [State.ageDue_eq rfl rfl h0, if_pos h]
    refine ⟨?_, rfl⟩
    rw [State.setSck_sck_self]
    exact if_pos h

theorem State.allDoms_congr {s t : State} (h : t.supply = s.supply) (k : Nat) : t.allDoms k = s.allDoms k := by
  unfold State.allDoms State.hbm4
  rw [State.sup_congr h]

/-- The domains of a stack are on, and its row counters are aged by what was missed (R145). -/
def State.powered (s : State) (k : Nat) : State :=
  (s.setSck k { s.sck k with doms := s.allDoms k, missed := 0 }).ageStack k (s.sck k).missed none

theorem State.powered_sck (s : State) (k : Nat) : (s.powered k).sck k = { s.sck k with doms := s.allDoms k, missed := 0 } :=
  State.setSck_sck_self s k _

theorem State.powered_prots {s t : State} {k n : Nat} (hp : t.prots = s.prots) (hn : (t.sck k).missed = n) :
    (t.powered k).prots = (s.ageStack k n none).prots := by
  unfold State.powered State.ageStack
  rw [State.setSck_prots, hp, hn]

theorem domainPowerGood_powers {k : Fin 16} {s : State} (hw : (s.sck k.val).waking = true) (hd : (s.sck k.val).doms = 0) :
    exec (.domainPowerGood k) s = .next ((s.ageDue k.val none).powered k.val) := by
  show execDomainPowerGood k s = _
  unfold execDomainPowerGood
  rw [if_neg (by simp [hw, hd])]
  rfl

/-! ## The start of QCLK (R120, R138, Table 5.4) -/

/-- The channels that leave self-refresh leave the stack's list, and nothing else of its clock changes. -/
theorem State.exitSR_sck (s : State) (k : Nat) (cs : List Nat) :
    (s.exitSR k cs).sck k = { s.sck k with sr := (s.sck k).sr.filter (fun c => !cs.contains c) } := by
  unfold State.exitSR
  dsimp only
  generalize hu : State.freshRows _ k cs = u
  have hs : u.sclk = s.sclk := by
    rw [← hu]
    refine (State.freshRows_kept (r := false) (b := false) (w := 0x52400) (by decide) (Kept.foldl (fun _ c h =>
      Kept.foldl (fun _ i h => ?_) [0, 1] _ h) cs s (.refl s)) k cs).same .sclk
    exact State.spend_kept (by decide) (State.setArb_kept (by decide) (State.freshBanks_kept (by decide) h _ _ _) _ _) _ _ _ _
  rw [State.setSck_sck_self, State.sck_congr hs]

theorem State.stOf_congr {s t : State} (h : t.supply = s.supply) (k x : Nat) : t.stOf k x = s.stOf k x := by
  unfold State.stOf State.qPer10 State.hbm4
  rw [State.sup_congr h]

/-- A stack's clock as QCLK starts: locked and awake, its time loaded, and no channel in self-refresh. -/
def StackClk.started (c : StackClk) (stc : Nat) : StackClk :=
  { c with pll := .locked, asleep := false, waking := false, stc := stc, sr := [] }

theorem State.startClock_sck (s : State) (k : Nat) : (s.startClock k).sck k = (s.sck k).started (s.stOf k s.now) := by
  have hk : Kept false false 0x7040004 s ((s.chansOf k).foldl State.takeCorr s) :=
    Kept.foldl (fun _ c h => State.takeCorr_kept (by decide) h c) _ s (.refl s)
  unfold State.startClock
  dsimp only
  generalize (s.chansOf k).foldl State.takeCorr s = u at hk ⊢
  have hnow : u.now = s.now := congrArg (fun c : Clock => c.tb / 2 ^ 32) (hk.same .clk)
  rw [State.exitSR_sck, State.setSck_sck_self, State.sck_congr (hk.same .sclk), State.stOf_congr (hk.same .supply), hnow]
  unfold StackClk.started
  simp

theorem pllLocked_starts {k : Fin 16} {s : State} (hw : (s.sck k.val).waking = true) (hd : (s.sck k.val).doms ≠ 0)
    (href : s.clk.refLost = false) (hsw : (s.sck k.val).switching = false)
    (hpll : (s.sck k.val).pll = .locking ∨ (s.sck k.val).pll = .locked) :
    exec (.pllLocked k) s = .next (s.startClock k.val) := by
  show execPllLocked k s = _
  unfold execPllLocked
  dsimp only
  rw [if_neg (by simp [href, hd, hsw]), if_pos (by simpa [hw] using hpll)]

/-- A stack asleep whose PLL locks waits for its next request. -/
theorem pllLocked_waits {k : Fin 16} {s : State} (hw : (s.sck k.val).waking = false) (ha : (s.sck k.val).asleep = true)
    (hd : (s.sck k.val).doms ≠ 0) (href : s.clk.refLost = false) (hsw : (s.sck k.val).switching = false)
    (hpll : (s.sck k.val).pll = .locking) :
    exec (.pllLocked k) s = .next (s.setSck k.val { s.sck k.val with pll := .locked }) := by
  show execPllLocked k s = _
  unfold execPllLocked
  dsimp only
  rw [if_neg (by simp [href, hd, hsw]), if_neg (by simp [hw]), if_pos (by simp [ha, hpll])]

/-- Settles O34, event by event. -/
theorem sleepEventsComplete : Obligations.SleepEventsComplete := by
  unfold Obligations.SleepEventsComplete
  refine ⟨?parks, ?rests, ?gates, ?powers, ?starts, ?waits⟩
  case parks =>
    rintro q s hon hstop htrained hidle ⟨since, hsince, hlong⟩
    exact ⟨_, quirePark_parks hon hstop htrained hidle hsince hlong, s.parkLeaves_parked _, fun l hl => s.parkLeaves_other hl⟩
  case rests =>
    rintro c s k rfl htrained hup hlocked hsteady hawake hactive hdrained hdue
    exact selfRefreshEntry_rests ⟨htrained, hup, hlocked, hsteady, hawake, hactive, hdrained, hdue⟩
  case gates =>
    rintro k s c rfl ha hw hd hstop hmode hph hdrained hlong
    refine ⟨_, domainGateOff_gates ha hw hd hstop hmode hph hdrained hlong, ?_⟩
    unfold State.gateOff
    dsimp only
    rw [State.setSck_sck_self]
    exact ⟨rfl, rfl, rfl, rfl⟩
  case powers =>
    intro k s hw hd
    obtain ⟨hmissed, hprots⟩ := State.ageDue_gated hd
    have hdoms : (s.ageDue k.val none).allDoms k.val = s.allDoms k.val :=
      State.allDoms_congr ((State.ageDue_kept (Nat.or_self _) (.refl s) _ _).same .supply) _
    refine ⟨_, domainPowerGood_powers hw hd, ?_, ?_, State.powered_prots hprots hmissed⟩ <;> rw [State.powered_sck]
    exact hdoms
  case starts =>
    intro k s hw hd href hsw hpll
    refine ⟨_, pllLocked_starts hw hd href hsw hpll, ?_⟩
    beta_reduce
    rw [State.startClock_sck]
    exact ⟨rfl, rfl, rfl, rfl, rfl⟩
  case waits => exact fun k s hw ha hd href hsw hpll => pllLocked_waits hw ha hd href hsw hpll

end Sys2Proof.Machine

/-! # Operating points (R154-R157, R160, R161) -/

namespace Sys2Proof.Machine

/-! ## Wakes leave a stack's point alone -/

/-- What a wake keeps of a stack's clock: its operating point and where its transition stands. -/
structure StackClk.SamePoint (c d : StackClk) : Prop where
  opcur : d.opcur = c.opcur
  optgt : d.optgt = c.optgt
  phase : d.phase = c.phase
  oprb : d.oprb = c.oprb

theorem StackClk.SamePoint.refl (c : StackClk) : c.SamePoint c := ⟨rfl, rfl, rfl, rfl⟩

theorem State.exitSR_samePoint (s : State) (k : Nat) (cs : List Nat) : (s.sck k).SamePoint ((s.exitSR k cs).sck k) := by
  rw [State.exitSR_sck]
  exact ⟨rfl, rfl, rfl, rfl⟩

theorem State.setSck_samePoint (s : State) (k : Nat) {c : StackClk} (h : (s.sck k).SamePoint c) :
    (s.sck k).SamePoint ((s.setSck k c).sck k) := by
  rw [State.setSck_sck_self]
  exact h

theorem State.wakeStack_samePoint (s : State) (k : Nat) : (s.sck k).SamePoint ((s.wakeStack k).sck k) := by
  unfold State.wakeStack
  dsimp only
  split
  · exact .refl _
  · split
    · exact .refl _
    · split
      · split
        · exact s.exitSR_samePoint k _
        · exact .refl _
      · exact s.setSck_samePoint k ⟨rfl, rfl, rfl, rfl⟩

theorem State.rewake_samePoint (s : State) (k : Nat) : (s.sck k).SamePoint ((s.rewake k).sck k) := by
  unfold State.rewake
  split
  · exact s.wakeStack_samePoint k
  · exact .refl _

theorem State.attempt_samePoint (s : State) (k : Nat) : (s.sck k).SamePoint ((s.attempt k).sck k) := by
  unfold State.attempt
  dsimp only
  split
  · exact s.setSck_samePoint k ⟨rfl, rfl, rfl, rfl⟩
  · exact s.rewake_samePoint k

/-! ## The end of a transition (R159, R478) -/

theorem State.opFinish_sck (s : State) (k : Nat) (ok : Bool) : (s.opFinish k ok).sck k =
    { s.sck k with opTickets := [], phase := .none, optgt := (s.sck k).opcur } := by
  refine (State.sck_congr (s := s.setSck k _) ?tickets k).trans (State.setSck_sck_self s k _)
  case tickets =>
    refine (Kept.foldl (r := false) (b := false) (w := 0x7000004) (fun u tk h => ?_) (s.sck k).opTickets _ (.refl _)).same .sclk
    split
    · exact h
    · dsimp only
      split
      · exact State.finishAt_kept (by decide) (.upd_tickets (by decide) h) _ _ _ _
      · exact .upd_tickets (by decide) h

/-- No transition is on at a stack, and its point is p. -/
structure StackClk.Settled (c : StackClk) (p : Nat) : Prop where
  opcur : c.opcur = p
  optgt : c.optgt = p
  phase : c.phase = .none

theorem StackClk.SamePoint.settled {c d : StackClk} {p : Nat} (h : c.SamePoint d) (hc : c.Settled p) : d.Settled p :=
  ⟨h.opcur.trans hc.opcur, h.optgt.trans hc.optgt, h.phase.trans hc.phase⟩

theorem State.opFinish_settled {s : State} {k p : Nat} (ok : Bool) (h : (s.sck k).opcur = p) :
    ((s.opFinish k ok).sck k).Settled p := by
  rw [State.opFinish_sck]
  exact ⟨h, h, rfl⟩

theorem State.opFinish_attempt_settled {s : State} {k p : Nat} (ok : Bool) (h : (s.sck k).opcur = p) :
    (((s.opFinish k ok).attempt k).sck k).Settled p :=
  (State.attempt_samePoint _ k).settled (State.opFinish_settled ok h)

/-! ## The frequency switch (R155) -/

theorem le_foldl_max {α : Type} (f : α → Nat) (l : List α) : ∀ b : Nat,
    b ≤ l.foldl (fun t i => max t (f i)) b ∧ ∀ i ∈ l, f i ≤ l.foldl (fun t i => max t (f i)) b := by
  induction l with
  | nil => exact fun b => ⟨Nat.le_refl b, fun _ h => nomatch h⟩
  | cons a l ih =>
    intro b
    obtain ⟨hb, hl⟩ := ih (max b (f a))
    refine ⟨(Nat.le_max_left _ _).trans hb, fun i hi => ?_⟩
    obtain rfl | hi := List.mem_cons.mp hi
    · exact (Nat.le_max_right _ _).trans hb
    · exact hl i hi

/-- A switch that has started: every channel in self-refresh, the PLL relocking, and no run of the stack ends behind it. -/
theorem State.startSwitch_starts (s : State) (k : Nat) (rb : Bool) :
    ((s.startSwitch k rb).sck k).phase = .switching rb ∧ ((s.startSwitch k rb).sck k).pll = .locking ∧
      ((s.startSwitch k rb).sck k).sr = (s.startSwitch k rb).upChans k ∧
      ∀ i, i < 64 → ((s.startSwitch k rb).leaf (k * 64 + i)).busFree ≤ 120 * ((s.startSwitch k rb).sck k).phaseAt := by
  unfold State.startSwitch
  dsimp only
  generalize (List.range 64).foldl (fun s i => (s.closeAll (k * 64 + i)).closeBanks (k * 64 + i)) s = u
  rw [State.setSck_sck_self]
  refine ⟨rfl, rfl, rfl, fun i hi => ?_⟩
  have hle := (le_foldl_max (fun i => (u.leaf (k * 64 + i)).busFree) (List.range 64) u.now12).2 i (List.mem_range.mpr hi)
  rw [State.setSck_leaf_same]
  dsimp only at hle ⊢
  omega

theorem State.firstEconomy_sck (s : State) (k : Nat) : (s.firstEconomy k).sck k = { s.sck k with ecoDone := true } := by
  unfold State.firstEconomy
  split
  · next h => rw [← h]
  · refine (State.sck_congr (s := s.setSck k _) ?calib k).trans (State.setSck_sck_self s k _)
    refine (Kept.foldl (r := false) (b := false) (w := 0x41000) (fun u c h => ?_) _ _ (.refl _)).same .sclk
    dsimp only
    split
    · exact h
    · exact State.requestRetrain_kept (by decide) (State.setChan_kept (by decide) h _ _) _ _ _

theorem State.heatOf_congr {s t : State} (h : t.heat = s.heat) (k : Nat) : t.heatOf k = s.heatOf k :=
  congrArg (fun x => Tab.get Heat.reset x k) h

/-- How a stack leaves the hold of a frequency switch: it is awake and no channel is in self-refresh, or, where it is tripped,
asleep with its channels up in self-refresh (R161). -/
def StackClk.Resumes (c : StackClk) (st : Throttle) (up : List Nat) : Prop :=
  if st = .tripped then c.asleep = true ∧ c.pll = .standby ∧ c.sr = up else c.asleep = false ∧ c.pll = .locked ∧ c.sr = []

/-- The clock of a stack that has switched to a point. -/
def State.turned (s : State) (k pt : Nat) : State :=
  let u := s.setSck k { s.sck k with opcur := pt, optgt := pt, phase := .rampDown, phaseAt := s.clk.ticks, sr := s.upChans k }
  if pt = 1 then u.firstEconomy k else u

theorem State.turned_kept (s : State) (k pt : Nat) : Kept false false 0x45000 s (s.turned k pt) := by
  have h := State.setSck_kept (r := false) (b := false) (w := 0x45000) (by decide) (.refl s) k
    { s.sck k with opcur := pt, optgt := pt, phase := .rampDown, phaseAt := s.clk.ticks, sr := s.upChans k }
  unfold State.turned
  dsimp only
  split
  · exact State.firstEconomy_kept (by decide) h k
  · exact h

theorem State.turned_sck (s : State) (k pt : Nat) : ((s.turned k pt).sck k).opcur = pt ∧ ((s.turned k pt).sck k).optgt = pt ∧
    ((s.turned k pt).sck k).phase = .rampDown ∧ ((s.turned k pt).sck k).sr = s.upChans k := by
  unfold State.turned
  dsimp only
  split
  · rw [State.firstEconomy_sck, State.setSck_sck_self]
    exact ⟨rfl, rfl, rfl, rfl⟩
  · rw [State.setSck_sck_self]
    exact ⟨rfl, rfl, rfl, rfl⟩

/-- A stack that has switched to a point resumes, or sleeps on where it is tripped. -/
def State.switched (s : State) (k pt : Nat) : State :=
  let u := s.turned k pt
  if (u.heatOf k).st == .tripped then u.setSck k { u.sck k with asleep := true, asleepAt := u.clk.ticks, pll := .standby }
  else u.startClock k

theorem State.switched_sck (s : State) (k pt : Nat) : ((s.switched k pt).sck k).opcur = pt ∧
    ((s.switched k pt).sck k).optgt = pt ∧ ((s.switched k pt).sck k).phase = .rampDown ∧
    ((s.switched k pt).sck k).Resumes (s.heatOf k).st (s.upChans k) := by
  obtain ⟨hcur, htgt, hphase, hsr⟩ := s.turned_sck k pt
  unfold State.switched
  dsimp only
  rw [State.heatOf_congr ((s.turned_kept k pt).same .heat)]
  unfold StackClk.Resumes
  by_cases h : (s.heatOf k).st = .tripped
  · rw [if_pos h, if_pos (by simp [h]), State.setSck_sck_self]
    exact ⟨hcur, htgt, hphase, rfl, rfl, hsr⟩
  · rw [if_neg h, if_neg (by simp [h]), State.startClock_sck]
    exact ⟨hcur, htgt, hphase, rfl, rfl, rfl⟩

/-- A switch to the economy point waits for the rail; any other one ends its transition. -/
theorem frequencySwitchEnd_switches {k : Fin 16} {s : State} {rb : Bool} {pt : Nat} (hph : (s.sck k.val).phase = .switching rb)
    (href : s.clk.refLost = false) (hlong : (s.sck k.val).phaseAt ≤ s.clk.ticks)
    (hpt : pt = if rb then 0 else (s.sck k.val).optgt) : exec (.frequencySwitchEnd k) s =
      .next (if pt = 1 then s.switched k.val pt else (s.switched k.val pt).opFinish k.val (!rb)) := by
  show execFrequencySwitchEnd k s = _
  unfold execFrequencySwitchEnd
  dsimp only
  rw [hph]
  dsimp only
  rw [if_neg (by simpa [href] using hlong), ← hpt]
  cases rb with
  | true =>
    subst hpt
    rfl
  | false => rfl

theorem frequencySwitchEnd_ends {k : Fin 16} {s : State} {rb : Bool} {pt : Nat} (hph : (s.sck k.val).phase = .switching rb)
    (href : s.clk.refLost = false) (hlong : (s.sck k.val).phaseAt ≤ s.clk.ticks)
    (hpt : pt = if rb then 0 else (s.sck k.val).optgt) : Completes (.frequencySwitchEnd k) s fun t =>
      (t.sck k.val).opcur = pt ∧ (t.sck k.val).optgt = pt ∧ (t.sck k.val).phase = (if pt = 1 then .rampDown else .none) ∧
        (t.sck k.val).Resumes (s.heatOf k.val).st (s.upChans k.val) := by
  obtain ⟨hcur, htgt, hphase, hres⟩ := s.switched_sck k.val pt
  refine ⟨_, frequencySwitchEnd_switches hph href hlong hpt, ?_⟩
  by_cases h : pt = 1
  · simp only [if_pos h]
    exact ⟨hcur, htgt, hphase, hres⟩
  · simp only [if_neg h]
    rw [State.opFinish_sck]
    exact ⟨hcur, hcur, rfl, hres⟩

/-! ## The regulator's acknowledge (R154, R156, R160) -/

/-- An injected fault withholds the report (R485). -/
theorem regulatorAck_withheld {k : Fin 16} {s : State} (hph : (s.sck k.val).phase = .rampUp ∨ (s.sck k.val).phase = .rampDown)
    (hw : (s.sck k.val).withholdAck = true) :
    exec (.regulatorAck k) s = .next (s.setSck k.val { s.sck k.val with withholdAck := false }) := by
  show execRegulatorAck k s = _
  unfold execRegulatorAck
  dsimp only
  obtain h | h := hph <;> rw [h] <;> exact if_pos hw

/-- Behind a raise of the rail an awake stack off the nominal point starts its switch. -/
theorem regulatorAck_switches {k : Fin 16} {s : State} {rb : Bool} (hph : (s.sck k.val).phase = if rb then .rollUp else .rampUp)
    (hw : (s.sck k.val).withholdAck = false) (hcur : (s.sck k.val).opcur ≠ 0) (ha : (s.sck k.val).asleep = false) :
    exec (.regulatorAck k) s = .next (s.startSwitch k.val rb) := by
  show execRegulatorAck k s = _
  unfold execRegulatorAck
  dsimp only
  cases rb with
  | true =>
    rw [hph]
    simp [hcur, ha]
  | false =>
    rw [hph]
    simp [hw, hcur, ha]

/-- Behind a raise of the rail a stack that sleeps or is at the nominal point already has its transition ended there. -/
theorem regulatorAck_raised {k : Fin 16} {s : State} (hph : (s.sck k.val).phase = .rampUp ∨ (s.sck k.val).phase = .rollUp)
    (hw : (s.sck k.val).withholdAck = false) (hc : (s.sck k.val).asleep = true ∨ (s.sck k.val).opcur = 0) :
    Completes (.regulatorAck k) s fun t => (t.sck k.val).Settled 0 := by
  have hset : ∀ (c : StackClk) (ok : Bool), c.opcur = 0 →
      ((((s.setSck k.val c).opFinish k.val ok).attempt k.val).sck k.val).Settled 0 :=
    fun c ok hcur => State.opFinish_attempt_settled ok (by rw [State.setSck_sck_self, hcur])
  have hexec : exec (.regulatorAck k) s = execRegulatorAck k s := rfl
  unfold execRegulatorAck at hexec
  dsimp only at hexec
  obtain h | h := hph <;> rw [h] at hexec <;> dsimp only at hexec
  · rw [if_neg (by simp [hw])] at hexec
    split at hexec
    · exact ⟨_, hexec, hset _ true rfl⟩
    · next ha =>
      have hcur := hc.resolve_left ha
      rw [if_pos hcur] at hexec
      exact ⟨_, hexec, State.opFinish_settled true hcur⟩
  · split at hexec
    · next hcur => exact ⟨_, hexec, State.opFinish_attempt_settled false hcur⟩
    · next hcur =>
      rw [if_pos (hc.resolve_right hcur)] at hexec
      exact ⟨_, hexec, hset _ false rfl⟩

/-- Behind a lowering of the rail the transition ends at the point in force. -/
theorem regulatorAck_lowered {k : Fin 16} {s : State} (hph : (s.sck k.val).phase = .rampDown ∨ (s.sck k.val).phase = .rollDown)
    (hw : (s.sck k.val).withholdAck = false) :
    Completes (.regulatorAck k) s fun t => (t.sck k.val).Settled (s.sck k.val).opcur := by
  have hexec : exec (.regulatorAck k) s = execRegulatorAck k s := rfl
  unfold execRegulatorAck at hexec
  dsimp only at hexec
  obtain h | h := hph <;> rw [h] at hexec <;> dsimp only at hexec
  · rw [if_neg (by simp [hw])] at hexec
    exact ⟨_, hexec, State.opFinish_attempt_settled true rfl⟩
  · exact ⟨_, hexec, State.opFinish_attempt_settled false rfl⟩

/-! ## Acknowledges that stay out (R156, R157) -/

/-- A stack's clock as its transition rolls back. -/
def StackClk.rolledBack (c : StackClk) (at_ : Nat) : StackClk :=
  { c with oprb := true, optgt := c.opOld, phaseAt := at_, withholdAck := false, phase := if c.opOld = 0 then .rollUp else .rollDown }

/-- The old point is active again, and the rail goes back to it (R156). -/
def State.rollBack (s : State) (k : Nat) : State :=
  let u := s.note 0x06 1 k [(1, 1)]
  (u.setBank { u.bank with opPoints := Tab.set 0 u.bank.opPoints k (s.sck k).opOld }).setSck k ((s.sck k).rolledBack u.clk.ticks)

theorem regulatorAckTimeout_rollsBack {k : Fin 16} {s : State}
    (hph : (s.sck k.val).phase = .rampUp ∨ (s.sck k.val).phase = .rampDown) (hswap : s.swapDue = false)
    (hlong : (s.sck k.val).phaseAt + us 200 ≤ s.clk.ticks) :
    exec (.regulatorAckTimeout k) s = .next ((s.rollBack k.val).rewake k.val) := by
  show execRegulatorAckTimeout k s = _
  unfold execRegulatorAckTimeout
  dsimp only
  rw [if_neg (by obtain h | h := hph <;> simpa [hswap, h] using hlong)]
  rfl

/-- The stack sleeps and stays asleep (R157). -/
theorem rollbackAckTimeout_fails {k : Fin 16} {s : State}
    (hph : (s.sck k.val).phase = .rollUp ∨ (s.sck k.val).phase = .rollDown)
    (hlong : (s.sck k.val).phaseAt + us 200 ≤ s.clk.ticks) (hoff : (s.sck k.val).pll ≠ .off) :
    Completes (.rollbackAckTimeout k) s fun t => (t.sck k.val).opfail = true ∧ (t.sck k.val).phase = .none ∧
      (t.sck k.val).pll = .standby ∧ ∀ x ∈ s.upChans k.val, x ∈ (t.sck k.val).sr := by
  have hexec : exec (.rollbackAckTimeout k) s = execRollbackAckTimeout k s := rfl
  unfold execRollbackAckTimeout at hexec
  dsimp only at hexec
  rw [if_neg (by obtain h | h := hph <;> simpa [h] using hlong)] at hexec
  obtain ⟨-, hsr, hpll⟩ := (s.note 0x06 1 k.val [(1, 2)]).sleepAll_sck k.val
  rw [State.note_upChans] at hsr
  rw [State.note_sck] at hpll
  refine ⟨_, hexec, ?_⟩
  beta_reduce
  rw [State.opFinish_sck, State.setSck_sck_self]
  exact ⟨rfl, rfl, hpll hoff, hsr⟩

/-- Settles O36, event by event. -/
theorem operatingPointEventsComplete : Obligations.OperatingPointEventsComplete := by
  unfold Obligations.OperatingPointEventsComplete
  refine ⟨?ends, ?withheld, ?switches, ?raised, ?lowered, ?rollsBack, ?fails⟩
  case ends => exact fun k s rb pt hph href hlong hpt => frequencySwitchEnd_ends hph href hlong hpt
  case withheld =>
    rintro k s c rfl hph hw
    exact regulatorAck_withheld hph hw
  case switches =>
    rintro k s c rb rfl hph hw hcur
    cases ha : (s.sck k.val).asleep with
    | true =>
      obtain ⟨t, hexec, h⟩ := regulatorAck_raised (by cases rb <;> simp [hph]) hw (.inl ha)
      exact ⟨t, hexec, h.opcur, h.optgt, h.phase⟩
    | false => exact ⟨_, regulatorAck_switches hph hw hcur ha, s.startSwitch_starts k.val rb⟩
  case raised =>
    rintro k s c rfl hph hw hcur
    obtain ⟨t, hexec, h⟩ := regulatorAck_raised hph hw (.inr hcur)
    exact ⟨t, hexec, h.opcur, h.optgt, h.phase⟩
  case lowered =>
    rintro k s c rfl hph hw
    obtain ⟨t, hexec, h⟩ := regulatorAck_lowered hph hw
    exact ⟨t, hexec, h.opcur, h.optgt, h.phase⟩
  case rollsBack =>
    rintro k s c rfl hph hswap hlong
    have hsck : (s.rollBack k.val).sck k.val = (s.sck k.val).rolledBack _ := State.setSck_sck_self _ k.val _
    have hsame := (s.rollBack k.val).rewake_samePoint k.val
    rw [hsck] at hsame
    refine ⟨_, regulatorAckTimeout_rollsBack hph hswap hlong, hsame.oprb, hsame.optgt, hsame.phase, ?_⟩
    rw [(State.rewake_kept (Nat.or_self _) (.refl (s.rollBack k.val)) k.val).same .bank]
    unfold State.rollBack
    dsimp only
    rw [State.setSck_bank, State.setBank_bank, State.note_bank]
  case fails =>
    rintro k s c rfl hph hlong hoff
    exact rollbackAckTimeout_fails hph hlong hoff

end Sys2Proof.Machine

/-! # Sheet boundaries and the timebase (R139, R217-R222, R229-R232) -/

namespace Sys2Proof.Machine

/-! ## The landing sets (R229, R230) -/

theorem mem_insertBy {α : Type} (le : α → α → Bool) (a x : α) (l : List α) : x ∈ insertBy le a l ↔ x = a ∨ x ∈ l := by
  induction l with
  | nil => simp [insertBy]
  | cons b t ih =>
    unfold insertBy
    split
    · exact List.mem_cons
    · rw [List.mem_cons, ih, List.mem_cons]
      exact or_left_comm

theorem mem_sortBy {α : Type} (le : α → α → Bool) (x : α) (l : List α) : x ∈ sortBy le l ↔ x ∈ l := by
  induction l with
  | nil => rfl
  | cons a t ih =>
    rw [List.mem_cons, ← ih]
    exact mem_insertBy le a x (sortBy le t)

/-- The order of the sets lists each of them. -/
theorem State.mem_inOrder (s : State) (c : ChangeSet) : c ∈ s.inOrder ↔ c ∈ s.sets := by
  unfold State.inOrder
  rw [List.mem_append, mem_sortBy]
  cases h : c.committed <;> simp [h]

theorem State.mem_landing (s : State) (b start : Nat) (c : ChangeSet) : c ∈ s.landing_ b start ↔ c ∈ s.sets ∧
    s.pins.stopped = false ∧ c.committed = true ∧ c.time ≤ b ∧ c.notBefore ≤ start ∧ s.setHeld c = false := by
  unfold State.landing_
  cases s.pins.stopped with
  | true => simp
  | false =>
    rw [if_neg Bool.false_ne_true, List.mem_filter, List.mem_filter, State.mem_inOrder]
    simp [and_assoc]

/-- The landing sets are what the sets, the debug stop and the stacks' transitions say. -/
theorem State.landing_congr {s t : State} (hp : t.pins = s.pins) (hs : t.sets = s.sets) (hc : t.sclk = s.sclk) (b start : Nat) :
    t.landing_ b start = s.landing_ b start := by
  unfold State.landing_ State.inOrder State.setHeld State.sck
  rw [hp, hs, hc]

/-! ## The sheet that begins (R217-R221) -/

/-- The clock once NT_LOCK and NT_TOD are sampled. -/
def Clock.sampled (c : Clock) (nt : NetTime) : Clock :=
  { c with ntLock := nt.lock, ntValid := nt.valid, ntTod := if nt.valid then nt.tod else c.ntTod,
           ntHigh := if (!c.ntLock && nt.lock) || (c.ntLock && !nt.lock) then 0 else c.ntHigh,
           aligned := c.aligned && !(c.ntLock && !nt.lock) }

theorem State.sampleTime_clk (s : State) (nt : NetTime) : (s.sampleTime nt).clk = s.clk.sampled nt := by
  unfold State.sampleTime
  dsimp only
  split
  · exact (State.note_kept (Nat.or_self _) (.refl _) 0x03 0 0 []).same .clk
  · rfl

theorem State.stepTime_clk (s : State) (tod : Nat) :
    (s.stepTime tod).clk = { s.clk with tb := tod * 2 ^ 32, aligned := true, stepped := true } :=
  (State.note_kept (Nat.or_self _) (.refl _) 0x47 0 0 _).same .clk

/-- A lock that has just risen or fallen has not been high for 1 s, and the timebase does not step. -/
theorem State.sampleTime_steps (s : State) (nt : NetTime) : (s.sampleTime nt).stepsAt nt =
    (!s.clk.aligned && nt.lock && s.clk.ntLock && nt.valid && decide (100000000 ≤ s.clk.ntHigh)) := by
  unfold State.stepsAt
  rw [State.sampleTime_clk]
  unfold Clock.sampled
  cases nt.lock <;> cases s.clk.ntLock <;> simp

/-- The timebase as a boundary leaves it. -/
def State.timed (s : State) (nt : NetTime) : State :=
  if (s.sampleTime nt).stepsAt nt then (s.sampleTime nt).stepTime nt.tod else s.sampleTime nt

theorem State.timed_kept (s : State) (nt : NetTime) : Kept false false 0x3060000001 s (s.timed nt) := by
  have h := State.sampleTime_kept (r := false) (b := false) (Nat.or_self _) (.refl s) nt
  unfold State.timed
  split
  · exact State.stepTime_kept (Nat.or_self _) h nt.tod
  · exact h

theorem State.timed_sheetNum (s : State) (nt : NetTime) : (s.timed nt).clk.sheetNum = s.clk.sheetNum := by
  unfold State.timed
  split
  · rw [State.stepTime_clk, State.sampleTime_clk]
    rfl
  · rw [State.sampleTime_clk]
    rfl

/-- The sheet that begins at `start`. -/
def State.begun (s : State) (nt : NetTime) (start : Nat) : State :=
  let u := s.timed nt
  let n := (u.clk.sheetNum + 1) % 2 ^ 48
  { u with clk := { u.clk with sheetNum := n, lsb := n % 256, sheetStart := start, oldGrid := none, defer := u.pins.stopped } }

theorem State.begun_kept (s : State) (nt : NetTime) (start : Nat) : Kept false false 0x3060000001 s (s.begun nt start) :=
  .upd_clk (by decide) (s.timed_kept nt)

/-! ## Go-live (R232) -/

/-- A sheet's number, its low byte, its start and whether it defers its sets, as in an earlier clock. -/
structure Clock.SameSheet (c d : Clock) : Prop where
  num : d.sheetNum = c.sheetNum
  lsb : d.lsb = c.lsb
  start : d.sheetStart = c.sheetStart
  defer : d.defer = c.defer

theorem Clock.SameSheet.trans {c d e : Clock} (h : c.SameSheet d) (g : d.SameSheet e) : c.SameSheet e :=
  ⟨g.num.trans h.num, g.lsb.trans h.lsb, g.start.trans h.start, g.defer.trans h.defer⟩

/-- The records of a set go live in order, each with what goes live beside it. -/
def State.recordsLive (len : Nat) (fin : Banked) (s : State) (c : ChangeSet) : State :=
  c.effective.foldl (fun s i =>
    match s.judged fin i.what with
    | none => s
    | some w => (s.setBank (s.bank.apply len (c.written len s.bank w))).itemLive i s.bank)
    (c.tickets.foldl (fun s tk => s.liveTicket c tk) s)

/-- Behind the records of a set: quires on bad leaves fail, trained stacks come into service, and the commands complete. -/
def State.setEnds (s : State) (c : ChangeSet) : State :=
  let s := c.items.foldl (fun s i => match i.what with
    | .quireNew b q => if (s.membersOf b q.qk).any s.leafBad then s.failQuire b else s
    | _ => s) s
  let s := c.trains.foldl (fun s k => if (s.sup k).training then s.stackUp k else s) s
  let s := c.tickets.foldl (fun s tk => s.ticketLive c tk) s
  s.finishAt c.commitTicket stOk s.clk.sheetNum (leBytes 8 s.clk.sheetStart)

theorem State.setLive_eq (len : Nat) (fin : Banked) (s : State) (c : ChangeSet) :
    State.setLive len fin s c = ({ (s.recordsLive len fin c).setEnds c with
      clk := { ((s.recordsLive len fin c).setEnds c).clk with live := true } } : State).cntG 15 1 := rfl

theorem State.recordsLive_kept (len : Nat) (fin : Banked) (s : State) (c : ChangeSet) :
    Kept false true 0x30f75f77ec s (s.recordsLive len fin c) := by
  refine Kept.foldl (fun u i h => ?_) _ _ (Kept.foldl (fun u tk h => State.liveTicket_kept (by decide) h _ _) _ _ (.refl s))
  split
  · exact h
  · exact State.itemLive_kept (by decide) (State.setBank_kept (by decide) h nofun) _ _

theorem State.setEnds_kept (s : State) (c : ChangeSet) : Kept false false 0x306747442c s (s.setEnds c) := by
  refine State.finishAt_kept (by decide) (Kept.foldl (fun u tk h => State.ticketLive_kept (by decide) h _ _) _ _
    (Kept.foldl (fun u k h => ?trained) _ _ (Kept.foldl (fun u i h => ?quire) _ _ (.refl s)))) _ _ _ _
  case trained =>
    split
    · exact State.stackUp_kept (by decide) h _
    · exact h
  case quire =>
    split
    · split
      · exact State.failQuire_kept (by decide) h _
      · exact h
    · exact h

/-- Of the clock a set that goes live sets LIVE alone. -/
theorem State.setLive_clk (len : Nat) (fin : Banked) (s : State) (c : ChangeSet) :
    (State.setLive len fin s c).clk = { s.clk with live := true } := by
  have hclk : ((s.recordsLive len fin c).setEnds c).clk = s.clk :=
    ((State.setEnds_kept _ c).same .clk).trans ((s.recordsLive_kept len fin c).frame .clk (by decide))
  rw [State.setLive_eq, ← hclk]
  rfl

theorem State.setsLive_sameSheet (len : Nat) (fin : Banked) (cs : List ChangeSet) : ∀ s : State,
    s.clk.SameSheet (cs.foldl (State.setLive len fin) s).clk := by
  induction cs with
  | nil => exact fun s => ⟨rfl, rfl, rfl, rfl⟩
  | cons c cs ih =>
    intro s
    refine Clock.SameSheet.trans ?_ (ih _)
    rw [State.setLive_clk]
    exact ⟨rfl, rfl, rfl, rfl⟩

/-- The landing sets leave the list, what is due of ageing takes place, and they go live in order. -/
def State.landed (s : State) (cs : List ChangeSet) : State :=
  let u := { s with sets := s.sets.filter (fun c => !cs.contains c) }
  let len := cs.foldl (fun n c => c.sheetNs n) u.bank.sheetNs
  let u := (cs.flatMap ChangeSet.ages).foldl (fun s k => s.ageDue k none) u
  cs.foldl (State.setLive len (u.finished len cs)) u

theorem State.agesDue_kept (ks : List Nat) (s : State) :
    Kept false false 0x4800 s (ks.foldl (fun s k => s.ageDue k none) s) :=
  Kept.foldl (fun _ k h => State.ageDue_kept (by decide) h k none) ks s (.refl s)

theorem State.landed_sameSheet (s : State) (cs : List ChangeSet) : s.clk.SameSheet (s.landed cs).clk := by
  have h := State.agesDue_kept (cs.flatMap ChangeSet.ages) { s with sets := s.sets.filter (fun c => !cs.contains c) }
  have hclk : _ = s.clk := h.same .clk
  rw [← hclk]
  exact State.setsLive_sameSheet _ _ cs _

/-- No landing set adds to the list or takes another one out of it. -/
theorem State.landed_sets (s : State) (cs : List ChangeSet) : (s.landed cs).sets = s.sets.filter (fun c => !cs.contains c) :=
  (Kept.foldl (r := false) (b := true) (w := 0x30f75f77ed) (fun _ c h => State.setLive_kept (Nat.or_self _) h _ _ c) cs _
    (.refl _)).frame .sets (by decide) |>.trans ((State.agesDue_kept _ _).same .sets)

/-! ## The boundary -/

/-- What a swap changes beside the records. -/
def State.swapEnds (s : State) (old : Banked) (oldLen : Nat) (named : List Nat) : State :=
  (((s.flowsLeave old).profileMarkers old named).gateCuts oldLen).ownerPass.mirrorOwner.trackerLogs.settleTenants

theorem State.swapEnds_kept (s : State) (old : Banked) (oldLen : Nat) (named : List Nat) :
    Kept false false 0x307718100c s (s.swapEnds old oldLen named) :=
  State.settleTenants_kept (by decide) <| State.trackerLogs_kept (by decide) <| State.mirrorOwner_kept (by decide) <|
    State.ownerPass_kept (by decide) <| State.gateCuts_kept (by decide) (State.profileMarkers_kept (by decide)
      (State.flowsLeave_kept (by decide) (.refl s) old) old named) oldLen

/-- A boundary that is due: the sheet begins and the landing sets go live. The rest of the swap leaves the sheet, the sets and
the records to them. -/
theorem sheetBoundary_swaps {nt : NetTime} {s u : State} {start : Nat} (hp : s.pins.porst = false) (hb : s.nextBoundary ≤ s.now)
    (hstart : start = if (s.sampleTime nt).stepsAt nt then nt.tod else s.nextBoundary)
    (hu : u = (s.begun nt start).landed (s.landing_ s.nextBoundary start)) : Completes (.sheetBoundary nt) s fun t =>
      u.clk.SameSheet t.clk ∧ t.sets = u.sets ∧ SameRecords u.bank t.bank := by
  have hk := s.begun_kept nt start
  have hexec : exec (.sheetBoundary nt) s = execSheetBoundary nt s := rfl
  unfold execSheetBoundary at hexec
  rw [if_neg (by simpa [hp] using hb)] at hexec
  obtain ⟨trans, oldLen, named, hexec⟩ : ∃ trans oldLen named, exec (.sheetBoundary nt) s = .next (State.swapEnds
      { (s.begun nt start).landed ((s.begun nt start).landing_ s.nextBoundary start) with
        clk := { ((s.begun nt start).landed ((s.begun nt start).landing_ s.nextBoundary start)).clk with trans := trans } }
      s.bank oldLen named) := by
    subst hstart
    exact ⟨_, _, _, hexec⟩
  rw [State.landing_congr (hk.same .pins) (hk.same .sets) (hk.same .sclk), ← hu] at hexec
  have hend := State.swapEnds_kept { u with clk := { u.clk with trans := trans } } s.bank oldLen named
  refine ⟨_, hexec, ?_, hend.same .sets, hend.bank rfl⟩
  rw [show _ = _ from hend.same .clk]
  exact ⟨rfl, rfl, rfl, rfl⟩

theorem sheetBoundary_advances {nt : NetTime} {s : State} {start : Nat} (hp : s.pins.porst = false) (hb : s.nextBoundary ≤ s.now)
    (hstart : start = if (s.sampleTime nt).stepsAt nt then nt.tod else s.nextBoundary) : Completes (.sheetBoundary nt) s fun t =>
      t.clk.sheetNum = (s.clk.sheetNum + 1) % 2 ^ 48 ∧ t.clk.lsb = t.clk.sheetNum % 256 ∧ t.clk.sheetStart = start ∧
        t.clk.defer = s.pins.stopped ∧ t.sets = s.sets.filter (fun c => !(s.landing_ s.nextBoundary start).contains c) := by
  obtain ⟨t, hexec, hswap, hsets, -⟩ := sheetBoundary_swaps hp hb hstart rfl
  have hsame := ((s.begun nt start).landed_sameSheet (s.landing_ s.nextBoundary start)).trans hswap
  have hnum : (s.begun nt start).clk.sheetNum = (s.clk.sheetNum + 1) % 2 ^ 48 := by
    rw [← s.timed_sheetNum nt]
    rfl
  refine ⟨t, hexec, hsame.num.trans hnum, ?_, hsame.start, ?_, ?_⟩
  · rw [hsame.lsb, hsame.num]
    rfl
  · exact hsame.defer.trans (congrArg Pins.stopped ((s.timed_kept nt).same .pins))
  · rw [hsets, State.landed_sets, show _ = _ from (s.begun_kept nt start).same .sets]

/-! ## A setting that goes live (R222, R232) -/

theorem ChangeSet.effective_single {c : ChangeSet} {i : Item} (h : c.items = [i]) : c.effective = [i] := by
  have hordered : c.ordered = [i] := by
    unfold ChangeSet.ordered
    rw [h]
    cases i with
    | mk w tk => cases w <;> rfl
  unfold ChangeSet.effective
  rw [hordered]
  rfl

theorem ChangeSet.written_setting (c : ChangeSet) (len : Nat) (b : Banked) (code inst v : Nat) :
    c.written len b (.setting code inst v) = .setting code inst v := by
  unfold ChangeSet.written
  split <;> rfl

theorem State.recordsLive_setting (len : Nat) (fin : Banked) (s : State) {c : ChangeSet} {code inst v tk : Nat}
    (h : c.items = [⟨.setting code inst v, tk⟩]) :
    SameRecords (s.bank.apply len (.setting code inst v)) (s.recordsLive len fin c).bank := by
  have hu : (c.tickets.foldl (fun s tk => s.liveTicket c tk) s).bank = s.bank :=
    (Kept.foldl (r := false) (b := false) (fun _ tk h => State.liveTicket_kept (Nat.or_self _) h c tk) c.tickets s
      (.refl s)).same .bank
  unfold State.recordsLive
  generalize c.tickets.foldl (fun s tk => s.liveTicket c tk) s = u at hu
  rw [ChangeSet.effective_single h, ← hu]
  show SameRecords _ ((u.setBank (u.bank.apply len (c.written len u.bank (.setting code inst v)))).itemLive _ u.bank).bank
  rw [c.written_setting]
  exact (State.itemLive_kept (r := false) (Nat.or_self _) (.refl (u.setBank _)) _ u.bank).bank rfl

/-- A set of one setting that goes live leaves the active records with that setting. -/
theorem State.setLive_setting (len : Nat) (fin : Banked) {s : State} {b : Banked} (hb : s.bank = b) {c : ChangeSet}
    {code inst v tk : Nat} (h : c.items = [⟨.setting code inst v, tk⟩]) :
    SameRecords (b.apply len (.setting code inst v)) (State.setLive len fin s c).bank := by
  subst hb
  exact (s.recordsLive_setting len fin h).trans ((State.setEnds_kept _ c).bank rfl)

theorem State.landed_setting (s : State) {c : ChangeSet} {code inst v tk : Nat}
    (h : c.items = [⟨.setting code inst v, tk⟩]) : ∃ len, SameRecords (s.bank.apply len (.setting code inst v)) (s.landed [c]).bank := by
  have hages := State.agesDue_kept ([c].flatMap ChangeSet.ages) { s with sets := s.sets.filter (fun x => !([c].contains x)) }
  unfold State.landed
  dsimp only
  rw [List.foldl_cons (l := []), List.foldl_nil]
  exact ⟨_, State.setLive_setting _ _ (hages.same .bank) h⟩

/-- A boundary's only set, of one setting, leaves the active records with that setting. -/
theorem sheetBoundary_sets {nt : NetTime} {s : State} {c : ChangeSet} {code inst v tk : Nat} (hp : s.pins.porst = false)
    (hb : s.nextBoundary ≤ s.now) (hal : s.clk.aligned = true) (hland : s.landing_ s.nextBoundary s.nextBoundary = [c])
    (hc : c.items = [⟨.setting code inst v, tk⟩]) : ∃ (t : State) (len : Nat), exec (.sheetBoundary nt) s = .next t ∧
      SameRecords (s.bank.apply len (.setting code inst v)) t.bank := by
  obtain ⟨t, hexec, -, -, hrec⟩ := sheetBoundary_swaps (nt := nt) (start := s.nextBoundary) hp hb
    (by rw [State.sampleTime_steps, hal]; rfl) rfl
  obtain ⟨len, hlive⟩ := (s.begun nt s.nextBoundary).landed_setting hc
  rw [show _ = _ from (s.begun_kept nt s.nextBoundary).same .bank] at hlive
  rw [hland] at hrec
  exact ⟨t, len, hexec, hlive.trans hrec⟩

/-- Settles O37: a boundary by the stages of its swap. -/
theorem sheetEventsComplete : Obligations.SheetEventsComplete := by
  unfold Obligations.SheetEventsComplete
  refine ⟨?advances, ?setting, ?off⟩
  case advances =>
    rintro nt s b start rfl hp hb hstart
    rw [← State.sampleTime_steps] at hstart
    obtain ⟨t, hexec, hnum, hlsb, hst, hdefer, hsets⟩ := sheetBoundary_advances hp hb hstart
    refine ⟨t, hexec, hnum, hlsb, hst, hdefer, fun c hc => ?_⟩
    have hland := s.mem_landing s.nextBoundary start c
    rw [hsets, List.mem_filter, Bool.not_eq_true', ← Bool.not_eq_true, List.contains_iff_mem, hland]
    simp only [hc, true_and]
  case setting =>
    intro nt s c code inst v tk hp hb hal hland hc
    obtain ⟨t, len, hexec, hrec⟩ := sheetBoundary_sets hp hb hal hland hc
    exact ⟨t, hexec, hrec.settings, hrec.windows, hrec.regions, hrec.tints, hrec.policers, hrec.gates⟩
  case off =>
    rintro nt s err hal hlock hvalid rfl hoff
    show execTimebaseErrorLimit nt s = _
    unfold execTimebaseErrorLimit
    dsimp only
    rw [hal, hlock, hvalid, if_pos]
    simpa using hoff

end Sys2Proof.Machine

/-! # Commands that stage lists (R201, R306, R390, R466, R478) -/

namespace Sys2Proof.Machine

/-! ## A command whose own ticket stands when its items join -/

/-- Items that join the set of their ticket's page are all that a staging answer adds, but for pages, tickets, counts and
queues. -/
theorem State.settle_staged {s u v : State} {tk : Nat} {k : Ticket} {items : List (Staged × Nat)} (r : List Nat)
    (hk : Tab.find? v.tickets tk = some k) (hu : v.join k.page tk items = .inl u) :
    Kept false false 0x27000204 u (s.settle tk (.staged items r v)) := by
  unfold State.settle
  dsimp only
  rw [hk]
  dsimp only
  rw [hu]
  exact .ite (Kept.upd_tickets (by decide) (.refl u))
    (State.complete_kept (by decide) (Kept.upd_tickets (by decide) (.refl u)) _ _ _ _ _ _)

/-- An accepted command whose body stages items behind its checks, its ticket still one of its page: they end the page's open
set, and all else is as the body left it but for pages, tickets, counts and queues. -/
theorem State.accepts_stages {s v : State} {i : Instr} {c : Cmd} {m : MailRow} {items : List (Staged × Nat)} {r : List Nat}
    {k : Ticket} (hi : i.mail = some m) (he : exec i s = s.serve m.page m.op m.sub m.body) (h : s.accepts i c)
    (hb : m.body c s.nextId (s.taken m c) = .staged items r v) (hk : Tab.find? v.tickets s.nextId = some k)
    (hp : k.page = m.page) :
    ∃ t, exec i s = .next t ∧ t.hasStaged m.page s.nextId (items.map Prod.fst) ∧ Kept false false 0x27000214 v t := by
  obtain ⟨_, _, hx⟩ := s.accepts_exec hi he h
  obtain ⟨u, hu⟩ := s.accepts_joins hi h hb
  rw [hb] at hx
  have hrest := State.skipUnknown_kept 1024 (by decide) (State.queueService_kept (by decide)
    (State.settle_staged (s := s.taken m c) r hk (hp ▸ hu)) m.page)
  exact ⟨_, hx, State.hasStaged_congr (hrest.same .sets) (State.join_hasStaged hu),
    Kept.more (d := 0x27000204) (by decide) (State.join_kept (by decide) (.refl v) hu) hrest⟩

/-- A row whose checks come before the items it stages, and that leaves the tickets alone. -/
theorem State.accepts_chain_staged {s v : State} {i : Instr} {c : Cmd} {m : MailRow} {items : List (Staged × Nat)}
    {r : List Nat} {l : List (Bool × Nat × Nat × Nat)} (hi : i.mail = some m)
    (he : exec i s = s.serve m.page m.op m.sub m.body) (h : s.accepts i c)
    (hb : m.body c s.nextId (s.taken m c) = chain l (.staged items r v)) (ht : v.tickets = (s.taken m c).tickets) :
    l.find? (fun x => x.1) = none ∧
      ∃ t, exec i s = .next t ∧ t.hasStaged m.page s.nextId (items.map Prod.fst) ∧ Kept false false 0x27000214 v t := by
  obtain ⟨_, hok, _⟩ := s.accepts_exec hi he h
  rw [hb] at hok
  obtain ⟨hnext, hchecks⟩ := chain_succeeds hok
  exact ⟨hchecks, s.accepts_staged hi he h (hb.trans hnext) ht⟩

/-! ## GATE_SET (R201, Table 7.3) -/

/-- The gate list of a GATE_SET: its header, and the entries of its bulk area. -/
def Cmd.gateEntry (c : Cmd) (n : Nat) : Nat := ofLe ((c.bulk.drop (8 * n)).take 8)
def Cmd.gateList (c : Cmd) : GateList :=
  { guard := fld (c.record 4) 7 14, follow := bitAt (c.record 4) 21,
    entries := ((List.range (fld (c.record 4) 0 7)).map c.gateEntry).map (fun e => ⟨fld e 0 16, fld e 16 24⟩) }

theorem Cmd.gateList_length (c : Cmd) : c.gateList.entries.length = fld (c.record 4) 0 7 := by
  simp [Cmd.gateList]

theorem Cmd.gateList_getElem? (c : Cmd) {n : Nat} (h : n < c.gateList.entries.length) :
    c.gateList.entries[n]? = some ⟨fld (c.gateEntry n) 0 16, fld (c.gateEntry n) 16 24⟩ := by
  rw [c.gateList_length] at h
  simp [Cmd.gateList, h]

theorem gateSet_stages {p : Fin 521} {s : State} {c : Cmd} (h : s.accepts (.gateSet p) c) :
    Completes (.gateSet p) s fun t => t.bank = s.bank ∧ t.hasStaged p.val s.nextId [.gate c.index c.gateList] := by
  obtain ⟨_, t, ht, hst, hk⟩ := s.accepts_chain_staged (i := .gateSet p) rfl rfl h rfl rfl
  exact ⟨t, ht, hk.same .bank, hst⟩

/-! ## WM_ARM (R306) -/

/-- The arming that a WM_ARM may write: the one it names, or one that is free. -/
structure State.Armable (s : State) (c : Cmd) (n : Nat) : Prop where
  named : c.index ≠ 0xFFFF → n = c.index
  range : c.index = 0xFFFF → n < 16
  free : c.index = 0xFFFF → s.armFree s.pendingBank n = true

theorem wmArmBody_staged {c : Cmd} {tk : Nat} {s : State} (h : (wmArmBody c tk s).succeeds) : ∃ n r, s.Armable c n ∧
    wmArmBody c tk s = .staged [(.arming n (Arming.ofBits (c.record 24)), 0)] r s := by
  unfold wmArmBody at h ⊢
  dsimp only at h ⊢
  obtain ⟨hnext, hchecks⟩ := chain_succeeds h
  simp only [List.find?_eq_none, List.forall_mem_cons] at hchecks
  obtain ⟨_, _, _, _, _, _, _, hfound, _⟩ := hchecks
  rw [hnext]
  by_cases hi : c.index = 0xFFFF
  · simp only [hi, decide_true, Bool.true_and, if_true, Option.isNone_iff_eq_none] at hfound ⊢
    obtain ⟨n, hf⟩ := Option.ne_none_iff_exists'.mp hfound
    have hn := List.find?_some hf
    simp only [Bool.and_eq_true] at hn
    rw [hf]
    exact ⟨n, _, ⟨fun h => absurd hi h, fun _ => List.mem_range.mp (List.mem_of_find?_eq_some hf), fun _ => hn.1⟩, rfl⟩
  · rw [if_neg hi]
    exact ⟨_, _, ⟨fun _ => rfl, fun h => absurd h hi, fun h => absurd h hi⟩, rfl⟩

theorem wmArm_stages {p : Fin 521} {s : State} {c : Cmd} (h : s.accepts (.wmArm p) c) :
    Completes (.wmArm p) s fun t => t.bank = s.bank ∧
      ∃ n, s.Armable c n ∧ t.hasStaged p.val s.nextId [.arming n (Arming.ofBits (c.record 24))] := by
  have hm : (Instr.wmArm p).mail = some ⟨p.val, 0x35, anySub, wmArmBody⟩ := rfl
  obtain ⟨_, hok, _⟩ := s.accepts_exec hm rfl h
  obtain ⟨n, r, ha, hb⟩ := wmArmBody_staged (tk := s.nextId) hok
  obtain ⟨t, ht, hst, hk⟩ := s.accepts_staged hm rfl h hb rfl
  exact ⟨t, ht, hk.same .bank, n, ⟨ha.named, ha.range, ha.free⟩, hst⟩

/-! ## OPPOINT_SET (R478) and settings lists (R466-R468) -/

theorem oppointSet_stages {p : Fin 521} {s : State} {c : Cmd} (h : s.accepts (.oppointSet p) c) :
    Completes (.oppointSet p) s fun t => t.bank = s.bank ∧ t.hasStaged p.val s.nextId
      (((List.range 16).filter (bitAt (c.le 0 2))).map (fun k => .opPoint k (c.b 2))) := by
  obtain ⟨_, t, ht, hst, hk⟩ := s.accepts_chain_staged (i := .oppointSet p) rfl rfl h rfl rfl
  rw [List.map_map] at hst
  exact ⟨t, ht, hk.same .bank, hst⟩

/-- The items of a settings list, each with the ARGPOS of its entry. -/
def Cmd.settingItems (c : Cmd) : List (Staged × Nat) :=
  c.settings.zipIdx.flatMap (fun (e, i) => (entryItems e).map (fun w => (w, 0x8000 + i)))

theorem Cmd.settingItems_fst (c : Cmd) : c.settingItems.map Prod.fst = c.settings.flatMap entryItems := by
  have hentries : c.settings.flatMap entryItems = (c.settings.zipIdx.map Prod.fst).flatMap entryItems := by
    rw [List.zipIdx_map_fst]
  rw [hentries, List.flatMap_map]
  unfold Cmd.settingItems
  simp only [List.map_flatMap, List.map_map, Function.comp_def, List.map_id']

theorem settings_stage {i : Instr} {p op : Nat} {s : State} {c : Cmd} (h : s.accepts i c)
    (hi : i.mail = some ⟨p, op, anySub, settingsBody⟩) (he : exec i s = s.serve p op anySub settingsBody) :
    Completes i s fun t => t.bank = s.bank ∧ t.hasStaged p s.nextId (c.settings.flatMap entryItems) := by
  obtain ⟨_, t, ht, hst, hk⟩ := s.accepts_chain_staged (items := c.settingItems) hi he h rfl rfl
  exact ⟨t, ht, hk.same .bank, c.settingItems_fst ▸ hst⟩

/-! ## CAL_IMPORT (R390, R477) -/

/-- The state in which an import's channels join: its ticket names the stack, and its page holds the transfer area. -/
def State.importTaken (s : State) (c : Cmd) (tk : Nat) (t : Ticket) : State :=
  { s with tickets := Tab.put s.tickets tk { t with mask := c.b 0 }, boot := { s.boot with claim := some (c.page, 2 ^ 64) } }

theorem calImportBody_staged {c : Cmd} {tk : Nat} {s : State} {t : Ticket} (ht : Tab.find? s.tickets tk = some t)
    (h : (calImportBody c tk s).succeeds) : calImportBody c tk s =
      .staged ((s.importCals (c.b 0)).map (fun (ch, r) => (.cal ch r true, 0))) [] (s.importTaken c tk t) := by
  unfold calImportBody at h ⊢
  dsimp only at h ⊢
  rw [ht] at h ⊢
  exact (chain_succeeds h).1

theorem calImport_stages {p : Fin 521} {s : State} {c : Cmd} (h : s.accepts (.calImport p) c) :
    Completes (.calImport p) s fun t => t.bank = s.bank ∧ t.hasStaged p.val s.nextId
      ((s.importCals (c.b 0)).map (fun x => .cal x.1 x.2 true)) := by
  have hm : (Instr.calImport p).mail = some ⟨p.val, 0x5A, anySub, calImportBody⟩ := rfl
  obtain ⟨_, hok, _⟩ := s.accepts_exec hm rfl h
  have hb := calImportBody_staged (s.taken_ticket _ c) hok
  obtain ⟨t, ht, hst, hk⟩ := s.accepts_stages hm rfl h hb (Tab.find?_put_self _ _ _) rfl
  rw [List.map_map] at hst
  exact ⟨t, ht, hk.same .bank, hst⟩

/-- Settles O52, row by row. -/
theorem listCommandsStage : Obligations.ListCommandsStage := by
  unfold Obligations.ListCommandsStage
  refine ⟨fun p s c h => ?gate, fun p s c h => ?arm, fun _ _ _ => oppointSet_stages,
    fun _ _ _ => calImport_stages, ?settings⟩
  case gate =>
    obtain ⟨t, ht, hbank, hst⟩ := gateSet_stages h
    exact ⟨t, ht, hbank, c.gateList, hst, rfl, rfl, c.gateList_length, fun n e hn he => he ▸ c.gateList_getElem? hn⟩
  case arm =>
    obtain ⟨t, ht, hbank, n, ha, hst⟩ := wmArm_stages h
    exact ⟨t, ht, hbank, n, hst, ha.named, fun hi => ⟨ha.range hi, ha.free hi⟩⟩
  case settings =>
    rintro i p s c h (rfl | rfl | rfl | rfl | rfl | rfl | rfl | rfl) <;> exact settings_stage h rfl rfl

end Sys2Proof.Machine

/-! # Sessions and change sets (R213, R222, R228-R233, R440-R442) -/

namespace Sys2Proof.Machine

/-! ## What completions and events leave of a page's session -/

/-- The session of a page: whether it is open, and its generation, capabilities and epoch. -/
def Page.session (p : Page) : PState × Nat × Nat × Nat := (p.pstate, p.gen, p.caps, p.epoch)

@[simp] theorem Page.pump_session (n : Nat) : ∀ p : Page, (Page.pump n p).session = p.session := by
  induction n with
  | zero => exact fun _ => rfl
  | succ n ih =>
    intro p
    unfold Page.pump
    split
    · rfl
    · split
      · exact ih _
      · split
        · exact ih _
        · split
          · rfl
          · exact ih _

/-- Every page has the session it had. -/
def State.SameSessions (s t : State) : Prop := ∀ j, (t.page j).session = (s.page j).session

theorem State.SameSessions.refl (s : State) : s.SameSessions s := fun _ => rfl

theorem State.SameSessions.trans {s t u : State} (h : s.SameSessions t) (g : t.SameSessions u) : s.SameSessions u :=
  fun j => (g j).trans (h j)

theorem State.SameSessions.of_eq {s t : State} (h : t.pages = s.pages) : s.SameSessions t := by
  intro j
  unfold State.page
  rw [h]

theorem State.setPage_sessions {s : State} {k : Nat} {x : Page} (h : x.session = (s.page k).session) :
    s.SameSessions (s.setPage k x) := by
  intro j
  by_cases e : j = k
  · subst e; rw [State.setPage_page_self]; exact h
  · rw [State.setPage_page_other _ _ e]

theorem State.pumpPage_sessions (s : State) (p : Nat) : s.SameSessions (s.pumpPage p) :=
  State.setPage_sessions (Page.pump_session 64 _)

theorem State.postEvent_sessions (s : State) (p code data : Nat) : s.SameSessions (s.postEvent p code data) := by
  unfold State.postEvent
  dsimp only
  split
  · exact .refl s
  · split
    · refine .trans ?_ (State.pumpPage_sessions _ p)
      exact State.setPage_sessions rfl
    · split <;> exact State.setPage_sessions rfl

theorem State.complete_sessions (s : State) (t : Ticket) (st sheet : Nat) (fin : Bool) (result : List Nat)
    (bulk : Option (List Nat)) : s.SameSessions (s.complete t st sheet fin result bulk) := by
  unfold State.complete
  dsimp only
  split
  · exact .refl s
  · refine .trans ?_ (State.pumpPage_sessions _ _)
    exact State.setPage_sessions rfl

theorem State.finish_sessions (s : State) (tk st : Nat) (result : List Nat) (bulk : Option (List Nat)) :
    s.SameSessions (s.finish tk st result bulk) := by
  cases h : Tab.find? s.tickets tk with
  | none => unfold State.finish; rw [h]; exact .refl s
  | some t =>
    rw [State.finish_some h]
    refine .trans (.of_eq (s.finishing_pages tk t)) (.trans (State.complete_sessions _ t st 0 true result bulk) ?_)
    refine .trans ?_ (.of_eq (State.queueService_pages _ _))
    exact State.setPage_sessions rfl

theorem State.taken_sessions (s : State) (m : MailRow) (c : Cmd) : s.SameSessions (s.taken m c) := by
  refine .trans ?_ (.of_eq (s.take_pages m.page c))
  exact State.setPage_sessions rfl

/-- A command that no row describes leaves the sessions alone. -/
theorem State.serveWith_fail_sessions (s : State) (page st pos step : Nat) :
    s.SameSessions (s.serveWith page (fun _ _ _ => .fail st pos step none)) := by
  let m : MailRow := ⟨page, 0, anySub, fun _ _ _ => .fail st pos step none⟩
  have e := s.serveWith_eq m
  obtain ⟨st', pos', step', h⟩ := State.replyTo_fails (s := s) (m := m) rfl ((s.page m.page).headCmd m.page)
  rw [h] at e
  rw [show s.serveWith page _ = _ from e]
  exact ((s.taken_sessions m _).trans (State.finish_sessions _ _ _ _ _)).trans (.of_eq (State.queueService_pages _ _))

theorem State.skipUnknown_sessions (n : Nat) : ∀ s : State, s.SameSessions (s.skipUnknown n) := by
  induction n with
  | zero => exact fun s => .refl s
  | succ n ih =>
    intro s
    unfold State.skipUnknown
    split
    · exact .refl s
    · split
      · exact .refl s
      · split
        · exact .refl s
        · exact (State.serveWith_fail_sessions s _ _ _ _).trans (ih _)

theorem State.settle_ok_sessions (s v : State) (tk : Nat) (r : List Nat) : v.SameSessions (s.settle tk (.ok r v)) := by
  unfold State.settle
  dsimp only
  split
  · exact .refl v
  · exact State.finish_sessions _ _ _ _ _

theorem State.join_pages {s t : State} {page tk : Nat} {items : List (Staged × Nat)} (h : s.join page tk items = .inl t) :
    t.pages = s.pages :=
  (State.join_kept (Nat.or_self _) (.refl s) h).same .pages

theorem State.settle_staged_sessions {s u v : State} {tk : Nat} {k : Ticket} {items : List (Staged × Nat)} (r : List Nat)
    (hk : Tab.find? v.tickets tk = some k) (hu : v.join k.page tk items = .inl u) :
    v.SameSessions (s.settle tk (.staged items r v)) := by
  unfold State.settle
  dsimp only
  rw [hk]
  dsimp only
  rw [hu]
  have hpages : u.pages = v.pages := State.join_pages hu
  dsimp only
  split
  · exact .of_eq hpages
  · refine .trans ?_ (State.complete_sessions _ _ _ _ _ _ _)
    exact .of_eq hpages

/-- An accepted command leaves the sessions as its row's answer does. -/
theorem State.accepts_sessions {s t v : State} {i : Instr} {c : Cmd} {m : MailRow} (hi : i.mail = some m)
    (he : exec i s = s.serve m.page m.op m.sub m.body) (h : s.accepts i c) (hx : exec i s = .next t)
    (hv : v.SameSessions ((s.taken m c).settle s.nextId (m.body c s.nextId (s.taken m c)))) : v.SameSessions t := by
  obtain ⟨_, _, hx'⟩ := s.accepts_exec hi he h
  cases hx.symm.trans hx'
  exact hv.trans (.trans (.of_eq (State.queueService_pages _ _)) (State.skipUnknown_sessions _ _))

/-! ## OPEN (R213, R440, R441) -/

theorem State.foldl_sessions {α : Type} {f : State → α → State} (hf : ∀ (s : State) a, s.SameSessions (f s a))
    (l : List α) : ∀ s : State, s.SameSessions (l.foldl f s) := by
  induction l with
  | nil => exact .refl
  | cons a l ih => exact fun s => (hf s a).trans (ih _)

theorem State.ownerMoved_sessions (s : State) (old : Option Nat) : s.SameSessions (s.ownerMoved old) := by
  unfold State.ownerMoved
  refine .trans ?_ (State.foldl_sessions (fun (s : State) h => s.postEvent_sessions (adminPage h) 6 _) _ _)
  exact .of_eq rfl

/-- The steps of an OPEN (R440, R456): the page's session begins, an admin page's host is watched, and it takes the owner's
role where there is none. -/
def State.pageOpened (s : State) (page gen caps : Nat) : State :=
  s.setPage page { s.page page with pstate := .opened, gen := gen, epoch := ((s.page page).epoch + 1) % 65536, caps := caps,
                                    tgenOpen := if page < 512 then (s.bank.tenant page).tgen else 0 }
def State.hostWatched (s : State) (h : Nat) : State := s.setHost h { s.host h with watched := true, beat := s.clk.ticks }
def State.ownerSet (s : State) (h : Nat) : State := s.setBank { s.bank with owner := some h }

theorem State.openPage_eq (s : State) (page gen caps : Nat) : s.openPage page gen caps =
    if 512 ≤ page && page < 520 then
      if s.bank.owner.isNone then
        (((s.pageOpened page gen caps).hostWatched (page - 512)).ownerSet (page - 512)).ownerMoved none
      else (s.pageOpened page gen caps).hostWatched (page - 512)
    else s.pageOpened page gen caps := rfl

theorem State.hostWatched_sessions (s : State) (h : Nat) : s.SameSessions (s.hostWatched h) := .of_eq rfl

theorem State.ownerSet_sessions (s : State) (h : Nat) : s.SameSessions (s.ownerSet h) := .of_eq rfl

theorem State.hostWatched_watched (s : State) (h : Nat) : ((s.hostWatched h).host h).watched = true :=
  congrArg HostSt.watched (State.setHost_host_self s h _)

theorem State.ownerMoved_hosts (s : State) (old : Option Nat) : (s.ownerMoved old).hosts = s.hosts :=
  (State.ownerMoved_kept (r := false) (b := false) (Nat.or_self _) (.refl s) old).same .hosts

theorem State.ownerMoved_bank (s : State) (old : Option Nat) : (s.ownerMoved old).bank = s.bank :=
  (State.ownerMoved_kept (r := false) (b := false) (Nat.or_self _) (.refl s) old).same .bank

/-- The session that an OPEN begins. -/
theorem State.openPage_session (s : State) (page gen caps : Nat) :
    ((s.openPage page gen caps).page page).session = (.opened, gen, caps, ((s.page page).epoch + 1) % 65536) := by
  have hopened : ((s.pageOpened page gen caps).page page).session =
      (.opened, gen, caps, ((s.page page).epoch + 1) % 65536) := congrArg Page.session (State.setPage_page_self s page _)
  rw [State.openPage_eq]
  split
  · split
    · refine (State.ownerMoved_sessions _ none page).trans ((State.ownerSet_sessions _ _ page).trans ?_)
      exact (State.hostWatched_sessions _ _ page).trans hopened
    · exact (State.hostWatched_sessions _ _ page).trans hopened
  · exact hopened

/-- An OPEN on an admin page: its host is watched, and is the owner where there was none (R456). -/
theorem State.openPage_host (s : State) {page : Nat} (gen caps : Nat) (h1 : 512 ≤ page) (h2 : page < 520) :
    ((s.openPage page gen caps).host (page - 512)).watched = true ∧
      (s.bank.owner = none → (s.openPage page gen caps).bank.owner = some (page - 512)) := by
  rw [State.openPage_eq, if_pos (by simp [h1, h2])]
  have hwatched := (s.pageOpened page gen caps).hostWatched_watched (page - 512)
  split
  · refine ⟨?_, fun _ => congrArg Banked.owner (State.ownerMoved_bank _ none)⟩
    unfold State.host at hwatched ⊢
    rw [State.ownerMoved_hosts]
    exact hwatched
  next hsome => exact ⟨hwatched, fun hnone => absurd (by rw [hnone]; rfl) hsome⟩

/-- The session an OPEN asks for, and what it stages. -/
def Cmd.openCaps (c : Cmd) (s : State) : Nat := c.le 40 8 &&& s.image.caps &&& (if c.b 32 = 2 then mmp2Caps else 0xFFFF)
def Cmd.opened (c : Cmd) (s : State) : State := s.openPage c.page (c.b 32) (c.openCaps s)
def Cmd.openItems (c : Cmd) (s : State) : List (Staged × Nat) := if c.page < 512 then s.openItems c.page (c.b 32 == 2) else []

theorem openBody_answers {c : Cmd} {tk : Nat} {s : State} (h : (openBody c tk s).succeeds) : ∃ r,
    openBody c tk s = if (c.openItems s).isEmpty then .ok r (c.opened s) else .staged (c.openItems s) r (c.opened s) := by
  unfold openBody at h ⊢
  exact ⟨_, (chain_succeeds h).1⟩

/-- An OPEN leaves the sessions and the machine as it opened them, but for completions, and stages its items. -/
theorem open_opens {p : Fin 521} {s : State} {c : Cmd} (h : s.accepts (.open_ p) c) :
    Completes (.open_ p) s fun t => ∃ u, s.taken ⟨p.val, 1, anySub, openBody⟩ c = u ∧ (c.opened u).SameSessions t ∧
      Kept false false 0x27000214 (c.opened u) t ∧
      (c.openItems s ≠ [] → t.hasStaged p.val s.nextId ((c.openItems s).map Prod.fst)) := by
  have hm : (Instr.open_ p).mail = some ⟨p.val, 1, anySub, openBody⟩ := rfl
  obtain ⟨_, hok, _⟩ := s.accepts_exec hm rfl h
  obtain ⟨r, hb⟩ := openBody_answers (tk := s.nextId) hok
  split at hb
  next hempty =>
    obtain ⟨t, ht, hk, _⟩ := s.accepts_ok hm rfl h hb
    have hv := s.accepts_sessions hm rfl h ht (hb ▸ State.settle_ok_sessions _ _ _ _)
    exact ⟨t, ht, _, rfl, hv, .more (d := 0x27000204) (by decide) (.refl _) hk,
      fun hne => absurd (List.isEmpty_iff.mp hempty) hne⟩
  next =>
    have htickets : (c.opened (s.taken ⟨p.val, 1, anySub, openBody⟩ c)).tickets =
        (s.taken ⟨p.val, 1, anySub, openBody⟩ c).tickets :=
      (State.openPage_kept (r := false) (b := false) (Nat.or_self _) (.refl _) _ _ _).same .tickets
    obtain ⟨t, ht, hst, hk⟩ := s.accepts_staged hm rfl h hb htickets
    obtain ⟨w, hw⟩ := s.accepts_joins hm h hb
    have hticket := s.taken_ticket ⟨p.val, 1, anySub, openBody⟩ c
    rw [← htickets] at hticket
    have hv := s.accepts_sessions hm rfl h ht (hb ▸ State.settle_staged_sessions r hticket hw)
    exact ⟨t, ht, _, rfl, hv, hk, fun _ => hst⟩

/-! ## CLOSE (R442) -/

/-- The machine with a page's session ended. -/
def State.shut (s : State) (page : Nat) : State := s.setPage page { s.page page with pstate := .closed, gen := 0, caps := 0 }

theorem closeBody_admin {c : Cmd} {tk : Nat} {s : State} (hp : 512 ≤ c.page) :
    closeBody c tk s = chain [c.stray []] (.ok [] (s.shut c.page)) := by
  unfold closeBody
  dsimp only
  rw [if_pos hp]
  rfl

/-- A CLOSE ends the session of an admin page. -/
theorem close_shuts {p : Fin 521} {s : State} {c : Cmd} (h : s.accepts (.close p) c) (hp : 512 ≤ p.val) :
    Completes (.close p) s fun t => (t.page p.val).pstate = .closed ∧ (t.page p.val).gen = 0 ∧ (t.page p.val).caps = 0 := by
  have hm : (Instr.close p).mail = some ⟨p.val, 2, anySub, closeBody⟩ := rfl
  have hpage : c.page = p.val := State.accepts_page hm h
  obtain ⟨_, hok, _⟩ := s.accepts_exec hm rfl h
  have hb := closeBody_admin (tk := s.nextId) (s := s.taken ⟨p.val, 2, anySub, closeBody⟩ c) (hpage ▸ hp)
  replace hb := hb.trans (chain_succeeds (hb ▸ hok)).1
  obtain ⟨t, ht, -⟩ := s.accepts_ok hm rfl h hb
  have hsession := s.accepts_sessions hm rfl h ht (hb ▸ State.settle_ok_sessions _ _ _ _) p.val
  rw [hpage, State.shut, State.setPage_page_self] at hsession
  simp only [Page.session, Prod.mk.injEq] at hsession
  obtain ⟨hstate, hgen, hcaps, _⟩ := hsession
  exact ⟨t, ht, hstate, hgen, hcaps⟩

/-- A tenant that neither closes already nor is FREE again once its page's open set goes live. -/
structure State.Closable (s : State) (t : Nat) : Prop where
  live : (s.bank.tenant t).tstate = .active ∨ (s.bank.tenant t).tstate = .failed
  pending : (s.pendingBank.tenant t).tstate ≠ .free
  alone : s.sets.any (fun x => x.committed && x.items.any (fun i => i.what == .tenantClose t)) = false

theorem closeBody_tenant {c : Cmd} {tk : Nat} {s : State} (hp : c.page < 512) (h : s.Closable c.page) :
    closeBody c tk s = chain [c.stray []] (.staged [(.tenantClose c.page, 0xFFFF)] [] s) := by
  have hunder : ((s.bank.tenant c.page).tstate == .draining || (s.bank.tenant c.page).tstate == .zeroing) = false := by
    obtain hs | hs := h.live <;> rw [hs] <;> rfl
  unfold closeBody
  dsimp only
  rw [if_neg (by omega), h.alone, hunder, if_neg (by simp), if_neg (by simp [h.pending])]

/-- A CLOSE of a tenant stages its close. -/
theorem close_stages {p : Fin 521} {s : State} {c : Cmd} (h : s.accepts (.close p) c) (hp : p.val < 512)
    (hc : s.Closable p.val) : Completes (.close p) s fun t => t.hasStaged p.val s.nextId [.tenantClose p.val] := by
  have hpage : c.page = p.val := State.accepts_page rfl h
  have hclosable : (s.taken ⟨p.val, 2, anySub, closeBody⟩ c).Closable c.page := by
    rw [hpage]
    exact ⟨hc.live, hc.pending, hc.alone⟩
  obtain ⟨_, t, ht, hst, -⟩ := s.accepts_chain_staged (i := .close p) rfl rfl h
    (closeBody_tenant (tk := s.nextId) (hpage ▸ hp) hclosable) rfl
  exact ⟨t, ht, hpage ▸ hst⟩

/-! ## COMMIT and DISCARD (R228-R233) -/

/-- No set is open for a page whose open ones are left out. -/
theorem State.openSet_none {s : State} {page : Nat} (h : ∀ x ∈ s.sets, (x.committed || x.page != page) = true) :
    s.openSet page = none :=
  List.find?_eq_none.mpr fun x hx => by
    rw [show (!x.committed && x.page == page) = x.openFor page from rfl, x.openFor_eq, h x hx]
    decide

/-- The set that a COMMIT makes of its page's open one. -/
def State.toCommit (s : State) (c : Cmd) (tk : Nat) : ChangeSet :=
  { (s.openSet c.page).getD ⟨c.page, [], [], false, 0, 0, 0, 0⟩ with
    committed := true, commitTicket := tk, time := s.now + s.setting 0x2803 0 * 1000, notBefore := c.le 0 8, seq := s.nextSeq }

theorem State.toCommit_page (s : State) (c : Cmd) (tk : Nat) : (s.toCommit c tk).page = c.page := by
  unfold State.toCommit
  cases ho : s.openSet c.page with
  | none => rfl
  | some x =>
    have hx := State.openSet_openFor ho
    simp only [ChangeSet.openFor, Bool.and_eq_true, beq_iff_eq] at hx
    exact hx.2

theorem State.toCommit_items (s : State) (c : Cmd) (tk : Nat) :
    (s.toCommit c tk).items = ((s.openSet c.page).map (fun y => y.items)).getD [] := by
  unfold State.toCommit
  cases s.openSet c.page <;> rfl

theorem State.complete_sets (s : State) (t : Ticket) (st sheet : Nat) (fin : Bool) (result : List Nat)
    (bulk : Option (List Nat)) : (s.complete t st sheet fin result bulk).sets = s.sets :=
  (State.complete_kept (r := false) (b := false) (Nat.or_self _) (.refl s) t st sheet fin result bulk).same .sets

theorem commitBody_waits {c : Cmd} {tk : Nat} {s : State} (h : (commitBody c tk s).succeeds) : ∃ v,
    commitBody c tk s = .wait v ∧ v.sets = s.sets.filter (fun x => x.committed || x.page != c.page) ++ [s.toCommit c tk] := by
  unfold commitBody at h ⊢
  dsimp only at h ⊢
  obtain ⟨hnext, _⟩ := chain_succeeds h
  rw [hnext] at h ⊢
  split at h
  next => exact absurd rfl (h _ _ _ _)
  next hgood =>
    split at h
    next => exact absurd rfl (h _ _ _ _)
    next hfeed =>
      split at h
      next => exact absurd rfl (h _ _ _ _)
      next hroom =>
        rw [if_neg hgood, if_neg hfeed, if_neg hroom]
        have hlogged := (State.overlapLogs_kept (r := false) (b := false) (Nat.or_self _)
          (.refl { s with sets := s.sets.filter (fun x => x.committed || x.page != c.page) ++ [s.toCommit c tk] })
          (s.toCommit c tk) (s.projected (s.toCommit c tk) (s.landing (s.toCommit c tk).due).1)).same .sets
        split
        · exact ⟨_, rfl, hlogged⟩
        · refine ⟨_, rfl, ?_⟩
          split
          · exact hlogged
          · exact (State.complete_sets _ _ _ _ _ _ _).trans hlogged

/-- A COMMIT commits its page's open set. -/
theorem commit_commits {p : Fin 521} {s : State} {c : Cmd} (h : s.accepts (.commit p) c) :
    Completes (.commit p) s fun t => t.openSet p.val = none ∧ ∃ x ∈ t.sets, x.committed = true ∧ x.page = p.val ∧
      x.commitTicket = s.nextId ∧ x.notBefore = c.le 0 8 ∧ x.time = s.now + s.setting 0x2803 0 * 1000 ∧
      x.items = ((s.openSet p.val).map (fun y => y.items)).getD [] := by
  have hm : (Instr.commit p).mail = some ⟨p.val, 3, anySub, commitBody⟩ := rfl
  have hpage : c.page = p.val := State.accepts_page hm h
  obtain ⟨_, hok, _⟩ := s.accepts_exec hm rfl h
  obtain ⟨v, hb, hv⟩ := commitBody_waits (tk := s.nextId) hok
  obtain ⟨t, ht, hk⟩ := s.accepts_wait hm rfl h hb
  have hsets := (hk.same .sets).trans hv
  have hset := (s.taken ⟨p.val, 3, anySub, commitBody⟩ c).toCommit_page c s.nextId
  have hitems := (s.taken ⟨p.val, 3, anySub, commitBody⟩ c).toCommit_items c s.nextId
  rw [hpage] at hset hitems hsets
  refine ⟨t, ht, State.openSet_none fun x hx => ?_, _, ?_, rfl, hset, rfl, rfl, rfl, hitems⟩
  · rw [hsets, List.mem_append, List.mem_filter, List.mem_singleton] at hx
    obtain ⟨_, hx⟩ | rfl := hx
    · exact hx
    · rfl
  · rw [hsets]
    exact List.mem_append_right _ (List.mem_singleton_self _)

theorem State.foldl_finish_kept (s : State) (st : Nat) (r : List Nat) (l : List Nat) :
    Kept false false 0x7000004 s (l.foldl (fun s tk => s.finish tk st r none) s) :=
  Kept.foldl (fun _ _ h => State.finish_kept (Nat.or_self _) h _ _ _ _) _ _ (.refl s)

/-- The answer of a DISCARD: the page's open set is dropped, its tickets completed. -/
theorem discardBody_drops {c : Cmd} {tk : Nat} {s : State} (h : (discardBody c tk s).succeeds) : ∃ r v,
    discardBody c tk s = .ok r v ∧
      Kept false false 0x7000004 { s with sets := s.sets.filter (fun y => y.committed || y.page != c.page) } v := by
  unfold discardBody at h ⊢
  obtain ⟨hnext, _⟩ := chain_succeeds h
  rw [hnext] at h ⊢
  split
  next x _ => exact ⟨_, _, rfl, State.foldl_finish_kept _ _ _ x.tickets⟩
  next ho =>
    rw [ho] at h
    dsimp only at h
    split at h
    next => exact absurd rfl (h _ _ _ _)
    next hcommitted =>
      rw [if_neg hcommitted]
      refine ⟨_, _, rfl, ?_⟩
      rw [show s.sets.filter (fun y => y.committed || y.page != c.page) = s.sets from List.filter_eq_self.mpr fun y hy => ?_]
      · exact .refl s
      · have hclosed : ¬ y.openFor c.page = true := List.find?_eq_none.mp ho y hy
        rwa [ChangeSet.openFor_eq, Bool.not_eq_true', Bool.not_eq_false] at hclosed

/-- A DISCARD drops its page's open set. -/
theorem discard_drops {p : Fin 521} {s : State} {c : Cmd} (h : s.accepts (.discard p) c) :
    Completes (.discard p) s fun t => t.openSet p.val = none ∧ t.bank = s.bank ∧
      t.sets = s.sets.filter (fun y => y.committed || y.page != p.val) := by
  have hm : (Instr.discard p).mail = some ⟨p.val, 4, anySub, discardBody⟩ := rfl
  have hpage : c.page = p.val := State.accepts_page hm h
  obtain ⟨_, hok, _⟩ := s.accepts_exec hm rfl h
  obtain ⟨r, v, hb, hv⟩ := discardBody_drops (tk := s.nextId) hok
  obtain ⟨t, ht, hk, -⟩ := s.accepts_ok hm rfl h hb
  have hsets := (hk.same .sets).trans (hv.same .sets)
  rw [hpage] at hsets
  refine ⟨t, ht, State.openSet_none fun x hx => ?_, (hk.same .bank).trans (hv.same .bank), hsets⟩
  rw [hsets] at hx
  exact (List.mem_filter.mp hx).2

/-- Settles O54, command by command. -/
theorem sessionCommandsComplete : Obligations.SessionCommandsComplete := by
  unfold Obligations.SessionCommandsComplete
  refine ⟨fun p s c h => ?opens, fun _ _ _ => close_shuts, fun p s c h hp hlive hpending halone => ?closes,
    fun _ _ _ => commit_commits, fun _ _ _ => discard_drops⟩
  case closes => exact close_stages h hp ⟨hlive, hpending, halone⟩
  case opens =>
    have hpage : c.page = p.val := State.accepts_page rfl h
    obtain ⟨t, ht, u, rfl, hsame, hk, hst⟩ := open_opens h
    have hsession := hsame p.val
    rw [Cmd.opened, hpage, State.openPage_session, State.taken_page] at hsession
    simp only [Page.session, Prod.mk.injEq] at hsession
    obtain ⟨hstate, hgen, hcaps, hepoch⟩ := hsession
    refine ⟨t, ht, hstate, hgen, hcaps, hepoch, fun hp hne => ?_, fun h1 h2 => ?_⟩
    · have hitems : c.openItems s = s.openItems p.val (c.b 32 == 2) := by
        unfold Cmd.openItems
        rw [hpage, if_pos hp]
      rw [hitems] at hst
      exact hst hne
    · obtain ⟨hwatched, howner⟩ :=
        State.openPage_host (s.taken ⟨p.val, 1, anySub, openBody⟩ c) (c.b 32) (c.openCaps _) h1 h2
      rw [Cmd.opened, hpage] at hk
      refine ⟨?_, fun hnone => ?_⟩
      · unfold State.host at hwatched ⊢
        rw [show t.hosts = _ from hk.same .hosts]
        exact hwatched
      · rw [show t.bank = _ from hk.same .bank]
        exact howner hnone

end Sys2Proof.Machine

/-! # Shaping (R194, R197, R203, R207) -/

namespace Sys2Proof.Machine

/-! ## Refills (R197) -/

theorem State.mem_heldKeys {s : State} {f : Part → Req → Bool} {key : Nat} (h : key ∈ s.heldKeys f) :
    ∃ p r, (key, p) ∈ s.parts ∧ s.req? p.req = some r ∧ f p r = true := by
  unfold State.heldKeys at h
  simp only [List.mem_map, mem_sortBy, List.mem_filterMap] at h
  obtain ⟨_, ⟨⟨j, p⟩, hmem, hx⟩, rfl⟩ := h
  dsimp only at hx
  split at hx
  · cases hx
  next r hr =>
    split at hx
    next hf =>
      cases hx
      exact ⟨p, r, hmem, hr, hf⟩
    next => cases hx

theorem State.refillMarker_new {s : State} {ten half : Nat}
    (h : ∀ x, (s.marker ten half).oldRates = some x → x.1 ≠ s.clk.ticks) :
    s.refillMarker ten half = s.setMarker ten half {
      tc := min (burstShare (s.bank.policer ten).cbs (s.bank.policer ten).split half)
        ((s.marker ten half).tc + share (s.bank.policer ten).cir (s.bank.policer ten).split half)
      tp := min (burstShare (s.bank.policer ten).pbs (s.bank.policer ten).split half)
        ((s.marker ten half).tp + share (s.bank.policer ten).pir (s.bank.policer ten).split half)
      oldRates := none } := by
  unfold State.refillMarker
  dsimp only
  cases ho : (s.marker ten half).oldRates with
  | none => rfl
  | some x =>
    obtain ⟨t, old⟩ := x
    dsimp only
    rw [if_neg (h _ ho)]

/-- A refill with nothing held at a red marker adds the rates. -/
theorem exec_markerRefill {half : Fin 2} {ten : Fin 512} {s : State} (h : ∀ x ∈ s.parts, x.2.stage ≠ .redHeld) :
    exec (.markerRefill half ten) s = .next (s.refillMarker ten.val half.val) := by
  have hnone : (s.refillMarker ten.val half.val).heldKeys
      (fun p r => p.stage == .redHeld && r.ten == ten.val && portHalf r.port == half.val) = [] := by
    rw [List.eq_nil_iff_forall_not_mem]
    intro key hkey
    obtain ⟨p, r, hp, -, hf⟩ := State.mem_heldKeys hkey
    simp only [Bool.and_eq_true, beq_iff_eq] at hf
    obtain ⟨⟨hstage, -⟩, -⟩ := hf
    exact h (key, p) hp hstage
  show execMarkerRefill half ten s = _
  unfold execMarkerRefill
  dsimp only
  rw [hnone]
  rfl

/-! ## Debt (R193, R194) -/

theorem State.debtMarker_off {s : State} {ten : Nat} (h : (s.bank.policer ten).pen = false) (half n : Nat) :
    s.debtMarker ten half n = (s, 0) := by
  unfold State.debtMarker
  dsimp only
  rw [h]
  rfl

/-- A debt of no shared quire goes to its marker, which counts what it discards. -/
theorem exec_debtCharge_own {s : State} {d : Debt} {rest : List Debt} (hd : s.debts = d :: rest) (hq : d.quire = none)
    {u : State} {l : Nat} (hm : ({ s with debts := rest } : State).debtMarker d.ten d.half d.bytes = (u, l)) :
    exec .debtCharge s = .next (u.cntT d.ten 34 l) := by
  show execDebtCharge s = _
  unfold execDebtCharge
  rw [hd]
  dsimp only
  rw [hm, hq]
  dsimp only
  rw [Nat.max_zero]

/-- A debt of a shared quire whose tenant is not policed goes to the quire's stage, which counts what it discards. -/
theorem exec_debtCharge_shared {s : State} {d : Debt} {rest : List Debt} {q : Nat} (hd : s.debts = d :: rest)
    (hq : d.quire = some q) (hpen : (s.bank.policer d.ten).pen = false) {u : State} {l : Nat}
    (hf : ({ s with debts := rest } : State).debtFlow q d.ten d.tint d.bytes = (u, l)) :
    exec .debtCharge s = .next (u.cntT d.ten 34 l) := by
  have hm : ({ s with debts := rest } : State).debtMarker d.ten d.half d.bytes = (_, 0) :=
    State.debtMarker_off (s := { s with debts := rest }) hpen _ _
  show execDebtCharge s = _
  unfold execDebtCharge
  rw [hd]
  dsimp only
  rw [hm, hq]
  dsimp only
  rw [hf, Nat.zero_max]

/-- A policed tenant's marker takes a debt down to its floors. -/
theorem State.debtMarker_policed {s : State} {ten half n : Nat} {p : Policer} {m : Marker} {tc tp : Int}
    (hp : p = s.bank.policer ten) (hpen : p.pen = true) (hm : m = s.marker ten half)
    (htc : tc = lowered m.tc (-(burstShare p.cbs p.split half : Int)) (n * 16))
    (htp : tp = lowered m.tp (-(burstShare p.pbs p.split half : Int)) (n * 16)) :
    s.debtMarker ten half n = (s.setMarker ten half { m with tc := tc, tp := tp },
      (max ((n * 16 : Int) - (m.tc - tc)) (n * 16 - (m.tp - tp))).toNat / 16) := by
  subst hp hm htc htp
  unfold State.debtMarker
  dsimp only
  rw [hpen]
  rfl

theorem State.debtFlow_gone {s : State} {q ten : Nat} (h : (s.drr q).flow? ten = none) (tint n : Nat) :
    s.debtFlow q ten tint n = (s, n) := by
  unfold State.debtFlow
  dsimp only
  rw [h]

/-- A flow and its subflow take a debt down to the negative of the ceiling. -/
theorem State.debtFlow_some {s : State} {q ten tint : Nat} {f : Flow} {u : SubFlow} (hf : (s.drr q).flow? ten = some f)
    (hu : f.subs.find? (fun u => u.tint == tint) = some u) (n : Nat) : ∃ l, s.debtFlow q ten tint n =
      (s.setDrr q ((s.drr q).setFlow ({ f with deficit := lowered f.deficit (-(s.ceiling ten : Int)) n }.setSub
        { u with deficit := lowered u.deficit (-(s.ceiling ten : Int)) n })), l) := by
  unfold State.debtFlow
  dsimp only
  rw [hf]
  dsimp only
  rw [hu]
  exact ⟨_, rfl⟩

/-! ## A part goes on along the path (R190) -/

/-- How far along the path a part stands. -/
def Stage.rank : Stage → Nat
  | .redHeld => 0
  | .gated => 1
  | .quireDrr => 2
  | .feltDrr => 3
  | .feedDrr => 3
  | .bridgeDrr => 4
  | .xbarDrr => 5
  | .lakeDrr => 6
  | .ready => 7
  | .lakeHeld _ => 8
  | .granted => 9
  | .admitted => 10

/-- A step moves one part to a stage of rank n or later: it stays its request's and its stack's, every other part stays as it
is, and so do the requests and whether that stack refuses. -/
structure State.Onward (s t : State) (key : Nat) (p : Part) (n : Nat) : Prop where
  part : ∃ y, t.part? key = some y ∧ y.req = p.req ∧ y.stack = p.stack ∧ n ≤ y.stage.rank
  others : ∀ x ∈ t.parts, x.1 = key ∧ x.2.req = p.req ∨ x ∈ s.parts
  reqs : t.reqs = s.reqs
  retries : t.stackRetries p.stack = s.stackRetries p.stack

/-- A part that may go on: its request is outstanding and its stack refuses nothing. -/
structure State.Passes (s : State) (key : Nat) (p : Part) (r : Req) : Prop where
  part : s.part? key = some p
  req : s.req? p.req = some r
  admits : s.stackRetries p.stack = false

section
variable {s t u : State} {key n m : Nat} {p y : Part} {r : Req}

theorem State.Onward.trans (h : s.Onward t key p m) (g : t.Onward u key y n) (hr : y.req = p.req) (hs : y.stack = p.stack) :
    s.Onward u key p n where
  part := by
    obtain ⟨z, hz, hreq, hstack, hn⟩ := g.part
    exact ⟨z, hz, hreq.trans hr, hstack.trans hs, hn⟩
  others x hx := by
    obtain ⟨hkey, hreq⟩ | hx := g.others x hx
    · exact .inl ⟨hkey, hreq.trans hr⟩
    · exact h.others x hx
  reqs := g.reqs.trans h.reqs
  retries := by rw [← h.retries, ← hs]; exact g.retries

theorem State.Onward.later (h : s.Onward t key p m) (hn : n ≤ m) : s.Onward t key p n where
  part := by
    obtain ⟨y, hy, hreq, hstack, hm⟩ := h.part
    exact ⟨y, hy, hreq, hstack, hn.trans hm⟩
  others := h.others
  reqs := h.reqs
  retries := h.retries

/-- A part may go on from where a step brought it. -/
theorem State.Onward.brings (h : s.Onward t key p n) (hp : s.Passes key p r) :
    ∃ y, t.Passes key y r ∧ y.req = p.req ∧ y.stack = p.stack ∧ n ≤ y.stage.rank := by
  obtain ⟨y, hy, hreq, hstack, hn⟩ := h.part
  refine ⟨y, ⟨hy, ?_, ?_⟩, hreq, hstack, hn⟩
  · rw [hreq]
    unfold State.req?
    rw [h.reqs]
    exact hp.req
  · rw [hstack, h.retries]
    exact hp.admits

theorem State.Onward.andThen (h : s.Onward t key p m) (hp : s.Passes key p r)
    (g : ∀ y, t.Passes key y r → t.Onward u key y n) : s.Onward u key p n := by
  obtain ⟨y, hy, hreq, hstack, -⟩ := h.brings hp
  exact h.trans (g y hy) hreq hstack

/-- The rule of the path: a part is stored again, and the stages of round robin and the counts may change. -/
theorem State.setPart_onward (hparts : t.parts = Tab.put s.parts key y) (hr : y.req = p.req) (hs : y.stack = p.stack)
    (hn : n ≤ y.stage.rank) (hreqs : t.reqs = s.reqs) (hsclk : t.sclk = s.sclk) (hheat : t.heat = s.heat)
    (hregs : t.regs = s.regs) : s.Onward t key p n where
  part := ⟨y, by unfold State.part?; rw [hparts]; exact Tab.find?_put_self _ _ _, hr, hs, hn⟩
  others x hx := by
    rw [hparts] at hx
    obtain hx | rfl := Tab.mem_put hx
    · exact .inr hx
    · exact .inl ⟨rfl, hr⟩
  reqs := hreqs
  retries := by
    unfold State.stackRetries State.sck State.heatOf State.blocked
    rw [hsclk, hheat, hregs]

theorem State.enterReady_onward (hp : s.Passes key p r) : s.Onward (s.enterReady key) key p 7 := by
  unfold State.enterReady
  rw [hp.part]
  have hadmits : (s.setPart key { p with stage := .ready, since := s.clk.ticks }).stackRetries p.stack = false := hp.admits
  dsimp only
  rw [hadmits, if_neg Bool.false_ne_true]
  exact State.setPart_onward rfl rfl rfl (Nat.le_refl 7) rfl rfl rfl rfl

/-- A stage holds a part, or the part passes it and goes on. -/
theorem State.stageOr_onward {st : Stage} {k : Nat} {pass : Part → Part} {next : State → State} (hp : s.Passes key p r)
    (hst : n ≤ st.rank) (hreq : (pass p).req = p.req) (hstack : (pass p).stack = p.stack)
    (hnext : ∀ u : State, u.Passes key (pass p) r → u.Onward (next u) key (pass p) n) :
    s.Onward (s.stageOr key st k pass next) key p n := by
  unfold State.stageOr
  rw [hp.part]
  dsimp only
  rw [hp.req]
  dsimp only
  split
  next v htake =>
    have hk := State.drrTake_kept (r := false) (b := false) (Nat.or_self _) (.refl s) htake
    have hparts : (v.setPart key (pass p)).parts = Tab.put s.parts key (pass p) := by
      rw [State.setPart_parts, show v.parts = _ from hk.same .parts]
    have hstored : s.Onward (v.setPart key (pass p)) key p 0 := State.setPart_onward hparts hreq hstack (Nat.zero_le _)
      (hk.same .reqs) (hk.same .sclk) (hk.same .heat) (hk.same .regs)
    refine hstored.andThen hp fun y hy => ?_
    cases (State.setPart_part?_self v key (pass p)).symm.trans hy.part
    exact hnext _ hy
  next => exact State.setPart_onward rfl rfl rfl hst rfl rfl rfl rfl

theorem State.enterLake_onward (hp : s.Passes key p r) : s.Onward (s.enterLake key) key p 6 := by
  unfold State.enterLake
  rw [hp.part]
  dsimp only
  rw [hp.req]
  dsimp only
  split
  · exact State.stageOr_onward hp (Nat.le_refl 6) rfl rfl fun u hu => (State.enterReady_onward hu).later (by decide)
  · exact (State.enterReady_onward hp).later (by decide)

theorem State.freeBridge_onward (hp : s.Passes key p r) : s.Onward (s.freeBridge key r p) key p 0 := by
  unfold State.freeBridge
  split
  · exact State.setPart_onward rfl rfl rfl (Nat.zero_le _) rfl rfl rfl rfl
  · exact State.setPart_onward rfl rfl rfl (Nat.zero_le _) rfl rfl rfl rfl
  · exact ⟨⟨p, hp.part, rfl, rfl, Nat.zero_le _⟩, fun _ hx => .inr hx, rfl, rfl⟩

/-- A part that has the crossbar's credit gives its bridge credit back and goes on. -/
theorem State.freeBridge_enterLake_onward (hp : s.Passes key p r) : s.Onward ((s.freeBridge key r p).enterLake key) key p 6 :=
  (State.freeBridge_onward hp).andThen hp fun _ hy => State.enterLake_onward hy

/-- A part stored with other credits may still go on. -/
theorem State.Passes.stored (hp : s.Passes key p r) (hr : y.req = p.req) (hs : y.stack = p.stack) :
    (s.setPart key y).Passes key y r :=
  ⟨State.setPart_part?_self s key y, hr ▸ hp.req, hs ▸ hp.admits⟩

/-- A part is stored with other credits and goes on. -/
theorem State.Passes.storedThen {f : State → State} (hp : s.Passes key p r) (hr : y.req = p.req) (hs : y.stack = p.stack)
    (hf : ∀ u : State, u.Passes key y r → u.Onward (f u) key y n) : s.Onward (f (s.setPart key y)) key p n := by
  have hstored : s.Onward (s.setPart key y) key p 0 := State.setPart_onward rfl hr hs (Nat.zero_le _) rfl rfl rfl rfl
  exact hstored.trans (hf _ (hp.stored hr hs)) hr hs

theorem State.enterXbar_onward (hp : s.Passes key p r) : s.Onward (s.enterXbar key) key p 5 := by
  unfold State.enterXbar
  rw [hp.part]
  dsimp only
  rw [hp.req]
  dsimp only
  split
  · refine State.Onward.later (m := 6) ?_ (by decide)
    exact hp.storedThen (f := fun u => (u.freeBridge key r _).enterLake key) rfl rfl fun _ => State.freeBridge_enterLake_onward
  · exact State.stageOr_onward hp (Nat.le_refl 5) rfl rfl fun u hu => (State.freeBridge_enterLake_onward hu).later (by decide)

theorem State.enterBridge_onward (hp : s.Passes key p r) : s.Onward (s.enterBridge key) key p 4 := by
  unfold State.enterBridge
  rw [hp.part]
  dsimp only
  rw [hp.req]
  dsimp only
  split
  · exact (State.enterXbar_onward hp).later (by decide)
  · split
    · refine State.Onward.later (m := 5) ?_ (by decide)
      exact hp.storedThen (f := fun u => u.enterXbar key) rfl rfl fun _ => State.enterXbar_onward
    · exact State.stageOr_onward hp (Nat.le_refl 4) rfl rfl fun u hu => (State.enterXbar_onward hu).later (by decide)

theorem State.enterPort_onward (hp : s.Passes key p r) : s.Onward (s.enterPort key) key p 3 := by
  unfold State.enterPort
  rw [hp.part]
  dsimp only
  rw [hp.req]
  dsimp only
  split
  · exact State.stageOr_onward hp (Nat.le_refl 3) rfl rfl fun u hu => (State.enterBridge_onward hu).later (by decide)
  · split
    · exact State.stageOr_onward hp (Nat.le_refl 3) rfl rfl fun u hu => (State.enterBridge_onward hu).later (by decide)
    · exact (State.enterBridge_onward hp).later (by decide)

theorem State.enterQuire_onward (hp : s.Passes key p r) : s.Onward (s.enterQuire key) key p 2 := by
  unfold State.enterQuire
  rw [hp.part]
  dsimp only
  rw [hp.req]
  dsimp only
  split
  · exact State.stageOr_onward hp (Nat.le_refl 2) rfl rfl fun u hu => (State.enterPort_onward hu).later (by decide)
  · exact (State.enterPort_onward hp).later (by decide)

/-- A part that a round robin stage releases goes on to a later stage of the path (R190). -/
theorem State.drrPassed_onward {k : Nat} (hp : s.Passes key p r) (hk : drrStageOf r p = some k) :
    s.Onward (s.drrPassed key) key p (p.stage.rank + 1) := by
  unfold State.drrPassed
  rw [hp.part]
  dsimp only
  rw [hp.req]
  dsimp only
  unfold drrStageOf at hk
  split at hk
  next h => rw [h]; exact hp.storedThen (f := fun u => u.enterPort key) rfl rfl fun _ => State.enterPort_onward
  next h =>
    rw [h]
    exact hp.storedThen (f := fun u => (u.freeBridge key r _).enterLake key) rfl rfl
      fun _ => State.freeBridge_enterLake_onward
  next h => rw [h]; exact hp.storedThen (f := fun u => u.enterXbar key) rfl rfl fun _ => State.enterXbar_onward
  next h => rw [h]; exact hp.storedThen (f := fun u => u.enterReady key) rfl rfl fun _ => State.enterReady_onward
  next h => rw [h]; exact hp.storedThen (f := fun u => u.enterBridge key) rfl rfl fun _ => State.enterBridge_onward
  next h => rw [h]; exact hp.storedThen (f := fun u => u.enterBridge key) rfl rfl fun _ => State.enterBridge_onward
  next => cases hk

end

/-! ## Time gates (R203) -/

/-- A gate at which one part is held. -/
theorem exec_gateRelease_one {q : Fin 1024} {s : State} {key : Nat} {p : Part} {r : Req}
    (hheld : s.heldKeys (fun p r => p.stage == .gated && r.qbase == q.val) = [key]) (hp : s.part? key = some p)
    (hr : s.req? p.req = some r) : exec (.gateRelease q) s =
      .next (if s.gateOpen r.qbase r.qk r.tint (partCharge r) then s.enterQuire key else s) := by
  show execGateRelease q s = _
  unfold execGateRelease
  rw [hheld]
  dsimp only [List.foldl]
  rw [hp]
  dsimp only
  rw [hr]

/-! ## Deficit round robin (R206, R207) -/

theorem State.mem_waitingAt {s : State} {k key : Nat} {p : Part} {r : Req} : (key, p, r) ∈ s.waitingAt k ↔
    (key, p) ∈ s.parts ∧ s.req? p.req = some r ∧ drrStageOf r p = some k := by
  unfold State.waitingAt
  rw [mem_sortBy, List.mem_filterMap]
  constructor
  · rintro ⟨⟨j, q⟩, hmem, hx⟩
    dsimp only at hx
    split at hx
    · cases hx
    next u hu =>
      split at hx
      next hk =>
        cases hx
        exact ⟨hmem, hu, hk⟩
      next => cases hx
  · rintro ⟨hmem, hr, hk⟩
    refine ⟨(key, p), hmem, ?_⟩
    dsimp only
    rw [hr]
    dsimp only
    rw [if_pos hk]

/-- A visit of R207, named step by step: the round without the flows that have nothing waiting, the visited flow with its
quantum and the order of its active tints, the tint whose turn it is, and its subflow with its quantum. -/
def State.visitDrr (s : State) (k : Nat) : Drr :=
  { s.drr k with round := (s.drr k).round.filter (fun t => (s.busyAt k).any (fun b => b.1 == t)) }
def State.visitTints (s : State) (k t : Nat) : List Nat := ((s.busyAt k).filter (fun b => b.1 == t)).map (fun b => b.2)
def State.creditedFlow (s : State) (k t : Nat) : Flow :=
  let f := s.flow (s.visitDrr k) t
  if f.visited then f
  else { f with deficit := min (s.ceiling t : Int) (f.deficit + s.quantum t), visited := true,
                innerLeft := (s.visitTints k t).length }
def State.visitFlow (s : State) (k t : Nat) : Flow :=
  let inner := (s.creditedFlow k t).inner.filter (fun x => (s.visitTints k t).contains x)
  { s.creditedFlow k t with inner := inner ++ (s.visitTints k t).filter (fun x => !inner.contains x) }
def State.visitTint (s : State) (k t : Nat) : Nat := (s.visitFlow k t).inner.headD 0
def State.visitSub (s : State) (k t : Nat) : SubFlow :=
  let u := (s.visitFlow k t).sub (s.visitTint k t) (s.ceiling t)
  if u.visited then u
  else { u with deficit := min (s.ceiling t : Int) (u.deficit + s.subQuantum (s.visitTint k t)), visited := true }

/-- The stage after a visit that releases a part, that ends a subflow's turn, and that ends for want of the flow's deficit. -/
def State.visitReleases (s : State) (k t key : Nat) (r : Req) : Drr :=
  let u := { s.visitSub k t with deficit := (s.visitSub k t).deficit - partCharge r }
  let f := { s.visitFlow k t with deficit := (s.visitFlow k t).deficit - partCharge r }.setSub u
  let rest := (s.waitingAt k).filter (fun (j, _, _) => j != key)
  let f := if rest.any (fun (_, _, x) => x.ten == t && x.tint == s.visitTint k t) then f else f.endSub u
  let d := { s.visitDrr k with occ := (s.visitDrr k).occ + partCharge r }
  if rest.any (fun (_, _, x) => x.ten == t) then d.setFlow f
  else s.endVisit d f false (rest.map (fun (_, _, x) => (x.ten, x.tint))).dedup
def State.visitEndsTurn (s : State) (k t : Nat) : Drr :=
  let f := (s.visitFlow k t).endSub (s.visitSub k t)
  if f.innerLeft = 0 then s.endVisit (s.visitDrr k) f true (s.busyAt k) else (s.visitDrr k).setFlow f
def State.visitEnds (s : State) (k t : Nat) : Drr :=
  s.endVisit (s.visitDrr k) ((s.visitFlow k t).setSub (s.visitSub k t)) true (s.busyAt k)

/-- One visit of the procedure of R207. -/
theorem State.drrGo_succ (fuel n : Nat) (s : State) (k : Nat) : State.drrGo (fuel + 1) n s k =
    if n = 0 || decide (s.drrWindow k ≤ (s.drr k).occ) then s
    else match (s.visitDrr k).round with
      | [] => s
      | t :: _ => match (s.waitingAt k).find? (fun (_, _, r) => r.ten == t && r.tint == s.visitTint k t) with
        | none => s
        | some (key, _, r) =>
          if (partCharge r : Int) ≤ (s.visitFlow k t).deficit && (partCharge r : Int) ≤ (s.visitSub k t).deficit then
            State.drrGo fuel (n - 1) ((s.setDrr k (s.visitReleases k t key r)).drrRelease key r) k
          else if (s.visitSub k t).deficit < partCharge r then State.drrGo fuel n (s.setDrr k (s.visitEndsTurn k t)) k
          else State.drrGo fuel n (s.setDrr k (s.visitEnds k t)) k := rfl

/-- A visit does nothing, moves deficits and turns alone, or releases a waiting part. -/
theorem State.drrGo_cases (fuel n : Nat) (s : State) (k : Nat) : State.drrGo (fuel + 1) n s k = s ∨
    (∃ d, State.drrGo (fuel + 1) n s k = State.drrGo fuel n (s.setDrr k d) k) ∨
    ∃ d key p r, (key, p, r) ∈ s.waitingAt k ∧
      State.drrGo (fuel + 1) n s k = State.drrGo fuel (n - 1) ((s.setDrr k d).drrRelease key r) k := by
  rw [State.drrGo_succ]
  split
  · exact .inl rfl
  · split
    · exact .inl rfl
    · split
      · exact .inl rfl
      next hfind =>
        have hmem := List.mem_of_find?_eq_some hfind
        split
        · exact .inr (.inr ⟨_, _, _, _, hmem, rfl⟩)
        · split
          · exact .inr (.inl ⟨_, rfl⟩)
          · exact .inr (.inl ⟨_, rfl⟩)

/-- Every part that waits at a stage goes by one key, and its request is no fill of a gather. -/
def State.OnlyWaits (s : State) (k key : Nat) : Prop :=
  ∀ x ∈ s.parts, ∀ r, s.req? x.2.req = some r → drrStageOf r x.2 = some k → x.1 = key ∧ r.op ≠ 34

theorem State.OnlyWaits.onward {s t : State} {k key m : Nat} {p : Part} {r : Req} (h : s.OnlyWaits k key)
    (hp : s.Passes key p r) (hop : r.op ≠ 34) (g : s.Onward t key p m) : t.OnlyWaits k key := by
  have hreqs (j : Nat) : t.req? j = s.req? j := by unfold State.req?; rw [g.reqs]
  intro x hx u hu hk
  rw [hreqs] at hu
  obtain ⟨hkey, hreq⟩ | hx := g.others x hx
  · rw [hreq, hp.req] at hu
    exact ⟨hkey, Option.some.inj hu ▸ hop⟩
  · exact h x hx u hu hk

/-- A part at no round robin stage is not released by one. -/
theorem State.drrPassed_idle {s : State} {key : Nat} {p : Part} {r : Req} (hp : s.Passes key p r) (hk : drrStageOf r p = none) :
    s.drrPassed key = s := by
  unfold State.drrPassed
  rw [hp.part]
  dsimp only
  rw [hp.req]
  dsimp only
  split
  iterate 6 next hg => simp [drrStageOf, hg] at hk
  rfl

/-- One part alone waits at a stage, or none, and it stands at rank m or later. -/
structure State.AloneAt (s : State) (k key : Nat) (r : Req) (m : Nat) : Prop where
  part : ∃ y, s.Passes key y r ∧ m ≤ y.stage.rank
  only : s.OnlyWaits k key
  op : r.op ≠ 34

theorem State.AloneAt.setDrr {s : State} {k key m : Nat} {r : Req} (h : s.AloneAt k key r m) (d : Drr) :
    (s.setDrr k d).AloneAt k key r m where
  part := by
    obtain ⟨y, ⟨hpart, hreq, hadmits⟩, hm⟩ := h.part
    exact ⟨y, ⟨hpart, hreq, hadmits⟩, hm⟩
  only := h.only
  op := h.op

theorem State.AloneAt.passed {s : State} {k key m : Nat} {r : Req} (h : s.AloneAt k key r m) :
    (s.drrPassed key).AloneAt k key r m := by
  obtain ⟨y, hy, hm⟩ := h.part
  cases hk : drrStageOf r y with
  | none => rw [State.drrPassed_idle hy hk]; exact h
  | some j =>
    have g := State.drrPassed_onward hy hk
    obtain ⟨z, hz, -, -, hn⟩ := g.brings hy
    exact ⟨⟨z, hz, by omega⟩, h.only.onward hy h.op g, h.op⟩

/-- The visits that follow leave a part that is alone at its stage where it stands, or move it on. -/
theorem State.AloneAt.drrGo {k key m : Nat} {r : Req} (fuel : Nat) : ∀ {n : Nat} {s : State}, s.AloneAt k key r m →
    (State.drrGo fuel n s k).AloneAt k key r m := by
  induction fuel with
  | zero => exact fun h => h
  | succ fuel ih =>
    intro n s h
    obtain e | ⟨d, e⟩ | ⟨d, j, p, u, hmem, e⟩ := State.drrGo_cases fuel n s k
    · rw [e]; exact h
    · rw [e]; exact ih (h.setDrr d)
    · obtain ⟨hparts, hreq, hk⟩ := State.mem_waitingAt.mp hmem
      obtain ⟨rfl, hop⟩ := h.only _ hparts _ hreq hk
      rw [e, State.drrRelease, if_neg hop]
      exact ih (h.setDrr d).passed

/-! ## The visit of a part that waits alone -/

section
variable {s : State} {k key : Nat} {p : Part} {r : Req} (hws : s.waitingAt k = [(key, p, r)])
include hws

theorem State.busyAt_alone : s.busyAt k = [(r.ten, r.tint)] := by
  unfold State.busyAt
  rw [hws]
  rfl

theorem State.visitTints_alone : s.visitTints k r.ten = [r.tint] := by
  unfold State.visitTints
  rw [State.busyAt_alone hws]
  simp

theorem State.visitDrr_alone (hround : (s.drr k).round = [r.ten]) : (s.visitDrr k).round = [r.ten] := by
  unfold State.visitDrr
  dsimp only
  rw [hround, State.busyAt_alone hws]
  simp

/-- The only tint that waits has the turn. -/
theorem State.visitTint_alone : s.visitTint k r.ten = r.tint := by
  unfold State.visitTint State.visitFlow
  dsimp only
  rw [State.visitTints_alone hws]
  cases hin : (s.creditedFlow k r.ten).inner.filter (fun x => [r.tint].contains x) with
  | nil => rfl
  | cons x xs =>
    have hx : x ∈ (s.creditedFlow k r.ten).inner.filter (fun x => [r.tint].contains x) := hin ▸ List.mem_cons_self ..
    simpa using (List.mem_filter.mp hx).2

end

/-- A quantum takes no deficit away that lies within the ceiling. -/
theorem State.visitFlow_deficit (s : State) (k t : Nat) (h : (s.flow (s.drr k) t).deficit ≤ s.ceiling t) :
    (s.flow (s.drr k) t).deficit ≤ (s.visitFlow k t).deficit := by
  show _ ≤ (s.creditedFlow k t).deficit
  unfold State.creditedFlow
  dsimp only
  split
  · exact le_refl _
  · exact le_min h (by show _ ≤ (s.flow (s.drr k) t).deficit + _; omega)

theorem State.visitFlow_sub (s : State) (k t tint : Nat) (c : Nat) :
    (s.visitFlow k t).sub tint c = (s.flow (s.drr k) t).sub tint c := by
  unfold Flow.sub
  have hsubs : (s.visitFlow k t).subs = (s.flow (s.drr k) t).subs := by
    show (s.creditedFlow k t).subs = _
    unfold State.creditedFlow
    dsimp only
    split <;> rfl
  rw [hsubs]

theorem State.visitSub_deficit (s : State) (k t : Nat)
    (h : ((s.flow (s.drr k) t).sub (s.visitTint k t) (s.ceiling t)).deficit ≤ s.ceiling t) :
    ((s.flow (s.drr k) t).sub (s.visitTint k t) (s.ceiling t)).deficit ≤ (s.visitSub k t).deficit := by
  unfold State.visitSub
  rw [State.visitFlow_sub]
  dsimp only
  split
  · exact le_refl _
  · exact le_min h (by omega)

/-- What lets a stage release the only part that waits at it: its window has room, the round is its flow's, and both deficits
cover its charge and lie within the ceiling (R206, R207). -/
structure State.Releasable (s : State) (k : Nat) (r : Req) : Prop where
  room : (s.drr k).occ < s.drrWindow k
  round : (s.drr k).round = [r.ten]
  flow : (partCharge r : Int) ≤ (s.flow (s.drr k) r.ten).deficit
  flowCeiling : (s.flow (s.drr k) r.ten).deficit ≤ s.ceiling r.ten
  sub : (partCharge r : Int) ≤ ((s.flow (s.drr k) r.ten).sub r.tint (s.ceiling r.ten)).deficit
  subCeiling : ((s.flow (s.drr k) r.ten).sub r.tint (s.ceiling r.ten)).deficit ≤ s.ceiling r.ten

theorem State.drrGo_releases {s : State} {k key : Nat} {p : Part} {r : Req} (hws : s.waitingAt k = [(key, p, r)])
    (h : s.Releasable k r) (fuel n : Nat) : ∃ d, State.drrGo (fuel + 1) (n + 1) s k =
      State.drrGo fuel n ((s.setDrr k d).drrRelease key r) k := by
  have htint := State.visitTint_alone hws
  have hflow := h.flow.trans (s.visitFlow_deficit k r.ten h.flowCeiling)
  have hsub := s.visitSub_deficit k r.ten (htint.symm ▸ h.subCeiling)
  rw [htint] at hsub
  refine ⟨s.visitReleases k r.ten key r, ?_⟩
  rw [State.drrGo_succ, if_neg (by simp [h.room]), State.visitDrr_alone hws h.round, hws]
  dsimp only
  rw [htint, List.find?_cons_of_pos (by simp)]
  dsimp only
  rw [if_pos (by simp [hflow, h.sub.trans hsub])]
  rfl

/-- A stage that releases the only part that waits at it sends the part on along the path. -/
theorem exec_drrRelease_alone {k : Fin 1088} {s : State} {key : Nat} {p : Part} {r : Req}
    (hws : s.waitingAt k.val = [(key, p, r)]) (h : s.Releasable k.val r) (hp : s.Passes key p r) (hop : r.op ≠ 34) :
    Completes (.drrRelease k) s fun t => ∃ y, t.part? key = some y ∧ p.stage.rank < y.stage.rank := by
  have hexec : exec (.drrRelease k) s = .next (State.drrGo (4095 + 1) (3 + 1) s k.val) := rfl
  obtain ⟨d, hd⟩ := State.drrGo_releases hws h 4095 3
  rw [State.drrRelease, if_neg hop] at hd
  obtain ⟨-, -, hstage⟩ := State.mem_waitingAt.mp (hws ▸ List.mem_singleton_self (key, p, r))
  have honly : s.OnlyWaits k.val key := by
    intro x hx u hu hk
    have hmem : (x.1, x.2, u) ∈ s.waitingAt k.val := State.mem_waitingAt.mpr ⟨hx, hu, hk⟩
    rw [hws, List.mem_singleton] at hmem
    cases hmem
    exact ⟨rfl, hop⟩
  have hset : (s.setDrr k.val d).Passes key p r := ⟨hp.part, hp.req, hp.admits⟩
  have hmoved := State.drrPassed_onward hset hstage
  obtain ⟨y, hy, -, -, hrank⟩ := hmoved.brings hset
  have halone : ((s.setDrr k.val d).drrPassed key).AloneAt k.val key r (p.stage.rank + 1) :=
    ⟨⟨y, hy, hrank⟩, State.OnlyWaits.onward (s := s.setDrr k.val d) honly hset hop hmoved, hop⟩
  obtain ⟨z, hz, hlater⟩ := (halone.drrGo 4095 (n := 3)).part
  exact ⟨_, hexec.trans (congrArg _ hd), z, hz.part, hlater⟩

theorem Stage.ne_of_rank {a b : Stage} (h : a.rank < b.rank) : b ≠ a := by
  rintro rfl
  exact Nat.lt_irrefl _ h

/-- Settles O31, event by event. -/
theorem shapingEventsComplete : Obligations.ShapingEventsComplete := by
  unfold Obligations.ShapingEventsComplete
  refine ⟨?refill, ?marker, ?flow, ?gone, ?opens, ?shut, ?releases⟩
  case refill =>
    rintro half ten s p m hheld rfl rfl hold
    exact ⟨_, exec_markerRefill hheld, congrArg State.markers (State.refillMarker_new hold)⟩
  case marker =>
    rintro s d rest p m n tc tp hd hq hp hpen hm rfl htc htp
    have hcharged := State.debtMarker_policed (s := { s with debts := rest }) (n := d.bytes) hp hpen hm htc htp
    exact ⟨_, exec_debtCharge_own hd hq hcharged, rfl, rfl, rfl, rfl⟩
  case flow =>
    rintro s d rest q f u c hd hq hpen hf hu rfl
    obtain ⟨l, hl⟩ := State.debtFlow_some (s := { s with debts := rest }) hf hu d.bytes
    exact ⟨_, exec_debtCharge_shared hd hq hpen hl, rfl, rfl, rfl⟩
  case gone =>
    intro s d rest q hd hq hpen hf
    have hl := State.debtFlow_gone (s := { s with debts := rest }) hf d.tint d.bytes
    exact ⟨_, exec_debtCharge_shared hd hq hpen hl, rfl, rfl, rfl, rfl⟩
  case opens =>
    intro q s key p r hheld hp hr hopen hadmits
    have hexec := exec_gateRelease_one hheld hp hr
    rw [if_pos hopen] at hexec
    obtain ⟨y, hy, -, -, hrank⟩ := (State.enterQuire_onward ⟨hp, hr, hadmits⟩).part
    exact ⟨_, hexec, y, hy, Stage.ne_of_rank hrank⟩
  case shut =>
    intro q s key p r hheld hp hr hshut
    rw [exec_gateRelease_one hheld hp hr, hshut]
    rfl
  case releases =>
    rintro k s key p r f hws hp hr hop hroom hround rfl hflow hflowMax hsub hsubMax hadmits
    obtain ⟨t, ht, y, hy, hrank⟩ := exec_drrRelease_alone hws ⟨hroom, hround, hflow, hflowMax, hsub, hsubMax⟩
      ⟨hp, hr, hadmits⟩ hop
    exact ⟨t, ht, y, hy, Stage.ne_of_rank hrank⟩

end Sys2Proof.Machine

/-! # The records of the active bank (R217, R222) -/

namespace Sys2Proof.Machine

/-- A tick keeps what every command but a reset or a sheet boundary keeps: no part of it resets the core or begins a sheet. -/
theorem tick_keeps (s : State) : Kept false false 0x277c6523d s (tick s) := by
  have hrisen : Kept false false 0x277c6523d s (State.resetsRise { s with clk := s.clk.advance }) :=
    State.resetsRise_kept (by decide) (Kept.upd_clk (by decide) (.refl s))
  unfold tick
  refine .ite (.refl s) (.ite hrisen ?_)
  have htimers := State.idleTimers_kept (by decide) (State.feedJudge_kept (by decide) (State.lakeTimers_kept (by decide)
    (State.portTimers_kept (by decide) (State.stackTime_kept (by decide) hrisen))))
  have hcounted := fun d => State.countSlots_kept (by decide) (State.stepEnds_kept (by decide)
    (State.settleHalves_kept (by decide) (htimers d)))
  exact State.handOver_kept (by decide) (State.coresRest_kept (by decide) (State.settleTenants_kept (by decide)
    (State.crossings_kept (by decide) (hcounted _))))

/-- A command that neither resets the core nor begins a sheet keeps the records; PORST_N is one that resets the core. -/
theorem exec_sameRecords {i : Instr} (hi : i.changesBank = false) {s t : State} (h : exec i s = .next t) :
    SameRecords s.bank t.bank :=
  have hne : i ≠ .powerOnReset := fun e => by rw [e] at hi; cases hi
  (exec_next_kept hne h).bank hi

/-- Settles O8: a tick keeps the records, and of the commands only those that may reset the core or begin a sheet do not. -/
theorem recordsChangeOnlyAtABoundary : Obligations.RecordsChangeOnlyAtABoundary := by
  unfold Obligations.RecordsChangeOnlyAtABoundary
  intro s t h
  obtain ⟨-, rfl⟩ | ⟨c, rest, hq, h⟩ := step_cases h
  · exact .inl ((tick_keeps s).bank rfl)
  · cases hc : c.changesBank with
    | false =>
      have hsame := exec_sameRecords hc h
      exact .inl hsame
    | true =>
      refine .inr ⟨c, rest, hq, ?_⟩
      unfold Instr.changesBank Instr.resetsCore at hc
      split at hc
      · trivial
      · split at hc <;> simp_all

end Sys2Proof.Machine

/-! # Mordant resets and trials (R241, R489, R492, R504, R509) -/

namespace Sys2Proof.Machine

/-- What a Mordant reset leaves of a state (R241, R489); that the queued stores are lost is assumption 97. -/
structure State.MordantReset (s : State) (code : Nat) (t : State) : Prop where
  sets : t.sets = []
  stores : t.stores = []
  serviceq : t.serviceq = []
  firmware : t.boot.firmware = false
  mordantRst : t.boot.mordantRst = true
  mrstAt : t.boot.mrstAt = s.clk.ticks
  rstBusy : t.regs.rstBusy = s.regs.rstBusy ||| 2 ^ 20
  lastrst : fld (Tab.num t.boot.bkp 0) 8 4 = code
  tickets : t.tickets = s.tickets
  pages : t.pages = s.pages
  bank : t.bank = s.bank

/-- The sets that a Mordant reset discards touch supplies and channels only, so what its source is recorded as stays. -/
theorem State.mordantReset_discards (s : State) {code : Nat} (hc : code < 16) :
    s.MordantReset code (s.mordantReset code) := by
  have hdropped : Kept false false 0x60000 (s.countReset code)
      ((s.countReset code).sets.foldl State.dropSet (s.countReset code)) :=
    Kept.foldl (fun _ c h => State.dropSet_kept (by decide) h c) _ _ (.refl _)
  have hkept : Kept false false 0x60004 s ((s.countReset code).sets.foldl State.dropSet (s.countReset code)) :=
    Kept.more (by decide) (State.countReset_kept (by decide) (.refl s) code) hdropped
  have hlast := (congrArg (fun b : Boot => fld (Tab.num b.bkp 0) 8 4) (hdropped.same .boot)).trans (s.countReset_lastrst hc)
  unfold State.mordantReset
  dsimp only at hlast ⊢
  revert hkept hlast
  generalize (s.countReset code).sets.foldl State.dropSet (s.countReset code) = v
  intro hkept hlast
  have hclk : v.clk = s.clk := hkept.same .clk
  have hregs : v.regs = s.regs := hkept.same .regs
  exact {
    sets := rfl, stores := rfl, serviceq := rfl, firmware := rfl, mordantRst := rfl
    mrstAt := congrArg Clock.ticks hclk
    rstBusy := by rw [← hregs]
    lastrst := hlast
    tickets := hkept.same .tickets
    pages := hkept.same .pages
    bank := hkept.same .bank }

theorem mordantWatchdogExpiry_resets {s : State} (hup : s.mordantUp = true) :
    exec .mordantWatchdogExpiry s = .next (s.mordantReset 5) := by
  show execMordantWatchdogExpiry s = _
  unfold execMordantWatchdogExpiry
  rw [if_pos hup]

theorem handoverTimeout_resets {s : State} {since : Nat} (hup : s.mordantUp = true) (hp : s.boot.pauseAt = some since)
    (hover : since + ms 20 ≤ s.clk.ticks) : exec .handoverTimeout s = .next (s.mordantReset 7) := by
  show execHandoverTimeout s = _
  unfold execHandoverTimeout
  rw [hp]
  dsimp only
  rw [if_pos (by simp [hup, hover])]

/-- SWRST with its KEY and bit 20 alone starts one block reset, that of Mordant. -/
theorem swrstMordant_resets {src : Fin 16} {v : BitVec 32} {s : State} (hp : s.pins.porst = false)
    (hcore : s.boot.coreReset = false) (hright : (s.ownerSrc src.val || s.debugSrc src.val) = true)
    (hv : v.toNat = 0xA5100000) (hidle : bitAt s.regs.rstBusy 20 = false) :
    exec (.swrstMordant src v) s = .next (s.mordantReset 6) := by
  show s.swrst src.val v.toNat = _
  unfold State.swrst
  rw [hv, State.regWrite_taken hp (by rw [hright]; decide) (.inl hcore), show swrstBlocks 0xA5100000 = [20] by decide]
  show Host.Outcome.next (s.startReset 20) = _
  unfold State.startReset
  rw [if_neg (by simp [hidle]), if_pos rfl]

/-- The slot whose image runs (BKP1). -/
def State.running (s : State) : Slot := s.slot (fld (Tab.num s.boot.bkp 1) 0 1)

/-- A trial that has run 60 s ends, and raises MIN_SVN or leaves the device as it is (R504). -/
theorem trialEnd_ends {s : State} (hup : s.mordantUp = true) (htrial : bitAt (Tab.num s.boot.bkp 1) 1 = true)
    (hover : s.boot.trialAt + 60000000000 ≤ s.now) : Completes .trialEnd s fun t =>
      if s.running.raise = true ∧ s.boot.dev.minSvn < s.running.svn then t.boot.dev.minSvn = s.running.svn
      else t.boot.dev = s.boot.dev ∧ t.boot.bkp = (s.setBkp 1 1 1 0).boot.bkp := by
  have hexec : exec .trialEnd s = execTrialEnd s := rfl
  unfold execTrialEnd at hexec
  rw [if_neg (by simp [hup, htrial, hover])] at hexec
  dsimp only at hexec
  rw [State.setBkp_dev, ← State.running] at hexec
  by_cases hraise : s.running.raise = true ∧ s.boot.dev.minSvn < s.running.svn
  · rw [if_pos (by simp [hraise])] at hexec
    exact ⟨_, hexec, (if_pos hraise).mpr rfl⟩
  · rw [if_neg (by simpa using hraise)] at hexec
    exact ⟨_, hexec, (if_neg hraise).mpr ⟨rfl, rfl⟩⟩

/-- Settles O43: each of the three sources runs the one Mordant reset, with its own code. -/
theorem mordantResetsComplete : Obligations.MordantResetsComplete := by
  unfold Obligations.MordantResetsComplete
  refine ⟨fun i s code hi => ?resets, fun s x hup htrial hover hx => ?trial⟩
  case resets =>
    have hall : exec i s = .next (s.mordantReset code) ∧ code < 16 := by
      obtain ⟨rfl, hup, rfl⟩ | ⟨rfl, hup, ⟨since, hp, hover⟩, rfl⟩ | ⟨⟨src, v, rfl, hp, hcore, hright, hv, hidle⟩, rfl⟩ := hi
      · exact ⟨mordantWatchdogExpiry_resets hup, by decide⟩
      · exact ⟨handoverTimeout_resets hup hp hover, by decide⟩
      · exact ⟨swrstMordant_resets hp hcore hright hv hidle, by decide⟩
    obtain ⟨hexec, hc⟩ := hall
    have h := s.mordantReset_discards hc
    exact ⟨_, hexec, h.sets, h.stores, h.serviceq, h.firmware, h.mordantRst, h.mrstAt, h.rstBusy, h.lastrst, h.tickets,
      h.pages, h.bank⟩
  case trial =>
    subst hx
    exact trialEnd_ends hup htrial hover

end Sys2Proof.Machine

/-! # Record commands (R224, R225) -/

namespace Sys2Proof.Machine

/-- An accepted command whose row stages one record behind its checks, and of the state changes at most the sets. -/
theorem State.accepts_record {s : State} {i : Instr} {c : Cmd} {m : MailRow} {w : Staged} {pos : Nat} {r : List Nat}
    {l : List (Bool × Nat × Nat × Nat)} {sets : List ChangeSet} (hi : i.mail = some m)
    (he : exec i s = s.serve m.page m.op m.sub m.body) (h : s.accepts i c)
    (hb : m.body c s.nextId (s.taken m c) = chain l (.staged [(w, pos)] r { s.taken m c with sets := sets })) :
    Completes i s fun t => t.hasStaged m.page s.nextId [w] ∧ t.bank = s.bank := by
  obtain ⟨_, t, hexec, hst, hk⟩ := s.accepts_chain_staged hi he h hb rfl
  have hbank : t.bank = s.bank := hk.same .bank
  exact ⟨t, hexec, hst, hbank⟩

/-- TINT_SET of INDEX 16 stages the tints of the marks. -/
theorem tintSetBody_marks {c : Cmd} (hc : c.index = 16) (tk : Nat) (s : State) : ∃ l, tintSetBody c tk s =
    chain l (.staged [(.markTints (c.b 8) (c.b 9), 0)] [] s) := by
  unfold tintSetBody
  exact ⟨_, if_pos hc⟩

/-- TINT_SET of any other INDEX stages a tint's record. -/
theorem tintSetBody_tint {c : Cmd} (hc : c.index ≠ 16) (tk : Nat) (s : State) : ∃ l, tintSetBody c tk s =
    chain l (.staged [(.tint c.index (Tint.ofBits (c.record 8)), 0)] [] s) := by
  unfold tintSetBody
  exact ⟨_, if_neg hc⟩

/-- Settles O51: each row's checks end in the one record it stages; TINT_SET has two forms. -/
theorem recordCommandsStage : Obligations.RecordCommandsStage := by
  unfold Obligations.RecordCommandsStage
  intro i p s c w h hw
  obtain ⟨rfl, rfl⟩ | ⟨rfl, hc, rfl⟩ | ⟨rfl, hc, rfl⟩ | hw := hw
  · exact s.accepts_record (i := .regionSet p) rfl rfl h rfl
  · obtain ⟨_, hb⟩ := tintSetBody_tint hc s.nextId (s.taken ⟨p.val, 0x20, anySub, tintSetBody⟩ c)
    exact s.accepts_record (i := .tintSet p) rfl rfl h hb
  · obtain ⟨_, hb⟩ := tintSetBody_marks hc s.nextId (s.taken ⟨p.val, 0x20, anySub, tintSetBody⟩ c)
    exact s.accepts_record (i := .tintSet p) rfl rfl h hb
  · obtain ⟨rfl, rfl⟩ | ⟨rfl, rfl⟩ | ⟨rfl, rfl⟩ | ⟨rfl, rfl⟩ | ⟨rfl, rfl⟩ | ⟨rfl, rfl⟩ | ⟨rfl, rfl⟩ | ⟨rfl, rfl⟩ |
      ⟨rfl, rfl⟩ | ⟨rfl, rfl⟩ | ⟨rfl, rfl⟩ | ⟨rfl, rfl⟩ | ⟨rfl, rfl⟩ := hw <;>
    exact s.accepts_record rfl rfl h rfl

end Sys2Proof.Machine

/-! # Read data on its way back (R282, R289, R317-R321, R332) -/

namespace Sys2Proof.Machine

/-! ## Tiles that take up their old value (R289) -/

/-- A drain folds contributions into the sum; the old value it starts from is not its matter. -/
theorem Tile.drain_old (n : Nat) : ∀ t : Tile, (Tile.drain n t).oldReady = t.oldReady ∧ (Tile.drain n t).got = t.got := by
  induction n with
  | zero => exact fun _ => ⟨rfl, rfl⟩
  | succ n ih =>
    intro t
    rw [Tile.drain]
    split
    · exact ⟨rfl, rfl⟩
    · split
      · exact ⟨rfl, rfl⟩
      · exact ih _

/-- A tile that starts has taken up its old value, and holds no word of it any more. -/
theorem Tile.start_old (t : Tile) : t.start.oldReady = true ∧ t.start.got = [] := by
  unfold Tile.start
  dsimp only
  split
  · exact ⟨rfl, rfl⟩
  · exact Tile.drain_old 64 _

/-- Words of a tile's old value arrive, from word n of its page on; once the value is whole the tile starts (R289). -/
def Tile.collect (t : Tile) (n : Nat) (ws : List RWord) : Tile :=
  let u := { t with got := putWords t.got n ws }
  if !t.oldReady && (readBursts t.region t.addr t.bytes).all (fun b =>
      (List.range 4).all (fun i => (Tab.find? u.got (4 * b + i)).isSome)) then u.start else u

theorem Tile.collect_cases (t : Tile) (n : Nat) (ws : List RWord) :
    t.collect n ws = { t with got := putWords t.got n ws } ∨ (t.collect n ws).oldReady = true ∧ (t.collect n ws).got = [] := by
  unfold Tile.collect
  dsimp only
  split
  · exact .inr (Tile.start_old _)
  · exact .inl rfl

/-! ## Where the words of a read go -/

section
variable {l : Fin 1024} {flips : List (BitVec 72)} {s : State} {e : Entry} {rest : List Entry}
  (hin : (s.leaf l.val).inflight = e :: rest)
include hin

theorem readDataArrival_part {req piece : Nat} (hsrc : e.src = .part req piece) : exec (.readDataArrival l flips) s =
    .next (((s.setLeaf l.val { s.leaf l.val with inflight := rest }).readWords l.val e.la (flipped e.raw flips) 1 0x1100
      e.ten e.sid e.at_ true true).toRequest l.val e req (decodedWords (flipped e.raw flips))) := by
  show execReadDataArrival l flips s = _
  simp only [execReadDataArrival, hin, hsrc] <;> rfl

theorem readDataArrival_merge (hsrc : e.src = .merge) : exec (.readDataArrival l flips) s =
    .next (((s.setLeaf l.val { s.leaf l.val with inflight := rest }).readWords l.val e.la (flipped e.raw flips) 0 0x1100
      e.ten e.sid e.at_ true false).mergeRead l.val e.la (flipped e.raw flips)) := by
  show execReadDataArrival l flips s = _
  simp only [execReadDataArrival, hin, hsrc] <;> rfl

variable {u : State} (hu : u = (s.setLeaf l.val { s.leaf l.val with inflight := rest }).readWords l.val e.la
  (flipped e.raw flips) 1 0x1100 e.ten e.sid e.at_ true true)
include hu

/-- The words of an accumulate are held as its old value (R282). -/
theorem readDataArrival_accu {job : Nat} (hsrc : e.src = .accu job) : exec (.readDataArrival l flips) s =
    match Tab.find? u.lake.accus job with
    | none => .next u
    | some j => .next { u with lake := { u.lake with
        accus := Tab.put u.lake.accus job { j with old := some (decodedWords (flipped e.raw flips)) } } } := by
  subst hu
  show execReadDataArrival l flips s = _
  simp only [execReadDataArrival, hin, hsrc] <;> rfl

/-- The words of a tile are collected at their place in the page. -/
theorem readDataArrival_tile {id : Nat} (hsrc : e.src = .tile id) : exec (.readDataArrival l flips) s =
    match Tab.find? u.lake.tiles id with
    | none => .next u
    | some x => .next { u with lake := { u.lake with
        tiles := Tab.put u.lake.tiles id (x.collect (u.relAddr x.qbase x.qk l.val e.la % 4096 / 8)
          (decodedWords (flipped e.raw flips))) } } := by
  subst hu
  show execReadDataArrival l flips s = _
  simp only [execReadDataArrival, hin, hsrc] <;> rfl

end

/-- Settles O23, by what asked for the words. -/
theorem readDataIsPassedOn : Obligations.ReadDataIsPassedOn := by
  unfold Obligations.ReadDataIsPassedOn
  refine ⟨fun l flips s e rest req piece hin => readDataArrival_part hin, fun l flips s e rest => readDataArrival_merge,
    fun l flips s u e rest job j hin hsrc hu hj => ?accu, fun l flips s u e rest id x hin hsrc hu hx => ?tile,
    fun l flips s u e rest id hin hu hgone => ?gone, fun raw i d c h => ?decoded⟩
  case accu =>
    have hexec := readDataArrival_accu (flips := flips) hin hu hsrc
    rw [hj] at hexec
    exact ⟨_, hexec, rfl, rfl, Tab.find?_put_self _ _ _, fun i hi => Tab.find?_put_other _ _ hi⟩
  case tile =>
    have hexec := readDataArrival_tile (flips := flips) hin hu hsrc
    rw [hx] at hexec
    refine ⟨_, hexec, rfl, _, Tab.find?_put_self _ _ _, ?_⟩
    obtain hcollected | ⟨hready, hgot⟩ := x.collect_cases (u.relAddr x.qbase x.qk l.val e.la % 4096 / 8)
      (decodedWords (flipped e.raw flips))
    · exact ⟨fun _ => hcollected, fun h => .inl (by rw [hcollected] at h; exact h)⟩
    · exact ⟨fun h => absurd (hready.symm.trans h) (by decide), fun _ => .inr hgot⟩
  case gone =>
    obtain ⟨hsrc, hnone⟩ | ⟨hsrc, hnone⟩ := hgone
    · rw [readDataArrival_accu hin hu hsrc, hnone]
    · rw [readDataArrival_tile hin hu hsrc, hnone]
  case decoded =>
    unfold decodedWords
    rw [List.getElem?_map, h]
    rfl

end Sys2Proof.Machine

/-! # The merge buffer's timeout (R330-R332) -/

namespace Sys2Proof.Machine

/-! ## What the leaves' queues hold -/

/-- What a queue entry asks of its leaf. -/
def Entry.asked (e : Entry) : Bool × Nat × Nat × List SWord := (e.wr, e.la, e.nb, e.words)

/-- Every leaf's queue is as it was. -/
def State.SameQueues (s t : State) : Prop := ∀ j, (t.leaf j).queue = (s.leaf j).queue

namespace State.SameQueues

theorem refl (s : State) : s.SameQueues s := fun _ => rfl

theorem trans {s t u : State} (h : s.SameQueues t) (g : t.SameQueues u) : s.SameQueues u := fun j => (g j).trans (h j)

theorem of_eq {s t : State} (h : t.leaves = s.leaves) : s.SameQueues t := fun j => by rw [State.leaf_congr h]

theorem foldl {α : Type} {f : State → α → State} (hf : ∀ (u : State) (a : α), u.SameQueues (f u a)) (l : List α) (s : State) :
    s.SameQueues (l.foldl f s) :=
  List.foldlRecOn (motive := fun u => s.SameQueues u) l f (refl s) fun u hu a _ => hu.trans (hf u a)

theorem freshBanks (s : State) (l t first : Nat) : s.SameQueues (s.freshBanks l t first) := fun j => by
  unfold State.freshBanks
  by_cases h : j = l
  · rw [h, State.setLeaf_leaf_self]
  · rw [State.setLeaf_leaf_other _ _ h]

theorem exitSR (s : State) (k : Nat) (cs : List Nat) : s.SameQueues (s.exitSR k cs) := by
  have hrows : ∀ u : State, u.SameQueues (u.freshRows k cs) := fun u =>
    of_eq ((State.freshRows_kept (Nat.or_self _) (.refl u) k cs).same .leaves)
  have hclock : ∀ (u : State) (x : StackClk), u.SameQueues (u.setSck k x) := fun _ _ => of_eq rfl
  unfold State.exitSR
  dsimp only
  refine ((foldl (fun u c => foldl (fun v i => ?_) _ u) cs s).trans (hrows _)).trans (hclock _ _)
  exact (freshBanks v _ _ _).trans (of_eq rfl)

theorem ite {s t u : State} {c : Prop} [Decidable c] (h : s.SameQueues t) (g : s.SameQueues u) :
    s.SameQueues (if c then t else u) := by
  split
  · exact h
  · exact g

theorem wakeStack (s : State) (k : Nat) : s.SameQueues (s.wakeStack k) := by
  unfold State.wakeStack
  exact ite (refl s) (ite (refl s) (ite (ite (exitSR s k _) (refl s)) (of_eq rfl)))

theorem wakeIf (s : State) (k : Nat) (c : Prop) [Decidable c] : s.SameQueues (if c then s.wakeStack k else s) :=
  ite (wakeStack s k) (refl s)

end State.SameQueues

/-- An entry is queued as its leaf's youngest, and changes nothing that the others ask. -/
theorem State.pushEntry_asked (s : State) (l : Nat) (e : Entry) :
    ((s.pushEntry l e).leaf l).queue.map Entry.asked = (s.leaf l).queue.map Entry.asked ++ [e.asked] := by
  have hmark : ∀ (hits : Entry → Bool) (q : List Entry),
      (q.map fun x => if hits x then { x with haz := true } else x).map Entry.asked = q.map Entry.asked := by
    intro hits q
    rw [List.map_map]
    refine List.map_congr_left fun x _ => ?_
    show Entry.asked (if hits x then { x with haz := true } else x) = _
    split <;> rfl
  have hset : ∀ (u : State) (x : Leaf) (n : Nat), ((({ u.setLeaf l x with nextId := n }).claims l).leaf l).queue = x.queue :=
    fun u x n => (State.claims_queue _ l l).trans (congrArg Leaf.queue (u.setLeaf_leaf_self l x))
  unfold State.pushEntry
  dsimp only
  rw [State.SameQueues.wakeIf, hset, List.map_append, hmark]
  rfl

/-! ## A flush -/

/-- The merge entries of a leaf once one is flushed (R331): gone where its burst is whole, else closed until its read is back. -/
def Care.flushed (c : Care) (m : MergeEnt) : List MergeEnt :=
  if m.full then c.merge.filter (fun x => !(x.la == m.la && !x.closed))
  else c.merge.map (fun x => if x.la == m.la && !x.closed then { x with closed := true } else x)

theorem State.flushEnt_cares (s : State) (l : Nat) (m : MergeEnt) :
    (s.flushEnt l m).cares = (s.setCare l { s.care l with merge := (s.care l).flushed m }).cares := by
  have hpush : ∀ (u : State) (e : Entry), (u.pushEntry l e).cares = u.cares := fun u e =>
    (State.pushEntry_kept (Nat.or_self _) (.refl u) l e).same .cares
  unfold State.flushEnt Care.flushed
  dsimp only
  split
  · rw [hpush]
  · rw [hpush, hpush]

/-- A flush queues one write of a whole burst, and a read and the write behind it of any other (R331, R332). -/
theorem State.flushEnt_asked (s : State) (l : Nat) (m : MergeEnt) : ((s.flushEnt l m).leaf l).queue.map Entry.asked =
    (s.leaf l).queue.map Entry.asked ++
      if m.full then [(true, m.la, 1, m.words)] else [(false, m.la, 1, []), (true, m.la, 1, [])] := by
  unfold State.flushEnt
  dsimp only
  split
  · rw [State.pushEntry_asked, State.setCare_leaf_same]
    rfl
  · rw [State.pushEntry_asked, State.pushEntry_asked, State.setCare_leaf_same, List.append_assoc]
    rfl

theorem mergeEntryTimeout_flushes {l : Fin 1024} {s : State} {m : MergeEnt} (hm : (s.care l.val).oldestEnt = some m)
    (hdue : m.born + s.setting 0x400B (stackOf l.val) * 10 ≤ s.clk.ticks) (hstop : s.stopping = false)
    (hroom : 2 ≤ s.freeOf (stackOf l.val) l.val) : exec (.mergeEntryTimeout l) s = .next (s.flushEnt l.val m) := by
  show execMergeEntryTimeout l s = _
  unfold execMergeEntryTimeout
  rw [hm]
  dsimp only
  rw [if_neg (by simp [hdue, hstop, Nat.not_lt.mpr hroom])]

end Sys2Proof.Machine

/-! # Accumulates, tiles and watermarks (R282, R291, R292, R310) -/

namespace Sys2Proof.Machine

theorem bitAt_eq_testBit (b i : Nat) : bitAt b i = b.testBit i := by
  unfold bitAt fld
  rw [Nat.testBit_eq_decide_div_mod_eq]
  rfl

theorem bitAt_or (a b i : Nat) : bitAt (a ||| b) i = (bitAt a i || bitAt b i) := by
  simp only [bitAt_eq_testBit, Nat.testBit_or]

/-- Setting a bit that is set already changes nothing. -/
theorem or_two_pow_of_bitAt {b i : Nat} (h : bitAt b i = true) : b ||| 2 ^ i = b := by
  rw [bitAt_eq_testBit] at h
  refine Nat.eq_of_testBit_eq fun j => ?_
  rw [Nat.testBit_or, Nat.testBit_two_pow]
  by_cases e : i = j
  · rw [← e, h, Bool.true_or]
  · simp [e]

/-! ## What Lake's own writes leave of its accumulates and tiles -/

/-- A trip records its causes in its arming's digest, the first like any later one, whose digest has the bit of a trip already. -/
theorem State.trip_lake (s : State) (i : Nat) (a : Arming) (causes addr : Nat) {d : Digest}
    (hd : d = Tab.get Digest.reset s.lake.digests i) : ∃ n, (s.trip i a causes addr).lake =
      { s.lake with digests := Tab.put s.lake.digests i { d with flags := d.flags ||| 2 ||| causes * 4 }, dumpAt := n } := by
  have hdump : ∀ (u : State) (d : Digest) (n : Nat), (u.dump a d n).lake = u.lake := fun u d n =>
    (State.dump_kept (Nat.or_self _) (.refl u) a d n).same .lake
  have hnotify : ∀ (u : State) (kind sid ten : Nat) (body : List Nat), (u.notify kind sid ten body).lake = u.lake :=
    fun u kind sid ten body => (State.notify_kept (Nat.or_self _) (.refl u) kind sid ten body).same .lake
  subst hd
  unfold State.trip
  dsimp only
  by_cases htripped : bitAt (Tab.get Digest.reset s.lake.digests i).flags 1 = true
  · rw [if_pos htripped]
    have hset : (Tab.get Digest.reset s.lake.digests i).flags ||| 2 = (Tab.get Digest.reset s.lake.digests i).flags :=
      or_two_pow_of_bitAt (i := 1) htripped
    exact ⟨s.lake.dumpAt, by rw [hset]⟩
  · rw [if_neg htripped]
    split
    all_goals
      simp only [State.fresh_lake, State.note_lake, hnotify]
      split
      · exact ⟨_, by rw [hdump]⟩
      · exact ⟨_, rfl⟩

/-- Lake's accumulates and tiles are as they were. -/
structure State.SameEngines (s t : State) : Prop where
  accus : t.lake.accus = s.lake.accus
  tiles : t.lake.tiles = s.lake.tiles

namespace State.SameEngines

theorem refl (s : State) : s.SameEngines s := ⟨rfl, rfl⟩

theorem trans {s t u : State} (h : s.SameEngines t) (g : t.SameEngines u) : s.SameEngines u :=
  ⟨g.accus.trans h.accus, g.tiles.trans h.tiles⟩

theorem of_eq {s t : State} (h : t.lake = s.lake) : s.SameEngines t := ⟨congrArg Lake.accus h, congrArg Lake.tiles h⟩

theorem foldl {α : Type} {f : State → α → State} (hf : ∀ (u : State) (a : α), u.SameEngines (f u a)) (l : List α) (s : State) :
    s.SameEngines (l.foldl f s) :=
  List.foldlRecOn (motive := fun u => s.SameEngines u) l f (refl s) fun u hu a _ => hu.trans (hf u a)

theorem trip (s : State) (i : Nat) (a : Arming) (causes addr : Nat) : s.SameEngines (s.trip i a causes addr) := by
  obtain ⟨n, h⟩ := s.trip_lake i a causes addr rfl
  exact ⟨by rw [h], by rw [h]⟩

theorem takeIn (s : State) (i : Nat) (a : Arming) (r : Region) (x : Taken) : s.SameEngines (s.takeIn i a r x) := by
  unfold State.takeIn
  dsimp only
  split
  · exact ⟨rfl, rfl⟩
  · refine SameEngines.trans ?_ (trip _ i a _ _)
    exact ⟨rfl, rfl⟩

theorem digest (s : State) (ten regIdx step : Nat) (r : Region) (xs : List Taken) :
    s.SameEngines (s.digest ten regIdx step r xs) := by
  unfold State.digest
  refine foldl (fun u (i, a) => ?_) _ s
  dsimp only
  split
  · exact foldl (fun v x => takeIn v i a r x) xs u
  · exact refl u

theorem lakeWrite (s : State) (base k ten sid tint port arrival target regIdx step : Nat) (r : Region) (fw : Fwd) (src : Src) :
    s.SameEngines (s.lakeWrite base k ten sid tint port arrival target regIdx step r fw src) := by
  have hqueued : ∀ u : State, u.SameEngines ((s.writePieces base k fw.bursts).foldl (fun s x =>
      if x.narrow then s.mergeBurst x.leaf x.la x.words 0 false ten sid tint port arrival target
      else s.enqueue x.leaf (s.mkEntry x.leaf x.la x.nb true true src x.words ten sid tint arrival target port)) u) := by
    refine foldl (fun u x => ?_) _
    split
    · exact of_eq ((State.mergeBurst_kept (Nat.or_self _) (.refl u) _ _ _ _ _ _ _ _ _ _ _).same .lake)
    · exact of_eq ((State.enqueue_kept (Nat.or_self _) (.refl u) _ _).same .lake)
  unfold State.lakeWrite
  dsimp only
  split
  · refine ((hqueued s).trans ?_).trans (digest _ ten regIdx step r fw.elems)
    exact of_eq rfl
  · exact (hqueued s).trans (of_eq rfl)

end State.SameEngines

/-! ## Accumulates (R282) -/

theorem Tab.ne_of_find?_none {α : Type} {t : Tab α} {k : Nat} (h : Tab.find? t k = none) : ∀ p ∈ t, p.1 ≠ k := by
  induction t with
  | nil => exact fun _ hp => nomatch hp
  | cons q t ih =>
    rw [Tab.find?] at h
    split at h
    · cases h
    · rename_i hq
      intro p hp
      obtain rfl | hp := List.mem_cons.mp hp
      · exact hq
      · exact ih h p hp

/-- Only jobs that stand in the list are asked for, so none joins it. -/
theorem State.askAccu_none {s : State} {id : Nat} (h : Tab.find? s.lake.accus id = none) :
    Tab.find? s.askAccu.lake.accus id = none := by
  unfold State.askAccu
  refine List.foldlRecOn (motive := fun u : State => Tab.find? u.lake.accus id = none) _ _ h fun u hu x hx => ?_
  have hne : x.1 ≠ id := Tab.ne_of_find?_none h x hx
  dsimp only
  split
  · exact hu
  · have henq : ∀ (v : State) (l : Nat) (e : Entry), (v.enqueue l e).lake = v.lake := fun v l e =>
      (State.enqueue_kept (Nat.or_self _) (.refl v) l e).same .lake
    rw [henq]
    exact (Tab.find?_put_other _ _ hne.symm).trans hu

/-- An accumulate leaves the list. -/
def State.dropAccu (s : State) (id : Nat) : State := { s with lake := { s.lake with accus := Tab.erase s.lake.accus id } }

section
variable {k : Fin 16} {s : State} {id : Nat} {j : AccuJob}
  (hfirst : Tab.first s.lake.accus (fun _ j => j.stack == k.val && j.old.isSome) = some (id, j))
include hfirst

theorem accuUpdate_writes {base q : Nat} {fw : Fwd} (hres : s.accuResult j (j.old.getD []) = some (base, q, fw))
    (hroom : s.writeRoom base q fw = true) : Completes (.accuUpdate k) s fun t => Tab.find? t.lake.accus id = none ∧
      t = ((s.dropAccu id).lakeWrite base q j.ten j.sid j.tint j.port j.arrival j.target j.regIdx j.step j.region fw
        (.accu id)).askAccu := by
  refine ⟨_, ?_, State.askAccu_none ?_, rfl⟩
  · show execAccuUpdate k s = _
    unfold execAccuUpdate
    rw [hfirst]
    dsimp only
    rw [hres]
    dsimp only
    rw [if_neg (by simp [hroom])]
    rfl
  · rw [(State.SameEngines.lakeWrite _ _ _ _ _ _ _ _ _ _ _ _ _ _).accus]
    exact Tab.find?_erase_self _ _

theorem accuUpdate_drops (hgone : s.quireAt j.leaf = none) : Completes (.accuUpdate k) s fun t =>
    Tab.find? t.lake.accus id = none ∧ t.mem = s.mem ∧ t.chk = s.chk := by
  have hkept : Kept false false 0x457600 (s.dropAccu id) (s.dropAccu id).askAccu :=
    State.askAccu_kept (Nat.or_self _) (.refl _)
  refine ⟨(s.dropAccu id).askAccu, ?_, State.askAccu_none (Tab.find?_erase_self _ _), hkept.same .mem, hkept.same .chk⟩
  have hres : s.accuResult j (j.old.getD []) = none := by
    unfold State.accuResult
    rw [hgone]
  show execAccuUpdate k s = _
  unfold execAccuUpdate
  rw [hfirst]
  dsimp only
  rw [hres]
  rfl

end

/-! ## Tiles (R291, R292) -/

theorem State.closeTile_tiles (s : State) (id : Nat) (t : Tile) (fw : Fwd) (kind flags : Nat) :
    (s.closeTile id t fw kind flags).lake.tiles = Tab.erase s.lake.tiles id := by
  have hnote : ∀ u : State, (u.tileNote kind t flags).lake = u.lake := fun u =>
    (State.tileNote_kept (Nat.or_self _) (.refl u) kind t flags).same .lake
  unfold State.closeTile
  dsimp only
  rw [hnote, (State.SameEngines.lakeWrite _ _ _ _ _ _ _ _ _ _ _ _ _ _).tiles]

theorem accoTileRetire_closes {k : Fin 16} {s : State} {id : Nat} {x : Tile}
    (hfirst : Tab.first s.lake.tiles (fun _ t => t.stack == k.val && t.oldReady && !t.timedOut && decide (t.ccnt < t.next)) =
      some (id, x)) (hroom : s.writeRoom x.qbase x.qk (x.result false) = true) :
    Completes (.accoTileRetire k) s fun t => t.lake.tiles = Tab.erase s.lake.tiles id := by
  refine ⟨_, ?_, (s.cntT x.ten 9 1).closeTile_tiles id x (x.result false) 1 (x.sum.any (fun (_, st) => st)).toNat⟩
  show execAccoTileRetire k s = _
  unfold execAccoTileRetire
  rw [hfirst]
  dsimp only
  rw [if_neg (by simp [hroom])]

theorem State.stainEvent_lake (s : State) (leaf la cause synd ten sid words : Nat) :
    (s.stainEvent leaf la cause synd ten sid words).lake = s.lake :=
  (State.stainEvent_kept (Nat.or_self _) (.refl s) leaf la cause synd ten sid words).same .lake

/-- A stain event sets the bit of its cause in STAIN_STAT (R323). -/
theorem State.stainEvent_stat (s : State) (leaf la cause synd ten sid words : Nat) :
    bitAt (s.stainEvent leaf la cause synd ten sid words).regs.stainStat (cause - 1) = true := by
  show bitAt (_ ||| 2 ^ (cause - 1) ||| _) (cause - 1) = true
  rw [bitAt_or, bitAt_or, bitAt_eq_testBit (2 ^ _), Nat.testBit_two_pow_self, Bool.or_true, Bool.true_or]

section
variable {k : Fin 16} {s u : State} (hu : u = s.expireTiles k.val)
include hu

theorem accoTileTimeout_closes {id : Nat} {x : Tile} (hfirst : Tab.first u.lake.tiles (fun _ t => t.stack == k.val &&
      t.timedOut && t.oldReady && u.writeRoom t.qbase t.qk (t.result true)) = some (id, x)) :
    Completes (.accoTileTimeout k) s fun t => t.lake.tiles = Tab.erase u.lake.tiles id ∧ bitAt t.regs.stainStat 5 = true := by
  subst hu
  have hexec : exec (.accoTileTimeout k) s = execAccoTileTimeout k s := rfl
  unfold execAccoTileTimeout at hexec
  dsimp only at hexec
  rw [hfirst] at hexec
  exact ⟨_, hexec, by rw [State.stainEvent_lake, State.closeTile_tiles], State.stainEvent_stat _ _ _ 6 _ _ _ _⟩

theorem accoTileTimeout_waits (hnone : Tab.first u.lake.tiles (fun _ t => t.stack == k.val && t.timedOut && t.oldReady &&
      u.writeRoom t.qbase t.qk (t.result true)) = none) : exec (.accoTileTimeout k) s = .next u := by
  subst hu
  show execAccoTileTimeout k s = _
  unfold execAccoTileTimeout
  dsimp only
  rw [hnone]

end

/-- Every overdue tile of the stack expires, and no other. -/
theorem State.expireTiles_tiles (s : State) (k : Nat) : (s.expireTiles k).lake.tiles =
    Tab.mapVals s.lake.tiles (fun _ t => if t.overdue k then t.expire else t) := by
  have hcount : ∀ due : Tab Tile, (due.foldl (fun s (_, t) => s.cntT t.ten 10 1) s).lake = s.lake := fun due =>
    List.foldlRecOn (motive := fun u : State => u.lake = s.lake) due _ rfl fun _ hu _ _ => hu
  unfold State.expireTiles
  dsimp only
  rw [hcount]

theorem State.expireTiles_overdue {s : State} {k id : Nat} {x : Tile} (hx : Tab.find? s.lake.tiles id = some x)
    (hover : x.overdue k = true) : Tab.find? (s.expireTiles k).lake.tiles id = some x.expire := by
  rw [State.expireTiles_tiles, Tab.find?_mapVals, hx, Option.map_some, if_pos hover]

/-! ## Watermarks (R310) -/

section
variable {a : Fin 16} {s : State} {r : Arming} {d : Digest} (hr : r = s.bank.arming a.val) (hvalid : r.valid = true)
  (hd : d = Tab.get Digest.reset s.lake.digests a.val) (hopen : bitAt d.flags 0 = false)
  (hstep0 : (s.tenSt r.ten).step0 % 2 ^ 32 ≠ r.step) (hstep1 : (s.tenSt r.ten).step1 % 2 ^ 32 ≠ r.step)
  (hleft : s.stepOpen r = false)
include hr hvalid hd hopen hstep0 hstep1 hleft

/-- The count of a step that is over is judged, and its digest is COMPLETE. -/
theorem watermarkClose_judges {u : State} (hu : u = if r.tcnt && d.count != r.ecount then s.trip a.val r 16 0 else s) {y : Digest}
    (hy : y = Tab.get Digest.reset u.lake.digests a.val) : exec (.watermarkClose a) s = .next { u with lake := { u.lake with
      digests := Tab.put u.lake.digests a.val { y with flags := y.flags ||| 1 } } } := by
  subst hy hu hd hr
  show execWatermarkClose a s = _
  unfold execWatermarkClose
  dsimp only
  rw [if_neg (by simpa [hvalid, hopen, hleft] using And.intro hstep0 hstep1)]

theorem watermarkClose_counted (hcount : r.tcnt = true → d.count = r.ecount) : exec (.watermarkClose a) s =
    .next { s with lake := { s.lake with digests := Tab.put s.lake.digests a.val { d with flags := d.flags ||| 1 } } } := by
  refine watermarkClose_judges hr hvalid hd hopen hstep0 hstep1 hleft (if_neg ?_).symm hd
  cases hc : r.tcnt with
  | false => exact Bool.false_ne_true
  | true => simp [hcount hc]

theorem watermarkClose_trips (htcnt : r.tcnt = true) (hcount : d.count ≠ r.ecount) :
    Completes (.watermarkClose a) s fun t => ∃ y, Tab.find? t.lake.digests a.val = some y ∧
      bitAt y.flags 0 = true ∧ bitAt y.flags 1 = true ∧ bitAt y.flags 6 = true := by
  obtain ⟨n, hlake⟩ := s.trip_lake a.val r 16 0 hd
  have hy : { d with flags := d.flags ||| 2 ||| 64 } = Tab.get Digest.reset (s.trip a.val r 16 0).lake.digests a.val := by
    rw [hlake]
    unfold Tab.get
    rw [Tab.find?_put_self]
    rfl
  refine ⟨_, watermarkClose_judges hr hvalid hd hopen hstep0 hstep1 hleft (if_pos (by simp [htcnt, hcount])).symm hy, _,
    Tab.find?_put_self _ _ _, ?_⟩
  simp [bitAt_or, show bitAt 1 0 = true from rfl, show bitAt 2 1 = true from rfl, show bitAt 64 6 = true from rfl]

end

/-- Settles O30, event by event. -/
theorem lakeEventsComplete : Obligations.LakeEventsComplete := by
  unfold Obligations.LakeEventsComplete
  refine ⟨fun l s m hm hdue hstop hroom => ?merge, fun k s id base q j fw hfirst => accuUpdate_writes hfirst,
    fun k s id j => accuUpdate_drops, fun k s id x => accoTileRetire_closes, fun k s u id x hu => accoTileTimeout_closes hu,
    fun k s u hu => accoTileTimeout_waits hu, fun k s id x hx hstack hout hnext htmo => ?expire,
    fun a s r d => watermarkClose_counted, fun a s r d => watermarkClose_trips⟩
  case merge =>
    refine ⟨_, mergeEntryTimeout_flushes hm hdue hstop hroom, s.flushEnt_cares l.val m, ?_⟩
    show (((s.flushEnt l.val m).leaf l.val).queue.drop _).map Entry.asked = _
    rw [List.map_drop, State.flushEnt_asked, ← List.length_map Entry.asked, List.drop_left]
  case expire =>
    refine State.expireTiles_overdue hx ?_
    unfold Tile.overdue
    simp [hstack, hout, hnext, htmo]

end Sys2Proof.Machine

/-! # Records in the device (R352, R385, R386) -/

namespace Sys2Proof.Machine

/-! ## Numbers in bytes -/

theorem leBytes_succ (n v : Nat) : leBytes (n + 1) v = v % 256 :: leBytes n (v / 256) := by
  unfold leBytes
  rw [List.range_succ_eq_map, List.map_cons, List.map_map, Nat.pow_zero, Nat.div_one]
  refine congrArg _ (List.map_congr_left fun i _ => ?_)
  rw [Function.comp_apply, Nat.pow_succ', Nat.div_div_eq_div_mul]

theorem ofLe_leBytes (n v : Nat) : ofLe (leBytes n v) = v % 256 ^ n := by
  induction n generalizing v with
  | zero => exact (Nat.mod_one v).symm
  | succ n ih =>
    show ofLe (leBytes (n + 1) v) = _
    rw [leBytes_succ, Nat.pow_succ', Nat.mod_mul, ← ih]
    rfl

/-! ## A packed record is valid (R385) -/

theorem recNum_packed_seq (type_ seq time : Nat) (p : List Nat) : recNum (packed type_ seq time p) 8 4 = seq % 2 ^ 32 :=
  ofLe_leBytes 4 seq

theorem recNum_packed_length (type_ seq time : Nat) (p : List Nat) :
    recNum (packed type_ seq time p) 12 4 = p.length % 2 ^ 32 :=
  ofLe_leBytes 4 p.length

theorem recValid_packed (type_ seq time : Nat) {p : List Nat} (h : p.length ≤ 262072) :
    recValid (packed type_ seq time p) type_ = true := by
  have hmagic : recNum (packed type_ seq time p) 0 4 = 0x44574E52 := ofLe_leBytes 4 0x44574E52
  have htype : recNum (packed type_ seq time p) 4 1 = type_ := rfl
  have hlen : recNum (packed type_ seq time p) 12 4 = p.length := by
    rw [recNum_packed_length]
    omega
  unfold recValid
  rw [hmagic, htype, hlen]
  simp [h, packed]

/-! ## The slot in use (R385) -/

theorem diff32_succ_left (a : Nat) : diff32 ((a + 1) % 2 ^ 32) a = 1 := by
  unfold diff32
  dsimp only
  rw [show ((a + 1) % 2 ^ 32 + 2 ^ 32 - a % 2 ^ 32) % 2 ^ 32 = 1 by omega]
  rfl

theorem diff32_succ_right (a : Nat) : diff32 a ((a + 1) % 2 ^ 32) = -1 := by
  unfold diff32
  dsimp only
  rw [show (a + 2 ^ 32 - (a + 1) % 2 ^ 32 % 2 ^ 32) % 2 ^ 32 = 2 ^ 32 - 1 by omega]
  rfl

/-- The repair map and the baseline: the types whose slots are written. -/
theorem devRec_devSetRec (d : FlashDev) {type_ : Nat} (ht : type_ = 2 ∨ type_ = 3) (x : RecSlot) :
    devRec (devSetRec d type_ 0 x) type_ 0 = x ∧ devRec (devSetRec d type_ 0 x) type_ 1 = devRec d type_ 1 ∧
    devRec (devSetRec d type_ 1 x) type_ 1 = x ∧ devRec (devSetRec d type_ 1 x) type_ 0 = devRec d type_ 0 := by
  obtain rfl | rfl := ht <;> exact ⟨rfl, rfl, rfl, rfl⟩

theorem devNewest_both {d : FlashDev} {type_ : Nat} (ha : recValid (devRec d type_ 0) type_ = true)
    (hb : recValid (devRec d type_ 1) type_ = true) : devNewest d type_ =
      some (if 0 < diff32 (recNum (devRec d type_ 1) 8 4) (recNum (devRec d type_ 0) 8 4) then 1 else 0) := by
  unfold devNewest
  dsimp only
  rw [ha, hb]
  exact (apply_ite some _ _ _).symm

theorem devNewest_first {d : FlashDev} {type_ : Nat} (ha : recValid (devRec d type_ 0) type_ = true)
    (hb : recValid (devRec d type_ 1) type_ = false) : devNewest d type_ = some 0 := by
  unfold devNewest
  dsimp only
  rw [ha, hb]

/-- The slot in use is valid, and with none in use the second is not. -/
theorem devNewest_cases (d : FlashDev) (type_ : Nat) :
    devNewest d type_ = none ∧ recValid (devRec d type_ 1) type_ = false ∨
    devNewest d type_ = some 0 ∧ recValid (devRec d type_ 0) type_ = true ∨
    devNewest d type_ = some 1 ∧ recValid (devRec d type_ 1) type_ = true := by
  unfold devNewest
  dsimp only
  cases recValid (devRec d type_ 0) type_ <;> cases recValid (devRec d type_ 1) type_
  case true.true =>
    by_cases h : 0 < diff32 (recNum (devRec d type_ 1) 8 4) (recNum (devRec d type_ 0) 8 4)
    · exact .inr (.inr ⟨if_pos h, rfl⟩)
    · exact .inr (.inl ⟨if_neg h, rfl⟩)
  all_goals simp

theorem devNextSeq_some {d : FlashDev} {type_ i : Nat} (h : devNewest d type_ = some i) :
    devNextSeq d type_ = (recNum (devRec d type_ i) 8 4 + 1) % 2 ^ 32 := by
  unfold devNextSeq
  rw [h]

theorem devNextSeq_lt (d : FlashDev) (type_ : Nat) : devNextSeq d type_ < 2 ^ 32 := by
  unfold devNextSeq
  split
  · exact Nat.mod_lt _ (by decide)
  · decide

/-- A valid record of the next SEQ, written to the slot that is not in use, is in use from then on. -/
theorem devNewest_devSetRec (d : FlashDev) {type_ : Nat} (ht : type_ = 2 ∨ type_ = 3) {x : RecSlot}
    (hx : recValid x type_ = true) (hseq : recNum x 8 4 = devNextSeq d type_) :
    devNewest (devSetRec d type_ (devTarget d type_) x) type_ = some (devTarget d type_) := by
  obtain ⟨h00, h01, h11, h10⟩ := devRec_devSetRec d ht x
  unfold devTarget
  obtain ⟨hnone, hb⟩ | ⟨hfirst, ha⟩ | ⟨hsecond, hb⟩ := devNewest_cases d type_
  · rw [if_neg (by simp [hnone])]
    exact devNewest_first (by rw [h00, hx]) (by rw [h01, hb])
  · rw [if_pos hfirst, devNewest_both (by rw [h10, ha]) (by rw [h11, hx]), h10, h11, hseq, devNextSeq_some hfirst,
      diff32_succ_left]
    rfl
  · rw [if_neg (by simp [hsecond]), devNewest_both (by rw [h00, hx]) (by rw [h01, hb]), h00, h01, hseq,
      devNextSeq_some hsecond, diff32_succ_right]
    rfl

/-- A record packed with the next SEQ, in the slot that is not in use, is in use from then on (R386). -/
theorem devNewest_packed (d : FlashDev) {type_ : Nat} (ht : type_ = 2 ∨ type_ = 3) (time : Nat) {p : List Nat}
    (hp : p.length ≤ 262072) :
    devNewest (devSetRec d type_ (devTarget d type_) (packed type_ (devNextSeq d type_) time p)) type_ =
      some (devTarget d type_) :=
  devNewest_devSetRec d ht (recValid_packed type_ _ time hp)
    ((recNum_packed_seq type_ _ time p).trans (Nat.mod_eq_of_lt (devNextSeq_lt d type_)))

/-! ## Completions leave the device and its records -/

/-- The device and the records read from it are as they were. -/
structure State.SameDevice (s t : State) : Prop where
  dev : t.boot.dev = s.boot.dev
  recs : t.boot.recs = s.boot.recs
  stores : t.stores = s.stores

theorem State.SameDevice.of_kept {w : Nat} {s t : State} (h : Kept false false w s t)
    (hb : w.testBit Field.boot.bit = false := by decide) (hs : w.testBit Field.stores.bit = false := by decide) :
    s.SameDevice t :=
  ⟨congrArg Boot.dev (h.same .boot hb), congrArg Boot.recs (h.same .boot hb), h.same .stores hs⟩

theorem State.SameDevice.trans {s t u : State} (h : s.SameDevice t) (g : t.SameDevice u) : s.SameDevice u :=
  ⟨g.dev.trans h.dev, g.recs.trans h.recs, g.stores.trans h.stores⟩

theorem State.claimEnds_sameDevice (s : State) (t : Ticket) : s.SameDevice (s.claimEnds t) := by
  unfold State.claimEnds
  split <;> exact ⟨rfl, rfl, rfl⟩

theorem State.finish_sameDevice (s : State) (tk st : Nat) (result : List Nat) (bulk : Option (List Nat)) :
    s.SameDevice (s.finish tk st result bulk) := by
  cases h : Tab.find? s.tickets tk with
  | none =>
    rw [show s.finish tk st result bulk = s by unfold State.finish; rw [h]]
    exact ⟨rfl, rfl, rfl⟩
  | some t =>
    rw [State.finish_some h]
    have hclaim := State.claimEnds_sameDevice { s with tickets := Tab.erase s.tickets tk } t
    refine State.SameDevice.trans (t := s.finishing tk t) ⟨hclaim.dev, hclaim.recs, hclaim.stores⟩ ?_
    refine .of_kept (w := 0x3000000) ?_
    exact State.queueService_kept (by decide) (State.setPage_kept (by decide)
      (State.complete_kept (by decide) (.refl _) _ _ _ _ _ _) _ _) _

/-! ## Stores (R352, R386) -/

/-- Every new entry of a map raises MAINT_STAT, and the command that asked for its store completes. -/
theorem State.mapEnds_sameDevice (s : State) (es : List MapEntry) (tk st : Nat) (result : List Nat) (bulk : Option (List Nat)) :
    s.SameDevice ((es.foldl (fun s e => s.maint 2 e.stack) s).finish tk st result bulk) :=
  .trans (.of_kept (w := 0x80000000) (Kept.foldl (fun _ _ h => State.maint_kept (by decide) h _ _) _ _ (.refl s)))
    (State.finish_sameDevice _ _ _ _ _)

/-- What a verified store leaves in the device. -/
theorem State.stored_device (s : State) (x : NvStore) : (s.stored x).stores = s.stores ∧
    (s.stored x).boot.dev = devSetRec s.boot.dev x.type_ (devTarget s.boot.dev x.type_)
      (packed x.type_ (devNextSeq s.boot.dev x.type_) s.now x.payload) := by
  unfold State.stored
  dsimp only
  split
  · exact ⟨(State.mapEnds_sameDevice _ _ _ _ _ _).stores, (State.mapEnds_sameDevice _ _ _ _ _ _).dev⟩
  · exact ⟨(State.finish_sameDevice _ _ _ _ _).stores, (State.finish_sameDevice _ _ _ _ _).dev⟩

theorem State.stored_map (s : State) {x : NvStore} (hx : x.type_ = 2) : (s.stored x).boot.recs = { s.boot.recs with
    map := x.map, serials := x.serials, altSerials := x.altSerials, mapValid := true,
    mapSeq := devNextSeq s.boot.dev x.type_ } := by
  unfold State.stored
  dsimp only
  rw [if_pos hx]
  exact (State.mapEnds_sameDevice _ _ _ _ _ _).recs

theorem State.stored_baseline (s : State) {x : NvStore} (hx : x.type_ ≠ 2) : (s.stored x).boot.recs = { s.boot.recs with
    base := (sectionsOf 16 0 x.base).1, baseSerials := (sectionsOf 16 0 x.base).2, baseValid := true,
    baseSeq := devNextSeq s.boot.dev x.type_ } := by
  unfold State.stored
  dsimp only
  rw [if_neg hx]
  exact (State.finish_sameDevice _ _ _ _ _).recs

theorem NvStore.payload_map {x : NvStore} (hx : x.type_ = 2) : x.payload = mapPayload x.map x.serials x.altSerials :=
  if_pos hx

theorem repairMapStore_stores {s : State} {x : NvStore} (h : s.stores.find? (fun x => x.type_ == 2) = some x) :
    exec .repairMapStore s = .next (({ s with stores := s.stores.erase x }).stored x) := by
  show execRepairMapStore s = _
  unfold execRepairMapStore
  rw [h]

theorem nvRecordStore_stores {first second : Bool} {s : State} {x : NvStore} {rest : List NvStore} (h : s.stores = x :: rest)
    (hok : (first || second) = true) :
    exec (.nvRecordStore first second) s = .next (({ s with stores := rest }).stored x) := by
  show execNvRecordStore first second s = _
  unfold execNvRecordStore
  rw [h]
  exact if_pos hok

theorem nvRecordStore_fails {s : State} {x : NvStore} {rest : List NvStore} (h : s.stores = x :: rest) :
    exec (.nvRecordStore false false) s = .next (((({ s with stores := rest }).storeFailed x).note 0x0D 0 0
      [(1, x.type_), (1, 1)]).finish x.ticket stHwFault noArg none) := by
  show execNvRecordStore false false s = _
  unfold execNvRecordStore
  rw [h]
  rfl

/-- Settles O28. -/
theorem recordsReachTheDevice : Obligations.RecordsReachTheDevice := by
  unfold Obligations.RecordsReachTheDevice
  refine ⟨fun s x hx => ?map, fun first second s x rest hs hok htype => ?record, fun s x rest hs => ?failed,
    fun d type_ => devNewest_both⟩
  case map =>
    have ht : x.type_ = 2 := by simpa using List.find?_some hx
    obtain ⟨hstores, hdev⟩ := State.stored_device { s with stores := s.stores.erase x } x
    have hrecs := State.stored_map { s with stores := s.stores.erase x } ht
    rw [ht] at hdev hrecs
    rw [NvStore.payload_map ht] at hdev
    refine ⟨_, repairMapStore_stores hx, hstores, hdev, fun hp => ?_, hrecs⟩
    rw [hdev]
    exact devNewest_packed _ (.inl rfl) _ hp
  case record =>
    obtain ⟨hstores, hdev⟩ := State.stored_device { s with stores := rest } x
    refine ⟨_, nvRecordStore_stores hs hok, hstores, hdev, fun hp => ?_, ?_⟩
    · rw [hdev]
      exact devNewest_packed _ htype _ hp
    · split
      next ht => rw [State.stored_map _ ht]; exact ⟨rfl, rfl, rfl⟩
      next ht => rw [State.stored_baseline _ ht]; exact ⟨rfl, rfl, rfl⟩
  case failed =>
    have h : (({ s with stores := rest } : State).storeFailed x).SameDevice _ :=
      (State.SameDevice.of_kept (State.note_kept (Nat.or_self _) (.refl _) 0x0D 0 0 [(1, x.type_), (1, 1)])).trans
        (State.finish_sameDevice _ x.ticket stHwFault noArg none)
    exact ⟨_, nvRecordStore_fails hs, h.stores, h.recs, h.dev, rfl⟩

end Sys2Proof.Machine

/-! # What maintenance leaves of a leaf's rows and of Calender's position -/

namespace Sys2Proof.Machine

/-! ## Calender's position -/

/-- Calender's position in a leaf, and when its next visit may begin. -/
def Care.visit (c : Care) : Nat × Nat × Nat := (c.calBank, c.calRow, c.calFree)

/-- Calender stands where it stood in every leaf. -/
def State.SameVisits (s t : State) : Prop := ∀ l, (t.care l).visit = (s.care l).visit

/-- A lost leaf is marked so, and no other leaf's care changes (R346). -/
theorem State.leafLost_care (s : State) (l j : Nat) :
    (s.leafLost l).care j = if j = l then { s.care j with lost := true } else s.care j := by
  have hset : (s.setCare l { s.care l with lost := true }).care j =
      if j = l then { s.care j with lost := true } else s.care j := by
    split
    next hj => rw [hj, State.setCare_care_self]
    next hj => rw [State.setCare_care_other _ _ hj]
  unfold State.leafLost
  dsimp only
  split
  next hlost =>
    split
    next hj => rw [← hlost, ← hj]
    next => rfl
  next =>
    rw [← hset]
    generalize hu : State.note _ _ _ _ _ = u
    have hcares : u.cares = (s.setCare l { s.care l with lost := true }).cares := hu ▸
      (State.note_kept (w := 0x31e0000000) (by decide) (State.addMap_kept (by decide) (State.maint_kept (by decide)
        (.refl _) _ _) _) _ _ _ _).same .cares
    split
    · exact State.care_congr (((State.failQuire_kept (Nat.or_self _) (.refl u) _).same .cares).trans hcares) j
    · exact State.care_congr hcares j

namespace State.SameVisits

theorem of_eq {s t : State} (h : t.cares = s.cares) : s.SameVisits t := fun l => by rw [State.care_congr h]

theorem refl (s : State) : s.SameVisits s := fun _ => rfl

theorem trans {s t u : State} (h : s.SameVisits t) (g : t.SameVisits u) : s.SameVisits u := fun l => (g l).trans (h l)

theorem of_merges {s t : State} (h : s.OnlyMerges t) : s.SameVisits t := fun l => by
  rw [h l]
  rfl

theorem ite {s t u : State} {c : Prop} [Decidable c] (h : s.SameVisits t) (g : s.SameVisits u) :
    s.SameVisits (if c then t else u) := by
  split
  · exact h
  · exact g

theorem setCare {s : State} {l : Nat} {x : Care} (h : x.visit = (s.care l).visit) : s.SameVisits (s.setCare l x) := fun j => by
  by_cases hj : j = l
  · rw [hj, State.setCare_care_self, h]
  · rw [State.setCare_care_other _ _ hj]

/-- A care record written once other parts of the state have changed. -/
theorem setCare_later {s u : State} {l : Nat} {x : Care} (e : u.cares = s.cares) (h : x.visit = (s.care l).visit) :
    s.SameVisits (u.setCare l x) :=
  (of_eq e).trans (setCare (by rw [State.care_congr e, h]))

theorem foldl {α : Type} {f : State → α → State} (hf : ∀ (u : State) (a : α), u.SameVisits (f u a)) (l : List α)
    (s : State) : s.SameVisits (l.foldl f s) :=
  List.foldlRecOn (motive := s.SameVisits) l f (refl s) fun u hu a _ => hu.trans (hf u a)

theorem tally (s : State) (k off n : Nat) (sat : Bool) : s.SameVisits (s.tally k off n sat) := of_eq rfl

theorem spend (s : State) (l kind n ten : Nat) : s.SameVisits (s.spend l kind n ten) :=
  of_eq ((State.spend_kept (Nat.or_self _) (.refl s) l kind n ten).same .cares)

theorem request (s : State) (l : Nat) (m : MReq) : s.SameVisits (s.request l m) := by
  unfold State.request
  refine foldl (fun u i => setCare ?_) _ s
  rfl

theorem leafLost (s : State) (l : Nat) : s.SameVisits (s.leafLost l) := fun j => by
  rw [State.leafLost_care]
  split <;> rfl

theorem hardFault (s : State) (l i : Nat) (e : Track) : s.SameVisits (s.hardFault l i e) := by
  have hweak : ∀ u : State, u.SameVisits (u.weakCheck l) := fun u => ite (leafLost u l) (refl u)
  have hmap : ∀ (u : State) (x : MapEntry), u.SameVisits ((u.maint 3 (stackOf l)).addMap x) := fun u x =>
    of_eq ((State.addMap_kept (w := 0x31e0000000) (by decide) (State.maint_kept (by decide) (.refl u) _ _) _).same .cares)
  unfold State.hardFault
  dsimp only
  refine ite (request s l _) (trans (trans (setCare ?_) (hmap _ _)) (hweak _))
  rfl

theorem sighting (s : State) (l bank row word bit tRead : Nat) : s.SameVisits (s.sighting l bank row word bit tRead) := by
  unfold State.sighting
  dsimp only
  split
  · split
    · exact setCare_later rfl rfl
    · exact setCare rfl
  · refine ite (refl s) (ite (ite (refl s) (trans (t := s.setCare l _) (setCare ?_) (request _ l _)))
      (ite (refl s) (ite (hardFault s l _ _) (setCare ?_)))) <;> rfl

theorem laneSighting (s : State) (l key lane : Nat) : s.SameVisits (s.laneSighting l key lane) := by
  unfold State.laneSighting
  dsimp only
  exact ite (trans (t := s.setChan _ _) (of_eq rfl) (request _ l _)) (of_eq rfl)

theorem requestRetrain (s : State) (c cause tk : Nat) : s.SameVisits (s.requestRetrain c cause tk) := by
  unfold State.requestRetrain
  dsimp only
  exact ite (refl s) (ite (of_eq rfl) (trans (t := s.setChan c _) (of_eq rfl) (request _ _ _)))

theorem ueSighting (s : State) (l key : Nat) : s.SameVisits (s.ueSighting l key) := by
  unfold State.ueSighting
  dsimp only
  exact ite (trans (t := (s.setChan _ _).setChan _ _) (of_eq rfl) (requestRetrain _ _ _ _)) (of_eq rfl)

end State.SameVisits

/-! ## Merge entries -/

namespace State.OnlyMerges

theorem ite {s t u : State} {c : Prop} [Decidable c] (h : s.OnlyMerges t) (g : s.OnlyMerges u) :
    s.OnlyMerges (if c then t else u) := by
  split
  · exact h
  · exact g

theorem closeFor (s : State) (l : Nat) (las : List Nat) : s.OnlyMerges (s.closeFor l las) := by
  refine List.foldlRecOn (motive := fun u => s.OnlyMerges u) _ _ (of_eq rfl) fun u hu la _ => ?_
  split
  · exact hu
  · exact hu.trans (flushEnt u l _)

theorem mergeBurst (s : State) (l la : Nat) (ws : List SWord) (conv : Nat) (byConv : Bool)
    (ten sid tint port arrival target : Nat) :
    s.OnlyMerges (s.mergeBurst l la ws conv byConv ten sid tint port arrival target) := by
  unfold State.mergeBurst
  dsimp only
  split
  · exact ite ((setMerge s l _).trans (flushEnt _ l _)) (setMerge s l _)
  · generalize hu : (if ((decide ((s.care l).merge.length < 16) || s.stopping) = true) then s else _) = u
    have h : s.OnlyMerges u := hu ▸ ite (of_eq rfl) (by
      split
      · exact flushEnt s l _
      · exact of_eq rfl)
    exact ite ((h.trans (setMerge u l _)).trans (flushEnt _ l _)) (h.trans (setMerge u l _))

end State.OnlyMerges

/-- A read of words moves no Calender, whatever it finds. -/
theorem State.SameVisits.readWords (s : State) (l la : Nat) (raw : List (Word64 × Byte)) (cause count ten sid tRead : Nat)
    (track convert : Bool) : s.SameVisits (s.readWords l la raw cause count ten sid tRead track convert) := by
  unfold State.readWords
  dsimp only
  refine trans (foldl (fun u x => ?word) _ s) (foldl (fun u b => ?burst) _ _)
  case word =>
    split
    · exact ite (trans (trans (tally u _ _ _ _) (sighting _ l _ _ _ _ _)) (laneSighting _ l _ _)) (tally u _ _ _ _)
    · exact ite (trans (ueSighting u l _) (leafLost _ l)) (ueSighting u l _)
    · exact refl u
  case burst =>
    split
    · exact refl u
    · have hstain : ∀ la cause synd words, u.SameVisits (u.stainEvent l la cause synd ten sid words) := fun _ _ _ _ =>
        of_eq ((State.stainEvent_kept (Nat.or_self _) (.refl u) _ _ _ _ _ _ _).same .cares)
      exact ite ((hstain _ _ _ _).trans (of_merges (.mergeBurst _ l _ _ _ _ _ _ _ _ _ _))) (hstain _ _ _ _)

/-! ## The pace of a stack's commands -/

theorem State.pow_congr {s t : State} (h : t.power = s.power) (k : Nat) : t.pow k = s.pow k :=
  congrArg (fun x => Tab.get Power.reset x k) h

/-- What of a stack's clock its leaves' command timing and their wakes go by. -/
def StackClk.pace (c : StackClk) : Bool × Bool × List Nat × Nat := (c.asleep, c.waking, c.sr, c.opcur)

/-- Commands are timed as they were, and the same channels are asleep. -/
structure State.SamePace (s t : State) : Prop where
  clk : t.clk = s.clk
  pow : ∀ k, (t.pow k).stretch = (s.pow k).stretch
  supply : t.supply = s.supply
  sck : ∀ k, (t.sck k).pace = (s.sck k).pace

namespace State.SamePace

theorem refl (s : State) : s.SamePace s := ⟨rfl, fun _ => rfl, rfl, fun _ => rfl⟩

theorem trans {s t u : State} (h : s.SamePace t) (g : t.SamePace u) : s.SamePace u :=
  ⟨g.clk.trans h.clk, fun k => (g.pow k).trans (h.pow k), g.supply.trans h.supply, fun k => (g.sck k).trans (h.sck k)⟩

theorem of_kept {w : Nat} {s t : State} (h : Kept false false w s t) (hclk : w.testBit Field.clk.bit = false := by decide)
    (hpower : w.testBit Field.power.bit = false := by decide) (hsupply : w.testBit Field.supply.bit = false := by decide)
    (hsclk : w.testBit Field.sclk.bit = false := by decide) : s.SamePace t :=
  ⟨h.same .clk hclk, fun k => by rw [State.pow_congr (h.same .power hpower)], h.same .supply hsupply,
    fun k => by rw [State.sck_congr (h.same .sclk hsclk)]⟩

section
variable {s t : State} (h : s.SamePace t)
include h

theorem now12 : t.now12 = s.now12 := by
  unfold State.now12
  rw [h.clk]

theorem now : t.now = s.now := by
  unfold State.now
  rw [h.clk]

theorem awake {c : Nat} (hs : s.channelAsleep c = false) : t.channelAsleep c = false := by
  have hk := h.sck (c / 32)
  simp only [StackClk.pace, Prod.mk.injEq] at hk
  obtain ⟨hasleep, hwaking, hsr, _⟩ := hk
  unfold State.channelAsleep
  dsimp only
  rw [hasleep, hwaking, hsr]
  exact hs

theorem qPeriod (k : Nat) : t.qPeriod k = s.qPeriod k := by
  have hop : (t.sck k).opcur = (s.sck k).opcur := congrArg (fun x => x.2.2.2) (h.sck k)
  unfold State.qPeriod State.qPer10 State.hbm4
  rw [hop, State.sup_congr h.supply, h.pow]

theorem cyc (k h4 h3 : Nat) : t.cyc k h4 h3 = s.cyc k h4 h3 := by
  unfold State.cyc
  rw [h.qPeriod]
  unfold State.qPer10 State.hbm4
  rw [State.sup_congr h.supply]

end

/-- Energy is counted in the stack's record, which keeps the stretch of its clock. -/
theorem spend (s : State) (l kind n ten : Nat) : s.SamePace (s.spend l kind n ten) := by
  have hset : ∀ p : Power, p.stretch = (s.pow (stackOf l)).stretch → s.SamePace (s.setPow (stackOf l) p) := fun p hp => by
    refine ⟨rfl, fun j => ?_, rfl, fun _ => rfl⟩
    by_cases hj : j = stackOf l
    · rw [hj, State.setPow_pow_self, hp]
    · rw [State.setPow_pow_other _ _ hj]
  have hcount : ∀ p : Power, (match kind with
      | 0 => { p with act := p.act + n }
      | 1 => { p with rds := p.rds + n }
      | 2 => { p with wrs := p.wrs + n }
      | _ => { p with refs := p.refs + n } : Power).stretch = p.stretch := fun p => by split <;> rfl
  unfold State.spend
  refine hset _ ?_
  split
  · exact hcount _
  · split <;> exact hcount _

/-- The ageing of a stack's row counters notes its time, and leaves the pace. -/
theorem ageDue (s : State) (k : Nat) (keep : Option (Nat × Nat × Nat)) : s.SamePace (s.ageDue k keep) := by
  have hset : ∀ at_ n, s.SamePace (s.setSck k { s.sck k with lastAge := at_, missed := n }) := fun at_ n => by
    refine ⟨rfl, fun _ => rfl, rfl, fun j => ?_⟩
    by_cases hj : j = k
    · rw [hj, State.setSck_sck_self]
      rfl
    · rw [State.setSck_sck_other _ _ hj]
  unfold State.ageDue
  dsimp only
  split
  · exact refl s
  · split
    · exact hset _ _
    · exact (hset _ _).trans (of_kept (State.ageStack_kept (Nat.or_self _) (.refl _) _ _ _))

theorem touchRow (s : State) (l flat row : Nat) (wr : Bool) : s.SamePace (s.touchRow l flat row wr) := by
  have hset : ∀ x, s.SamePace (s.setLeaf l x) := fun _ => ⟨rfl, fun _ => rfl, rfl, fun _ => rfl⟩
  have hcount : ∀ (u : State) n, u.SamePace ((u.rowCount l flat row).slotCount l 4 n) := fun u n => by
    unfold State.rowCount
    exact (ageDue u _ _).trans (of_kept (w := 0x20000800) (State.slotCount_kept (by decide) (State.setProt_kept (by decide)
      (.refl _) _ _) _ _ _))
  exact (hset _).trans (hcount _ _)

end State.SamePace

/-! ## The rows of a leaf that is awake -/

/-- The row that a bank has open, and its last ACT. -/
def Bank.row (b : Bank) : Option Nat × Nat := (b.openRow, b.tAct)

/-- The pace is as it was, and a leaf's banks have the rows open that they had. -/
structure State.RowsKept (s : State) (l : Nat) (t : State) : Prop where
  pace : s.SamePace t
  rows : ∀ b, ((t.leaf l).bank b).row = ((s.leaf l).bank b).row

theorem State.RowsKept.touchAt {s t : State} {l : Nat} (h : s.RowsKept l t) (b : Nat) : t.touchAt l b = s.touchAt l b := by
  have hopen : ((t.leaf l).bank b).openRow = ((s.leaf l).bank b).openRow := congrArg Prod.fst (h.rows b)
  unfold State.touchAt
  rw [hopen, h.pace.now12, h.pace.cyc]

namespace State.RowsKept

theorem refl (s : State) (l : Nat) : s.RowsKept l s := ⟨.refl s, fun _ => rfl⟩

theorem trans {s t u : State} {l : Nat} (h : s.RowsKept l t) (g : t.RowsKept l u) : s.RowsKept l u :=
  ⟨h.pace.trans g.pace, fun b => (g.rows b).trans (h.rows b)⟩

theorem ite {s t u : State} {l : Nat} {c : Prop} [Decidable c] (h : s.RowsKept l t) (g : s.RowsKept l u) :
    s.RowsKept l (if c then t else u) := by
  split
  · exact h
  · exact g

theorem of_pace {s t : State} (l : Nat) (h : s.SamePace t) (hl : t.leaves = s.leaves) : s.RowsKept l t :=
  ⟨h, fun b => by rw [State.leaf_congr hl]⟩

theorem setCare (s : State) (l j : Nat) (x : Care) : s.RowsKept l (s.setCare j x) :=
  of_pace l ⟨rfl, fun _ => rfl, rfl, fun _ => rfl⟩ rfl

theorem tally (s : State) (l k off n : Nat) (sat : Bool) : s.RowsKept l (s.tally k off n sat) :=
  of_pace l ⟨rfl, fun _ => rfl, rfl, fun _ => rfl⟩ rfl

theorem spend (s : State) (l kind n ten : Nat) : s.RowsKept l (s.spend l kind n ten) :=
  of_pace l (.spend s l kind n ten) ((State.spend_kept (Nat.or_self _) (.refl s) l kind n ten).same .leaves)

theorem rowWon (s : State) (l j : Nat) : s.RowsKept l (s.rowWon j) := of_pace l ⟨rfl, fun _ => rfl, rfl, fun _ => rfl⟩ rfl

/-- A claim opens and closes no row. -/
theorem claims (s : State) (l : Nat) : s.RowsKept l (s.claims l) := by
  refine ⟨.of_kept (State.claims_kept (Nat.or_self _) (.refl s) l), fun b => ?_⟩
  obtain ⟨c, hc⟩ := (s.claims_claimed l).bank b
  rw [hc]
  rfl

section
variable {s : State} {l : Nat} (h : s.channelAsleep (channelOf l) = false)
include h

theorem foldl {t : State} (h0 : s.RowsKept l t) {α : Type} {f : State → α → State}
    (hf : ∀ (u : State) (a : α), u.channelAsleep (channelOf l) = false → u.RowsKept l (f u a)) (xs : List α) :
    s.RowsKept l (xs.foldl f t) :=
  List.foldlRecOn (motive := s.RowsKept l) xs f h0 fun u hu a _ => hu.trans (hf u a (hu.pace.awake h))

/-- An entry wakes no channel that is awake: it is queued, and may claim its bank. -/
theorem pushEntry (e : Entry) : s.RowsKept l (s.pushEntry l e) := by
  have hwake : ∀ {u : State} k, s.RowsKept l u →
      s.RowsKept l (if u.channelAsleep (channelOf l) then u.wakeStack k else u) := fun _ hu => by
    rw [if_neg (by simp [hu.pace.awake h])]
    exact hu
  have hqueue : ∀ q w n, s.RowsKept l
      { s.setLeaf l { s.leaf l with queue := q, parked := false, wbuf := w } with nextId := n } := fun q w n => by
    refine ⟨⟨rfl, fun _ => rfl, rfl, fun _ => rfl⟩, fun b => ?_⟩
    show (((s.setLeaf l _).leaf l).bank b).row = _
    rw [State.setLeaf_leaf_self]
    rfl
  unfold State.pushEntry
  exact hwake _ (trans (hqueue _ _ _) (claims _ l))

theorem flushEnt (m : MergeEnt) : s.RowsKept l (s.flushEnt l m) := by
  have hset : ∀ x e, s.RowsKept l ((s.setCare l x).pushEntry l e) := fun x e =>
    (setCare s l l x).trans (pushEntry ((setCare s l l x).pace.awake h) e)
  unfold State.flushEnt
  dsimp only
  exact ite (hset _ _) ((hset _ _).trans (pushEntry ((hset _ _).pace.awake h) _))

theorem closeFor (las : List Nat) : s.RowsKept l (s.closeFor l las) := by
  refine foldl h (refl s l) (fun u la hu => ?_) las
  split
  · exact refl u l
  · exact flushEnt hu _

theorem mergeBurst (la : Nat) (ws : List SWord) (conv : Nat) (byConv : Bool) (ten sid tint port arrival target : Nat) :
    s.RowsKept l (s.mergeBurst l la ws conv byConv ten sid tint port arrival target) := by
  have hflush : ∀ {u : State}, s.RowsKept l u → ∀ m, s.RowsKept l (u.flushEnt l m) := fun hu m =>
    hu.trans (flushEnt (hu.pace.awake h) m)
  unfold State.mergeBurst
  dsimp only
  split
  · exact ite (hflush (setCare s l l _) _) (setCare s l l _)
  · generalize hu : (if ((decide ((s.care l).merge.length < 16) || s.stopping) = true) then s else _) = u
    have hs : s.RowsKept l u := hu ▸ ite (refl s l) (by
      split
      · exact flushEnt h _
      · exact refl s l)
    exact ite (hflush (hs.trans (setCare u l l _)) _) (hs.trans (setCare u l l _))

/-- A read of words finds what it finds: it opens and closes no row. -/
theorem readWords (la : Nat) (raw : List (Word64 × Byte)) (cause count ten sid tRead : Nat) (track convert : Bool) :
    s.RowsKept l (s.readWords l la raw cause count ten sid tRead track convert) := by
  have hkept : ∀ {u v : State}, Kept false false 0x31e1441028 u v → u.RowsKept l v := fun hk =>
    of_pace l (.of_kept hk) (hk.same .leaves)
  unfold State.readWords
  dsimp only
  refine foldl h (foldl h (refl s l) (fun u x _ => hkept ?word) _) (fun u b hu => ?burst) _
  case word =>
    have htally : ∀ n, Kept false false 0x31e1441028 u (u.tally (stackOf l) n 1 true) := fun n =>
      State.tally_kept (by decide) (.refl u) _ _ _ _
    have hue : ∀ key, Kept false false 0x31e1441028 u (u.ueSighting l key) := fun key =>
      State.ueSighting_kept (by decide) (.refl u) _ _
    split
    · exact .ite (State.laneSighting_kept (by decide) (State.sighting_kept (by decide) (htally _) _ _ _ _ _ _) _ _ _) (htally _)
    · exact .ite (State.leafLost_kept (by decide) (hue _) _) (hue _)
    · exact .refl u
  case burst =>
    split
    · exact refl u l
    · have hstain : ∀ la cause synd words, u.RowsKept l (u.stainEvent l la cause synd ten sid words) := fun _ _ _ _ =>
        hkept (State.stainEvent_kept (by decide) (.refl u) _ _ _ _ _ _ _)
      exact ite ((hstain _ _ _ _).trans (mergeBurst ((hstain _ _ _ _).pace.awake hu) _ _ _ _ _ _ _ _ _ _)) (hstain _ _ _ _)

end

end State.RowsKept

/-! # Calender, heals and repairs (R336-R342, R347, R351) -/

/-! ## Calender's visits (R336, R337) -/

/-- A maintenance access of a row closes its bank, and its ACT is the bank's last. -/
theorem State.touchRow_bank (s : State) (l flat row : Nat) (wr : Bool) :
    (((s.touchRow l flat row wr).leaf l).bank flat).tAct = s.touchAt l flat ∧
    (((s.touchRow l flat row wr).leaf l).bank flat).openRow = none := by
  unfold State.touchRow
  dsimp only
  generalize hx : State.noteActs _ _ _ _ = x
  have hleaf : ((((s.setLeaf l x).rowCount l flat row).slotCount l 4 (if wr then 64 else 32)).leaf l) = x := by
    rw [State.leaf_congr ((State.slotCount_kept (w := 0x20004800) (by decide) (State.rowCount_kept (by decide)
      (.refl (s.setLeaf l x)) _ _ _) _ _ _).same .leaves), State.setLeaf_leaf_self]
  rw [hleaf, ← hx]
  simp only [State.noteActs_bank]
  exact ⟨congrArg Bank.tAct (Leaf.setBank_bank_self _ _ _), congrArg Bank.openRow (Leaf.setBank_bank_self _ _ _)⟩

theorem State.visitReady_awake {s : State} {l : Nat} (h : s.visitReady l = true) : s.channelAsleep (channelOf l) = false := by
  unfold State.visitReady at h
  simp only [Bool.and_eq_true] at h
  obtain ⟨⟨⟨⟨⟨_, hup⟩, _⟩, _⟩, _⟩, _⟩ := h
  unfold State.leafUp at hup
  simp only [Bool.and_eq_true, Bool.not_eq_true'] at hup
  exact hup.2

/-- The row at Calender's position. -/
def State.visitRow (s : State) (l : Nat) : Nat := s.rowLa l (s.care l).calBank (s.care l).calRow

/-- A visit closes the open merge entries of its row first (R330). -/
def State.visitClosed (s : State) (l : Nat) : State := s.closeFor l (rowBursts (s.visitRow l))

/-- A visit's access of its row. -/
def State.visitTouched (s : State) (l : Nat) : State :=
  ((s.visitClosed l).rowWon l).touchRow l (s.care l).calBank (s.care l).calRow false

/-- Calender's share of the column slots of a leaf: all of them when it is escalated (R337, R338). -/
def State.visitShare (s : State) (l : Nat) : Nat :=
  if (s.care l).esc then 64 else (s.visitClosed l).setting 0x400D (stackOf l)

/-- The wait for the next visit, which the access `u` of a visit starts. -/
def State.visitWaits (s u : State) (l : Nat) : State :=
  u.setCare l { u.care l with calFree := u.now12 + 32 * s.visitShare l * u.qPeriod (stackOf l) }

/-- What a visit charges: an ACT against the budget unless it is escalated, and the energy of its row's reads. -/
def State.visitCharged (s u : State) (l : Nat) : State :=
  let u := if (s.care l).esc then u else u.setArb (stackOf l) { u.arb (stackOf l) with acts := (u.arb (stackOf l)).acts + 1 }
  (u.spend l 0 1 0xFFFF).spend l 1 32 0xFFFF

/-- What the words of a visit's row do. -/
def State.visitReads (s u : State) (l : Nat) (flips : List (BitVec 72)) : State :=
  let raw := s.readRow l (s.visitRow l) flips
  let u := u.readWords l (s.visitRow l) raw 2 0x1200 0xFFFF 0 u.now true true
  u.tally (stackOf l) (0x1400 + 4 * (l % 64)) (stainedOf raw) true

/-- A visit, up to the move of Calender's position. -/
def State.visited (s : State) (l : Nat) (flips : List (BitVec 72)) : State :=
  s.visitReads (s.visitCharged (s.visitWaits (s.visitTouched l) l) l) l flips

theorem calenderVisit_visits {l : Fin 1024} (flips : List (BitVec 72)) {s : State} (hready : s.visitReady l.val = true)
    (hwaits : s.refreshWaits (channelOf l.val) = false) (hturn : (s.care l.val).esc = true ∨ s.idleMode l.val = true)
    (hroom : s.rowRoom l.val (s.visitRow l.val) = true) : exec (.calenderVisit l flips) s =
      .next ((s.visited l.val flips).calNext l.val) := by
  have hturn : ((s.care l.val).esc || s.idleMode l.val) = true := by simpa using hturn
  unfold State.visitRow at hroom
  show execCalenderVisit l flips s = _
  unfold execCalenderVisit
  dsimp only
  rw [if_neg (by simp [hready, hwaits, hturn, hroom])]
  unfold State.visited State.visitReads State.visitCharged State.visitWaits State.visitTouched State.visitShare
    State.visitClosed State.visitRow
  dsimp only

/-- The access of a visit, once the row's merge entries are closed: its ACT is the bank's last, and the bank is closed. -/
theorem State.RowsKept.accessed {s u : State} {l : Nat} (h : s.RowsKept l u) (hmerged : s.SameVisits u) (bank row : Nat) :
    s.SamePace ((u.rowWon l).touchRow l bank row false) ∧ s.SameVisits ((u.rowWon l).touchRow l bank row false) ∧
    ((((u.rowWon l).touchRow l bank row false).leaf l).bank bank).row = (none, s.touchAt l bank) := by
  have hwon := h.trans (.rowWon u l l)
  refine ⟨hwon.pace.trans (.touchRow _ _ _ _ _), hmerged.trans (.of_eq ?cares), ?row⟩
  case cares =>
    exact (State.touchRow_kept (w := 0x20044c00) (by decide) (State.rowWon_kept (by decide) (.refl u) _) _ _ _ _).same .cares
  case row =>
    obtain ⟨hact, hopen⟩ := (u.rowWon l).touchRow_bank l bank row false
    rw [Bank.row, hopen, hact, hwon.touchAt]

theorem State.visitCharged_kept (s u : State) (l : Nat) :
    u.RowsKept l (s.visitCharged u l) ∧ u.SameVisits (s.visitCharged u l) := by
  have hact : ∀ x, u.RowsKept l (if (s.care l).esc then u else u.setArb (stackOf l) x) := fun _ =>
    .ite (.refl u l) (.of_pace l ⟨rfl, fun _ => rfl, rfl, fun _ => rfl⟩ rfl)
  have hact' : ∀ x, u.SameVisits (if (s.care l).esc then u else u.setArb (stackOf l) x) := fun _ =>
    .ite (.refl u) (.of_eq rfl)
  unfold State.visitCharged
  exact ⟨((hact _).trans (.spend _ l _ _ _)).trans (.spend _ l _ _ _),
    ((hact' _).trans (.spend _ l _ _ _)).trans (.spend _ l _ _ _)⟩

theorem State.visitReads_kept (s : State) {u : State} {l : Nat} (h : u.channelAsleep (channelOf l) = false)
    (flips : List (BitVec 72)) : u.RowsKept l (s.visitReads u l flips) ∧ u.SameVisits (s.visitReads u l flips) := by
  unfold State.visitReads
  exact ⟨(State.RowsKept.readWords h _ _ _ _ _ _ _ _ _).trans (.tally _ l _ _ _ _),
    (State.SameVisits.readWords u l _ _ _ _ _ _ _ _ _).trans (.tally _ _ _ _ _)⟩

theorem State.setting_congr {s t : State} (hb : t.bank = s.bank) (hs : t.supply = s.supply) (code inst : Nat) :
    t.setting code inst = s.setting code inst := by
  unfold State.setting State.settingSpec State.hbm4
  rw [hb, State.sup_congr hs]

theorem State.visitShare_eq (s : State) (l : Nat) :
    s.visitShare l = if (s.care l).esc then 64 else s.setting 0x400D (stackOf l) := by
  have hclosed : Kept false false 0x57600 s (s.visitClosed l) := State.closeFor_kept (Nat.or_self _) (.refl s) _ _
  unfold State.visitShare
  rw [State.setting_congr (hclosed.same .bank) (hclosed.same .supply)]

theorem State.visitTouched_access {s : State} {l : Nat} (h : s.channelAsleep (channelOf l) = false) :
    s.SamePace (s.visitTouched l) ∧ s.SameVisits (s.visitTouched l) ∧
    (((s.visitTouched l).leaf l).bank (s.care l).calBank).row = (none, s.touchAt l (s.care l).calBank) := by
  have hclosed : s.RowsKept l (s.visitClosed l) := by
    unfold State.visitClosed
    exact .closeFor h _
  have hmerged : s.SameVisits (s.visitClosed l) := by
    unfold State.visitClosed
    exact .of_merges (.closeFor s l _)
  unfold State.visitTouched
  exact hclosed.accessed hmerged _ _

theorem State.visitWaits_care (s u : State) (l : Nat) : ((s.visitWaits u l).care l).visit =
    ((u.care l).calBank, (u.care l).calRow,
      u.now12 + 32 * (if (s.care l).esc then 64 else s.setting 0x400D (stackOf l)) * u.qPeriod (stackOf l)) := by
  unfold State.visitWaits
  rw [State.setCare_care_self, State.visitShare_eq]
  rfl

/-- What a visit leaves: the time, Calender's position, the wait for its share of the column slots, and the bank closed
behind the row's ACT. -/
theorem State.visited_leaves {s : State} {l : Nat} (h : s.visitReady l = true) (flips : List (BitVec 72)) :
    s.SamePace (s.visited l flips) ∧
    ((s.visited l flips).care l).visit = ((s.care l).calBank, (s.care l).calRow,
      s.now12 + 32 * (if (s.care l).esc then 64 else s.setting 0x400D (stackOf l)) * s.qPeriod (stackOf l)) ∧
    (((s.visited l flips).leaf l).bank (s.care l).calBank).row = (none, s.touchAt l (s.care l).calBank) := by
  have hawake := State.visitReady_awake h
  obtain ⟨hpace, hvisits, hrow⟩ := State.visitTouched_access hawake
  unfold State.visited
  generalize s.visitTouched l = u at hpace hvisits hrow ⊢
  have hwaits : u.RowsKept l (s.visitWaits u l) := .setCare u l l _
  have hposition := s.visitWaits_care u l
  generalize s.visitWaits u l = v at hwaits hposition ⊢
  obtain ⟨hcharged, hcharge⟩ := s.visitCharged_kept v l
  have hstarted := hwaits.trans hcharged
  obtain ⟨hreads, hread⟩ := s.visitReads_kept (hstarted.pace.awake (hpace.awake hawake)) flips
  refine ⟨hpace.trans (hstarted.trans hreads).pace, ?position, ((hstarted.trans hreads).rows _).trans hrow⟩
  case position =>
    have hplace := hvisits l
    simp only [Care.visit, Prod.mk.injEq] at hplace
    obtain ⟨hbank, hcal, _⟩ := hplace
    rw [hread l, hcharge l, hposition, hbank, hcal, hpace.now12, hpace.qPeriod]

theorem calenderVisit_reads {l : Fin 1024} {flips : List (BitVec 72)} {s : State} (hready : s.visitReady l.val = true)
    (hwaits : s.refreshWaits (channelOf l.val) = false) (hturn : (s.care l.val).esc = true ∨ s.idleMode l.val = true)
    (hroom : s.rowRoom l.val (s.rowLa l.val (s.care l.val).calBank (s.care l.val).calRow) = true) :
    Completes (.calenderVisit l flips) s fun t => ∃ u : State, t = u.calNext l.val ∧ u.now = s.now ∧
      (u.care l.val).calBank = (s.care l.val).calBank ∧ (u.care l.val).calRow = (s.care l.val).calRow ∧
      (u.care l.val).calFree = s.now12 + 32 * (if (s.care l.val).esc then 64 else s.setting 0x400D (stackOf l.val)) *
        s.qPeriod (stackOf l.val) ∧
      ((u.leaf l.val).bank (s.care l.val).calBank).tAct = s.touchAt l.val (s.care l.val).calBank ∧
      ((u.leaf l.val).bank (s.care l.val).calBank).openRow = none := by
  obtain ⟨hpace, hvisit, hrow⟩ := State.visited_leaves hready flips
  simp only [Care.visit, Prod.mk.injEq] at hvisit
  obtain ⟨hbank, hcal, hfree⟩ := hvisit
  exact ⟨_, calenderVisit_visits flips hready hwaits hturn hroom, _, rfl, hpace.now, hbank, hcal, hfree,
    congrArg Prod.snd hrow, congrArg Prod.fst hrow⟩

/-! ## The position after a visit (R336, R340) -/

theorem State.calNext_bank {u : State} {l : Nat} (h : (u.care l).calBank + 1 < u.banksOf l) :
    u.calNext l = u.setCare l { u.care l with calBank := (u.care l).calBank + 1 } :=
  if_pos h

theorem State.calNext_row {u : State} {l : Nat} (hb : u.banksOf l ≤ (u.care l).calBank + 1)
    (hr : (u.care l).calRow + 1 < (u.geom (stackOf l)).rows) :
    u.calNext l = u.setCare l { u.care l with calBank := 0, calRow := (u.care l).calRow + 1 } :=
  (if_neg (Nat.not_lt.mpr hb)).trans (if_pos hr)

/-- A request of an activity that is over completes, and changes no leaf's care. -/
theorem State.endReqs_care (s : State) (ms : List MReq) (l : Nat) : (ms.foldl (fun s m => s.endReq m) s).care l = s.care l :=
  State.care_congr ((Kept.foldl (w := 0x7000004) (fun _ _ h => State.endReq_kept (by decide) h _) ms s (.refl s)).same .cares) l

/-- The end of a lap: it is counted, ends an escalation, and the next begins. -/
theorem State.calNext_lap {u : State} {l : Nat} (hb : u.banksOf l ≤ (u.care l).calBank + 1)
    (hr : (u.geom (stackOf l)).rows ≤ (u.care l).calRow + 1) :
    ((u.calNext l).care l).calBank = 0 ∧ ((u.calNext l).care l).calRow = 0 ∧
      ((u.calNext l).care l).laps = ((u.care l).laps + 1) % 256 ∧ ((u.calNext l).care l).esc = false ∧
      ((u.calNext l).care l).lapLast = min 1048575 ((u.now - (u.care l).lapStart) / 1000000000) ∧
      ((u.calNext l).care l).lapStart = u.now := by
  unfold State.calNext
  dsimp only
  rw [if_neg (Nat.not_lt.mpr hb), if_neg (Nat.not_lt.mpr hr), State.endReqs_care, State.setCare_care_self]
  exact ⟨rfl, rfl, rfl, rfl, rfl, rfl⟩

theorem calenderEscalate_escalates {l : Fin 1024} {s : State}
    (hlap : (s.care l.val).lapStart + s.setting 0x400E (stackOf l.val) * 3600000000000 ≤ s.now)
    (hesc : (s.care l.val).esc = false) (hscrub : ((s.care l.val).every.any (fun m => m.act == .scrub)) = true)
    (hup : s.leafUp l.val = true) (hparked : (s.leaf l.val).parked = false) : exec (.calenderEscalate l) s =
      .next ((s.setCare l.val { s.care l.val with esc := true, lapLate := true }).maint 5 (stackOf l.val)) :=
  if_pos (by simp [hlap, hesc, hscrub, hup, hparked])

/-! ## Heals (R342) -/

/-- A row's access and its copy, as a heal makes them. -/
def State.healCopied (s : State) (l : Nat) (m : MReq) (flips : List (BitVec 72)) : State :=
  ((s.rowWon l).touchRow l m.bank m.row true).copyRow l m.bank m.row flips

/-- A request is done, and no other. -/
def MReq.markDone (m x : MReq) : MReq := if x == m then { x with done := true } else x

theorem MReq.markDone_self (m : MReq) : m.markDone m = { m with done := true } := if_pos (beq_self_eq_true m)

theorem MReq.markDone_other {m x : MReq} (h : x ≠ m) : m.markDone x = x := if_neg (by simpa using h)

/-- A leaf's care once a row is healed: its tracker entries are HEALED from `htime` on, and its heal is done. -/
def Care.healedAt (c : Care) (m : MReq) (htime : Nat) : Care :=
  { c with
    track := Tab.mapVals c.track (fun _ e =>
      if e.bank == m.bank && e.row == m.row then { e with healed := true, htime := htime } else e),
    holder := c.holder.map m.markDone, riders := c.riders.map m.markDone, joined := c.joined.map m.markDone }

theorem heal_copies {l : Fin 1024} {flips : List (BitVec 72)} {s u : State} {m : MReq}
    (hruns : (s.care l.val).runs .heal = true) (hup : s.leafUp l.val = true) (hgap : (s.chan (channelOf l.val)).gap = false)
    (hstop : s.stopping = false)
    (hm : ((s.care l.val).running ++ (s.care l.val).joined).find? (fun m => m.act == .heal && !m.done) = some m)
    (hstep : s.stepBefore (channelOf l.val) 5 = false) (hfree : s.rowFree l.val m.bank = true)
    (hroom : s.rowRoom l.val (s.rowLa l.val m.bank m.row) = true) (hu : u = s.healCopied l.val m flips) :
    ∃ htime, exec (.heal l flips) s = .next (u.setCare l.val ((u.care l.val).healedAt m htime)) := by
  subst hu
  refine ⟨(((s.healCopied l.val m flips).leaf l.val).busFree - (s.healCopied l.val m flips).qPeriod (stackOf l.val)) / 12, ?_⟩
  show execHeal l flips s = _
  unfold execHeal
  dsimp only
  rw [if_neg (by simp [hruns, hup, hgap]), hm]
  dsimp only
  rw [if_neg (by simp [hstop, hstep, hfree, hroom])]
  rfl

/-! ## Row repairs (R347) -/

/-- The copy of a row to its spare, within a gap that closes behind it. -/
def State.rowSaved (s : State) (l : Nat) (m : MReq) (flips : List (BitVec 72)) : State :=
  (((s.openGap (channelOf l)).rowCount l m.bank m.row).copyRow l m.bank m.row flips).maintSlots l 64

theorem State.rowSaved_supply (s : State) (l : Nat) (m : MReq) (flips : List (BitVec 72)) :
    (s.rowSaved l m flips).supply = s.supply :=
  (State.maintSlots_kept (w := 0x31e1457e28) (by decide) (State.copyRow_kept (by decide) (State.rowCount_kept (by decide)
    (State.openGap_kept (by decide) (.refl s) _) _ _ _) _ _ _ _) _ _).same .supply

/-- Once a row is saved its gap is closed, and a spare row of its bank is taken. -/
def State.spareTaken (u : State) (l bank : Nat) : State :=
  let u := u.setChan (channelOf l) { u.chan (channelOf l) with gap := false }
  u.setSup (stackOf l) { u.sup (stackOf l) with
    spareRows := Tab.add (u.sup (stackOf l)).spareRows (l % 64 * 64 + bank) 1 }

theorem State.spareTaken_gap (u : State) (l bank : Nat) : ((u.spareTaken l bank).chan (channelOf l)).gap = false := by
  unfold State.spareTaken
  dsimp only
  rw [State.setSup_chan_same, State.setChan_chan_self]

theorem State.spareTaken_supply {s u : State} (h : u.supply = s.supply) (l bank : Nat) : (u.spareTaken l bank).supply =
    (s.setSup (stackOf l) { s.sup (stackOf l) with
      spareRows := Tab.add (s.sup (stackOf l)).spareRows (l % 64 * 64 + bank) 1 }).supply := by
  unfold State.spareTaken
  dsimp only
  rw [State.setSup_supply, State.setSup_supply, State.setChan_supply, State.setChan_sup_same, State.sup_congr h, h]

theorem rowRepair_repairs {l : Fin 1024} {flips : List (BitVec 72)} {spare : Fin 256} {s : State} {m : MReq}
    (hm : (s.care l.val).nextRepair false = some m) (hup : s.leafUp l.val = true) (hstop : s.stopping = false)
    (hstep : s.stepBefore (channelOf l.val) 5 = false) (hspare : s.spareLeft l.val m.bank ≠ 0) :
    ∃ (e : MapEntry) (c : Care), exec (.rowRepair l flips spare) s =
      .next ((((s.rowSaved l.val m flips).spareTaken l.val m.bank).addMap e).setCare l.val c) := by
  have hexec : exec (.rowRepair l flips spare) s = execRowRepair l flips spare s := rfl
  unfold execRowRepair at hexec
  rw [hm] at hexec
  dsimp only at hexec
  rw [if_neg (by simp [hup, hstop, hstep]), if_neg hspare] at hexec
  unfold State.rowSaved State.spareTaken
  exact ⟨_, _, hexec⟩

theorem rowRepair_takes {l : Fin 1024} {flips : List (BitVec 72)} {spare : Fin 256} {s : State} {m : MReq}
    (hm : (s.care l.val).nextRepair false = some m) (hup : s.leafUp l.val = true) (hstop : s.stopping = false)
    (hstep : s.stepBefore (channelOf l.val) 5 = false) (hspare : s.spareLeft l.val m.bank ≠ 0) :
    Completes (.rowRepair l flips spare) s fun t => (t.chan (channelOf l.val)).gap = false ∧
      t.supply = (s.setSup (stackOf l.val) { s.sup (stackOf l.val) with
        spareRows := Tab.add (s.sup (stackOf l.val)).spareRows (l.val % 64 * 64 + m.bank) 1 }).supply := by
  obtain ⟨e, c, hexec⟩ := rowRepair_repairs (flips := flips) (spare := spare) hm hup hstop hstep hspare
  have hsupply := State.spareTaken_supply (s.rowSaved_supply l.val m flips) l.val m.bank
  have hgap := (s.rowSaved l.val m flips).spareTaken_gap l.val m.bank
  generalize (s.rowSaved l.val m flips).spareTaken l.val m.bank = u at hexec hsupply hgap
  have hkept : Kept false false 0x31e0001000 u ((u.addMap e).setCare l.val c) :=
    State.setCare_kept (by decide) (State.addMap_kept (by decide) (.refl u) _) _ _
  exact ⟨_, hexec, by rw [State.chan_congr (hkept.same .chans), hgap], (hkept.same .supply).trans hsupply⟩

theorem rowRepair_spareless {l : Fin 1024} {flips : List (BitVec 72)} {spare : Fin 256} {s : State} {m : MReq}
    (hm : (s.care l.val).nextRepair false = some m) (hup : s.leafUp l.val = true) (hstop : s.stopping = false)
    (hstep : s.stepBefore (channelOf l.val) 5 = false) (hspare : s.spareLeft l.val m.bank = 0) :
    exec (.rowRepair l flips spare) s = .next (s.setCare l.val ((s.care l.val).markDone m 0)) := by
  show execRowRepair l flips spare s = _
  unfold execRowRepair
  rw [hm]
  dsimp only
  rw [if_neg (by simp [hup, hstop, hstep]), if_pos hspare]

/-! ## Lane repairs (R351) -/

theorem State.addMap_chans (s : State) (e : MapEntry) : (s.addMap e).chans = s.chans :=
  (State.addMap_kept (Nat.or_self _) (.refl s) e).same .chans

/-- A lane on its spare, at both operating points. -/
def Chan.remapped (x : Chan) (lane spare : Nat) : Chan :=
  { x with cal := x.cal.remap lane spare, eco := x.eco.map (fun e => e.remap lane spare) }

/-- A lane's repair done on both leaves of its channel. -/
def State.laneDone (s : State) (a : Nat) (m : MReq) (cause : Nat) : State :=
  [a, a + 1].foldl (fun s l => s.setCare l ((s.care l).markDone m cause)) s

theorem State.laneDone_chans (s : State) (a : Nat) (m : MReq) (cause : Nat) : (s.laneDone a m cause).chans = s.chans := rfl

theorem laneRepair_remaps {c : Fin 512} {s : State} {m : MReq} {i : Fin 4}
    (hm : (s.care (2 * c.val)).nextRepair true = some m) (hup : s.leafUp (2 * c.val) = true) (hstop : s.stopping = false)
    (hspare : s.spareOk c.val (m.lane / 36) i.val = true) : exec (.laneRepair c (some i)) s =
      .next ((((s.setChan c.val ((s.chan c.val).remapped m.lane i.val)).addMap (laneEntry c.val m.lane m.cause i.val)).laneDone
        (2 * c.val) m m.cause).requestRetrain c.val 6 0) := by
  show execLaneRepair c (some i) s = _
  unfold execLaneRepair
  dsimp only
  rw [hm]
  dsimp only
  rw [if_neg (by simp [hup, hstop]), if_neg (by simp [hspare])]
  rfl

theorem laneRepair_takes {c : Fin 512} {s : State} {m : MReq} {i : Fin 4}
    (hm : (s.care (2 * c.val)).nextRepair true = some m) (hup : s.leafUp (2 * c.val) = true) (hstop : s.stopping = false)
    (hspare : s.spareOk c.val (m.lane / 36) i.val = true) :
    Completes (.laneRepair c (some i)) s fun t => (t.chan c.val).cal = (s.chan c.val).cal.remap m.lane i.val := by
  refine ⟨_, laneRepair_remaps hm hup hstop hspare, ?_⟩
  obtain ⟨lc, ts, hchan⟩ := State.requestRetrain_chan (((s.setChan c.val ((s.chan c.val).remapped m.lane i.val)).addMap
    (laneEntry c.val m.lane m.cause i.val)).laneDone (2 * c.val) m m.cause) c.val 6 0 c.val
  rw [hchan, State.chan_congr (State.laneDone_chans _ _ _ _), State.chan_congr (State.addMap_chans _ _),
    State.setChan_chan_self]
  rfl

theorem laneRepair_loses {c : Fin 512} {s : State} {m : MReq} (hm : (s.care (2 * c.val)).nextRepair true = some m)
    (hup : s.leafUp (2 * c.val) = true) (hstop : s.stopping = false) :
    Completes (.laneRepair c none) s fun t => (t.care (2 * c.val)).lost = true ∧ (t.care (2 * c.val + 1)).lost = true := by
  refine ⟨((s.laneDone (2 * c.val) m 0).leafLost (2 * c.val)).leafLost (2 * c.val + 1), ?exec, ?_, ?_⟩
  case exec =>
    show execLaneRepair c none s = _
    unfold execLaneRepair
    dsimp only
    rw [hm]
    dsimp only
    rw [if_neg (by simp [hup, hstop])]
    rfl
  · rw [State.leafLost_care, if_neg (Nat.ne_of_lt (Nat.lt_succ_self _)), State.leafLost_care, if_pos rfl]
  · rw [State.leafLost_care, if_pos rfl]

/-- Settles O27, instruction by instruction. -/
theorem scrubAndRepairComplete : Obligations.ScrubAndRepairComplete := by
  unfold Obligations.ScrubAndRepairComplete
  refine ⟨fun l flips s => calenderVisit_reads, fun l u hb => ?bank, fun l u hb hr => ?row, fun l u => State.calNext_lap,
    fun l s => calenderEscalate_escalates, fun l flips s u m hruns hup hgap hstop hm hstep hfree hroom hu => ?heal,
    fun l flips spare s m => rowRepair_takes, fun l flips spare s m => rowRepair_spareless, fun c s m i => laneRepair_takes,
    fun c s m => laneRepair_loses⟩
  case bank =>
    rw [State.calNext_bank hb, State.setCare_care_self]
    exact ⟨rfl, rfl⟩
  case row =>
    rw [State.calNext_row hb hr, State.setCare_care_self]
    exact ⟨rfl, rfl⟩
  case heal =>
    obtain ⟨htime, hexec⟩ := heal_copies hruns hup hgap hstop hm hstep hfree hroom hu
    exact ⟨_, hexec, rfl, rfl, m.markDone, htime, m.markDone_self, fun _ => MReq.markDone_other, rfl⟩

end Sys2Proof.Machine

/-! # Commands that read back (R389, R472, R477, R481) -/

namespace Sys2Proof.Machine

/-- STATE_READ (R472): only the record of a watermark arming may draw a free value. -/
theorem stateRead_answers {p : Fin 521} {s : State} {c : Cmd} (h : s.accepts (.stateRead p) c) :
    Completes (.stateRead p) s fun t => t.bank = s.bank ∧ t.sets = s.sets ∧ s.answeredOk t p.val c
      (s.recordBytes (if c.b 1 = 0 then s.bank else s.pendingBank) (c.b 0) c.tenant (c.le 2 2) (c.le 4 2) (c.le 6 2)) := by
  obtain ⟨t, ht, hk, ha⟩ := s.accepts_chain (i := .stateRead p) rfl rfl h rfl
  by_cases harming : c.b 0 = 11
  · rw [if_pos harming] at hk ha
    exact ⟨t, ht, hk.same .bank, hk.same .sets, ha rfl rfl (by simp)⟩
  · rw [if_neg harming] at hk ha
    exact ⟨t, ht, hk.same .bank, hk.same .sets, ha rfl rfl (by simp)⟩

/-- Taking a command counts it (counter 28), and leaves every other counter of the chip as it was. -/
theorem State.taken_num_global (s : State) (m : MailRow) (c : Cmd) {j : Nat} (hj : j ≠ 28) :
    Tab.num (s.taken m c).cnt.global j = Tab.num s.cnt.global j :=
  State.cntG_num_other _ 1 hj

/-- ENERGY_READ (R481): the energies are none of the counters that the command itself moves. -/
theorem energyRead_answers {p : Fin 521} {s : State} {c : Cmd} {ten chip : Nat → Nat} (h : s.accepts (.energyRead p) c)
    (hten : ∀ n, ten n = Tab.num s.cnt.tenant (c.tenant * 64 + n)) (hchip : ∀ n, chip n = Tab.num s.cnt.global n) :
    Completes (.energyRead p) s fun t => s.answeredOk t p.val c (leBytes 8 s.regs.roundAt ++
      (if c.b 0 = 0 then [ten 40, ten 42, ten 44] else [chip 0, chip 2, 0]).flatMap (leBytes 8)) := by
  obtain ⟨t, ht, _, ha⟩ := s.accepts_chain (i := .energyRead p) rfl rfl h rfl
  dsimp only at ha
  rw [s.taken_num_global _ c (show 0 ≠ 28 by decide), s.taken_num_global _ c (show 2 ≠ 28 by decide)] at ha
  simp only [hten, hchip]
  exact ⟨t, ht, ha rfl rfl (by simp)⟩

/-- REPAIR_READ (R477). -/
theorem repairRead_answers {p : Fin 521} {s : State} {c : Cmd} {es : List MapEntry} (h : s.accepts (.repairRead p) c)
    (hes : es = (s.curMap.1.drop (c.le 4 2)).take 992) :
    Completes (.repairRead p) s fun t => s.answeredOk t p.val c (leBytes 2 es.length) ∧
      t.xfer = (s.putXfer (s.stackTable ++ es.flatMap MapEntry.bytes)).xfer := by
  subst hes
  obtain ⟨t, ht, hk, ha⟩ := s.accepts_chain (i := .repairRead p) rfl rfl h rfl
  exact ⟨t, ht, ha rfl rfl (by simp), hk.same .xfer⟩

/-- CAL_EXPORT (R389). -/
theorem calExport_answers {p : Fin 521} {s : State} {c : Cmd} (h : s.accepts (.calExport p) c) :
    Completes (.calExport p) s fun t => s.answeredOk t p.val c (leBytes 2 (s.section_ (c.b 0)).length) ∧
      t.xfer = (s.putXfer (s.section_ (c.b 0))).xfer := by
  obtain ⟨t, ht, hk, ha⟩ := s.accepts_chain (i := .calExport p) rfl rfl h rfl
  exact ⟨t, ht, ha rfl rfl (by simp), hk.same .xfer⟩

/-- Settles O56, command by command. -/
theorem readingCommandsAnswer : Obligations.ReadingCommandsAnswer := by
  unfold Obligations.ReadingCommandsAnswer
  exact ⟨fun _ _ _ => stateRead_answers, fun _ _ _ _ _ => energyRead_answers, fun _ _ _ _ => repairRead_answers,
    fun _ _ _ => calExport_answers⟩

end Sys2Proof.Machine

/-! # DW_THERMTRIP (R40, R410) -/

namespace Sys2Proof.Machine

/-- Settles O9: a tick keeps the pins, and of the commands only PORST_N clears the trip pin. -/
theorem thermtripLatches : Obligations.ThermtripLatches := by
  unfold Obligations.ThermtripLatches
  intro s t h hs
  obtain ⟨-, rfl⟩ | ⟨c, rest, hq, h⟩ := step_cases h
  · exact .inl (by rw [tick_pins]; exact hs)
  · by_cases hc : c = .powerOnReset
    · subst hc
      exact .inr ⟨rest, hq⟩
    · exact .inl ((exec_next_kept hc h).trip hs)

end Sys2Proof.Machine

/-! # What heat and power do to one stack leaves the others alone -/

namespace Sys2Proof.Machine

/-- Where a step is made once for each stack of a list, what is seen of one of them at the end is what its own step made of
what was seen of it at first; that step runs in a state that has whatever each step keeps. -/
theorem foldl_seen {α : Type} {f : State → Nat → State} {seen : State → α} {k : Nat} {P : State → Prop}
    (hother : ∀ u j, j ≠ k → seen (f u j) = seen u) (hP : ∀ u j, P u → P (f u j)) {l : List Nat} (hl : l.Nodup) (hk : k ∈ l)
    {s : State} (hs : P s) : ∃ u, P u ∧ seen u = seen s ∧ seen (l.foldl f s) = seen (f u k) := by
  obtain ⟨before, after, rfl⟩ := List.append_of_mem hk
  obtain ⟨-, hkafter, hapart⟩ := List.nodup_append.mp hl
  have hafter : k ∉ after := (List.nodup_cons.mp hkafter).1
  have hbefore : k ∉ before := fun h => hapart k h k List.mem_cons_self rfl
  have hrun : ∀ l : List Nat, k ∉ l → ∀ u, seen (l.foldl f u) = seen u := fun l hl u =>
    List.foldlRecOn (motive := fun v => seen v = seen u) l f rfl fun v hv j hj =>
      (hother v j fun e => hl (e ▸ hj)).trans hv
  refine ⟨before.foldl f s, List.foldlRecOn (motive := P) before f hs fun u hu j _ => hP u j hu, hrun _ hbefore s, ?_⟩
  rw [List.foldl_append, List.foldl_cons]
  exact hrun _ hafter _

/-- Every other stack keeps its heat and its supply, and DW_THR_ACK stays as it was sampled. -/
structure State.OnlyStack (k : Nat) (s t : State) : Prop where
  heat : ∀ j, j ≠ k → t.heatOf j = s.heatOf j
  sup : ∀ j, j ≠ k → t.sup j = s.sup j
  ack : t.pins.thrAck = s.pins.thrAck

namespace State.OnlyStack

theorem refl {k : Nat} (s : State) : s.OnlyStack k s := ⟨fun _ _ => rfl, fun _ _ => rfl, rfl⟩

theorem trans {k : Nat} {s t u : State} (h : s.OnlyStack k t) (g : t.OnlyStack k u) : s.OnlyStack k u :=
  ⟨fun j hj => (g.heat j hj).trans (h.heat j hj), fun j hj => (g.sup j hj).trans (h.sup j hj), g.ack.trans h.ack⟩

theorem ite {k : Nat} {s t u : State} {c : Prop} [Decidable c] (h : s.OnlyStack k t) (g : s.OnlyStack k u) :
    s.OnlyStack k (if c then t else u) := by
  split
  · exact h
  · exact g

theorem of_kept {k w : Nat} {s t : State} (h : Kept false false w s t)
    (hpins : w.testBit Field.pins.bit = false := by decide) (hheat : w.testBit Field.heat.bit = false := by decide)
    (hsupply : w.testBit Field.supply.bit = false := by decide) : s.OnlyStack k t :=
  ⟨fun j _ => State.heatOf_congr (h.same .heat hheat) j, fun j _ => State.sup_congr (h.same .supply hsupply) j,
    congrArg Pins.thrAck (h.same .pins hpins)⟩

theorem foldl {k : Nat} {α : Type} {f : State → α → State} (hf : ∀ (u : State) (a : α), u.OnlyStack k (f u a)) (l : List α)
    (s : State) : s.OnlyStack k (l.foldl f s) :=
  List.foldlRecOn (motive := s.OnlyStack k) l f (refl s) fun u hu a _ => hu.trans (hf u a)

section
variable (s : State) (k : Nat)

theorem setHeat (x : Heat) : s.OnlyStack k (s.setHeat k x) :=
  ⟨fun _ hj => State.setHeat_heatOf_other s x hj, fun _ _ => rfl, rfl⟩

theorem setSck (j : Nat) (x : StackClk) : s.OnlyStack k (s.setSck j x) := ⟨fun _ _ => rfl, fun _ _ => rfl, rfl⟩

theorem therm (bit j : Nat) : s.OnlyStack k (s.therm bit j) := ⟨fun _ _ => rfl, fun _ _ => rfl, rfl⟩

theorem note (cause cls num : Nat) (args : List (Nat × Nat)) : s.OnlyStack k (s.note cause cls num args) :=
  of_kept (State.note_kept (Nat.or_self _) (.refl s) cause cls num args)

theorem throttleRec (kind j : Nat) (chip : Bool) : s.OnlyStack k (s.throttleRec kind j chip) :=
  of_kept (State.throttleRec_kept (Nat.or_self _) (.refl s) kind j chip)

theorem sourceCheck (src : Nat × Option Int) : s.OnlyStack k (s.sourceCheck k src) := by
  unfold State.sourceCheck
  dsimp only
  split
  · exact ite (setHeat s k _) ((setHeat s k _).trans (note _ k _ _ _ _))
  · exact ite (refl s) (ite (setHeat s k _) (setHeat s k _))

theorem disagreeCheck (vs : List Int) : s.OnlyStack k (s.disagreeCheck k vs) := by
  unfold State.disagreeCheck
  have hset := fun x => (setHeat s k x).trans (therm _ k 4 k)
  exact ite (ite (hset _) ((hset _).trans (note _ k _ _ _ _))) (setHeat s k _)

theorem formTemp (r : Round) (suspect : Bool) : s.OnlyStack k (s.formTemp k r suspect) := by
  have hchecked : ∀ vs, s.OnlyStack k
      (((s.sources k r).foldl (fun u x => u.sourceCheck k x) s).disagreeCheck k vs) := fun vs =>
    (foldl (fun u x => sourceCheck u k x) (s.sources k r) s).trans (disagreeCheck _ k vs)
  unfold State.formTemp
  refine ite ?_ ?_
  · exact ((hchecked _).trans (setHeat _ k _)).trans (therm _ k _ _)
  · exact (hchecked _).trans (setHeat _ k _)

theorem setPins (p : Pins) (h : p.thrAck = s.pins.thrAck) : s.OnlyStack k { s with pins := p } :=
  ⟨fun _ _ => rfl, fun _ _ => rfl, h⟩

theorem thrLevel : s.OnlyStack k (s.thrLevel k) := by
  have hlevel : ∀ (req : Bool) (lvl : Nat),
      s.OnlyStack k { s with pins := { s.pins with thrReq := req, thrLevel := lvl } } := fun req lvl => setPins s k _ rfl
  unfold State.thrLevel
  exact ite (refl s) ((ite ((hlevel _ _).trans (therm _ k _ _)) (hlevel _ _)).trans (throttleRec _ k _ _ _))

theorem throttleStep : s.OnlyStack k (s.throttleStep k) := by
  have hset := fun x => setHeat s k x
  unfold State.throttleStep
  dsimp only
  split
  · exact ite (hset _) (refl s)
  · exact ite (hset _) (ite (refl s) (ite (hset _) (((hset _).trans (therm _ k _ _)).trans (throttleRec _ k _ _ _))))
  · exact ite (((hset _).trans (setHeat _ k _)).trans (throttleRec _ k _ _ _))
      (ite (hset _) ((hset _).trans (throttleRec _ k _ _ _)))
  · exact refl s

theorem tripStack : s.OnlyStack k (s.tripStack k) := by
  have hrecord : ∀ u : State, u.OnlyStack k (((u.therm 2 k).cntG 29 1).throttleRec 5 k false) := fun u =>
    (of_kept (w := 0xa0000000) (State.cntG_kept (by decide) (State.therm_kept (by decide) (.refl u) 2 k) 29 1)).trans
      (throttleRec _ k 5 k false)
  have htripped : ∀ (x : Heat) (p : Prop) [Decidable p] (c : StackClk),
      s.OnlyStack k (if p then (s.setHeat k x).setSck k c else s.setHeat k x) := fun x p _ c =>
    ite ((setHeat s k x).trans (setSck _ k k c)) (setHeat s k x)
  unfold State.tripStack
  exact ite ((((htripped _ _ _).trans (hrecord _)).trans (therm _ k _ _)).trans (throttleRec _ k _ _ _))
    ((htripped _ _ _).trans (hrecord _))

theorem restartStack : s.OnlyStack k (s.restartStack k) := by
  unfold State.restartStack
  exact ((setHeat s k _).trans (throttleRec _ k _ _ _)).trans (of_kept (State.rewake_kept (Nat.or_self _) (.refl _) k))

theorem noTemp : s.OnlyStack k (s.noTemp k) := setHeat s k _

/-- Of all supplies a stack that goes down loses its own. -/
theorem stackDown : s.OnlyStack k (s.stackDown k) := by
  have hsup : ∀ (u : State) (x : Supply), u.OnlyStack k (u.setSup k x) := fun u x =>
    ⟨fun _ _ => rfl, fun _ hj => State.setSup_sup_other u x hj, rfl⟩
  have hfailed : s.OnlyStack k ((s.quiresOn k).foldl State.failQuire s) :=
    foldl (fun u b => of_kept (State.failQuire_kept (Nat.or_self _) (.refl u) b)) _ s
  have hbroken : ∀ u : State, u.OnlyStack k (((List.range 64).foldl (fun s i => s.breakCare (k * 64 + i))
      (u.breakStack k 4)).clearLeaves k) := fun u =>
    ((of_kept (State.breakStack_kept (Nat.or_self _) (.refl u) k 4)).trans
      (foldl (fun v i => of_kept (State.breakCare_kept (Nat.or_self _) (.refl v) (k * 64 + i))) _ _)).trans
      (of_kept (State.clearLeaves_kept (Nat.or_self _) (.refl _) k))
  have hchans : ∀ (u : State) (cs : List Nat), u.OnlyStack k
      (cs.foldl (fun s c => (s.retrainOver c false).setChan c Chan.reset) u) := fun u cs =>
    foldl (fun v c => of_kept (w := 0x7040004) (State.setChan_kept (by decide)
      (State.retrainOver_kept (by decide) (.refl v) c false) c Chan.reset)) cs u
  have hended : ∀ (u : State) (ts : Tab Ticket), u.OnlyStack k
      (ts.foldl (fun s (tk, t) => s.finishAt tk stHwFault t.result noArg) u) := fun u ts =>
    foldl (fun v _ => of_kept (State.finishAt_kept (Nat.or_self _) (.refl v) _ _ _ _)) ts u
  have hpoint : ∀ u : State, u.OnlyStack k (u.opFinish k false) := fun u =>
    of_kept (State.opFinish_kept (Nat.or_self _) (.refl u) k false)
  have hprots : ∀ (u : State) (x : StackClk) (ps : Tab RowProt),
      u.OnlyStack k { u.setSck k x with prots := ps } := fun _ _ _ =>
    ⟨fun _ _ => rfl, fun _ _ => rfl, rfl⟩
  unfold State.stackDown
  exact (((((hfailed.trans (hbroken _)).trans (hchans _ _)).trans (hpoint _)).trans (hended _ _)).trans (hprots _ _ _)).trans
    (hsup _ _)

theorem tripCheck : s.OnlyStack k (s.tripCheck k) := by
  have hwatched : ∀ (hot tripped cold : Prop) [Decidable hot] [Decidable tripped] [Decidable cold] (x : Heat), s.OnlyStack k
      (if hot then s.tripStack k else if tripped then
        (if cold then (s.setHeat k x).restartStack k else s.setHeat k x) else s) := fun _ _ _ _ _ _ x =>
    ite (tripStack s k) (ite (ite ((setHeat s k x).trans (restartStack _ k)) (setHeat s k x)) (refl s))
  have hcritical : ∀ (u : State) (x : Heat), u.OnlyStack k (((((({ u with pins := { u.pins with thermtrip := true } }).setBkp
      0 13 1 1).setBkp 0 14 4 k).therm 3 k).setHeat k x).throttleRec 8 k false) := fun u x =>
    (((setPins u k { u.pins with thermtrip := true } rfl).trans (of_kept (w := 0x80000004) (State.therm_kept (by decide)
      (State.setBkp_kept (by decide) (State.setBkp_kept (by decide) (.refl _) 0 13 1 1) 0 14 4 k) 3 k))).trans
      (setHeat _ k x)).trans (throttleRec _ k 8 k false)
  unfold State.tripCheck
  dsimp only
  split
  · exact refl s
  · exact ite (hwatched _ _ _ _) (((hwatched _ _ _ _).trans (hcritical _ _)).trans (stackDown _ k))

/-- A stack's part of a housekeeping round is about that stack. -/
theorem stackRound (r : Round) (suspect : Bool) : s.OnlyStack k (s.stackRound k r suspect) := by
  have hpow : ∀ x, s.OnlyStack k (s.setPow k x) := fun _ => ⟨fun _ _ => rfl, fun _ _ => rfl, rfl⟩
  have hset : ∀ (u : State) (x : Heat) (c : StackClk), u.OnlyStack k ((u.setSck k c).setHeat k x) := fun u x c =>
    (setSck u k k c).trans (setHeat _ k x)
  have hjudged : ∀ u : State, u.OnlyStack k (((u.thrLevel k).throttleStep k).tripCheck k) := fun u =>
    ((thrLevel u k).trans (throttleStep _ k)).trans (tripCheck _ k)
  have htuned : ∀ (u : State) (t : Int), u.OnlyStack k ((u.tempTriggers k t).trimBias k t) := fun u t =>
    of_kept (w := 0x41000) (State.trimBias_kept (by decide) (State.tempTriggers_kept (by decide) (.refl u) k t) k t)
  unfold State.stackRound
  dsimp only
  refine ite ((hpow _).trans (noTemp _ k)) ?_
  split
  · exact (hpow _).trans (formTemp _ k r suspect)
  · have hformed := fun x c y => (((hpow y).trans (formTemp _ k r suspect)).trans (hset _ x c))
    exact ((ite ((hformed _ _ _).trans (therm _ k 6 k)) (hformed _ _ _)).trans (hjudged _)).trans (htuned _ _)

end

end State.OnlyStack

end Sys2Proof.Machine

/-! # Heat (R393-R410) -/

namespace Sys2Proof.Machine

/-! ## The temperature of a stack -/

theorem le_foldl_max_int (l : List Int) : ∀ b : Int, b ≤ l.foldl max b ∧ ∀ x ∈ l, x ≤ l.foldl max b := by
  induction l with
  | nil => exact fun b => ⟨le_refl b, fun _ h => nomatch h⟩
  | cons a l ih =>
    intro b
    obtain ⟨hb, hl⟩ := ih (max b a)
    refine ⟨(le_max_left _ _).trans hb, fun x hx => ?_⟩
    obtain rfl | hx := List.mem_cons.mp hx
    · exact (le_max_right _ _).trans hb
    · exact hl x hx

/-- A valid reading of one of a stack's diodes is among its sources, as it is where no offset is injected (R394, R395). -/
theorem State.diode_source {s : State} {k i : Nat} {r : Round} {v : Int} (hi : i = 2 * k ∨ i = 2 * k + 1)
    (hinj : (s.heatOf k).injRounds = 0) (hv : (r.adc[i]?).getD none = some v) (hlo : -320 ≤ v) (hhi : v ≤ 1200) :
    v ∈ (s.sources k r).filterMap (fun x => x.2) := by
  have hsrc : (validTemp (some v)).map (fun v => v + (if 0 < (s.heatOf k).injRounds then (s.heatOf k).injTemp else 0)) =
      some v := by
    simp [validTemp, hinj, hlo, hhi]
  rw [List.mem_filterMap]
  obtain rfl | rfl := hi
  · exact ⟨(0, some v), by unfold State.sources; rw [hv]; dsimp only; rw [hsrc]; simp, rfl⟩
  · exact ⟨(1, some v), by unfold State.sources; rw [hv]; dsimp only; rw [hsrc]; simp, rfl⟩

theorem State.ite_therm_heatOf (s : State) (p : Prop) [Decidable p] (bit k j : Nat) :
    (if p then s.therm bit k else s).heatOf j = s.heatOf j := by
  split <;> rfl

/-- T is at least each valid reading (R395). -/
theorem State.formTemp_ge (s : State) {k : Nat} {r : Round} (suspect : Bool) {v : Int}
    (hv : v ∈ (s.sources k r).filterMap (fun x => x.2)) :
    ∃ t, ((s.formTemp k r suspect).heatOf k).temp = some t ∧ v ≤ t := by
  have hne : ((s.sources k r).filterMap (fun x => x.2)).isEmpty = false := by
    rw [List.isEmpty_eq_false_iff]
    exact List.ne_nil_of_mem hv
  refine ⟨_, ?_, (le_foldl_max_int _ (((s.sources k r).filterMap (fun x => x.2)).headD 0)).2 v hv⟩
  unfold State.formTemp
  dsimp only
  rw [State.ite_therm_heatOf, State.setHeat_heatOf_self, hne]
  rfl

/-! ## Trips -/

theorem State.thrLevel_heatOf (s : State) (k j : Nat) : (s.thrLevel k).heatOf j = s.heatOf j :=
  State.heatOf_congr ((State.thrLevel_kept (Nat.or_self _) (.refl s) k).same .heat) j

theorem State.throttleRec_heatOf (s : State) (kind k : Nat) (chip : Bool) (j : Nat) :
    (s.throttleRec kind k chip).heatOf j = s.heatOf j :=
  State.heatOf_congr ((State.throttleRec_kept (Nat.or_self _) (.refl s) kind k chip).same .heat) j

/-- The throttle state machine leaves T as it is. -/
theorem State.throttleStep_temp (s : State) (k : Nat) : ((s.throttleStep k).heatOf k).temp = (s.heatOf k).temp := by
  have hgraced : ∀ x : Heat, ((((s.setHeat k x).therm 1 k).throttleRec 2 k false).heatOf k).temp = x.temp := fun x => by
    rw [State.throttleRec_heatOf]
    exact congrArg Heat.temp (s.setHeat_heatOf_self k x)
  have henforced : ∀ (x : Heat) (over_ same : Prop) [Decidable over_] [Decidable same], ((if over_ then
      ((s.setHeat k x).setHeat k { (s.setHeat k x).heatOf k with st := .idle }).throttleRec 4 k false
      else if same then s.setHeat k x else (s.setHeat k x).throttleRec 3 k false).heatOf k).temp = x.temp := fun x _ _ _ _ => by
    split
    · simp [State.throttleRec_heatOf]
    · split <;> simp [State.throttleRec_heatOf]
  unfold State.throttleStep
  dsimp only
  split
  · split <;> simp
  · split
    · simp
    · split
      · rfl
      · split
        · simp
        · exact hgraced _
  · exact henforced _ _ _
  · rfl

theorem State.tripStack_st (s : State) (k : Nat) : ((s.tripStack k).heatOf k).st = .tripped := by
  have hrecord : ∀ (u : State) (p : Prop) [Decidable p], (if p then
      ((((u.therm 2 k).cntG 29 1).throttleRec 5 k false).therm 9 k).throttleRec 7 k false
      else ((u.therm 2 k).cntG 29 1).throttleRec 5 k false).heatOf k = u.heatOf k := fun u p _ => by
    split
    · exact (State.throttleRec_heatOf _ _ _ _ _).trans (State.throttleRec_heatOf _ _ _ _ _)
    · exact State.throttleRec_heatOf _ _ _ _ _
  unfold State.tripStack
  dsimp only
  rw [hrecord]
  split
  · rw [State.setSck_heatOf_same, State.setHeat_heatOf_self]
  · rw [State.setHeat_heatOf_self]

/-- From 105 degrees a stack is tripped (R405), and at 115 it stays so (R410). -/
theorem State.tripCheck_trips {s : State} {k : Nat} {t : Int} (ht : (s.heatOf k).temp = some t) (hot : 840 ≤ t) :
    ((s.tripCheck k).heatOf k).st = .tripped := by
  have hcritical : ∀ (u : State), ((((((({ u with pins := { u.pins with thermtrip := true } }).setBkp 0 13 1 1).setBkp 0 14 4
      k).therm 3 k).setHeat k { u.heatOf k with critical := true }).throttleRec 8 k false).stackDown k).heatOf k =
      { u.heatOf k with critical := true } := fun u => by
    rw [State.heatOf_congr ((State.stackDown_kept (Nat.or_self _) (.refl _) k).same .heat), State.throttleRec_heatOf,
      State.setHeat_heatOf_self]
  have hjudged : ∀ x : Heat, x.st = (s.heatOf k).st → ((if decide (840 ≤ t) && (s.heatOf k).st != .tripped then s.tripStack k
      else if (s.heatOf k).st == .tripped then s.setHeat k x else s).heatOf k).st = .tripped := fun x hx => by
    by_cases hst : (s.heatOf k).st = .tripped
    · simp [hst, hx]
    · simp [hst, hot, State.tripStack_st]
  have hwarm : ¬ ((s.heatOf k).held && (s.heatOf k).released && decide (t < 720)) = true := by
    have : ¬ t < 720 := by omega
    simp [this]
  unfold State.tripCheck
  dsimp only
  rw [ht]
  dsimp only
  rw [if_neg hwarm]
  split
  · exact hjudged _ (by rfl)
  · exact (congrArg Heat.st (hcritical _)).trans (hjudged _ (by rfl))

/-- A powered stack with a diode at a valid 105 degrees or more leaves its part of a round tripped (R405). -/
theorem State.stackRound_trips {s : State} {k i : Nat} {r : Round} {v : Int} (suspect : Bool) (hon : (s.sup k).enable = true)
    (hopen : (s.sup k).fenced = false) (hinj : (s.heatOf k).injRounds = 0) (hi : i = 2 * k ∨ i = 2 * k + 1)
    (hv : (r.adc[i]?).getD none = some v) (hhot : 840 ≤ v) (hvalid : v ≤ 1200) :
    ((s.stackRound k r suspect).heatOf k).st = .tripped := by
  have htuned : ∀ (u : State) (t : Int), ((u.tempTriggers k t).trimBias k t).heatOf k = u.heatOf k := fun u t =>
    State.heatOf_congr ((State.trimBias_kept (w := 0x41000) (by decide) (State.tempTriggers_kept (by decide) (.refl u) k t)
      k t).same .heat) k
  have htripped : ∀ (u : State) {t : Int}, (u.heatOf k).temp = some t → 840 ≤ t →
      ((((u.thrLevel k).throttleStep k).tripCheck k).heatOf k).st = .tripped := fun u t ht hot =>
    State.tripCheck_trips (by rw [State.throttleStep_temp, State.thrLevel_heatOf, ht]) hot
  generalize hs' : s.setPow k { s.pow k with vdd := (((r.adc[36 + k]?).getD none).getD (s.pow k).vdd).toNat } = s'
  have hheat : s'.heatOf k = s.heatOf k := by rw [← hs']; rfl
  obtain ⟨t, ht, hle⟩ := s'.formTemp_ge suspect (State.diode_source hi (hheat ▸ hinj) hv (by omega) hvalid)
  unfold State.stackRound
  dsimp only
  rw [hs', if_neg (by simp [hon, hopen]), ht]
  dsimp only
  rw [htuned, htripped (t := t) _ (by rw [State.ite_therm_heatOf, State.setHeat_heatOf_self]; exact ht) (by omega)]

/-- A powered stack with a diode at a valid 105 degrees or more is tripped once every stack has had its part of a round (R405):
no other stack's part takes its supply or its heat. -/
theorem State.stackRounds_trip (s : State) {k i : Nat} {r : Round} {v : Int} (suspect : Bool) (hk : k < 16)
    (hon : (s.sup k).enable = true) (hopen : (s.sup k).fenced = false) (hinj : (s.heatOf k).injRounds = 0)
    (hi : i = 2 * k ∨ i = 2 * k + 1) (hv : (r.adc[i]?).getD none = some v) (hhot : 840 ≤ v) (hvalid : v ≤ 1200) :
    (((List.range 16).foldl (fun s k => s.stackRound k r suspect) s).heatOf k).st = .tripped := by
  obtain ⟨u, -, hu, hseen⟩ := foldl_seen (f := fun s k => s.stackRound k r suspect) (seen := fun s => (s.heatOf k, s.sup k))
    (k := k) (P := fun _ => True) (l := List.range 16) (s := s)
    (fun u j hj => Prod.ext ((State.OnlyStack.stackRound u j r suspect).heat k hj.symm)
      ((State.OnlyStack.stackRound u j r suspect).sup k hj.symm)) (fun _ _ _ => trivial) List.nodup_range (List.mem_range.mpr hk)
    trivial
  obtain ⟨hheat, hsup⟩ := Prod.mk.inj hu
  obtain ⟨hheat', -⟩ := Prod.mk.inj hseen
  rw [hheat']
  exact State.stackRound_trips suspect (hsup ▸ hon) (hsup ▸ hopen) (hheat ▸ hinj) hi hv hhot hvalid

/-- The stacks' parts of a round leave DW_THR_ACK as it was sampled, and take no time. -/
theorem State.stackRounds_keep (s : State) (r : Round) (suspect : Bool) :
    ((List.range 16).foldl (fun s k => s.stackRound k r suspect) s).pins.thrAck = s.pins.thrAck ∧
      ((List.range 16).foldl (fun s k => s.stackRound k r suspect) s).clk = s.clk :=
  List.foldlRecOn (motive := fun u : State => u.pins.thrAck = s.pins.thrAck ∧ u.clk = s.clk) _ _ ⟨rfl, rfl⟩
    fun u ⟨hack, hclk⟩ k _ => ⟨(State.OnlyStack.stackRound u k r suspect).ack.trans hack,
      ((State.stackRound_kept (Nat.or_self _) (.refl u) k r suspect).same .clk).trans hclk⟩

/-! ## The rest of a round -/

/-- Forming G_p only marks THERM_STAT among the registers. -/
theorem State.formGp_regs (s : State) (p : Nat) (r : Round) :
    (s.formGp p r).regs = { s.regs with thermStat := (s.formGp p r).regs.thermStat } := by
  have hnote : ∀ (u : State) (a b c : Nat) (l : List (Nat × Nat)), (u.note a b c l).regs = u.regs := fun u a b c l =>
    (State.note_kept (Nat.or_self _) (.refl u) a b c l).same .regs
  unfold State.formGp
  dsimp only
  split
  · split
    · rfl
    · split
      · rfl
      · rw [hnote]
        rfl
  · rfl

/-- What follows the stacks' part of a round: the rails' power, the regulators' factors, the energy accounts and the tenants'
words. -/
def State.roundEnd (s : State) (r : Round) (rails : Nat) : State :=
  let s := { s with regs := { s.regs with railPower := rails, roundAt := s.now, roundNext := s.regs.roundNext + us 500 } }
  ((((List.range 8).foldl (fun s p => s.formGp p r) s).accountEnergy rails).throttleWords).compensate r

/-- Forming every G_p leaves the pins, the heat, the rails' power and the round's time as they are. -/
theorem State.formGps_keep (s : State) (r : Round) :
    Kept false false 0x30e0010000 s ((List.range 8).foldl (fun s p => s.formGp p r) s) ∧
    ((List.range 8).foldl (fun s p => s.formGp p r) s).regs.railPower = s.regs.railPower ∧
    ((List.range 8).foldl (fun s p => s.formGp p r) s).regs.roundAt = s.regs.roundAt :=
  List.foldlRecOn (motive := fun u : State => Kept false false 0x30e0010000 s u ∧ u.regs.railPower = s.regs.railPower ∧
    u.regs.roundAt = s.regs.roundAt) _ _ ⟨.refl s, rfl, rfl⟩ fun u ⟨hk, hpower, hat⟩ p _ =>
      ⟨State.formGp_kept (Nat.or_self _) hk p r, by rw [u.formGp_regs]; exact hpower, by rw [u.formGp_regs]; exact hat⟩

theorem State.roundEnd_forms (s : State) (r : Round) (rails : Nat) : (s.roundEnd r rails).pins = s.pins ∧
    (s.roundEnd r rails).heat = s.heat ∧ (s.roundEnd r rails).regs.railPower = rails ∧
    (s.roundEnd r rails).regs.roundAt = s.now := by
  unfold State.roundEnd
  dsimp only
  generalize hv : ({ s with regs := _ } : State) = v
  obtain ⟨hgp, hpower, hat⟩ := v.formGps_keep r
  generalize (List.range 8).foldl (fun s p => s.formGp p r) v = u at hgp hpower hat
  have hrest : Kept false false 0x3070010021 u ((u.accountEnergy rails).throttleWords.compensate r) :=
    State.compensate_kept (by decide) (State.throttleWords_kept (by decide) (State.accountEnergy_kept (by decide) (.refl u)
      rails)) r
  have hregs : ((u.accountEnergy rails).throttleWords.compensate r).regs = u.regs := hrest.same .regs
  rw [hregs, hpower, hat, hrest.same .pins, hrest.same .heat, hgp.same .pins, hgp.same .heat, ← hv]
  exact ⟨rfl, rfl, rfl, rfl⟩

/-- A housekeeping round that is due (R393): DW_THR_ACK is sampled, the stacks have their part, and the rails' power is
formed. -/
theorem housekeepingRound_runs {r : Round} {s : State} (hp : s.pins.porst = false) (hdue : s.regs.roundNext ≤ s.clk.ticks) :
    Completes (.housekeepingRound r) s fun t => t.pins.thrAck = r.thrAck.toNat ∧ t.regs.roundAt = s.now ∧
      t.regs.railPower = ([60, 61, 62].map (fun i => (((r.adc[i]?).getD none).getD 0).toNat)).sum ∧
      ∃ (u : State) (suspect : Bool), u.heat = s.heat ∧ u.supply = s.supply ∧
        t.heat = ((List.range 16).foldl (fun s k => s.stackRound k r suspect) u).heat := by
  have hexec : exec (.housekeepingRound r) s = execHousekeepingRound r s := rfl
  unfold execHousekeepingRound at hexec
  rw [if_neg (by simp [hp, hdue])] at hexec
  dsimp only at hexec
  generalize (decide ((10 : Int) < ((r.adc[63]?).getD none).getD 0) ||
    decide (((r.adc[63]?).getD none).getD 0 < -10)) = suspect at hexec
  generalize hu : (if suspect = true then State.note _ _ _ _ _ else _) = u at hexec
  have hsampled : u.pins.thrAck = r.thrAck.toNat ∧ u.clk = s.clk ∧ u.heat = s.heat ∧ u.supply = s.supply := by
    have hnoted : Kept false false 0x3060000000 { s with pins := { s.pins with thrAck := r.thrAck.toNat } } u := hu ▸
      .ite (State.note_kept (Nat.or_self _) (.refl _) _ _ _ _) (.refl _)
    exact ⟨congrArg Pins.thrAck (hnoted.same .pins), hnoted.same .clk, hnoted.same .heat, hnoted.same .supply⟩
  obtain ⟨hack, hclk, hheat, hsup⟩ := hsampled
  obtain ⟨hack', hclk'⟩ := u.stackRounds_keep r suspect
  generalize hw : (List.range 16).foldl (fun s k => s.stackRound k r suspect) u = w at hexec hack' hclk'
  have hnow : w.now = s.now := by
    unfold State.now
    rw [hclk', hclk]
  obtain ⟨rails, hrails, hexec⟩ : ∃ rails, rails = ([60, 61, 62].map (fun i => (((r.adc[i]?).getD none).getD 0).toNat)).sum ∧
      exec (.housekeepingRound r) s = .next (w.roundEnd r rails) := by
    refine ⟨_, ?_, by unfold State.roundEnd; exact hexec⟩
    simp [Nat.add_assoc]
  obtain ⟨hpins, hheat', hpower, hat⟩ := w.roundEnd_forms r rails
  exact ⟨_, hexec, (congrArg Pins.thrAck hpins).trans (hack'.trans hack), hat.trans hnow, hpower.trans hrails, u, suspect,
    hheat, hsup, hheat'.trans (congrArg State.heat hw.symm)⟩

/-! ## Restarts (R408) -/

/-- Of all heat a restart writes its own stack's. -/
theorem State.restartStack_heat (s : State) (k : Nat) : (s.restartStack k).heat = (s.setHeat k { s.heatOf k with
    st := .enforce, lt := s.setting 0x5207 0, tl := s.clk.ticks, cool := none, held := false, released := false }).heat := by
  unfold State.restartStack
  exact (State.rewake_kept (w := 0x3060056400) (by decide)
    (State.throttleRec_kept (by decide) (.refl _) 6 k false) k).same .heat

theorem thermalRestart_restarts {k : Fin 16} {s : State} {at_ : Nat} (hst : (s.heatOf k.val).st = .tripped)
    (hheld : (s.heatOf k.val).held = false) (hcool : (s.heatOf k.val).cool = some at_) (hover : at_ + ms 100 ≤ s.clk.ticks) :
    exec (.thermalRestart k) s = .next (s.restartStack k.val) := by
  show execThermalRestart k s = _
  unfold execThermalRestart
  dsimp only
  rw [hcool]
  simp [hst, hheld, hover]

/-- A held stack waits for its release (R409). -/
theorem thermalRestart_held {k : Fin 16} {s : State} (hheld : (s.heatOf k.val).held = true) :
    exec (.thermalRestart k) s = .next s := by
  show execThermalRestart k s = _
  unfold execThermalRestart
  dsimp only
  split
  · rfl
  · simp [hheld]

/-- Settles O33, event by event. -/
theorem heatEventsComplete : Obligations.HeatEventsComplete := by
  unfold Obligations.HeatEventsComplete
  refine ⟨fun r s hp hdue => ?round, fun k s at_ hst hheld hcool hover => ⟨_, thermalRestart_restarts hst hheld hcool hover,
    s.restartStack_heat k.val⟩, fun k s => thermalRestart_held⟩
  case round =>
    obtain ⟨t, hexec, hack, hat, hpower, u, suspect, hheat, hsup, hround⟩ := housekeepingRound_runs (r := r) hp hdue
    refine ⟨t, hexec, hack, hat, hpower, fun k i v hk hi hon hopen hinj hv hhot hvalid => ?_⟩
    rw [State.heatOf_congr hround]
    exact u.stackRounds_trip suspect hk (State.sup_congr hsup k ▸ hon) (State.sup_congr hsup k ▸ hopen)
      (State.heatOf_congr hheat k ▸ hinj) hi hv hhot hvalid

end Sys2Proof.Machine

/-! # Commands on stacks (R409, R479) -/

namespace Sys2Proof.Machine

/-- THERMAL_RELEASE's act on one of the held stacks it names (R409). -/
def State.releaseHeld (s : State) (k : Nat) : State :=
  let h := s.heatOf k
  let cold := match h.temp with | some t => decide (t < 720) | none => false
  if cold then s.restartStack k else s.setHeat k { h with released := true }

/-- Below 90 degrees a released stack restarts. -/
theorem State.releaseHeld_cold {s : State} {k : Nat} {d : Int} (hd : (s.heatOf k).temp = some d) (hcold : d < 720) :
    ((s.releaseHeld k).heatOf k).st = .enforce ∧ ((s.releaseHeld k).heatOf k).held = false ∧
      ((s.releaseHeld k).heatOf k).lt = s.setting 0x5207 0 := by
  have hrelease : s.releaseHeld k = s.restartStack k := by
    unfold State.releaseHeld
    simp [hd, hcold]
  rw [hrelease, State.heatOf_congr (s.restartStack_heat k), State.setHeat_heatOf_self]
  exact ⟨rfl, rfl, rfl⟩

/-- From 90 degrees on, or without a temperature, it is marked released and waits. -/
theorem State.releaseHeld_warm {s : State} {k : Nat} (hwarm : ∀ d, (s.heatOf k).temp = some d → ¬ d < 720) :
    ((s.releaseHeld k).heatOf k).released = true ∧ ((s.releaseHeld k).heatOf k).st = (s.heatOf k).st := by
  have hrelease : s.releaseHeld k = s.setHeat k { s.heatOf k with released := true } := by
    unfold State.releaseHeld
    dsimp only
    cases hd : (s.heatOf k).temp with
    | none => rfl
    | some d => exact if_neg (by simpa using hwarm d hd)
  rw [hrelease, State.setHeat_heatOf_self]
  exact ⟨rfl, rfl⟩

theorem State.OnlyStack.releaseHeld (s : State) (k : Nat) : s.OnlyStack k (s.releaseHeld k) :=
  ite (restartStack s k) (setHeat s k _)

theorem State.releaseHeld_kept (s : State) (k : Nat) : Kept false false 0x306005e400 s (s.releaseHeld k) :=
  .ite (State.restartStack_kept (Nat.or_self _) (.refl s) k) (State.setHeat_kept (by decide) (.refl s) k _)

/-- Releasing several stacks, each is released in a state that has its heat and the settings of the first. -/
theorem State.releaseHeld_each (s : State) {ks : List Nat} (hks : ks.Nodup) {k : Nat} (hk : k ∈ ks) :
    ∃ u : State, u.heatOf k = s.heatOf k ∧ u.setting 0x5207 0 = s.setting 0x5207 0 ∧
      (ks.foldl State.releaseHeld s).heatOf k = (u.releaseHeld k).heatOf k := by
  obtain ⟨u, hkept, hheat, hseen⟩ := foldl_seen (f := State.releaseHeld) (seen := fun u => u.heatOf k)
    (P := fun u => u.bank = s.bank ∧ u.supply = s.supply) (fun u j hj => (State.OnlyStack.releaseHeld u j).heat k hj.symm)
    (fun u j ⟨hbank, hsup⟩ => ⟨((u.releaseHeld_kept j).same .bank).trans hbank,
      ((u.releaseHeld_kept j).same .supply).trans hsup⟩) hks hk ⟨rfl, rfl⟩
  obtain ⟨hbank, hsup⟩ := hkept
  exact ⟨u, hheat, State.setting_congr hbank hsup _ _, hseen⟩

/-- THERMAL_RELEASE releases each held stack that it names, in a state that has the stack's heat and the settings. -/
theorem thermalRelease_releases {p : Fin 521} {s : State} {c : Cmd} (h : s.accepts (.thermalRelease p) c) :
    Completes (.thermalRelease p) s fun t => ∀ k, k < 16 → bitAt (c.le 0 2) k = true → (s.heatOf k).held = true →
      ∃ u : State, u.heatOf k = s.heatOf k ∧ u.setting 0x5207 0 = s.setting 0x5207 0 ∧
        t.heatOf k = (u.releaseHeld k).heatOf k := by
  obtain ⟨t, ht, hk, _⟩ := s.accepts_chain (i := .thermalRelease p) rfl rfl h rfl
  refine ⟨t, ht, fun k hlt hbit hheld => ?_⟩
  generalize htaken : s.taken _ c = v at hk
  have hheat : ∀ j, v.heatOf j = s.heatOf j := fun j => by rw [← htaken]; rfl
  have hsetting : v.setting 0x5207 0 = s.setting 0x5207 0 := by rw [← htaken]; rfl
  obtain ⟨u, hu, hset, hseen⟩ := v.releaseHeld_each
    (ks := (List.range 16).filter (fun k => bitAt (c.le 0 2) k && (v.heatOf k).held))
    (List.nodup_range.filter _) (k := k) (List.mem_filter.mpr ⟨List.mem_range.mpr hlt, by simp [hbit, hheat, hheld]⟩)
  exact ⟨u, hu.trans (hheat k), hset.trans hsetting, (State.heatOf_congr (hk.same .heat) k).trans hseen⟩

/-- A fence takes effect at once (R479). -/
theorem State.fence_fenced (s : State) (k cause : Nat) : ((s.fence k cause).sup k).fenced = true := by
  have hfinish : ∀ (u : State) (tk st : Nat) (l : List Nat), (u.finish tk st l none).sup k = u.sup k := fun u tk st l =>
    State.sup_congr ((State.finish_kept (Nat.or_self _) (.refl u) tk st l none).same .supply) k
  unfold State.fence
  dsimp only
  split
  · rw [State.setSup_sup_self]
  · rw [hfinish, State.setSup_sup_self]

theorem stackFence_fences {p : Fin 521} {s : State} {c : Cmd} (h : s.accepts (.stackFence p) c) :
    Completes (.stackFence p) s fun t => (t.sup (c.b 1)).fenced = true := by
  obtain ⟨t, ht, hk, _⟩ := s.accepts_chain (i := .stackFence p) rfl rfl h rfl
  refine ⟨t, ht, (congrArg Supply.fenced (State.sup_congr (hk.same .supply) (c.b 1))).trans ?_⟩
  split
  next hf => exact hf
  next => exact State.fence_fenced _ _ 2

/-- A row whose checks come first, and whose command then waits. -/
theorem State.accepts_chain_wait {s v : State} {i : Instr} {c : Cmd} {m : MailRow} {l : List (Bool × Nat × Nat × Nat)}
    (hi : i.mail = some m) (he : exec i s = s.serve m.page m.op m.sub m.body) (h : s.accepts i c)
    (hb : m.body c s.nextId (s.taken m c) = chain l (.wait v)) :
    ∃ t, exec i s = .next t ∧ Kept false false 0x27000204 v t := by
  obtain ⟨_, hok, _⟩ := s.accepts_exec hi he h
  rw [hb] at hok
  exact s.accepts_wait hi he h (hb.trans (chain_succeeds hok).1)

/-- Clearing a fence that is up (R479): the command waits under its own ticket for the stack's training. -/
theorem stackFenceClear_clears {p : Fin 521} {s : State} {c : Cmd} (h : s.accepts (.stackFenceClear p) c) :
    Completes (.stackFenceClear p) s fun t => t.supply = if (s.sup (c.b 1)).fenced then (s.setSup (c.b 1)
      { s.sup (c.b 1) with fenced := false, clearTicket := s.nextId }).supply else s.supply := by
  cases hf : (s.sup (c.b 1)).fenced with
  | false =>
    obtain ⟨t, ht, hk, _⟩ := s.accepts_chain (i := .stackFenceClear p) (r := []) rfl rfl h
      (congrArg (chain _) (if_pos (congrArg not hf)))
    exact ⟨t, ht, hk.same .supply⟩
  | true =>
    obtain ⟨t, ht, hk⟩ := s.accepts_chain_wait (i := .stackFenceClear p) rfl rfl h
      (congrArg (chain _) (if_neg (Bool.not_eq_true _ ▸ congrArg not hf)))
    exact ⟨t, ht, (hk.same .supply).trans ((State.ticketQueued_kept (Nat.or_self _) (.refl _) s.nextId).same .supply)⟩

/-- Settles O59, command by command. -/
theorem stackCommandsAct : Obligations.StackCommandsAct := by
  unfold Obligations.StackCommandsAct
  refine ⟨fun p s c h => ?release, fun _ _ _ => stackFence_fences, fun _ _ _ => stackFenceClear_clears⟩
  case release =>
    obtain ⟨t, ht, hreleased⟩ := thermalRelease_releases h
    refine ⟨t, ht, fun k hk hbit hheld => ?_⟩
    obtain ⟨u, hheat, hsetting, hseen⟩ := hreleased k hk hbit hheld
    rw [hseen, ← hheat, ← hsetting]
    split
    next d hd =>
      split
      next hcold => exact State.releaseHeld_cold hd hcold
      next hwarm => exact State.releaseHeld_warm fun e he => Option.some.inj (hd.symm.trans he) ▸ hwarm
    next hnone => exact State.releaseHeld_warm fun e he => nomatch hnone.symm.trans he

end Sys2Proof.Machine

/-! # Power (R417-R422) -/

namespace Sys2Proof.Machine

/-! ## The ladder -/

/-- A stack's power record at a position of its ladder (R421). -/
def State.atLadder (s : State) (k n : Nat) : Power :=
  { s.pow k with ladder := n, actLim := ladderLimit (if s.hbm4 k then 2048 else 1024) n, lp := ladderLp n }

/-- Of the power a move of the ladder writes the one stack's record; the rest of the state only learns of it by a record. -/
theorem State.setLadder_power (s : State) (k n : Nat) :
    (s.setLadder k n).power = (s.setPow k (s.atLadder k n)).power := by
  have hrecord : ∀ (u : State) (kind : Nat), (u.throttleRec kind k false).power = u.power := fun u kind =>
    (State.throttleRec_kept (Nat.or_self _) (.refl u) kind k false).same .power
  unfold State.setLadder
  dsimp only
  split
  · exact hrecord _ 9
  · split
    · exact hrecord _ 10
    · rfl

theorem State.setLadder_pow_self (s : State) (k n : Nat) : (s.setLadder k n).pow k = s.atLadder k n :=
  (State.pow_congr (s.setLadder_power k n) k).trans (s.setPow_pow_self k _)

theorem State.setLadder_ladder (s : State) (k n : Nat) :
    ((s.setLadder k n).pow k).win = (s.pow k).win ∧ ((s.setLadder k n).pow k).ladder = n := by
  rw [s.setLadder_pow_self]
  exact ⟨rfl, rfl⟩

/-- A stack without supply, or not trained: its ladder rests. -/
def State.ladderRests (s : State) (k : Nat) : Bool :=
  !(s.sup k).enable || (s.sup k).fenced || !(s.sup k).good || !(s.sup k).trained

/-- Where a step takes a ladder that stands at `n` (R421): `own` is the stack's sum and `mine` its cap, and `over_` and `under`
say how the package's sum lies to its cap. -/
def ladderAfter (n own mine : Nat) (over_ under : Prop) [Decidable over_] [Decidable under] : Nat :=
  if mine < own ∨ over_ then min (n + 1) 22 else if 100 * own < 95 * mine ∧ under then n - 1 else n

/-- One stack's step of its ladder. -/
theorem State.ladderStep_eq (s : State) (k : Nat) (over_ under : Prop) [Decidable over_] [Decidable under] :
    s.ladderStep k (decide over_) (decide under) = if s.ladderRests k then s else s.setLadder k
      (ladderAfter (s.pow k).ladder (s.pow k).win.sum (s.setting 0x520B k * 10000000 * s.capWindows) over_ under) := by
  unfold State.ladderStep State.ladderRests ladderAfter
  rw [apply_ite (s.setLadder k), apply_ite (s.setLadder k)]
  simp only [Bool.or_eq_true, Bool.and_eq_true, decide_eq_true_eq]

theorem State.ladderStep_pow (s : State) (k : Nat) (over_ under : Prop) [Decidable over_] [Decidable under] :
    ((s.ladderStep k (decide over_) (decide under)).pow k).win = (s.pow k).win ∧
      ((s.ladderStep k (decide over_) (decide under)).pow k).ladder = if s.ladderRests k then (s.pow k).ladder
        else ladderAfter (s.pow k).ladder (s.pow k).win.sum (s.setting 0x520B k * 10000000 * s.capWindows) over_ under := by
  rw [s.ladderStep_eq]
  split
  · exact ⟨rfl, rfl⟩
  · exact s.setLadder_ladder k _

/-- A step of one stack's ladder leaves the power of the others. -/
theorem State.ladderStep_pow_other (s : State) {k j : Nat} (over_ under : Prop) [Decidable over_] [Decidable under]
    (h : j ≠ k) : (s.ladderStep k (decide over_) (decide under)).pow j = s.pow j := by
  rw [s.ladderStep_eq]
  split
  · rfl
  · exact (State.pow_congr (s.setLadder_power k _) j).trans (s.setPow_pow_other _ h)

/-- Every stack's step of its ladder: `total` and `cap` are the package's sum and its cap. -/
def State.ladderSteps (s : State) (total cap : Nat) : State :=
  (List.range 16).foldl (fun s k => s.ladderStep k (decide (cap < total)) (decide (100 * total < 95 * cap))) s

/-- The stacks' steps take each ladder where its own step takes it. -/
theorem State.ladderSteps_pow (s : State) (total cap : Nat) {k : Nat} (hk : k < 16) :
    ((s.ladderSteps total cap).pow k).win = (s.pow k).win ∧ ((s.ladderSteps total cap).pow k).ladder =
      if s.ladderRests k then (s.pow k).ladder else ladderAfter (s.pow k).ladder (s.pow k).win.sum
        (s.setting 0x520B k * 10000000 * s.capWindows) (cap < total) (100 * total < 95 * cap) := by
  obtain ⟨u, ⟨hbank, hsup⟩, hpow, hseen⟩ := foldl_seen (f := fun s k => s.ladderStep k (decide (cap < total))
    (decide (100 * total < 95 * cap))) (seen := fun s => s.pow k) (P := fun u => u.bank = s.bank ∧ u.supply = s.supply)
    (fun u j hj => u.ladderStep_pow_other _ _ hj.symm) (fun u j ⟨hbank, hsup⟩ => by
      have hk := State.ladderStep_kept (r := false) (b := false) (Nat.or_self _) (.refl u) j (decide (cap < total))
        (decide (100 * total < 95 * cap))
      exact ⟨(hk.same .bank).trans hbank, (hk.same .supply).trans hsup⟩) List.nodup_range (List.mem_range.mpr hk) ⟨rfl, rfl⟩
  obtain ⟨hwin, hladder⟩ := u.ladderStep_pow k (cap < total) (100 * total < 95 * cap)
  unfold State.ladderSteps
  rw [hseen, hwin, hladder]
  unfold State.ladderRests State.capWindows
  rw [State.sup_congr hsup, State.setting_congr hbank hsup, State.setting_congr hbank hsup, hpow]
  exact ⟨rfl, rfl⟩

/-- The steps of the ladders leave the registers. -/
theorem State.ladderSteps_regs (s : State) (total cap : Nat) : (s.ladderSteps total cap).regs = s.regs :=
  List.foldlRecOn (motive := fun u : State => u.regs = s.regs) _ _ rfl fun u hu k _ =>
    ((State.ladderStep_kept (r := false) (b := false) (Nat.or_self _) (.refl u) k _ _).same .regs).trans hu

/-! ## A mark of 10 us -/

/-- Every stack's estimate of the last 10 us. -/
def State.estimates (s : State) : State := (List.range 16).foldl (fun s k => s.estimate k) s

/-- The estimates write the power records, and leave the ladders in them where they are. -/
theorem State.estimates_keep (s : State) : Kept false false 0x10000 s s.estimates ∧
    ∀ k, (s.estimates.pow k).ladder = (s.pow k).ladder :=
  List.foldlRecOn (motive := fun u : State => Kept false false 0x10000 s u ∧ ∀ k, (u.pow k).ladder = (s.pow k).ladder) _ _
    ⟨.refl s, fun _ => rfl⟩ fun u ⟨hkept, hladder⟩ j _ => by
      refine ⟨State.estimate_kept (Nat.or_self _) hkept j, fun k => ?_⟩
      unfold State.estimate
      dsimp only
      by_cases hk : k = j
      · rw [hk, State.setPow_pow_self]
        exact hladder j
      · rw [State.setPow_pow_other _ _ hk]
        exact hladder k

/-- The package's window of n marks takes in the sum of the estimates and the rails' power (R420). -/
def State.packageWin (s : State) (n : Nat) : List Nat :=
  ((((List.range 16).map (fun k => (s.pow k).win.headD 0)).sum + s.regs.railPower * 1000000) :: (s.pow 16).win).take n

/-- The package's window is kept under index 16. -/
def State.packageKept (s : State) (n : Nat) : State := s.setPow 16 { s.pow 16 with win := s.packageWin n }

theorem State.packageKept_win (s : State) (n : Nat) : ((s.packageKept n).pow 16).win = s.packageWin n :=
  congrArg Power.win (s.setPow_pow_self 16 _)

theorem State.packageKept_setting (s : State) (n code inst : Nat) :
    (s.packageKept n).setting code inst = s.setting code inst :=
  State.setting_congr rfl rfl code inst

/-- The package's average is kept, and the next mark set. -/
def State.marked (s : State) (n : Nat) : State :=
  let s := s.packageKept n
  { s with regs := { s.regs with
    pkgPavg := min 16383 (tenthWatts (s.pow 16).win.sum n), ladderNext := s.regs.ladderNext + us 10 } }

theorem State.marked_regs (s : State) (n : Nat) : (s.marked n).regs = { s.regs with
    pkgPavg := min 16383 (tenthWatts (s.packageWin n).sum n), ladderNext := s.regs.ladderNext + us 10 } := by
  rw [← s.packageKept_win n]
  rfl

theorem State.marked_bank (s : State) (n : Nat) : (s.marked n).bank = s.bank := rfl

theorem State.marked_supply (s : State) (n : Nat) : (s.marked n).supply = s.supply := rfl

theorem State.marked_pow (s : State) (n : Nat) {k : Nat} (h : k ≠ 16) : (s.marked n).pow k = s.pow k :=
  s.setPow_pow_other _ h

/-- A mark that is due. -/
theorem powerLadderStep_exec {s : State} (hp : s.pins.porst = false) (hdue : s.regs.ladderNext ≤ s.clk.ticks) :
    exec .powerLadderStep s = .next ((s.estimates.marked s.capWindows).ladderSteps (s.estimates.packageWin s.capWindows).sum
      (s.setting 0x520A 0 * 10000000 * s.capWindows)) := by
  have hset : (s.estimates.packageKept s.capWindows).setting 0x520A 0 = s.setting 0x520A 0 :=
    (s.estimates.packageKept_setting s.capWindows _ _).trans
      (State.setting_congr (s.estimates_keep.1.same .bank) (s.estimates_keep.1.same .supply) _ _)
  show execPowerLadderStep s = _
  unfold execPowerLadderStep
  rw [if_neg (by simp [hp, hdue]), ← State.packageKept_win, ← hset, ← State.estimates]
  generalize s.estimates = u
  rfl

theorem powerLadderStep_steps {s u : State} {n est total cap : Nat} (hp : s.pins.porst = false)
    (hdue : s.regs.ladderNext ≤ s.clk.ticks) (hn : n = s.capWindows) (hu : u = s.estimates)
    (hest : est = ((List.range 16).map (fun k => (u.pow k).win.headD 0)).sum + s.regs.railPower * 1000000)
    (htotal : total = ((est :: (u.pow 16).win).take n).sum) (hcap : cap = s.setting 0x520A 0 * 10000000 * n) :
    Completes .powerLadderStep s fun t =>
      t.regs = { s.regs with pkgPavg := min 16383 (tenthWatts total n), ladderNext := s.regs.ladderNext + us 10 } ∧
      ∀ k, k < 16 → (t.pow k).win = (u.pow k).win ∧ (t.pow k).ladder =
        if s.ladderRests k then (s.pow k).ladder else ladderAfter (s.pow k).ladder (u.pow k).win.sum
          (s.setting 0x520B k * 10000000 * n) (cap < total) (100 * total < 95 * cap) := by
  obtain ⟨hkept, hladder⟩ := s.estimates_keep
  have hregs : s.estimates.regs = s.regs := hkept.same .regs
  subst hn
  have htot : total = (s.estimates.packageWin s.capWindows).sum := by
    rw [htotal, hest, ← hregs, hu, State.packageWin]
  refine ⟨_, powerLadderStep_exec hp hdue, ?regs, fun k hk => ?ladder⟩
  case regs =>
    rw [State.ladderSteps_regs, State.marked_regs, htot, hregs]
  case ladder =>
    have hpow := s.estimates.marked_pow s.capWindows hk.ne
    have hbank : (s.estimates.marked s.capWindows).bank = s.bank :=
      (s.estimates.marked_bank s.capWindows).trans (hkept.same .bank)
    have hsup : (s.estimates.marked s.capWindows).supply = s.supply :=
      (s.estimates.marked_supply s.capWindows).trans (hkept.same .supply)
    rw [← htot, ← hcap]
    generalize s.estimates.marked s.capWindows = v at hpow hbank hsup
    obtain ⟨hwin, hstep⟩ := v.ladderSteps_pow total cap hk
    rw [hwin, hstep, hpow, hu, hladder]
    refine ⟨rfl, ?_⟩
    unfold State.ladderRests State.capWindows
    rw [State.sup_congr hsup, State.setting_congr hbank hsup, State.setting_congr hbank hsup]

/-! ## Droops (R417, R418) -/

theorem droop_stretches {k : Fin 16} {s : State} (hoff : (s.pow k.val).stretch = false) (hgood : (s.sup k.val).good = true) :
    exec (.droop k) s =
      .next ((s.setPow k.val { s.pow k.val with stretch := true }).tally k.val 0x1040 1 false) := by
  show execDroop k s = _
  unfold execDroop
  exact if_neg (by simp [hoff, hgood])

theorem droopEnd_restores {k : Fin 16} {cycles : Fin 65} {s : State} (hon : (s.pow k.val).stretch = true) :
    exec (.droopEnd k cycles) s = .next (s.endStretch k.val cycles.val) :=
  if_pos hon

/-- A droop that outlasts 64 cycles: its stretch ends and is marked, and the ladder moves up. -/
theorem droopLong_climbs {k : Fin 16} {s u : State} (hon : (s.pow k.val).stretch = true)
    (hu : u = s.setPow k.val { s.pow k.val with stretch := false }) : Completes (.droopLong k) s fun t =>
      t.sclk = (s.endStretch k.val 64).sclk ∧ t.regs.thermStat = s.regs.thermStat ||| 2 ^ 7 ||| 2 ^ (16 + k.val) ∧
      t.power = (u.setPow k.val (u.atLadder k.val (min ((u.pow k.val).ladder + 1) 22))).power := by
  subst hu
  have hexec : exec (.droopLong k) s = execDroopLong k s := rfl
  unfold execDroopLong at hexec
  rw [if_neg (by simp [hon])] at hexec
  dsimp only at hexec
  generalize hv : State.note _ _ _ _ _ = v at hexec
  have hnoted : Kept false false 0x3060000000 (((s.endStretch k.val 64).tally k.val 0x1044 1 true).therm 7 k.val) v :=
    hv ▸ State.note_kept (Nat.or_self _) (.refl _) _ _ _ _
  have hended : Kept false false 0x30e0000000 (s.endStretch k.val 64) v := .more (by decide)
    (State.therm_kept (by decide) (State.tally_kept (by decide) (.refl _) k.val 0x1044 1 true) 7 k.val) hnoted
  have hpower : v.power = (s.setPow k.val { s.pow k.val with stretch := false }).power := hended.same .power
  have hsup : v.supply = s.supply :=
    (hended.same .supply).trans ((State.endStretch_kept (Nat.or_self _) (.refl s) k.val 64).same .supply)
  have hmoved : Kept false false 0x3060010000 v (v.setLadder k.val (min ((v.pow k.val).ladder + 1) 22)) :=
    State.setLadder_kept (Nat.or_self _) (.refl v) _ _
  refine ⟨_, hexec, (hmoved.same .sclk).trans (hnoted.same .sclk),
    congrArg Regs.thermStat ((hmoved.same .regs).trans (hnoted.same .regs)), ?_⟩
  rw [State.setLadder_power, State.setPow_power, State.setPow_power, hpower]
  unfold State.atLadder State.hbm4
  rw [State.pow_congr hpower, State.sup_congr hsup, State.setPow_sup_same]

/-- Settles O32, event by event. -/
theorem powerEventsComplete : Obligations.PowerEventsComplete := by
  unfold Obligations.PowerEventsComplete
  refine ⟨fun s u n est total cap hp hdue hn _ hu hest htotal hcap => ?ladder, fun _ _ => droop_stretches,
    fun k s u hon hu => ?long, fun _ _ _ => droopEnd_restores⟩
  case ladder =>
    obtain ⟨t, hexec, hregs, hstep⟩ := powerLadderStep_steps hp hdue hn hu hest htotal hcap
    refine ⟨t, hexec, hregs, fun k mine own hk hmine hown => ?_⟩
    obtain ⟨hwin, hladder⟩ := hstep k hk
    exact ⟨hwin, by rw [hladder, hmine, hown]; rfl⟩
  case long =>
    obtain ⟨t, hexec, hsclk, hstat, hpower⟩ := droopLong_climbs hon hu
    exact ⟨t, hexec, hsclk, hstat, _, hpower, rfl, rfl, by rw [hu]; rfl⟩

end Sys2Proof.Machine

/-! # Every command answers a next state -/

namespace Sys2Proof.Machine

/-- An outcome that is a next state. -/
def Answers (o : Host.Outcome State Fault Refusal) : Prop := ∃ t, o = .next t

theorem Answers.next (t : State) : Answers (.next t) := ⟨t, rfl⟩

theorem Answers.ite {c : Prop} {_ : Decidable c} {x y : Host.Outcome State Fault Refusal} (hx : Answers x) (hy : Answers y) :
    Answers (if c then x else y) := by
  split
  · exact hx
  · exact hy

/-- A command with one condition. -/
theorem Answers.when {c : Prop} {_ : Decidable c} {t u : State} : Answers (if c then .next t else .next u) :=
  .ite (.next t) (.next u)

theorem State.serve_answers (s : State) (page op : Nat) (sub : Cmd → Bool) (body : Cmd → Nat → State → Ans) :
    Answers (s.serve page op sub body) := by
  unfold State.serve
  split
  · exact .when
  · exact .next _

theorem State.regWrite_answers (s : State) (src off : Nat) (right : Bool) (f : State → State) :
    Answers (s.regWrite src off right f) := by
  unfold State.regWrite
  exact .ite (.next _) .when

theorem State.swrst_answers (s : State) (src v : Nat) : Answers (s.swrst src v) := by
  exact State.regWrite_answers s ..

theorem State.hostrst_answers (s : State) (src v : Nat) : Answers (s.hostrst src v) := by
  exact State.regWrite_answers s ..

/-- Every meaning ends in a next state, whatever its conditions: none faults and none refuses. -/
theorem exec_answers (i : Instr) (s : State) : Answers (exec i s) := by
  cases i
  case rd p h => exact .next _
  case wr p h d => exact .next _
  case wrm p h d => exact .next _
  case accu p h d => exact .next _
  case acco p h d => exact .next _
  case gath p h => exact .next _
  case mark p h d => exact .next _
  case fence p h => exact .next _
  case feltSpill f h d => exact .next _
  case feltFillAck f tag ok =>
    dsimp only [exec, execFeltFillAck]
    split
    · exact .next _
    · exact .next _
  case feltFillAckTimeout f tag =>
    dsimp only [exec, execFeltFillAckTimeout]
    split
    · exact .next _
    · exact .when
  case responseCreditReturn p hdrs beats => exact .when
  case responseBeatSend p =>
    dsimp only [exec, execResponseBeatSend]
    split
    · exact .next _
    · exact .next _
  case urgLevelChange p lvl => exact .next _
  case fdGo f slot => exact .ite (.next _) (.ite (.next _) .when)
  case feederPageReadIssue f =>
    dsimp only [exec, execFeederPageReadIssue]
    split
    · exact .next _
    · refine .ite (.next _) ?_
      split
      · exact .next _
      · exact .next _
  case feederBeat f rdy =>
    dsimp only [exec, execFeederBeat]
    split
    · exact .next _
    · exact .ite (.next _) .when
  case feederStallTimeout f =>
    dsimp only [exec, execFeederStallTimeout]
    split
    · exact .next _
    · exact .when
  case portWatchdogExpiry p => exact .when
  case portEdgeResetRelease p => exact .ite (.next _) .when
  case partGrant k => exact .next _
  case grantComplete k =>
    dsimp only [exec, execGrantComplete]
    split
    · exact .next _
    · exact .next _
  case lakeHoldTimeout k => exact .next _
  case urgencyCrossing k => exact .next _
  case deadlineSweep k => exact .next _
  case columnRun l =>
    dsimp only [exec, execColumnRun]
    refine .ite (.next _) ?_
    split
    · exact .next _
    · exact .next _
  case rowCommand c =>
    dsimp only [exec, execRowCommand]
    refine .ite (.next _) ?_
    split
    · exact .next _
    · exact .when
  case idleClose l =>
    dsimp only [exec, execIdleClose]
    refine .ite (.next _) ?_
    split
    · exact .next _
    · exact .next _
  case directionTurn l => exact .when
  case budgetWindow k => exact .when
  case readDataArrival l flips =>
    dsimp only [exec, execReadDataArrival]
    split
    · exact .next _
    · split
      · exact .next _
      · exact .next _
      · exact .next _
      · split
        · exact .next _
        · exact .next _
      · split
        · exact .next _
        · exact .next _
  case refreshTick l => exact .ite (.next _) .when
  case refpbIssue c =>
    dsimp only [exec, execRefpbIssue]
    refine .ite (.next _) ?_
    split
    · exact .next _
    · exact .ite (.next _) .when
  case rowCounterAgeing k => exact .next _
  case mitigation l =>
    dsimp only [exec, execMitigation]
    split
    · exact .next _
    · exact .ite (.next _) (.ite (.next _) .when)
  case spillSweep l =>
    dsimp only [exec, execSpillSweep]
    refine .ite (.next _) ?_
    split
    · exact .next _
    · exact .ite (.next _) .when
  case spillSweepForce l => exact .when
  case maintenanceStart l act =>
    dsimp only [exec, execMaintenanceStart]
    split
    · exact .next _
    · split
      · exact .when
      · refine .ite (.next _) ?_
        split
        · exact .next _
        · exact .when
  case maintenanceEnd l act =>
    dsimp only [exec, execMaintenanceEnd]
    split
    · exact .next _
    · exact .when
  case retrainStep c =>
    dsimp only [exec, execRetrainStep]
    split
    · exact .next _
    · exact .when
  case retrainStepAbandon c =>
    dsimp only [exec, execRetrainStepAbandon]
    split
    · exact .when
    · exact .next _
  case retrainDone c m => exact .when
  case calibrationApply c =>
    dsimp only [exec, execCalibrationApply]
    split
    · exact .next _
    · exact .when
  case marginEvaluation c lane mismatch => exact .when
  case loadWindow k => exact .ite (.next _) .when
  case calenderVisit l flips => exact .when
  case calenderEscalate l => exact .when
  case heal l flips =>
    dsimp only [exec, execHeal]
    refine .ite (.next _) ?_
    split
    · exact .next _
    · exact .when
  case rowRepair l flips spare =>
    dsimp only [exec, execRowRepair]
    split
    · exact .next _
    · exact .ite (.next _) .when
  case laneRepair c spare =>
    dsimp only [exec, execLaneRepair]
    split
    · exact .next _
    · refine .ite (.next _) ?_
      split
      · exact .next _
      · exact .when
  case repairMapStore =>
    dsimp only [exec, execRepairMapStore]
    split
    · exact .next _
    · exact .next _
  case nvRecordStore first second =>
    dsimp only [exec, execNvRecordStore]
    split
    · exact .next _
    · exact .when
  case mergeEntryTimeout l =>
    dsimp only [exec, execMergeEntryTimeout]
    split
    · exact .next _
    · exact .when
  case accuUpdate k =>
    dsimp only [exec, execAccuUpdate]
    split
    · exact .next _
    · split
      · exact .next _
      · exact .when
  case accoTileRetire k =>
    dsimp only [exec, execAccoTileRetire]
    split
    · exact .next _
    · exact .when
  case accoTileTimeout k =>
    dsimp only [exec, execAccoTileTimeout]
    split
    · exact .next _
    · exact .next _
  case watermarkClose a => exact .when
  case markerRefill half t => exact .next _
  case debtCharge =>
    dsimp only [exec, execDebtCharge]
    split
    · exact .next _
    · exact .next _
  case gateRelease q => exact .next _
  case drrRelease stage => exact .next _
  case powerLadderStep => exact .when
  case housekeepingRound r => exact .when
  case thermalRestart k =>
    dsimp only [exec, execThermalRestart]
    split
    · exact .next _
    · exact .when
  case droop k => exact .when
  case droopLong k => exact .when
  case quirePark q => exact .when
  case selfRefreshEntry c => exact .ite (.next _) .when
  case domainGateOff k => exact .when
  case domainPowerGood k => exact .when
  case pllLocked k => exact .ite (.next _) (.ite (.next _) .when)
  case pllLockLoss k relockFailed => exact .ite (.next _) .when
  case refClkLoss => exact .when
  case refClkRestored => exact .when
  case ntLockLoss => exact .when
  case frequencySwitchEnd k =>
    dsimp only [exec, execFrequencySwitchEnd]
    split
    · exact .when
    · exact .next _
  case regulatorAck k =>
    dsimp only [exec, execRegulatorAck]
    split
    · exact .ite (.next _) (.ite (.next _) .when)
    · exact .when
    · exact .ite (.next _) .when
    · exact .next _
    · exact .next _
  case regulatorAckTimeout k => exact .when
  case rollbackAckTimeout k => exact .when
  case sheetBoundary nt => exact .when
  case quireDrainEnd q => exact .when
  case zeroFillEnd q => exact .when
  case mbCmdTailWrite page src v => exact .ite (.next _) .when
  case mbCplHeadWrite page src v => exact .ite (.next _) .when
  case mbLeaseWrite h src => exact .ite (.next _) .when
  case heartbeatTimeout h => exact .when
  case hostLinkDown h => exact .when
  case hostLinkUp h => exact .when
  case leaseExpiry h => exact .ite (.next _) .when
  case handoverTimeout =>
    dsimp only [exec, execHandoverTimeout]
    split
    · exact .next _
    · exact .next _
  case mordantWatchdogExpiry => exact .next _
  case trialEnd => exact .ite (.next _) .when
  case criticalStateError aonSequencer => exact .when
  case powerOnReset => exact .next _
  case powerOnRelease dev => exact .when
  case chipWarmReset => exact .when
  case coreResetRelease => exact .when
  case stackPowerEnable k =>
    dsimp only [exec, execStackPowerEnable]
    split
    · exact .next _
    · exact .when
  case stackPowerGood k disc => exact .when
  case stackPgTimeout k => exact .next _
  case stackPgFall k => exact .next _
  case stackOvercurrent pair =>
    dsimp only [exec, execStackOvercurrent]
    split
    · exact .next _
    · exact .when
  case pairFaultRecovery pair =>
    dsimp only [exec, execPairFaultRecovery]
    split
    · exact .next _
    · exact .next _
  case stackTraining k m hardFails => exact .ite (.next _) .when
  case importWaitEnd =>
    dsimp only [exec, execImportWaitEnd]
    split
    · exact .next _
    · exact .when
  case quickCheck k laneFailed badSpares hardFails => exact .ite (.next _) .when
  case initialFill l => exact .ite (.next _) .when
  case dwReadyRise => exact .ite (.next _) (.ite (.next _) .when)
  case blockResetDrainEnd b =>
    dsimp only [exec, execBlockResetDrainEnd]
    split
    · exact .next _
    · exact .when
  case blockReturnToService b =>
    dsimp only [exec, execBlockReturnToService]
    refine .ite .when ?_
    split
    · exact .next _
    · exact .when
  case debugStop => exact .when
  case debugStopEnd => exact .next _
  case recordMove =>
    dsimp only [exec, execRecordMove]
    refine .ite (.next _) ?_
    refine .ite (.next _) ?_
    split
    · exact .next _
    · exact .next _
  case gapRecordWrite ring =>
    dsimp only [exec, execGapRecordWrite]
    split
    · exact .next _
    · exact .when
  case portWindowStart => exact .next _
  case sampleTaken u =>
    dsimp only [exec, execSampleTaken]
    split
    · exact .next _
    · split
      · exact .next _
      · exact .next _
  case sampleTimeout u =>
    dsimp only [exec, execSampleTimeout]
    split
    · exact .next _
    · split
      · exact .next _
      · exact .next _
  case apertureReady => exact .when
  case scanDone => exact .when
  case swrstStack src v => exact State.swrst_answers ..
  case swrstLake src v => exact State.swrst_answers ..
  case swrstXbar src v => exact State.swrst_answers ..
  case swrstMordant src v => exact State.swrst_answers ..
  case swrstTrace src v => exact State.swrst_answers ..
  case hostrstCore src v => exact State.hostrst_answers ..
  case tbSnap src v => exact .ite (.next _) .when
  case ringRdWrite ring src v => exact .ite (.next _) .when
  case ringApSelWrite src v => exact .ite (.next _) .when
  case scanCtlStart src v => exact .ite (.next _) .when
  case registerWrite src off v => exact .ite (.next _) (.ite (.next _) (.ite (State.swrst_answers ..) (.ite (State.hostrst_answers ..)
    (State.regWrite_answers ..))))
  case caParityError c => exact .next _
  case droopEnd k cycles => exact .when
  case timebaseErrorLimit nt => exact .when
  case loWordRead src off =>
    dsimp only [exec, execLoWordRead]
    refine .ite (.next _) ?_
    refine .ite (.next _) ?_
    refine .ite (.next _) ?_
    split
    · exact .next _
    · exact .when
  all_goals exact State.serve_answers ..

/-- Settles O3: an empty queue is a tick, and every command at its front answers. -/
theorem everyCommandCompletes : Obligations.EveryCommandCompletes := by
  unfold Obligations.EveryCommandCompletes
  intro s
  unfold step
  split
  · exact ⟨_, rfl⟩
  · exact exec_answers ..

/-- Settles O1: the step is that by definition. -/
theorem stepRunsTheFrontCommand : Obligations.StepRunsTheFrontCommand := by
  unfold Obligations.StepRunsTheFrontCommand
  intro s c rest h
  unfold step
  rw [h]

/-! # Every step (assumptions 1, 2 and 7) -/

/-- PORST_N leaves every memory empty. -/
theorem powerOnReset_wf {s t : State} (h : exec .powerOnReset s = .next t) : Memory.wf t = true := by
  have hreset : execPowerOnReset s = .next t := h
  unfold execPowerOnReset at hreset
  cases hreset
  rfl

/-- PORST_N leaves the queue and the counter of free values. -/
theorem powerOnReset_frame {s t : State} (h : exec .powerOnReset s = .next t) (f : Field)
    (hf : f ∉ Instr.powerOnReset.touches) : f.same s t := by
  have hreset : execPowerOnReset s = .next t := h
  unfold execPowerOnReset at hreset
  cases hreset
  cases f
  case freeCount => rfl
  case pending => rfl
  all_goals exact absurd (by decide) hf

/-- Settles O4: a tick and every command but PORST_N keep the canonical form, and PORST_N leaves empty memories. -/
theorem stepKeepsMemoryCanonical : Obligations.StepKeepsMemoryCanonical := by
  unfold Obligations.StepKeepsMemoryCanonical
  intro s t h hs
  obtain ⟨-, rfl⟩ | ⟨c, rest, -, h⟩ := step_cases h
  · exact (tick_keeps s).mem hs
  · by_cases hc : c = .powerOnReset
    · subst hc
      exact powerOnReset_wf h
    · exact (exec_next_kept hc h).mem hs

/-- Settles O10, PORST_N apart. -/
theorem commandsTouchOnlyTheirParts : Obligations.CommandsTouchOnlyTheirParts := by
  unfold Obligations.CommandsTouchOnlyTheirParts
  intro i s t h f hf
  by_cases hi : i = .powerOnReset
  · subst hi
    exact powerOnReset_frame h f hf
  · exact (exec_next_kept hi h).of_list f hf

/-! # The clock of a tick (R142, R149) -/

/-- Nothing that a tick does after it has settled the halves touches the clock. -/
theorem State.afterHalves_clk (s : State) :
    s.stepEnds.countSlots.crossings.settleTenants.coresRest.handOver.clk = s.clk :=
  (State.handOver_kept (w := 0x277c6523c) (by decide) (State.coresRest_kept (by decide) (State.settleTenants_kept (by decide)
    (State.crossings_kept (by decide) (State.countSlots_kept (by decide) (State.stepEnds_kept (by decide)
      (.refl s))))))).same .clk

/-- A block that is not ready switches LAKE and XBAR of both halves on. -/
theorem State.settleHalves_unready {s : State} (h : s.pins.ready = false) :
    s.settleHalves.clk.halfOff = [] := by
  unfold State.settleHalves
  rw [if_pos (by simp [h])]

/-- So a tick of one does, outside PORST_N and a core reset. -/
theorem tick_unready_halfOff {s : State} (hp : s.pins.porst = false) (hc : s.boot.coreReset = false)
    (hr : s.pins.ready = false) : (tick s).clk.halfOff = [] := by
  have hrisen : Kept false false 0x20001 s (State.resetsRise { s with clk := s.clk.advance }) :=
    State.resetsRise_kept (by decide) (Kept.upd_clk (by decide) (.refl s))
  have htimers (d : Nat) : Kept false false 0x200c25021 s _ :=
    State.idleTimers_kept (by decide) (State.feedJudge_kept (by decide) (State.lakeTimers_kept (by decide)
      (State.portTimers_kept (by decide) (State.stackTime_kept (by decide)
        (Kept.more (by decide) (.refl s) hrisen))))) d
  unfold tick
  rw [if_neg (by simp [hp])]
  dsimp only
  rw [if_neg (by rw [hrisen.same .boot]; simp [hc]), State.afterHalves_clk]
  exact State.settleHalves_unready (by rw [(htimers _).same .pins]; exact hr)

/-- A block out of PORST_N and of the core reset, not ready, that has LAKE and XBAR of half 0 off. -/
def halfOffEarly : State :=
  { State.reset with
    pins := { Pins.reset with porst := false }
    boot := { Boot.reset with coreReset := false }
    clk := { Clock.reset with halfOff := [0] } }

/-- The timebase procedure does not switch the halves. -/
theorem Clock.advance_halfOff (c : Clock) : c.advance.halfOff = c.halfOff := by
  unfold Clock.advance
  dsimp only
  split
  · rfl
  · split <;> rfl

/-- Refutes O2: where the block is not ready, a tick also turns LAKE and XBAR of a half that is off on again, so its clock is
not the advanced one. -/
theorem not_emptyQueueIsOneTick : ¬ Obligations.EmptyQueueIsOneTick := by
  unfold Obligations.EmptyQueueIsOneTick
  intro h
  obtain ⟨t, hstep, -, -, -, -, hclk⟩ := h halfOffEarly rfl
  have ht : tick halfOffEarly = t := Host.Outcome.next.inj hstep
  have hoff := congrArg Clock.halfOff (hclk rfl)
  rw [← ht, tick_unready_halfOff rfl rfl rfl, Clock.advance_halfOff] at hoff
  cases hoff

end Sys2Proof.Machine

/-! # Registers with a row of their own (R518, R539, R548, R556) -/

namespace Sys2Proof.Machine

theorem bitAt_toNat {n : Nat} (v : BitVec n) (i : Nat) : bitAt v.toNat i = v.getLsbD i := by
  rw [bitAt_eq_testBit, BitVec.testBit_toNat]

/-! ## Ring pointers -/

@[simp] theorem State.setRing_ring_self (s : State) (r : Nat) (x : Ring) : (s.setRing r x).ring r = x :=
  Tab.get_set_self ..

theorem State.setRing_ring_other (s : State) {r j : Nat} (x : Ring) (h : j ≠ r) : (s.setRing r x).ring j = s.ring j :=
  Tab.get_set_other _ _ _ h

/-- Every ring has the read pointer it had. -/
def State.SameReads (s t : State) : Prop := ∀ r, (t.ring r).rd = (s.ring r).rd

namespace State.SameReads

theorem trans {s t u : State} (h : s.SameReads t) (g : t.SameReads u) : s.SameReads u :=
  fun r => (g r).trans (h r)

theorem of_rings {s t : State} (h : t.trace.rings = s.trace.rings) : s.SameReads t :=
  fun r => congrArg (fun x => (Tab.get Ring.reset x r).rd) h

theorem setRing {s : State} {r : Nat} {x : Ring} (h : x.rd = (s.ring r).rd) : s.SameReads (s.setRing r x) := by
  intro j
  by_cases hj : j = r
  · subst hj
    rw [State.setRing_ring_self, h]
  · rw [State.setRing_ring_other _ _ hj]

/-- A record that is appended moves its ring's tail and number alone. -/
theorem appendRec (s : State) (r : Nat) (x : Rec) : s.SameReads (s.appendRec r x) := by
  unfold State.appendRec
  dsimp only
  generalize (if x.len * 32 > ringSize r - (s.ring r).tail % ringSize r then _ else 0 : Nat) = pad
  have hset : s.SameReads (s.setRing r
      { s.ring r with
        tail := (s.ring r).tail + pad + x.len * 32
        seq := (s.ring r).seq + 1 }) := setRing rfl
  refine trans hset (of_rings ?_)
  split <;> rfl

/-- Pending alarms and summaries that are written leave the read pointers to the reader. -/
theorem writePending (n : Nat) : ∀ s : State, s.SameReads (s.writePending n) := by
  induction n with
  | zero => exact fun s => of_rings rfl
  | succ n ih =>
    intro s
    unfold State.writePending
    split
    · exact of_rings rfl
    · dsimp only
      split
      next x rest _ =>
        have htaken : s.SameReads { s with trace := { s.trace with pendingAlarms := rest } } := of_rings rfl
        exact (htaken.trans ((appendRec _ 0 x).trans (of_rings rfl))).trans (ih _)
      next x rest _ _ =>
        have htaken : s.SameReads { s with trace := { s.trace with summaries := rest } } := of_rings rfl
        exact (htaken.trans ((appendRec _ 0 x).trans (of_rings rfl))).trans (ih _)
      · exact of_rings rfl

end State.SameReads

/-! ## The rows -/

theorem State.snap_taken {s : State} {src v : Nat} (h : bitAt v 0 = true) : s.snap src v =
    { s with regs := { s.regs with
      tbCap := s.now % 2 ^ 64
      tbCapStat := src + put s.clk.aligned.toNat 4 1 + put ((fld s.regs.tbCapStat 8 8 + 1) % 256) 8 8 } } := by
  unfold State.snap
  exact if_neg (by simp [h])

/-- A read pointer that would pass WR is refused. -/
theorem State.writeRingRd_bad {s : State} {r v : Nat}
    (h : (s.ring r).wr - (s.ring r).rd < (v + 2 ^ 32 - (s.ring r).rd % 2 ^ 32) % 2 ^ 32) :
    s.writeRingRd r v = s.setRing r { s.ring r with badrd := true } := by
  unfold State.writeRingRd
  exact if_pos h

/-- A read pointer moves forward; on the alarm ring the space it frees takes pending records (R536). -/
theorem State.writeRingRd_moves {s : State} {r v : Nat}
    (h : (v + 2 ^ 32 - (s.ring r).rd % 2 ^ 32) % 2 ^ 32 ≤ (s.ring r).wr - (s.ring r).rd) :
    ((s.writeRingRd r v).ring r).rd = (s.ring r).rd + (v + 2 ^ 32 - (s.ring r).rd % 2 ^ 32) % 2 ^ 32 ∧
      (r ≠ 0 → s.writeRingRd r v =
        s.setRing r { s.ring r with rd := (s.ring r).rd + (v + 2 ^ 32 - (s.ring r).rd % 2 ^ 32) % 2 ^ 32 }) := by
  unfold State.writeRingRd
  dsimp only
  rw [if_neg (by omega)]
  refine ⟨?_, fun hr => if_neg hr⟩
  split
  · rw [SameReads.writePending 1280 _ r, State.setRing_ring_self]
  · rw [State.setRing_ring_self]

/-- SCAN_CTL with START of a chip that runs no scan: the register takes the value, and the scan begins or the write says why
not. -/
theorem State.writeScan_start {s : State} {v : Nat} (h : bitAt v 16 = true) (hb : s.trace.scanBusy = false) :
    (s.writeScan v).trace.scanCtl = v % 2 ^ 16 ∧
      (s.trace.unlocked = false → s.writeScan v = { s with trace := { s.trace with
        scanCtl := v % 2 ^ 16, scanErr := true, scanCode := 2 } }) ∧
      (s.trace.unlocked = true → s.pins.stopped = false → s.writeScan v = { s with trace := { s.trace with
        scanCtl := v % 2 ^ 16, scanErr := true, scanCode := 1 } }) ∧
      (s.trace.unlocked = true → s.pins.stopped = true → 48 ≤ v % 64 → s.domainOn (v % 64) = true →
        s.writeScan v = { s with trace := { s.trace with
          scanCtl := v % 2 ^ 16, scanBusy := true, scanDone := false, scanCode := 0 } }) := by
  unfold State.writeScan
  dsimp only
  rw [if_neg (by simp [h]), if_neg (by simp [hb])]
  refine ⟨?ctl, fun hu => if_pos (by simp [hu]), fun hu hs => ?_, fun hu hs hd ho => ?_⟩
  case ctl =>
    split
    · rfl
    · split
      · rfl
      · split
        · rfl
        · split
          · rw [(State.request_kept (Nat.or_self _) (.refl _) _ _).same .trace]
          · rfl
  · rw [if_neg (by simp [hu]), if_pos (by simp [hs])]
  · rw [if_neg (by simp [hu]), if_neg (by simp [hs]),
      if_neg (by simp only [ho, Bool.not_true, Bool.false_or, Bool.and_eq_true, decide_eq_true_eq]; omega),
      if_neg (by omega)]

/-- The LO word of a latched pair that the reader does not hold already (R518). -/
theorem loWordRead_fills {src : Fin 16} {off : BitVec 25} {s : State} {ws : List Nat} (hp : s.pins.porst = false)
    (ha : assigned off.toNat = true) (hr : s.readRight src.val off.toNat = true) (hw : s.pairRead off.toNat = some ws)
    (hh : s.heldBelow src.val off.toNat = false) : exec (.loWordRead src off) s = .next { s with regs := { s.regs with
      holds := Tab.set Hold.reset s.regs.holds src.val ⟨off.toNat, ws.getD 1 0, ws.getD 2 0, ws.getD 3 0⟩ } } := by
  show execLoWordRead src off s = _
  unfold execLoWordRead
  dsimp only
  rw [if_neg (by simp [hp]), if_neg (by simp [ha]), if_neg (by simp [hr]), hw]
  exact if_neg (by simp [hh])

theorem exec_tbSnap (src : Fin 16) (v : BitVec 32) (s : State) : exec (.tbSnap src v) s =
    s.regWrite src.val 0x2C (decide (src.val ≤ 8)) (fun s => s.snap src.val v.toNat) := rfl

theorem exec_ringRdWrite (r : Fin 3) (src : Fin 16) (v : BitVec 32) (s : State) : exec (.ringRdWrite r src v) s =
    s.regWrite src.val (0x800104 + 16 * r.val) (s.debugRight src.val) (fun s => s.writeRingRd r.val v.toNat) := rfl

theorem exec_ringApSelWrite (src : Fin 16) (v : BitVec 32) (s : State) : exec (.ringApSelWrite src v) s =
    s.regWrite src.val 0x800140 (s.debugRight src.val) (fun s => s.selectPage v.toNat) := rfl

theorem exec_scanCtlStart (src : Fin 16) (v : BitVec 32) (s : State) : exec (.scanCtlStart src v) s =
    s.regWrite src.val 0x800200 (s.debugRight src.val) (fun s => s.writeScan v.toNat) := rfl

/-- Settles O49, row by row. -/
theorem registerRowsComplete : Obligations.RegisterRowsComplete := by
  unfold Obligations.RegisterRowsComplete
  refine ⟨fun src v s hp hc hsrc hv => ?_, fun r src v s g d hp hc hr hg hd => ?_, fun src v s hp hc hr => ?_,
    fun src v s hp hc hr hv hb => ?_, fun src off s ws h hh hp ha hr hw hbelow => ?_⟩
  · rw [exec_tbSnap, State.regWrite_taken hp (decide_eq_true hsrc) (.inl hc),
      State.snap_taken ((bitAt_toNat v 0).trans hv)]
  · subst hg hd
    have htaken : exec (.ringRdWrite r src v) s = .next (s.writeRingRd r.val v.toNat) := by
      rw [exec_ringRdWrite, State.regWrite_taken hp hr (.inl hc)]
    refine ⟨fun hbad => ?_, fun hle _ => ⟨_, htaken, State.writeRingRd_moves hle⟩⟩
    rw [htaken, State.writeRingRd_bad hbad]
  · rw [exec_ringApSelWrite, State.regWrite_taken hp hr (.inl hc)]
    rfl
  · obtain ⟨hctl, hlocked, hrunning, hstarts⟩ := State.writeScan_start ((bitAt_toNat v 16).trans hv) hb
    refine ⟨s.writeScan v.toNat, ?_, hctl, fun hu => ?_, fun hu hs => ?_, fun hu hs hd ho => ?_⟩
    · rw [exec_scanCtlStart, State.regWrite_taken hp hr (.inl hc)]
    · rw [hlocked hu]
      exact ⟨rfl, rfl, hb⟩
    · rw [hrunning hu hs]
      exact ⟨rfl, rfl, hb⟩
    · rw [hstarts hu hs hd ho]
      exact ⟨rfl, rfl, rfl⟩
  · rw [hh]
    exact loWordRead_fills hp ha hr hw hbelow

end Sys2Proof.Machine

/-! # Hosts: losses, heartbeats and leases (R450-R455) -/

namespace Sys2Proof.Machine

/-! ## Freezing pages (R451) -/

theorem State.freezePage_page_self (s : State) (p : Nat) : ((s.freezePage p).page p).pstate = .frozen ∧
    ((s.freezePage p).page p).epoch = ((s.page p).epoch + 1) % 65536 := by
  unfold State.freezePage
  dsimp only
  rw [State.setPage_page_self]
  exact ⟨rfl, rfl⟩

theorem State.freezePage_page_other (s : State) {p j : Nat} (h : j ≠ p) : (s.freezePage p).page j = s.page j := by
  unfold State.freezePage
  dsimp only
  rw [State.setPage_page_other _ _ h]
  rfl

theorem State.freezePages_page_other (ps : List Nat) {j : Nat} (h : j ∉ ps) (s : State) :
    (ps.foldl State.freezePage s).page j = s.page j := by
  induction ps generalizing s with
  | nil => rfl
  | cons p ps ih =>
    obtain ⟨hp, hps⟩ := List.ne_and_not_mem_of_not_mem_cons h
    rw [List.foldl_cons, ih hps, State.freezePage_page_other _ hp]

/-- Each page of a list without repeats is frozen once. -/
theorem State.freezePages_page {ps : List Nat} (hps : ps.Nodup) {j : Nat} (h : j ∈ ps) (s : State) :
    ((ps.foldl State.freezePage s).page j).pstate = .frozen ∧
      ((ps.foldl State.freezePage s).page j).epoch = ((s.page j).epoch + 1) % 65536 := by
  induction ps generalizing s with
  | nil => cases h
  | cons p ps ih =>
    obtain ⟨hp, hps⟩ := List.nodup_cons.mp hps
    rw [List.foldl_cons]
    by_cases hj : j = p
    · subst hj
      rw [State.freezePages_page_other ps hp]
      exact s.freezePage_page_self j
    · obtain ⟨hlive, hepoch⟩ := ih hps ((List.mem_cons.mp h).resolve_left hj) (s.freezePage p)
      rw [State.freezePage_page_other _ hj] at hepoch
      exact ⟨hlive, hepoch⟩

/-- The open set of a frozen page is gone. -/
theorem State.freezePages_sets (ps : List Nat) (s : State) {c : ChangeSet} (h : c ∈ (ps.foldl State.freezePage s).sets) :
    c ∈ s.sets ∧ (c.committed = true ∨ c.page ∉ ps) := by
  induction ps generalizing s with
  | nil => exact ⟨h, .inr List.not_mem_nil⟩
  | cons p ps ih =>
    obtain ⟨hmem, hrest⟩ := ih (s.freezePage p) h
    have hfilter : c ∈ s.sets.filter (fun (c : ChangeSet) => c.committed || c.page != p) := hmem
    obtain ⟨hs, hp⟩ := List.mem_filter.mp hfilter
    refine ⟨hs, ?_⟩
    simp only [Bool.or_eq_true, bne_iff_ne] at hp
    rw [List.mem_cons, not_or]
    tauto

theorem State.heldPages_nodup (s : State) (h : Nat) : (s.heldPages h).Nodup := by
  unfold State.heldPages adminPage
  refine List.nodup_append.mpr ⟨List.nodup_range.filter _, List.nodup_singleton _, fun a ha b hb => ?_⟩
  have := List.mem_range.mp (List.mem_filter.mp ha).1
  have := List.mem_singleton.mp hb
  omega

theorem State.ownerEvent_sessions (s : State) (code data : Nat) : s.SameSessions (s.ownerEvent code data) := by
  unfold State.ownerEvent
  split
  · exact .refl s
  · exact s.postEvent_sessions _ code data

/-- A host that is lost, before its pages freeze. -/
def State.hostGone (s : State) (h : Nat) : State :=
  s.setHost h { s.host h with lost := true, lostAt := s.clk.ticks, leaseOn := true }

/-- The pages of a lost host frozen. -/
def State.hostFrozen (s : State) (h : Nat) : State := (s.heldPages h).foldl State.freezePage (s.hostGone h)

/-- The owner is told of a lost host. -/
def State.hostTold (s : State) (h : Nat) : State := (s.hostFrozen h).ownerEvent 2 (h + 256 * (s.hostFrozen h).now)

theorem State.hostLost_eq (s : State) (h : Nat) : s.hostLost h = (s.hostTold h).note 0x10 7 h [] := rfl

/-- What the loss of a host leaves: its record says so and its lease runs, its pages are frozen in their next epoch, and no
open set of theirs is left. -/
theorem State.hostLost_acts (s : State) (h : Nat) :
    (s.hostLost h).hosts = (s.setHost h { s.host h with lost := true, lostAt := s.clk.ticks, leaseOn := true }).hosts ∧
      (∀ p ∈ s.heldPages h, ((s.hostLost h).page p).pstate = .frozen ∧
        ((s.hostLost h).page p).epoch = ((s.page p).epoch + 1) % 65536) ∧
      ∀ c ∈ (s.hostLost h).sets, c.committed = true ∨ c.page ∉ s.heldPages h := by
  have hfrozen : Kept false false 0x7000010 (s.hostGone h) (s.hostFrozen h) :=
    Kept.foldl (fun _ p hk => State.freezePage_kept (by decide) hk p) _ _ (.refl _)
  have htold : Kept false false 0x1000000 (s.hostFrozen h) (s.hostTold h) :=
    State.ownerEvent_kept (by decide) (.refl (s.hostFrozen h)) 2 (h + 256 * (s.hostFrozen h).now)
  have hnoted : Kept false false 0x3060000000 (s.hostTold h) (s.hostLost h) :=
    State.note_kept (by decide) (.refl (s.hostTold h)) 0x10 7 h []
  have hsessions : (s.hostFrozen h).SameSessions (s.hostLost h) :=
    ((s.hostFrozen h).ownerEvent_sessions _ _).trans (.of_eq (hnoted.same .pages))
  refine ⟨?_, fun p hp => ?_, fun c hc => ?_⟩
  · rw [hnoted.same .hosts, htold.same .hosts, hfrozen.same .hosts]
    rfl
  · have hsame := hsessions p
    simp only [Page.session, Prod.mk.injEq] at hsame
    obtain ⟨hlive, -, -, hepoch⟩ := hsame
    rw [hlive, hepoch]
    exact State.freezePages_page (s.heldPages_nodup h) hp (s.hostGone h)
  · rw [hnoted.same .sets, htold.same .sets] at hc
    exact (State.freezePages_sets _ (s.hostGone h) hc).2

/-! ## Return and leases (R452, R455) -/

/-- A host that is heard from again is not lost. -/
theorem State.hostResumed_hosts (s : State) (h : Nat) : (s.hostResumed h).hosts =
    (s.setHost h { s.host h with lost := false, leaseOn := false, beat := s.clk.ticks }).hosts := by
  unfold State.hostResumed
  dsimp only
  split
  · rfl
  · have hkept (u : State) (ps : List Nat) : Kept false false 0x1000000 u ((ps.foldl State.thawPage u).ownerEvent 3 h) :=
      State.ownerEvent_kept (by decide) (Kept.foldl (fun _ p hk => State.thawPage_kept (by decide) hk p) ps u (.refl u)) _ _
    exact (hkept _ _).same .hosts

/-- A heartbeat is a write to the host's admin page (R450). -/
theorem exec_mbLeaseWrite (h : Fin 8) (src : Fin 16) (s : State) : exec (.mbLeaseWrite h src) s =
    s.pageWrite (adminPage h.val) src.val 0xC24 (src.val == h.val) (fun s => s.hostResumed h.val) := rfl

theorem hostLinkDown_loses {h : Fin 8} {s : State} (hs : s.serving = true) (hl : (s.host h.val).lost = false) :
    exec (.hostLinkDown h) s = .next (s.hostLost h.val) :=
  if_pos (by simp [hs, hl])

theorem heartbeatTimeout_loses {h : Fin 8} {s : State} (hs : s.serving = true) (hl : (s.host h.val).lost = false)
    (hw : (s.host h.val).watched = true) (hd : (s.host h.val).beat + ms (10 * s.setting 0x6002 h.val) ≤ s.clk.ticks) :
    exec (.heartbeatTimeout h) s = .next (s.wakeCores.hostLost h.val) :=
  if_pos (by simp [hs, hl, hw, hd])

/-- The end of a lease commits the close of each of its tenants in one set (R452). -/
theorem leaseExpiry_closes {h : Fin 8} {s : State} (hs : s.serving = true) (hl : (s.host h.val).lost = true)
    (ho : (s.host h.val).leaseOn = true) (hd : (s.host h.val).lostAt + ms (1000 * s.setting 0x6003 h.val) ≤ s.clk.ticks)
    (h0 : s.leaseTenants h.val ≠ []) (hn : (s.leaseTenants h.val).length ≤ 256)
    (hroom : s.ownRoom (s.leaseTenants h.val).length = true) : Completes (.leaseExpiry h) s fun t =>
      t.hosts = (s.setHost h.val { s.host h.val with leaseOn := false }).hosts ∧
        ∃ c, t.sets = s.sets ++ [c] ∧ c.committed = true ∧
          c.items.map (fun i => i.what) = (s.leaseTenants h.val).map Staged.tenantClose := by
  have hwoken : Kept false false 0x40000000 s s.wakeCores := State.wakeCores_kept (Nat.or_self _) (.refl s)
  obtain ⟨u, hu⟩ : ∃ u, u = s.wakeCores.setHost h.val { s.host h.val with leaseOn := false } := ⟨_, rfl⟩
  obtain ⟨c, hsets, hcommitted, hitems⟩ := u.ownSet_one (ws := (s.leaseTenants h.val).map Staged.tenantClose)
    (by simpa using h0) (by simpa using hn)
  have hexec : exec (.leaseExpiry h) s = execLeaseExpiry h s := rfl
  unfold execLeaseExpiry at hexec
  dsimp only at hexec
  rw [if_neg (by simp [hs, hl, ho, hd]), if_neg (by simp [hroom]), ← hu] at hexec
  have htold (ts : List Nat) (n : Nat) (v : State) :
      Kept false false 0x1000000 v (ts.foldl (fun s t => s.ownerEvent 5 (t + 65536 * n)) v) :=
    Kept.foldl (fun _ _ hk => State.ownerEvent_kept (by decide) hk _ _) ts v (.refl v)
  refine ⟨_, hexec, ?_, c, ?_, hcommitted, hitems⟩
  · rw [(htold _ _ _).same .hosts, (State.ownSet_kept (Nat.or_self _) (.refl u) _).same .hosts, hu]
    show Tab.set _ s.wakeCores.hosts _ _ = _
    rw [hwoken.same .hosts]
    rfl
  · rw [(htold _ _ _).same .sets, hsets, hu]
    show s.wakeCores.sets ++ _ = _
    rw [hwoken.same .sets]

/-- Settles O40, event by event. -/
theorem hostEventsComplete : Obligations.HostEventsComplete := by
  unfold Obligations.HostEventsComplete
  refine ⟨fun h i s hs hl hi => ?lost, fun h s hp ho => ?beat, fun h s hs hl => ?up,
    fun h s hs hl ho hd h0 hn hroom => leaseExpiry_closes hs hl ho hd h0 hn hroom⟩
  case lost =>
    obtain rfl | ⟨rfl, hw, hd⟩ := hi
    · exact ⟨_, hostLinkDown_loses hs hl, s.hostLost_acts h.val⟩
    · refine ⟨_, heartbeatTimeout_loses hs hl hw hd, ?_⟩
      have hwoken : Kept false false 0x40000000 s s.wakeCores := State.wakeCores_kept (Nat.or_self _) (.refl s)
      obtain ⟨hhosts, hpages, hsets⟩ := s.wakeCores.hostLost_acts h.val
      have hheld : s.wakeCores.heldPages h.val = s.heldPages h.val := by
        unfold State.heldPages
        rw [hwoken.same .bank]
      have hhost : s.wakeCores.host h.val = s.host h.val := by
        unfold State.host
        rw [hwoken.same .hosts]
      rw [hheld] at hpages hsets
      refine ⟨?_, fun p hp => ?_, hsets⟩
      · rw [hhosts, hhost, hwoken.same .clk, State.setHost_hosts, State.setHost_hosts, hwoken.same .hosts]
      · rw [← s.wakeCores_page p]
        exact hpages p hp
  case beat =>
    have hright : ((h.castLE (by omega) : Fin 16).val == h.val) = true := beq_self_eq_true _
    exact ⟨_, (exec_mbLeaseWrite h _ s).trans (State.pageWrite_taken hp hright ho), s.hostResumed_hosts h.val⟩
  case up =>
    exact ⟨_, if_pos (by simp [hs, hl]), s.hostResumed_hosts h.val⟩

end Sys2Proof.Machine

/-! # Fault injections (R485) -/

namespace Sys2Proof.Machine

/-- Entries that ask the given pair last are a queue with two entries behind it. -/
theorem asked_append_pair {l : List Entry} {q : List (Bool × Nat × Nat × List SWord)} {a b : Bool × Nat × Nat × List SWord}
    (h : l.map Entry.asked = q ++ [a, b]) : ∃ p x y, l = p ++ [x, y] ∧ x.asked = a ∧ y.asked = b := by
  obtain ⟨p, r, rfl, -, hr⟩ := List.map_eq_append_iff.mp h
  obtain ⟨x, r, rfl, hx, hr⟩ := List.map_eq_cons_iff.mp hr
  obtain ⟨y, r, rfl, hy, hr⟩ := List.map_eq_cons_iff.mp hr
  obtain rfl := List.map_eq_nil_iff.mp hr
  exact ⟨p, x, y, rfl, hx, hy⟩

/-- The merge entry of an injection at a word: no byte of its burst is written, one word is flipped or stained. -/
def State.injection (s : State) (la flip : Nat) (stain : Bool) : MergeEnt :=
  { la := la / 32 * 32, words := (List.range 4).map (fun i => ⟨0, 0, stain && i == la / 8 % 4⟩), conv := 0, byConv := false,
    inject := if stain then 0 else la / 8 % 4 + 1, flip := BitVec.ofNat 72 flip, born := s.clk.ticks, closed := false,
    ten := 0xFFFF, sid := 0, tint := 7, port := 136, arrival := s.now, deadline := (s.bank.tint 7).target }

theorem State.injection_full (s : State) (la flip : Nat) (stain : Bool) : (s.injection la flip stain).full = false := rfl

/-- An injection flushes its entry at once, behind what the leaf holds. -/
theorem State.injectWord_eq (s : State) (leaf la flip : Nat) (stain : Bool) :
    ∃ u v : State, s.injectWord leaf la flip stain = v.flushEnt leaf (u.injection la flip stain) ∧
      u.injection la flip stain ∈ (v.care leaf).merge := by
  refine ⟨s.closeFor leaf [la / 32 * 32], _, rfl, ?_⟩
  rw [State.setCare_care_self]
  exact List.mem_append_right _ (List.mem_singleton_self _)

/-- A leaf holds an injection: the read and the write of its burst are the leaf's youngest entries, and its merge entry
waits, closed, for the read. -/
def State.holdsInjection (t : State) (leaf la flip : Nat) (stain : Bool) : Prop :=
  (∃ q a b, (t.leaf leaf).queue = q ++ [a, b] ∧ a.asked = (false, la / 32 * 32, 1, []) ∧
    b.asked = (true, la / 32 * 32, 1, [])) ∧
  ∃ u : State, { u.injection la flip stain with closed := true } ∈ (t.care leaf).merge

theorem State.holdsInjection.of_eq {t u : State} {leaf la flip : Nat} {stain : Bool} (h : u.holdsInjection leaf la flip stain)
    (hl : t.leaves = u.leaves) (hc : t.cares = u.cares) : t.holdsInjection leaf la flip stain := by
  unfold State.holdsInjection
  rw [State.leaf_congr hl, State.care_congr hc]
  exact h

theorem State.injectWord_holds (s : State) (leaf la flip : Nat) (stain : Bool) :
    (s.injectWord leaf la flip stain).holdsInjection leaf la flip stain := by
  obtain ⟨u, v, he, hmem⟩ := s.injectWord_eq leaf la flip stain
  rw [he]
  refine ⟨?_, u, ?_⟩
  · have hasked := v.flushEnt_asked leaf (u.injection la flip stain)
    rw [State.injection_full] at hasked
    exact asked_append_pair hasked
  · rw [State.care_congr (v.flushEnt_cares leaf _), State.setCare_care_self]
    refine List.mem_map.mpr ⟨_, hmem, ?_⟩
    exact if_pos (by simp [State.injection])

/-- The word of an injected stain is the stained one. -/
theorem State.injection_stained (s : State) (la flip : Nat) :
    ((s.injection la flip true).words[la / 8 % 4]?).map (fun w => w.stain) = some true := by
  have hlt : la / 8 % 4 < 4 := by omega
  simp [State.injection, hlt]

/-- FAULT_INJECT on a word: bits of it flip, or it is stained. -/
theorem State.accepts_injectWord {s : State} {i : Instr} {c : Cmd} {page op : Nat} {sub : Cmd → Bool} {stain : Bool}
    {nbits : Nat} (hi : i.mail = some ⟨page, op, sub, injectBody stain nbits⟩)
    (he : exec i s = s.serve page op sub (injectBody stain nbits)) (h : s.accepts i c) :
    Completes i s fun t => t.holdsInjection (c.le 2 2) (c.le 4 4)
      (((List.range nbits).map (fun i => c.b (8 + i))).map (fun i => 2 ^ i)).sum stain := by
  obtain ⟨t, ht, hk, -⟩ := s.accepts_chain hi he h rfl
  have hnoted (u : State) : Kept false false 0x3060000000 u (u.injected c) := State.injected_kept (by decide) (.refl u) c
  exact ⟨t, ht, (State.injectWord_holds _ _ _ _ _).of_eq ((hk.same .leaves).trans ((hnoted _).same .leaves))
    ((hk.same .cares).trans ((hnoted _).same .cares))⟩

/-- FAULT_INJECT of a unit: what the row does follows the record of the injection. -/
theorem State.accepts_unit {s : State} {i : Instr} {c : Cmd} {page op n : Nat} {sub : Cmd → Bool} {used : List (Nat × Nat)}
    {more : Cmd → List (Bool × Nat × Nat × Nat)} {act : Cmd → State → State}
    (hi : i.mail = some ⟨page, op, sub, unitBody n used more act⟩)
    (he : exec i s = s.serve page op sub (unitBody n used more act)) (h : s.accepts i c) :
    Completes i s fun t => ∃ u : State, (∀ f, f ∉ [Field.boot, .nextId, .pages, .serviceq, .tickets, .cnt, .trace, .mem, .chk] →
      f.same s u) ∧ Kept false false 0x27000204 (act c u) t := by
  obtain ⟨t, ht, hk, -⟩ := s.accepts_chain hi he h rfl
  have htaken : Kept false false (maskOf [Field.boot, .nextId, .pages, .serviceq, .tickets, .cnt, .trace, .mem, .chk]) s
      ((s.taken ⟨page, op, sub, unitBody n used more act⟩ c).injected c) :=
    State.injected_kept (by decide) (State.take_kept (by decide) (.refl s) _ _) c
  exact ⟨t, ht, _, htaken.of_list, hk⟩

/-- Settles O60, row by row. -/
theorem injectionCommandsAct : Obligations.InjectionCommandsAct := by
  unfold Obligations.InjectionCommandsAct
  refine ⟨fun i p s c leaf la inject flip h hleaf hla hi => ?word, fun p s c v k h hv hk => ?temp,
    fun p s c k h hk => ?ack, fun p s c k h hk => ?parity, fun p s c k h hk hl => ?host⟩
  case word =>
    subst hleaf hla
    have hholds : Completes i s fun t => ∃ stain, t.holdsInjection (c.le 2 2) (c.le 4 4) flip stain ∧
        inject = if stain then 0 else c.le 4 4 / 8 % 4 + 1 := by
      obtain ⟨rfl, rfl, rfl⟩ | ⟨rfl, rfl, rfl⟩ | ⟨rfl, rfl, rfl⟩ := hi
      · obtain ⟨t, ht, hheld⟩ := s.accepts_injectWord rfl rfl h
        exact ⟨t, ht, false, hheld, rfl⟩
      · obtain ⟨t, ht, hheld⟩ := s.accepts_injectWord rfl rfl h
        exact ⟨t, ht, false, hheld, rfl⟩
      · obtain ⟨t, ht, hheld⟩ := s.accepts_injectWord rfl rfl h
        exact ⟨t, ht, true, hheld, rfl⟩
    obtain ⟨t, ht, stain, ⟨⟨q, a, b, hqueue, ha, hb⟩, u, hmem⟩, hinject⟩ := hholds
    simp only [Entry.asked, Prod.mk.injEq] at ha hb
    obtain ⟨hawr, hala, hanb, -⟩ := ha
    obtain ⟨hbwr, hbla, hbnb, -⟩ := hb
    refine ⟨t, ht, ⟨q, a, b, hqueue, hawr, hbwr, hala, hbla, hanb, hbnb⟩, _, hmem, rfl, rfl, hinject.symm, rfl, ?_⟩
    intro h0
    cases stain with
    | true => exact u.injection_stained _ flip
    | false => exact absurd (hinject.symm.trans h0) (Nat.succ_ne_zero _)
  case temp =>
    subst hv hk
    obtain ⟨t, ht, u, hu, hkept⟩ := s.accepts_unit (i := .faultInjectTempOffset p) rfl rfl h
    have hheat : u.heat = s.heat := hu .heat (by decide)
    refine ⟨t, ht, (hkept.same .heat).trans ?_⟩
    show (u.setHeat _ { u.heatOf (c.le 2 2) with injTemp := _, injRounds := _ }).heat = _
    rw [State.setHeat_heat, State.setHeat_heat, State.heatOf_congr hheat, hheat]
  case ack =>
    subst hk
    obtain ⟨t, ht, u, hu, hkept⟩ := s.accepts_unit (i := .faultInjectWithholdAck p) rfl rfl h
    have hsclk : u.sclk = s.sclk := hu .sclk (by decide)
    refine ⟨t, ht, (hkept.same .sclk).trans ?_⟩
    show (u.setSck _ { u.sck (c.le 2 2) with withholdAck := true }).sclk = _
    rw [State.setSck_sclk, State.setSck_sclk, State.sck_congr hsclk, hsclk]
  case parity =>
    subst hk
    obtain ⟨t, ht, u, hu, hkept⟩ := s.accepts_unit (i := .faultInjectHeaderParity p) rfl rfl h
    have hports : u.ports = s.ports := hu .ports (by decide)
    refine ⟨t, ht, (hkept.same .ports).trans ?_⟩
    show (u.setPort _ { u.port (c.le 2 2) with injectParity := true }).ports = _
    rw [State.setPort_ports, State.setPort_ports, State.port_congr hports, hports]
  case host =>
    subst hk
    obtain ⟨t, ht, u, hu, hkept⟩ := s.accepts_unit (i := .faultInjectHostLost p) rfl rfl h
    have hhosts : u.hosts = s.hosts := hu .hosts (by decide)
    have hclk : u.clk = s.clk := hu .clk (by decide)
    have hhost : u.host (c.le 2 2) = s.host (c.le 2 2) := congrArg (fun x => Tab.get HostSt.reset x (c.le 2 2)) hhosts
    refine ⟨t, ht, (hkept.same .hosts).trans ?_⟩
    show (if (u.host (c.le 2 2)).lost then u else u.hostLost (c.le 2 2)).hosts = _
    rw [if_neg (by rw [hhost, hl]; decide), (u.hostLost_acts _).1, State.setHost_hosts, State.setHost_hosts, hhost, hhosts,
      hclk]

end Sys2Proof.Machine

/-! # Refused mailbox commands (R462, R463) -/

namespace Sys2Proof.Machine

/-- A mailbox command runs as its row says; no other command has a row. -/
theorem exec_of_mail {i : Instr} {m : MailRow} (h : i.mail = some m) (s : State) :
    exec i s = s.serve m.page m.op m.sub m.body := by
  cases i
  all_goals cases h
  all_goals rfl

/-- A command that comes to its page's head is taken, and its page goes on as its row's checks and body answer. -/
theorem State.serves_exec {s : State} {i : Instr} {c : Cmd} {m : MailRow} (h : s.serves i m c) :
    exec i s = .next ((((s.taken m c).settle s.nextId (s.replyTo m c)).queueService m.page).skipUnknown 1024) := by
  obtain ⟨hi, hserving, hhead, hop, hsub⟩ := h
  have hc : (s.page m.page).headCmd m.page = c := (State.headCommand_some hhead).1.symm
  have hserve : s.serve m.page m.op m.sub m.body = .next ((s.serveWith m.page m.body).skipUnknown 1024) := by
    unfold State.serve
    rw [hhead]
    simp [hserving, hop, hsub]
  rw [exec_of_mail hi, hserve, State.serveWith_eq, hc]
  rfl

/-- The completion of a command that fails a check is the next entry of its page's ring. -/
theorem State.refusal_answered {s : State} {m : MailRow} {c : Cmd} (hhead : s.headCommand = some (m.page, c))
    (hop : c.opcode ≠ 1) (st pos step : Nat) (bulk : Option (List Nat)) :
    s.answered ((((s.taken m c).finish s.nextId st (failResult pos step) bulk).queueService m.page).skipUnknown 1024)
      m.page c st (leBytes 2 pos ++ [step]) bulk.isSome := by
  obtain ⟨-, htake⟩ := State.headCommand_some hhead
  intro hw hh
  obtain ⟨e, hheld, hevent, hbits⟩ := State.finish_answers (s.taken_ticket m c) (s.taken_ready c htake hw hh) st
    (failResult pos step) bulk
  have hserved : ((s.taken m c).finish s.nextId st (failResult pos step) bulk).PagesServed
      ((((s.taken m c).finish s.nextId st (failResult pos step) bulk).queueService m.page).skipUnknown 1024) :=
    .trans (.of_eq (State.queueService_pages _ _)) (State.skipUnknown_served _ _)
  have hslot : ((s.taken m c).page (c.ticket m.page).page).cplTail = (s.page m.page).cplTail := by
    rw [show (c.ticket m.page).page = m.page from rfl, s.taken_page]
  rw [hslot] at hheld
  obtain ⟨-, -, -, -, -, hfind⟩ := (hserved m.page).held _ _ hheld
  have hmmp : (c.ticket m.page).mmp2 = c.mmp2 := if_neg hop
  exact ⟨e, hfind, hevent, by rw [hbits, hmmp]; rfl⟩

/-- Settles O55: the failed check is the reply that the command settles with. -/
theorem refusedCommandsAnswer : Obligations.RefusedCommandsAnswer := by
  unfold Obligations.RefusedCommandsAnswer
  intro i s m c st pos step bulk h hreply hop
  have hexec := s.serves_exec h
  rw [hreply] at hexec
  obtain ⟨-, -, hhead, -, -⟩ := h
  have htaken : Kept false false 0x27000204 s (s.taken m c) := State.take_kept (by decide) (.refl s) m.page c
  have hkept : Kept false false (maskOf [Field.boot, .nextId, .pages, .serviceq, .tickets, .cnt]) s
      ((((s.taken m c).finish s.nextId st (failResult pos step) bulk).queueService m.page).skipUnknown 1024) :=
    State.skipUnknown_kept _ (by decide) (State.queueService_kept (by decide)
      (State.finish_kept (by decide) (.more (by decide) (.refl s) htaken) _ _ _ _) m.page)
  exact ⟨_, hexec, State.refusal_answered hhead hop st pos step bulk, hkept.of_list⟩

end Sys2Proof.Machine

/-! # Records, windows, samples, the aperture and scans (R526, R529, R530, R534, R538, R539, R549) -/

namespace Sys2Proof.Machine

/-! ## The buffer moves (R534) -/

/-- The records of the buffer are due: the oldest has waited 1 ms, 4 KiB has gathered, or an alarm waits. -/
theorem recordMove_moves {s : State} {x : Rec} {rest : List Rec} (hb : s.trace.buffer = x :: rest)
    (ha : s.systemAwake = true) (hdue : x.at_ + ms 1 ≤ s.clk.ticks ∨ 4096 ≤ s.bufferBytes ∨
      ∃ y ∈ s.trace.buffer, y.ring = 0 ∧ y.kind ≠ 0) : exec .recordMove s = .next s.moveRecs := by
  show execRecordMove s = _
  have halarm : s.trace.buffer.any (fun x => x.ring == 0 && x.kind != 0) = true ↔
      ∃ y ∈ s.trace.buffer, y.ring = 0 ∧ y.kind ≠ 0 := by
    simp [List.any_eq_true]
  rw [← halarm, hb] at hdue
  unfold execRecordMove
  rw [hb]
  dsimp only
  rw [if_neg, if_pos ha]
  rw [Bool.not_eq_true', Bool.not_eq_false, Bool.or_eq_true, Bool.or_eq_true, decide_eq_true_eq, decide_eq_true_eq, or_assoc]
  exact hdue

@[simp] theorem State.moveRecs_buffer (s : State) : s.moveRecs.trace.buffer = [] := rfl

/-- A buffer of one record stores it at its ring's write pointer, which moves past it. -/
theorem State.moveRecs_single {s : State} {x : Rec} (h : s.trace.buffer = [x]) :
    s.moveRecs.mem = (s.storeSystem (areaBase x.ring + (s.ring x.ring).wr % ringSize x.ring) x.bytes).mem ∧
      (s.moveRecs.ring x.ring).wr = (s.ring x.ring).wr + 32 * x.len := by
  unfold State.moveRecs
  rw [h]
  exact ⟨rfl, congrArg Ring.wr (State.setRing_ring_self ..)⟩

/-! ## GAP records (R538) -/

theorem gapRecordWrite_writes {r : Fin 3} {s : State} {g : Gap} (hg : (s.ring r.val).gap = some g)
    (he : s.gapEnds r.val g = true) : exec (.gapRecordWrite r) s =
      .next (((s.setRing r.val { s.ring r.val with gap := none }).appendRec r.val
        ((s.setRing r.val { s.ring r.val with gap := none }).mkRec 1 r.val 0 0 2 g.body)).cntG
          (if r.val = 1 then 10 else 11) 1) := by
  show execGapRecordWrite r s = _
  unfold execGapRecordWrite
  dsimp only
  rw [hg]
  exact if_neg (by simp [he])

/-- A record that is appended leaves its ring's dropped run as it was. -/
theorem State.appendRec_gap (s : State) (r : Nat) (x : Rec) : ((s.appendRec r x).ring r).gap = (s.ring r).gap := by
  have hrings : (s.appendRec r x).trace.rings = (s.setRing r
      { s.ring r with
        tail := (s.ring r).tail + (if x.len * 32 > ringSize r - (s.ring r).tail % ringSize r then
          ringSize r - (s.ring r).tail % ringSize r else 0) + x.len * 32
        seq := (s.ring r).seq + 1 }).trace.rings := by
    unfold State.appendRec
    dsimp only
    split <;> rfl
  have hring := congrArg (fun t => (Tab.get Ring.reset t r).gap) hrings
  refine hring.trans ?_
  show ((s.setRing r _).ring r).gap = _
  rw [State.setRing_ring_self]

/-! ## Port windows (R526) -/

/-- The slot of the window that begins is one of those cleared. -/
theorem windowSlot_fresh (w w0 : Nat) :
    (if w0 < w && w - w0 < 8 then decide ((w % 8 + 8 - (w0 + 1) % 8) % 8 < w - w0) else w0 < w || w % 8 == w % 8) = true := by
  split
  next hnear =>
    simp only [Bool.and_eq_true, decide_eq_true_eq] at hnear
    rw [decide_eq_true_eq]
    omega
  next => simp

/-- A new window starts with every port's slot empty. -/
theorem State.startWindows_new {s : State} (h : s.now / 100000 ≠ s.regs.winNum) :
    s.startWindows.regs = { s.regs with winNum := s.now / 100000 } ∧
      s.startWindows.ports.map (fun x => x.1) = s.ports.map (fun x => x.1) ∧
      ∀ x ∈ s.startWindows.ports, (x.2.windows[s.now / 100000 % 8]?).getD [] = [] := by
  unfold State.startWindows
  dsimp only
  rw [if_neg h]
  refine ⟨rfl, ?_, fun x hx => ?_⟩
  · unfold Tab.mapVals
    rw [List.map_map]
    rfl
  · obtain ⟨p, -, rfl⟩ := List.mem_map.mp hx
    simp only [List.getElem?_map, List.getElem?_zipIdx, Option.map_map]
    cases hp : p.2.windows[s.now / 100000 % 8]? with
    | none => rfl
    | some l =>
      rw [Option.map_some, Option.getD_some, Function.comp_apply, Nat.zero_add]
      exact if_pos (windowSlot_fresh _ _)

/-! ## Samples (R529, R530) -/

/-- A record that is traced or dropped leaves the samplers alone. -/
theorem State.traceRec_samplers (s : State) (x : Rec) : (s.traceRec x).trace.samplers = s.trace.samplers ∧
    (s.traceRec x).trace.sampleStat = s.trace.sampleStat := by
  unfold State.traceRec
  split
  · exact ⟨rfl, rfl⟩
  · show (s.appendRec 2 x).trace.samplers = _ ∧ (s.appendRec 2 x).trace.sampleStat = _
    unfold State.appendRec
    exact ⟨rfl, rfl⟩

/-- A unit whose record is written has no crossing left, and its status bit set. -/
theorem State.sampleRec_writes (s : State) (i : Nat) (u : Sampler) (skid : Nat) (req : List Nat) :
    (s.sampleRec i u skid req).trace.samplers = Tab.put s.trace.samplers i
        { u with pendingAt := none, missed := 0, cand := none, skid := 0 } ∧
      (s.sampleRec i u skid req).trace.sampleStat = s.trace.sampleStat ||| 2 ^ i := by
  unfold State.sampleRec
  dsimp only
  rw [(s.traceRec_samplers _).1, (s.traceRec_samplers _).2]
  exact ⟨rfl, rfl⟩

theorem sampleTaken_writes {u : Fin 16} {s : State} {x : Sampler} {req : List Nat}
    (hx : Tab.find? s.trace.samplers u.val = some x) (hc : x.cand = some req) :
    exec (.sampleTaken u) s = .next (s.sampleRec u.val x x.skid req) := by
  show execSampleTaken u s = _
  unfold execSampleTaken
  rw [hx]
  dsimp only
  rw [hc]

theorem sampleTimeout_writes {u : Fin 16} {s : State} {x : Sampler} {at_ : Nat}
    (hx : Tab.find? s.trace.samplers u.val = some x) (hc : x.cand = none) (hp : x.pendingAt = some at_)
    (hd : at_ + ms 1 ≤ s.clk.ticks) : exec (.sampleTimeout u) s = .next (s.sampleRec u.val x 0xFFFF []) := by
  show execSampleTimeout u s = _
  unfold execSampleTimeout
  rw [hx]
  dsimp only
  rw [hc, hp]
  dsimp only
  rw [if_pos hd]

/-! ## The aperture and scans (R539, R549) -/

/-- The words that the aperture shows of a page: none beyond the end of the area. -/
def State.aperturePage (s : State) (l a p : Nat) : List Nat :=
  if areaPages a ≤ p then [] else (List.range 512).map (fun i =>
    (decodeWord (s.storedWord l (areaBase a + 4096 * p + 8 * i)).1 (s.storedWord l (areaBase a + 4096 * p + 8 * i)).2).data.toNat)

theorem apertureReady_copies {s : State} {l : Nat} (hb : s.trace.apBusy = true) (hl : s.sysLeaf = some l) :
    exec .apertureReady s = .next { s with trace := { s.trace with
      apBusy := false, apReady := true, apPage := s.aperturePage l (s.trace.apSel % 4) (s.trace.apSel / 4) } } := by
  show execApertureReady s = _
  unfold execApertureReady
  rw [hl]
  exact if_neg (by simp [hb])

theorem State.aperturePage_word {s : State} {l a p : Nat} (h : ¬ areaPages a ≤ p) :
    (s.aperturePage l a p).length = 512 ∧ ∀ i w, i < 512 → w = s.storedWord l (areaBase a + 4096 * p + 8 * i) →
      (s.aperturePage l a p)[i]? = some (decodeWord w.1 w.2).data.toNat := by
  unfold State.aperturePage
  rw [if_neg h]
  refine ⟨by simp, fun i w hi hw => ?_⟩
  rw [hw, List.getElem?_map, List.getElem?_range hi]
  rfl

theorem scanDone_ends {s : State} (hb : s.trace.scanBusy = true) (hr : 48 ≤ fld s.trace.scanCtl 0 6 ∨
    (s.care (fld s.trace.scanCtl 6 10)).runs .scan = true) : exec .scanDone s = .next (State.fresh { s with trace := { s.trace with
      scanBusy := false, scanDone := true, scanWords := Config.freeNat s.freeCount % 16381, scanBase := s.freeCount } }) := by
  show execScanDone s = _
  unfold execScanDone
  refine if_neg ?_
  obtain h | h := hr <;> simp [hb, h]

/-- Settles O48, event by event. -/
theorem recordEventsComplete : Obligations.RecordEventsComplete := by
  unfold Obligations.RecordEventsComplete
  refine ⟨fun s x rest hb ha hdue => ?move, fun r s g hg he => ?gap, fun s w hw hne => ?window, fun u s x hx y hy => ?sample,
    fun s l hb hl => ?aperture, fun s hb hr => ?scan⟩
  case move =>
    refine ⟨_, recordMove_moves hb ha hdue, s.moveRecs_buffer, fun hrest _ => ?_⟩
    subst hrest
    exact State.moveRecs_single hb
  case gap =>
    refine ⟨_, gapRecordWrite_writes hg he, fun _ => ?_, _, State.appendRec_last _ _ _, rfl, rfl, rfl⟩
    exact (State.appendRec_gap _ _ _).trans (congrArg Ring.gap (State.setRing_ring_self ..))
  case window =>
    subst hw
    exact ⟨_, rfl, State.startWindows_new hne⟩
  case sample =>
    subst hy
    exact ⟨fun req hc => ⟨_, sampleTaken_writes hx hc, s.sampleRec_writes _ _ _ _⟩,
      fun at_ hc hp hd => ⟨_, sampleTimeout_writes hx hc hp hd, s.sampleRec_writes _ _ _ _⟩⟩
  case aperture =>
    refine ⟨_, apertureReady_copies hb hl, rfl, rfl, ?_⟩
    split
    next h => exact if_pos h
    next h => exact State.aperturePage_word h
  case scan => exact ⟨_, scanDone_ends hb hr, rfl, rfl, rfl, rfl⟩

end Sys2Proof.Machine

/-! # Stack power (R497-R499) -/

namespace Sys2Proof.Machine

theorem partner_ne (k : Nat) : partner k ≠ k := by
  unfold partner
  split <;> omega

/-! ## Enables and power-good -/

/-- A stack is enabled when its turn in the power sequence has come. -/
theorem stackPowerEnable_enables {k : Fin 16} {s : State} {p : Nat} (hseq : s.boot.seqAt = some p) (hup : s.mordantUp = true)
    (hpower : s.toPower k.val = true) (hoff : (s.sup k.val).enable = false) (hrec : (s.sup k.val).recoverAt = none)
    (hpartner : (s.sup (partner k.val)).recoverAt = none) (hdue : p + ms k.val ≤ s.clk.ticks) :
    exec (.stackPowerEnable k) s = .next (s.enableStack k.val) := by
  show execStackPowerEnable k s = _
  unfold execStackPowerEnable
  rw [hseq]
  exact if_pos (by simp [hup, hpower, hoff, hrec, hpartner, hdue])

/-- Discovery records the stack and compares its identifier with the map, which leaves the supplies. -/
theorem stackPowerGood_discovers {k : Fin 16} {disc : Discovery} {s : State} (hon : (s.sup k.val).enable = true)
    (hlow : (s.sup k.val).good = false) (hin : s.clk.ticks ≤ (s.sup k.val).enableAt + ms 2) :
    Completes (.stackPowerGood k disc) s fun t => t.supply = (s.setSup k.val { s.sup k.val with
      good := true, goodAt := s.clk.ticks, disc := disc, stype := (if disc.stype ≤ 7 then disc.stype else 0),
      rate := disc.rate }).supply := by
  have hexec : exec (.stackPowerGood k disc) s = execStackPowerGood k disc s := rfl
  unfold execStackPowerGood at hexec
  dsimp only at hexec
  rw [if_neg (by simp [hon, hlow, hin])] at hexec
  exact ⟨_, hexec, (State.checkSerial_kept (Nat.or_self _) (.refl _) k.val).same .supply⟩

/-! ## The pair fault procedure -/

/-- A stack that goes down is off; what waits for it stays. -/
theorem State.stackDown_sup (s : State) (k : Nat) : ∃ u : Supply, (s.stackDown k).sup k =
    { u with enable := false, good := false, trained := false, training := false, imported := false, quickDone := false,
             rstOutLow := true } := by
  unfold State.stackDown
  dsimp only
  exact ⟨_, State.setSup_sup_self _ k _⟩

theorem State.stackDown_ticks (s : State) (k : Nat) : (s.stackDown k).clk.ticks = s.clk.ticks :=
  congrArg Clock.ticks ((State.stackDown_kept (Nat.or_self _) (.refl s) k).same .clk)

/-- A ticket that ends leaves the supplies and the heat. -/
theorem State.OnlyStack.finish (s : State) (k tk st : Nat) (l : List Nat) : s.OnlyStack k (s.finish tk st l none) :=
  .of_kept (State.finish_kept (Nat.or_self _) (.refl s) tk st l none)

/-- A fenced stack is off, and no recovery waits for it. -/
theorem State.fence_off (s : State) (k cause : Nat) : ((s.fence k cause).sup k).enable = false ∧
    ((s.fence k cause).sup k).recoverAt = none := by
  obtain ⟨u, hdown⟩ := (s.note 0x0F 1 k [(1, cause)]).stackDown_sup k
  unfold State.fence
  dsimp only
  split
  · rw [State.setSup_sup_self, hdown]
    exact ⟨rfl, rfl⟩
  · rw [State.sup_congr ((State.finish_kept (Nat.or_self _) (.refl _) _ _ _ _).same .supply), State.setSup_sup_self, hdown]
    exact ⟨rfl, rfl⟩

/-- A fence is about its own stack. -/
theorem State.OnlyStack.fence (s : State) (k cause : Nat) : s.OnlyStack k (s.fence k cause) := by
  have hset : ∀ (u : State) (x : Supply), u.OnlyStack k (u.setSup k x) := fun u x =>
    ⟨fun _ _ => rfl, fun _ hj => State.setSup_sup_other u x hj, rfl⟩
  have hdown : ∀ x : Supply, s.OnlyStack k (((s.note 0x0F 1 k [(1, cause)]).stackDown k).setSup k x) := fun x =>
    ((note s k _ _ _ _).trans (stackDown _ k)).trans (hset _ x)
  unfold State.fence
  exact ite (hdown _) ((hdown _).trans (finish _ k _ _ _))

theorem State.fence_ticks (s : State) (k cause : Nat) : (s.fence k cause).clk.ticks = s.clk.ticks :=
  congrArg Clock.ticks ((State.fence_kept (Nat.or_self _) (.refl s) k cause).same .clk)

/-- While its partner is in its inrush, both stacks are shut down and the recovery falls due 10 ms later; else the stack at
fault is fenced. -/
theorem State.pairFault_shuts (s : State) (a : Nat) : ((s.pairFault a).sup a).enable = false ∧
    if s.inrush (partner a) then ((s.pairFault a).sup a).recoverAt = some (s.clk.ticks + ms 10)
    else ((s.pairFault a).sup a).fenced = true ∧ ((s.pairFault a).sup a).recoverAt = none := by
  unfold State.pairFault
  dsimp only
  split
  next hin =>
    obtain ⟨u, hdown⟩ := s.stackDown_sup a
    have hkeep : ((s.stackDown a).stackDown (partner a)).sup a = (s.stackDown a).sup a :=
      (State.OnlyStack.stackDown (s.stackDown a) (partner a)).sup a (partner_ne a).symm
    rw [State.setSup_sup_self, hkeep, hdown, State.stackDown_ticks, State.stackDown_ticks]
    exact ⟨rfl, rfl⟩
  next hin =>
    exact ⟨(s.fence_off a 1).1, s.fence_fenced a 1, (s.fence_off a 1).2⟩

/-! ## Faults of a pair -/

theorem stackPgTimeout_faults {k : Fin 16} {s : State} (hon : (s.sup k.val).enable = true) (hlow : (s.sup k.val).good = false)
    (hover : (s.sup k.val).enableAt + ms 2 ≤ s.clk.ticks) : exec (.stackPgTimeout k) s = .next (s.pairFault k.val) := by
  show execStackPgTimeout k s = _
  unfold execStackPgTimeout
  dsimp only
  rw [if_pos (by simp [hon, hlow, hover])]

theorem stackPgFall_faults {k : Fin 16} {s : State} (hon : (s.sup k.val).enable = true) (hgood : (s.sup k.val).good = true) :
    exec (.stackPgFall k) s = .next (s.pairFault k.val) := by
  show execStackPgFall k s = _
  unfold execStackPgFall
  rw [if_pos (by simp [hon, hgood])]

theorem partner_half (k : Nat) : partner k / 2 = k / 2 := by
  unfold partner
  split <;> omega

/-- The stacks of a pair are a stack and its partner. -/
theorem pair_eq {k p : Nat} (h : k / 2 = p) :
    [2 * p, 2 * p + 1] = [k, partner k] ∨ [2 * p, 2 * p + 1] = [partner k, k] := by
  unfold partner
  split
  · exact .inl (by rw [show 2 * p = k by omega])
  · exact .inr (by rw [show 2 * p = k - 1 by omega, show k - 1 + 1 = k by omega])

/-- The enabled stacks of a pair. -/
def State.pairOn (s : State) (p : Nat) : List Nat := [2 * p, 2 * p + 1].filter (fun k => (s.sup k).enable)

/-- Of two stacks the one enabled later, the first on a tie. -/
def State.later (s : State) (a i : Nat) : Nat := if (s.sup a).enableAt < (s.sup i).enableAt then i else a

theorem State.mem_pairOn {s : State} {p k : Nat} : k ∈ s.pairOn p ↔ k / 2 = p ∧ (s.sup k).enable = true := by
  unfold State.pairOn
  rw [List.mem_filter]
  simp only [List.mem_cons, List.not_mem_nil, or_false]
  refine and_congr_left fun _ => ?_
  omega

/-- Overcurrent of an unsettled pair is a fault of the stack enabled later. -/
theorem stackOvercurrent_unsettled {p : Fin 8} {s : State} {a : Nat} {rest : List Nat} (hon : s.pairOn p.val = a :: rest)
    (hun : (s.pairOn p.val).all s.settled = false) :
    exec (.stackOvercurrent p) s = .next (s.pairFault (rest.foldl s.later a)) := by
  rw [hon] at hun
  unfold State.pairOn at hon
  show execStackOvercurrent p s = _
  unfold execStackOvercurrent
  dsimp only
  rw [hon]
  exact if_neg (by rw [hun]; decide)

/-- A stack that is on alone, or was enabled after its partner, is the one at fault. -/
theorem stackOvercurrent_faults {p : Fin 8} {s : State} {k : Nat} (hk : k / 2 = p.val) (hon : (s.sup k).enable = true)
    (hun : s.settled k = false ∨ (s.sup (partner k)).enable = true ∧ s.settled (partner k) = false)
    (hlate : (s.sup (partner k)).enable = false ∨ (s.sup (partner k)).enableAt < (s.sup k).enableAt) :
    exec (.stackOvercurrent p) s = .next (s.pairFault k) := by
  have hsome : (s.pairOn p.val).all s.settled = false := by
    rw [List.all_eq_false]
    obtain h | ⟨hpon, h⟩ := hun
    · exact ⟨k, State.mem_pairOn.mpr ⟨hk, hon⟩, by simp [h]⟩
    · exact ⟨partner k, State.mem_pairOn.mpr ⟨(partner_half k).trans hk, hpon⟩, by simp [h]⟩
  cases hpon : (s.sup (partner k)).enable with
  | false =>
    have hpair : s.pairOn p.val = [k] := by
      unfold State.pairOn
      obtain e | e := pair_eq hk <;> simp [e, hon, hpon]
    exact stackOvercurrent_unsettled hpair hsome
  | true =>
    have hlt : (s.sup (partner k)).enableAt < (s.sup k).enableAt := hlate.resolve_left (by simp [hpon])
    obtain e | e := pair_eq hk
    · have hpair : s.pairOn p.val = [k, partner k] := by
        simp [State.pairOn, e, hon, hpon]
      rw [stackOvercurrent_unsettled hpair hsome]
      exact congrArg (fun x => Host.Outcome.next (s.pairFault x)) (if_neg hlt.not_gt)
    · have hpair : s.pairOn p.val = [partner k, k] := by
        simp [State.pairOn, e, hon, hpon]
      rw [stackOvercurrent_unsettled hpair hsome]
      exact congrArg (fun x => Host.Outcome.next (s.pairFault x)) (if_pos hlt)

/-- Overcurrent of a settled pair is recorded only. -/
theorem stackOvercurrent_settled {p : Fin 8} {s : State}
    (h : ∀ k, k / 2 = p.val → (s.sup k).enable = true → s.settled k = true) :
    Completes (.stackOvercurrent p) s fun t => t.supply = s.supply := by
  have hall : (s.pairOn p.val).all s.settled = true := by
    rw [List.all_eq_true]
    intro k hk
    obtain ⟨hpair, hon⟩ := State.mem_pairOn.mp hk
    exact h k hpair hon
  have hexec : exec (.stackOvercurrent p) s = execStackOvercurrent p s := rfl
  unfold execStackOvercurrent at hexec
  dsimp only at hexec
  rw [← State.pairOn] at hexec
  split at hexec
  next => exact ⟨_, hexec, rfl⟩
  next a rest hon =>
    rw [if_pos (hon ▸ hall)] at hexec
    have hnotes : Kept false false 0x3060000000 s ((s.pairOn p.val).foldl (fun s i => s.note 0x0F 1 i [(1, 3)]) s) :=
      Kept.foldl (fun _ i h => State.note_kept (by decide) h 0x0F 1 i [(1, 3)]) _ s (.refl s)
    exact ⟨_, hexec, hnotes.same .supply⟩

/-- Whether a stack's recovery after a pair fault is due. -/
def State.recoveryDue (s : State) (k : Nat) : Bool :=
  match (s.sup k).recoverAt with
  | some t => decide (t ≤ s.clk.ticks)
  | none => false

theorem exec_pairFaultRecovery (p : Fin 8) (s : State) : exec (.pairFaultRecovery p) s =
    match [2 * p.val, 2 * p.val + 1].find? s.recoveryDue with
    | none => .next s
    | some a => .next (if (s.fence a 1).toPower (partner a) then (s.fence a 1).enableStack (partner a) else s.fence a 1) :=
  rfl

/-- The recovery fences the stack at fault and tries its partner alone, unless that one may not be powered. -/
theorem pairFaultRecovery_tries {p : Fin 8} {s : State} {a due : Nat} (ha : a / 2 = p.val)
    (hrec : (s.sup a).recoverAt = some due) (hdue : due ≤ s.clk.ticks) (hpartner : (s.sup (partner a)).recoverAt = none) :
    exec (.pairFaultRecovery p) s = .next (if (s.fence a 1).toPower (partner a) then (s.fence a 1).enableStack (partner a)
      else s.fence a 1) := by
  have hown : s.recoveryDue a = true := by simp [State.recoveryDue, hrec, hdue]
  have hother : s.recoveryDue (partner a) = false := by simp [State.recoveryDue, hpartner]
  have hfind : [2 * p.val, 2 * p.val + 1].find? s.recoveryDue = some a := by
    obtain e | e := pair_eq ha <;> simp [e, hown, hother]
  rw [exec_pairFaultRecovery, hfind]

theorem State.enableStack_sup_self (s : State) (k : Nat) : (s.enableStack k).sup k = { s.sup k with
    enable := true, good := false, enableAt := s.clk.ticks, rstOutLow := true } :=
  State.setSup_sup_self s k _

theorem State.enableStack_sup_other (s : State) {k j : Nat} (h : j ≠ k) : (s.enableStack k).sup j = s.sup j :=
  State.setSup_sup_other s _ h

theorem pairFaultRecovery_recovers {p : Fin 8} {s : State} {a due : Nat} (ha : a / 2 = p.val)
    (hrec : (s.sup a).recoverAt = some due) (hdue : due ≤ s.clk.ticks) (hpartner : (s.sup (partner a)).recoverAt = none) :
    Completes (.pairFaultRecovery p) s fun t => (t.sup a).fenced = true ∧
      (s.toPower (partner a) = true → (t.sup (partner a)).enable = true ∧ (t.sup (partner a)).enableAt = s.clk.ticks) := by
  have honly := State.OnlyStack.fence s a 1
  have hpower : (s.fence a 1).toPower (partner a) = s.toPower (partner a) := by
    unfold State.toPower
    rw [honly.sup _ (partner_ne a), honly.heat _ (partner_ne a)]
  have hexec := pairFaultRecovery_tries ha hrec hdue hpartner
  rw [hpower] at hexec
  refine ⟨_, hexec, ?_⟩
  split
  next hp =>
    rw [State.enableStack_sup_other _ (partner_ne a).symm, State.enableStack_sup_self, State.fence_ticks]
    exact ⟨s.fence_fenced a 1, fun _ => ⟨rfl, rfl⟩⟩
  next hp => exact ⟨s.fence_fenced a 1, fun h => absurd h hp⟩

/-- Settles O45. -/
theorem stackPowerComplete : Obligations.StackPowerComplete := by
  unfold Obligations.StackPowerComplete
  refine ⟨?enable, ?good, ?fault, fun p s h => stackOvercurrent_settled h, ?recovery⟩
  case enable =>
    intro k s p hseq hup hpower hoff hrec hpartner hdue
    exact stackPowerEnable_enables hseq hup hpower hoff hrec hpartner hdue
  case good =>
    intro k disc s hon hlow hin
    exact stackPowerGood_discovers hon hlow hin
  case fault =>
    intro k i s hi
    have hexec : exec i s = .next (s.pairFault k) := by
      obtain ⟨⟨k', rfl, rfl⟩, hon, hlow, hover⟩ | ⟨⟨k', rfl, rfl⟩, hon, hgood⟩ | ⟨⟨p, hk, rfl⟩, hon, hun, hlate⟩ := hi
      · exact stackPgTimeout_faults hon hlow hover
      · exact stackPgFall_faults hon hgood
      · exact stackOvercurrent_faults hk hon hun hlate
    obtain ⟨hoff, hrest⟩ := s.pairFault_shuts k
    exact ⟨_, hexec, fun _ => hoff, hrest⟩
  case recovery =>
    intro p s a due ha hrec hdue hpartner
    exact pairFaultRecovery_recovers ha hrec hdue hpartner

end Sys2Proof.Machine

/-! # Power-on (R496, Tables 16.6 and 16.7) -/

namespace Sys2Proof.Machine

/-- A boot that stops leaves its code in BOOTFAIL, and no firmware. -/
theorem State.bootStop_stops (s : State) {code : Nat} (h : code < 256) : (s.bootStop code).bootFail = code ∧
    (s.bootStop code).boot.firmware = false ∧ (s.bootStop code).boot.loaded = none := by
  refine ⟨?_, rfl, rfl⟩
  show fld (Tab.num (s.setBkp 0 0 8 code).boot.bkp 0) 0 8 = code
  rw [State.setBkp_bkp]
  generalize Tab.num s.boot.bkp 0 = b
  simp only [fld, put, Nat.reducePow]
  omega

/-! ## The firmware's start -/

/-- The image that runs, and the time, are as they were. -/
structure State.SameImage (s t : State) : Prop where
  firmware : t.boot.firmware = s.boot.firmware
  loaded : t.boot.loaded = s.boot.loaded
  ticks : t.clk.ticks = s.clk.ticks

theorem State.SameImage.trans {s t u : State} (h : s.SameImage t) (g : t.SameImage u) : s.SameImage u :=
  ⟨g.firmware.trans h.firmware, g.loaded.trans h.loaded, g.ticks.trans h.ticks⟩

theorem State.SameImage.of_kept {w : Nat} {s t : State} (h : Kept false false w s t)
    (hb : w.testBit Field.boot.bit = false := by decide) (hc : w.testBit Field.clk.bit = false := by decide) :
    s.SameImage t :=
  ⟨congrArg Boot.firmware (h.same .boot hb), congrArg Boot.loaded (h.same .boot hb), congrArg Clock.ticks (h.same .clk hc)⟩

theorem State.mirrorCopied_sameImage (s : State) (l : List Rec) : s.SameImage (l.foldl (fun s x =>
    { s.appendRec 0 x with trace := { (s.appendRec 0 x).trace with mirror := (s.appendRec 0 x).trace.mirror.drop 1 ++
      [((s.appendRec 0 x).trace.newest.map (fun (r, _) => r)).getD x] } }) s) :=
  .of_kept (w := 0x40000000) (Kept.foldl (fun _ _ h => Kept.upd_trace (by decide) (State.appendRec_kept (by decide) h _ _)) l s
    (.refl s))

theorem State.SameImage.note {s u : State} (h : s.SameImage u) (c : Prop) [Decidable c] (args : List (Nat × Nat)) :
    s.SameImage (if c then u else u.note 0x0D 0 0 args) := by
  split
  · exact h
  · exact h.trans (.of_kept (State.note_kept (Nat.or_self _) (.refl u) 0x0D 0 0 args))

/-- The firmware that has started is the loaded image, and the power sequence has started with it. -/
structure State.Started (s t : State) : Prop where
  image : s.SameImage t
  seqAt : t.boot.seqAt = some s.clk.ticks

theorem State.Started.of_kept {w : Nat} {s t u : State} (h : s.Started t) (hk : Kept false false w t u)
    (hb : w.testBit Field.boot.bit = false := by decide) (hc : w.testBit Field.clk.bit = false := by decide) : s.Started u :=
  ⟨h.image.trans (.of_kept hk hb hc), (congrArg Boot.seqAt (hk.same .boot hb)).trans h.seqAt⟩

theorem State.startUp_started (s : State) : s.Started s.startUp := by
  have hserials : ∀ v : State, Kept false false 0x3160000000 v ((List.range 16).foldl (fun s k =>
      if (s.sup k).good && !(s.sup k).fenced then s.checkSerial k else s) v) := fun v =>
    Kept.foldl (fun _ k h => .ite (State.checkSerial_kept (by decide) h k) h) _ v (.refl v)
  unfold State.startUp
  dsimp only
  have hmirror := s.mirrorCopied_sameImage s.trace.mirror
  revert hmirror
  generalize List.foldl _ s s.trace.mirror = u
  intro hmirror
  have hread : s.SameImage { u with boot := { u.boot with recs := devRead u.boot.dev } } :=
    ⟨hmirror.firmware, hmirror.loaded, hmirror.ticks⟩
  have htrim : ∀ v, s.SameImage v → s.SameImage (if v.boot.recs.trimValid then v else v.note 0x0D 0 0 [(1, 1), (1, 2)]) :=
    fun v h => h.note _ _
  have hmap : ∀ v, s.SameImage v → s.SameImage (if v.boot.recs.mapValid then v else v.note 0x0D 0 0 [(1, 2), (1, 3)]) :=
    fun v h => h.note _ _
  have himage := hmap _ (htrim _ hread)
  refine State.Started.of_kept ?_ (hserials _)
  exact ⟨⟨himage.firmware, himage.loaded, himage.ticks⟩, congrArg some himage.ticks⟩

theorem State.startUp_porst (s : State) : s.startUp.pins.porst = s.pins.porst :=
  congrArg Pins.porst ((State.startUp_kept (Nat.or_self _) (.refl s)).same .pins)

/-! ## The boot ROM after power-on -/

/-- The trial bits of BKP1 take no part in the choice of a slot. -/
theorem State.setBkp_chooseSlot (s : State) (reg lo n v : Nat) : (s.setBkp reg lo n v).chooseSlot = s.chooseSlot := rfl

/-- Power-on is no fallback from a trial. -/
theorem State.fallBack_powerOn (s : State) : s.fallBack 0 = s.setBkp 1 2 1 0 := rfl

/-- What the boot ROM may read of the device: it answers, and its size is one that the chip takes. -/
def deviceReads (d : FlashDev) : Prop := d.answers = true ∧ 16 ≤ d.sizeMiB ∧ d.sizeMiB ≤ 256

theorem State.bootRom_unreadable {s : State} {code : Nat} (h : ¬ deviceReads s.boot.dev) : s.bootRom code = s.bootStop 1 := by
  unfold State.bootRom
  dsimp only
  refine if_pos ?_
  by_contra hc
  simp only [Bool.or_eq_true, Bool.not_eq_true', decide_eq_true_eq, not_or, Bool.not_eq_false, not_lt] at hc
  obtain ⟨⟨hanswers, hlow⟩, hhigh⟩ := hc
  exact h ⟨hanswers, hlow, hhigh⟩

theorem reads_of_deviceReads {d : FlashDev} (h : deviceReads d) :
    ¬ (!d.answers || decide (d.sizeMiB < 16) || decide (256 < d.sizeMiB)) = true := by
  obtain ⟨hanswers, hlow, hhigh⟩ := h
  simp [hanswers, hlow, hhigh]

theorem State.bootRom_unerasable {s : State} {code : Nat} (h : deviceReads s.boot.dev) (he : s.boot.dev.eraseOk = false) :
    s.bootRom code = s.bootStop 2 := by
  unfold State.bootRom
  dsimp only
  rw [if_neg (reads_of_deviceReads h), if_pos (by simp [he])]

theorem State.bootRom_noSlot {s : State} (h : deviceReads s.boot.dev) (he : s.boot.dev.eraseOk = true)
    (hslot : s.chooseSlot = none) : s.bootRom 0 = (s.setBkp 1 2 1 0).bootStop 3 := by
  unfold State.bootRom
  dsimp only
  rw [if_neg (reads_of_deviceReads h), if_neg (by simp [he]), State.fallBack_powerOn, State.setBkp_chooseSlot, hslot]

/-- The image of slot `i` is loaded, out of PORST_N and in no time. -/
structure State.Loads (s : State) (i : Nat) (u : State) : Prop where
  firmware : u.boot.firmware = true
  loaded : u.boot.loaded = some i
  porst : u.pins.porst = s.pins.porst
  ticks : u.clk.ticks = s.clk.ticks

theorem Kept.loads {w : Nat} {s v : State} (h : Kept false false w s v) (i at_ : Nat) (trace : Trace)
    (hp : w.testBit Field.pins.bit = false := by decide) (hc : w.testBit Field.clk.bit = false := by decide) :
    s.Loads i { v with boot := { v.boot with firmware := true, loaded := some i, trialAt := at_ }, trace := trace,
                       pins := { v.pins with qspiReleased := false } } := by
  have hporst : v.pins.porst = s.pins.porst := congrArg Pins.porst (h.same .pins hp)
  have hticks : v.clk.ticks = s.clk.ticks := congrArg Clock.ticks (h.same .clk hc)
  exact ⟨rfl, rfl, hporst, hticks⟩

/-- The image of the chosen slot starts. -/
theorem State.bootRom_loads {s : State} {i : Nat} (h : deviceReads s.boot.dev) (he : s.boot.dev.eraseOk = true)
    (hslot : s.chooseSlot = some i) : ∃ u : State, s.bootRom 0 = u.startUp ∧ s.Loads i u := by
  have hbkp : ∀ {u : State} (reg lo n v : Nat), Kept false false 0x4 s u → Kept false false 0x4 s (u.setBkp reg lo n v) :=
    fun reg lo n v h => State.setBkp_kept (Nat.or_self _) h reg lo n v
  have hload (a b c d : Nat) :=
    (hbkp 0 0 8 0 (hbkp 1 32 32 d (hbkp 1 16 16 c (hbkp 1 1 1 b (hbkp 1 0 1 a (hbkp 1 2 1 0 (.refl s))))))).loads
  unfold State.bootRom
  dsimp only
  rw [if_neg (reads_of_deviceReads h), if_neg (by simp [he]), State.fallBack_powerOn, State.setBkp_chooseSlot, hslot]
  exact ⟨_, if_neg (by decide), hload _ _ _ _ _ _ _⟩

/-- What stands when the boot ROM is done after power-on. -/
theorem State.bootRom_powerOn (s : State) : (s.bootRom 0).pins.porst = s.pins.porst ∧
    if s.boot.dev.answers = false then
      (s.bootRom 0).bootFail = 1 ∧ (s.bootRom 0).boot.firmware = false ∧ (s.bootRom 0).boot.loaded = none
    else if s.boot.dev.sizeMiB < 16 ∨ 256 < s.boot.dev.sizeMiB then
      (s.bootRom 0).bootFail = 1 ∧ (s.bootRom 0).boot.firmware = false ∧ (s.bootRom 0).boot.loaded = none
    else if s.boot.dev.eraseOk = false then
      (s.bootRom 0).bootFail = 2 ∧ (s.bootRom 0).boot.firmware = false ∧ (s.bootRom 0).boot.loaded = none
    else match s.chooseSlot with
      | none => (s.bootRom 0).bootFail = 3 ∧ (s.bootRom 0).boot.firmware = false ∧ (s.bootRom 0).boot.loaded = none
      | some i => (s.bootRom 0).boot.firmware = true ∧ (s.bootRom 0).boot.loaded = some i ∧
        (s.bootRom 0).boot.seqAt = some s.clk.ticks := by
  by_cases hread : deviceReads s.boot.dev
  · obtain ⟨hanswers, hlow, hhigh⟩ := id hread
    rw [if_neg (by simp [hanswers]), if_neg (by omega)]
    cases he : s.boot.dev.eraseOk with
    | false =>
      rw [State.bootRom_unerasable hread he]
      exact ⟨rfl, s.bootStop_stops (by decide)⟩
    | true =>
      rw [if_neg (by decide)]
      cases hslot : s.chooseSlot with
      | none =>
        rw [State.bootRom_noSlot hread he hslot]
        exact ⟨rfl, State.bootStop_stops _ (by decide)⟩
      | some i =>
        obtain ⟨u, hu, hload⟩ := State.bootRom_loads hread he hslot
        obtain ⟨himage, hseq⟩ := u.startUp_started
        rw [hu]
        exact ⟨u.startUp_porst.trans hload.porst, himage.firmware.trans hload.firmware, himage.loaded.trans hload.loaded,
          hseq.trans (congrArg some hload.ticks)⟩
  · rw [State.bootRom_unreadable hread]
    refine ⟨rfl, ?_⟩
    split
    · exact s.bootStop_stops (by decide)
    next hanswers =>
      have hsize : s.boot.dev.sizeMiB < 16 ∨ 256 < s.boot.dev.sizeMiB := by
        by_contra hsize
        exact hread ⟨by simpa using hanswers, by omega, by omega⟩
      rw [if_pos hsize]
      exact s.bootStop_stops (by decide)

/-- A state whose PORST_N is released, with the device that is there. -/
def State.released (s : State) (dev : FlashDev) : State :=
  { s with pins := { s.pins with porst := false }, boot := { s.boot with dev := dev, coreReset := false } }

/-- The release of PORST_N runs the boot ROM. -/
theorem powerOnRelease_boots {dev : FlashDev} {s : State} (h : s.pins.porst = true) :
    exec (.powerOnRelease dev) s = .next ((s.released dev).bootRom 0) := by
  show execPowerOnRelease dev s = _
  unfold execPowerOnRelease
  exact if_neg (by simp [h])

/-- Settles O41. -/
theorem powerOnComplete : Obligations.PowerOnComplete := by
  unfold Obligations.PowerOnComplete
  refine ⟨fun s => rfl, fun dev s u hp hu => ?_⟩
  rw [← State.released] at hu
  obtain ⟨hporst, hboot⟩ := u.bootRom_powerOn
  have hcore := (u.bootRom_sameReset 0).coreReset
  subst hu
  exact ⟨_, powerOnRelease_boots hp, hporst, hcore, hboot⟩

end Sys2Proof.Machine

/-! # Block resets (R491-R495, Table 16.2) -/

namespace Sys2Proof.Machine

theorem bitAt_two_pow (b i : Nat) : bitAt (2 ^ b) i = decide (b = i) := by
  rw [bitAt_eq_testBit, Nat.testBit_two_pow]

theorem bitAt_zero (i : Nat) : bitAt 0 i = false := by
  rw [bitAt_eq_testBit, Nat.zero_testBit]

/-! ## Their start -/

/-- A block that is not in reset, and is not Mordant, starts to drain. -/
theorem State.startReset_starts {s : State} {b : Nat} (h : bitAt s.regs.rstBusy b = false) (hm : b ≠ 20) :
    s.startReset b = { s with
      regs := { s.regs with rstBusy := s.regs.rstBusy ||| 2 ^ b }
      boot := { s.boot with drains := s.boot.drains ++ [(b, s.clk.ticks, false)] } } := by
  unfold State.startReset
  rw [if_neg (by simp [h]), if_neg hm]

/-- Distinct blocks out of reset, without Mordant, all start to drain. -/
theorem State.startReset_all (l : List Nat) : ∀ s : State, l.Nodup → (∀ b ∈ l, bitAt s.regs.rstBusy b = false ∧ b ≠ 20) →
    (l.foldl State.startReset s).boot.drains = s.boot.drains ++ l.map (fun b => (b, s.clk.ticks, false)) ∧
      ∀ b, bitAt (l.foldl State.startReset s).regs.rstBusy b = true ↔ bitAt s.regs.rstBusy b = true ∨ b ∈ l := by
  induction l with
  | nil => exact fun s _ _ => ⟨(List.append_nil _).symm, fun b => by simp⟩
  | cons a l ih =>
    intro s hl hfree
    obtain ⟨hal, hnodup⟩ := List.nodup_cons.mp hl
    obtain ⟨ha, hm⟩ := hfree a List.mem_cons_self
    have hbusy : ∀ b, bitAt (s.startReset a).regs.rstBusy b = (bitAt s.regs.rstBusy b || decide (a = b)) := fun b => by
      rw [State.startReset_starts ha hm]
      exact (bitAt_or _ _ b).trans (by rw [bitAt_two_pow])
    have hrest : ∀ b ∈ l, bitAt (s.startReset a).regs.rstBusy b = false ∧ b ≠ 20 := fun b hb => by
      obtain ⟨hfree, hne⟩ := hfree b (List.mem_cons_of_mem a hb)
      have hab : a ≠ b := fun e => hal (e ▸ hb)
      exact ⟨by simp [hbusy, hfree, hab], hne⟩
    obtain ⟨hdrains, hbits⟩ := ih (s.startReset a) hnodup hrest
    rw [List.foldl_cons]
    refine ⟨hdrains.trans ?_, fun b => (hbits b).trans ?_⟩
    · rw [State.startReset_starts ha hm]
      simp
    · rw [hbusy, List.mem_cons, Bool.or_eq_true, decide_eq_true_eq, or_assoc, eq_comm (a := a)]

theorem swrstBlocks_nodup (v : Nat) : (swrstBlocks v).Nodup := List.nodup_range.filter _

theorem mem_swrstBlocks_ne {v b : Nat} (hv : bitAt v 20 = false) (h : b ∈ swrstBlocks v) : b ≠ 20 := by
  rintro rfl
  unfold swrstBlocks at h
  simp [hv] at h

/-- The four rows of SWRST that start block resets, and that of Mordant, are one write. -/
theorem exec_swrst {src : Fin 16} {v : BitVec 32} {i : Instr} (s : State) (hi : i = .swrstStack src v ∨ i = .swrstLake src v ∨
    i = .swrstXbar src v ∨ i = .swrstMordant src v ∨ i = .swrstTrace src v) : exec i s = s.swrst src.val v.toNat := by
  obtain rfl | rfl | rfl | rfl | rfl := hi <;> rfl

theorem swrst_starts {src : Fin 16} {v : BitVec 32} {i : Instr} {s : State} (hi : i = .swrstStack src v ∨
    i = .swrstLake src v ∨ i = .swrstXbar src v ∨ i = .swrstMordant src v ∨ i = .swrstTrace src v)
    (hp : s.pins.porst = false) (hcore : s.boot.coreReset = false) (hr : (s.ownerSrc src.val || s.debugSrc src.val) = true)
    (hkey : v.toNat / 2 ^ 24 = 0xA5) (hm : bitAt v.toNat 20 = false) (hfree : s.regs.rstBusy = 0) :
    Completes i s fun t => t.boot.drains = s.boot.drains ++ (swrstBlocks v.toNat).map (fun b => (b, s.clk.ticks, false)) ∧
      ∀ b, bitAt t.regs.rstBusy b = true ↔ b ∈ swrstBlocks v.toNat := by
  have hk : fld v.toNat 24 8 = 0xA5 := by simp only [fld, hkey]; decide
  have hexec : exec i s = .next ((swrstBlocks v.toNat).foldl State.startReset s) := by
    rw [exec_swrst s hi]
    unfold State.swrst
    rw [State.regWrite_taken hp (by rw [hr, hk]; decide) (.inl hcore)]
  have hidle : ∀ b, bitAt s.regs.rstBusy b = false := fun b => by rw [hfree, bitAt_zero]
  obtain ⟨hdrains, hbits⟩ := State.startReset_all (swrstBlocks v.toNat) s (swrstBlocks_nodup _)
    fun b hb => ⟨hidle b, mem_swrstBlocks_ne hm hb⟩
  exact ⟨_, hexec, hdrains, fun b => (hbits b).trans (by simp [hidle])⟩

theorem swrst_refused {src : Fin 16} {v : BitVec 32} {i : Instr} {s : State} (hi : i = .swrstStack src v ∨
    i = .swrstLake src v ∨ i = .swrstXbar src v ∨ i = .swrstMordant src v ∨ i = .swrstTrace src v)
    (hp : s.pins.porst = false) (hr : (s.ownerSrc src.val || s.debugSrc src.val) = false) :
    exec i s = .next (s.accErr src.val 0x100 true false) := by
  rw [exec_swrst s hi]
  exact State.regWrite_refused hp (by rw [hr]; rfl)

/-! ## What the end of a drain leaves of the block -/

theorem State.resetStack_drains (s : State) (k : Nat) : (s.resetStack k).boot.drains = s.boot.drains := by
  have hbroken : Kept false false 0x30e0d835a0 s ((s.breakStack k 5).clearLeaves k) :=
    State.clearLeaves_kept (by decide) (State.breakStack_kept (by decide) (.refl s) k 5) k
  unfold State.resetStack
  dsimp only
  revert hbroken
  generalize (s.breakStack k 5).clearLeaves k = u
  intro hbroken
  have hasleep : ∀ (v : State) (c d : Prop) [Decidable c] [Decidable d] (x : State → StackClk),
      Kept false false 0x4400 v (if c then v else if d then (v.sleepAll k).gateOff k
        else ((v.sleepAll k).gateOff k).setSck k (x ((v.sleepAll k).gateOff k))) := fun v c d _ _ x =>
    have hoff : Kept false false 0x4400 v ((v.sleepAll k).gateOff k) :=
      State.gateOff_kept (Nat.or_self _) (State.sleepAll_kept (Nat.or_self _) (.refl v) k) k
    .ite (.refl v) (.ite hoff (State.setSck_kept (by decide) hoff k _))
  have hdrains : u.boot.drains = s.boot.drains := congrArg Boot.drains (hbroken.same .boot)
  exact (congrArg Boot.drains ((hasleep _ _ _ fun w => { w.sck k with waking := true, pll := .locking }).same .boot)).trans
    hdrains

/-- LAKE of a half keeps no tile and no accumulate of it, and the drains go on. -/
structure State.LakeReset (s : State) (h : Nat) (t : State) : Prop where
  drains : t.boot.drains = s.boot.drains
  tiles : ∀ x ∈ t.lake.tiles, halfOf x.2.stack ≠ h
  accus : ∀ x ∈ t.lake.accus, halfOf x.2.stack ≠ h

/-- The tiles and accumulates of a half, discarded. -/
def State.lakeCleared (s : State) (h : Nat) : State :=
  { s with lake := { s.lake with accus := Tab.keep s.lake.accus (fun _ j => halfOf j.stack != h),
                                 tiles := Tab.keep s.lake.tiles (fun _ t => halfOf t.stack != h) } }

theorem Tab.keep_all {α : Type} {t : Tab α} {f : α → Bool} {x : Nat × α} (h : x ∈ Tab.keep t (fun _ a => f a)) :
    f x.2 = true :=
  (List.mem_filter.mp h).2

/-- What changes neither the drains nor the tiles and accumulates that are left keeps a reset LAKE. -/
theorem State.lakeCleared_reset {s u v : State} {w d : Nat} (h : Nat) (hu : Kept false false w s u)
    (hv : Kept false false d (u.lakeCleared h) v) (left : List (Nat × Nat × Nat))
    (hw : w.testBit Field.boot.bit = false := by decide) (hb : d.testBit Field.boot.bit = false := by decide)
    (hl : d.testBit Field.lake.bit = false := by decide) :
    s.LakeReset h { v with boot := { v.boot with writeLeft := left } } := by
  have hlake : v.lake = (u.lakeCleared h).lake := hv.same .lake hl
  refine ⟨?drains, fun x hx => ?tiles, fun x hx => ?accus⟩
  case drains =>
    have hu : u.boot.drains = s.boot.drains := congrArg Boot.drains (hu.same .boot hw)
    have hv : v.boot.drains = u.boot.drains := congrArg Boot.drains (hv.same .boot hb)
    exact hv.trans hu
  case tiles =>
    have hkept : x ∈ (u.lakeCleared h).lake.tiles := hlake ▸ hx
    simpa using Tab.keep_all (f := fun t : Tile => halfOf t.stack != h) hkept
  case accus =>
    have hkept : x ∈ (u.lakeCleared h).lake.accus := hlake ▸ hx
    simpa using Tab.keep_all (f := fun j : AccuJob => halfOf j.stack != h) hkept

theorem State.resetLake_resets (s : State) (h resp : Nat) (bridge : Bool) : s.LakeReset h (s.resetLake h resp bridge) := by
  have hreqs : Kept false false 0x30e0d821a0 s (s.reqs.foldl (fun s (id, r) => if (halfOf r.stack == h || (bridge &&
      portHalf r.port == h && halfOf r.stack != h)) && r.phase != .dataOpen then s.breakReq id r resp else s) s) :=
    Kept.foldl (fun _ x hk => .ite (State.breakReq_kept (Nat.or_self _) hk x.1 x.2 resp) hk) _ s (.refl s)
  have hgathers : ∀ u : State, Kept false false 0x30e0d821a0 s u → Kept false false 0x30e0d821a0 s
      (u.lake.gathers.foldl (fun s (key, _) => if halfOf (key / 8) = h then s.breakGather key else s) u) := fun u hu =>
    Kept.foldl (fun _ x hk => .ite (State.breakGather_kept (by decide) hk x.1) hk) _ u hu
  have hfeeds : ∀ u : State, Kept false false 0x882180 u ((List.range 8).foldl (fun s f =>
      if portHalf (128 + f) = h && (s.feeder f).stream.isSome then s.breakFeed f else s) u) := fun u =>
    Kept.foldl (fun _ f hk => .ite (State.breakFeed_kept (Nat.or_self _) hk f) hk) _ u (.refl u)
  unfold State.resetLake
  dsimp only
  revert hreqs
  generalize List.foldl _ s s.reqs = r
  intro hreqs
  have hended := hgathers r hreqs
  revert hended
  generalize List.foldl _ r r.lake.gathers = u
  intro hended
  exact State.lakeCleared_reset h hended (hfeeds _) _

/-! ## The end of a drain -/

/-- A block whose drain has ended. -/
def State.drainEnded (s : State) (b : Nat) : State :=
  { s with boot := { s.boot with drains := s.boot.drains.map (fun (x, t, e) => (x, t, e || x == b)) } }

/-- A scan of a domain in the block ends (R549). -/
def State.scanEnded (s : State) (b : Nat) : State := if s.scanIn b then s.scanAbort 5 else s

theorem State.scanEnded_boot (s : State) (b : Nat) : (s.scanEnded b).boot = s.boot := by
  have h : Kept false false 0x40000000 s (s.scanEnded b) :=
    .ite (State.scanAbort_kept (Nat.or_self _) (.refl s) 5) (.refl s)
  exact h.same .boot

/-- What is left in a block at the end of its drain ends by its kind (Table 16.3). -/
def State.blockReset (s : State) (b : Nat) : State :=
  if b < 16 then s.resetStack b
  else if b < 18 then s.resetLake (b % 2) 5 false
  else if b < 20 then s.resetLake (b % 2) 4 true
  else s.loseRecs 2

theorem State.blockReset_drains (s : State) (b : Nat) : (s.blockReset b).boot.drains = s.boot.drains := by
  unfold State.blockReset
  split
  · exact s.resetStack_drains b
  split
  · exact (s.resetLake_resets _ _ _).drains
  split
  · exact (s.resetLake_resets _ _ _).drains
  · exact congrArg Boot.drains ((State.loseRecs_kept (Nat.or_self _) (.refl s) 2).same .boot)

theorem State.blockReset_lake (s : State) {b : Nat} (hlow : 16 ≤ b) (hhigh : b < 20) :
    s.LakeReset (b % 2) (s.blockReset b) := by
  unfold State.blockReset
  rw [if_neg (by omega)]
  by_cases hlake : b < 18
  · rw [if_pos hlake]
    exact s.resetLake_resets _ _ _
  · rw [if_neg hlake, if_pos hhigh]
    exact s.resetLake_resets _ _ _

/-- The drain of a block ends once it is empty, or after 20 us. -/
theorem blockResetDrainEnd_ends {b : Fin 22} {s : State} {t0 : Nat}
    (hd : s.boot.drains.find? (fun (x, _, e) => x == b.val && !e) = some (b.val, t0, false))
    (hstill : b.val < 16 → (s.sck b.val).phase = .none)
    (hover : s.blockDrained b.val = true ∨ t0 + us 20 ≤ s.clk.ticks) :
    exec (.blockResetDrainEnd b) s = .next (((s.drainEnded b.val).scanEnded b.val).blockReset b.val) := by
  have hmoving : (decide (b.val < 16) && decide ((s.sck b.val).phase ≠ .none)) = false := by
    simpa using hstill
  show execBlockResetDrainEnd b s = _
  unfold execBlockResetDrainEnd
  rw [hd]
  dsimp only
  rw [hmoving]
  exact if_neg (by obtain h | h := hover <;> simp [h])

theorem blockResetDrainEnd_resets {b : Fin 22} {s : State} {t0 : Nat}
    (hd : s.boot.drains.find? (fun (x, _, e) => x == b.val && !e) = some (b.val, t0, false))
    (hstill : b.val < 16 → (s.sck b.val).phase = .none)
    (hover : s.blockDrained b.val = true ∨ t0 + us 20 ≤ s.clk.ticks) :
    Completes (.blockResetDrainEnd b) s fun t =>
      t.boot.drains = s.boot.drains.map (fun (x, t, e) => (x, t, e || x == b.val)) ∧
      (16 ≤ b.val → b.val < 20 → (∀ x ∈ t.lake.tiles, halfOf x.2.stack ≠ b.val % 2) ∧
        ∀ x ∈ t.lake.accus, halfOf x.2.stack ≠ b.val % 2) := by
  refine ⟨_, blockResetDrainEnd_ends hd hstill hover, ?_, fun hlow hhigh => ?_⟩
  · rw [State.blockReset_drains, State.scanEnded_boot]
    rfl
  · have h := ((s.drainEnded b.val).scanEnded b.val).blockReset_lake hlow hhigh
    exact ⟨h.tiles, h.accus⟩

/-! ## The return to service -/

/-- Staining the listed writes leaves the drains and the registers. -/
theorem State.stainLeft_drains (s : State) (ks : List Nat) : (s.stainLeft ks).boot.drains = s.boot.drains := by
  have hstained : ∀ mine : List (Nat × Nat × Nat), Kept false false 0x3060000000 s
      (((mine.map (fun x => x.1)).dedup).foldl (fun s l =>
        s.note 0x11 2 l [(2, ((mine.filter (fun x => x.1 == l)).map (fun x => x.2.2)).sum)])
        (mine.foldl (fun s (l, la, nb) => s.stainRun l la nb) s)) := fun mine =>
    Kept.foldl (fun _ _ h => State.note_kept (by decide) h _ _ _ _) _ _
      (Kept.foldl (fun _ x h => State.stainRun_kept (by decide) h x.1 x.2.1 x.2.2) mine s (.refl s))
  have hdrains := fun mine => congrArg Boot.drains ((hstained mine).same .boot)
  unfold State.stainLeft
  exact hdrains _

theorem State.stainLeft_regs (s : State) (ks : List Nat) : (s.stainLeft ks).regs = s.regs :=
  (State.stainLeft_kept (Nat.or_self _) (.refl s) ks).same .regs

/-- A block out of reset. -/
def State.blockBack (s : State) (b : Nat) : State :=
  { s with boot := { s.boot with drains := s.boot.drains.filter (fun (x, _, _) => x != b) },
           regs := { s.regs with rstBusy := s.regs.rstBusy &&& (0xFFFFFFFF - 2 ^ b) } }

/-- What waited for a block goes on. -/
def State.resumed (s : State) (b : Nat) : State :=
  (blockStacks b).foldl State.rewake (if b < 16 then (s.tilesAsk b).zeroAsk b else s.askAccu)

theorem State.resumed_kept (s : State) (b : Nat) : Kept false false 0x457600 s (s.resumed b) :=
  Kept.foldl (fun _ k h => State.rewake_kept (by decide) h k) _ _
    (.ite (State.zeroAsk_kept (by decide) (State.tilesAsk_kept (by decide) (.refl s) b) b)
      (State.askAccu_kept (Nat.or_self _) (.refl s)))

theorem blockReturnToService_resumes {b : Fin 22} {s : State} {t0 : Nat} (hb : b.val ≠ 20)
    (hd : s.boot.drains.find? (fun (x, _, e) => x == b.val && e) = some (b.val, t0, true)) (hover : t0 + 128 ≤ s.clk.ticks)
    (hback : b.val < 16 → s.stackBack b.val = true) :
    exec (.blockReturnToService b) s = .next (((s.stainLeft (blockStacks b.val)).blockBack b.val).resumed b.val) := by
  show execBlockReturnToService b s = _
  unfold execBlockReturnToService
  rw [if_neg hb, hd]
  dsimp only
  exact if_neg (by simpa [hover] using hback)

theorem blockReturnToService_returns {b : Fin 22} {s : State} {t0 : Nat} (hb : b.val ≠ 20)
    (hd : s.boot.drains.find? (fun (x, _, e) => x == b.val && e) = some (b.val, t0, true)) (hover : t0 + 128 ≤ s.clk.ticks)
    (hback : b.val < 16 → s.stackBack b.val = true) :
    Completes (.blockReturnToService b) s fun t => t.boot.drains = s.boot.drains.filter (fun (x, _, _) => x != b.val) ∧
      t.regs.rstBusy = s.regs.rstBusy &&& (0xFFFFFFFF - 2 ^ b.val) := by
  refine ⟨_, blockReturnToService_resumes hb hd hover hback, ?_⟩
  have hk := State.resumed_kept ((s.stainLeft (blockStacks b.val)).blockBack b.val) b.val
  dsimp only
  rw [show State.boot _ = _ from hk.same .boot, show State.regs _ = _ from hk.same .regs]
  unfold State.blockBack
  rw [State.stainLeft_drains, State.stainLeft_regs]
  exact ⟨rfl, rfl⟩

/-- A ticket that ends leaves Mordant in or out of reset, and the registers. -/
theorem State.finish_mordant (s : State) (tk st : Nat) (result : List Nat) (bulk : Option (List Nat)) :
    (s.finish tk st result bulk).boot.mordantRst = s.boot.mordantRst ∧ (s.finish tk st result bulk).regs = s.regs := by
  refine ⟨?_, (State.finish_kept (Nat.or_self _) (.refl s) tk st result bulk).same .regs⟩
  cases h : Tab.find? s.tickets tk with
  | none => rw [show s.finish tk st result bulk = s by unfold State.finish; rw [h]]
  | some t =>
    rw [State.finish_some h]
    have hclaim : (s.finishing tk t).boot.mordantRst = s.boot.mordantRst := by
      unfold State.finishing State.claimEnds
      split <;> rfl
    refine (congrArg Boot.mordantRst (Kept.same (w := 0x3000000) ?_ .boot)).trans hclaim
    exact State.queueService_kept (by decide) (State.setPage_kept (by decide)
      (State.complete_kept (by decide) (.refl _) _ _ _ _ _ _) _ _) _

/-- The firmware that runs again after a Mordant reset. -/
def State.mordantServes (s : State) : State :=
  { s with boot := { s.boot with mordantRst := false },
           regs := { s.regs with rstBusy := s.regs.rstBusy &&& (0xFFFFFFFF - 2 ^ 20) } }

/-- Every taken command without its final completion, completed (R458, R509). -/
def State.ticketsEnded (s : State) (code hand : Nat) : State :=
  s.tickets.foldl (fun s (tk, _) => s.finish tk (if code = 7 && tk = hand then stHwFault else stRetryFw) noArg none) s

theorem State.ticketsEnded_mordant (s : State) (code hand : Nat) :
    (s.ticketsEnded code hand).boot.mordantRst = s.boot.mordantRst ∧ (s.ticketsEnded code hand).regs = s.regs := by
  unfold State.ticketsEnded
  refine List.foldlRecOn (motive := fun u : State => u.boot.mordantRst = s.boot.mordantRst ∧ u.regs = s.regs) _ _ ⟨rfl, rfl⟩ ?_
  intro u ⟨hrst, hregs⟩ x _
  obtain ⟨hrst', hregs'⟩ := u.finish_mordant x.1 (if code = 7 && x.1 = hand then stHwFault else stRetryFw) noArg none
  exact ⟨hrst'.trans hrst, hregs'.trans hregs⟩

/-- No hand-over waits for its final completion. -/
def State.handEnded (s : State) : State := { s with boot := { s.boot with handTicket := 0 } }

/-- What a Mordant that is back leaves of the state the boot ROM left. -/
structure State.MordantBack (u t : State) : Prop where
  mordantRst : t.boot.mordantRst = false
  handTicket : t.boot.handTicket = 0
  rstBusy : t.regs.rstBusy = u.regs.rstBusy &&& (0xFFFFFFFF - 2 ^ 20)

theorem State.mordantServes_back (u : State) (code hand : Nat) :
    u.MordantBack (u.mordantServes.ticketsEnded code hand).handEnded := by
  obtain ⟨hrst, hregs⟩ := u.mordantServes.ticketsEnded_mordant code hand
  exact ⟨hrst, rfl, congrArg Regs.rstBusy hregs⟩

theorem State.MordantBack.of_kept {w : Nat} {u v t : State} (h : u.MordantBack v) (hk : Kept false false w v t)
    (hb : w.testBit Field.boot.bit = false := by decide) (hr : w.testBit Field.regs.bit = false := by decide) :
    u.MordantBack t :=
  ⟨(congrArg Boot.mordantRst (hk.same .boot hb)).trans h.mordantRst,
    (congrArg Boot.handTicket (hk.same .boot hb)).trans h.handTicket,
    (congrArg Regs.rstBusy (hk.same .regs hr)).trans h.rstBusy⟩

theorem State.mordantBack_back {s : State} {code : Nat} (h : (s.bootRom code).boot.firmware = true) :
    (s.bootRom code).MordantBack (s.mordantBack code) := by
  have hserved : ∀ u : State, Kept false false 0x2000000 u ((List.range 521).foldl State.queueService u) := fun u =>
    Kept.foldl (fun _ p hk => State.queueService_kept (Nat.or_self _) hk p) _ u (.refl u)
  unfold State.mordantBack
  dsimp only
  rw [if_neg (by simp [h])]
  generalize s.bootRom code = u
  exact (u.mordantServes_back code u.boot.handTicket).of_kept (hserved _)

theorem blockReturnToService_mordant {b : Fin 22} {s : State} (hb : b.val = 20) (hbusy : bitAt s.regs.rstBusy 20 = true)
    (hover : s.boot.mrstAt + 128 ≤ s.clk.ticks) :
    exec (.blockReturnToService b) s = .next (s.mordantBack (fld (Tab.num s.boot.bkp 0) 8 4)) := by
  show execBlockReturnToService b s = _
  unfold execBlockReturnToService
  rw [if_pos hb, if_pos (by simp [hbusy, hover])]

/-- Settles O44. -/
theorem blockResetsComplete : Obligations.BlockResetsComplete := by
  unfold Obligations.BlockResetsComplete
  refine ⟨?starts, ?refused, ?drained, ?returned, ?mordant⟩
  case starts =>
    intro src v i s hi hp hcore hr hkey hm hfree
    refine swrst_starts ?_ hp hcore hr hkey hm hfree
    obtain h | h | h | h := hi <;> simp [h]
  case refused =>
    intro src v i s hi hp hr
    exact swrst_refused hi hp hr
  case drained =>
    intro b s t0 hd hstill hover
    exact blockResetDrainEnd_resets hd hstill hover
  case returned =>
    intro b s t0 hb hd hover hback
    exact blockReturnToService_returns hb hd hover hback
  case mordant =>
    intro b s u hb hbusy hover hu hup
    subst hu
    have h := State.mordantBack_back hup
    exact ⟨_, blockReturnToService_mordant hb hbusy hover, h.mordantRst, h.handTicket, h.rstBusy⟩

end Sys2Proof.Machine
